-- ==== Sys2Proof/Word.lean ====
section
/-! DEFINITION. The byte, the fixed-width words and the sparse tables that every other file uses. -/

namespace Sys2Proof

/-- One byte of a buffer, a frame or a key. -/
abbrev Byte := BitVec 8

/-- Nanoseconds in one microsecond, one millisecond and one second: device time is kept in ns. -/
abbrev usNs : Nat := 1000
abbrev msNs : Nat := 1000000
abbrev secNs : Nat := 1000000000

/-- One frame is 125 µs (R48). -/
abbrev frameNs : Nat := 125000

end Sys2Proof
end

