-- ==== Sys2Proof/Config.lean ====
section
/-! DEFINITION. What the spec leaves to the silicon or names only by another standard: opaque constants with no body. -/

namespace Sys2Proof.Config

/-- A fresh value where the spec states none; the argument is the free-value counter of the state.
Log: 2 DESIGN CHOICE. -/
opaque freeValue : Nat → Int

/-- HMAC-SHA-512 (RFC 2104) of key and message, 64 bytes as a number with byte 0 least significant.
Log: 13 DESIGN CHOICE, 157 DESIGN CHOICE. -/
opaque hmacSha512 : Nat → List Nat → Nat

/-- SHA-512 of a byte string. -/
opaque sha512 : List Nat → Nat

/-- RSASSA-PSS verification with SHA-512: public key, message, signature.
Log: 13 DESIGN CHOICE. -/
opaque pssVerify : Nat → List Nat → Nat → Bool

/-- The pair key of the secured session of a pairing at a device time (R315): the session's secrets are not operands.
Log: 114 DEDUCED. -/
opaque pairKey : Nat → Nat

/-- A bit of a Crocus signal (Table 15-13) that State does not hold as a level: signal code, bit, scope (port, channel, pipeline,
memory channel) and device time.
Log: 136 DESIGN CHOICE. -/
opaque crocusLevel : Nat → Nat → List Nat → Nat → Bool

/-- RSASSA-PSS signature of a message under the device's identity key number. -/
opaque pssSign : Nat → List Nat → Nat

/-- Unwrapping of a Key_Report under a key-encryption key; none when its integrity check fails (R167, R168). -/
opaque unwrapKey : Nat → List Nat → Option Nat

/-- Keys that the channel's standard derives from a master session key: key-encryption, PLOAM and OMCI integrity (R167). -/
opaque kekOf : Nat → Nat
opaque ploamKeyOf : Nat → Nat
opaque omciKeyOf : Nat → Nat

/-- The master session key that the standard derives from a REG_ID in its default manner (R167). -/
opaque mskOf : Nat → Nat

/-- The standard's default key for broadcast PLOAMs (R170). -/
opaque broadcastKey : Nat

/-- Integrity codes of a PLOAM and of an OMCI message under a key. -/
opaque ploamMic : Nat → List Nat → Nat
opaque omciMic : Nat → List Nat → Nat

/-- AES-128-CTR of a payload under a key and counter block, the payload as a number most significant byte first.
Log: 13 DESIGN CHOICE. -/
opaque aesCtr : Nat → Nat → Nat → Nat

/-- Counter block of a channel's frame at a position, as the channel's standard forms it (R164). -/
opaque counterBlock : Nat → Nat → Nat → Nat

/-- PON-ID of a channel, by port and channel (R158): the spec names it and gives it no object.
Log: 13 DESIGN CHOICE. -/
opaque ponId : Nat → Nat → Nat

/-- The 24-byte synchronisation block (R158): channel, superframe counter and PON-ID.
Log: 13 DESIGN CHOICE. -/
opaque syncBlock : Nat → Nat → Nat → List Nat

/-- The 4-byte framing header of a channel's frame (R159): map length in bytes and PLOAM count.
Log: 13 DESIGN CHOICE. -/
opaque frameHeader : Nat → Nat → Nat → List Nat

/-- The 8 bytes of an allocation structure or window (R159): channel, the seven fields of R122, and for a window when the delimiter of an
ONU of RTD 0 and EqD 0 comes, ps after the frame's start.
Log: 13 DESIGN CHOICE. -/
opaque mapBytes : Nat → List Nat → Int → List Nat

/-- The 48 bytes of a downstream PLOAM (R159): ONU-ID, type, argument and integrity code.
Log: 13 DESIGN CHOICE. -/
opaque ploamBytes : Nat → Nat → Int → Nat → List Nat

/-- Parity bytes of a downstream codeword's data (Table 6-1), and the scrambling of a channel's frame by superframe counter (R158).
Log: 13 DESIGN CHOICE. -/
opaque fecParity : Nat → List Nat → List Nat
opaque scramble : Nat → Nat → List Nat → List Nat

/-- The payload bytes of a control frame whose field sizes the spec does not give (Tables 12-3, 12-4, R320), most significant byte first:
TYPE, SUBTYPE and the fields.
Log: 13 DESIGN CHOICE. -/
opaque twinPayload : Nat → Nat → List Int → List Nat

/-- AES-256-GCM of a key under the pair key, and its opposite, none when the tag is wrong (R318).
Log: 13 DESIGN CHOICE. -/
opaque wrapPeer : Nat → Nat → Nat
opaque unwrapPeer : Nat → Nat → Option Nat

/-- HEC of an XGEM header (R161).
Log: 13 DESIGN CHOICE. -/
opaque xgemHec : Nat → Nat

/-- Code and arguments of the event record that brings a last-holder notice, by last owner and buffer (R237): the spec gives neither.
Log: 71 DESIGN CHOICE. -/
opaque holderEvent : Nat → Nat → Nat × List (Nat × Int)

/-- Tokens of a shaper before its first use, by shaper: the spec states no initial level (R249).
Log: 74 DESIGN CHOICE. -/
opaque shaperInit : Nat → Int

/-- Unit of Ranging_Time in ps on each channel, which the channel's own standard defines (R78).
Log: 13 DESIGN CHOICE. -/
opaque eqdUnitPs : Nat → Nat

/-- Nominal Cm of an ODU4 in ODTUC4.20, in 1/65,536 word (R278).
Log: 13 DESIGN CHOICE. -/
opaque cmNom : Nat

/-- Cm that the transmitter of a GMP layer (0 OPU4, 1 ODTUC4.20) computes from the fill of the client buffer, and the bytes JC1–JC3 that
carry it with their CRC-8 (R278).
Log: 13 DESIGN CHOICE. -/
opaque gmpCm : Nat → Nat → Nat
opaque gmpBytes : Nat → Nat → List Nat

/-- The client MAC of a member is enabled (R277): the spec names no object that enables it.
Log: 90 DEDUCED. -/
opaque macEnabled : Nat → Bool

/-- The servo's frequency in ppb, and the frequency that it adds to slew, before the limit of SLEW_MAX_PPB: BW_MHZ, offset in ps, and a count
of updates (R289, R295). The spec names a proportional-integral loop and not its gains.
Log: 96 DESIGN CHOICE. -/
opaque servoFreq : Nat → Int → Nat → Int
/--
Log: 96 DESIGN CHOICE. -/
opaque servoSlew : Nat → Int → Nat → Int

/-- PTP clock identity of the device and port identity of each PTP port (R292): the spec does not give them. -/
opaque clockIdentity : Nat
opaque portIdentity : Nat → Nat

/-- The device's serial number, fused at test (Table 12-11), byte 0 least significant.
Log: 13 DESIGN CHOICE. -/
opaque serialNumber : Nat

/-- The part is a GZ6450-XC, not a GZ6450-XE (R467): the ordering code is fused.
Log: 13 DESIGN CHOICE. -/
opaque gradeXc : Bool

/-- VDD_CORE setting in mV, fused per part (R457); MGMT_MAC, fused at test. -/
opaque coreVidMv : Nat
opaque mgmtMac : Nat

/-- RSA-4096 public keys: the Volold firmware key and debug key, whose SHA-512 values are fused (R413, R423), and the device's own
identity key (R417). Byte 0 is least significant, as in every octet string held as a number. -/
opaque firmwareKey : Nat
opaque debugKey : Nat
opaque identityKey : Nat

/-- The certificate chain of SPDM slot 0 (R417), and the bytes of the ROM (Table 15-9). -/
opaque certChain : List Nat
opaque romImage : List Nat

/-- The body of an SPDM response that DSP0274 lays out: response code, version-independent arguments (R418).
Log: 135 PRESUMED. -/
opaque spdmBody : Nat → List Nat → Nat

/-- The Rolxo description file of a firmware version, and the number of subindices that it describes (R397).
Log: 13 DESIGN CHOICE. -/
opaque rdxFile : Nat → List Nat
opaque objectCount : Nat → Nat

/-- The response time of an ONU in ps, which the standards of the channel give (R71, R75).
Log: 13 DESIGN CHOICE. -/
opaque responsePs : Nat

/-- The place of an item of a deep-memory region among the region's channels: region and item (R407).
Log: 163 DESIGN CHOICE. -/
opaque ddrChannel : Nat → Nat → Nat

/-- Bytes of the protected arrays 3 to 9, which Table 16-1 does not give.
Log: 146 DESIGN CHOICE. -/
opaque arraySize : Nat → Nat

/-- The records of a GZ3216 snapshot, in the format of its own manual (R340): [0, port, ONU-ID, serial, REG_ID, EQD_PS],
[1, port, ONU-ID, Alloc-ID, CLASS, FIXED, ASSURED, MAX, PRIORITY, WEIGHT] or [2, port, ONU-ID, XGEM-ID, DIRECTION, ENCRYPT].
Log: 112 DESIGN CHOICE. -/
opaque legacySnapshot : List Nat → List (List Nat)

end Sys2Proof.Config
end

