-- ==== Sys2Proof/Machine/Tab.lean ====
section
/-! DEFINITION. Sparse tables: a list of key and value pairs, sorted by key, with one default for absent keys. -/

namespace Sys2Proof.Machine

/-- A sparse table by a numeric key. -/
abbrev Tab (α : Type) := List (Nat × α)

namespace Tab
variable {α : Type}

/-- The entry of key `k`, if one is listed. -/
def find? : Tab α → Nat → Option α
  | [], _ => none
  | (k', a) :: t, k => if k' = k then some a else find? t k

/-- `t` with key `k` holding `a`; a sorted table stays sorted. -/
def ins : Tab α → Nat → α → Tab α
  | [], k, a => [(k, a)]
  | (k', b) :: t, k, a =>
    if k' = k then (k, a) :: t
    else if k < k' then (k, a) :: (k', b) :: t
    else (k', b) :: ins t k a

/-- `t` without key `k`. -/
def del (t : Tab α) (k : Nat) : Tab α := List.filter (fun e => e.1 != k) t

/-- The keys are strictly rising. -/
def sorted : Tab α → Bool
  | [] => true
  | [_] => true
  | (k, _) :: (k', b) :: t => decide (k < k') && sorted ((k', b) :: t)

end Tab

/-- The entry of key `k`, or `d` when none is listed. -/
def Tab.getD {α : Type} (t : Tab α) (k : Nat) (d : α) : α := (Tab.find? t k).getD d

/-- `t` with the entry of `k` changed by `f`, starting from `d` when none is listed. -/
def Tab.upd {α : Type} (t : Tab α) (k : Nat) (d : α) (f : α → α) : Tab α :=
  Tab.ins t k (f (Tab.getD t k d))

/-- The first key that satisfies `p`. -/
def Tab.findKey? {α : Type} (t : Tab α) (p : Nat → α → Bool) : Option Nat :=
  (List.find? (fun e => p e.1 e.2) t).map (fun e => e.1)

/-- The entries that satisfy `p`, in key order. -/
def Tab.select {α : Type} (t : Tab α) (p : Nat → α → Bool) : Tab α :=
  List.filter (fun e => p e.1 e.2) t

end Sys2Proof.Machine
end

