-- ==== Sys2Proof/Machine/Obj.lean ====
section
/-! DEFINITION. Object descriptors (type, access class, default, range) and the store that holds every object's value. -/

namespace Sys2Proof.Machine

/-- The types of Table 14-1. -/
inductive Ty where
  | bool | u8 | u16 | u32 | u64 | s8 | s16 | s32 | s64 | fix | time96 | ts112
  | octets (n : Nat) | text (n : Nat)
  deriving DecidableEq, Repr

/-- The type code of Table 14-1. -/
def Ty.code : Ty → Nat
  | .bool => 0x01 | .u8 => 0x02 | .u16 => 0x03 | .u32 => 0x04 | .u64 => 0x05
  | .s16 => 0x06 | .s32 => 0x07 | .s64 => 0x08 | .fix => 0x09
  | .octets _ => 0x0A | .text _ => 0x0B | .time96 => 0x0C | .ts112 => 0x0D | .s8 => 0x0E

/-- The size in bytes of Table 14-1. -/
def Ty.size : Ty → Nat
  | .bool | .u8 | .s8 => 1
  | .u16 | .s16 => 2
  | .u32 | .s32 | .fix => 4
  | .u64 | .s64 => 8
  | .time96 => 12
  | .ts112 => 14
  | .octets n | .text n => n

/-- The two's-complement types of Table 14-1. -/
def Ty.signed : Ty → Bool
  | .s8 | .s16 | .s32 | .s64 | .fix => true
  | _ => false

/-- `v` reduced to the width of the type. TIME96 is held as a count of nanoseconds, so it wraps at 2^64 seconds.
Log: 1 DESIGN CHOICE. -/
def Ty.norm (t : Ty) (v : Int) : Int :=
  match t with
  | .time96 => v % (2 ^ 64 * 1000000000)
  | t =>
    if t.signed then
      let m : Int := 2 ^ (8 * t.size)
      (v + m / 2) % m - m / 2
    else v % (2 ^ (8 * t.size))

/-- The greatest value of the type. -/
def Ty.max (t : Ty) : Int :=
  match t with
  | .time96 => 2 ^ 64 * 1000000000 - 1
  | t => if t.signed then 2 ^ (8 * t.size - 1) - 1 else 2 ^ (8 * t.size) - 1

/-- The access classes of Table 14-2. -/
inductive Acc where
  | const | ro | wo | rw | rwk | rws
  deriving DecidableEq, Repr

/-- The class code of Table 14-2. -/
def Acc.code : Acc → Nat
  | .const => 0 | .ro => 1 | .wo => 2 | .rw => 3 | .rwk => 4 | .rws => 5

/-- How a counter ends: R16 tells wrapping counters from saturating ones. -/
inductive Cnt where
  | none | wrap | sat
  deriving DecidableEq, Repr

/-- The default of an object: one value, or a rule of the object's own table. -/
inductive Dflt where
  | c (v : Int)
  /-- Record number div `n` (ONU PORT, Table 3-8). -/
  | recDiv (n : Nat)
  /-- Record number mod `n` (VID-to-FID map, Table 8-11). -/
  | recMod (n : Nat)
  /-- Table 13-18: MB00–MB07 report 0x020, MB08 0x011, others 0x010 + (m mod 8). -/
  | mbxReceiver
  /-- Table 9-15: PON nodes 8, uplink and twin nodes 24, host nodes 0. -/
  | nodeOvh
  /-- Table 16-1. -/
  | memCode
  /-- Table 16-2. -/
  | lapLimit
  /-- Table 9-1. -/
  | poolSize | poolCount | poolSpill
  /-- Table 15-14: 0xFFFF_FFFF for region 0, otherwise 0. -/
  | ddrSize
  /-- Table 17-11, by the fused ordering code. -/
  | tjWarn
  deriving DecidableEq, Repr

/-- One subindex of the dictionary. Instance `i`, `j` of it stands at index `index + pi * i + pj * j`
and subindex `sub + ps * j`; `nr` is the number of records of a table and 0 for an object that is no table.
Log: 1 DESIGN CHOICE. -/
structure Obj where
  index : Nat
  pi : Nat
  ni : Nat
  pj : Nat
  nj : Nat
  sub : Nat
  ps : Nat
  nr : Nat
  ty : Ty
  acc : Acc
  dflt : Dflt
  rng : List (Int × Int)
  cnt : Cnt
  mand : Bool
  deriving DecidableEq, Repr

/-- A descriptor from its table row. -/
def Obj.row (index pi ni pj nj sub ps nr : Nat) (ty : Ty) (acc : Acc) (dflt : Dflt)
    (rng : List (Int × Int)) (cnt : Cnt) (mand : Bool) : Obj :=
  { index := index, pi := pi, ni := ni, pj := pj, nj := nj, sub := sub, ps := ps, nr := nr,
    ty := ty, acc := acc, dflt := dflt, rng := rng, cnt := cnt, mand := mand }

/-- The address of one value: index, subindex and record number (R370); record 0 for an object that is no table. -/
structure Addr where
  index : Nat
  sub : Nat
  recNo : Nat
  deriving DecidableEq, Repr

/-- The order of the store: index, then record, then subindex. -/
def Addr.lt (a b : Addr) : Bool :=
  if a.index = b.index then
    if a.recNo = b.recNo then decide (a.sub < b.sub) else decide (a.recNo < b.recNo)
  else decide (a.index < b.index)

/-- The address of instance `i`, `j`, record `r` of an object. -/
def Obj.addr (o : Obj) (i j r : Nat) : Addr :=
  { index := o.index + o.pi * i + o.pj * j, sub := o.sub + o.ps * j, recNo := r }

/-- Pool sizes, default counts and default spill-up of Table 9-1, pools 0–7 then D0–D2. -/
def poolSizeTab : List Nat := [128, 256, 512, 1024, 2048, 4096, 8192, 16384, 512, 2048, 16384]
def poolCountTab : List Nat := [131072, 65536, 32768, 16384, 16384, 8192, 4096, 1792, 0, 0, 0]
def poolSpillTab : List Nat := [0, 1, 1, 1, 1, 1, 1, 1, 0, 1, 1]

/-- The default of OVH_BYTES by the node's line (Table 9-15): downstream nodes of a channel 8, of the twin link 24,
of the host 0; upstream 24 but for the host's line. -/
def nodeOvhDefault (dir n : Nat) : Int :=
  if dir = 0 then (if n = 128 then 24 else if n = 129 then 0 else 8)
  else if n = 33 then 0 else 24

/-- The default value of instance `i`, `j`, record `r`. -/
def Obj.default (o : Obj) (i _j r : Nat) : Int :=
  match o.dflt with
  | .c v => v
  | .recDiv n => (r / n : Nat)
  | .recMod n => (r % n : Nat)
  | .mbxReceiver => if i < 8 then 0x020 else if i = 8 then 0x011 else (0x010 + i % 8 : Nat)
  | .nodeOvh => nodeOvhDefault i r
  | .memCode => if i = 2 ∨ i = 7 ∨ i = 8 then 1 else if 11 ≤ i then 2 else 0
  | .lapLimit => if 11 ≤ i then 86400 else 10
  | .poolSize => (poolSizeTab.getD i 0 : Nat)
  | .poolCount => (poolCountTab.getD i 0 : Nat)
  | .poolSpill => (poolSpillTab.getD i 0 : Nat)
  | .ddrSize => if i = 0 then 0xFFFFFFFF else 0
  | .tjWarn => if Config.gradeXc then 100 else 105

/-- The values of every object that differ from their defaults, sorted by address. -/
abbrev Store := List (Addr × Int)

/-- The value listed at `a`. -/
def Store.find? : Store → Addr → Option Int
  | [], _ => none
  | (b, v) :: t, a => if b = a then some v else Store.find? t a

/-- `m` with `v` listed at `a`. -/
def Store.ins : Store → Addr → Int → Store
  | [], a, v => [(a, v)]
  | (b, w) :: t, a, v =>
    if b = a then (a, v) :: t
    else if a.lt b then (a, v) :: (b, w) :: t
    else (b, w) :: Store.ins t a v

/-- `m` with nothing listed at `a`. -/
def Store.del : Store → Addr → Store
  | [], _ => []
  | (b, w) :: t, a => if b = a then Store.del t a else (b, w) :: Store.del t a

/-- The store is strictly sorted by address. -/
def Store.sorted : Store → Bool
  | [] => true
  | [_] => true
  | (a, _) :: (b, w) :: t => a.lt b && Store.sorted ((b, w) :: t)

/-- The value of an object: what is listed, or its default.
Log: 1 DESIGN CHOICE. -/
def Store.get (m : Store) (o : Obj) (i j r : Nat) : Int :=
  (m.find? (o.addr i j r)).getD (o.default i j r)

/-- The store after a value is given to an object: reduced to its type, and unlisted when it is the default.
Log: 1 DESIGN CHOICE. -/
def Store.put (m : Store) (o : Obj) (i j r : Nat) (v : Int) : Store :=
  if o.ty.norm v = o.default i j r then m.del (o.addr i j r)
  else m.ins (o.addr i j r) (o.ty.norm v)

end Sys2Proof.Machine
end

