-- ==== Sys2Proof/Machine/TypesA.lean ====
section
/-! DEFINITION. The internal state of chapters 2 to 5 that no dictionary object holds: channels, bursts, activation, maps, loops and sideband. -/

namespace Sys2Proof.Machine

/-- A burst notice (R54). Times are picoseconds of device time. -/
structure Notice where
  onu : Nat := 0
  /-- RATE encoding of Table 2-6. -/
  rate : Nat := 0
  /-- Burst start t. -/
  start : Nat := 0
  /-- Burst end, from the granted length. -/
  stop : Nat := 0
  cold : Bool := true
  /-- Quiet-window flag; a ranging window is received as a quiet window (R76). -/
  quiet : Bool := false
  deriving DecidableEq, Repr

/-- How a burst was recorded (R59). -/
inductive BurstOutcome where
  | pending | received | lostDark | lostNoLock
  deriving DecidableEq, Repr

/-- The header check of a received burst (R60). -/
inductive HeaderOutcome where
  | pending | passed | wrongSource | uncorrectable
  deriving DecidableEq, Repr

/-- One notified burst of a receive channel, from its notice to the end of its outcomes. -/
structure Burst where
  n : Notice := {}
  /-- A staging slot is taken and its preload requested (R55). -/
  slot : Bool := false
  /-- The rate's default set as it stood when the preload was issued (R53). -/
  dflt : Nat := 0
  /-- The set delivered to the slot, once the preload is served. -/
  loaded : Option Nat := none
  /-- The delivered set came from the store, not from the rate's default set (R53). -/
  fromStore : Bool := false
  started : Bool := false
  /-- The preload was outstanding at burst start (R25). -/
  late : Bool := false
  /-- The coefficient set that adaptation started from. -/
  active : Nat := 0
  /-- ADAPT_FREEZE and the step exponents in force at the burst start (R51). -/
  frozen : Bool := false
  ffeStep : Nat := 10
  dfeStep : Nat := 9
  /-- CTLE_BOOST and VGA_GAIN as the preamble left them (R51). -/
  front : Nat := 0
  /-- An accepted delimiter: its time and its bit errors (R48). -/
  delim : Option (Nat × Nat) := none
  outcome : BurstOutcome := .pending
  header : HeaderOutcome := .pending
  /-- Measured arrival offset in ps, against the nominal D (R49). -/
  offset : Int := 0
  /-- The burst has ended and its slot is free; when, ns. -/
  ended : Bool := false
  endedAt : Nat := 0
  /-- Its open code was sent in time (R136). -/
  coded : Bool := false
  /-- A codeword of the burst could not be corrected (R175). -/
  uncorr : Bool := false
  /-- Close-code count mod 8 that tags the burst's power sample (R150); 8 before the close code. -/
  seq : Nat := 8
  /-- The power sample, once it has arrived (R135). -/
  rxp : Option Int := none
  /-- The final set has been sent to the calibration engine. -/
  sent : Bool := false
  /-- Final set and eye measurement held until the sample or its timeout (R136). -/
  final : Nat := 0
  eye : Nat := 0
  deriving DecidableEq, Repr

/-- The bursts of one upstream frame, for the detectors (R62, R471) and the feeder loops (R139, R140). -/
structure FrameTally where
  notified : Nat := 0
  dark : Nat := 0
  presence : Nat := 0
  received : Nat := 0
  done : Nat := 0
  offsets : List Int := []
  deriving DecidableEq, Repr

/-- Downstream PLOAM message kinds that the block sends itself. -/
inductive PloamKind where
  | none | assignOnuId | rangingTime | deactivate | disable | enable | keyControl | host
  deriving DecidableEq, Repr

/-- Where an upstream PLOAM goes (Table 6-3). -/
inductive UsPloam where
  | serialNumber | registration | keyReport | other
  deriving DecidableEq, Repr

/-- A downstream PLOAM waiting to be sent. ONU-ID 1023 is broadcast. -/
structure Ploam where
  onu : Nat := 1023
  kind : PloamKind := .none
  arg : Int := 0
  /-- Device time of posting, ns (R160). -/
  at' : Nat := 0
  deriving DecidableEq, Repr

/-- A message from the port complex to another engine (Table 1-3).
Log: 9 DEDUCED. -/
inductive PortPost where
  | offset (onu rate start : Nat) (x : Int)
  | lost (onu rate start : Nat) (noLock : Bool)
  | wrongSource (notified found start : Nat)
  /-- The final set of a burst: rate, start, set, eye, on time, adapted, header passed and received, sample. -/
  | final (onu rate start set eye : Nat) (good : Bool) (rxp : Option Int)
  | unexpLight
  deriving DecidableEq, Repr

/-- The signal envelope of a channel: stretches [from, until) in ps of device time with their level in mV, in order of time.
Log: 178 DESIGN CHOICE. -/
abbrev Envelope := List (Nat × Nat × Nat)

/-- One channel of a port complex. -/
structure PortCh where
  /-- A transition waits for the next downstream frame boundary (R43). -/
  pend : Bool := false
  /-- The channel's start-up wave has started (R45). -/
  wave : Bool := false
  /-- Device time of WARMING entry and of LIT entry, ns. -/
  warmAt : Nat := 0
  litAt : Nat := 0
  /-- The transmit serialiser is locked; the bias ramp runs or is complete; frames are being sent (R41). -/
  serLock : Bool := false
  ramping : Bool := false
  rampDone : Bool := false
  sending : Bool := false
  laser : Bool := false
  /-- The transmit output is squelched (R41, R64). -/
  squelch : Bool := true
  /-- Transmit and receive clock run (R29, Table 2-2). -/
  txClk : Bool := false
  rxClk : Bool := false
  /-- A test runs on the channel, with the set its receiver shows in mode 2 (R66). -/
  testing : Bool := false
  testSet : Option Nat := none
  bursts : List Burst := []
  /-- Notices sent by the grant engine and still on the die-to-die link (R19). -/
  link : List Notice := []
  /-- Burst starts accepted lately, newest first (R55), and the end of the preceding burst. -/
  starts : List Nat := []
  lastEnd : Nat := 0
  /-- The last frame whose outcomes are complete, for the feeder loops. -/
  lastFrame : FrameTally := {}
  losRun : Nat := 0
  losClearRun : Nat := 0
  lolRun : Nat := 0
  unexpRun : Nat := 0
  unexpClearRun : Nat := 0
  /-- Open intervals of the unexpected-light detector, ps, and one more than the last frame it has judged (R61). -/
  opens : List (Nat × Nat) := []
  judged : Nat := 0
  frames : Tab FrameTally := []
  /-- Wrong-source reports of the current second and whether its event is logged (R60). -/
  wrongSec : Nat := 0
  wrongCount : Nat := 0
  /-- The last bursts whose header check passed, newest first: burst start and ONU-ID; and the allocation sections of them that an
  uncorrectable HEC ended: burst start and Alloc-ID (R175). -/
  good : List (Nat × Nat) := []
  dead : List (Nat × Nat) := []
  /-- Messages to the activation and calibration engines, oldest first. -/
  posts : List PortPost := []
  /-- Close codes sent, modulo 8 (R150). -/
  closeCount : Nat := 0
  /-- Closed power windows whose samples are still to come, oldest first: close count, ONU-ID, burst start. -/
  samples : List (Nat × Nat × Nat) := []
  deriving DecidableEq, Repr

/-- What an ONU record keeps beside its objects. -/
structure OnuX where
  /-- Time of entry to PENDING or LOST, ns. -/
  since : Nat := 0
  darkRun : Nat := 0
  noLockRun : Nat := 0
  /-- Device time of the last burst received, ns, and the two runs as they stood before that clock (R70). -/
  lastRx : Option Nat := none
  runsWere : Nat × Nat := (0, 0)
  /-- Ranging attempts begun; probes made in FAST; whether the last probe has been granted. -/
  attempts : Nat := 0
  fastTries : Nat := 0
  probeMap : Option Nat := none
  /-- Burst starts in ps of the probes or the verification burst that stand in closed maps, in order. -/
  awaiting : List Nat := []
  /-- Assigned anew with no Ranging_Time sent since: the ONU applies EqD 0 (R75). -/
  fresh : Bool := false
  /-- The running ranging follows an acquisition, not a re-ranging (R76). -/
  acquired : Bool := false
  /-- The last second boundary evaluated (R79). -/
  evalSec : Nat := 0
  /-- 0 none, 1 window requested, 2 window granted, 3 Ranging_Time queued or sent. -/
  rangePhase : Nat := 0
  /-- Delimiter of the acquisition in ps, counted as R75 counts an RTD: the RTD plus the ONU's random delay. -/
  acqAt : Int := 0
  /-- The last EqD sent, in ps after rounding to the channel's unit (R78, R131). -/
  eqdSent : Option Int := none
  /-- The next offset is copied, not filtered (R84). -/
  seedNext : Bool := true
  /-- Frame number at which the hold ends (R85). -/
  holdUntil : Option Nat := none
  /-- Rate before the running trial, bursts counted in it and bad ones among them (R80). -/
  trialFrom : Nat := 0
  trialSeen : Nat := 0
  trialBad : Nat := 0
  /-- Start in ps of the first span whose map can hold a burst of the trial (R79). -/
  trialSince : Nat := 0
  /-- Holdoff base in s; 0 before the first use means STEP_HOLDOFF_S. -/
  holdBase : Nat := 0
  /-- Time since when the ONU has been OPERATING at its current rate, ns. -/
  rateSince : Nat := 0
  /-- Bursts granted and bad per second, by burst start (R79, R81). -/
  secGranted : Tab Nat := []
  secBad : Tab Nat := []
  /-- State kept while under observation (R89). -/
  prevState : Nat := 0
  observed : Bool := false
  /-- Wrong-source reports of one second (R88). -/
  rogueSec : Nat := 0
  rogueCount : Nat := 0
  /-- Frozen while its channel is not LIT (R69). -/
  frozen : Bool := false
  /-- Offsets held until the header check, by burst start (R84). -/
  heldOffsets : Tab Int := []
  /-- A waiting upstream PLOAM was signalled; map of the last PLOAM slot (R117). -/
  ploamWaiting : Bool := false
  lastPloamMap : Nat := 0
  /-- Power events raised and not re-armed (R137). -/
  rxpLow : Bool := false
  rxpHigh : Bool := false
  /-- Internal power references and lost-no-lock counts per rate (R126, R130); reference absent means NOT_MEASURED. -/
  rxpRef : Tab Int := []
  lolRuns : Tab Nat := []
  /-- Time of the last lazy snapshot write per rate, ns (R133). -/
  snapAt : Tab Nat := []
  deriving DecidableEq, Repr

/-- A refinement write that waits for the store arbiter of its die (R24, R129). -/
structure StoreWrite where
  port : Nat := 0
  rcd : Nat := 0
  rate : Nat := 0
  final : Nat := 0
  rxp : Option Int := none
  deriving DecidableEq, Repr

/-- A request of the activation engine to the grant engine (R116). -/
inductive ReqKind where
  | verify | probe | ranging
  deriving DecidableEq, Repr

structure Req where
  kind : ReqKind := .probe
  rcd : Nat := 0
  onu : Nat := 0
  rate : Nat := 0
  /-- First map that may hold it. -/
  notBefore : Nat := 0
  /-- Length of a ranging window in µs (R76). -/
  lenUs : Nat := 0
  /-- A ranging window displaced by a quiet window waits for a map without a carried span (R115). -/
  displaced : Bool := false
  deriving DecidableEq, Repr

/-- A post of the activation engine still to be delivered to the grant engine (Table 1-3). -/
inductive ActPost where
  | request (q : Req)
  | withdraw (rcd : Nat)
  | rate (rcd rate : Nat)
  | eqd (rcd : Nat) (eqd : Int)
  deriving DecidableEq, Repr

/-- A rogue-isolation scan (R89). -/
structure Scan where
  running : Bool := false
  /-- Record under observation and records still to observe. -/
  cur : Nat := 0
  rest : List Nat := []
  startFrame : Nat := 0
  light : Bool := false
  observed : Nat := 0
  deriving DecidableEq, Repr

/-- The activation engine's state of one channel. -/
structure ActCh where
  /-- When the next quiet window is due, ns, and whether one waits to be placed. -/
  qwNext : Nat := 0
  qwDue : Bool := false
  /-- Serial numbers acquired in the current window (R73). -/
  winSerials : List Nat := []
  /-- A due quiet window has been deferred for a carried span (R115). -/
  qwHeld : Bool := false
  /-- Ranging windows granted and not ended, in order: the record, and when the delimiter of an ONU of RTD 0 and EqD 0 would
  arrive, ps (R75). -/
  ranging : List (Nat × Int) := []
  /-- The last quiet windows placed, newest first: when they open, and the same time for them (R71). -/
  quiets : List (Nat × Int) := []
  scan : Scan := {}
  /-- Messages for the reserved first PLOAM slot, oldest first (R160). -/
  msgs : List Ploam := []
  posts : List ActPost := []
  deriving DecidableEq, Repr

/-- One allocation structure of a map. -/
structure Alloc where
  allocId : Nat := 0
  /-- Context record; none for the default allocation. -/
  ctx : Option Nat := none
  words : Nat := 0
  report : Bool := false
  ploam : Bool := false
  hint : Bool := false
  deriving DecidableEq, Repr

/-- One ONU's burst in a map. -/
structure MapBurst where
  onu : Nat := 0
  rate : Nat := 0
  cold : Bool := true
  structs : List Alloc := []
  /-- Target time of the hint that fixes the position, ps after the span start (R110). -/
  tau : Option Nat := none
  /-- Slot start after layout. -/
  slot : Nat := 0
  /-- Keeps the position of R110. -/
  fixed : Bool := false
  deriving DecidableEq, Repr

inductive WinKind where
  | quiet | ranging | carried
  deriving DecidableEq, Repr

structure Win where
  kind : WinKind := .quiet
  start : Nat := 0
  len : Nat := 0
  rcd : Nat := 0
  /-- When the delimiter of an ONU of RTD 0 and EqD 0 comes that responds to the window, ps. -/
  zero : Int := 0
  deriving DecidableEq, Repr

/-- A computed map; the guard time in force at its close holds for it (R100). -/
structure MapRec where
  k : Nat := 0
  guardNs : Nat := 64
  wins : List Win := []
  bursts : List MapBurst := []
  deriving DecidableEq, Repr

/-- A cooperative hint (R109). `tau` is device time in ps. -/
structure Hint where
  ctx : Nat := 0
  bytes : Nat := 0
  tau : Nat := 0
  deriving DecidableEq, Repr

/-- The grant engine's state of one channel. -/
structure GrantCh where
  reqs : List Req := []
  /-- Hints by map number. -/
  hints : List (Nat × Hint) := []
  /-- Units of the running window carried into the next span (R97). -/
  carried : Nat := 0
  /-- Tier pointers, past the highest record at reset (R120). -/
  p3 : Nat := 65535
  p4 : Nat := 65535
  /-- Rates and equalisation delays posted by the activation engine, by ONU record. -/
  rates : Tab Nat := []
  eqds : Tab Int := []
  /-- The last computed map, until it is handed over; then its notices. -/
  closed : Option MapRec := none
  toIssue : List Notice := []
  /-- Digests of the last maps by map number, newest first (R122). -/
  digests : List (Nat × Nat) := []
  /-- The map that the framer holds for its next frame (R95). -/
  handed : Option MapRec := none
  deriving DecidableEq, Repr

/-- A context's demand inputs beside its objects (R107, R108). -/
structure CtxX where
  /-- Latest report and the map in which it was granted. -/
  report : Option (Nat × Nat) := none
  /-- Words granted per map, newest first, and whether the burst was lost. -/
  grants : List (Nat × Nat × Bool) := []
  /-- Words and idle words of the most recent grant's usage record. -/
  usage : Option (Nat × Nat) := none
  /-- Idle words that the framer has counted, by burst start, newest first (R175). -/
  idle : List (Nat × Nat) := []
  deriving DecidableEq, Repr

/-- A sideband command waiting for its response (R151, R153). -/
structure SbCmd where
  op : Nat := 1
  addr : Nat := 0
  data : List Nat := []
  count : Nat := 1
  tries : Nat := 0
  /-- When its frame was sent last, ns. -/
  sentAt : Nat := 0
  deriving DecidableEq, Repr

/-- The optics sideband of one port and the module behind it as last read. -/
structure Optics where
  /-- The module is absent, or a newly detected one is still being read (R154). -/
  reading : Bool := false
  /-- At most 4 commands outstanding, those that wait for one to end, and consecutive failed commands (R151, R153). -/
  cmds : List SbCmd := []
  waiting : List SbCmd := []
  failed : Nat := 0
  caps : Nat := 0
  /-- Calibration blocks of c0 and c1 as read: SETPT, BIAS_MAX, MOD_MAX, MPD_TARGET, ER_TARGET, BIAS_INIT (Table 5-8). -/
  cal0 : List Nat := []
  cal1 : List Nat := []
  /-- First laser-on code still to come after detection (R147). -/
  fresh0 : Bool := true
  fresh1 : Bool := true
  /-- When OSB_TRG is free of codes, ns (R136, R150). -/
  trgFree : Nat := 0
  deriving DecidableEq, Repr

/-- The laser loops of one channel (R143–R146). -/
structure Loops where
  /-- Integrator of the thermal loop, in mA × 65,536 × 1,000. -/
  integ : Int := 0
  /-- Consecutive samples in the settle band and out of the hold band. -/
  inBand : Nat := 0
  outBand : Nat := 0
  /-- The bias loop waits for 1 ms after a ramp; when the ramp completed, ns. -/
  biasHold : Bool := false
  rampAt : Nat := 0
  /-- Times since when BIAS or MOD has stood at a limit with excess error, ns. -/
  biasLimitAt : Option Nat := none
  modLimitAt : Option Nat := none
  /-- Feeder search: candidate index (R139) and frames without a received burst (R140). -/
  cand : Nat := 0
  candBase : Int := 0
  dryFrames : Nat := 0
  deriving DecidableEq, Repr

end Sys2Proof.Machine
end

