-- ==== Sys2Proof/Machine/TypesB.lean ====
section
/-! DEFINITION. The internal types of chapters 6 to 9: packets, framer, pipelines, forwarding, traffic manager. -/

namespace Sys2Proof.Machine

/-- A packet: its bytes from the destination MAC address to the last byte before the FCS (R234), and its descriptor. -/
structure Pkt where
  data : List Nat := []
  /-- 0 uplink, 1 PON, 2 host DMA, 3 twin link (Table 7-4). -/
  srcType : Nat := 0
  /-- First lane of the MAC, or PON port; PON channel. -/
  srcPort : Nat := 0
  srcCh : Nat := 0
  /-- Requester identity of the source (R188) and its location value (R220). -/
  srcId : Nat := 0
  srcLoc : Nat := 0
  /-- ONU and XGEM record of an upstream packet; burst start in ps (R177). -/
  onu : Nat := 0
  xgem : Nat := 0
  start : Nat := 0
  /-- Stream sequence number (R324), where one was given. -/
  seq : Option Nat := none
  /-- Arrival time in ns. -/
  at' : Nat := 0
  /-- Launch time in 1/65,536 ns (R253, R303). -/
  launch : Option Nat := none
  /-- Buffer pointer (Table 9-2). -/
  buf : Option Nat := none
  /-- DMA channel and descriptor position of a packet from host software. -/
  desc : Option (Nat × Nat) := none
  /-- Tag edit of the decision: TAG_OP, PCP, VID, DEI of a pushed tag, the VLAN tags behind the Ethernet header, and the TPID of a pushed
  tag as it stood at the pass (R197, R207). -/
  tag : List Nat := []
  /-- The buffer is shared: its holders release it (R237). -/
  shared : Bool := false
  deriving DecidableEq, Repr

def Pkt.len (p : Pkt) : Nat := p.data.length

/-- Burst counts of one second of one ONU (R178). -/
structure SecTally where
  g : Nat := 0
  l : Nat := 0
  u : Nat := 0
  c : Nat := 0
  deriving DecidableEq, Repr

/-- A classified second that waits for its commit (R179, R180). -/
structure SecClass where
  es : Bool := false
  ses : Bool := false
  unav : Bool := false
  t : SecTally := {}
  deriving DecidableEq, Repr

/-- An OMCI request (R173). -/
structure OmciReq where
  tci : Nat := 0
  body : List Nat := []
  sentAt : Nat := 0
  sent : Nat := 0
  deriving DecidableEq, Repr

/-- An OMCI message that waits for DMA channel 10: record, priority, body and RESULT (R350, R174). -/
structure OmciMsg where
  rcd : Nat := 0
  prio : Nat := 0
  body : List Nat := []
  code : Nat := 0
  at' : Nat := 0
  deriving DecidableEq, Repr

/-- The framer's state of one ONU. -/
structure OnuF where
  /-- Uncommitted seconds and their tallies; the next second to classify and those classified (R178–R180). -/
  secs : Tab SecTally := []
  nextSec : Nat := 0
  classed : Tab SecClass := []
  /-- Consecutive SES, and consecutive seconds that are not. -/
  sesRun : Nat := 0
  okRun : Nat := 0
  /-- G, L and U of the current 15-minute and 24-hour bins, and the alerts raised in the first (R180, R182). -/
  bin15 : SecTally := {}
  bin24 : SecTally := {}
  tcaEs : Bool := false
  tcaSes : Bool := false
  /-- Bins completed in Trim, newest first: history record, 24-hour bin, values (R402). -/
  held : List (Nat × Bool × List Int) := []
  /-- Unicast key slots, the pending switch (frame, slot) and the master session key (R166, R167). -/
  key1 : Option Nat := none
  key2 : Option Nat := none
  switch : Option (Nat × Nat) := none
  msk : Option Nat := none
  /-- When Key_Control was last posted or sent; a REKEY waits; failures in a row (R167, R168). -/
  controlAt : Nat := 0
  /-- Exchange: 0 none, 1 Key_Control posted, 2 sent and awaiting its Key_Report. -/
  exchange : Nat := 0
  rekey : Bool := false
  /-- Key_Control is wanted at once for want of any valid key (R167). -/
  missing : Bool := false
  keyFails : Nat := 0
  /-- Key_Reports on their way to the security engine, oldest first. -/
  keyReports : List (List Nat) := []
  /-- OMCI per priority: the outstanding request and the queue (R173). -/
  omci0 : List OmciReq := []
  omci1 : List OmciReq := []
  deriving DecidableEq, Repr

/-- The framer's state of one channel. -/
structure FramerCh where
  /-- PLOAM queue of 64, oldest first (R160). -/
  ploams : List Ploam := []
  /-- Packets taken for coming frames with their XGEM records, oldest first, and bytes of the first already sent. -/
  staged : List Pkt := []
  sentBytes : Nat := 0
  /-- Multicast key slots, the active slot and its pending switch (R166, R169). -/
  key1 : Option Nat := none
  key2 : Option Nat := none
  active : Nat := 0
  switch : Option (Nat × Nat) := none
  /-- The next frame to build. -/
  nextFrame : Nat := 0
  deriving DecidableEq, Repr

/-- Reassembly of an XGEM context (R176): state 0 none, 1 open, 2 an earlier packet was lost, 3 dropping to the last fragment. -/
structure Reasm where
  st : Nat := 0
  data : List Nat := []
  since : Nat := 0
  deriving DecidableEq, Repr

/-- Where a packet goes (Table 7-6, Table 8-2). -/
inductive Dest where
  | xgem (r : Nat)
  | member (m : Nat)
  | twin
  | host
  deriving DecidableEq, Repr

/-- An enqueue decision on its way to the traffic manager (R198). -/
structure Decision where
  pkt : Pkt := {}
  dir : Nat := 0
  dest : Dest := .host
  /-- Flooded to this replication group (R216). -/
  flood : Option Nat := none
  queueSel : Nat := 1
  queue : Nat := 0
  cls : Nat := 0
  colour : Nat := 0
  policer : Nat := 0
  hint : Bool := false
  /-- Offset of the UDP payload, when a UDP header was parsed (R254). -/
  udp : Option Nat := none
  pipe : Nat := 0
  at' : Nat := 0
  deriving DecidableEq, Repr

/-- A packet on its way to a trap ring: DMA channel, packet and AUX word (Table 13-6). -/
structure HostPost where
  ch : Nat := 8
  pkt : Pkt := {}
  aux : Nat := 0
  deriving DecidableEq, Repr

/-- A packet in a recirculation FIFO (R202). -/
structure Recirc where
  pkt : Pkt := {}
  bank : Nat := 0
  cls : Nat := 0
  colour : Nat := 0
  tunType : Nat := 0
  tunId : Nat := 0
  at' : Nat := 0
  deriving DecidableEq, Repr

/-- A learning message (Table 8-3). -/
structure Learn where
  /-- Requester identity that stamped it; it came over the ring; when it reached its station, ns. -/
  src : Nat := 0
  ring : Bool := false
  at' : Nat := 0
  locType : Nat := 0
  loc : Nat := 0
  fromPeer : Bool := false
  timeNs : Nat := 0
  hash : Nat := 0
  key : Nat := 0
  deriving DecidableEq, Repr

/-- One pipeline.
Log: 9 DEDUCED. -/
structure Pipeline where
  /-- Packets that wait to be written into the ingress FIFO; the FIFOs; learning messages at this station. -/
  arriving : List Pkt := []
  ingress : List Pkt := []
  recirc : List Recirc := []
  learn : List Learn := []
  clock : Bool := false
  /-- Since when the ingress FIFO has been empty, ns. -/
  idleAt : Nat := 0
  powered : Bool := true
  /-- Waits in the recirculation FIFO in the last second: time and ns. -/
  waits : List (Nat × Nat) := []
  deriving DecidableEq, Repr

/-- A hash entry beside Table 8-2: the fields of the entry and what learning keeps (R223–R225). -/
structure FwdEnt where
  form : Nat := 1
  key : Nat := 0
  locType : Nat := 0
  dest : Nat := 0
  static : Bool := false
  quar : Bool := false
  hit : Bool := false
  aged : Bool := false
  fromPeer : Bool := false
  /-- Candidate location and the end of its hold window, ns. -/
  cand : Option (Nat × Nat × Nat) := none
  /-- Second and count of moves; end of the quarantine, ns. -/
  moveSec : Nat := 0
  moveCount : Nat := 0
  quarUntil : Nat := 0
  deriving DecidableEq, Repr

/-- The forwarding unit beside its objects. -/
structure FwdUnit where
  /-- On-chip ways by bucket × 4 + way; deep ways likewise (R212). -/
  ways : Tab FwdEnt := []
  far : Tab FwdEnt := []
  /-- Flags of associative entries, bits 174:170 of Table 8-2, by record: STATIC as committed, HIT as lookups set it. -/
  assoc : Tab Nat := []
  /-- On-chip buckets with FAR set. -/
  farFlags : List Nat := []
  /-- Keys with a promotion pending (R217): form and key. -/
  promos : List (Nat × Nat) := []
  /-- Start of the aging pass in progress; when the next is due, ns; a pass runs. -/
  passAt : Nat := 0
  passDue : Nat := 0
  passing : Bool := false
  /-- A FLUSH runs: location type and destination. -/
  flush : Option (Nat × Nat) := none
  /-- Second of the last FWD_TABLE_FULL event, plus one. -/
  fullSec : Nat := 0
  deriving DecidableEq, Repr

/-- The buffer operations of Table 9-3 that name a buffer. -/
inductive BufOp where
  | handover (id : Nat) | share (k id : Nat) | release | free
  deriving DecidableEq, Repr

/-- A packet in a queue. -/
structure QPkt where
  pkt : Pkt := {}
  colour : Nat := 0
  cls : Nat := 0
  dest : Dest := .host
  /-- Held in deep memory; its write or read is under way. -/
  deep : Bool := false
  writing : Bool := false
  reading : Bool := false
  /-- On-chip buffer held until the deep write completes. -/
  chip : Option Nat := none
  /-- Admission time, ns (R253). -/
  admitted : Nat := 0
  deriving DecidableEq, Repr

/-- Tokens of a node's or queue's shapers in 1/8,000,000 byte, with the time of their last refill, and its deficit (R249, R250). -/
structure Shaper where
  set : Bool := false
  c : Int := 0
  p : Int := 0
  at' : Nat := 0
  deficit : Int := 0
  deriving DecidableEq, Repr

/-- A replay ring: the next item number and the items with arrival time and bytes (R257). -/
structure Ring where
  next : Nat := 0
  items : Tab (Nat × List Nat) := []
  deriving DecidableEq, Repr

/-- A running replay (R258): channel, queue, XGEM record, kb/s, items still to come, when the next is due. -/
structure Replay where
  ch : Nat := 0
  q : Nat := 0
  xgem : Nat := 0
  kbps : Nat := 0
  items : List Nat := []
  due : Nat := 0
  deriving DecidableEq, Repr

/-- A captured burst (Table 9-7). The sliced bits come from outside: line j is free value `base + j`. -/
structure CapBurst where
  start : Nat := 0
  onu : Nat := 0
  rate : Nat := 0
  cold : Bool := false
  outcome : Nat := 0
  trigger : Bool := false
  offset : Option Int := none
  rxp : Option Int := none
  len : Nat := 0
  coef : Nat := 0
  base : Nat := 0
  deriving DecidableEq, Repr

/-- The traffic manager and its stores beside their objects.
Log: 9 DEDUCED. -/
structure Traffic where
  decisions : List Decision := []
  toHost : List HostPost := []
  /-- Transmit descriptors whose packet is done: channel, position, STATUS, RESULT (Table 13-7). -/
  dmaDone : List (Nat × Nat × Nat × Nat) := []
  /-- Packets of each queue, oldest first, by direction × 262,144 + queue. -/
  queues : Tab (List QPkt) := []
  /-- Shapers of nodes by direction × 131,072 + node, and of queues as above. -/
  nodeSh : Tab Shaper := []
  queueSh : Tab Shaper := []
  /-- DWRR pointers by (direction × 131,072 + node) × 8 + priority. -/
  ptrs : Tab Nat := []
  /-- Policer buckets in 1/8,000,000 byte and their last update: Tc, Tp, ns. -/
  policers : Tab (Int × Int × Nat) := []
  /-- Buffers in use by pointer: count, owner, last owner (R237). -/
  bufs : Tab (Nat × Nat × Nat) := []
  /-- Lowest free FREE seen is LOW_WATER; bytes that wait in the staging area (R32, R247). -/
  staging : Nat := 0
  /-- Replay rings by channel (R257), and running replays, oldest first (R258). -/
  rings : Tab Ring := []
  replays : List Replay := []
  /-- Burst capture (R259): bursts kept, trigger seen, stored from it onward. -/
  cap : List CapBurst := []
  capTrig : Bool := false
  capAfter : Nat := 0
  deriving DecidableEq, Repr

end Sys2Proof.Machine
end

