-- ==== Sys2Proof/Machine/TypesC.lean ====
section
/-! DEFINITION. The internal types of chapters 10 and 11: uplinks, OTN, protection and time. -/

namespace Sys2Proof.Machine

/-- An uplink group: when its state was entered and when it was enabled, ns. -/
structure UplG where
  since : Nat := 0
  enabledAt : Nat := 0
  deriving DecidableEq, Repr

/-- The line conditions of a member's MAC (R268). -/
structure MacX where
  lock : Bool := false
  localFault : Bool := false
  remoteFault : Bool := false
  deriving DecidableEq, Repr

/-- A classified OTN second (R279): near-end then far-end ES, SES, unavailable and errored blocks. -/
structure OtnSec where
  nEs : Bool := false
  nSes : Bool := false
  nUn : Bool := false
  nBb : Nat := 0
  fEs : Bool := false
  fSes : Bool := false
  fUn : Bool := false
  fBb : Nat := 0
  deriving DecidableEq, Repr

/-- A condition that becomes a defect when it has lasted (Table 10-6): what it is now, since when, and the defect. -/
structure LineCond where
  bad : Bool := false
  since : Nat := 0
  dfct : Bool := false
  deriving DecidableEq, Repr

/-- Frames in a row without and with the expected alignment signal (Table 10-6). -/
structure AlignRun where
  miss : Nat := 0
  hit : Nat := 0
  deriving DecidableEq, Repr

/-- What an OTN layer's receiver finds (Tables 10-6, 10-7). -/
inductive OtnCond where
  /-- Transitions on a lane. -/
  | transitions (lane : Fin 4) (on : Bool)
  /-- Alignment markers are lost on some lane, and the skew between lanes in ns. -/
  | markers (lost : Bool) (skew : Nat)
  /-- FlexO frame and multiframe alignment. -/
  | flexoFrame (ok : Bool)
  | flexoMulti (ok : Bool)
  /-- One frame: its alignment signal is there; its MFAS has the expected value. -/
  | fas (ok : Bool)
  | mfas (ok : Bool)
  /-- Alarm indication, backward defect, open connection and lock as received, and the payload type. -/
  | ais (on : Bool)
  | bdi (on : Bool)
  | oci (on : Bool)
  | lck (on : Bool)
  | payload (pt : Nat)
  deriving DecidableEq, Repr

/-- A section has lanes and alignment; a path has a payload type, open connection and lock (Table 10-7). -/
def OtnCond.fits (c : OtnCond) (e : Nat) : Bool :=
  match c with
  | .ais _ | .bdi _ => true
  | .payload _ | .oci _ | .lck _ => decide (8 ≤ e)
  | _ => decide (e < 8)

/-- An OTN layer: the section of a group or the ODU4 path of a member. -/
structure OtnX where
  /-- Conditions of Table 10-6: the lanes, lane alignment, FlexO frame and multiframe, frame and multiframe alignment with their runs. -/
  los : Tab LineCond := []
  lol : LineCond := {}
  flof : LineCond := {}
  flom : LineCond := {}
  lof : LineCond := {}
  lom : LineCond := {}
  fas : AlignRun := {}
  mfas : AlignRun := {}
  /-- Last received trace and how many multiframes in a row. -/
  tti : Nat := 0
  ttiRun : Nat := 0
  /-- Signal fail and received BDI: since when, and past intervals of seconds not classified yet; the next second to classify. -/
  sfSince : Option Nat := none
  sfPast : List (Nat × Nat) := []
  bdiSince : Option Nat := none
  bdiPast : List (Nat × Nat) := []
  nextSec : Nat := 0
  /-- Bad and good seconds in a row (R277); SES and other seconds in a row, near and far end (R279). -/
  badRun : Nat := 0
  goodRun : Nat := 0
  nSes : Nat := 0
  nOk : Nat := 0
  fSes : Nat := 0
  fOk : Nat := 0
  nUn : Bool := false
  fUn : Bool := false
  secs : Tab OtnSec := []
  tcaEs : Bool := false
  tcaSes : Bool := false
  /-- Rejected and accepted GMP periods in a row and failures, OPU4 and ODTUC4.20 (R278). -/
  rej0 : Nat := 0
  acc0 : Nat := 0
  fail0 : Bool := false
  /-- Last accepted Cm of the ODTUC4.20 layer. -/
  cm1 : Nat := 0
  rej1 : Nat := 0
  acc1 : Nat := 0
  fail1 : Bool := false
  deriving DecidableEq, Repr

/-- A protection group (R281): commands, defects since when, defects that are requests, WTR start, far-end request. -/
structure ProtX where
  lo : Bool := false
  fs : Bool := false
  ms : Bool := false
  exer : Bool := false
  /-- SF-P, SF-W, SD-P, SD-W: since when present. -/
  sfP : Option Nat := none
  sfW : Option Nat := none
  sdP : Option Nat := none
  sdW : Option Nat := none
  rSfP : Bool := false
  rSfW : Bool := false
  rSdP : Bool := false
  rSdW : Bool := false
  wtr : Option Nat := none
  far : Nat := 0
  deriving DecidableEq, Repr

/-- A recovery stream (R271). -/
structure RcvyX where
  takeAny : Bool := true
  hist : Nat := 0
  lastAccept : Nat := 0
  deriving DecidableEq, Repr

/-- The uplink complex beside its objects. -/
structure Uplinks where
  groups : Tab UplG := []
  macs : Tab MacX := []
  otn : Tab OtnX := []
  prot : Tab ProtX := []
  rcvy : Tab RcvyX := []
  /-- Since when the capacity is below, or at or above, ESC_MIN_GBPS (R284). -/
  escLow : Option Nat := none
  escOk : Option Nat := none
  deriving DecidableEq, Repr

/-- A master heard on a PTP port (R294): its data set, with the times of its last two Announce messages. -/
structure Ann where
  src : Nat := 0
  cls : Nat := 248
  acc : Nat := 0xFE
  var : Nat := 0xFFFF
  prio2 : Nat := 128
  gm : Nat := 0
  steps : Nat := 0
  at' : Nat := 0
  prev : Option Nat := none
  deriving DecidableEq, Repr

/-- Messages that the time unit sends (Table 11-2). -/
inductive PtpTx where
  | announce | sync | delayReq
  deriving DecidableEq, Repr

/-- A PTP port. Times of messages are in ticks of 1/8,192,000 ns. -/
structure PtpX where
  /-- When listening began, ns. -/
  since : Nat := 0
  masters : List Ann := []
  /-- A two-step Sync that waits for its Follow_Up: sequence number, reception time and correction in ticks. -/
  twoStep : Option (Nat × Int × Int) := none
  /-- The last Sync: origin and reception. -/
  sync : Option (Int × Int) := none
  /-- The last Delay_Req: sequence number and transmission time. -/
  req : Option (Nat × Int) := none
  seq : Nat := 0
  annAt : Option Nat := none
  syncAt : Option Nat := none
  reqAt : Option Nat := none
  deriving DecidableEq, Repr

/-- A SyncE source (R298): received QL (none for QL-FAILED), last ESMC, since when valid, in the selection. -/
structure SyncX where
  ql : Option Nat := none
  esmcAt : Nat := 0
  validAt : Option Nat := none
  ready : Bool := false
  deriving DecidableEq, Repr

/-- The time unit beside its objects. -/
structure TimeX where
  /-- Measured offset in ps that waits for the servo. -/
  theta : Option Int := none
  /-- Consecutive updates below LOCK_NS, and above 4 × LOCK_NS (R295). -/
  inRun : Nat := 0
  outRun : Nat := 0
  everLocked : Bool := false
  /-- End of the last LOCKED period, ns. -/
  lossAt : Option Nat := none
  /-- Applied frequency offsets with the times from which they apply, newest first (R296). -/
  freqs : List (Nat × Int) := []
  /-- A correction waits for the next frame boundary (R289): frame of the request, and θ in ps or the time to set. -/
  stepIn : Nat := 0
  stepBy : Option Int := none
  setTo : Option Nat := none
  /-- The last second boundary served. -/
  lastSec : Nat := 0
  ports : Tab PtpX := []
  /-- The grandmaster followed, and the port followed. -/
  gm : Nat := 0
  follow : Option Nat := none
  srcs : Tab SyncX := []
  /-- The selected source has failed since (R298). -/
  failAt : Option Nat := none
  /-- Last ESMC sent on each member: time and QL. -/
  esmc : Tab (Nat × Nat) := []
  /-- Levels of RCLK_OUT0 and RCLK_OUT1 (0 squelched). -/
  rclk0 : Option (Nat × Nat) := none
  rclk1 : Option (Nat × Nat) := none
  /-- PPS_IN: last second with an edge in its window, and how many in a row (R302). -/
  ppsLast : Nat := 0
  ppsRun : Nat := 0
  deriving DecidableEq, Repr

/-- One entry of a commit group or a lazy record (R318, R320): a dictionary value, or a block of engine state. -/
inductive MirEntry where
  | value (index sub rcd : Nat) (v : Int)
  /-- Warm bits of an ONU record at the close, by rate (R123). -/
  | warm (rcd bits : Nat)
  /-- Tier pointers of a channel after a map. -/
  | pointers (p c p3 p4 : Nat)
  | hint (p c map : Nat) (h : Hint)
  | post (p c : Nat) (x : ActPost)
  /-- A quiet window is due on a channel (R72, R123). -/
  | quiet (p c : Nat)
  /-- Unicast slots of an ONU record and multicast slots of a channel, with their pending switch. -/
  | key (rcd : Nat) (k1 k2 : Option Nat) (sw : Option (Nat × Nat))
  | mkey (p c : Nat) (k1 k2 : Option Nat) (active : Nat) (sw : Option (Nat × Nat))
  deriving DecidableEq, Repr

/-- What a received control frame carries around its payload (R311): the 16 header bytes and the CRC-32.
Log: 7 DESIGN CHOICE. -/
structure CtrlIn where
  hd : List Nat := []
  crc : Nat := 0
  deriving DecidableEq, Repr

/-- A HELLO (Table 12-4). -/
structure Hello where
  serial : Nat := 0
  prevRole : Nat := 0
  serving : Bool := false
  faults : Nat := 0
  dict : Nat := 0x0203
  ports : Nat := 0
  /-- TEQD_US by port. -/
  teqds : List Nat := []
  epoch : Nat := 0
  deriving DecidableEq, Repr

/-- A stream of R324: its counter, the span that made it unsure, and the first span that it counts in (R325). -/
structure StreamX where
  counter : Nat := 0
  mark : Option Nat := none
  startSpan : Nat := 0
  deriving DecidableEq, Repr

/-- A stream in a span set (R327): packets, counter after the span, and the running CRC. -/
structure SpanEnt where
  xgem : Nat := 0
  packets : Nat := 0
  counter : Nat := 0
  crc : Nat := 0
  deriving DecidableEq, Repr

/-- A snapshot slot of the legacy pairing (R340): its number, length, pieces by offset, and end signature. -/
structure LegSlot where
  seq : Nat := 0
  total : Nat := 0
  pieces : Tab (List Nat) := []
  sig : Option (List Nat) := none
  deriving DecidableEq, Repr

/-- A dictionary reply (R375) with the request it answers: DATA in the byte order of its carrier. -/
structure Reply where
  session : Nat := 0
  code : Nat := 0
  total : Nat := 0
  offset : Nat := 0
  rcd : Nat := 0xFFFFFFFF
  token : Nat := 0
  data : List Nat := []
  /-- The request: index, subindex, transport SEQ, WANT_REPLY of its message, and whether it writes. -/
  index : Nat := 0
  sub : Nat := 0
  seq : Nat := 0
  want : Bool := true
  write : Bool := false
  deriving DecidableEq, Repr

/-- The twin unit beside its objects.
Log: 103 DEDUCED. -/
structure TwinX where
  /-- INCARNATION and SEQ of sent control frames (Table 12-2). -/
  inc : Nat := 0
  seq : Nat := 0
  /-- HB_IN present; since when it is lost, ns. -/
  hb : Bool := false
  hbLostAt : Nat := 0
  since : Nat := 0
  helloAt : Option Nat := none
  /-- Last BEAT received and sent, and what the peer reported. -/
  beatAt : Option Nat := none
  beatSent : Option Nat := none
  peerState : Nat := 0
  peerSent : Nat := 0
  peerApplied : Nat := 0
  /-- Channel targets as the manager left them, by channel key (Table 12-5). -/
  targets : Tab Nat := []
  /-- Active: critical state as last sent, entries posted since, a bulk copy to mark, and the last groups. -/
  mirrored : List MirEntry := []
  posts : List MirEntry := []
  bulk : Bool := false
  kept : Tab (List MirEntry) := []
  sent : Nat := 0
  lazyAt : Nat := 0
  /-- Replies that wait for the standby: group and since when (R319). -/
  confirm : List (Nat × Nat × Reply) := []
  /-- Standby: MIRROR entries and frames since the last COMMIT, later groups, the last group applied, the next map to close. -/
  held : List MirEntry := []
  frames : Nat := 0
  waiting : Tab (List MirEntry) := []
  /-- Groups that the standby has asked for again. -/
  asked : List Nat := []
  applied : Option Nat := none
  nextMap : Nat := 0
  /-- Maps whose group the standby had not applied at its close (R328). -/
  lateMaps : List Nat := []
  marker : Bool := false
  /-- A span set has been compared in this SYNCING; the first comparison after it has been made. -/
  spanSeen : Bool := false
  settled : Bool := false
  /-- Own span sets, the next to send, maps compared, spans compared with the time, and the peer's non-whole bursts. -/
  spans : Tab (List SpanEnt) := []
  spanNext : Nat := 0
  mapsDone : List Nat := []
  spansDone : Tab Nat := []
  /-- When this chip sent its last map and span sets: by 2·k for map k, 2·k + 1 for span k (R327). -/
  setAt : Tab Nat := []
  peerNonWhole : List (Nat × Nat × Nat) := []
  streams : Tab StreamX := []
  /-- Old active: hand-over frame and whether its channels have been darkened. New active: first frame, with old δ and RT_CORR
  by channel, the phase shifts still due, and the channels whose EqDs have been corrected. -/
  yieldN : Option Nat := none
  dimmed : Bool := false
  takeN : Option Nat := none
  /-- The take-over of frame `takeN` is a hand-over that is still to come: this chip is the standby until then (R333). -/
  byHand : Bool := false
  oldDelta : Tab Int := []
  oldRt : Tab Int := []
  phase : Tab Nat := []
  ranged : List Nat := []
  /-- δ and RT_CORR_PS from the peer's FEEDER message, by channel. -/
  peerFeeder : Tab (Int × Int) := []
  peerLost : Bool := false
  /-- The active's frame epoch, to be taken when no twinned channel is LIT (R317). -/
  epoch : Option Int := none
  legBeat : Option Nat := none
  slot0 : LegSlot := {}
  slot1 : LegSlot := {}
  deriving DecidableEq, Repr

end Sys2Proof.Machine
end

