-- ==== Sys2Proof/Machine/TypesD.lean ====
section
/-! DEFINITION. The internal types of chapters 13 to 17: host interface, dictionary, power, security and memory integrity. -/

namespace Sys2Proof.Machine

/-- A mailbox slot (Table 13-10, Table 13-11): state 0 FREE, 1 POSTED, 2 TAKEN, 3 REPLIED. -/
structure Slot where
  st : Nat := 0
  sender : Nat := 0
  inc : Nat := 0
  kind : Nat := 0
  length : Nat := 0
  want : Bool := false
  replier : Nat := 0
  tag : Nat := 0
  /-- Payload bytes 8–63 of the slot. -/
  data : List Nat := []
  /-- Place in posting order, or in the order of replies once REPLIED; posting time, ns. -/
  order : Nat := 0
  at' : Nat := 0
  deriving DecidableEq, Repr

/-- One requester's view of a mailbox page (R353): its STAGE bytes, causes, enables and MBX_FLUSHED. -/
structure View where
  stage : List Nat := []
  cause : Nat := 0
  en : Nat := 0
  flushed : Nat := 0
  deriving DecidableEq, Repr

/-- An operation on one slot of a mailbox channel (Table 13-11). -/
inductive MbxOp where
  | release | reply | free
  deriving DecidableEq, Repr

/-- A mailbox channel; `late` holds the slots whose message timed out on its receiver (R355). -/
structure MbxCh where
  slots : Tab Slot := []
  late : List Nat := []
  views : Tab View := []
  next : Nat := 0
  deriving DecidableEq, Repr

/-- A DMA descriptor as host memory holds it (Tables 13-7, 13-8). `launch` is bytes 16–29 and `rest` bytes 30–31;
`data` is what stands at ADDR. -/
structure Desc where
  addr : Nat := 0
  len : Nat := 0
  ctrl : Nat := 1
  aux : Nat := 0
  launch : Nat := 0
  rest : Nat := 0
  data : List Nat := []
  deriving DecidableEq, Repr

/-- A DMA channel (Table 13-9). -/
structure DmaCh where
  base : Nat := 0
  size : Nat := 16
  tail : Nat := 0
  head : Nat := 0
  enable : Bool := false
  halted : Bool := false
  haltCause : Nat := 0
  irq : Nat := 0
  /-- Descriptors of the ring by position, as given with DMA_TAIL. -/
  descs : Tab Desc := []
  /-- The transmit descriptor at the head has been read. -/
  busy : Bool := false
  deriving DecidableEq, Repr

/-- The host interface beside its objects. -/
structure HostIf where
  /-- Incarnations of CC0–CC7 (R346); the host's is HOST_INC. -/
  incs : Tab Nat := []
  /-- IRQ_MAP registers and IRQ_HOST_CAUSE (Tables 13-4, 13-5). -/
  irqMap : Tab Nat := []
  cause : Nat := 0
  /-- MSI-X table entries, masked at reset as PCIe has it, and pending bits. -/
  msix : Tab Nat := []
  pba : List Nat := []
  mbx : Tab MbxCh := []
  dma : Tab DmaCh := []
  /-- Event records that have a descriptor of channel 11. -/
  evts : List Nat := []
  /-- Doorbells: pending word and last ringer. -/
  dbl : Tab (Nat × Nat) := []
  /-- The last clock in which a doorbell was rung, ns; its word before that clock and the bits rung in it. -/
  dblClk : Tab (Nat × Nat × Nat) := []
  /-- Locks that are owned: owner and its incarnation. -/
  lck : Tab (Nat × Nat) := []
  /-- SEC_SEL of BAR4 (R360). -/
  secSel : Nat := 0
  /-- Millisecond of the last TBW_REFUSE event, plus one (R366). -/
  tbwMs : Nat := 0
  /-- The PCIe link is in L1 (R29). -/
  l1 : Bool := false
  /-- Control cores whose clock is stopped, and the last interrupt to each core, ns (R29). -/
  coreOff : List Nat := []
  coreIrqAt : Tab Nat := []
  deriving DecidableEq, Repr

/-- A write held by a transaction or queued for a boundary (R377, R381). -/
structure Wr where
  index : Nat := 0
  sub : Nat := 0
  rcd : Nat := 0
  value : Int := 0
  /-- The reply that waits for it, and the first frame at whose boundary it applies. -/
  reply : Reply := {}
  frame : Nat := 0
  deriving DecidableEq, Repr

/-- A request of R374 with its transport SEQ and the WANT_REPLY of its message. -/
structure DictReq where
  op : Nat := 1
  flags : Nat := 0
  index : Nat := 0
  sub : Nat := 0
  rsv : Nat := 0
  offset : Nat := 0
  rcd : Nat := 0xFFFFFFFF
  length : Nat := 0
  token : Nat := 0
  data : List Nat := []
  seq : Nat := 0
  want : Bool := true
  deriving DecidableEq, Repr

/-- A commit that waits for its boundary (R382). -/
structure Commit where
  reply : Reply := {}
  frame : Nat := 0
  members : List Wr := []
  deriving DecidableEq, Repr

/-- A session (R378): its transaction, buffers, last failed commit, and for MGMT its transport state. -/
structure DictSess where
  isOpen : Bool := false
  txn : Bool := false
  aborted : Bool := false
  members : List Wr := []
  failIndex : Nat := 0
  failSub : Nat := 0
  failRec : Nat := 0xFFFFFFFF
  failCode : Nat := 0
  /-- Read snapshot: index, subindex, record, bytes (R376). -/
  snap : Option (Nat × Nat × Nat × List Nat) := none
  /-- Assembly of a segmented write: index, subindex, record, bytes. -/
  asm : Option (Nat × Nat × Nat × List Nat) := none
  /-- MGMT: session key, a request has been processed, last verified datagram in ns, kept reply (its body, empty until it is
  sent), SEQ of the last event. -/
  key : Nat := 0
  heard : Bool := false
  seen : Nat := 0
  kept : List Nat := []
  evtSeq : Nat := 0
  deriving DecidableEq, Repr

/-- The dictionary engine beside its objects. -/
structure DictX where
  /-- Phase 3 has ended: requests are accepted (R451). -/
  ready : Bool := false
  sess : Tab DictSess := []
  /-- Writes that wait for a boundary, in arrival order. -/
  queue : List Wr := []
  /-- Commits that wait for their boundary. -/
  commits : List Commit := []
  /-- Device second of the last VOT_AUTH_FAIL event, plus one (R391). -/
  authSec : Nat := 0
  deriving DecidableEq, Repr

/-- The Honeycomb journal (R386, R409, R410): what flash and SRAM hold. -/
structure Journal where
  /-- A journal exists; its header is good; its dictionary version. -/
  present : Bool := false
  version : Nat := 0
  /-- Retained values in flash, and the cause of the next RESTORE_STATUS 3. -/
  image : Store := []
  factory : Bool := false
  /-- Log fill in percent of the ring, as last reported; erase cycles used; the wear event has been raised. -/
  fill : Nat := 0
  erases : Nat := 0
  wearRaised : Bool := false
  /-- Calibration section in SRAM, and as last copied to flash; when it was copied, ns. -/
  cal : Store := []
  calFlash : Store := []
  calAt : Nat := 0
  /-- Sealed section: MGMT_KEY, OWNER_DEBUG_KEY and TIME_HWM as saved. -/
  mgmtKey : Int := 0
  ownerKey : Int := 0
  hwm : Nat := 0
  /-- When the sealed section was last saved, ns. -/
  hwmAt : Nat := 0
  deriving DecidableEq, Repr

/-- Power sequencing, start-up and thermal state of the Snowdrop domain (chapters 15 and 17). -/
structure Power where
  coreOn : Bool := false
  /-- The Trim state (R33, R400). -/
  trim : Bool := false
  /-- The Snowdrop seconds counter and whether it is valid (R288). -/
  snowSecs : Nat := 0
  snowValid : Bool := false
  /-- PWR_EN_A and PWR_EN_B with the times they went high, ns; the wait before a retry. -/
  enA : Bool := false
  enB : Bool := false
  enAt : Nat := 0
  retryAt : Option Nat := none
  /-- T0 in ns of device time, moved along by every step of device time. -/
  t0 : Int := 0
  /-- The rail to name in PWR_SUPPLY at the next start (R406). -/
  supply : Option Nat := none
  /-- POWER_STATE while the dictionary is off (Table 15-1), and a transition that runs:
  0 none, 1 Trim entry, 2 Trim exit until the copy has ended, 3 Snowdrop entry, 4 Trim exit after it, with the time it was
  accepted. -/
  st : Nat := 0
  trans : Nat := 0
  transAt : Int := 0
  /-- Steps of Table 15-3 done in a Snowdrop entry: 1 lasers off, 2 heartbeat stopped, 3 flushed, 4 link down. -/
  stage : Nat := 0
  /-- Packets are steered by Trim, and its pipelines have been drained. -/
  drained : Bool := false
  /-- PWR_LOW_N is low, and since when it has its level. -/
  low : Bool := false
  /-- A wake source that came true during Snowdrop entry: bit number. -/
  wake : Option Nat := none
  /-- Waves started, the objects in force since the start of the last one, and that start, ns; phase 5 began (R452, R468). -/
  waves : Nat := 0
  waveMin : Nat := 0
  waveMax : Nat := 0
  waveTec : Nat := 0
  waveAt : Int := 0
  phase5 : Int := 0
  /-- ALERT of the board-management interface (Table 17-12). -/
  alert : Nat := 0
  /-- The thermal warning is raised; a trip holds the device in Snowdrop; the trip to report: die and temperature. -/
  warned : Bool := false
  tripped : Bool := false
  trip : Option (Nat × Int) := none
  /-- Full service has been reported (R453). -/
  served : Bool := false
  /-- Beat-5 writes that wait for the replica copy (R401): bank, record and the beat's 256 bits. -/
  commits : List (Nat × Nat × Nat) := []
  deriving DecidableEq, Repr

/-- The security engine beside its objects (chapter 15). -/
structure Secure where
  /-- Image slots A and B in flash: 1,024-byte chunks by number, absent ones erased (0xFF). -/
  slotA : Tab Nat := []
  slotB : Tab Nat := []
  /-- Boot record copies: sequence number and preferred slot, where the CRC is good; the record asks for a trial. -/
  rec0 : Option (Nat × Nat) := none
  rec1 : Option (Nat × Nat) := none
  trialNext : Bool := false
  /-- The slot whose trial was not confirmed, to be reported at the next start (R413, R414). -/
  failed : Option Nat := none
  /-- A token with FLAGS bit 0 has been accepted in this start (R420). -/
  returnOk : Bool := false
  /-- The data register that the TAP has selected: 0 BYPASS, 1 IDCODE, 2 token, 3 boundary scan, 4 debug access (R425). -/
  tap : Nat := 0
  /-- SPDM over DOE and over the twin link: 0 none, 1 versions, 2 capabilities, 3 algorithms, 4 key exchange made, 5 session;
  the last heartbeat of the sessions, ns. -/
  spdmHost : Nat := 0
  spdmTwin : Nat := 0
  beatHost : Nat := 0
  beatTwin : Nat := 0
  /-- The pair key that both chips derive from the secured session of a pairing (R315, R419). -/
  pairKey : Option Nat := none
  /-- Identity private key erased (Retired). -/
  idGone : Bool := false
  /-- Values that survive every start: LIFECYCLE and ROLLBACK_MIN in fuses. -/
  lifecycle : Nat := 0
  rollback : Nat := 0
  deriving DecidableEq, Repr

/-- Memory integrity beside its objects (chapter 16).
Log: 139 DEDUCED. -/
structure MemX where
  /-- Locations with an error in store: array, address, bits or devices in error. -/
  bad : List (Nat × Nat × Nat) := []
  /-- Write-back pending of an array: address. -/
  back : Tab Nat := []
  /-- Corrected addresses by array, newest first: address, hour, count (R443). -/
  repeats : Tab (List (Nat × Nat × Nat)) := []
  /-- Uncorrectable reads logged in a device second, by array: second and count (R446). -/
  ueSec : Tab (Nat × Nat) := []
  /-- DDR5 channels in self-refresh: since when, and total since the last lap, ns. -/
  asleep : Tab Nat := []
  slept : Tab Nat := []
  /-- Channels in force of each region (R407); last access of each channel, ns; channels that an access wakes; channels woken for a
  scrub lap that runs (R439). -/
  chans : Tab (List Nat) := []
  access : Tab Nat := []
  waking : List Nat := []
  lap : List Nat := []
  /-- Start of the scrub lap of an array that runs, ns (R438). -/
  lapAt : Tab Nat := []
  /-- Classifier and associative entries committed last, with the time: table index, record, ns (R444). -/
  commits : List (Nat × Nat × Nat) := []
  /-- Records of a twin standby that wait for the active's next group after a reload: index, record, since when (R442). -/
  reload : List (Nat × Nat × Nat) := []
  /-- The address that the scrubber of an array visits next, at the least (R436, R447). -/
  visit : Tab Nat := []
  /-- Corrections of the present clock: array, address, ns, and whether the scrubber read (R444). -/
  fixed : List (Nat × Nat × Nat × Bool) := []
  deriving DecidableEq, Repr

/-- The reader and the data of an uncorrectable read (Table 16-3); DMA_DESCRIPTOR_COMPLETE and DICT_READ carry codes 3, 4
and 15. -/
inductive MemUse where
  /-- 16: the scrubber; and what a parity error found in array 7 or 8 invalidates: table index and record (R441). -/
  | scrub
  | parity (index rcd : Nat)
  /-- 1 and 2: an instruction fetch or a data load of a control core, from the address `tval`. -/
  | fetch (core tval : Nat)
  | load (core tval : Nat)
  /-- 5: a packet at the head of a queue. -/
  | packet (dir q : Nat)
  /-- 6: the next item of replay `i`. -/
  | replay (i : Nat)
  /-- 6: the line at the tail of a replay ring, which a merge reads (R435). -/
  | tail (chan : Nat)
  /-- 7: a hash way, on chip or deep. -/
  | way (far : Bool) (i : Nat)
  /-- 8: ACTION or PRIORITY of a winning rule. -/
  | rule (bank r : Nat)
  /-- 9: an engine record with retained subindices. -/
  | record (index rcd : Nat)
  /-- 10: a coefficient set. -/
  | coef (r rate : Nat)
  /-- 11: a unicast or multicast key slot. -/
  | key (r slot : Nat)
  | mkey (p c slot : Nat)
  /-- 12: accumulator, tier pointers, drift filter, feeder offset, counter. -/
  | acc (ctx : Nat)
  | pointers (p c : Nat)
  | drift (r : Nat)
  | feeder (p c : Nat)
  | counter (index sub rcd : Nat)
  /-- 13: queue or node state. -/
  | queue (dir q : Nat)
  | node (dir n : Nat)
  /-- 14: Honeycomb SRAM: the section of the journal. -/
  | honey (sect : Nat)
  deriving DecidableEq, Repr

end Sys2Proof.Machine
end

