-- ==== Sys2Proof/Syntax.lean ====
section
/-! DEFINITION. The commands of the block: one constructor per row of the spec's table of operations and events. -/

namespace Sys2Proof
open Machine

/-- The commands. Ports, channels, pipelines, groups, cores and dies are bounded; record numbers and values are not,
and WellFormed says which of them the spec admits. Commands with operands stand before those without. -/
inductive Instr where
  /-- R458: A rail group is not in its windows 50 ms after its enable; both enables are dropped and power-up is retried after 1 s. -/
  | railEnableTimeout (rail : Fin 10)
  /-- R406: A rail stays outside its supervisor limit for 10 µs; the core is held in reset and PWR_SUPPLY is recorded for the next start. -/
  | railFault (rail : Fin 10) (since : Nat)
  /-- R413: The ROM selects a boot record, verifies the preferred slot and then the other, and boots the first slot that verifies or enters Recovery. -/
  | secureBoot (good0 good1 : Bool)
  /-- R386: The journal base and log are read, each domain section is restored or takes its factory defaults, and the dictionary opens. -/
  | honeycombRestore (header : Bool) (bad : List Nat)
  /-- R449: Phase 4 ends: the PLLs are locked, the DDR5 channels are trained and the memory layout is set. -/
  | pllDdrReady (sizes : List Nat)
  /-- R450: A PLL is still unlocked 10 ms into phase 4; phase 4 is repeated every 1 s. -/
  | pllLockRetry (locked : Fin 128)
  /-- R404: An enabled wake source (WAKE_N low for 1 ms, WAKE_AT reached, or PWR_LOW_N high) starts the device from Snowdrop. -/
  | snowdropWake (b : Fin 3) (since : Nat)
  /-- R29: A pipeline's ingress FIFO has been empty for 1 µs, so its clock stops. -/
  | pipelineIdleStop (n : Fin 8)
  /-- R29: A control core has been in wait-for-interrupt for 100 µs, so its clock stops. -/
  | coreIdleStop (k : Fin 8) (since : Nat)
  /-- R29: A DDR5 channel has had no access for 10 ms and enters self-refresh. -/
  | ddrSelfRefreshEntry (k : Fin 8)
  /-- R32: A DDR5 channel leaves self-refresh and the writes held in the staging area proceed. -/
  | ddrWakeComplete (k : Fin 8)
  /-- R43: A CH_CMD 0 write records target OFF and either changes the state at once or makes it pending for the next downstream frame boundary, as Table 2-3 sets out. -/
  | chCmdOff (p : Fin 64) (c : Fin 2)
  /-- R43: A CH_CMD 2 write records target DARK and, where Table 2-3 allows, starts WARMING or a pending change from LIT to DARK. -/
  | chCmdDark (p : Fin 64) (c : Fin 2)
  /-- R43: A CH_CMD 3 write records target LIT and, where Table 2-3 allows, starts WARMING or the change from DARK to LIT. -/
  | chCmdLit (p : Fin 64) (c : Fin 2)
  /-- R43: At the downstream frame boundary, a pending channel transition is applied according to the target recorded at that moment. -/
  | chPendingApply (p : Fin 64) (c : Fin 2)
  /-- R41: The transmit serialiser of a channel leaving WARMING locks; the channel is ready to send at the next frame boundary once the bias ramp is complete. -/
  | serialiserLocked (p : Fin 64) (c : Fin 2)
  /-- R43: WARM_TIMEOUT_S elapses in WARMING without settling, and the channel enters FAULT with cause 4. -/
  | warmTimeout (p : Fin 64) (c : Fin 2)
  /-- R64: A channel's transmit clock leaves its lock range; its output is squelched and the channel enters FAULT with cause 1. -/
  | txLossOfLock (p : Fin 64) (c : Fin 2)
  /-- R64: A die's PON PLL loses lock, and every channel of that die that is not OFF enters FAULT with cause 2. -/
  | ponPllUnlock (die : Fin 2)
  /-- R66: A write of TEST_MODE 0 ends the test on the channel under test. -/
  | testModeNone (p : Fin 64) (errors : Nat)
  /-- R66: A write of TEST_MODE 1 on an OFF channel starts PRBS31 transmission. -/
  | testModePrbsTx (p : Fin 64)
  /-- R66: A write of TEST_MODE 2 on an OFF channel starts the PRBS31 receive check using the default set of the highest rate. -/
  | testModePrbsRx (p : Fin 64)
  /-- R66: A write of TEST_MODE 3 on an OFF channel starts near-end loopback. -/
  | testModeLoopback (p : Fin 64)
  /-- R101: At t − 400 ns, or shifted by δ on a calibrated standby channel, the grant engine sends a burst notice to the port complex. -/
  | noticeIssue (p : Fin 64) (c : Fin 2)
  /-- R54: A burst notice reaches the port complex; it is queued or discarded, the receive clock is started and a preload is requested. -/
  | burstNotice (p : Fin 64) (c : Fin 2)
  /-- R57: The coefficient store delivers the set to the staging slot after its arbitration grant. -/
  | preloadComplete (die : Fin 2)
  /-- R55: At burst start the staging slot becomes the active set and preamble training begins, from the default set if the preload is late. -/
  | burstStart (p : Fin 64) (c : Fin 2)
  /-- R48: A delimiter with up to 3 bit errors is accepted in the guard window or quiet window, and the arrival offset is posted. -/
  | delimiterDetected (p : Fin 64) (c : Fin 2) (at' : Nat) (bitErrors front : Nat) (env : Envelope)
  /-- R59: The guard window closes without a delimiter; the burst is recorded lost-dark or lost-no-lock and the activation engine is told. -/
  | guardWindowClose (p : Fin 64) (c : Fin 2) (env : Envelope)
  /-- R51: The burst ends; the close code is sent, the slot is freed and the final set is sent to the calibration engine within 2 µs. -/
  | burstEnd (p : Fin 64) (c : Fin 2) (final eye : Nat)
  /-- R57: 16 ns after a burst end with no notice pending, the receive clock stops. -/
  | rxClockStop (p : Fin 64) (c : Fin 2)
  /-- R60: The framer deframes the burst header and compares its ONU-ID with the notice, handling wrong-source bursts. -/
  | burstHeaderCheck (p : Fin 64) (c : Fin 2) (correctable : Bool) (found : Nat) (ploamWaiting : Bool)
  /-- R471: The last burst of an upstream frame has its outcome, and loss of signal is judged for that frame. -/
  | frameOutcomesComplete (p : Fin 64) (c : Fin 2)
  /-- R61: At each frame end the unexpected-light detector judges the frame and sets or clears UNEXP_LIGHT after UNEXP_FRAMES frames. -/
  | unexpLightJudge (p : Fin 64) (c : Fin 2) (env : Envelope)
  /-- R72: The discovery cadence makes a quiet window due on a channel, to be placed in the next map with room. -/
  | quietWindowDue (p : Fin 64) (c : Fin 2)
  /-- R73: The framer decodes a delimiter found in a quiet window as a serial-number acquisition or as garbled. -/
  | quietWindowResponse (p : Fin 64) (c : Fin 2) (serial : Option Nat) (at' mic : Nat)
  /-- R68: PENDING_S elapses without approval, so the PENDING record is removed and SN_REJECTED is incremented. -/
  | pendingTimeout (r : Nat)
  /-- R77: A Registration PLOAM in a ranging window is checked against REG_ID, RTD and EqD are computed, and Ranging_Time is sent. -/
  | registrationReceived (p : Fin 64) (c : Fin 2) (regId arrival mic : Nat)
  /-- R77: A ranging window ends without a Registration PLOAM, so the attempt fails and is repeated or the ONU is deactivated. -/
  | rangingWindowEnd (p : Fin 64) (c : Fin 2)
  /-- R68: A verification burst or probe received inside its guard window moves the record to OPERATING and seeds its drift filter. -/
  | onuOperatingEntry (r start : Nat)
  /-- R84: The activation engine receives an arrival offset and holds it until the burst's header check. -/
  | actArrivalOffset (p : Fin 64) (c : Fin 2)
  /-- R84: After the header check passes, the offset is applied to the drift filter and a correction is issued when a threshold is met. -/
  | driftOffsetApply (r start : Nat)
  /-- R85: DRIFT_HOLD_FRAMES frames have passed since a correction, so offsets are applied again. -/
  | driftHoldEnd (r : Nat)
  /-- R87: The activation engine is told of a lost burst and advances the LOB, RERANGE and trial counts, with the state changes that follow. -/
  | actLostBurst (p : Fin 64) (c : Fin 2)
  /-- R88: A wrong-source message discards the held offset and increments ROGUE_COUNT of the found ONU. -/
  | actWrongSource (p : Fin 64) (c : Fin 2)
  /-- R87: LOST_PROBE_FRAMES frames have passed for a LOST ONU, so a presence probe is requested. -/
  | lostProbeDue (r : Nat)
  /-- R87: LOST_TIMEOUT_S after entry to LOST, the record goes to EMPTY with Deactivate_ONU-ID and cause 3. -/
  | lostTimeout (r : Nat)
  /-- R79: After the outcomes of a second are complete, step-up eligibility and step-down are evaluated and HOLDOFF_S is decremented. -/
  | stepEvaluation (r : Nat)
  /-- R89: ISO_FRAMES have passed for a scanned ONU, which is isolated or restored, and the scan ends or moves on. -/
  | rogueObservationEnd (p : Fin 64) (c : Fin 2)
  /-- R372: A write of FIND_SERIAL stores, per session, the serial number that FIND_RECORD searches for. -/
  | findSerial (session serial : Nat)
  /-- R99: The 128 maps are handed to the framers and the map digests are posted, by B_k − 4 µs. -/
  | mapHandover (computeNs : Nat)
  /-- R102: A map is not ready at B_k − 4 µs; the framer sends it without allocations, MAP_LATE is counted and GRANT_MAP_LATE is raised. -/
  | mapLate (p : Fin 64) (c : Fin 2)
  /-- R107: The framer passes a status report from a burst that passed its header check to the grant engine. -/
  | statusReport (r words map : Nat)
  /-- R108: The framer delivers the usage record of a grant for demand estimation. -/
  | usageRecord (r start : Nat)
  /-- R116: The activation engine posts a window, probe or verification request, or a rate or EqD change, to the grant engine. -/
  | actRequestPost (p : Fin 64) (c : Fin 2)
  /-- R129: The calibration engine receives a burst's final set and merges it when the burst qualifies, or counts it as skipped. -/
  | finalSetReceived (p : Fin 64) (c : Fin 2)
  /-- R132: Host software writes a coefficient set, which is checked and stored as Stored with an unmeasured reference. -/
  | coeffSetWrite (r : Nat) (rate : Fin 4) (set : Nat)
  /-- R157: An INVALIDATE write clears the valid bits of the sets named in the mask. -/
  | coeffInvalidate (r mask : Nat)
  /-- R157: A CLEAR_RXP write resets RXP_LAST, RXP_AVG, RXP_MIN and RXP_MAX of a record to 0x8000. -/
  | clearRxp (r : Nat)
  /-- R133: A set is written lazily to the Honeycomb snapshot, at most once in 60 s. -/
  | coeffSnapshot (r : Nat) (rate : Fin 4)
  /-- R135: A module power frame arrives and gives the received power of its burst. -/
  | powerFrameReceived (p : Fin 64) (c : Fin 2) (seq value : Nat) (parity : Fin 2)
  /-- R136: No sample has arrived by burst end plus 2 µs, so the final set is sent with NOT_MEASURED. -/
  | rxpSampleTimeout (p : Fin 64) (c : Fin 2)
  /-- R139: A searching channel ends a frame at one candidate offset and either locks to tracking or moves to the next candidate. -/
  | feederSearchFrame (p : Fin 64) (c : Fin 2)
  /-- R140: A tracking channel updates δ from the median offset, or is declared lost. -/
  | feederTrackFrame (p : Fin 64) (c : Fin 2)
  /-- R143: Each 1 ms the thermal loop reads TEMP, writes TEC_DRIVE and judges settling and hold loss. -/
  | thermalLoopSample (p : Fin 64) (c : Fin 2) (temp : Int)
  /-- R144: Each 100 µs on a LIT channel the bias loop updates BIAS from MPD_AVG. -/
  | biasLoopSample (p : Fin 64) (c : Fin 2) (mpdAvg : Nat)
  /-- R144: The bias loop resumes 1 ms after a ramp completes. -/
  | biasLoopResume (p : Fin 64) (c : Fin 2)
  /-- R145: Each 10 ms the extinction loop computes ER and updates MOD. -/
  | extinctionLoopSample (p : Fin 64) (c : Fin 2) (avg swing : Nat)
  /-- R146: BIAS or MOD has stood at a limit with excess error for 1 s, so the channel enters FAULT with cause 6. -/
  | loopLimitTimeout (p : Fin 64) (c : Fin 2)
  /-- R146: The module reports a laser safety trip, and the channel enters FAULT with cause 6. -/
  | laserSafetyTrip (p : Fin 64) (c : Fin 2)
  /-- R147: The module finishes ramping BIAS after a laser-on code. -/
  | laserRampComplete (p : Fin 64) (c : Fin 2)
  /-- R153: A module response frame arrives and is checked; a failure leads to a repeat of the command. -/
  | sbResponse (p : Fin 64) (status : Fin 4) (count : Fin 16) (data : List Nat) (crc : Nat) (stop : Bool)
  /-- R153: No response has begun within SB_TIMEOUT_US, so the command is repeated or counts toward the fault of cause 5. -/
  | sbTimeout (p : Fin 64)
  /-- R154: OSB_DI reads 0 for 64 clocks outside frames, so the module is absent and non-OFF channels enter FAULT with cause 3. -/
  | moduleAbsent (p : Fin 64)
  /-- R154: OSB_DI goes idle high and the chip starts reading MOD_ID, MOD_CAPS and the calibration block. -/
  | moduleDetected (p : Fin 64)
  /-- R154: The module identity read ends; MODULE_PRESENT and C1_FITTED are set, or the module is declared unknown. -/
  | moduleReadComplete (p : Fin 64) (modId caps : Nat) (cal0 cal1 : List Nat)
  /-- R159: At each frame boundary the framer builds the downstream frame: map, PLOAMs, XGEM frames, encryption with latched keys, and FEC. -/
  | dsFrameBuild (p : Fin 64) (c : Fin 2)
  /-- R160: A message is posted to the channel's PLOAM queue, or refused when the queue is full. -/
  | ploamPost (p : Fin 64) (c : Fin 2) (onu : Nat) (arg : Int)
  /-- R167: KEY_PERIOD_S elapses or a key is missing, so Key_Control is sent to an OPERATING ONU. -/
  | keyControlDue (r : Nat)
  /-- R167: A Key_Report reaches the security engine, which unwraps the key and installs it into the inactive slot. -/
  | keyReportReceived (r : Nat)
  /-- R168: No complete Key_Report arrives within 100 ms, so the exchange fails. -/
  | keyExchangeTimeout (r : Nat)
  /-- R169: A secure key message loads a multicast key into an inactive slot. -/
  | mcastLoad (m : Fin 8)
  /-- R169: A secure key message schedules activation of a multicast slot after DELAY_FRAMES. -/
  | mcastActivate (m : Fin 8)
  /-- R169: A secure key message loads an ONU's master session key. -/
  | mskLoad (m : Fin 8)
  /-- R169: A secure key message asks for an immediate key exchange with an ONU. -/
  | rekey (m : Fin 8)
  /-- R170: An upstream PLOAM is checked for integrity and routed by message type. -/
  | usPloam (p : Fin 64) (c : Fin 2) (onu start : Nat) (kind : UsPloam) (body : List Nat) (mic : Nat)
  /-- R172: An OMCI message from the transmit ring is checked, given its integrity code and sent, or queued behind an outstanding request. -/
  | omciRequest (r : Nat) (prio : Fin 2) (ar : Bool) (tci : Nat) (body : List Nat) (desc : Nat)
  /-- R173: No response arrives within OMCI_TIMEOUT_MS, so the request is retransmitted or returned as failed. -/
  | omciTimeout (r : Nat) (prio : Fin 2)
  /-- R174: An upstream OMCI message is checked and delivered, matched to its request or dropped as a duplicate. -/
  | omciRx (r : Nat) (prio : Fin 2) (ak : Bool) (tci : Nat) (body : List Nat) (mic : Nat)
  /-- R175: An upstream codeword is FEC-decoded and counted, with uncorrectable data discarded. -/
  | usCodeword (p : Fin 64) (c : Fin 2) (r start : Nat) (outcome : Fin 3) (xgems : List Nat)
  /-- R176: An upstream XGEM frame is checked, reassembled and handed as a complete packet to the pipeline. -/
  | usXgemFrame (p : Fin 64) (c : Fin 2) (r start alloc : Nat) (hec : Fin 3) (id keyIndex : Nat) (lf : Bool) (data : List Nat)
  /-- R176: A reassembly is not completed within REASM_TIMEOUT_US, so it fails and the partial packet is discarded. -/
  | reasmTimeout (x : Nat)
  /-- R178: The burst counts of an ONU's second are complete and the second is classified, with unavailable time recognised. -/
  | pmSecondClassify (r : Nat)
  /-- R180: At S + 11 s a second is committed to the 15-minute and 24-hour bins, with threshold alerts. -/
  | pmSecondCommit (r : Nat)
  /-- R180: A bin becomes previous at its end plus 11 s and the current bin restarts; the history is written when enabled.
  `bad` is the DDR5 channel and the address of a line that the line merger could not read (R435). -/
  | pmBinEnd (r : Nat) (day : Bool) (bad : Option (Fin 8 × Nat))
  /-- R181: A CLEAR_PM write clears an ONU's counts and discards its uncommitted seconds. -/
  | clearPm (r : Nat)
  /-- R189: A packet arrives at a pipeline's ingress FIFO and its buffer is allocated, or it is dropped or its source held. -/
  | ingressArrival (n : Fin 8) (link : Option (List Nat))
  /-- R186: A packet granted the input slot is parsed, classified, looked up, hashed and resolved into one enqueue decision. -/
  | pipelinePass (n : Fin 8)
  /-- R202: A recirculated packet wins the input slot and makes its second pass with the same bank. -/
  | recircPass (n : Fin 8)
  /-- R199: A write of beat 0–4 of a classifier entry goes into its shadow, or is refused if the entry is valid. -/
  | ruleBeatWrite (bank : Fin 2) (r : Nat) (beat : Fin 5) (data : Nat)
  /-- R199: Beat 5 with VALID 1 commits the shadow into all eight replicas in one clock, in a free commit slot. -/
  | ruleCommit (bank : Fin 2) (r action prio : Nat)
  /-- R199: Beat 5 with VALID 0 invalidates a classifier entry in one clock. -/
  | ruleInvalidate (bank : Fin 2) (r : Nat)
  /-- R205: An atomic write of a 32-bit indirection entry. -/
  | indirEntryWrite (i value : Nat)
  /-- R223: The home station handles a learning message: insert, confirm, hold or move, with quarantine on too many moves. -/
  | learnMessage (n : Fin 8)
  /-- R225: QUARANTINE_S after entry to quarantine, the entry is removed. -/
  | quarantineExpiry (form key : Nat)
  /-- R227: A LEARN frame from the twin peer is delivered to the home station as a local message. -/
  | learnFrameRx (f : CtrlIn) (loc key timeNs : Nat)
  /-- R211: A VALID 1 write commits an associative entry's shadow in one clock. -/
  | assocCommit (r : Nat)
  /-- R211: A VALID 0 write invalidates an associative entry. -/
  | assocInvalidate (r : Nat)
  /-- R234: ALLOC takes a buffer from the smallest fitting pool, with spill-up on an empty pool. -/
  | bufAlloc (pool : Nat) (reqs : List Nat) (frees : List (Nat × Nat))
  /-- R237: HANDOVER moves buffer ownership to another identity. -/
  | bufHandover (req ptr id : Nat) (same : List (Nat × BufOp))
  /-- R237: SHARE makes a buffer shared by k holders with a last owner. -/
  | bufShare (req ptr k id : Nat) (same : List (Nat × BufOp))
  /-- R237: RELEASE lowers a shared buffer's count and notifies the last owner at 1. -/
  | bufRelease (req ptr : Nat) (same : List (Nat × BufOp))
  /-- R237: FREE returns an owned buffer to its pool. -/
  | bufFree (req ptr : Nat) (same : List (Nat × BufOp))
  /-- R250: A line-level node takes a packet, and pick chooses and dequeues it through the hierarchy. -/
  | pick (dir : Fin 2) (line : Nat)
  /-- R247: A spilled packet's deep write completes and its on-chip buffer is freed. -/
  | spillWriteComplete (dir : Fin 2) (q : Nat)
  /-- R247: A packet read from a queue's deep part lands in a new on-chip buffer. -/
  | refillReadComplete (dir : Fin 2) (q : Nat)
  /-- R253: A launch head is still queued at L + LAUNCH_LATE_NS and is dropped. -/
  | launchLate (dir : Fin 2) (q : Nat)
  /-- R257: A replay-ring packet becomes older than WINDOW_MS and is discarded. -/
  | replayRingExpiry (k : Nat)
  /-- R258: At its pace a replay enqueues its next packet, or skips it if it has left the ring. -/
  | replayPacket (i : Nat)
  /-- R265: ENABLE 1 moves an uplink group to STARTING. -/
  | groupEnable (g : Fin 8)
  /-- R265: ENABLE 0 moves an uplink group to DISABLED at once. -/
  | groupDisable (g : Fin 8)
  /-- R265: The uplink PLL locks and the lanes start, moving the group to TRAINING or ALIGNING. -/
  | groupLanesStarted (g : Fin 8)
  /-- R265: All lanes are trained and the group enters ALIGNING. -/
  | groupTrained (g : Fin 8)
  /-- R265: TRAIN_TIMEOUT_MS elapses in TRAINING, so the group enters FAIL. -/
  | uplTrainFail (g : Fin 8) (lane : Fin 32)
  /-- R265: Alignment completes and the group enters UP. -/
  | groupAligned (g : Fin 8)
  /-- R265: After 1 s in FAIL the group retries from STARTING. -/
  | groupRetry (g : Fin 8)
  /-- R267: A received uplink frame passes the MAC checks and 802.1CB recovery before the pipeline. -/
  | macRxFrame (i : Fin 32) (data : List Nat) (fcsOk fecBad : Bool)
  /-- R268: A member's LINK changes, and a change from 1 to 0 is counted and raised. -/
  | uplLinkDown (i : Fin 32) (lock localFault remoteFault : Bool)
  /-- R274: An alignment or OTN defect is declared or cleared when its duration expires, updating signal fail. -/
  | otnDefectChange (e : Fin 40) (cond : OtnCond)
  /-- R275: A trail trace is received per multiframe, the accepted trace is updated and dTIM is evaluated. -/
  | ttiMultiframe (e : Fin 40) (tti : Nat)
  /-- R278: A GMP period's Cm is accepted or rejected, and OTN_GMP_FAIL follows three rejections. -/
  | gmpPeriod (i : Fin 32) (layer : Fin 2) (crcOk : Bool) (cm fill : Nat)
  /-- R279: An OTN second is classified near end and far end, and committed later into bins. -/
  | otnPmSecond (e : Fin 40) (blocks : Nat) (bips beis : List Nat)
  /-- R281: A far-end APS request is taken into request arbitration or counted as a mismatch. -/
  | apsReceived (j : Fin 16) (req : Fin 10) (trib : Fin 2)
  /-- R281: A defect has persisted for HOLDOFF_MS and becomes a request. -/
  | protHoldoffExpiry (j : Fin 16)
  /-- R281: WTR_S elapses, so wait to restore ends and the selector reverts. -/
  | wtrExpiry (j : Fin 16)
  /-- R281: COMMAND 0 clears LO, FS, MS and EXER. -/
  | protCmdClear (j : Fin 16)
  /-- R281: COMMAND 1 requests lockout of protection. -/
  | protCmdLockout (j : Fin 16)
  /-- R281: COMMAND 2 requests a forced switch. -/
  | protCmdForced (j : Fin 16)
  /-- R281: COMMAND 3 requests a manual switch. -/
  | protCmdManual (j : Fin 16)
  /-- R281: COMMAND 4 requests an exercise. -/
  | protCmdExercise (j : Fin 16)
  /-- R293: A PTP message is taken at the MAC, profile-checked and processed by its port. -/
  | ptpRx (k : Fin 33) (msg : List Nat) (tMac : Nat)
  /-- R294: announceReceiptTimeout expires on a port and its state changes under the BMCA. -/
  | ptpAnnounceTimeout (k : Fin 33)
  /-- R289: A TIME_SET write in FREE_RUN steps device time at the next frame boundary. -/
  | timeSet (t : Nat)
  /-- R301: A PPS_IN edge is timestamped and its offset is computed. -/
  | ppsInEdge (t : Nat)
  /-- R298: An ESMC message updates a lane source's QL and the selection. -/
  | esmcRx (i : Fin 32) (ql : Fin 16)
  /-- R298: A source receives no ESMC for 5 s and becomes QL-FAILED. -/
  | esmcTimeout (l : Fin 32)
  /-- R298: A source has been valid for WTR_S and enters selection. -/
  | synceWtrExpiry (k : Fin 37)
  /-- R298: ESMC is sent once per second on every Ethernet member, or at once on a QL change. -/
  | esmcTx (i : Fin 32)
  /-- R312: A BEAT from the peer updates the peer faults and the confirmation of applied groups. -/
  | beatRx (f : CtrlIn) (role st faults sent applied : Nat)
  /-- R315: A peer HELLO is checked for compatibility, the chips authenticate and roles are computed. -/
  | helloRx (f : CtrlIn) (h : Hello) (auth : Bool)
  /-- R318: A MIRROR frame is held as part of a critical group, or a lazy record is applied at once. -/
  | mirrorRx (f : CtrlIn) (lazy : Bool) (entries : List MirEntry)
  /-- R321: A COMMIT arrives; the group is applied as one unit or discarded and resend is requested. -/
  | commitRx (f : CtrlIn) (k frames entries crc : Nat)
  /-- R321: A peer request to resend a kept commit group. -/
  | resendRx (f : CtrlIn) (k : Nat)
  /-- R317: A peer request for a bulk copy of the critical state. -/
  | resyncRx (f : CtrlIn)
  /-- R312: A FEEDER message carries δ and RT_CORR_PS of the peer's channels. -/
  | feederRx (f : CtrlIn) (chans : List (Nat × Int × Int))
  /-- R331: A SUSPECT declaration is received from the peer. -/
  | suspectRx (f : CtrlIn) (cause : Nat)
  /-- R328: At B_k + 40 µs the twins compare map digests and count or excuse mismatches. -/
  | mapCompare (k : Nat) (peer : List Nat)
  /-- R329: A peer span set is compared with the chip's own, and stream counters are aligned or mismatches attributed. -/
  | spanCompare (k : Nat) (peerNonWhole : List (Nat × Nat)) (peer : List SpanEnt)
  /-- R327: The peer's counterpart of a digest set has not arrived within 1 ms. -/
  | digestMissing (span : Bool) (k : Nat)
  /-- R333: The standby receives YIELD n, writes CH_CMD 3 and closes maps on active timing. -/
  | yieldRx (f : CtrlIn) (n cause : Nat)
  /-- R334: A peer announces that it has taken over from frame n. -/
  | takenRx (f : CtrlIn) (n : Nat)
  /-- R340: A GZ3216 heartbeat or snapshot datagram is taken on MGMT and fills or validates a slot. -/
  | legacyDatagram (port ip kind seq offset total : Nat) (data : List Nat)
  /-- R346: A control core reset applies the same cleanup for that core's identity. -/
  | coreReset (k : Fin 8)
  /-- R349: Host software advances DMA_TAIL, giving descriptors to the device. -/
  | dmaTailWrite (c : Fin 16) (tail : Nat) (descs : List Desc)
  /-- R350: A write of the DMA ENABLE bit starts or stops a channel. -/
  | dmaEnable (c : Fin 16) (on : Bool)
  /-- R351: A write of RESTART clears HALTED and resumes the channel at DMA_HEAD. -/
  | dmaRestart (c : Fin 16)
  /-- R349: A descriptor finishes; its status is written, OWN is cleared and DMA_HEAD advances. -/
  | dmaDescriptorComplete (c : Fin 16) (err : Fin 5) (a addr : Nat)
  /-- R347: A write-one-to-clear of a cause bit resends the MSI-X message while another enabled cause remains set. -/
  | irqCauseClear (src : Fin 115) (mask : Nat)
  /-- R354: A read of MBX_SEND posts the caller's STAGE into the lowest free slot, or returns full or refused. -/
  | mbxSend (m : Fin 64) (reqs : List Nat)
  /-- R353: A read of MBX_RECV by the receiver takes the oldest posted message. -/
  | mbxRecv (m : Fin 64) (who : Nat)
  /-- R353: MBX_DONE with action release frees a taken slot that has WANT_REPLY 0. -/
  | mbxDoneRelease (m : Fin 64) (k : Fin 16) (who : Nat) (same : List (Nat × MbxOp))
  /-- R353: MBX_DONE with action reply turns a taken slot into a reply to its sender. -/
  | mbxDoneReply (m : Fin 64) (k : Fin 16) (who : Nat) (same : List (Nat × MbxOp))
  /-- R353: A read of MBX_REPLY returns the caller's oldest reply or timeout. -/
  | mbxReply (m : Fin 64) (who : Nat)
  /-- R353: A write of MBX_FREE by the sender erases and frees its replied slot. -/
  | mbxFree (m : Fin 64) (k : Fin 16) (who : Nat) (same : List (Nat × MbxOp))
  /-- R358: A clear-on-read of MBX_FLUSHED returns and clears the caller's discard count. -/
  | mbxFlushedRead (m : Fin 64) (who : Nat)
  /-- R355: A message's timeout window ends, so it becomes a timed-out reply to its sender. -/
  | mbxTimeout (m : Fin 64) (k : Fin 16)
  /-- R362: A write ORs bits into a doorbell, records the ringer and signals the target. -/
  | dblRing (d : Fin 256) (writes : List (Nat × Nat))
  /-- R362: A read of DBL_PEND by the target returns and clears the pending word. -/
  | dblPendRead (d : Fin 256) (who : Nat)
  /-- R363: A read of LCK_ACQUIRE tries to take a lock and returns the owner. -/
  | lckAcquire (n : Fin 128) (reqs rels : List Nat)
  /-- R364: A write of LCK_ACQUIRE releases the lock when made by the owner, and is counted as a bad release otherwise. -/
  | lckRelease (n : Fin 128) (who : Nat)
  /-- R365: A host write of LCK_FORCE releases the named lock whatever its owner. -/
  | lckForce (who v : Nat)
  /-- R366: A BAR2 table-window write applies its record change unit by unit, with the dictionary's checks. -/
  | tbwWrite (off : Nat) (data : List Nat)
  /-- R345: A write of a BAR register that has no behaviour of its own, or of a reserved range, which is discarded and counted. -/
  | barRegisterWrite (sec : Bool) (who off size val : Nat) (descs : List Desc)
  /-- R374: A READ request returns a value or a segment of its snapshot. -/
  | dictRead (q : DictReq) (ue : Option (Nat × Nat))
  /-- R372: A WRITE request is checked in order and applied at once, queued for a boundary or held in a transaction. -/
  | dictWrite (q : DictReq)
  /-- R373: A NEXT request returns the lowest existing record at or above the one given. -/
  | dictNext (q : DictReq)
  /-- R375: A DESCRIBE request returns a subindex's type, access class, size and record counts. -/
  | dictDescribe (q : DictReq)
  /-- R385: A secure READ request (opcode 0x81) on a secure channel. -/
  | secureDictRead (part : Bool) (q : DictReq) (ue : Option (Nat × Nat))
  /-- R385: A secure WRITE request (opcode 0x82), the only path for RWS writes. -/
  | secureDictWrite (part : Bool) (q : DictReq)
  /-- R385: A secure NEXT request (opcode 0x83). -/
  | secureDictNext (part : Bool) (q : DictReq)
  /-- R385: A secure DESCRIBE request (opcode 0x84). -/
  | secureDictDescribe (part : Bool) (q : DictReq)
  /-- R379: LEASE_CMD 1 takes the lease when there is no owner, or renews it for the owner. -/
  | leaseTake (k : Fin 9)
  /-- R379: LEASE_CMD 2 by the owner extends the lease. -/
  | leaseRenew (k : Fin 9)
  /-- R379: LEASE_CMD 3 by the owner releases the lease and aborts its transaction. -/
  | leaseRelease (k : Fin 9)
  /-- R381: The owner opens a transaction whose writes become held members. -/
  | txnBegin (k : Fin 9)
  /-- R382: The owner ends the adding of members, and validation is queued for the next frame boundary. -/
  | txnCommit (k : Fin 9)
  /-- R383: The owner discards the open transaction. -/
  | txnAbort (k : Fin 9)
  /-- R388: The owner replaces the journal with factory contents in flash. -/
  | factoryRestore (k : Fin 9)
  /-- R387: Accepted RWK writes are written to the flash log, with failure counted and retried. -/
  | journalWrite (ok : Bool) (fill : Nat)
  /-- R410: When the log passes 75 % fill a new base is written, and it becomes current when its header is written. -/
  | journalBaseWrite (ok : Bool) (erases : Nat)
  /-- R391: An OPEN datagram opens an MGMT session and derives its key, or is refused. -/
  | votOpen (dip dport ip port : Nat) (data : List Nat)
  /-- R392: A REQUEST datagram is authenticated, sequence-checked and processed, or answered again from the kept reply. -/
  | votRequest (dip dport ip port : Nat) (data : List Nat) (ue : Option (Nat × Nat))
  /-- R391: A CLOSE datagram from the client closes its session. -/
  | votClose (dip dport ip port : Nat) (data : List Nat)
  /-- R380: A write of a session's CLOSE object closes it, which acts as a release. -/
  | sessionClose (k : Fin 9) (i : Fin 8)
  /-- R389: A change of MGMT addressing closes every MGMT session after the reply. -/
  | mgmtAddrWrite (k : Fin 9) (f : Fin 5) (v : Nat)
  /-- R414: A chunk write into the inactive slot, erasing it first when installation starts. -/
  | imageChunk (i data : Nat)
  /-- R414: A write of BOOT_PREF writes the next boot record for a valid slot. -/
  | bootPrefWrite (v : Nat)
  /-- R424: A debug token is checked and, if accepted, sets the debug level until expiry. -/
  | debugToken (token : List Nat)
  /-- R418: The SPDM GET_VERSION request is answered. -/
  | spdmGetVersion (l : Fin 2)
  /-- R418: The SPDM GET_CAPABILITIES request is answered. -/
  | spdmGetCapabilities (l : Fin 2)
  /-- R418: The SPDM NEGOTIATE_ALGORITHMS request is answered. -/
  | spdmNegotiateAlgorithms (l : Fin 2)
  /-- R418: The SPDM GET_DIGESTS request is answered. -/
  | spdmGetDigests (l : Fin 2)
  /-- R418: The SPDM GET_CERTIFICATE request returns a certificate chain. -/
  | spdmGetCertificate (l : Fin 2) (slot offset length : Nat)
  /-- R418: The SPDM CHALLENGE request is answered with a signature. -/
  | spdmChallenge (l : Fin 2) (slot nonce : Nat)
  /-- R418: The SPDM GET_MEASUREMENTS request returns the measurement blocks. -/
  | spdmGetMeasurements (l : Fin 2) (index : Nat) (sign : Bool) (nonce : Nat)
  /-- R418: The SPDM KEY_EXCHANGE request starts a secured session. -/
  | spdmKeyExchange (l : Fin 2) (nonce : Nat)
  /-- R418: The SPDM FINISH request completes a secured session, which decodes BAR4 for the host. -/
  | spdmFinish (l : Fin 2) (verified : Bool)
  /-- R418: The SPDM HEARTBEAT request keeps a session alive. -/
  | spdmHeartbeat (l : Fin 2)
  /-- R418: No heartbeat arrives within the 60 s period, so the session ends. -/
  | spdmHeartbeatMissed (l : Fin 2)
  /-- R418: The SPDM KEY_UPDATE request updates the session keys. -/
  | spdmKeyUpdate (l : Fin 2)
  /-- R418: The SPDM END_SESSION request ends a session. -/
  | spdmEndSession (l : Fin 2)
  /-- R436: A scrubber reads one location in an idle port clock and checks its code. -/
  | scrubAccess (a : Fin 19) (addr : Nat) (finding : Fin 3) (n lane : Nat) (use : MemUse)
  /-- R437: The corrected data is written back, or the write-back is abandoned after an intervening write. -/
  | scrubWriteback (a : Fin 19) (user : Option Nat)
  /-- R438: A scrub lap ends; LAP_MS is recorded and the lap alarm is set or cleared. -/
  | scrubLapEnd (a : Fin 19)
  /-- R439: A channel's self-refresh time since its last lap reaches SCRUB_WAKE_H, so the scrubber wakes it for a lap. -/
  | scrubWake (k : Fin 8)
  /-- R445: A write of INJ_ARM 1 arms one error injection at INJ_ADDR. -/
  | injArm (hit : Bool)
  /-- R16: A write of a CLEAR object clears its listed counters in one clock. -/
  | counterClear (index sub r : Nat)
  /-- R465: The highest die has been at or above TJ_WARN_C for 1 s, so the warning is raised and ALERT bit 0 is set. -/
  | pwrThermalWarn (die : Fin 3) (temp : Int) (since : Nat)
  /-- R465: A die has been at or above the trip temperature for 1 ms, so rails 2–9 are dropped without a journal flush. -/
  | thermalTrip (die : Fin 3) (temp : Int) (since : Nat)
  /-- R292: At the profile's message rates the time unit sends Announce, Sync or Delay_Req on a PTP port. -/
  | ptpMessageTx (k : Fin 33) (kind : PtpTx) (tMac : Nat)
  /-- R425: An IEEE 1149.1 instruction loaded through the TAP pins selects BYPASS, IDCODE, the token register, boundary scan or debug access, as the state permits. -/
  | tapInstruction (ir : Fin 6)
  /-- R389: The MGMT port receives an ARP, IPv6 neighbour discovery or ICMP echo frame and answers it, and drops any other frame that is not Volold Object Transport. -/
  | arpNdEchoRx (data : List Nat)
  /-- R465: The highest die temperature falls below TJ_WARN_C − 5 °C and the thermal warning is re-armed. -/
  | thermalRearm (temp : Int)
  /-- R465: After a thermal trip, the Snowdrop sensor reads below TJ_WARN_C − 10 °C and wake sources are honoured again. -/
  | tripCoolDown (temp : Int)
  /-- R253: Device time reaches L − LEAD for a held launch head, which becomes eligible so that pick can dequeue it. -/
  | launchTimeReached (dir : Fin 2) (q : Nat) (ready : Bool)
  /-- R249: A shaper's refilled tokens reach 0, making a backlogged node or queue eligible again for pick. -/
  | shaperRefill (dir : Fin 2) (isQ : Bool) (n : Nat) (ready : Bool)
  /-- R448: All core rails reach their supervisor windows and PG_B has been high for 1 ms, which sets T0 and starts the start-up sequence at phase 1. -/
  | powerGood
  /-- R458: PG_A goes high with rails 2–6 in their windows; after 1 ms the Snowdrop domain drives PWR_EN_B for rails 7–9. -/
  | pgAHigh
  /-- R455: A SYS_RST_N pulse of at least 1 µs starts the device at phase 2 with the rails left on. -/
  | sysRst (since : Nat)
  /-- R455: A PCIe fundamental reset starts the device at phase 2 with the rails left on. -/
  | pcieFundamentalReset
  /-- R455: A write of RESTART flushes the journal and then starts the device at phase 2. -/
  | restart
  /-- R449: Phase 1 ends: the crystal runs, the fuses have been read and core reset is released. -/
  | snowdropPhaseEnd
  /-- R452: A warm-up wave starts at a thermal sample once the TEC-current condition holds or WAVE_MAX_MS has passed, and its channels with target 2 or 3 enter WARMING. -/
  | waveStart
  /-- R453: Phases 1–4 are complete, the twin role is settled and the last wave has started, so POWER_STATE becomes Full or Trim. -/
  | startUpEnd
  /-- R399: POWER_CMD 1 requests a return from Trim to Full. -/
  | powerCmdFull
  /-- R399: POWER_CMD 2 requests entry to Trim from Full at the next frame boundary. -/
  | powerCmdTrim
  /-- R403: POWER_CMD 3 starts Snowdrop entry: lasers off, heartbeat stopped, journal flushed, PCIe link down, core rails off. -/
  | powerCmdSnowdrop
  /-- R399: PWR_LOW_N has been low for 10 ms with TRIM_AUTO 1, so Full moves to Trim. -/
  | pwrLowEntry (since : Nat)
  /-- R399: PWR_LOW_N has been high for TRIM_EXIT_S with TRIM_AUTO 1, so Trim moves to Full. -/
  | pwrLowExit (since : Nat)
  /-- R400: At the first frame boundary after the Trim trigger, packets are steered away from PL2, PL3, PL6 and PL7 and the uplink groups outside TRIM_UPLINKS are disabled. -/
  | trimSteering
  /-- R400: The four Trim pipelines are empty; the learning home map takes its Trim form and the pipelines are powered off. -/
  | trimPipelinesDrained
  /-- R401: The classifier replicas have been copied from PL0; steering returns to Full at the next frame boundary and the home map is restored. -/
  | replicaCopyComplete
  /-- R403: The core rails are off and only the Snowdrop rail remains; PWR_SLOW is raised if entry took longer than 300 ms. -/
  | snowdropEntryComplete
  /-- R92: A queued write to an ONU record is checked and applied at the frame boundary, and its reply follows. -/
  | onuWriteApply
  /-- R92: A DELETE of an ONU record removes it at the next frame boundary, if its state allows. -/
  | onuDelete
  /-- R114: At B_k − 15 µs the inputs are frozen and each channel's map is computed by tiers and laid out. -/
  | mapClose
  /-- R109: The traffic manager posts a cooperative hint, which is assigned to the map whose span holds τ or is discarded as late. -/
  | hintPost
  /-- R105: A queued write to a context record is checked and applied at the frame boundary. -/
  | contextWriteApply
  /-- R105: A DELETE of a context record removes it at the next frame boundary, if ADMIN is 0. -/
  | contextDelete
  /-- R125: A CAP_ARM write arms capture of the next map of the chosen channel, which is copied at its handover. -/
  | mapCaptureArm
  /-- R185: A queued write to an XGEM context record is checked and applied at the frame boundary. -/
  | xgemWriteApply
  /-- R185: A DELETE of an XGEM record removes it at the next frame boundary, if ADMIN is 0. -/
  | xgemDelete
  /-- R201: A SWAP write, accepted only while idle, changes the active bank at instant S and starts draining the old bank. -/
  | swap
  /-- R203: INFLIGHT_OLD reaches 0, so SWAP_STATE returns to 0 and the event names the writable bank. -/
  | clsSwapDone
  /-- R217: A deep-memory read for a FAR key completes and the entry is copied into an on-chip way, or nothing changes. -/
  | promotionComplete
  /-- R226: AGE_PERIOD_S elapses and an aging pass begins its visits. -/
  | agingPassStart
  /-- R226: An aging pass finishes its last bucket; FAR flags are recomputed and a late next pass may start. -/
  | agingPassEnd
  /-- R231: OP_CODE 1 looks up a hash entry by key and sets OP_FOUND. -/
  | fwdFind
  /-- R231: OP_CODE 2 inserts a hash entry by key. -/
  | fwdAdd
  /-- R231: OP_CODE 3 deletes a hash entry by key. -/
  | fwdDelete
  /-- R231: OP_CODE 4 starts removal of every non-static entry at a location. -/
  | fwdFlush
  /-- R231: A FLUSH finishes removing its entries. -/
  | fwdFlushComplete
  /-- R243: The traffic manager takes an enqueue decision: queue choice, policing, replication, admission and spill. -/
  | enqueueDecision
  /-- R258: A JOIN_GO write starts a paced replay of the channel window onto the join queue. -/
  | joinGo
  /-- R259: A CAP_ARM write of 1 starts burst capture until the trigger plus CAP_POST or until the region is full. -/
  | burstCaptureArm
  /-- R284: Uplink capacity has stayed below or above ESC_MIN_GBPS for ESC_HOLD_MS, so escalation is raised or cleared. -/
  | escHoldExpiry
  /-- R295: A Sync or PPS_IN edge updates the servo, its state and the requested correction. -/
  | servoUpdate
  /-- R289: At the next frame boundary device time is stepped by −θ, the epoch is adjusted and TOD_INFO is recomputed. -/
  | timeStep
  /-- R295: The holdover time reaches HOLDOVER_SPEC_S and the servo enters HOLDOVER_OUT. -/
  | holdoverSpecExpiry
  /-- R288: At each device second the Snowdrop counter is rewritten, PPS_OUT fires and TOD_INFO is recomputed. -/
  | secondBoundary
  /-- R302: No PPS_IN edge falls in the window around three consecutive seconds, so the input is lost. -/
  | timePpsInLost
  /-- R298: 300 ms after the selected source fails, the selector reselects or enters holdover. -/
  | synceFailHoldoff
  /-- R312: Every BEAT_US the twin unit sends a BEAT with its role, state, faults and groups. -/
  | beatSend
  /-- R313: No BEAT arrives for BEAT_US × BEAT_MISS; together with HB_IN this leads to a take-over or a link-lost state. -/
  | beatLost
  /-- R313: No heartbeat edge falls in a 4 µs window. -/
  | hbInLost (edge : Nat)
  /-- R313: Eight heartbeat edges arrive in a row with no gap. -/
  | hbInPresent (edges : List Nat)
  /-- R315: SEEK_S passes without a HELLO and with HB_IN lost, so the chip enters ALONE. -/
  | seekTimeout
  /-- R319: The standby has not confirmed a write's group within 1 ms, so the result returns and MIRROR_UNCONFIRMED is counted. -/
  | mirrorConfirmTimeout
  /-- R322: The standby closes map k when group k is applied, or at B_k + 5 µs at the latest. -/
  | standbyMapClose
  /-- R332: COMMAND 1 starts a hand-over to an eligible standby. -/
  | twinSwitchCmd
  /-- R332: COMMAND 2 forces a hand-over or take-over. -/
  | twinForce
  /-- R331: COMMAND 3 ends the SUSPECT state. -/
  | clearSuspect
  /-- R321: COMMAND 4 requests a resynchronisation. -/
  | twinResyncCmd
  /-- R341: COMMAND 5 restores the newest valid GZ3216 snapshot and lights the mapped channels. -/
  | legacyTakeover
  /-- R333: At B_n the old active stops being active and enters STANDBY. -/
  | handoverFrame
  /-- R341: No GZ3216 heartbeat arrives for LEGACY_TIMEOUT_MS, so the snapshot is restored and the channels are lit. -/
  | legacyTimeout
  /-- R346: A host function reset disables DMA, flushes mailboxes, releases locks and clears doorbells and the secure session. -/
  | hostReset
  /-- R361: The secured session ends; the host's secure mailbox slots are erased and the session-ended cause is set. -/
  | spdmSessionEnd
  /-- R377: At the frame boundary, queued writes are checked and applied in arrival order and their replies sent. -/
  | dictQueuedWriteApply
  /-- R380: The lease reaches its end, so there is no owner and the open transaction is aborted. -/
  | dictLeaseLapsed
  /-- R382: At the boundary every member is validated and all are applied, or none with the failing member reported. -/
  | txnCommitApply
  /-- R411: Every CAL_FLUSH_H hours, and at Snowdrop entry or RESTART, the calibration section is copied to flash. -/
  | calFlush
  /-- R391: VOT_IDLE_S passes without a verified datagram and the session closes. -/
  | votIdleTimeout
  /-- R414: The inactive slot is verified and INACTIVE_STATE is set. -/
  | imageVerify
  /-- R414: A write confirms the trial image and clears TRIAL. -/
  | imageConfirm
  /-- R414: TRIAL_S passes without confirmation, so the device restarts from the other slot. -/
  | trialTimeout
  /-- R415: The rollback fuses are raised to the running image's index. -/
  | rollbackCommit
  /-- R420: LIFECYCLE_CMD 1 moves Factory to Secured and burns fuses. -/
  | lifecycleSecure
  /-- R420: LIFECYCLE_CMD 2 with a permitting token moves the device to Return and erases the retained data. -/
  | lifecycleReturn
  /-- R420: LIFECYCLE_CMD 3 moves the device to Retired and erases its identity. -/
  | lifecycleRetire
  /-- R422: A write lowers the debug level to None until the next start. -/
  | debugEnd
  /-- R424: A token reaches EXPIRY and the debug level ends. -/
  | debugExpiry
  /-- R424: Once per hour, and at Snowdrop entry, TIME_HWM is saved into the sealed section. -/
  | timeHwmSave
  /-- R462: A clear-on-read of the ALERT register over I3C or I2C returns and clears the alert bits. -/
  | bmcAlertRead
  /-- R458: The always-on rails 0 and 1 reach their windows and the Snowdrop domain drives PWR_EN_A high to begin power-up. -/
  | snowdropPowerOn
  /-- R458: The 1 s wait after a failed group enable or a rail fault ends, and the Snowdrop domain tries power-up again. -/
  | railRetry
  /-- R315: Each millisecond in SEEKING, and each second in INCOMPATIBLE, the twin unit sends HELLO. -/
  | helloSend
  /-- R330: The 1 s window of a MAP_LATE or uncorrectable-memory local fault indication ends and its LOCAL_FAULTS bit clears. -/
  | localFaultExpiry
  /-- R318: Over each LAZY_MS window the active sends its lazy records to the standby. -/
  | lazyRecordSend
  /-- R29: The PCIe link enters L1 and the host-interface clock stops, keeping its state. -/
  | pcieL1Entry
  /-- R29: A PCIe wake brings the link out of L1 and restarts the host-interface clock. -/
  | pcieWake
  deriving DecidableEq, Repr

end Sys2Proof
end

