-- ==== Sys2Proof/Decode.lean ====
section
/-! DEFINITION. Words to commands, by the bits of the spec's table. -/

namespace Sys2Proof

/-- Bits that a row of the spec's table gives its command, with the command: no row gives any.
Log: 11 DEDUCED. -/
def tableRows : List (Nat × Nat × Instr) := []

/-- The command that a word spells by the table's bits. -/
def decodeTableWord (nbits w : Nat) : Option Instr :=
  (tableRows.find? (fun r => r.1 == nbits && r.2.1 == w)).map (fun r => r.2.2)

end Sys2Proof
end

