-- ==== Sys2Proof/Machine/Crc.lean ====
section
/-! DEFINITION. The CRCs of the spec and the byte order of fields in messages. -/

namespace Sys2Proof.Machine

/-- One bit step of a reflected CRC register. -/
def crcBit (poly r : Nat) : Nat := if r % 2 = 1 then Nat.xor (r / 2) poly else r / 2

/-- One byte of a reflected CRC. -/
def crcByte (poly r b : Nat) : Nat :=
  (List.range 8).foldl (fun r _ => crcBit poly r) (Nat.xor r (b % 256))

/-- A reflected 32-bit CRC with initial value 0xFFFF_FFFF and complemented result. -/
def crcReflected (poly : Nat) (l : List Nat) : Nat :=
  Nat.xor (l.foldl (crcByte poly) 0xFFFFFFFF) 0xFFFFFFFF

/-- CRC-32 of IEEE 802.3 (R122). -/
def crc32 (l : List Nat) : Nat := crcReflected 0xEDB88320 l

/-- CRC-32C of RFC 3720. -/
def crc32c (l : List Nat) : Nat := crcReflected 0x82F63B78 l

/-- The `n` bits of a field, most significant bit first. -/
def msBits (n v : Nat) : List Nat := (List.range n).map (fun k => v / 2 ^ (n - 1 - k) % 2)

/-- CRC-8 over bits, first bit first: polynomial 0x07, initial 0x00 (Table 5-6). -/
def crc8 (l : List Nat) : Nat :=
  l.foldl (fun r b => Nat.xor (r * 2 % 256) (if (r / 128 + b) % 2 = 1 then 0x07 else 0)) 0

/-- The `n` bytes of a field, most significant byte first. -/
def beBytes : Nat → Nat → List Nat
  | 0, _ => []
  | n + 1, v => v / 256 ^ n % 256 :: beBytes n v

/-- The `n` bytes of a field, least significant byte first. -/
def leBytes : Nat → Nat → List Nat
  | 0, _ => []
  | n + 1, v => v % 256 :: leBytes n (v / 256)

/-- A number from bytes, most significant first. -/
def ofBe (l : List Nat) : Nat := l.foldl (fun n b => n * 256 + b % 256) 0

/-- A number from bytes, least significant first. -/
def ofLe : List Nat → Nat
  | [] => 0
  | b :: t => b % 256 + 256 * ofLe t

end Sys2Proof.Machine
end

