-- ==== Sys2Proof/Machine/ObjectsA.lean ====
section
/-! DEFINITION. The object descriptors of chapters 02, 03, 04, 05 of the spec, one per row of its object tables. -/

namespace Sys2Proof.Machine


/-! Pon : Table 2-9. Per-port objects (02_pon_port_complex.md). -/
def Pon.MODULE_PRESENT : Obj := Obj.row 0x3000 16 64 0 1 0x01 0 0 .bool .ro (.c 0) [(0, 1)] .none false
def Pon.C1_FITTED : Obj := Obj.row 0x3000 16 64 0 1 0x02 0 0 .bool .ro (.c 0) [(0, 1)] .none false
def Pon.CH_CMD : Obj := Obj.row 0x3001 16 64 1 2 0x01 0 0 .u8 .rwk (.c 0) [(0, 0), (2, 2), (3, 3)] .none false
def Pon.TX_INVERT : Obj := Obj.row 0x3001 16 64 1 2 0x02 0 0 .bool .rwk (.c 0) [(0, 1)] .none false
def Pon.RX_INVERT : Obj := Obj.row 0x3001 16 64 1 2 0x03 0 0 .bool .rwk (.c 0) [(0, 1)] .none false
def Pon.GUARD_NS : Obj := Obj.row 0x3001 16 64 1 2 0x04 0 0 .u16 .rwk (.c 64) [(32, 256)] .none false
def Pon.WINDOW_NS : Obj := Obj.row 0x3001 16 64 1 2 0x05 0 0 .u8 .rwk (.c 16) [(2, 64)] .none false
def Pon.STATE : Obj := Obj.row 0x3003 16 64 1 2 0x01 0 0 .u8 .ro (.c 0) [(0, 4)] .none false
def Pon.FAULT_CAUSE : Obj := Obj.row 0x3003 16 64 1 2 0x02 0 0 .u8 .ro (.c 0) [(0, 6)] .none false
def Pon.LOS : Obj := Obj.row 0x3003 16 64 1 2 0x03 0 0 .bool .ro (.c 0) [(0, 1)] .none false
def Pon.RX_LOL : Obj := Obj.row 0x3003 16 64 1 2 0x04 0 0 .bool .ro (.c 0) [(0, 1)] .none false
def Pon.UNEXP_LIGHT : Obj := Obj.row 0x3003 16 64 1 2 0x05 0 0 .bool .ro (.c 0) [(0, 1)] .none false
def Pon.DEF_12G : Obj := Obj.row 0x3005 16 64 0 1 0x01 0 0 (.octets 24) .rwk (.c 18014398509482182) [] .none false
def Pon.DEF_25G : Obj := Obj.row 0x3005 16 64 0 1 0x02 0 0 (.octets 24) .rwk (.c 1461501637330902918203684832716301034054442025158) [] .none false
def Pon.DEF_50G : Obj := Obj.row 0x3005 16 64 0 1 0x03 0 0 (.octets 24) .rwk (.c 2923003274661805836407369665432584053710374568134) [] .none false
def Pon.DEF_10G : Obj := Obj.row 0x3006 16 64 0 1 0x01 0 0 (.octets 24) .rwk (.c 4384504911992708754611054498148867073366307111110) [] .none false
def Pon.BURSTS_OK : Obj := Obj.row 0x3007 16 64 1 2 0x01 0 0 .u64 .ro (.c 0) [] .wrap false
def Pon.BURSTS_LOST : Obj := Obj.row 0x3007 16 64 1 2 0x02 0 0 .u32 .ro (.c 0) [] .sat false
def Pon.WRONG_SOURCE : Obj := Obj.row 0x3007 16 64 1 2 0x03 0 0 .u32 .ro (.c 0) [] .sat false
def Pon.LATE_PRELOAD : Obj := Obj.row 0x3007 16 64 1 2 0x04 0 0 .u32 .ro (.c 0) [] .sat false
def Pon.NOTICE_DISCARD : Obj := Obj.row 0x3007 16 64 1 2 0x05 0 0 .u32 .ro (.c 0) [] .sat false
def Pon.UNEXP_LIGHT_EVENTS : Obj := Obj.row 0x3007 16 64 1 2 0x06 0 0 .u32 .ro (.c 0) [] .sat false
def Pon.DELIM_CORRECTED : Obj := Obj.row 0x3007 16 64 1 2 0x07 0 0 .u32 .ro (.c 0) [] .wrap false
def Pon.CDR_NO_LOCK : Obj := Obj.row 0x3007 16 64 1 2 0x08 0 0 .u32 .ro (.c 0) [] .sat false
def Pon.WARM_BURSTS : Obj := Obj.row 0x3007 16 64 1 2 0x09 0 0 .u64 .ro (.c 0) [] .wrap false
def Pon.COLD_BURSTS : Obj := Obj.row 0x3007 16 64 1 2 0x0A 0 0 .u64 .ro (.c 0) [] .wrap false
def Pon.LOS_ENTRIES : Obj := Obj.row 0x3007 16 64 1 2 0x0B 0 0 .u16 .ro (.c 0) [] .sat false
def Pon.CLEAR : Obj := Obj.row 0x3007 16 64 1 2 0xFF 0 0 .bool .wo (.c 0) [(1, 1)] .none false
def Pon.C0_TX_PRE : Obj := Obj.row 0x3009 16 64 0 1 0x01 0 0 .u8 .rwk (.c 4) [(0, 16)] .none false
def Pon.C0_TX_POST : Obj := Obj.row 0x3009 16 64 0 1 0x02 0 0 .u8 .rwk (.c 8) [(0, 32)] .none false
def Pon.C0_TX_SWING : Obj := Obj.row 0x3009 16 64 0 1 0x03 0 0 .u16 .rwk (.c 600) [(300, 900)] .none false
def Pon.C1_TX_PRE : Obj := Obj.row 0x3009 16 64 0 1 0x04 0 0 .u8 .rwk (.c 2) [(0, 16)] .none false
def Pon.C1_TX_POST : Obj := Obj.row 0x3009 16 64 0 1 0x05 0 0 .u8 .rwk (.c 4) [(0, 32)] .none false
def Pon.C1_TX_SWING : Obj := Obj.row 0x3009 16 64 0 1 0x06 0 0 .u16 .rwk (.c 600) [(300, 900)] .none false
def Pon.PRES_THRESH : Obj := Obj.row 0x300A 16 64 0 1 0x01 0 0 .u16 .rwk (.c 40) [(10, 400)] .none false
def Pon.LOS_FRAMES : Obj := Obj.row 0x300A 16 64 0 1 0x02 0 0 .u8 .rwk (.c 4) [(1, 32)] .none false
def Pon.LOS_CLEAR_FRAMES : Obj := Obj.row 0x300A 16 64 0 1 0x03 0 0 .u8 .rwk (.c 2) [(1, 32)] .none false
def Pon.LOL_BURSTS : Obj := Obj.row 0x300A 16 64 0 1 0x04 0 0 .u8 .rwk (.c 16) [(1, 255)] .none false
def Pon.UNEXP_FRAMES : Obj := Obj.row 0x300A 16 64 0 1 0x05 0 0 .u8 .rwk (.c 3) [(1, 32)] .none false
def Pon.WARM_TIMEOUT_S : Obj := Obj.row 0x300A 16 64 0 1 0x06 0 0 .u8 .rwk (.c 30) [(5, 120)] .none false
def Pon.FFE_STEP : Obj := Obj.row 0x300B 16 64 0 1 0x01 0 0 .u8 .rwk (.c 10) [(6, 14)] .none false
def Pon.DFE_STEP : Obj := Obj.row 0x300B 16 64 0 1 0x02 0 0 .u8 .rwk (.c 9) [(6, 14)] .none false
def Pon.ADAPT_FREEZE : Obj := Obj.row 0x300B 16 64 0 1 0x03 0 0 .bool .rw (.c 0) [(0, 1)] .none false
def Pon.TEST_MODE : Obj := Obj.row 0x300C 16 64 0 1 0x01 0 0 .u8 .rw (.c 0) [(0, 3)] .none false
def Pon.TEST_CHANNEL : Obj := Obj.row 0x300C 16 64 0 1 0x02 0 0 .u8 .rw (.c 0) [(0, 1)] .none false
def Pon.PRBS_ERRORS : Obj := Obj.row 0x300C 16 64 0 1 0x03 0 0 .u32 .ro (.c 0) [] .sat false
def Pon.objs : List Obj :=
  [Pon.MODULE_PRESENT, Pon.C1_FITTED, Pon.CH_CMD, Pon.TX_INVERT, Pon.RX_INVERT, Pon.GUARD_NS,
   Pon.WINDOW_NS, Pon.STATE, Pon.FAULT_CAUSE, Pon.LOS, Pon.RX_LOL, Pon.UNEXP_LIGHT,
   Pon.DEF_12G, Pon.DEF_25G, Pon.DEF_50G, Pon.DEF_10G, Pon.BURSTS_OK, Pon.BURSTS_LOST,
   Pon.WRONG_SOURCE, Pon.LATE_PRELOAD, Pon.NOTICE_DISCARD, Pon.UNEXP_LIGHT_EVENTS, Pon.DELIM_CORRECTED, Pon.CDR_NO_LOCK,
   Pon.WARM_BURSTS, Pon.COLD_BURSTS, Pon.LOS_ENTRIES, Pon.CLEAR, Pon.C0_TX_PRE, Pon.C0_TX_POST,
   Pon.C0_TX_SWING, Pon.C1_TX_PRE, Pon.C1_TX_POST, Pon.C1_TX_SWING, Pon.PRES_THRESH, Pon.LOS_FRAMES,
   Pon.LOS_CLEAR_FRAMES, Pon.LOL_BURSTS, Pon.UNEXP_FRAMES, Pon.WARM_TIMEOUT_S, Pon.FFE_STEP, Pon.DFE_STEP,
   Pon.ADAPT_FREEZE, Pon.TEST_MODE, Pon.TEST_CHANNEL, Pon.PRBS_ERRORS]

/-! ActCfg : Table 3-5. Activation configuration, port p (index 0x4000 + p) (03_activation_ranging.md). -/
def ActCfg.AUTH_MODE : Obj := Obj.row 0x4000 1 64 0 1 0x01 0 0 .u8 .rwk (.c 0) [(0, 2)] .none false
def ActCfg.PENDING_S : Obj := Obj.row 0x4000 1 64 0 1 0x02 0 0 .u16 .rwk (.c 60) [(10, 3600)] .none false
def ActCfg.DISC_PERIOD_MS : Obj := Obj.row 0x4000 1 64 0 1 0x03 0 0 .u16 .rwk (.c 1000) [(0, 0), (100, 60000)] .none false
def ActCfg.DISC_FAST_FRAMES : Obj := Obj.row 0x4000 1 64 0 1 0x04 0 0 .u8 .rwk (.c 4) [(2, 255)] .none false
def ActCfg.DISC_FAST_S : Obj := Obj.row 0x4000 1 64 0 1 0x05 0 0 .u16 .rwk (.c 20) [(0, 600)] .none false
def ActCfg.DISC_MIN_KM : Obj := Obj.row 0x4000 1 64 0 1 0x06 0 0 .u8 .rwk (.c 0) [(0, 40)] .none false
def ActCfg.DISC_DIFF_KM : Obj := Obj.row 0x4000 1 64 0 1 0x07 0 0 .u8 .rwk (.c 20) [(1, 40)] .none false
def ActCfg.RAND_DELAY_US : Obj := Obj.row 0x4000 1 64 0 1 0x08 0 0 .u8 .rwk (.c 48) [(0, 255)] .none false
def ActCfg.TEQD_US : Obj := Obj.row 0x4000 1 64 0 1 0x09 0 0 .u16 .rwk (.c 250) [(50, 600)] .none false
def ActCfg.RANGE_TRIES : Obj := Obj.row 0x4000 1 64 0 1 0x0A 0 0 .u8 .rwk (.c 3) [(1, 15)] .none false
def ActCfg.RANGE_PER_FRAME : Obj := Obj.row 0x4000 1 64 0 1 0x0B 0 0 .u8 .rwk (.c 1) [(1, 2)] .none false
def ActCfg.FAST_TRIES : Obj := Obj.row 0x4000 1 64 0 1 0x0C 0 0 .u8 .rwk (.c 3) [(1, 15)] .none false
def ActCfg.FAST_PER_FRAME : Obj := Obj.row 0x4000 1 64 0 1 0x0D 0 0 .u8 .rwk (.c 32) [(1, 64)] .none false
def ActCfg.LOB_BURSTS : Obj := Obj.row 0x4000 1 64 0 1 0x0E 0 0 .u8 .rwk (.c 4) [(1, 64)] .none false
def ActCfg.LOST_PROBE_FRAMES : Obj := Obj.row 0x4000 1 64 0 1 0x0F 0 0 .u8 .rwk (.c 8) [(1, 255)] .none false
def ActCfg.LOST_TIMEOUT_S : Obj := Obj.row 0x4000 1 64 0 1 0x10 0 0 .u16 .rwk (.c 10) [(1, 600)] .none false
def ActCfg.RERANGE_BURSTS : Obj := Obj.row 0x4000 1 64 0 1 0x11 0 0 .u8 .rwk (.c 8) [(1, 64)] .none false
def ActCfg.DRIFT_SHIFT : Obj := Obj.row 0x4000 1 64 0 1 0x12 0 0 .u8 .rwk (.c 4) [(0, 8)] .none false
def ActCfg.DRIFT_THRESH_PS : Obj := Obj.row 0x4000 1 64 0 1 0x13 0 0 .u16 .rwk (.c 2000) [(100, 16000)] .none false
def ActCfg.DRIFT_ALARM_PS : Obj := Obj.row 0x4000 1 64 0 1 0x14 0 0 .u16 .rwk (.c 8000) [(1000, 32000)] .none false
def ActCfg.DRIFT_HOLD_FRAMES : Obj := Obj.row 0x4000 1 64 0 1 0x15 0 0 .u8 .rwk (.c 16) [(4, 255)] .none false
def ActCfg.STEP_WINDOW_S : Obj := Obj.row 0x4000 1 64 0 1 0x16 0 0 .u8 .rwk (.c 2) [(1, 60)] .none false
def ActCfg.TRIAL_BURSTS : Obj := Obj.row 0x4000 1 64 0 1 0x17 0 0 .u16 .rwk (.c 64) [(8, 1024)] .none false
def ActCfg.TRIAL_MAX_BAD : Obj := Obj.row 0x4000 1 64 0 1 0x18 0 0 .u8 .rwk (.c 2) [(0, 64)] .none false
def ActCfg.STEP_DOWN_PCT : Obj := Obj.row 0x4000 1 64 0 1 0x19 0 0 .u8 .rwk (.c 5) [(1, 50)] .none false
def ActCfg.STEP_HOLDOFF_S : Obj := Obj.row 0x4000 1 64 0 1 0x1A 0 0 .u16 .rwk (.c 60) [(10, 960)] .none false
def ActCfg.ROGUE_ISOLATE : Obj := Obj.row 0x4000 1 64 0 1 0x1B 0 0 .bool .rwk (.c 1) [(0, 1)] .none false
def ActCfg.ISO_FRAMES : Obj := Obj.row 0x4000 1 64 0 1 0x1C 0 0 .u8 .rwk (.c 8) [(2, 64)] .none false
def ActCfg.objs : List Obj :=
  [ActCfg.AUTH_MODE, ActCfg.PENDING_S, ActCfg.DISC_PERIOD_MS, ActCfg.DISC_FAST_FRAMES, ActCfg.DISC_FAST_S, ActCfg.DISC_MIN_KM,
   ActCfg.DISC_DIFF_KM, ActCfg.RAND_DELAY_US, ActCfg.TEQD_US, ActCfg.RANGE_TRIES, ActCfg.RANGE_PER_FRAME, ActCfg.FAST_TRIES,
   ActCfg.FAST_PER_FRAME, ActCfg.LOB_BURSTS, ActCfg.LOST_PROBE_FRAMES, ActCfg.LOST_TIMEOUT_S, ActCfg.RERANGE_BURSTS, ActCfg.DRIFT_SHIFT,
   ActCfg.DRIFT_THRESH_PS, ActCfg.DRIFT_ALARM_PS, ActCfg.DRIFT_HOLD_FRAMES, ActCfg.STEP_WINDOW_S, ActCfg.TRIAL_BURSTS, ActCfg.TRIAL_MAX_BAD,
   ActCfg.STEP_DOWN_PCT, ActCfg.STEP_HOLDOFF_S, ActCfg.ROGUE_ISOLATE, ActCfg.ISO_FRAMES]

/-! ActSt : Table 3-6. Activation status, port p (index 0x4040 + p) (03_activation_ranging.md). -/
def ActSt.QW_LEN_US : Obj := Obj.row 0x4040 1 64 0 1 0x01 0 0 .u16 .ro (.c 250) [(12, 657)] .none false
def ActSt.QUIET_WINDOWS : Obj := Obj.row 0x4040 1 64 0 1 0x02 0 0 .u32 .ro (.c 0) [] .wrap false
def ActSt.SN_ACQUIRED : Obj := Obj.row 0x4040 1 64 0 1 0x03 0 0 .u32 .ro (.c 0) [] .wrap false
def ActSt.SN_GARBLED : Obj := Obj.row 0x4040 1 64 0 1 0x04 0 0 .u32 .ro (.c 0) [] .wrap false
def ActSt.SN_REJECTED : Obj := Obj.row 0x4040 1 64 0 1 0x05 0 0 .u32 .ro (.c 0) [] .sat false
def ActSt.RANGE_FAILS : Obj := Obj.row 0x4040 1 64 0 1 0x06 0 0 .u32 .ro (.c 0) [] .sat false
def ActSt.EQD_CORRECTIONS : Obj := Obj.row 0x4040 1 64 0 1 0x07 0 0 .u32 .ro (.c 0) [] .wrap false
def ActSt.STEP_UPS : Obj := Obj.row 0x4040 1 64 0 1 0x08 0 0 .u32 .ro (.c 0) [] .wrap false
def ActSt.STEP_DOWNS : Obj := Obj.row 0x4040 1 64 0 1 0x09 0 0 .u32 .ro (.c 0) [] .wrap false
def ActSt.LOB_EVENTS : Obj := Obj.row 0x4040 1 64 0 1 0x0A 0 0 .u32 .ro (.c 0) [] .sat false
def ActSt.ROGUE_SCANS : Obj := Obj.row 0x4040 1 64 0 1 0x0B 0 0 .u16 .ro (.c 0) [] .sat false
def ActSt.ONUS_OPERATING : Obj := Obj.row 0x4040 1 64 0 1 0x0C 0 0 .u16 .ro (.c 0) [(0, 512)] .none false
def ActSt.CLEAR : Obj := Obj.row 0x4040 1 64 0 1 0xFF 0 0 .bool .wo (.c 0) [(1, 1)] .none false
def ActSt.objs : List Obj :=
  [ActSt.QW_LEN_US, ActSt.QUIET_WINDOWS, ActSt.SN_ACQUIRED, ActSt.SN_GARBLED, ActSt.SN_REJECTED, ActSt.RANGE_FAILS,
   ActSt.EQD_CORRECTIONS, ActSt.STEP_UPS, ActSt.STEP_DOWNS, ActSt.LOB_EVENTS, ActSt.ROGUE_SCANS, ActSt.ONUS_OPERATING,
   ActSt.CLEAR]

/-! ActDev : Table 3-7. Device totals and search (03_activation_ranging.md). -/
def ActDev.ONUS_OPERATING : Obj := Obj.row 0x4100 0 1 0 1 0x01 0 0 .u16 .ro (.c 0) [(0, 16384)] .none false
def ActDev.RECORDS : Obj := Obj.row 0x4100 0 1 0 1 0x02 0 0 .u16 .ro (.c 0) [(0, 16384)] .none false
def ActDev.FIND_SERIAL : Obj := Obj.row 0x4201 0 1 0 1 0x01 0 0 (.octets 8) .wo (.c 0) [] .none false
def ActDev.FIND_RECORD : Obj := Obj.row 0x4201 0 1 0 1 0x02 0 0 .u32 .ro (.c 4294967295) [(0, 16383), (4294967295, 4294967295)] .none false
def ActDev.objs : List Obj :=
  [ActDev.ONUS_OPERATING, ActDev.RECORDS, ActDev.FIND_SERIAL, ActDev.FIND_RECORD]

/-! Onu : Table 3-8. ONU record (0x4200[r], r = 0–16383) (03_activation_ranging.md). -/
def Onu.PORT : Obj := Obj.row 0x4200 0 1 0 1 0x01 0 16384 .u8 .rwk (.recDiv 512) [(0, 63)] .none false
def Onu.CHANNEL : Obj := Obj.row 0x4200 0 1 0 1 0x02 0 16384 .u8 .rwk (.c 0) [(0, 1)] .none false
def Onu.ONU_ID : Obj := Obj.row 0x4200 0 1 0 1 0x03 0 16384 .u16 .rwk (.c 0) [(0, 1022)] .none true
def Onu.SERIAL : Obj := Obj.row 0x4200 0 1 0 1 0x04 0 16384 (.octets 8) .rwk (.c 0) [] .none true
def Onu.REG_ID : Obj := Obj.row 0x4200 0 1 0 1 0x05 0 16384 (.octets 36) .rwk (.c 0) [] .none false
def Onu.ADMIN : Obj := Obj.row 0x4200 0 1 0 1 0x06 0 16384 .u8 .rwk (.c 1) [(0, 2)] .none false
def Onu.RATE_MAX : Obj := Obj.row 0x4200 0 1 0 1 0x07 0 16384 .u8 .rwk (.c 2) [(0, 3)] .none false
def Onu.STATE : Obj := Obj.row 0x4200 0 1 0 1 0x08 0 16384 .u8 .ro (.c 0) [(0, 7)] .none false
def Onu.RATE : Obj := Obj.row 0x4200 0 1 0 1 0x09 0 16384 .u8 .ro (.c 0) [(0, 3)] .none false
def Onu.LAST_RATE : Obj := Obj.row 0x4200 0 1 0 1 0x0A 0 16384 .u8 .rwk (.c 0) [(0, 3)] .none false
def Onu.EQD_PS : Obj := Obj.row 0x4200 0 1 0 1 0x0B 0 16384 .u32 .rwk (.c 4294967295) [(0, 599999999), (4294967295, 4294967295)] .none false
def Onu.RTD_PS : Obj := Obj.row 0x4200 0 1 0 1 0x0C 0 16384 .u32 .ro (.c 0) [(0, 599999999)] .none false
def Onu.DRIFT_PS : Obj := Obj.row 0x4200 0 1 0 1 0x0D 0 16384 .s32 .ro (.c 0) [] .none false
def Onu.TRIAL : Obj := Obj.row 0x4200 0 1 0 1 0x0E 0 16384 .u8 .ro (.c 0) [(0, 1)] .none false
def Onu.HOLDOFF_S : Obj := Obj.row 0x4200 0 1 0 1 0x0F 0 16384 .u16 .ro (.c 0) [(0, 960)] .none false
def Onu.LOB_COUNT : Obj := Obj.row 0x4200 0 1 0 1 0x10 0 16384 .u32 .ro (.c 0) [] .sat false
def Onu.EQD_CORR_COUNT : Obj := Obj.row 0x4200 0 1 0 1 0x11 0 16384 .u32 .ro (.c 0) [] .wrap false
def Onu.ROGUE_COUNT : Obj := Obj.row 0x4200 0 1 0 1 0x12 0 16384 .u16 .ro (.c 0) [] .sat false
def Onu.DEACT_CAUSE : Obj := Obj.row 0x4200 0 1 0 1 0x13 0 16384 .u8 .ro (.c 0) [(0, 8)] .none false
def Onu.LAST_CHANGE : Obj := Obj.row 0x4200 0 1 0 1 0x14 0 16384 .time96 .ro (.c 0) [] .none false
def Onu.DELETE : Obj := Obj.row 0x4200 0 1 0 1 0xFF 0 16384 .bool .wo (.c 0) [(1, 1)] .none false
def Onu.objs : List Obj :=
  [Onu.PORT, Onu.CHANNEL, Onu.ONU_ID, Onu.SERIAL, Onu.REG_ID, Onu.ADMIN,
   Onu.RATE_MAX, Onu.STATE, Onu.RATE, Onu.LAST_RATE, Onu.EQD_PS, Onu.RTD_PS,
   Onu.DRIFT_PS, Onu.TRIAL, Onu.HOLDOFF_S, Onu.LOB_COUNT, Onu.EQD_CORR_COUNT, Onu.ROGUE_COUNT,
   Onu.DEACT_CAUSE, Onu.LAST_CHANGE, Onu.DELETE]

/-! GrDev : Table 4-5. Device status (0x5000) (04_grant_engine.md). -/
def GrDev.MAPS_CLOSED : Obj := Obj.row 0x5000 0 1 0 1 0x01 0 0 .u64 .ro (.c 0) [] .wrap false
def GrDev.MAP_LATE : Obj := Obj.row 0x5000 0 1 0 1 0x02 0 0 .u32 .ro (.c 0) [] .sat false
def GrDev.COMPUTE_MAX_NS : Obj := Obj.row 0x5000 0 1 0 1 0x03 0 0 .u32 .ro (.c 0) [(0, 11000)] .none false
def GrDev.COMPUTE_AVG_NS : Obj := Obj.row 0x5000 0 1 0 1 0x04 0 0 .u32 .ro (.c 0) [(0, 11000)] .none false
def GrDev.CLEAR : Obj := Obj.row 0x5000 0 1 0 1 0xFF 0 0 .bool .wo (.c 0) [(1, 1)] .none false
def GrDev.objs : List Obj :=
  [GrDev.MAPS_CLOSED, GrDev.MAP_LATE, GrDev.COMPUTE_MAX_NS, GrDev.COMPUTE_AVG_NS, GrDev.CLEAR]

/-! GrCfg : Table 4-6. Grant configuration, port p (index 0x5040 + p) (04_grant_engine.md). -/
def GrCfg.QUANTUM_WORDS_C0 : Obj := Obj.row 0x5040 1 64 0 1 0x01 0 0 .u16 .rwk (.c 256) [(16, 4096)] .none false
def GrCfg.QUANTUM_WORDS_C1 : Obj := Obj.row 0x5040 1 64 0 1 0x02 0 0 .u16 .rwk (.c 64) [(16, 4096)] .none false
def GrCfg.ADMIT_C0_KBPS : Obj := Obj.row 0x5040 1 64 0 1 0x03 0 0 .u32 .rwk (.c 32000000) [(0, 45000000)] .none false
def GrCfg.ADMIT_C1_KBPS : Obj := Obj.row 0x5040 1 64 0 1 0x04 0 0 .u32 .rwk (.c 7500000) [(0, 8500000)] .none false
def GrCfg.PLOAM_FRAMES : Obj := Obj.row 0x5040 1 64 0 1 0x05 0 0 .u16 .rwk (.c 0) [(0, 0), (8, 8000)] .none false
def GrCfg.TM_MIN_WORDS : Obj := Obj.row 0x5040 1 64 0 1 0x06 0 0 .u16 .rwk (.c 16) [(1, 1024)] .none false
def GrCfg.HINT_ENABLE : Obj := Obj.row 0x5040 1 64 0 1 0x07 0 0 .bool .rwk (.c 0) [(0, 1)] .none false
def GrCfg.HINT_TOL_NS : Obj := Obj.row 0x5040 1 64 0 1 0x08 0 0 .u32 .rwk (.c 2000) [(100, 125000)] .none false
def GrCfg.HINT_MAX_WORDS : Obj := Obj.row 0x5040 1 64 0 1 0x09 0 0 .u16 .rwk (.c 4096) [(1, 65535)] .none false
def GrCfg.objs : List Obj :=
  [GrCfg.QUANTUM_WORDS_C0, GrCfg.QUANTUM_WORDS_C1, GrCfg.ADMIT_C0_KBPS, GrCfg.ADMIT_C1_KBPS, GrCfg.PLOAM_FRAMES, GrCfg.TM_MIN_WORDS,
   GrCfg.HINT_ENABLE, GrCfg.HINT_TOL_NS, GrCfg.HINT_MAX_WORDS]

/-! GrSt : Table 4-7. Grant status, port p (index 0x5080 + p) (04_grant_engine.md). -/
def GrSt.BURSTS_C0 : Obj := Obj.row 0x5080 1 64 0 1 0x01 0 0 .u64 .ro (.c 0) [] .wrap false
def GrSt.BURSTS_C1 : Obj := Obj.row 0x5080 1 64 0 1 0x02 0 0 .u64 .ro (.c 0) [] .wrap false
def GrSt.OH_UNITS_C0 : Obj := Obj.row 0x5080 1 64 0 1 0x03 0 0 .u64 .ro (.c 0) [] .wrap false
def GrSt.OH_UNITS_C1 : Obj := Obj.row 0x5080 1 64 0 1 0x04 0 0 .u64 .ro (.c 0) [] .wrap false
def GrSt.COLD_C0 : Obj := Obj.row 0x5080 1 64 0 1 0x05 0 0 .u64 .ro (.c 0) [] .wrap false
def GrSt.COLD_C1 : Obj := Obj.row 0x5080 1 64 0 1 0x06 0 0 .u64 .ro (.c 0) [] .wrap false
def GrSt.IDLE_UNITS_C0 : Obj := Obj.row 0x5080 1 64 0 1 0x07 0 0 .u64 .ro (.c 0) [] .wrap false
def GrSt.IDLE_UNITS_C1 : Obj := Obj.row 0x5080 1 64 0 1 0x08 0 0 .u64 .ro (.c 0) [] .wrap false
def GrSt.TRIMS : Obj := Obj.row 0x5080 1 64 0 1 0x09 0 0 .u32 .ro (.c 0) [] .sat false
def GrSt.ASSURED_SHORT : Obj := Obj.row 0x5080 1 64 0 1 0x0A 0 0 .u32 .ro (.c 0) [] .sat false
def GrSt.MAP_LIMIT : Obj := Obj.row 0x5080 1 64 0 1 0x0B 0 0 .u32 .ro (.c 0) [] .sat false
def GrSt.QW_DEFERRED : Obj := Obj.row 0x5080 1 64 0 1 0x0C 0 0 .u32 .ro (.c 0) [] .sat false
def GrSt.HINTS_USED : Obj := Obj.row 0x5080 1 64 0 1 0x0D 0 0 .u32 .ro (.c 0) [] .wrap false
def GrSt.HINTS_LATE : Obj := Obj.row 0x5080 1 64 0 1 0x0E 0 0 .u32 .ro (.c 0) [] .sat false
def GrSt.HINTS_MISSED : Obj := Obj.row 0x5080 1 64 0 1 0x0F 0 0 .u32 .ro (.c 0) [] .sat false
def GrSt.ADMITTED_C0_KBPS : Obj := Obj.row 0x5080 1 64 0 1 0x10 0 0 .u32 .ro (.c 0) [(0, 45000000)] .none false
def GrSt.ADMITTED_C1_KBPS : Obj := Obj.row 0x5080 1 64 0 1 0x11 0 0 .u32 .ro (.c 0) [(0, 8500000)] .none false
def GrSt.DIGEST_C0 : Obj := Obj.row 0x5080 1 64 0 1 0x12 0 0 .u32 .ro (.c 0) [] .none false
def GrSt.DIGEST_C1 : Obj := Obj.row 0x5080 1 64 0 1 0x13 0 0 .u32 .ro (.c 0) [] .none false
def GrSt.CLEAR : Obj := Obj.row 0x5080 1 64 0 1 0xFF 0 0 .bool .wo (.c 0) [(1, 1)] .none false
def GrSt.objs : List Obj :=
  [GrSt.BURSTS_C0, GrSt.BURSTS_C1, GrSt.OH_UNITS_C0, GrSt.OH_UNITS_C1, GrSt.COLD_C0, GrSt.COLD_C1,
   GrSt.IDLE_UNITS_C0, GrSt.IDLE_UNITS_C1, GrSt.TRIMS, GrSt.ASSURED_SHORT, GrSt.MAP_LIMIT, GrSt.QW_DEFERRED,
   GrSt.HINTS_USED, GrSt.HINTS_LATE, GrSt.HINTS_MISSED, GrSt.ADMITTED_C0_KBPS, GrSt.ADMITTED_C1_KBPS, GrSt.DIGEST_C0,
   GrSt.DIGEST_C1, GrSt.CLEAR]

/-! Ctx : Table 4-8. Context record (0x5200[r], r = 0–65535) (04_grant_engine.md). -/
def Ctx.PORT : Obj := Obj.row 0x5200 0 1 0 1 0x01 0 65536 .u8 .rwk (.c 0) [(0, 63)] .none false
def Ctx.CHANNEL : Obj := Obj.row 0x5200 0 1 0 1 0x02 0 65536 .u8 .rwk (.c 0) [(0, 1)] .none false
def Ctx.ONU_ID : Obj := Obj.row 0x5200 0 1 0 1 0x03 0 65536 .u16 .rwk (.c 0) [(0, 1022)] .none true
def Ctx.ALLOC_ID : Obj := Obj.row 0x5200 0 1 0 1 0x04 0 65536 .u16 .rwk (.c 0) [(1024, 16383)] .none true
def Ctx.ADMIN : Obj := Obj.row 0x5200 0 1 0 1 0x05 0 65536 .bool .rwk (.c 0) [(0, 1)] .none false
def Ctx.CLASS : Obj := Obj.row 0x5200 0 1 0 1 0x06 0 65536 .u8 .rwk (.c 4) [(1, 5)] .none false
def Ctx.FIXED_KBPS : Obj := Obj.row 0x5200 0 1 0 1 0x07 0 65536 .u32 .rwk (.c 0) [(0, 45000000)] .none false
def Ctx.ASSURED_KBPS : Obj := Obj.row 0x5200 0 1 0 1 0x08 0 65536 .u32 .rwk (.c 0) [(0, 45000000)] .none false
def Ctx.MAX_KBPS : Obj := Obj.row 0x5200 0 1 0 1 0x09 0 65536 .u32 .rwk (.c 1000000) [(1, 45000000)] .none false
def Ctx.PRIORITY : Obj := Obj.row 0x5200 0 1 0 1 0x0A 0 65536 .u8 .rwk (.c 0) [(0, 7)] .none false
def Ctx.WEIGHT : Obj := Obj.row 0x5200 0 1 0 1 0x0B 0 65536 .u16 .rwk (.c 1) [(1, 1024)] .none false
def Ctx.SI_FRAMES : Obj := Obj.row 0x5200 0 1 0 1 0x0C 0 65536 .u8 .rwk (.c 8) [(1, 64)] .none false
def Ctx.REPORT_MODE : Obj := Obj.row 0x5200 0 1 0 1 0x0D 0 65536 .u8 .rwk (.c 0) [(0, 1)] .none false
def Ctx.HINT_OK : Obj := Obj.row 0x5200 0 1 0 1 0x0E 0 65536 .bool .rwk (.c 0) [(0, 1)] .none false
def Ctx.DEMAND_WORDS : Obj := Obj.row 0x5200 0 1 0 1 0x10 0 65536 .u32 .ro (.c 0) [] .none false
def Ctx.FIXED_ACC : Obj := Obj.row 0x5200 0 1 0 1 0x11 0 65536 .u32 .ro (.c 0) [] .none false
def Ctx.ASSURED_ACC : Obj := Obj.row 0x5200 0 1 0 1 0x12 0 65536 .u32 .ro (.c 0) [] .none false
def Ctx.LAST_GRANT_MAP : Obj := Obj.row 0x5200 0 1 0 1 0x13 0 65536 .u32 .ro (.c 0) [] .wrap false
def Ctx.GRANTED_WORDS : Obj := Obj.row 0x5200 0 1 0 1 0x14 0 65536 .u64 .ro (.c 0) [] .wrap false
def Ctx.GRANTS : Obj := Obj.row 0x5200 0 1 0 1 0x15 0 65536 .u32 .ro (.c 0) [] .wrap false
def Ctx.HINTS : Obj := Obj.row 0x5200 0 1 0 1 0x16 0 65536 .u32 .ro (.c 0) [] .wrap false
def Ctx.DELETE : Obj := Obj.row 0x5200 0 1 0 1 0xFF 0 65536 .bool .wo (.c 0) [(1, 1)] .none false
def Ctx.objs : List Obj :=
  [Ctx.PORT, Ctx.CHANNEL, Ctx.ONU_ID, Ctx.ALLOC_ID, Ctx.ADMIN, Ctx.CLASS,
   Ctx.FIXED_KBPS, Ctx.ASSURED_KBPS, Ctx.MAX_KBPS, Ctx.PRIORITY, Ctx.WEIGHT, Ctx.SI_FRAMES,
   Ctx.REPORT_MODE, Ctx.HINT_OK, Ctx.DEMAND_WORDS, Ctx.FIXED_ACC, Ctx.ASSURED_ACC, Ctx.LAST_GRANT_MAP,
   Ctx.GRANTED_WORDS, Ctx.GRANTS, Ctx.HINTS, Ctx.DELETE]

/-! MapCap : Table 4-9. Map capture (0x5100, 0x5101[i], i = 0–1279) (04_grant_engine.md). -/
def MapCap.CAP_PORT : Obj := Obj.row 0x5100 0 1 0 1 0x01 0 0 .u8 .rw (.c 0) [(0, 63)] .none false
def MapCap.CAP_CHANNEL : Obj := Obj.row 0x5100 0 1 0 1 0x02 0 0 .u8 .rw (.c 0) [(0, 1)] .none false
def MapCap.CAP_ARM : Obj := Obj.row 0x5100 0 1 0 1 0x03 0 0 .bool .rw (.c 0) [(0, 1)] .none false
def MapCap.CAP_MAP : Obj := Obj.row 0x5100 0 1 0 1 0x04 0 0 .u32 .ro (.c 0) [] .wrap false
def MapCap.CAP_COUNT : Obj := Obj.row 0x5100 0 1 0 1 0x05 0 0 .u16 .ro (.c 0) [(0, 1280)] .none false
def MapCap.objs : List Obj :=
  [MapCap.CAP_PORT, MapCap.CAP_CHANNEL, MapCap.CAP_ARM, MapCap.CAP_MAP, MapCap.CAP_COUNT]

/-! MapCapEnt : Table 4-9. Map capture (0x5100, 0x5101[i], i = 0–1279) (04_grant_engine.md). -/
def MapCapEnt.ONU_ID : Obj := Obj.row 0x5101 0 1 0 1 0x01 0 1280 .u16 .ro (.c 0) [(0, 1023)] .none false
def MapCapEnt.ALLOC_ID : Obj := Obj.row 0x5101 0 1 0 1 0x02 0 1280 .u16 .ro (.c 0) [(0, 16383), (65535, 65535)] .none false
def MapCapEnt.START_UNIT : Obj := Obj.row 0x5101 0 1 0 1 0x03 0 1280 .u32 .ro (.c 0) [(0, 194399)] .none false
def MapCapEnt.WORDS : Obj := Obj.row 0x5101 0 1 0 1 0x04 0 1280 .u32 .ro (.c 0) [] .none false
def MapCapEnt.RATE : Obj := Obj.row 0x5101 0 1 0 1 0x05 0 1280 .u8 .ro (.c 0) [(0, 3)] .none false
def MapCapEnt.PROFILE : Obj := Obj.row 0x5101 0 1 0 1 0x06 0 1280 .u8 .ro (.c 0) [(0, 1)] .none false
def MapCapEnt.FLAGS : Obj := Obj.row 0x5101 0 1 0 1 0x07 0 1280 .u8 .ro (.c 0) [] .none false
def MapCapEnt.objs : List Obj :=
  [MapCapEnt.ONU_ID, MapCapEnt.ALLOC_ID, MapCapEnt.START_UNIT, MapCapEnt.WORDS, MapCapEnt.RATE, MapCapEnt.PROFILE,
   MapCapEnt.FLAGS]

/-! Cal : Table 5-10. Per-port calibration and optics objects (05_calibration_optics.md). -/
def Cal.MODULE_ID : Obj := Obj.row 0x3400 16 64 0 1 0x01 0 0 .u16 .ro (.c 0) [] .none false
def Cal.SB_CMDS : Obj := Obj.row 0x3400 16 64 0 1 0x02 0 0 .u64 .ro (.c 0) [] .wrap false
def Cal.SB_CRC_ERRORS : Obj := Obj.row 0x3400 16 64 0 1 0x03 0 0 .u32 .ro (.c 0) [] .sat false
def Cal.SB_TIMEOUTS : Obj := Obj.row 0x3400 16 64 0 1 0x04 0 0 .u32 .ro (.c 0) [] .sat false
def Cal.SB_RETRIES : Obj := Obj.row 0x3400 16 64 0 1 0x05 0 0 .u32 .ro (.c 0) [] .wrap false
def Cal.RXP_MEASURED : Obj := Obj.row 0x3400 16 64 0 1 0x06 0 0 .u64 .ro (.c 0) [] .wrap false
def Cal.RXP_MISSED : Obj := Obj.row 0x3400 16 64 0 1 0x07 0 0 .u32 .ro (.c 0) [] .sat false
def Cal.SB_TIMEOUT_US : Obj := Obj.row 0x3400 16 64 0 1 0x08 0 0 .u8 .rwk (.c 20) [(5, 200)] .none false
def Cal.CLEAR : Obj := Obj.row 0x3400 16 64 0 1 0xFF 0 0 .bool .wo (.c 0) [(1, 1)] .none false
def Cal.SETPT_MC : Obj := Obj.row 0x3401 16 64 1 2 0x01 0 0 .s32 .rwk (.c 0) [(0, 0), (15000, 70000)] .none false
def Cal.TEC_LIMIT_MA : Obj := Obj.row 0x3401 16 64 1 2 0x02 0 0 .u16 .rwk (.c 1200) [(100, 2000)] .none false
def Cal.KP : Obj := Obj.row 0x3401 16 64 1 2 0x03 0 0 .fix .rwk (.c 26214400) [(0, 268435456)] .none false
def Cal.KI : Obj := Obj.row 0x3401 16 64 1 2 0x04 0 0 .fix .rwk (.c 262144) [(0, 16777216)] .none false
def Cal.SETTLE_MK : Obj := Obj.row 0x3401 16 64 1 2 0x05 0 0 .u16 .rwk (.c 100) [(10, 2000)] .none false
def Cal.SETTLE_MS : Obj := Obj.row 0x3401 16 64 1 2 0x06 0 0 .u16 .rwk (.c 2000) [(100, 30000)] .none false
def Cal.HOLD_MK : Obj := Obj.row 0x3401 16 64 1 2 0x07 0 0 .u16 .rwk (.c 500) [(50, 5000)] .none false
def Cal.MPD_TARGET_UA : Obj := Obj.row 0x3401 16 64 1 2 0x08 0 0 .u16 .rwk (.c 0) [(0, 0), (10, 4000)] .none false
def Cal.KB : Obj := Obj.row 0x3401 16 64 1 2 0x09 0 0 .fix .rwk (.c 16384) [(0, 4194304)] .none false
def Cal.BIAS_MIN_10UA : Obj := Obj.row 0x3401 16 64 1 2 0x0A 0 0 .u16 .rwk (.c 1000) [(0, 20000)] .none false
def Cal.BIAS_MAX_10UA : Obj := Obj.row 0x3401 16 64 1 2 0x0B 0 0 .u16 .rwk (.c 0) [(0, 0), (100, 20000)] .none false
def Cal.ER_TARGET_CDB : Obj := Obj.row 0x3401 16 64 1 2 0x0C 0 0 .u16 .rwk (.c 0) [(0, 0), (300, 1500)] .none false
def Cal.KM : Obj := Obj.row 0x3401 16 64 1 2 0x0D 0 0 .fix .rwk (.c 32768) [(0, 4194304)] .none false
def Cal.MOD_MIN_10UA : Obj := Obj.row 0x3401 16 64 1 2 0x0E 0 0 .u16 .rwk (.c 500) [(0, 20000)] .none false
def Cal.MOD_MAX_10UA : Obj := Obj.row 0x3401 16 64 1 2 0x0F 0 0 .u16 .rwk (.c 0) [(0, 0), (100, 20000)] .none false
def Cal.MPD_TOL_UA : Obj := Obj.row 0x3401 16 64 1 2 0x10 0 0 .u16 .rwk (.c 20) [(1, 500)] .none false
def Cal.RAMP_US : Obj := Obj.row 0x3401 16 64 1 2 0x11 0 0 .u8 .rwk (.c 80) [(20, 100)] .none false
def Cal.TEMP_MC : Obj := Obj.row 0x3403 16 64 1 2 0x01 0 0 .s32 .ro (.c 0) [] .none false
def Cal.TEC_MA : Obj := Obj.row 0x3403 16 64 1 2 0x02 0 0 .s16 .ro (.c 0) [] .none false
def Cal.SETTLED : Obj := Obj.row 0x3403 16 64 1 2 0x03 0 0 .bool .ro (.c 0) [(0, 1)] .none false
def Cal.HOLD_LOST : Obj := Obj.row 0x3403 16 64 1 2 0x04 0 0 .bool .ro (.c 0) [(0, 1)] .none false
def Cal.BIAS_10UA : Obj := Obj.row 0x3403 16 64 1 2 0x05 0 0 .u16 .ro (.c 0) [] .none false
def Cal.MOD_10UA : Obj := Obj.row 0x3403 16 64 1 2 0x06 0 0 .u16 .ro (.c 0) [] .none false
def Cal.MPD_UA : Obj := Obj.row 0x3403 16 64 1 2 0x07 0 0 .u16 .ro (.c 0) [] .none false
def Cal.ER_CDB : Obj := Obj.row 0x3403 16 64 1 2 0x08 0 0 .u16 .ro (.c 0) [(0, 3000)] .none false
def Cal.LOOP_LIMIT : Obj := Obj.row 0x3403 16 64 1 2 0x09 0 0 .u8 .ro (.c 0) [(0, 3)] .none false
def Cal.HOLD_LOSSES : Obj := Obj.row 0x3403 16 64 1 2 0x0A 0 0 .u16 .ro (.c 0) [] .sat false
def Cal.SETTLE_TIME_MS : Obj := Obj.row 0x3403 16 64 1 2 0x0B 0 0 .u32 .ro (.c 0) [] .none false
def Cal.MERGE_SHIFT : Obj := Obj.row 0x3405 16 64 0 1 0x01 0 0 .u8 .rwk (.c 1) [(0, 4)] .none false
def Cal.STALE_S : Obj := Obj.row 0x3405 16 64 0 1 0x02 0 0 .u16 .rwk (.c 300) [(10, 3600)] .none false
def Cal.PWR_JUMP_CDB : Obj := Obj.row 0x3405 16 64 0 1 0x03 0 0 .u16 .rwk (.c 300) [(50, 2000)] .none false
def Cal.LOL_STALE : Obj := Obj.row 0x3405 16 64 0 1 0x04 0 0 .u8 .rwk (.c 2) [(1, 16)] .none false
def Cal.EYE_MIN_PCT : Obj := Obj.row 0x3405 16 64 0 1 0x05 0 0 .u8 .rwk (.c 30) [(0, 90)] .none false
def Cal.RESTORE_AGE_S : Obj := Obj.row 0x3405 16 64 0 1 0x06 0 0 .u16 .rwk (.c 60) [(2, 3600)] .none false
def Cal.RXP_OFS_CDB : Obj := Obj.row 0x3407 16 64 0 1 0x01 0 0 .s16 .rwk (.c 0) [(-1000, 1000)] .none false
def Cal.RXP_LOW_CDB : Obj := Obj.row 0x3407 16 64 0 1 0x02 0 0 .s16 .rwk (.c (-3000)) [(-4500, -405)] .none false
def Cal.RXP_HIGH_CDB : Obj := Obj.row 0x3407 16 64 0 1 0x03 0 0 .s16 .rwk (.c (-800)) [(-4500, -405)] .none false
def Cal.FEEDER_STATE_C0 : Obj := Obj.row 0x3408 16 64 0 1 0x01 0 0 .u8 .ro (.c 0) [(0, 3)] .none false
def Cal.FEEDER_STATE_C1 : Obj := Obj.row 0x3408 16 64 0 1 0x02 0 0 .u8 .ro (.c 0) [(0, 3)] .none false
def Cal.FEEDER_OFS_C0_PS : Obj := Obj.row 0x3408 16 64 0 1 0x03 0 0 .s32 .ro (.c 0) [] .none false
def Cal.FEEDER_OFS_C1_PS : Obj := Obj.row 0x3408 16 64 0 1 0x04 0 0 .s32 .ro (.c 0) [] .none false
def Cal.RT_CORR_C0_PS : Obj := Obj.row 0x3408 16 64 0 1 0x05 0 0 .s32 .ro (.c 0) [] .none false
def Cal.RT_CORR_C1_PS : Obj := Obj.row 0x3408 16 64 0 1 0x06 0 0 .s32 .ro (.c 0) [] .none false
def Cal.FEEDER_RANGE_NS : Obj := Obj.row 0x3408 16 64 0 1 0x07 0 0 .u16 .rwk (.c 20000) [(1000, 60000)] .none false
def Cal.FEEDER_COARSE_NS : Obj := Obj.row 0x3408 16 64 0 1 0x08 0 0 .s32 .rwk (.c 0) [(-60000, 60000)] .none false
def Cal.FEEDER_SHIFT : Obj := Obj.row 0x3408 16 64 0 1 0x09 0 0 .u8 .rwk (.c 3) [(0, 8)] .none false
def Cal.FEEDER_ASYM_PS : Obj := Obj.row 0x3408 16 64 0 1 0x0A 0 0 .s32 .rwk (.c 0) [(-100000, 100000)] .none false
def Cal.FEEDER_SEARCHES : Obj := Obj.row 0x3408 16 64 0 1 0x0B 0 0 .u16 .ro (.c 0) [] .sat false
def Cal.objs : List Obj :=
  [Cal.MODULE_ID, Cal.SB_CMDS, Cal.SB_CRC_ERRORS, Cal.SB_TIMEOUTS, Cal.SB_RETRIES, Cal.RXP_MEASURED,
   Cal.RXP_MISSED, Cal.SB_TIMEOUT_US, Cal.CLEAR, Cal.SETPT_MC, Cal.TEC_LIMIT_MA, Cal.KP,
   Cal.KI, Cal.SETTLE_MK, Cal.SETTLE_MS, Cal.HOLD_MK, Cal.MPD_TARGET_UA, Cal.KB,
   Cal.BIAS_MIN_10UA, Cal.BIAS_MAX_10UA, Cal.ER_TARGET_CDB, Cal.KM, Cal.MOD_MIN_10UA, Cal.MOD_MAX_10UA,
   Cal.MPD_TOL_UA, Cal.RAMP_US, Cal.TEMP_MC, Cal.TEC_MA, Cal.SETTLED, Cal.HOLD_LOST,
   Cal.BIAS_10UA, Cal.MOD_10UA, Cal.MPD_UA, Cal.ER_CDB, Cal.LOOP_LIMIT, Cal.HOLD_LOSSES,
   Cal.SETTLE_TIME_MS, Cal.MERGE_SHIFT, Cal.STALE_S, Cal.PWR_JUMP_CDB, Cal.LOL_STALE, Cal.EYE_MIN_PCT,
   Cal.RESTORE_AGE_S, Cal.RXP_OFS_CDB, Cal.RXP_LOW_CDB, Cal.RXP_HIGH_CDB, Cal.FEEDER_STATE_C0, Cal.FEEDER_STATE_C1,
   Cal.FEEDER_OFS_C0_PS, Cal.FEEDER_OFS_C1_PS, Cal.RT_CORR_C0_PS, Cal.RT_CORR_C1_PS, Cal.FEEDER_RANGE_NS, Cal.FEEDER_COARSE_NS,
   Cal.FEEDER_SHIFT, Cal.FEEDER_ASYM_PS, Cal.FEEDER_SEARCHES]

/-! CalCnt : Table 5-10. Per-port calibration and optics objects (05_calibration_optics.md). -/
def CalCnt.REFINES : Obj := Obj.row 0x3406 16 64 0 1 0x01 0 0 .u64 .ro (.c 0) [] .wrap false
def CalCnt.REFINE_SKIPPED : Obj := Obj.row 0x3406 16 64 0 1 0x02 0 0 .u32 .ro (.c 0) [] .sat false
def CalCnt.STALE_STARTS : Obj := Obj.row 0x3406 16 64 0 1 0x03 0 0 .u32 .ro (.c 0) [] .sat false
def CalCnt.SETS_INVALIDATED : Obj := Obj.row 0x3406 16 64 0 1 0x04 0 0 .u32 .ro (.c 0) [] .sat false
def CalCnt.WARM_C0 : Obj := Obj.row 0x3406 16 64 0 1 0x05 0 0 .u16 .ro (.c 0) [(0, 512)] .none false
def CalCnt.WARM_C1 : Obj := Obj.row 0x3406 16 64 0 1 0x06 0 0 .u16 .ro (.c 0) [(0, 512)] .none false
def CalCnt.CDR_ADJUSTS : Obj := Obj.row 0x3406 16 64 0 1 0x07 0 0 .u32 .ro (.c 0) [] .wrap false
def CalCnt.CLEAR : Obj := Obj.row 0x3406 16 64 0 1 0xFF 0 0 .bool .wo (.c 0) [(1, 1)] .none false
def CalCnt.objs : List Obj :=
  [CalCnt.REFINES, CalCnt.REFINE_SKIPPED, CalCnt.STALE_STARTS, CalCnt.SETS_INVALIDATED, CalCnt.WARM_C0, CalCnt.WARM_C1,
   CalCnt.CDR_ADJUSTS, CalCnt.CLEAR]

/-! Coef : Table 5-11. Coefficient record (0xA100[r]) (05_calibration_optics.md). -/
def Coef.PORT : Obj := Obj.row 0xA100 0 1 0 1 0x01 0 16384 .u8 .ro (.c 0) [(0, 63)] .none false
def Coef.CHANNEL : Obj := Obj.row 0xA100 0 1 0 1 0x02 0 16384 .u8 .ro (.c 0) [(0, 1)] .none false
def Coef.ONU_ID : Obj := Obj.row 0xA100 0 1 0 1 0x03 0 16384 .u16 .ro (.c 0) [(0, 1022)] .none false
def Coef.SET_12G : Obj := Obj.row 0xA100 0 1 0 1 0x04 0 16384 (.octets 24) .rw (.c 18014398509482182) [] .none false
def Coef.SET_25G : Obj := Obj.row 0xA100 0 1 0 1 0x05 0 16384 (.octets 24) .rw (.c 1461501637330902918203684832716301034054442025158) [] .none false
def Coef.SET_50G : Obj := Obj.row 0xA100 0 1 0 1 0x06 0 16384 (.octets 24) .rw (.c 2923003274661805836407369665432584053710374568134) [] .none false
def Coef.SET_10G : Obj := Obj.row 0xA100 0 1 0 1 0x07 0 16384 (.octets 24) .rw (.c 4384504911992708754611054498148867073366307111110) [] .none false
def Coef.VALID : Obj := Obj.row 0xA100 0 1 0 1 0x08 0 16384 .u8 .ro (.c 0) [(0, 15)] .none false
def Coef.REFINED_12G : Obj := Obj.row 0xA100 0 1 0 1 0x09 0 16384 .time96 .ro (.c 0) [] .none false
def Coef.REFINED_25G : Obj := Obj.row 0xA100 0 1 0 1 0x0A 0 16384 .time96 .ro (.c 0) [] .none false
def Coef.REFINED_50G : Obj := Obj.row 0xA100 0 1 0 1 0x0B 0 16384 .time96 .ro (.c 0) [] .none false
def Coef.REFINED_10G : Obj := Obj.row 0xA100 0 1 0 1 0x0C 0 16384 .time96 .ro (.c 0) [] .none false
def Coef.RXP_LAST : Obj := Obj.row 0xA100 0 1 0 1 0x0D 0 16384 .s16 .ro (.c (-32768)) [] .none false
def Coef.RXP_AVG : Obj := Obj.row 0xA100 0 1 0 1 0x0E 0 16384 .s16 .ro (.c (-32768)) [] .none false
def Coef.RXP_MIN : Obj := Obj.row 0xA100 0 1 0 1 0x0F 0 16384 .s16 .ro (.c (-32768)) [] .none false
def Coef.RXP_MAX : Obj := Obj.row 0xA100 0 1 0 1 0x10 0 16384 .s16 .ro (.c (-32768)) [] .none false
def Coef.LOL_RUN : Obj := Obj.row 0xA100 0 1 0 1 0x11 0 16384 .u8 .ro (.c 0) [(0, 16)] .none false
def Coef.CLEAR_RXP : Obj := Obj.row 0xA100 0 1 0 1 0xFE 0 16384 .bool .wo (.c 0) [(1, 1)] .none false
def Coef.INVALIDATE : Obj := Obj.row 0xA100 0 1 0 1 0xFF 0 16384 .u8 .wo (.c 0) [(1, 15)] .none false
def Coef.objs : List Obj :=
  [Coef.PORT, Coef.CHANNEL, Coef.ONU_ID, Coef.SET_12G, Coef.SET_25G, Coef.SET_50G,
   Coef.SET_10G, Coef.VALID, Coef.REFINED_12G, Coef.REFINED_25G, Coef.REFINED_50G, Coef.REFINED_10G,
   Coef.RXP_LAST, Coef.RXP_AVG, Coef.RXP_MIN, Coef.RXP_MAX, Coef.LOL_RUN, Coef.CLEAR_RXP,
   Coef.INVALIDATE]

end Sys2Proof.Machine
end

