-- ==== Sys2Proof/Machine/ObjectsB.lean ====
section
/-! DEFINITION. The object descriptors of chapters 06, 07, 08, 09 of the spec, one per row of its object tables. -/

namespace Sys2Proof.Machine


/-! FrCfg : Table 6-7. Framer configuration, port p (index 0x5800 + p) (06_pon_framing_crypto.md). -/
def FrCfg.PLOAM_DS_MAX : Obj := Obj.row 0x5800 1 64 0 1 0x01 0 0 .u8 .rwk (.c 4) [(1, 16)] .none false
def FrCfg.PLOAM_MIC_CHECK : Obj := Obj.row 0x5800 1 64 0 1 0x02 0 0 .bool .rwk (.c 1) [(0, 1)] .none false
def FrCfg.KEY_PERIOD_S : Obj := Obj.row 0x5800 1 64 0 1 0x03 0 0 .u32 .rwk (.c 3600) [(0, 0), (60, 604800)] .none false
def FrCfg.KEY_SWITCH_FRAMES : Obj := Obj.row 0x5800 1 64 0 1 0x04 0 0 .u16 .rwk (.c 64) [(16, 8000)] .none false
def FrCfg.OMCI_TIMEOUT_MS : Obj := Obj.row 0x5800 1 64 0 1 0x05 0 0 .u16 .rwk (.c 1000) [(100, 10000)] .none false
def FrCfg.OMCI_RETRIES : Obj := Obj.row 0x5800 1 64 0 1 0x06 0 0 .u8 .rwk (.c 2) [(0, 7)] .none false
def FrCfg.MAX_SDU : Obj := Obj.row 0x5800 1 64 0 1 0x07 0 0 .u16 .rwk (.c 9600) [(64, 16383)] .none false
def FrCfg.REASM_TIMEOUT_US : Obj := Obj.row 0x5800 1 64 0 1 0x08 0 0 .u16 .rwk (.c 1000) [(125, 10000)] .none false
def FrCfg.ES_TCA_15M : Obj := Obj.row 0x5800 1 64 0 1 0x09 0 0 .u16 .rwk (.c 0) [(0, 900)] .none false
def FrCfg.SES_TCA_15M : Obj := Obj.row 0x5800 1 64 0 1 0x0A 0 0 .u16 .rwk (.c 0) [(0, 900)] .none false
def FrCfg.objs : List Obj :=
  [FrCfg.PLOAM_DS_MAX, FrCfg.PLOAM_MIC_CHECK, FrCfg.KEY_PERIOD_S, FrCfg.KEY_SWITCH_FRAMES, FrCfg.OMCI_TIMEOUT_MS, FrCfg.OMCI_RETRIES,
   FrCfg.MAX_SDU, FrCfg.REASM_TIMEOUT_US, FrCfg.ES_TCA_15M, FrCfg.SES_TCA_15M]

/-! FrSt : Table 6-8. Framer status, port p and channel (index 0x5840 + p for c0, 0x5880 + p for c1) (06_pon_framing_crypto.md). -/
def FrSt.DS_FRAMES : Obj := Obj.row 0x5840 1 64 64 2 0x01 0 0 .u64 .ro (.c 0) [] .wrap false
def FrSt.DS_XGEM_FRAMES : Obj := Obj.row 0x5840 1 64 64 2 0x02 0 0 .u64 .ro (.c 0) [] .wrap false
def FrSt.DS_IDLE_BYTES : Obj := Obj.row 0x5840 1 64 64 2 0x03 0 0 .u64 .ro (.c 0) [] .wrap false
def FrSt.DS_OVERSIZE : Obj := Obj.row 0x5840 1 64 64 2 0x04 0 0 .u32 .ro (.c 0) [] .sat false
def FrSt.DS_XGEM_INVALID : Obj := Obj.row 0x5840 1 64 64 2 0x05 0 0 .u32 .ro (.c 0) [] .sat false
def FrSt.DS_NOKEY_DROP : Obj := Obj.row 0x5840 1 64 64 2 0x06 0 0 .u32 .ro (.c 0) [] .sat false
def FrSt.PLOAM_DS_DROP : Obj := Obj.row 0x5840 1 64 64 2 0x07 0 0 .u32 .ro (.c 0) [] .sat false
def FrSt.PLOAM_MIC_FAIL : Obj := Obj.row 0x5840 1 64 64 2 0x08 0 0 .u32 .ro (.c 0) [] .sat false
def FrSt.US_CW_OK : Obj := Obj.row 0x5840 1 64 64 2 0x09 0 0 .u64 .ro (.c 0) [] .wrap false
def FrSt.US_CW_CORRECTED : Obj := Obj.row 0x5840 1 64 64 2 0x0A 0 0 .u64 .ro (.c 0) [] .wrap false
def FrSt.US_CW_UNCORR : Obj := Obj.row 0x5840 1 64 64 2 0x0B 0 0 .u32 .ro (.c 0) [] .sat false
def FrSt.US_HEC_CORRECTED : Obj := Obj.row 0x5840 1 64 64 2 0x0C 0 0 .u32 .ro (.c 0) [] .wrap false
def FrSt.US_HEC_UNCORR : Obj := Obj.row 0x5840 1 64 64 2 0x0D 0 0 .u32 .ro (.c 0) [] .sat false
def FrSt.US_XGEM_UNKNOWN : Obj := Obj.row 0x5840 1 64 64 2 0x0E 0 0 .u32 .ro (.c 0) [] .sat false
def FrSt.US_ENCRYPTED_DROP : Obj := Obj.row 0x5840 1 64 64 2 0x0F 0 0 .u32 .ro (.c 0) [] .sat false
def FrSt.US_OVERSIZE : Obj := Obj.row 0x5840 1 64 64 2 0x10 0 0 .u32 .ro (.c 0) [] .sat false
def FrSt.US_REASM_FAIL : Obj := Obj.row 0x5840 1 64 64 2 0x11 0 0 .u32 .ro (.c 0) [] .sat false
def FrSt.OMCI_MIC_FAIL : Obj := Obj.row 0x5840 1 64 64 2 0x12 0 0 .u32 .ro (.c 0) [] .sat false
def FrSt.CLEAR : Obj := Obj.row 0x5840 1 64 64 2 0xFF 0 0 .bool .wo (.c 0) [(1, 1)] .none false
def FrSt.objs : List Obj :=
  [FrSt.DS_FRAMES, FrSt.DS_XGEM_FRAMES, FrSt.DS_IDLE_BYTES, FrSt.DS_OVERSIZE, FrSt.DS_XGEM_INVALID, FrSt.DS_NOKEY_DROP,
   FrSt.PLOAM_DS_DROP, FrSt.PLOAM_MIC_FAIL, FrSt.US_CW_OK, FrSt.US_CW_CORRECTED, FrSt.US_CW_UNCORR, FrSt.US_HEC_CORRECTED,
   FrSt.US_HEC_UNCORR, FrSt.US_XGEM_UNKNOWN, FrSt.US_ENCRYPTED_DROP, FrSt.US_OVERSIZE, FrSt.US_REASM_FAIL, FrSt.OMCI_MIC_FAIL,
   FrSt.CLEAR]

/-! FrDev : Table 6-9. Device counters (0x5900) (06_pon_framing_crypto.md). -/
def FrDev.KEY_INSTALLS : Obj := Obj.row 0x5900 0 1 0 1 0x01 0 0 .u32 .ro (.c 0) [] .wrap false
def FrDev.KEY_FAILS : Obj := Obj.row 0x5900 0 1 0 1 0x02 0 0 .u32 .ro (.c 0) [] .sat false
def FrDev.OMCI_RETRANSMITS : Obj := Obj.row 0x5900 0 1 0 1 0x03 0 0 .u32 .ro (.c 0) [] .wrap false
def FrDev.OMCI_FAILURES : Obj := Obj.row 0x5900 0 1 0 1 0x04 0 0 .u32 .ro (.c 0) [] .sat false
def FrDev.OMCI_DUP : Obj := Obj.row 0x5900 0 1 0 1 0x05 0 0 .u32 .ro (.c 0) [] .sat false
def FrDev.CLEAR : Obj := Obj.row 0x5900 0 1 0 1 0xFF 0 0 .bool .wo (.c 0) [(1, 1)] .none false
def FrDev.objs : List Obj :=
  [FrDev.KEY_INSTALLS, FrDev.KEY_FAILS, FrDev.OMCI_RETRANSMITS, FrDev.OMCI_FAILURES, FrDev.OMCI_DUP, FrDev.CLEAR]

/-! OnuPm : Table 6-10. Per-ONU framer record (0xA300[r], r = 0–16383) (06_pon_framing_crypto.md). -/
def OnuPm.PORT : Obj := Obj.row 0xA300 0 1 0 1 0x01 0 16384 .u8 .ro (.c 0) [(0, 63)] .none false
def OnuPm.CHANNEL : Obj := Obj.row 0xA300 0 1 0 1 0x02 0 16384 .u8 .ro (.c 0) [(0, 1)] .none false
def OnuPm.ONU_ID : Obj := Obj.row 0xA300 0 1 0 1 0x03 0 16384 .u16 .ro (.c 0) [(0, 1022)] .none false
def OnuPm.KEY_ACTIVE : Obj := Obj.row 0xA300 0 1 0 1 0x04 0 16384 .u8 .ro (.c 0) [(0, 2)] .none false
def OnuPm.KEY_VALID : Obj := Obj.row 0xA300 0 1 0 1 0x05 0 16384 .u8 .ro (.c 0) [(0, 3)] .none false
def OnuPm.KEY_SWITCHES : Obj := Obj.row 0xA300 0 1 0 1 0x06 0 16384 .u32 .ro (.c 0) [] .wrap false
def OnuPm.KEY_SWITCH_AT : Obj := Obj.row 0xA300 0 1 0 1 0x07 0 16384 .time96 .ro (.c 0) [] .none false
def OnuPm.BURSTS_GRANTED : Obj := Obj.row 0xA300 0 1 0 1 0x08 0 16384 .u64 .ro (.c 0) [] .wrap false
def OnuPm.BURSTS_LOST : Obj := Obj.row 0xA300 0 1 0 1 0x09 0 16384 .u32 .ro (.c 0) [] .sat false
def OnuPm.BURSTS_UNCORR : Obj := Obj.row 0xA300 0 1 0 1 0x0A 0 16384 .u32 .ro (.c 0) [] .sat false
def OnuPm.CW_UNCORR : Obj := Obj.row 0xA300 0 1 0 1 0x0B 0 16384 .u32 .ro (.c 0) [] .sat false
def OnuPm.UNAVAILABLE : Obj := Obj.row 0xA300 0 1 0 1 0x0C 0 16384 .bool .ro (.c 0) [(0, 1)] .none false
def OnuPm.BIN15_START : Obj := Obj.row 0xA300 0 1 0 1 0x0D 0 16384 .time96 .ro (.c 0) [] .none false
def OnuPm.ES_15M : Obj := Obj.row 0xA300 0 1 0 1 0x0E 0 16384 .u16 .ro (.c 0) [] .sat false
def OnuPm.SES_15M : Obj := Obj.row 0xA300 0 1 0 1 0x0F 0 16384 .u16 .ro (.c 0) [] .sat false
def OnuPm.UAS_15M : Obj := Obj.row 0xA300 0 1 0 1 0x10 0 16384 .u16 .ro (.c 0) [] .sat false
def OnuPm.PREV_ES_15M : Obj := Obj.row 0xA300 0 1 0 1 0x11 0 16384 .u16 .ro (.c 0) [] .sat false
def OnuPm.PREV_SES_15M : Obj := Obj.row 0xA300 0 1 0 1 0x12 0 16384 .u16 .ro (.c 0) [] .sat false
def OnuPm.PREV_UAS_15M : Obj := Obj.row 0xA300 0 1 0 1 0x13 0 16384 .u16 .ro (.c 0) [] .sat false
def OnuPm.BIN24_START : Obj := Obj.row 0xA300 0 1 0 1 0x14 0 16384 .time96 .ro (.c 0) [] .none false
def OnuPm.ES_24H : Obj := Obj.row 0xA300 0 1 0 1 0x15 0 16384 .u32 .ro (.c 0) [] .sat false
def OnuPm.SES_24H : Obj := Obj.row 0xA300 0 1 0 1 0x16 0 16384 .u32 .ro (.c 0) [] .sat false
def OnuPm.UAS_24H : Obj := Obj.row 0xA300 0 1 0 1 0x17 0 16384 .u32 .ro (.c 0) [] .sat false
def OnuPm.PREV_ES_24H : Obj := Obj.row 0xA300 0 1 0 1 0x18 0 16384 .u32 .ro (.c 0) [] .sat false
def OnuPm.PREV_SES_24H : Obj := Obj.row 0xA300 0 1 0 1 0x19 0 16384 .u32 .ro (.c 0) [] .sat false
def OnuPm.PREV_UAS_24H : Obj := Obj.row 0xA300 0 1 0 1 0x1A 0 16384 .u32 .ro (.c 0) [] .sat false
def OnuPm.OMCI_PENDING : Obj := Obj.row 0xA300 0 1 0 1 0x1B 0 16384 .u8 .ro (.c 0) [(0, 10)] .none false
def OnuPm.CLEAR_PM : Obj := Obj.row 0xA300 0 1 0 1 0xFF 0 16384 .bool .wo (.c 0) [(1, 1)] .none false
def OnuPm.objs : List Obj :=
  [OnuPm.PORT, OnuPm.CHANNEL, OnuPm.ONU_ID, OnuPm.KEY_ACTIVE, OnuPm.KEY_VALID, OnuPm.KEY_SWITCHES,
   OnuPm.KEY_SWITCH_AT, OnuPm.BURSTS_GRANTED, OnuPm.BURSTS_LOST, OnuPm.BURSTS_UNCORR, OnuPm.CW_UNCORR, OnuPm.UNAVAILABLE,
   OnuPm.BIN15_START, OnuPm.ES_15M, OnuPm.SES_15M, OnuPm.UAS_15M, OnuPm.PREV_ES_15M, OnuPm.PREV_SES_15M,
   OnuPm.PREV_UAS_15M, OnuPm.BIN24_START, OnuPm.ES_24H, OnuPm.SES_24H, OnuPm.UAS_24H, OnuPm.PREV_ES_24H,
   OnuPm.PREV_SES_24H, OnuPm.PREV_UAS_24H, OnuPm.OMCI_PENDING, OnuPm.CLEAR_PM]

/-! Xg : Table 6-11. XGEM context record (0xA400[r], r = 0–262143) (06_pon_framing_crypto.md). -/
def Xg.PORT : Obj := Obj.row 0xA400 0 1 0 1 0x01 0 262144 .u8 .rwk (.c 0) [(0, 63)] .none false
def Xg.CHANNEL : Obj := Obj.row 0xA400 0 1 0 1 0x02 0 262144 .u8 .rwk (.c 0) [(0, 1)] .none false
def Xg.ONU_ID : Obj := Obj.row 0xA400 0 1 0 1 0x03 0 262144 .u16 .rwk (.c 0) [(0, 1023)] .none true
def Xg.XGEM_ID : Obj := Obj.row 0xA400 0 1 0 1 0x04 0 262144 .u16 .rwk (.c 0) [(0, 65534)] .none true
def Xg.ADMIN : Obj := Obj.row 0xA400 0 1 0 1 0x05 0 262144 .bool .rwk (.c 0) [(0, 1)] .none false
def Xg.DIRECTION : Obj := Obj.row 0xA400 0 1 0 1 0x06 0 262144 .u8 .rwk (.c 3) [(1, 3)] .none false
def Xg.ENCRYPT : Obj := Obj.row 0xA400 0 1 0 1 0x07 0 262144 .u8 .rwk (.c 0) [(0, 2)] .none false
def Xg.OMCC : Obj := Obj.row 0xA400 0 1 0 1 0x08 0 262144 .bool .rwk (.c 0) [(0, 1)] .none false
def Xg.FRAMES_DS : Obj := Obj.row 0xA400 0 1 0 1 0x09 0 262144 .u64 .ro (.c 0) [] .wrap false
def Xg.BYTES_DS : Obj := Obj.row 0xA400 0 1 0 1 0x0A 0 262144 .u64 .ro (.c 0) [] .wrap false
def Xg.FRAMES_US : Obj := Obj.row 0xA400 0 1 0 1 0x0B 0 262144 .u64 .ro (.c 0) [] .wrap false
def Xg.BYTES_US : Obj := Obj.row 0xA400 0 1 0 1 0x0C 0 262144 .u64 .ro (.c 0) [] .wrap false
def Xg.REASM_FAIL : Obj := Obj.row 0xA400 0 1 0 1 0x0D 0 262144 .u32 .ro (.c 0) [] .sat false
def Xg.DELETE : Obj := Obj.row 0xA400 0 1 0 1 0xFF 0 262144 .bool .wo (.c 0) [(1, 1)] .none false
def Xg.objs : List Obj :=
  [Xg.PORT, Xg.CHANNEL, Xg.ONU_ID, Xg.XGEM_ID, Xg.ADMIN, Xg.DIRECTION,
   Xg.ENCRYPT, Xg.OMCC, Xg.FRAMES_DS, Xg.BYTES_DS, Xg.FRAMES_US, Xg.BYTES_US,
   Xg.REASM_FAIL, Xg.DELETE]

/-! PmHist : Table 6-12. Per-ONU PM history (0x9C00; 0x9C01[h], h = r × 96 + i; 0x9C02[h], h = r × 7 + i) (06_pon_framing_crypto.md). -/
def PmHist.PMH_ENABLE : Obj := Obj.row 0x9C00 0 1 0 1 0x01 0 0 .bool .rwk (.c 0) [(0, 1)] .none false
def PmHist.objs : List Obj :=
  [PmHist.PMH_ENABLE]

/-! PmHist15 : Table 6-12. Per-ONU PM history (0x9C00; 0x9C01[h], h = r × 96 + i; 0x9C02[h], h = r × 7 + i) (06_pon_framing_crypto.md). -/
def PmHist15.BIN_START : Obj := Obj.row 0x9C01 0 1 0 1 0x01 0 1572864 .time96 .ro (.c 0) [] .none false
def PmHist15.ES : Obj := Obj.row 0x9C01 0 1 0 1 0x02 0 1572864 .u16 .ro (.c 0) [(0, 900)] .none false
def PmHist15.SES : Obj := Obj.row 0x9C01 0 1 0 1 0x03 0 1572864 .u16 .ro (.c 0) [(0, 900)] .none false
def PmHist15.UAS : Obj := Obj.row 0x9C01 0 1 0 1 0x04 0 1572864 .u16 .ro (.c 0) [(0, 900)] .none false
def PmHist15.GRANTED : Obj := Obj.row 0x9C01 0 1 0 1 0x05 0 1572864 .u32 .ro (.c 0) [] .sat false
def PmHist15.LOST : Obj := Obj.row 0x9C01 0 1 0 1 0x06 0 1572864 .u32 .ro (.c 0) [] .sat false
def PmHist15.UNCORR : Obj := Obj.row 0x9C01 0 1 0 1 0x07 0 1572864 .u32 .ro (.c 0) [] .sat false
def PmHist15.objs : List Obj :=
  [PmHist15.BIN_START, PmHist15.ES, PmHist15.SES, PmHist15.UAS, PmHist15.GRANTED, PmHist15.LOST,
   PmHist15.UNCORR]

/-! PmHist24 : Table 6-12. Per-ONU PM history (0x9C00; 0x9C01[h], h = r × 96 + i; 0x9C02[h], h = r × 7 + i) (06_pon_framing_crypto.md). -/
def PmHist24.BIN_START : Obj := Obj.row 0x9C02 0 1 0 1 0x01 0 114688 .time96 .ro (.c 0) [] .none false
def PmHist24.ES : Obj := Obj.row 0x9C02 0 1 0 1 0x02 0 114688 .u32 .ro (.c 0) [(0, 86400)] .none false
def PmHist24.SES : Obj := Obj.row 0x9C02 0 1 0 1 0x03 0 114688 .u32 .ro (.c 0) [(0, 86400)] .none false
def PmHist24.UAS : Obj := Obj.row 0x9C02 0 1 0 1 0x04 0 114688 .u32 .ro (.c 0) [(0, 86400)] .none false
def PmHist24.GRANTED : Obj := Obj.row 0x9C02 0 1 0 1 0x05 0 114688 .u32 .ro (.c 0) [] .sat false
def PmHist24.LOST : Obj := Obj.row 0x9C02 0 1 0 1 0x06 0 114688 .u32 .ro (.c 0) [] .sat false
def PmHist24.UNCORR : Obj := Obj.row 0x9C02 0 1 0 1 0x07 0 114688 .u32 .ro (.c 0) [] .sat false
def PmHist24.objs : List Obj :=
  [PmHist24.BIN_START, PmHist24.ES, PmHist24.SES, PmHist24.UAS, PmHist24.GRANTED, PmHist24.LOST,
   PmHist24.UNCORR]

/-! Cls : Table 7-9. Classifier, parser and exception objects (07_packet_pipeline.md). -/
def Cls.ACTIVE_BANK : Obj := Obj.row 0x6000 0 1 0 1 0x01 0 0 .u8 .ro (.c 0) [(0, 1)] .none false
def Cls.SWAP : Obj := Obj.row 0x6000 0 1 0 1 0x02 0 0 .bool .wo (.c 0) [(1, 1)] .none false
def Cls.SWAP_STATE : Obj := Obj.row 0x6000 0 1 0 1 0x03 0 0 .u8 .ro (.c 0) [(0, 1)] .none false
def Cls.INFLIGHT_OLD : Obj := Obj.row 0x6000 0 1 0 1 0x04 0 0 .u32 .ro (.c 0) [] .none false
def Cls.SWAPS : Obj := Obj.row 0x6000 0 1 0 1 0x05 0 0 .u32 .ro (.c 0) [] .wrap false
def Cls.LAST_SWAP_AT : Obj := Obj.row 0x6000 0 1 0 1 0x06 0 0 .time96 .ro (.c 0) [] .none false
def Cls.LAST_DONE_AT : Obj := Obj.row 0x6000 0 1 0 1 0x07 0 0 .time96 .ro (.c 0) [] .none false
def Cls.RULE_WRITE_REFUSED : Obj := Obj.row 0x6000 0 1 0 1 0x08 0 0 .u32 .ro (.c 0) [] .sat false
def Cls.DEFAULT_A : Obj := Obj.row 0x6001 0 1 0 1 0x01 0 0 (.octets 16) .rw (.c 0) [] .none false
def Cls.DEFAULT_B : Obj := Obj.row 0x6001 0 1 0 1 0x02 0 0 (.octets 16) .rw (.c 0) [] .none false
def Cls.DEFAULT_HITS_A : Obj := Obj.row 0x6001 0 1 0 1 0x03 0 0 .u64 .ro (.c 0) [] .wrap false
def Cls.DEFAULT_HITS_B : Obj := Obj.row 0x6001 0 1 0 1 0x04 0 0 .u64 .ro (.c 0) [] .wrap false
def Cls.PARSE_DEPTH : Obj := Obj.row 0x6002 0 1 0 1 0x01 0 0 .u16 .rwk (.c 128) [(64, 256)] .none false
def Cls.TPID_0 : Obj := Obj.row 0x6002 0 1 0 1 0x02 0 0 .u16 .rwk (.c 33024) [] .none false
def Cls.TPID_1 : Obj := Obj.row 0x6002 0 1 0 1 0x03 0 0 .u16 .rwk (.c 34984) [] .none false
def Cls.TPID_2 : Obj := Obj.row 0x6002 0 1 0 1 0x04 0 0 .u16 .rwk (.c 37120) [] .none false
def Cls.TPID_3 : Obj := Obj.row 0x6002 0 1 0 1 0x05 0 0 .u16 .rwk (.c 37376) [] .none false
def Cls.VXLAN_PORT : Obj := Obj.row 0x6002 0 1 0 1 0x06 0 0 .u16 .rwk (.c 4789) [(1, 65535)] .none false
def Cls.GRE_ENABLE : Obj := Obj.row 0x6002 0 1 0 1 0x07 0 0 .bool .rwk (.c 1) [(0, 1)] .none false
def Cls.MPLS_INNER_ETH : Obj := Obj.row 0x6002 0 1 0 1 0x08 0 0 .bool .rwk (.c 0) [(0, 1)] .none false
def Cls.UDF_ANCHOR : Obj := Obj.row 0x6002 0 1 0 1 0x09 0 0 .u8 .rwk (.c 0) [(0, 2)] .none false
def Cls.UDF_OFFSET : Obj := Obj.row 0x6002 0 1 0 1 0x0A 0 0 .u8 .rwk (.c 0) [(0, 254)] .none false
def Cls.EXC_ACTION : Obj := Obj.row 0x6003 0 1 0 7 0x01 1 0 .u8 .rwk (.c 1) [(0, 2)] .none false
def Cls.objs : List Obj :=
  [Cls.ACTIVE_BANK, Cls.SWAP, Cls.SWAP_STATE, Cls.INFLIGHT_OLD, Cls.SWAPS, Cls.LAST_SWAP_AT,
   Cls.LAST_DONE_AT, Cls.RULE_WRITE_REFUSED, Cls.DEFAULT_A, Cls.DEFAULT_B, Cls.DEFAULT_HITS_A, Cls.DEFAULT_HITS_B,
   Cls.PARSE_DEPTH, Cls.TPID_0, Cls.TPID_1, Cls.TPID_2, Cls.TPID_3, Cls.VXLAN_PORT,
   Cls.GRE_ENABLE, Cls.MPLS_INNER_ETH, Cls.UDF_ANCHOR, Cls.UDF_OFFSET, Cls.EXC_ACTION]

/-! Pipe : Table 7-9. Classifier, parser and exception objects (07_packet_pipeline.md). -/
def Pipe.PACKETS : Obj := Obj.row 0x6010 1 8 0 1 0x01 0 0 .u64 .ro (.c 0) [] .wrap false
def Pipe.PASS2 : Obj := Obj.row 0x6010 1 8 0 1 0x02 0 0 .u64 .ro (.c 0) [] .wrap false
def Pipe.INGRESS_DROP : Obj := Obj.row 0x6010 1 8 0 1 0x03 0 0 .u32 .ro (.c 0) [] .sat false
def Pipe.RECIRC_WAIT_AVG_NS : Obj := Obj.row 0x6010 1 8 0 1 0x04 0 0 .u32 .ro (.c 0) [] .none false
def Pipe.LATENCY_MAX_NS : Obj := Obj.row 0x6010 1 8 0 1 0x05 0 0 .u16 .ro (.c 0) [(0, 195)] .none false
def Pipe.WAKES : Obj := Obj.row 0x6010 1 8 0 1 0x06 0 0 .u64 .ro (.c 0) [] .wrap false
def Pipe.CLEAR : Obj := Obj.row 0x6010 1 8 0 1 0xFF 0 0 .bool .wo (.c 0) [(1, 1)] .none false
def Pipe.objs : List Obj :=
  [Pipe.PACKETS, Pipe.PASS2, Pipe.INGRESS_DROP, Pipe.RECIRC_WAIT_AVG_NS, Pipe.LATENCY_MAX_NS, Pipe.WAKES,
   Pipe.CLEAR]

/-! Exc : Table 7-9. Classifier, parser and exception objects (07_packet_pipeline.md). -/
def Exc.EXC_COUNT : Obj := Obj.row 0x6020 1 8 0 256 0x00 1 0 .u32 .ro (.c 0) [] .sat false
def Exc.CLEAR : Obj := Obj.row 0x6020 1 8 0 1 0xFF 0 0 .bool .wo (.c 0) [(1, 1)] .none false
def Exc.objs : List Obj :=
  [Exc.EXC_COUNT, Exc.CLEAR]

/-! Hsh : Table 7-10. Hash and indirection objects (07_packet_pipeline.md). -/
def Hsh.FIELDS : Obj := Obj.row 0x6040 1 8 0 1 0x01 0 0 .u32 .rwk (.c 15872) [(0, 131071)] .none false
def Hsh.SEED : Obj := Obj.row 0x6040 1 8 0 1 0x02 0 0 .u32 .rwk (.c 4294967295) [] .none false
def Hsh.SYMMETRIC : Obj := Obj.row 0x6040 1 8 0 1 0x03 0 0 .bool .rwk (.c 0) [(0, 1)] .none false
def Hsh.objs : List Obj :=
  [Hsh.FIELDS, Hsh.SEED, Hsh.SYMMETRIC]

/-! Ind : Table 7-10. Hash and indirection objects (07_packet_pipeline.md). -/
def Ind.SIZE : Obj := Obj.row 0x6050 1 32 0 1 0x01 0 0 .u16 .rw (.c 1) [(1, 256)] .none false
def Ind.objs : List Obj :=
  [Ind.SIZE]

/-! IndEnt : Table 7-10. Hash and indirection objects (07_packet_pipeline.md). -/
def IndEnt.ENTRY : Obj := Obj.row 0xA802 0 1 0 1 0x01 0 8192 .u32 .rw (.c 0) [] .none false
def IndEnt.objs : List Obj :=
  [IndEnt.ENTRY]

/-! Rule : Table 7-11. Rule record (0xA800[r] bank A, 0xA801[r] bank B, r = 0–65535) (07_packet_pipeline.md). -/
def Rule.KEY : Obj := Obj.row 0xA800 1 2 0 1 0x01 0 65536 (.octets 80) .rw (.c 0) [] .none false
def Rule.MASK : Obj := Obj.row 0xA800 1 2 0 1 0x02 0 65536 (.octets 80) .rw (.c 0) [] .none false
def Rule.ACTION : Obj := Obj.row 0xA800 1 2 0 1 0x03 0 65536 (.octets 16) .rw (.c 0) [] .none false
def Rule.PRIORITY : Obj := Obj.row 0xA800 1 2 0 1 0x04 0 65536 .u16 .rw (.c 0) [(0, 65535)] .none false
def Rule.VALID : Obj := Obj.row 0xA800 1 2 0 1 0x05 0 65536 .bool .rw (.c 0) [(0, 1)] .none false
def Rule.HITS : Obj := Obj.row 0xA800 1 2 0 1 0x06 0 65536 .u64 .ro (.c 0) [] .wrap false
def Rule.HIT_BYTES : Obj := Obj.row 0xA800 1 2 0 1 0x07 0 65536 .u64 .ro (.c 0) [] .wrap false
def Rule.CLEAR_HITS : Obj := Obj.row 0xA800 1 2 0 1 0xFF 0 65536 .bool .wo (.c 0) [(1, 1)] .none false
def Rule.objs : List Obj :=
  [Rule.KEY, Rule.MASK, Rule.ACTION, Rule.PRIORITY, Rule.VALID, Rule.HITS,
   Rule.HIT_BYTES, Rule.CLEAR_HITS]

/-! Fwd : Table 8-7. Device objects (0x7000, 0x7001) (08_forwarding_learning.md). -/
def Fwd.AGE_PERIOD_S : Obj := Obj.row 0x7000 0 1 0 1 0x01 0 0 .u16 .rwk (.c 100) [(1, 3600)] .none false
def Fwd.MOVE_HOLD_MS : Obj := Obj.row 0x7000 0 1 0 1 0x02 0 0 .u16 .rwk (.c 10) [(1, 1000)] .none false
def Fwd.MOVE_LIMIT : Obj := Obj.row 0x7000 0 1 0 1 0x03 0 0 .u8 .rwk (.c 8) [(1, 100)] .none false
def Fwd.QUARANTINE_S : Obj := Obj.row 0x7000 0 1 0 1 0x04 0 0 .u16 .rwk (.c 60) [(1, 3600)] .none false
def Fwd.QUAR_ACTION : Obj := Obj.row 0x7000 0 1 0 1 0x05 0 0 .u8 .rwk (.c 0) [(0, 1)] .none false
def Fwd.MAX_KICKS : Obj := Obj.row 0x7000 0 1 0 1 0x06 0 0 .u8 .rwk (.c 8) [(1, 32)] .none false
def Fwd.FAR_ENABLE : Obj := Obj.row 0x7000 0 1 0 1 0x07 0 0 .bool .rwk (.c 0) [(0, 1)] .none false
def Fwd.TWIN_LEARN : Obj := Obj.row 0x7000 0 1 0 1 0x08 0 0 .bool .rwk (.c 0) [(0, 1)] .none false
def Fwd.SEED_1 : Obj := Obj.row 0x7000 0 1 0 1 0x09 0 0 .u32 .rwk (.c 324508639) [] .none false
def Fwd.SEED_2 : Obj := Obj.row 0x7000 0 1 0 1 0x0A 0 0 .u32 .rwk (.c 610839776) [] .none false
def Fwd.FAR_BUCKETS : Obj := Obj.row 0x7000 0 1 0 1 0x0B 0 0 .u32 .ro (.c 0) [(0, 15728640)] .none false
def Fwd.ENTRIES_ONCHIP : Obj := Obj.row 0x7001 0 1 0 1 0x01 0 0 .u32 .ro (.c 0) [(0, 4194304)] .none false
def Fwd.ENTRIES_FAR : Obj := Obj.row 0x7001 0 1 0 1 0x02 0 0 .u32 .ro (.c 0) [(0, 62914560)] .none false
def Fwd.LOOKUP_MISS : Obj := Obj.row 0x7001 0 1 0 1 0x03 0 0 .u64 .ro (.c 0) [] .wrap false
def Fwd.LOOKUP_FAR : Obj := Obj.row 0x7001 0 1 0 1 0x04 0 0 .u64 .ro (.c 0) [] .wrap false
def Fwd.WRONG_SIDE : Obj := Obj.row 0x7001 0 1 0 1 0x05 0 0 .u32 .ro (.c 0) [] .sat false
def Fwd.PROMOTIONS : Obj := Obj.row 0x7001 0 1 0 1 0x06 0 0 .u64 .ro (.c 0) [] .wrap false
def Fwd.PROMOTE_DROP : Obj := Obj.row 0x7001 0 1 0 1 0x07 0 0 .u32 .ro (.c 0) [] .sat false
def Fwd.LEARN_COMMITS : Obj := Obj.row 0x7001 0 1 0 1 0x08 0 0 .u64 .ro (.c 0) [] .wrap false
def Fwd.LEARN_DROP : Obj := Obj.row 0x7001 0 1 0 1 0x09 0 0 .u32 .ro (.c 0) [] .sat false
def Fwd.LEARN_TABLE_FULL : Obj := Obj.row 0x7001 0 1 0 1 0x0A 0 0 .u32 .ro (.c 0) [] .sat false
def Fwd.MOVES : Obj := Obj.row 0x7001 0 1 0 1 0x0B 0 0 .u32 .ro (.c 0) [] .wrap false
def Fwd.MOVE_SUPPRESSED : Obj := Obj.row 0x7001 0 1 0 1 0x0C 0 0 .u32 .ro (.c 0) [] .sat false
def Fwd.STATIC_CONFLICT : Obj := Obj.row 0x7001 0 1 0 1 0x0D 0 0 .u32 .ro (.c 0) [] .sat false
def Fwd.QUARANTINES : Obj := Obj.row 0x7001 0 1 0 1 0x0E 0 0 .u16 .ro (.c 0) [] .sat false
def Fwd.QUAR_IGNORED : Obj := Obj.row 0x7001 0 1 0 1 0x0F 0 0 .u32 .ro (.c 0) [] .sat false
def Fwd.AGED_OUT : Obj := Obj.row 0x7001 0 1 0 1 0x10 0 0 .u64 .ro (.c 0) [] .wrap false
def Fwd.AGE_LATE : Obj := Obj.row 0x7001 0 1 0 1 0x11 0 0 .u16 .ro (.c 0) [] .sat false
def Fwd.LAST_PASS_MS : Obj := Obj.row 0x7001 0 1 0 1 0x12 0 0 .u32 .ro (.c 0) [] .none false
def Fwd.CLEAR : Obj := Obj.row 0x7001 0 1 0 1 0xFF 0 0 .bool .wo (.c 0) [(1, 1)] .none false
def Fwd.objs : List Obj :=
  [Fwd.AGE_PERIOD_S, Fwd.MOVE_HOLD_MS, Fwd.MOVE_LIMIT, Fwd.QUARANTINE_S, Fwd.QUAR_ACTION, Fwd.MAX_KICKS,
   Fwd.FAR_ENABLE, Fwd.TWIN_LEARN, Fwd.SEED_1, Fwd.SEED_2, Fwd.FAR_BUCKETS, Fwd.ENTRIES_ONCHIP,
   Fwd.ENTRIES_FAR, Fwd.LOOKUP_MISS, Fwd.LOOKUP_FAR, Fwd.WRONG_SIDE, Fwd.PROMOTIONS, Fwd.PROMOTE_DROP,
   Fwd.LEARN_COMMITS, Fwd.LEARN_DROP, Fwd.LEARN_TABLE_FULL, Fwd.MOVES, Fwd.MOVE_SUPPRESSED, Fwd.STATIC_CONFLICT,
   Fwd.QUARANTINES, Fwd.QUAR_IGNORED, Fwd.AGED_OUT, Fwd.AGE_LATE, Fwd.LAST_PASS_MS, Fwd.CLEAR]

/-! Lkp : Table 8-8. Lookup profile, class c (0x7010 + c downstream, 0x7050 + c upstream, c = 0–63) (08_forwarding_learning.md). -/
def Lkp.KEY_FORM_1 : Obj := Obj.row 0x7010 64 2 1 64 0x01 0 0 .u8 .rwk (.c 1) [(0, 4)] .none false
def Lkp.KEY_FORM_2 : Obj := Obj.row 0x7010 64 2 1 64 0x02 0 0 .u8 .rwk (.c 0) [(0, 4)] .none false
def Lkp.VRF : Obj := Obj.row 0x7010 64 2 1 64 0x03 0 0 .u16 .rwk (.c 0) [(0, 65535)] .none false
def Lkp.LEARN_FORM : Obj := Obj.row 0x7010 64 2 1 64 0x04 0 0 .u8 .rwk (.c 1) [(0, 1)] .none false
def Lkp.MISS_ACTION : Obj := Obj.row 0x7010 64 2 1 64 0x05 0 0 .u8 .rwk (.c 0) [(0, 3)] .none false
def Lkp.MISS_DEST : Obj := Obj.row 0x7010 64 2 1 64 0x06 0 0 .u32 .rwk (.c 0) [(0, 1048575)] .none false
def Lkp.objs : List Obj :=
  [Lkp.KEY_FORM_1, Lkp.KEY_FORM_2, Lkp.VRF, Lkp.LEARN_FORM, Lkp.MISS_ACTION, Lkp.MISS_DEST]

/-! FwdOp : Table 8-9. Key operation (0x7100) (08_forwarding_learning.md). -/
def FwdOp.OP_FORM : Obj := Obj.row 0x7100 0 1 0 1 0x01 0 0 .u8 .rw (.c 1) [(1, 4)] .none false
def FwdOp.OP_KEY : Obj := Obj.row 0x7100 0 1 0 1 0x02 0 0 (.octets 16) .rw (.c 0) [] .none false
def FwdOp.OP_LOC_TYPE : Obj := Obj.row 0x7100 0 1 0 1 0x03 0 0 .u8 .rw (.c 0) [(0, 3)] .none false
def FwdOp.OP_DEST : Obj := Obj.row 0x7100 0 1 0 1 0x04 0 0 .u32 .rw (.c 0) [(0, 1048575)] .none false
def FwdOp.OP_STATIC : Obj := Obj.row 0x7100 0 1 0 1 0x05 0 0 .bool .rw (.c 0) [(0, 1)] .none false
def FwdOp.OP_CODE : Obj := Obj.row 0x7100 0 1 0 1 0x06 0 0 .u8 .wo (.c 0) [(1, 4)] .none false
def FwdOp.OP_FOUND : Obj := Obj.row 0x7100 0 1 0 1 0x07 0 0 .u8 .ro (.c 0) [(0, 2)] .none false
def FwdOp.OP_FLAGS : Obj := Obj.row 0x7100 0 1 0 1 0x08 0 0 .u8 .ro (.c 0) [] .none false
def FwdOp.objs : List Obj :=
  [FwdOp.OP_FORM, FwdOp.OP_KEY, FwdOp.OP_LOC_TYPE, FwdOp.OP_DEST, FwdOp.OP_STATIC, FwdOp.OP_CODE,
   FwdOp.OP_FOUND, FwdOp.OP_FLAGS]

/-! Assoc : Table 8-10. Associative record (0xA600[r], r = 0–65535) (08_forwarding_learning.md). -/
def Assoc.FORM : Obj := Obj.row 0xA600 0 1 0 1 0x01 0 65536 .u8 .rw (.c 0) [(1, 4)] .none false
def Assoc.KEY : Obj := Obj.row 0xA600 0 1 0 1 0x02 0 65536 (.octets 16) .rw (.c 0) [] .none false
def Assoc.LOC_TYPE : Obj := Obj.row 0xA600 0 1 0 1 0x03 0 65536 .u8 .rw (.c 0) [(0, 3)] .none false
def Assoc.DEST : Obj := Obj.row 0xA600 0 1 0 1 0x04 0 65536 .u32 .rw (.c 0) [(0, 1048575)] .none false
def Assoc.PRIORITY : Obj := Obj.row 0xA600 0 1 0 1 0x05 0 65536 .u16 .rw (.c 0) [(0, 65535)] .none false
def Assoc.VALID : Obj := Obj.row 0xA600 0 1 0 1 0x06 0 65536 .bool .rw (.c 0) [(0, 1)] .none false
def Assoc.HITS : Obj := Obj.row 0xA600 0 1 0 1 0x07 0 65536 .u64 .ro (.c 0) [] .wrap false
def Assoc.CLEAR_HITS : Obj := Obj.row 0xA600 0 1 0 1 0xFF 0 65536 .bool .wo (.c 0) [(1, 1)] .none false
def Assoc.objs : List Obj :=
  [Assoc.FORM, Assoc.KEY, Assoc.LOC_TYPE, Assoc.DEST, Assoc.PRIORITY, Assoc.VALID,
   Assoc.HITS, Assoc.CLEAR_HITS]

/-! FidMap : Table 8-11. Maps and views (0xA601, 0xA602) (08_forwarding_learning.md). -/
def FidMap.FID : Obj := Obj.row 0xA601 0 1 0 1 0x01 0 8192 .u16 .rw (.recMod 4096) [(0, 65535)] .none false
def FidMap.objs : List Obj :=
  [FidMap.FID]

/-! FwdView : Table 8-11. Maps and views (0xA601, 0xA602) (08_forwarding_learning.md). -/
def FwdView.ENTRY : Obj := Obj.row 0xA602 0 1 0 1 0x01 0 4194304 (.octets 24) .ro (.c 0) [] .none false
def FwdView.objs : List Obj :=
  [FwdView.ENTRY]

/-! Tm : Table 9-11. Device objects (0x7800, 0x7801) (09_traffic_buffers.md). -/
def Tm.LAUNCH_LATE_NS : Obj := Obj.row 0x7800 0 1 0 1 0x01 0 0 .u32 .rwk (.c 1000) [(10, 1000000)] .none false
def Tm.LAUNCH_HORIZON_US : Obj := Obj.row 0x7800 0 1 0 1 0x02 0 0 .u32 .rwk (.c 1000) [(1, 1000000)] .none false
def Tm.ARRIVAL_DROP_DS : Obj := Obj.row 0x7800 0 1 0 1 0x03 0 0 .u32 .ro (.c 0) [] .sat false
def Tm.ARRIVAL_DROP_US : Obj := Obj.row 0x7800 0 1 0 1 0x04 0 0 .u32 .ro (.c 0) [] .sat false
def Tm.TOO_LONG : Obj := Obj.row 0x7800 0 1 0 1 0x05 0 0 .u32 .ro (.c 0) [] .sat false
def Tm.NO_QUEUE : Obj := Obj.row 0x7800 0 1 0 1 0x06 0 0 .u32 .ro (.c 0) [] .sat false
def Tm.QUEUE_MISMATCH : Obj := Obj.row 0x7800 0 1 0 1 0x07 0 0 .u32 .ro (.c 0) [] .sat false
def Tm.SPILLED : Obj := Obj.row 0x7800 0 1 0 1 0x08 0 0 .u64 .ro (.c 0) [] .wrap false
def Tm.REFILLED : Obj := Obj.row 0x7800 0 1 0 1 0x09 0 0 .u64 .ro (.c 0) [] .wrap false
def Tm.SPILL_FAIL : Obj := Obj.row 0x7800 0 1 0 1 0x0A 0 0 .u32 .ro (.c 0) [] .sat false
def Tm.REPL_COPIES : Obj := Obj.row 0x7800 0 1 0 1 0x0B 0 0 .u64 .ro (.c 0) [] .wrap false
def Tm.REPL_EMPTY : Obj := Obj.row 0x7800 0 1 0 1 0x0C 0 0 .u32 .ro (.c 0) [] .sat false
def Tm.HINTS_POSTED : Obj := Obj.row 0x7800 0 1 0 1 0x0D 0 0 .u32 .ro (.c 0) [] .wrap false
def Tm.HINT_BAD : Obj := Obj.row 0x7800 0 1 0 1 0x0E 0 0 .u32 .ro (.c 0) [] .sat false
def Tm.HINT_NOCTX : Obj := Obj.row 0x7800 0 1 0 1 0x0F 0 0 .u32 .ro (.c 0) [] .sat false
def Tm.LAUNCH_EARLY : Obj := Obj.row 0x7800 0 1 0 1 0x10 0 0 .u32 .ro (.c 0) [] .sat false
def Tm.LAUNCH_LATE : Obj := Obj.row 0x7800 0 1 0 1 0x11 0 0 .u32 .ro (.c 0) [] .sat false
def Tm.DEEP_BYTES : Obj := Obj.row 0x7800 0 1 0 1 0x12 0 0 .u64 .ro (.c 0) [] .none false
def Tm.CLEAR : Obj := Obj.row 0x7800 0 1 0 1 0xFF 0 0 .bool .wo (.c 0) [(1, 1)] .none false
def Tm.DS_CLASS_QIDX : Obj := Obj.row 0x7801 0 1 0 64 0x01 1 0 .u8 .rwk (.c 0) [(0, 7)] .none false
def Tm.objs : List Obj :=
  [Tm.LAUNCH_LATE_NS, Tm.LAUNCH_HORIZON_US, Tm.ARRIVAL_DROP_DS, Tm.ARRIVAL_DROP_US, Tm.TOO_LONG, Tm.NO_QUEUE,
   Tm.QUEUE_MISMATCH, Tm.SPILLED, Tm.REFILLED, Tm.SPILL_FAIL, Tm.REPL_COPIES, Tm.REPL_EMPTY,
   Tm.HINTS_POSTED, Tm.HINT_BAD, Tm.HINT_NOCTX, Tm.LAUNCH_EARLY, Tm.LAUNCH_LATE, Tm.DEEP_BYTES,
   Tm.CLEAR, Tm.DS_CLASS_QIDX]

/-! Pool : Table 9-12. Pool objects (0x7810 + k on chip, k = 0–7; 0x7818 + k deep, k = 0–2) (09_traffic_buffers.md). -/
def Pool.SIZE : Obj := Obj.row 0x7810 1 11 0 1 0x01 0 0 .u32 .const (.poolSize) [] .none false
def Pool.COUNT : Obj := Obj.row 0x7810 1 11 0 1 0x02 0 0 .u32 .rwk (.poolCount) [(0, 4294967295)] .none false
def Pool.ACTIVE_COUNT : Obj := Obj.row 0x7810 1 11 0 1 0x03 0 0 .u32 .ro (.c 0) [] .none false
def Pool.SPILL_UP : Obj := Obj.row 0x7810 1 11 0 1 0x04 0 0 .bool .rwk (.poolSpill) [(0, 1)] .none false
def Pool.FREE : Obj := Obj.row 0x7810 1 11 0 1 0x05 0 0 .u32 .ro (.c 0) [] .none false
def Pool.LOW_WATER : Obj := Obj.row 0x7810 1 11 0 1 0x06 0 0 .u32 .ro (.c 0) [] .none false
def Pool.ALLOC_FAIL : Obj := Obj.row 0x7810 1 11 0 1 0x07 0 0 .u32 .ro (.c 0) [] .sat false
def Pool.SPILLED_UP_IN : Obj := Obj.row 0x7810 1 11 0 1 0x08 0 0 .u32 .ro (.c 0) [] .sat false
def Pool.CLEAR : Obj := Obj.row 0x7810 1 11 0 1 0xFF 0 0 .bool .wo (.c 0) [(1, 1)] .none false
def Pool.objs : List Obj :=
  [Pool.SIZE, Pool.COUNT, Pool.ACTIVE_COUNT, Pool.SPILL_UP, Pool.FREE, Pool.LOW_WATER,
   Pool.ALLOC_FAIL, Pool.SPILLED_UP_IN, Pool.CLEAR]

/-! Own : Table 9-13. Ownership counters (0x7820) (09_traffic_buffers.md). -/
def Own.REJECT : Obj := Obj.row 0x7820 0 1 0 9 0x01 1 0 .u32 .ro (.c 0) [] .sat false
def Own.CLEAR : Obj := Obj.row 0x7820 0 1 0 1 0xFF 0 0 .bool .wo (.c 0) [(1, 1)] .none false
def Own.objs : List Obj :=
  [Own.REJECT, Own.CLEAR]

/-! Join : Table 9-14. Replay join and burst capture (0x7830, 0x7840) (09_traffic_buffers.md). -/
def Join.JOIN_CHANNEL : Obj := Obj.row 0x7830 0 1 0 1 0x01 0 0 .u16 .rw (.c 0) [(0, 2047)] .none false
def Join.JOIN_XGEM : Obj := Obj.row 0x7830 0 1 0 1 0x02 0 0 .u32 .rw (.c 0) [(0, 262143)] .none false
def Join.JOIN_QINDEX : Obj := Obj.row 0x7830 0 1 0 1 0x03 0 0 .u8 .rw (.c 0) [(0, 7)] .none false
def Join.JOIN_KBPS : Obj := Obj.row 0x7830 0 1 0 1 0x04 0 0 .u32 .rw (.c 200000) [(1000, 10000000)] .none false
def Join.JOIN_GO : Obj := Obj.row 0x7830 0 1 0 1 0x05 0 0 .bool .wo (.c 0) [(1, 1)] .none false
def Join.REPLAYS_RUNNING : Obj := Obj.row 0x7830 0 1 0 1 0x06 0 0 .u16 .ro (.c 0) [(0, 256)] .none false
def Join.REPLAY_DROP : Obj := Obj.row 0x7830 0 1 0 1 0x07 0 0 .u32 .ro (.c 0) [] .sat false
def Join.REPLAY_SKIP : Obj := Obj.row 0x7830 0 1 0 1 0x08 0 0 .u32 .ro (.c 0) [] .sat false
def Join.objs : List Obj :=
  [Join.JOIN_CHANNEL, Join.JOIN_XGEM, Join.JOIN_QINDEX, Join.JOIN_KBPS, Join.JOIN_GO, Join.REPLAYS_RUNNING,
   Join.REPLAY_DROP, Join.REPLAY_SKIP]

/-! BCap : Table 9-14. Replay join and burst capture (0x7830, 0x7840) (09_traffic_buffers.md). -/
def BCap.CAP_PORT : Obj := Obj.row 0x7840 0 1 0 1 0x01 0 0 .u8 .rw (.c 0) [(0, 63)] .none false
def BCap.CAP_CHANNEL : Obj := Obj.row 0x7840 0 1 0 1 0x02 0 0 .u8 .rw (.c 0) [(0, 1)] .none false
def BCap.CAP_ONU : Obj := Obj.row 0x7840 0 1 0 1 0x03 0 0 .u16 .rw (.c 65535) [(0, 1022), (65535, 65535)] .none false
def BCap.CAP_TRIGGER : Obj := Obj.row 0x7840 0 1 0 1 0x04 0 0 .u8 .rw (.c 0) [(0, 4)] .none false
def BCap.CAP_PRE : Obj := Obj.row 0x7840 0 1 0 1 0x05 0 0 .u8 .rw (.c 0) [(0, 255)] .none false
def BCap.CAP_POST : Obj := Obj.row 0x7840 0 1 0 1 0x06 0 0 .u16 .rw (.c 1) [(1, 4095)] .none false
def BCap.CAP_MAX_BYTES : Obj := Obj.row 0x7840 0 1 0 1 0x07 0 0 .u32 .rw (.c 65536) [(64, 1048576)] .none false
def BCap.CAP_ARM : Obj := Obj.row 0x7840 0 1 0 1 0x08 0 0 .bool .rw (.c 0) [(0, 1)] .none false
def BCap.CAP_COUNT : Obj := Obj.row 0x7840 0 1 0 1 0x09 0 0 .u16 .ro (.c 0) [(0, 4350)] .none false
def BCap.objs : List Obj :=
  [BCap.CAP_PORT, BCap.CAP_CHANNEL, BCap.CAP_ONU, BCap.CAP_TRIGGER, BCap.CAP_PRE, BCap.CAP_POST,
   BCap.CAP_MAX_BYTES, BCap.CAP_ARM, BCap.CAP_COUNT]

/-! Node : Table 9-15. Node record (0xB010[n] downstream, 0xB011[n] upstream, n of Table 9-5) (09_traffic_buffers.md). -/
def Node.PORT : Obj := Obj.row 0xB010 1 2 0 1 0x01 0 262144 .u8 .ro (.c 255) [(0, 63), (255, 255)] .none false
def Node.CHANNEL : Obj := Obj.row 0xB010 1 2 0 1 0x02 0 262144 .u8 .ro (.c 255) [(0, 1), (255, 255)] .none false
def Node.ONU_ID : Obj := Obj.row 0xB010 1 2 0 1 0x03 0 262144 .u16 .ro (.c 65535) [(0, 1023), (65535, 65535)] .none false
def Node.XGEM_ID : Obj := Obj.row 0xB010 1 2 0 1 0x04 0 262144 .u16 .ro (.c 65535) [(0, 65534), (65535, 65535)] .none false
def Node.PARENT : Obj := Obj.row 0xB010 1 2 0 1 0x05 0 262144 .u32 .rwk (.c 0) [] .none true
def Node.LEVEL : Obj := Obj.row 0xB010 1 2 0 1 0x06 0 262144 .u8 .ro (.c 0) [(1, 4)] .none false
def Node.PRIORITY : Obj := Obj.row 0xB010 1 2 0 1 0x07 0 262144 .u8 .rwk (.c 0) [(0, 7)] .none false
def Node.WEIGHT : Obj := Obj.row 0xB010 1 2 0 1 0x08 0 262144 .u16 .rwk (.c 1) [(1, 1024)] .none false
def Node.CIR_KBPS : Obj := Obj.row 0xB010 1 2 0 1 0x09 0 262144 .u32 .rwk (.c 0) [(0, 800000000)] .none false
def Node.CBS_BYTES : Obj := Obj.row 0xB010 1 2 0 1 0x0A 0 262144 .u32 .rwk (.c 16384) [(0, 16777216)] .none false
def Node.PIR_KBPS : Obj := Obj.row 0xB010 1 2 0 1 0x0B 0 262144 .u32 .rwk (.c 0) [(0, 800000000)] .none false
def Node.PBS_BYTES : Obj := Obj.row 0xB010 1 2 0 1 0x0C 0 262144 .u32 .rwk (.c 16384) [(0, 16777216)] .none false
def Node.XGEM_REC : Obj := Obj.row 0xB010 1 2 0 1 0x0D 0 262144 .u32 .rwk (.c 262143) [(0, 262143), (262143, 262143)] .none false
def Node.OVH_BYTES : Obj := Obj.row 0xB010 1 2 0 1 0x0E 0 262144 .s8 .rwk (.nodeOvh) [(-32, 64)] .none false
def Node.BACKLOG_BYTES : Obj := Obj.row 0xB010 1 2 0 1 0x0F 0 262144 .u64 .ro (.c 0) [] .none false
def Node.TX_PACKETS : Obj := Obj.row 0xB010 1 2 0 1 0x10 0 262144 .u64 .ro (.c 0) [] .wrap false
def Node.TX_BYTES : Obj := Obj.row 0xB010 1 2 0 1 0x11 0 262144 .u64 .ro (.c 0) [] .wrap false
def Node.CLEAR : Obj := Obj.row 0xB010 1 2 0 1 0xFE 0 262144 .bool .wo (.c 0) [(1, 1)] .none false
def Node.DELETE : Obj := Obj.row 0xB010 1 2 0 1 0xFF 0 262144 .bool .wo (.c 0) [(1, 1)] .none false
def Node.objs : List Obj :=
  [Node.PORT, Node.CHANNEL, Node.ONU_ID, Node.XGEM_ID, Node.PARENT, Node.LEVEL,
   Node.PRIORITY, Node.WEIGHT, Node.CIR_KBPS, Node.CBS_BYTES, Node.PIR_KBPS, Node.PBS_BYTES,
   Node.XGEM_REC, Node.OVH_BYTES, Node.BACKLOG_BYTES, Node.TX_PACKETS, Node.TX_BYTES, Node.CLEAR,
   Node.DELETE]

/-! Queue : Table 9-16. Queue record (0xB000[q] downstream, 0xB001[q] upstream) (09_traffic_buffers.md). -/
def Queue.PORT : Obj := Obj.row 0xB000 1 2 0 1 0x01 0 262144 .u8 .ro (.c 255) [(0, 63), (255, 255)] .none false
def Queue.CHANNEL : Obj := Obj.row 0xB000 1 2 0 1 0x02 0 262144 .u8 .ro (.c 255) [(0, 1), (255, 255)] .none false
def Queue.ONU_ID : Obj := Obj.row 0xB000 1 2 0 1 0x03 0 262144 .u16 .ro (.c 65535) [(0, 1023), (65535, 65535)] .none false
def Queue.XGEM_ID : Obj := Obj.row 0xB000 1 2 0 1 0x04 0 262144 .u16 .ro (.c 65535) [(0, 65534), (65535, 65535)] .none false
def Queue.QINDEX : Obj := Obj.row 0xB000 1 2 0 1 0x05 0 262144 .u8 .rwk (.c 0) [(0, 7)] .none false
def Queue.SERVICE : Obj := Obj.row 0xB000 1 2 0 1 0x06 0 262144 .u32 .rwk (.c 0) [] .none true
def Queue.ADMIN : Obj := Obj.row 0xB000 1 2 0 1 0x07 0 262144 .bool .rwk (.c 0) [(0, 1)] .none false
def Queue.PRIORITY : Obj := Obj.row 0xB000 1 2 0 1 0x08 0 262144 .u8 .rwk (.c 0) [(0, 7)] .none false
def Queue.WEIGHT : Obj := Obj.row 0xB000 1 2 0 1 0x09 0 262144 .u16 .rwk (.c 1) [(1, 1024)] .none false
def Queue.CIR_KBPS : Obj := Obj.row 0xB000 1 2 0 1 0x0A 0 262144 .u32 .rwk (.c 0) [(0, 800000000)] .none false
def Queue.CBS_BYTES : Obj := Obj.row 0xB000 1 2 0 1 0x0B 0 262144 .u32 .rwk (.c 16384) [(0, 16777216)] .none false
def Queue.PIR_KBPS : Obj := Obj.row 0xB000 1 2 0 1 0x0C 0 262144 .u32 .rwk (.c 0) [(0, 800000000)] .none false
def Queue.PBS_BYTES : Obj := Obj.row 0xB000 1 2 0 1 0x0D 0 262144 .u32 .rwk (.c 16384) [(0, 16777216)] .none false
def Queue.PROFILE : Obj := Obj.row 0xB000 1 2 0 1 0x0E 0 262144 .u8 .rwk (.c 0) [(0, 255)] .none false
def Queue.LAUNCH : Obj := Obj.row 0xB000 1 2 0 1 0x0F 0 262144 .bool .rwk (.c 0) [(0, 1)] .none false
def Queue.OCC_BYTES : Obj := Obj.row 0xB000 1 2 0 1 0x10 0 262144 .u64 .ro (.c 0) [] .none false
def Queue.DEEP_BYTES : Obj := Obj.row 0xB000 1 2 0 1 0x11 0 262144 .u64 .ro (.c 0) [] .none false
def Queue.ENQ_PACKETS : Obj := Obj.row 0xB000 1 2 0 1 0x12 0 262144 .u64 .ro (.c 0) [] .wrap false
def Queue.ENQ_BYTES : Obj := Obj.row 0xB000 1 2 0 1 0x13 0 262144 .u64 .ro (.c 0) [] .wrap false
def Queue.DROP_GREEN : Obj := Obj.row 0xB000 1 2 0 1 0x14 0 262144 .u32 .ro (.c 0) [] .sat false
def Queue.DROP_YELLOW : Obj := Obj.row 0xB000 1 2 0 1 0x15 0 262144 .u32 .ro (.c 0) [] .sat false
def Queue.DROP_RED : Obj := Obj.row 0xB000 1 2 0 1 0x16 0 262144 .u32 .ro (.c 0) [] .sat false
def Queue.DROP_OTHER : Obj := Obj.row 0xB000 1 2 0 1 0x17 0 262144 .u32 .ro (.c 0) [] .sat false
def Queue.CLEAR : Obj := Obj.row 0xB000 1 2 0 1 0xFE 0 262144 .bool .wo (.c 0) [(1, 1)] .none false
def Queue.DELETE : Obj := Obj.row 0xB000 1 2 0 1 0xFF 0 262144 .bool .wo (.c 0) [(1, 1)] .none false
def Queue.objs : List Obj :=
  [Queue.PORT, Queue.CHANNEL, Queue.ONU_ID, Queue.XGEM_ID, Queue.QINDEX, Queue.SERVICE,
   Queue.ADMIN, Queue.PRIORITY, Queue.WEIGHT, Queue.CIR_KBPS, Queue.CBS_BYTES, Queue.PIR_KBPS,
   Queue.PBS_BYTES, Queue.PROFILE, Queue.LAUNCH, Queue.OCC_BYTES, Queue.DEEP_BYTES, Queue.ENQ_PACKETS,
   Queue.ENQ_BYTES, Queue.DROP_GREEN, Queue.DROP_YELLOW, Queue.DROP_RED, Queue.DROP_OTHER, Queue.CLEAR,
   Queue.DELETE]

/-! Pol : Table 9-17. Policer (0xB020[i], i = 1–65535) and drop profile (0xB030[i], i = 0–255) (09_traffic_buffers.md). -/
def Pol.CIR_KBPS : Obj := Obj.row 0xB020 0 1 0 1 0x01 0 65536 .u32 .rwk (.c 0) [(0, 800000000)] .none false
def Pol.CBS_BYTES : Obj := Obj.row 0xB020 0 1 0 1 0x02 0 65536 .u32 .rwk (.c 16384) [(0, 16777216)] .none false
def Pol.PIR_KBPS : Obj := Obj.row 0xB020 0 1 0 1 0x03 0 65536 .u32 .rwk (.c 0) [(0, 800000000)] .none false
def Pol.PBS_BYTES : Obj := Obj.row 0xB020 0 1 0 1 0x04 0 65536 .u32 .rwk (.c 16384) [(0, 16777216)] .none false
def Pol.MODE : Obj := Obj.row 0xB020 0 1 0 1 0x05 0 65536 .u8 .rwk (.c 0) [(0, 1)] .none false
def Pol.RED_DROP : Obj := Obj.row 0xB020 0 1 0 1 0x06 0 65536 .bool .rwk (.c 1) [(0, 1)] .none false
def Pol.GREEN : Obj := Obj.row 0xB020 0 1 0 1 0x07 0 65536 .u64 .ro (.c 0) [] .wrap false
def Pol.YELLOW : Obj := Obj.row 0xB020 0 1 0 1 0x08 0 65536 .u64 .ro (.c 0) [] .wrap false
def Pol.RED : Obj := Obj.row 0xB020 0 1 0 1 0x09 0 65536 .u64 .ro (.c 0) [] .wrap false
def Pol.RED_DROPPED : Obj := Obj.row 0xB020 0 1 0 1 0x0A 0 65536 .u64 .ro (.c 0) [] .wrap false
def Pol.CLEAR : Obj := Obj.row 0xB020 0 1 0 1 0xFE 0 65536 .bool .wo (.c 0) [(1, 1)] .none false
def Pol.objs : List Obj :=
  [Pol.CIR_KBPS, Pol.CBS_BYTES, Pol.PIR_KBPS, Pol.PBS_BYTES, Pol.MODE, Pol.RED_DROP,
   Pol.GREEN, Pol.YELLOW, Pol.RED, Pol.RED_DROPPED, Pol.CLEAR]

/-! DropP : Table 9-17. Policer (0xB020[i], i = 1–65535) and drop profile (0xB030[i], i = 0–255) (09_traffic_buffers.md). -/
def DropP.GREEN_MAX : Obj := Obj.row 0xB030 0 1 0 1 0x01 0 256 .u32 .rwk (.c 1048576) [(0, 4294967295)] .none false
def DropP.YELLOW_MAX : Obj := Obj.row 0xB030 0 1 0 1 0x02 0 256 .u32 .rwk (.c 524288) [(0, 4294967295)] .none false
def DropP.RED_MAX : Obj := Obj.row 0xB030 0 1 0 1 0x03 0 256 .u32 .rwk (.c 0) [(0, 4294967295)] .none false
def DropP.SPILL_AT : Obj := Obj.row 0xB030 0 1 0 1 0x04 0 256 .u32 .rwk (.c 0) [(0, 4294967295)] .none false
def DropP.REFILL_AT : Obj := Obj.row 0xB030 0 1 0 1 0x05 0 256 .u32 .rwk (.c 0) [(0, 4294967295)] .none false
def DropP.objs : List Obj :=
  [DropP.GREEN_MAX, DropP.YELLOW_MAX, DropP.RED_MAX, DropP.SPILL_AT, DropP.REFILL_AT]

/-! ClsQUs : Table 9-18. Class queues and replication (0xB040, 0xB041, 0xB050, 0xB051) (09_traffic_buffers.md). -/
def ClsQUs.CLASS_QUEUE : Obj := Obj.row 0xB040 0 1 0 1 0x01 0 2176 .u32 .rwk (.c 0) [(0, 32767)] .none false
def ClsQUs.objs : List Obj :=
  [ClsQUs.CLASS_QUEUE]

/-! ClsQDs : Table 9-18. Class queues and replication (0xB040, 0xB041, 0xB050, 0xB051) (09_traffic_buffers.md). -/
def ClsQDs.CLASS_QUEUE : Obj := Obj.row 0xB041 0 1 0 1 0x01 0 128 .u32 .rwk (.c 0) [(0, 262143)] .none false
def ClsQDs.objs : List Obj :=
  [ClsQDs.CLASS_QUEUE]

/-! Repl : Table 9-18. Class queues and replication (0xB040, 0xB041, 0xB050, 0xB051) (09_traffic_buffers.md). -/
def Repl.DIRECTION : Obj := Obj.row 0xB050 0 1 0 1 0x01 0 65536 .u8 .rwk (.c 0) [(0, 1)] .none false
def Repl.BOUND_XGEM : Obj := Obj.row 0xB050 0 1 0 1 0x02 0 65536 .u32 .rwk (.c 262143) [(0, 262143), (262143, 262143)] .none false
def Repl.MEMBERS : Obj := Obj.row 0xB050 0 1 0 1 0x03 0 65536 .u16 .ro (.c 0) [(0, 4095)] .none false
def Repl.objs : List Obj :=
  [Repl.DIRECTION, Repl.BOUND_XGEM, Repl.MEMBERS]

/-! ReplMem : Table 9-18. Class queues and replication (0xB040, 0xB041, 0xB050, 0xB051) (09_traffic_buffers.md). -/
def ReplMem.GROUP : Obj := Obj.row 0xB051 0 1 0 1 0x01 0 262144 .u16 .rwk (.c 0) [(0, 65535)] .none true
def ReplMem.DEST : Obj := Obj.row 0xB051 0 1 0 1 0x02 0 262144 .u32 .rwk (.c 0) [(0, 1048575)] .none true
def ReplMem.DELETE : Obj := Obj.row 0xB051 0 1 0 1 0xFF 0 262144 .bool .wo (.c 0) [(1, 1)] .none false
def ReplMem.objs : List Obj :=
  [ReplMem.GROUP, ReplMem.DEST, ReplMem.DELETE]

/-! Chan : Table 9-19. Replay channel (0xB060[k], k = 0–2047) and capture store (0xB070[i], 0xB071[j]) (09_traffic_buffers.md). -/
def Chan.GROUP : Obj := Obj.row 0xB060 0 1 0 1 0x01 0 2048 .u16 .rwk (.c 0) [(0, 65535)] .none false
def Chan.WINDOW_MS : Obj := Obj.row 0xB060 0 1 0 1 0x02 0 2048 .u16 .rwk (.c 2000) [(500, 2000)] .none false
def Chan.MAX_BYTES : Obj := Obj.row 0xB060 0 1 0 1 0x03 0 2048 .u32 .rwk (.c 8388608) [(1048576, 67108864)] .none false
def Chan.ENABLE : Obj := Obj.row 0xB060 0 1 0 1 0x04 0 2048 .bool .rwk (.c 0) [(0, 1)] .none false
def Chan.STORED_BYTES : Obj := Obj.row 0xB060 0 1 0 1 0x05 0 2048 .u32 .ro (.c 0) [] .none false
def Chan.objs : List Obj :=
  [Chan.GROUP, Chan.WINDOW_MS, Chan.MAX_BYTES, Chan.ENABLE, Chan.STORED_BYTES]

/-! CapRec : Table 9-19. Replay channel (0xB060[k], k = 0–2047) and capture store (0xB070[i], 0xB071[j]) (09_traffic_buffers.md). -/
def CapRec.HEADER : Obj := Obj.row 0xB070 0 1 0 1 0x01 0 4350 (.octets 64) .ro (.c 0) [] .none false
def CapRec.FIRST_LINE : Obj := Obj.row 0xB070 0 1 0 1 0x02 0 4350 .u32 .ro (.c 0) [] .none false
def CapRec.objs : List Obj :=
  [CapRec.HEADER, CapRec.FIRST_LINE]

/-! CapLine : Table 9-19. Replay channel (0xB060[k], k = 0–2047) and capture store (0xB070[i], 0xB071[j]) (09_traffic_buffers.md). -/
def CapLine.LINE : Obj := Obj.row 0xB071 0 1 0 1 0x01 0 4294967296 (.octets 64) .ro (.c 0) [] .none false
def CapLine.objs : List Obj :=
  [CapLine.LINE]

end Sys2Proof.Machine
end

