-- ==== Sys2Proof/Machine/ObjectsC.lean ====
section
/-! DEFINITION. The object descriptors of chapters 10, 11, 12, 13, 14, 15, 16, 17 of the spec, one per row of its object tables. -/

namespace Sys2Proof.Machine


/-! Upl : Table 10-9. Group (0x8000 + g, g = 0–7) (10_uplinks_otn.md). -/
def Upl.MODE : Obj := Obj.row 0x8000 1 8 0 1 0x01 0 0 .u8 .rwk (.c 0) [(0, 5)] .none false
def Upl.ENABLE : Obj := Obj.row 0x8000 1 8 0 1 0x02 0 0 .bool .rwk (.c 0) [(0, 1)] .none false
def Upl.TRAIN : Obj := Obj.row 0x8000 1 8 0 1 0x03 0 0 .bool .rwk (.c 1) [(0, 1)] .none false
def Upl.TRAIN_TIMEOUT_MS : Obj := Obj.row 0x8000 1 8 0 1 0x04 0 0 .u16 .rwk (.c 3000) [(500, 12000)] .none false
def Upl.FEC_ERR_IND : Obj := Obj.row 0x8000 1 8 0 1 0x05 0 0 .bool .rwk (.c 1) [(0, 1)] .none false
def Upl.STATE : Obj := Obj.row 0x8000 1 8 0 1 0x06 0 0 .u8 .ro (.c 0) [(0, 5)] .none false
def Upl.PAIRED : Obj := Obj.row 0x8000 1 8 0 1 0x07 0 0 .bool .ro (.c 0) [(0, 1)] .none false
def Upl.TRAIN_FAILS : Obj := Obj.row 0x8000 1 8 0 1 0x08 0 0 .u16 .ro (.c 0) [] .sat false
def Upl.UP_TIME_MS : Obj := Obj.row 0x8000 1 8 0 1 0x09 0 0 .u32 .ro (.c 0) [] .none false
def Upl.objs : List Obj :=
  [Upl.MODE, Upl.ENABLE, Upl.TRAIN, Upl.TRAIN_TIMEOUT_MS, Upl.FEC_ERR_IND, Upl.STATE,
   Upl.PAIRED, Upl.TRAIN_FAILS, Upl.UP_TIME_MS]

/-! Lane : Table 10-10. Lane (0x8020 + l, l = 0–31) (10_uplinks_otn.md). -/
def Lane.TX_PRE2 : Obj := Obj.row 0x8020 1 32 0 1 0x01 0 0 .u8 .rwk (.c 0) [(0, 8)] .none false
def Lane.TX_PRE : Obj := Obj.row 0x8020 1 32 0 1 0x02 0 0 .u8 .rwk (.c 6) [(0, 24)] .none false
def Lane.TX_POST : Obj := Obj.row 0x8020 1 32 0 1 0x03 0 0 .u8 .rwk (.c 2) [(0, 16)] .none false
def Lane.TX_INVERT : Obj := Obj.row 0x8020 1 32 0 1 0x04 0 0 .bool .rwk (.c 0) [(0, 1)] .none false
def Lane.RX_INVERT : Obj := Obj.row 0x8020 1 32 0 1 0x05 0 0 .bool .rwk (.c 0) [(0, 1)] .none false
def Lane.SNR_CDB : Obj := Obj.row 0x8020 1 32 0 1 0x06 0 0 .u16 .ro (.c 0) [] .none false
def Lane.FEC_SYMBOL_ERR : Obj := Obj.row 0x8020 1 32 0 1 0x07 0 0 .u64 .ro (.c 0) [] .wrap false
def Lane.CLEAR : Obj := Obj.row 0x8020 1 32 0 1 0xFF 0 0 .bool .wo (.c 0) [(1, 1)] .none false
def Lane.objs : List Obj :=
  [Lane.TX_PRE2, Lane.TX_PRE, Lane.TX_POST, Lane.TX_INVERT, Lane.RX_INVERT, Lane.SNR_CDB,
   Lane.FEC_SYMBOL_ERR, Lane.CLEAR]

/-! Mac : Table 10-11. Member MAC (0x8040 + i, i = g × 4 + m) (10_uplinks_otn.md). -/
def Mac.MAX_FRAME : Obj := Obj.row 0x8040 1 32 0 1 0x01 0 0 .u16 .rwk (.c 9618) [(1518, 16388)] .none false
def Mac.LINK : Obj := Obj.row 0x8040 1 32 0 1 0x02 0 0 .bool .ro (.c 0) [(0, 1)] .none false
def Mac.FAULT : Obj := Obj.row 0x8040 1 32 0 1 0x03 0 0 .u8 .ro (.c 0) [(0, 2)] .none false
def Mac.RX_FRAMES : Obj := Obj.row 0x8040 1 32 0 1 0x04 0 0 .u64 .ro (.c 0) [] .wrap false
def Mac.RX_BYTES : Obj := Obj.row 0x8040 1 32 0 1 0x05 0 0 .u64 .ro (.c 0) [] .wrap false
def Mac.TX_FRAMES : Obj := Obj.row 0x8040 1 32 0 1 0x06 0 0 .u64 .ro (.c 0) [] .wrap false
def Mac.TX_BYTES : Obj := Obj.row 0x8040 1 32 0 1 0x07 0 0 .u64 .ro (.c 0) [] .wrap false
def Mac.RX_FCS : Obj := Obj.row 0x8040 1 32 0 1 0x08 0 0 .u32 .ro (.c 0) [] .sat false
def Mac.RX_UNDERSIZE : Obj := Obj.row 0x8040 1 32 0 1 0x09 0 0 .u32 .ro (.c 0) [] .sat false
def Mac.RX_OVERSIZE : Obj := Obj.row 0x8040 1 32 0 1 0x0A 0 0 .u32 .ro (.c 0) [] .sat false
def Mac.RX_CONTROL : Obj := Obj.row 0x8040 1 32 0 1 0x0B 0 0 .u32 .ro (.c 0) [] .sat false
def Mac.TX_DOWN_DROP : Obj := Obj.row 0x8040 1 32 0 1 0x0C 0 0 .u32 .ro (.c 0) [] .sat false
def Mac.TX_OVERSIZE : Obj := Obj.row 0x8040 1 32 0 1 0x0D 0 0 .u32 .ro (.c 0) [] .sat false
def Mac.FEC_CW_CORR : Obj := Obj.row 0x8040 1 32 0 1 0x0E 0 0 .u64 .ro (.c 0) [] .wrap false
def Mac.FEC_CW_UNCORR : Obj := Obj.row 0x8040 1 32 0 1 0x0F 0 0 .u32 .ro (.c 0) [] .sat false
def Mac.LINK_DOWNS : Obj := Obj.row 0x8040 1 32 0 1 0x10 0 0 .u16 .ro (.c 0) [] .sat false
def Mac.CLEAR : Obj := Obj.row 0x8040 1 32 0 1 0xFF 0 0 .bool .wo (.c 0) [(1, 1)] .none false
def Mac.objs : List Obj :=
  [Mac.MAX_FRAME, Mac.LINK, Mac.FAULT, Mac.RX_FRAMES, Mac.RX_BYTES, Mac.TX_FRAMES,
   Mac.TX_BYTES, Mac.RX_FCS, Mac.RX_UNDERSIZE, Mac.RX_OVERSIZE, Mac.RX_CONTROL, Mac.TX_DOWN_DROP,
   Mac.TX_OVERSIZE, Mac.FEC_CW_CORR, Mac.FEC_CW_UNCORR, Mac.LINK_DOWNS, Mac.CLEAR]

/-! Otn : Table 10-12. OTN section (0x8080 + g) and ODU4 path (0x80A0 + i) (10_uplinks_otn.md). -/
def Otn.TX_SAPI : Obj := Obj.row 0x8080 1 32 32 2 0x01 0 0 (.octets 16) .rwk (.c 0) [] .none false
def Otn.TX_DAPI : Obj := Obj.row 0x8080 1 32 32 2 0x02 0 0 (.octets 16) .rwk (.c 0) [] .none false
def Otn.TX_OPER : Obj := Obj.row 0x8080 1 32 32 2 0x03 0 0 (.octets 32) .rwk (.c 0) [] .none false
def Otn.EXP_SAPI : Obj := Obj.row 0x8080 1 32 32 2 0x04 0 0 (.octets 16) .rwk (.c 0) [] .none false
def Otn.EXP_DAPI : Obj := Obj.row 0x8080 1 32 32 2 0x05 0 0 (.octets 16) .rwk (.c 0) [] .none false
def Otn.EXP_OPER : Obj := Obj.row 0x8080 1 32 32 2 0x06 0 0 (.octets 32) .rwk (.c 0) [] .none false
def Otn.TIM_MODE : Obj := Obj.row 0x8080 1 32 32 2 0x07 0 0 .u8 .rwk (.c 0) [(0, 4)] .none false
def Otn.TIM_ACT : Obj := Obj.row 0x8080 1 32 32 2 0x08 0 0 .bool .rwk (.c 1) [(0, 1)] .none false
def Otn.ACC_TTI : Obj := Obj.row 0x8080 1 32 32 2 0x09 0 0 (.octets 64) .ro (.c 0) [] .none false
def Otn.DEFECTS : Obj := Obj.row 0x8080 1 32 32 2 0x0A 0 0 .u16 .ro (.c 0) [] .none false
def Otn.DEG_THR_PCT : Obj := Obj.row 0x8080 1 32 32 2 0x0B 0 0 .u8 .rwk (.c 15) [(1, 100)] .none false
def Otn.DEG_M : Obj := Obj.row 0x8080 1 32 32 2 0x0C 0 0 .u8 .rwk (.c 7) [(2, 10)] .none false
def Otn.CM_NOM : Obj := Obj.row 0x8080 1 32 32 2 0x0D 0 0 .fix .ro (.c 0) [] .none false
def Otn.CM_LAST : Obj := Obj.row 0x8080 1 32 32 2 0x0E 0 0 .u16 .ro (.c 0) [] .none false
def Otn.CM_REJECT : Obj := Obj.row 0x8080 1 32 32 2 0x0F 0 0 .u32 .ro (.c 0) [] .sat false
def Otn.objs : List Obj :=
  [Otn.TX_SAPI, Otn.TX_DAPI, Otn.TX_OPER, Otn.EXP_SAPI, Otn.EXP_DAPI, Otn.EXP_OPER,
   Otn.TIM_MODE, Otn.TIM_ACT, Otn.ACC_TTI, Otn.DEFECTS, Otn.DEG_THR_PCT, Otn.DEG_M,
   Otn.CM_NOM, Otn.CM_LAST, Otn.CM_REJECT]

/-! OtnPm : Table 10-13. OTN PM (0x9C10 + e; e = g for the section of Ug, e = 8 + i for the path of member i) (10_uplinks_otn.md). -/
def OtnPm.BIN15_START : Obj := Obj.row 0x9C10 1 40 0 1 0x01 0 0 .time96 .ro (.c 0) [] .none false
def OtnPm.NE_ES : Obj := Obj.row 0x9C10 1 40 0 1 0x02 0 0 .u32 .ro (.c 0) [] .sat false
def OtnPm.NE_SES : Obj := Obj.row 0x9C10 1 40 0 1 0x03 0 0 .u32 .ro (.c 0) [] .sat false
def OtnPm.NE_BBE : Obj := Obj.row 0x9C10 1 40 0 1 0x04 0 0 .u32 .ro (.c 0) [] .sat false
def OtnPm.NE_UAS : Obj := Obj.row 0x9C10 1 40 0 1 0x05 0 0 .u32 .ro (.c 0) [] .sat false
def OtnPm.FE_ES : Obj := Obj.row 0x9C10 1 40 0 1 0x06 0 0 .u32 .ro (.c 0) [] .sat false
def OtnPm.FE_SES : Obj := Obj.row 0x9C10 1 40 0 1 0x07 0 0 .u32 .ro (.c 0) [] .sat false
def OtnPm.FE_BBE : Obj := Obj.row 0x9C10 1 40 0 1 0x08 0 0 .u32 .ro (.c 0) [] .sat false
def OtnPm.FE_UAS : Obj := Obj.row 0x9C10 1 40 0 1 0x09 0 0 .u32 .ro (.c 0) [] .sat false
def OtnPm.PREV15_NE_ES : Obj := Obj.row 0x9C10 1 40 0 1 0x0A 0 0 .u32 .ro (.c 0) [] .sat false
def OtnPm.PREV15_NE_SES : Obj := Obj.row 0x9C10 1 40 0 1 0x0B 0 0 .u32 .ro (.c 0) [] .sat false
def OtnPm.PREV15_NE_BBE : Obj := Obj.row 0x9C10 1 40 0 1 0x0C 0 0 .u32 .ro (.c 0) [] .sat false
def OtnPm.PREV15_NE_UAS : Obj := Obj.row 0x9C10 1 40 0 1 0x0D 0 0 .u32 .ro (.c 0) [] .sat false
def OtnPm.PREV15_FE_ES : Obj := Obj.row 0x9C10 1 40 0 1 0x0E 0 0 .u32 .ro (.c 0) [] .sat false
def OtnPm.PREV15_FE_SES : Obj := Obj.row 0x9C10 1 40 0 1 0x0F 0 0 .u32 .ro (.c 0) [] .sat false
def OtnPm.PREV15_FE_BBE : Obj := Obj.row 0x9C10 1 40 0 1 0x10 0 0 .u32 .ro (.c 0) [] .sat false
def OtnPm.PREV15_FE_UAS : Obj := Obj.row 0x9C10 1 40 0 1 0x11 0 0 .u32 .ro (.c 0) [] .sat false
def OtnPm.BIN24_START : Obj := Obj.row 0x9C10 1 40 0 1 0x12 0 0 .time96 .ro (.c 0) [] .none false
def OtnPm.D24_NE_ES : Obj := Obj.row 0x9C10 1 40 0 1 0x13 0 0 .u32 .ro (.c 0) [] .sat false
def OtnPm.D24_NE_SES : Obj := Obj.row 0x9C10 1 40 0 1 0x14 0 0 .u32 .ro (.c 0) [] .sat false
def OtnPm.D24_NE_BBE : Obj := Obj.row 0x9C10 1 40 0 1 0x15 0 0 .u32 .ro (.c 0) [] .sat false
def OtnPm.D24_NE_UAS : Obj := Obj.row 0x9C10 1 40 0 1 0x16 0 0 .u32 .ro (.c 0) [] .sat false
def OtnPm.D24_FE_ES : Obj := Obj.row 0x9C10 1 40 0 1 0x17 0 0 .u32 .ro (.c 0) [] .sat false
def OtnPm.D24_FE_SES : Obj := Obj.row 0x9C10 1 40 0 1 0x18 0 0 .u32 .ro (.c 0) [] .sat false
def OtnPm.D24_FE_BBE : Obj := Obj.row 0x9C10 1 40 0 1 0x19 0 0 .u32 .ro (.c 0) [] .sat false
def OtnPm.D24_FE_UAS : Obj := Obj.row 0x9C10 1 40 0 1 0x1A 0 0 .u32 .ro (.c 0) [] .sat false
def OtnPm.PREV24_NE_ES : Obj := Obj.row 0x9C10 1 40 0 1 0x1B 0 0 .u32 .ro (.c 0) [] .sat false
def OtnPm.PREV24_NE_SES : Obj := Obj.row 0x9C10 1 40 0 1 0x1C 0 0 .u32 .ro (.c 0) [] .sat false
def OtnPm.PREV24_NE_BBE : Obj := Obj.row 0x9C10 1 40 0 1 0x1D 0 0 .u32 .ro (.c 0) [] .sat false
def OtnPm.PREV24_NE_UAS : Obj := Obj.row 0x9C10 1 40 0 1 0x1E 0 0 .u32 .ro (.c 0) [] .sat false
def OtnPm.PREV24_FE_ES : Obj := Obj.row 0x9C10 1 40 0 1 0x1F 0 0 .u32 .ro (.c 0) [] .sat false
def OtnPm.PREV24_FE_SES : Obj := Obj.row 0x9C10 1 40 0 1 0x20 0 0 .u32 .ro (.c 0) [] .sat false
def OtnPm.PREV24_FE_BBE : Obj := Obj.row 0x9C10 1 40 0 1 0x21 0 0 .u32 .ro (.c 0) [] .sat false
def OtnPm.PREV24_FE_UAS : Obj := Obj.row 0x9C10 1 40 0 1 0x22 0 0 .u32 .ro (.c 0) [] .sat false
def OtnPm.ES_TCA_15M : Obj := Obj.row 0x9C10 1 40 0 1 0x23 0 0 .u16 .rwk (.c 0) [(0, 900)] .none false
def OtnPm.SES_TCA_15M : Obj := Obj.row 0x9C10 1 40 0 1 0x24 0 0 .u16 .rwk (.c 0) [(0, 900)] .none false
def OtnPm.CLEAR : Obj := Obj.row 0x9C10 1 40 0 1 0xFF 0 0 .bool .wo (.c 0) [(1, 1)] .none false
def OtnPm.objs : List Obj :=
  [OtnPm.BIN15_START, OtnPm.NE_ES, OtnPm.NE_SES, OtnPm.NE_BBE, OtnPm.NE_UAS, OtnPm.FE_ES,
   OtnPm.FE_SES, OtnPm.FE_BBE, OtnPm.FE_UAS, OtnPm.PREV15_NE_ES, OtnPm.PREV15_NE_SES, OtnPm.PREV15_NE_BBE,
   OtnPm.PREV15_NE_UAS, OtnPm.PREV15_FE_ES, OtnPm.PREV15_FE_SES, OtnPm.PREV15_FE_BBE, OtnPm.PREV15_FE_UAS, OtnPm.BIN24_START,
   OtnPm.D24_NE_ES, OtnPm.D24_NE_SES, OtnPm.D24_NE_BBE, OtnPm.D24_NE_UAS, OtnPm.D24_FE_ES, OtnPm.D24_FE_SES,
   OtnPm.D24_FE_BBE, OtnPm.D24_FE_UAS, OtnPm.PREV24_NE_ES, OtnPm.PREV24_NE_SES, OtnPm.PREV24_NE_BBE, OtnPm.PREV24_NE_UAS,
   OtnPm.PREV24_FE_ES, OtnPm.PREV24_FE_SES, OtnPm.PREV24_FE_BBE, OtnPm.PREV24_FE_UAS, OtnPm.ES_TCA_15M, OtnPm.SES_TCA_15M,
   OtnPm.CLEAR]

/-! Prot : Table 10-14. Protection group (0x80C0 + j, j = 0–15) and escalation (0x8100) (10_uplinks_otn.md). -/
def Prot.WORKING : Obj := Obj.row 0x80C0 1 16 0 1 0x01 0 0 .u8 .rwk (.c 255) [(0, 31), (255, 255)] .none false
def Prot.PROTECT : Obj := Obj.row 0x80C0 1 16 0 1 0x02 0 0 .u8 .rwk (.c 255) [(0, 31), (255, 255)] .none false
def Prot.TYPE : Obj := Obj.row 0x80C0 1 16 0 1 0x03 0 0 .u8 .rwk (.c 0) [(0, 1)] .none false
def Prot.REVERTIVE : Obj := Obj.row 0x80C0 1 16 0 1 0x04 0 0 .bool .rwk (.c 1) [(0, 1)] .none false
def Prot.HOLDOFF_MS : Obj := Obj.row 0x80C0 1 16 0 1 0x05 0 0 .u16 .rwk (.c 0) [(0, 10000)] .none false
def Prot.WTR_S : Obj := Obj.row 0x80C0 1 16 0 1 0x06 0 0 .u16 .rwk (.c 300) [(60, 720)] .none false
def Prot.SD_ENABLE : Obj := Obj.row 0x80C0 1 16 0 1 0x07 0 0 .bool .rwk (.c 1) [(0, 1)] .none false
def Prot.COMMAND : Obj := Obj.row 0x80C0 1 16 0 1 0x08 0 0 .u8 .wo (.c 0) [(0, 4)] .none false
def Prot.REQUEST : Obj := Obj.row 0x80C0 1 16 0 1 0x09 0 0 .u8 .ro (.c 0) [(0, 9)] .none false
def Prot.SELECTED : Obj := Obj.row 0x80C0 1 16 0 1 0x0A 0 0 .u8 .ro (.c 0) [(0, 1)] .none false
def Prot.SWITCHES : Obj := Obj.row 0x80C0 1 16 0 1 0x0B 0 0 .u32 .ro (.c 0) [] .wrap false
def Prot.LAST_SWITCH_MS : Obj := Obj.row 0x80C0 1 16 0 1 0x0C 0 0 .u16 .ro (.c 0) [(0, 50)] .none false
def Prot.APS_MISMATCH : Obj := Obj.row 0x80C0 1 16 0 1 0x0D 0 0 .u16 .ro (.c 0) [] .sat false
def Prot.objs : List Obj :=
  [Prot.WORKING, Prot.PROTECT, Prot.TYPE, Prot.REVERTIVE, Prot.HOLDOFF_MS, Prot.WTR_S,
   Prot.SD_ENABLE, Prot.COMMAND, Prot.REQUEST, Prot.SELECTED, Prot.SWITCHES, Prot.LAST_SWITCH_MS,
   Prot.APS_MISMATCH]

/-! Esc : Table 10-14. Protection group (0x80C0 + j, j = 0–15) and escalation (0x8100) (10_uplinks_otn.md). -/
def Esc.ESC_ENABLE : Obj := Obj.row 0x8100 0 1 0 1 0x01 0 0 .bool .rwk (.c 0) [(0, 1)] .none false
def Esc.ESC_MIN_GBPS : Obj := Obj.row 0x8100 0 1 0 1 0x02 0 0 .u16 .rwk (.c 100) [(0, 3200)] .none false
def Esc.ESC_HOLD_MS : Obj := Obj.row 0x8100 0 1 0 1 0x03 0 0 .u16 .rwk (.c 200) [(10, 10000)] .none false
def Esc.CAPACITY_GBPS : Obj := Obj.row 0x8100 0 1 0 1 0x04 0 0 .u16 .ro (.c 0) [(0, 3200)] .none false
def Esc.ESC_ACTIVE : Obj := Obj.row 0x8100 0 1 0 1 0x05 0 0 .bool .ro (.c 0) [(0, 1)] .none false
def Esc.ESCALATIONS : Obj := Obj.row 0x8100 0 1 0 1 0x06 0 0 .u16 .ro (.c 0) [] .sat false
def Esc.objs : List Obj :=
  [Esc.ESC_ENABLE, Esc.ESC_MIN_GBPS, Esc.ESC_HOLD_MS, Esc.CAPACITY_GBPS, Esc.ESC_ACTIVE, Esc.ESCALATIONS]

/-! Rcvy : Table 10-15. Recovery stream (0xA900[s], s = 0–4095) and generation record (0xA910[x], x = 0–262,143) (10_uplinks_otn.md). -/
def Rcvy.DMAC : Obj := Obj.row 0xA900 0 1 0 1 0x01 0 4096 (.octets 6) .rwk (.c 0) [] .none false
def Rcvy.VID : Obj := Obj.row 0xA900 0 1 0 1 0x02 0 4096 .u16 .rwk (.c 65535) [(0, 4095), (65535, 65535)] .none false
def Rcvy.POP_RTAG : Obj := Obj.row 0xA900 0 1 0 1 0x03 0 4096 .bool .rwk (.c 1) [(0, 1)] .none false
def Rcvy.RESET_MS : Obj := Obj.row 0xA900 0 1 0 1 0x04 0 4096 .u16 .rwk (.c 1000) [(1, 65535)] .none false
def Rcvy.VALID : Obj := Obj.row 0xA900 0 1 0 1 0x05 0 4096 .bool .rwk (.c 0) [(0, 1)] .none false
def Rcvy.PASSED : Obj := Obj.row 0xA900 0 1 0 1 0x06 0 4096 .u64 .ro (.c 0) [] .wrap false
def Rcvy.DISCARDED : Obj := Obj.row 0xA900 0 1 0 1 0x07 0 4096 .u64 .ro (.c 0) [] .wrap false
def Rcvy.OUT_OF_ORDER : Obj := Obj.row 0xA900 0 1 0 1 0x08 0 4096 .u32 .ro (.c 0) [] .wrap false
def Rcvy.ROGUE : Obj := Obj.row 0xA900 0 1 0 1 0x09 0 4096 .u32 .ro (.c 0) [] .sat false
def Rcvy.LOST : Obj := Obj.row 0xA900 0 1 0 1 0x0A 0 4096 .u32 .ro (.c 0) [] .sat false
def Rcvy.TAGLESS : Obj := Obj.row 0xA900 0 1 0 1 0x0B 0 4096 .u32 .ro (.c 0) [] .sat false
def Rcvy.RESETS : Obj := Obj.row 0xA900 0 1 0 1 0x0C 0 4096 .u32 .ro (.c 0) [] .wrap false
def Rcvy.RCVY_SEQ : Obj := Obj.row 0xA900 0 1 0 1 0x0D 0 4096 .u16 .ro (.c 0) [] .none false
def Rcvy.CLEAR : Obj := Obj.row 0xA900 0 1 0 1 0xFF 0 4096 .bool .wo (.c 0) [(1, 1)] .none false
def Rcvy.objs : List Obj :=
  [Rcvy.DMAC, Rcvy.VID, Rcvy.POP_RTAG, Rcvy.RESET_MS, Rcvy.VALID, Rcvy.PASSED,
   Rcvy.DISCARDED, Rcvy.OUT_OF_ORDER, Rcvy.ROGUE, Rcvy.LOST, Rcvy.TAGLESS, Rcvy.RESETS,
   Rcvy.RCVY_SEQ, Rcvy.CLEAR]

/-! Gen : Table 10-15. Recovery stream (0xA900[s], s = 0–4095) and generation record (0xA910[x], x = 0–262,143) (10_uplinks_otn.md). -/
def Gen.PORT : Obj := Obj.row 0xA910 0 1 0 1 0x01 0 262144 .u8 .ro (.c 0) [] .none false
def Gen.CHANNEL : Obj := Obj.row 0xA910 0 1 0 1 0x02 0 262144 .u8 .ro (.c 0) [] .none false
def Gen.ONU_ID : Obj := Obj.row 0xA910 0 1 0 1 0x03 0 262144 .u16 .ro (.c 0) [] .none false
def Gen.XGEM_ID : Obj := Obj.row 0xA910 0 1 0 1 0x04 0 262144 .u16 .ro (.c 0) [] .none false
def Gen.RTAG_GEN : Obj := Obj.row 0xA910 0 1 0 1 0x05 0 262144 .bool .rwk (.c 0) [(0, 1)] .none false
def Gen.LAST_SEQ : Obj := Obj.row 0xA910 0 1 0 1 0x06 0 262144 .u16 .ro (.c 0) [] .none false
def Gen.objs : List Obj :=
  [Gen.PORT, Gen.CHANNEL, Gen.ONU_ID, Gen.XGEM_ID, Gen.RTAG_GEN, Gen.LAST_SEQ]

/-! Tim : Table 11-6. Device time and servo (0x8800) (11_time_sync.md). -/
def Tim.NOW : Obj := Obj.row 0x8800 0 1 0 1 0x01 0 0 .time96 .ro (.c 0) [] .none false
def Tim.TIME_SET : Obj := Obj.row 0x8800 0 1 0 1 0x02 0 0 .time96 .wo (.c 0) [] .none false
def Tim.UTC_OFFSET_S : Obj := Obj.row 0x8800 0 1 0 1 0x03 0 0 .s16 .rwk (.c 37) [(-1000, 1000)] .none false
def Tim.SERVO_STATE : Obj := Obj.row 0x8800 0 1 0 1 0x04 0 0 .u8 .ro (.c 0) [(0, 4)] .none false
def Tim.TIME_SOURCE : Obj := Obj.row 0x8800 0 1 0 1 0x05 0 0 .u8 .rwk (.c 0) [(0, 1)] .none false
def Tim.FREQ_ASSIST : Obj := Obj.row 0x8800 0 1 0 1 0x06 0 0 .bool .rwk (.c 1) [(0, 1)] .none false
def Tim.OFFSET_PS : Obj := Obj.row 0x8800 0 1 0 1 0x07 0 0 .s64 .ro (.c 0) [] .none false
def Tim.FREQ_PPB : Obj := Obj.row 0x8800 0 1 0 1 0x08 0 0 .s32 .ro (.c 0) [] .none false
def Tim.BW_MHZ : Obj := Obj.row 0x8800 0 1 0 1 0x09 0 0 .u16 .rwk (.c 100) [(10, 1000)] .none false
def Tim.LOCK_NS : Obj := Obj.row 0x8800 0 1 0 1 0x0A 0 0 .u16 .rwk (.c 50) [(5, 1000)] .none false
def Tim.STEP_THRESH_NS : Obj := Obj.row 0x8800 0 1 0 1 0x0B 0 0 .u32 .rwk (.c 1000) [(100, 1000000000)] .none false
def Tim.SLEW_MAX_PPB : Obj := Obj.row 0x8800 0 1 0 1 0x0C 0 0 .u32 .rwk (.c 1000) [(10, 10000)] .none false
def Tim.HOLD_AVG_S : Obj := Obj.row 0x8800 0 1 0 1 0x0D 0 0 .u16 .rwk (.c 60) [(1, 3600)] .none false
def Tim.HOLDOVER_SPEC_S : Obj := Obj.row 0x8800 0 1 0 1 0x0E 0 0 .u32 .rwk (.c 1000) [(1, 86400)] .none false
def Tim.FRAME_EPOCH : Obj := Obj.row 0x8800 0 1 0 1 0x0F 0 0 .time96 .ro (.c 0) [] .none false
def Tim.FRAME_COUNT : Obj := Obj.row 0x8800 0 1 0 1 0x10 0 0 .u64 .ro (.c 0) [] .wrap false
def Tim.STEPS : Obj := Obj.row 0x8800 0 1 0 1 0x11 0 0 .u16 .ro (.c 0) [] .sat false
def Tim.SEED_VALID : Obj := Obj.row 0x8800 0 1 0 1 0x12 0 0 .bool .ro (.c 0) [(0, 1)] .none false
def Tim.TOD_SEQ : Obj := Obj.row 0x8800 0 1 0 1 0x13 0 0 .u32 .ro (.c 0) [] .wrap false
def Tim.objs : List Obj :=
  [Tim.NOW, Tim.TIME_SET, Tim.UTC_OFFSET_S, Tim.SERVO_STATE, Tim.TIME_SOURCE, Tim.FREQ_ASSIST,
   Tim.OFFSET_PS, Tim.FREQ_PPB, Tim.BW_MHZ, Tim.LOCK_NS, Tim.STEP_THRESH_NS, Tim.SLEW_MAX_PPB,
   Tim.HOLD_AVG_S, Tim.HOLDOVER_SPEC_S, Tim.FRAME_EPOCH, Tim.FRAME_COUNT, Tim.STEPS, Tim.SEED_VALID,
   Tim.TOD_SEQ]

/-! Ptp : Table 11-7. PTP clock (0x8801) and PTP port (0x8810 + k, k = 0–32) (11_time_sync.md). -/
def Ptp.DOMAIN : Obj := Obj.row 0x8801 0 1 0 1 0x01 0 0 .u8 .rwk (.c 24) [(24, 43)] .none false
def Ptp.PRIORITY2 : Obj := Obj.row 0x8801 0 1 0 1 0x02 0 0 .u8 .rwk (.c 128) [(0, 255)] .none false
def Ptp.LOCAL_PRIORITY : Obj := Obj.row 0x8801 0 1 0 1 0x03 0 0 .u8 .rwk (.c 128) [(1, 255)] .none false
def Ptp.SLAVE_ONLY : Obj := Obj.row 0x8801 0 1 0 1 0x04 0 0 .bool .rwk (.c 0) [(0, 1)] .none false
def Ptp.PARENT_ID : Obj := Obj.row 0x8801 0 1 0 1 0x05 0 0 (.octets 10) .ro (.c 0) [] .none false
def Ptp.GM_CLASS : Obj := Obj.row 0x8801 0 1 0 1 0x06 0 0 .u8 .ro (.c 248) [] .none false
def Ptp.STEPS_REMOVED : Obj := Obj.row 0x8801 0 1 0 1 0x07 0 0 .u16 .ro (.c 0) [] .none false
def Ptp.objs : List Obj :=
  [Ptp.DOMAIN, Ptp.PRIORITY2, Ptp.LOCAL_PRIORITY, Ptp.SLAVE_ONLY, Ptp.PARENT_ID, Ptp.GM_CLASS,
   Ptp.STEPS_REMOVED]

/-! PtpPort : Table 11-7. PTP clock (0x8801) and PTP port (0x8810 + k, k = 0–32) (11_time_sync.md). -/
def PtpPort.PTP_ENABLE : Obj := Obj.row 0x8810 1 33 0 1 0x01 0 0 .bool .rwk (.c 0) [(0, 1)] .none false
def PtpPort.DMAC_SEL : Obj := Obj.row 0x8810 1 33 0 1 0x02 0 0 .u8 .rwk (.c 0) [(0, 1)] .none false
def PtpPort.PORT_LOCAL_PRIORITY : Obj := Obj.row 0x8810 1 33 0 1 0x03 0 0 .u8 .rwk (.c 128) [(1, 255)] .none false
def PtpPort.MASTER_ONLY : Obj := Obj.row 0x8810 1 33 0 1 0x04 0 0 .bool .rwk (.c 0) [(0, 1)] .none false
def PtpPort.NOT_SLAVE : Obj := Obj.row 0x8810 1 33 0 1 0x05 0 0 .bool .rwk (.c 0) [(0, 1)] .none false
def PtpPort.TX_ADJ_PS : Obj := Obj.row 0x8810 1 33 0 1 0x06 0 0 .s32 .rwk (.c 0) [(-100000, 100000)] .none false
def PtpPort.RX_ADJ_PS : Obj := Obj.row 0x8810 1 33 0 1 0x07 0 0 .s32 .rwk (.c 0) [(-100000, 100000)] .none false
def PtpPort.DELAY_ASYM_PS : Obj := Obj.row 0x8810 1 33 0 1 0x08 0 0 .s32 .rwk (.c 0) [(-100000, 100000)] .none false
def PtpPort.PORT_STATE : Obj := Obj.row 0x8810 1 33 0 1 0x09 0 0 .u8 .ro (.c 0) [(0, 5)] .none false
def PtpPort.MEAN_PATH_PS : Obj := Obj.row 0x8810 1 33 0 1 0x0A 0 0 .s64 .ro (.c 0) [] .none false
def PtpPort.PTP_RX : Obj := Obj.row 0x8810 1 33 0 1 0x0B 0 0 .u64 .ro (.c 0) [] .wrap false
def PtpPort.PTP_TX : Obj := Obj.row 0x8810 1 33 0 1 0x0C 0 0 .u64 .ro (.c 0) [] .wrap false
def PtpPort.PTP_RX_BAD : Obj := Obj.row 0x8810 1 33 0 1 0x0D 0 0 .u32 .ro (.c 0) [] .sat false
def PtpPort.CLEAR : Obj := Obj.row 0x8810 1 33 0 1 0xFF 0 0 .bool .wo (.c 0) [(1, 1)] .none false
def PtpPort.objs : List Obj :=
  [PtpPort.PTP_ENABLE, PtpPort.DMAC_SEL, PtpPort.PORT_LOCAL_PRIORITY, PtpPort.MASTER_ONLY, PtpPort.NOT_SLAVE, PtpPort.TX_ADJ_PS,
   PtpPort.RX_ADJ_PS, PtpPort.DELAY_ASYM_PS, PtpPort.PORT_STATE, PtpPort.MEAN_PATH_PS, PtpPort.PTP_RX, PtpPort.PTP_TX,
   PtpPort.PTP_RX_BAD, PtpPort.CLEAR]

/-! SyE : Table 11-8. SyncE selection (0x8840) and source (0x8850 + s, s = 0–36) (11_time_sync.md). -/
def SyE.EEC_OPTION : Obj := Obj.row 0x8840 0 1 0 1 0x01 0 0 .u8 .rwk (.c 1) [(1, 2)] .none false
def SyE.SELECTED : Obj := Obj.row 0x8840 0 1 0 1 0x02 0 0 .u8 .ro (.c 255) [(0, 36), (255, 255)] .none false
def SyE.QL_OUT : Obj := Obj.row 0x8840 0 1 0 1 0x03 0 0 .u8 .ro (.c 0) [(0, 15)] .none false
def SyE.WTR_S : Obj := Obj.row 0x8840 0 1 0 1 0x04 0 0 .u16 .rwk (.c 300) [(0, 720)] .none false
def SyE.SELECT_CHANGES : Obj := Obj.row 0x8840 0 1 0 1 0x05 0 0 .u16 .ro (.c 0) [] .sat false
def SyE.objs : List Obj :=
  [SyE.EEC_OPTION, SyE.SELECTED, SyE.QL_OUT, SyE.WTR_S, SyE.SELECT_CHANGES]

/-! SySrc : Table 11-8. SyncE selection (0x8840) and source (0x8850 + s, s = 0–36) (11_time_sync.md). -/
def SySrc.ENABLE : Obj := Obj.row 0x8850 1 37 0 1 0x01 0 0 .bool .rwk (.c 0) [(0, 1)] .none false
def SySrc.PRIORITY : Obj := Obj.row 0x8850 1 37 0 1 0x02 0 0 .u8 .rwk (.c 1) [(1, 255)] .none false
def SySrc.FORCED_QL : Obj := Obj.row 0x8850 1 37 0 1 0x03 0 0 .u8 .rwk (.c 15) [(0, 15)] .none false
def SySrc.QL_IN : Obj := Obj.row 0x8850 1 37 0 1 0x04 0 0 .u8 .ro (.c 15) [(0, 15)] .none false
def SySrc.VALID : Obj := Obj.row 0x8850 1 37 0 1 0x05 0 0 .bool .ro (.c 0) [(0, 1)] .none false
def SySrc.objs : List Obj :=
  [SySrc.ENABLE, SySrc.PRIORITY, SySrc.FORCED_QL, SySrc.QL_IN, SySrc.VALID]

/-! Pin : Table 11-9. Pins (0x8878) (11_time_sync.md). -/
def Pin.PPS_OUT_DELAY_PS : Obj := Obj.row 0x8878 0 1 0 1 0x01 0 0 .s32 .rwk (.c 0) [(-100000, 100000)] .none false
def Pin.PPS_WIDTH_MS : Obj := Obj.row 0x8878 0 1 0 1 0x02 0 0 .u16 .rwk (.c 100) [(1, 500)] .none false
def Pin.OUT_SQUELCH : Obj := Obj.row 0x8878 0 1 0 1 0x03 0 0 .bool .rwk (.c 1) [(0, 1)] .none false
def Pin.PPS_IN_DELAY_PS : Obj := Obj.row 0x8878 0 1 0 1 0x04 0 0 .s32 .rwk (.c 0) [(-100000, 100000)] .none false
def Pin.PPS_IN_VALID : Obj := Obj.row 0x8878 0 1 0 1 0x05 0 0 .bool .ro (.c 0) [(0, 1)] .none false
def Pin.RCLK_SEL0 : Obj := Obj.row 0x8878 0 1 0 1 0x06 0 0 .u8 .rwk (.c 0) [(0, 35)] .none false
def Pin.RCLK_SEL1 : Obj := Obj.row 0x8878 0 1 0 1 0x07 0 0 .u8 .rwk (.c 1) [(0, 35)] .none false
def Pin.RCLK_FREQ : Obj := Obj.row 0x8878 0 1 0 1 0x08 0 0 .u8 .rwk (.c 1) [(0, 1)] .none false
def Pin.UPL_LAUNCH_LEAD_NS : Obj := Obj.row 0x8878 0 1 0 1 0x09 0 0 .u16 .rwk (.c 420) [(0, 10000)] .none false
def Pin.TWIN_LAUNCH_LEAD_NS : Obj := Obj.row 0x8878 0 1 0 1 0x0A 0 0 .u16 .rwk (.c 400) [(0, 10000)] .none false
def Pin.US_LAUNCH_DELAY_NS : Obj := Obj.row 0x8878 0 1 0 1 0x0B 0 0 .u32 .rwk (.c 0) [(0, 0), (1000, 10000000)] .none false
def Pin.objs : List Obj :=
  [Pin.PPS_OUT_DELAY_PS, Pin.PPS_WIDTH_MS, Pin.OUT_SQUELCH, Pin.PPS_IN_DELAY_PS, Pin.PPS_IN_VALID, Pin.RCLK_SEL0,
   Pin.RCLK_SEL1, Pin.RCLK_FREQ, Pin.UPL_LAUNCH_LEAD_NS, Pin.TWIN_LAUNCH_LEAD_NS, Pin.US_LAUNCH_DELAY_NS]

/-! Tod : Table 11-10. Time of day, port p (index 0x8880 + p) (11_time_sync.md). -/
def Tod.TOD_INFO_C0 : Obj := Obj.row 0x8880 1 64 0 1 0x01 0 0 (.octets 14) .ro (.c 0) [] .none false
def Tod.TOD_INFO_C1 : Obj := Obj.row 0x8880 1 64 0 1 0x02 0 0 (.octets 14) .ro (.c 0) [] .none false
def Tod.TOD_TX_DELAY_C0_PS : Obj := Obj.row 0x8880 1 64 0 1 0x03 0 0 .s32 .rwk (.c 0) [(-1000000, 1000000)] .none false
def Tod.TOD_TX_DELAY_C1_PS : Obj := Obj.row 0x8880 1 64 0 1 0x04 0 0 .s32 .rwk (.c 0) [(-1000000, 1000000)] .none false
def Tod.TOD_LEAD_S : Obj := Obj.row 0x8880 1 64 0 1 0x05 0 0 .u8 .rwk (.c 2) [(1, 60)] .none false
def Tod.objs : List Obj :=
  [Tod.TOD_INFO_C0, Tod.TOD_INFO_C1, Tod.TOD_TX_DELAY_C0_PS, Tod.TOD_TX_DELAY_C1_PS, Tod.TOD_LEAD_S]

/-! Twin : Table 12-11. Twin configuration and status (0x8C00) (12_twin_protection.md). -/
def Twin.TWIN_ENABLE : Obj := Obj.row 0x8C00 0 1 0 1 0x01 0 0 .bool .rwk (.c 0) [(0, 1)] .none false
def Twin.TWIN_PORTS : Obj := Obj.row 0x8C00 0 1 0 1 0x02 0 0 .u64 .rwk (.c 0) [] .none false
def Twin.PREV_ROLE : Obj := Obj.row 0x8C00 0 1 0 1 0x03 0 0 .u8 .rwk (.c 0) [(0, 2)] .none false
def Twin.ROLE : Obj := Obj.row 0x8C00 0 1 0 1 0x04 0 0 .u8 .ro (.c 0) [(0, 2)] .none false
def Twin.STATE : Obj := Obj.row 0x8C00 0 1 0 1 0x05 0 0 .u8 .ro (.c 0) [(0, 9)] .none false
def Twin.SELF_SERIAL : Obj := Obj.row 0x8C00 0 1 0 1 0x06 0 0 (.octets 16) .ro (.c 0) [] .none false
def Twin.PEER_SERIAL : Obj := Obj.row 0x8C00 0 1 0 1 0x07 0 0 (.octets 16) .ro (.c 0) [] .none false
def Twin.BEAT_US : Obj := Obj.row 0x8C00 0 1 0 1 0x08 0 0 .u8 .rwk (.c 5) [(2, 50)] .none false
def Twin.BEAT_MISS : Obj := Obj.row 0x8C00 0 1 0 1 0x09 0 0 .u8 .rwk (.c 4) [(2, 16)] .none false
def Twin.SEEK_S : Obj := Obj.row 0x8C00 0 1 0 1 0x0A 0 0 .u16 .rwk (.c 10) [(2, 600)] .none false
def Twin.EXCUSE_SPANS : Obj := Obj.row 0x8C00 0 1 0 1 0x0B 0 0 .u8 .rwk (.c 16) [(1, 255)] .none false
def Twin.LAZY_MS : Obj := Obj.row 0x8C00 0 1 0 1 0x0C 0 0 .u16 .rwk (.c 1000) [(100, 60000)] .none false
def Twin.TIME_MAX_NS : Obj := Obj.row 0x8C00 0 1 0 1 0x0D 0 0 .u16 .rwk (.c 100) [(10, 1000)] .none false
def Twin.COMMAND : Obj := Obj.row 0x8C00 0 1 0 1 0x0E 0 0 .u8 .wo (.c 0) [(1, 5)] .none false
def Twin.HOST_FAULT : Obj := Obj.row 0x8C00 0 1 0 1 0x0F 0 0 .bool .rw (.c 0) [(0, 1)] .none false
def Twin.LOCAL_FAULTS : Obj := Obj.row 0x8C00 0 1 0 1 0x10 0 0 .u8 .ro (.c 0) [] .none false
def Twin.PEER_FAULTS : Obj := Obj.row 0x8C00 0 1 0 1 0x11 0 0 .u8 .ro (.c 0) [] .none false
def Twin.SUSPECT_CAUSE : Obj := Obj.row 0x8C00 0 1 0 1 0x12 0 0 .u8 .ro (.c 0) [(0, 3)] .none false
def Twin.LAST_GROUP_APPLIED : Obj := Obj.row 0x8C00 0 1 0 1 0x13 0 0 .u32 .ro (.c 0) [] .wrap false
def Twin.LAST_SWITCH_AT : Obj := Obj.row 0x8C00 0 1 0 1 0x14 0 0 .time96 .ro (.c 0) [] .none false
def Twin.LAST_SWITCH_CAUSE : Obj := Obj.row 0x8C00 0 1 0 1 0x15 0 0 .u8 .ro (.c 0) [(0, 5)] .none false
def Twin.LAST_GAP_US : Obj := Obj.row 0x8C00 0 1 0 1 0x16 0 0 .u16 .ro (.c 0) [(0, 245)] .none false
def Twin.objs : List Obj :=
  [Twin.TWIN_ENABLE, Twin.TWIN_PORTS, Twin.PREV_ROLE, Twin.ROLE, Twin.STATE, Twin.SELF_SERIAL,
   Twin.PEER_SERIAL, Twin.BEAT_US, Twin.BEAT_MISS, Twin.SEEK_S, Twin.EXCUSE_SPANS, Twin.LAZY_MS,
   Twin.TIME_MAX_NS, Twin.COMMAND, Twin.HOST_FAULT, Twin.LOCAL_FAULTS, Twin.PEER_FAULTS, Twin.SUSPECT_CAUSE,
   Twin.LAST_GROUP_APPLIED, Twin.LAST_SWITCH_AT, Twin.LAST_SWITCH_CAUSE, Twin.LAST_GAP_US]

/-! TwinCnt : Table 12-12. Twin counters (0x8C01) (12_twin_protection.md). -/
def TwinCnt.SWITCHES : Obj := Obj.row 0x8C01 0 1 0 1 0x01 0 0 .u32 .ro (.c 0) [] .wrap false
def TwinCnt.GROUPS_APPLIED : Obj := Obj.row 0x8C01 0 1 0 1 0x02 0 0 .u64 .ro (.c 0) [] .wrap false
def TwinCnt.GROUPS_DISCARDED : Obj := Obj.row 0x8C01 0 1 0 1 0x03 0 0 .u32 .ro (.c 0) [] .sat false
def TwinCnt.RESYNCS : Obj := Obj.row 0x8C01 0 1 0 1 0x04 0 0 .u16 .ro (.c 0) [] .sat false
def TwinCnt.MAP_MISMATCH : Obj := Obj.row 0x8C01 0 1 0 1 0x05 0 0 .u32 .ro (.c 0) [] .sat false
def TwinCnt.MAP_EXCUSED : Obj := Obj.row 0x8C01 0 1 0 1 0x06 0 0 .u32 .ro (.c 0) [] .sat false
def TwinCnt.STREAM_ALIGNED : Obj := Obj.row 0x8C01 0 1 0 1 0x07 0 0 .u32 .ro (.c 0) [] .wrap false
def TwinCnt.STREAM_MISMATCH : Obj := Obj.row 0x8C01 0 1 0 1 0x08 0 0 .u32 .ro (.c 0) [] .sat false
def TwinCnt.UNSURE_DROP : Obj := Obj.row 0x8C01 0 1 0 1 0x09 0 0 .u64 .ro (.c 0) [] .wrap false
def TwinCnt.STANDBY_DS_DROP : Obj := Obj.row 0x8C01 0 1 0 1 0x0A 0 0 .u64 .ro (.c 0) [] .wrap false
def TwinCnt.STANDBY_US_DROP : Obj := Obj.row 0x8C01 0 1 0 1 0x0B 0 0 .u64 .ro (.c 0) [] .wrap false
def TwinCnt.DIGEST_MISSING : Obj := Obj.row 0x8C01 0 1 0 1 0x0C 0 0 .u32 .ro (.c 0) [] .sat false
def TwinCnt.BEAT_LOSSES : Obj := Obj.row 0x8C01 0 1 0 1 0x0D 0 0 .u16 .ro (.c 0) [] .sat false
def TwinCnt.CTRL_BAD : Obj := Obj.row 0x8C01 0 1 0 1 0x0E 0 0 .u32 .ro (.c 0) [] .sat false
def TwinCnt.MIRROR_UNCONFIRMED : Obj := Obj.row 0x8C01 0 1 0 1 0x0F 0 0 .u32 .ro (.c 0) [] .sat false
def TwinCnt.CLEAR : Obj := Obj.row 0x8C01 0 1 0 1 0xFF 0 0 .bool .wo (.c 0) [(1, 1)] .none false
def TwinCnt.objs : List Obj :=
  [TwinCnt.SWITCHES, TwinCnt.GROUPS_APPLIED, TwinCnt.GROUPS_DISCARDED, TwinCnt.RESYNCS, TwinCnt.MAP_MISMATCH, TwinCnt.MAP_EXCUSED,
   TwinCnt.STREAM_ALIGNED, TwinCnt.STREAM_MISMATCH, TwinCnt.UNSURE_DROP, TwinCnt.STANDBY_DS_DROP, TwinCnt.STANDBY_US_DROP, TwinCnt.DIGEST_MISSING,
   TwinCnt.BEAT_LOSSES, TwinCnt.CTRL_BAD, TwinCnt.MIRROR_UNCONFIRMED, TwinCnt.CLEAR]

/-! Leg : Table 12-13. Legacy pairing (0x8C10–0x8C13) (12_twin_protection.md). -/
def Leg.LEGACY_ENABLE : Obj := Obj.row 0x8C10 0 1 0 1 0x01 0 0 .bool .rwk (.c 0) [(0, 1)] .none false
def Leg.LEGACY_UDP_PORT : Obj := Obj.row 0x8C10 0 1 0 1 0x02 0 0 .u16 .rwk (.c 49700) [(1024, 65535)] .none false
def Leg.LEGACY_PEER_IP : Obj := Obj.row 0x8C10 0 1 0 1 0x03 0 0 (.octets 16) .rwk (.c 0) [] .none false
def Leg.LEGACY_TIMEOUT_MS : Obj := Obj.row 0x8C10 0 1 0 1 0x04 0 0 .u16 .rwk (.c 500) [(200, 600)] .none false
def Leg.LEGACY_PEER_KEY : Obj := Obj.row 0x8C10 0 1 0 1 0x05 0 0 (.octets 512) .rwk (.c 0) [] .none false
def Leg.SNAP_REJECT : Obj := Obj.row 0x8C10 0 1 0 1 0x06 0 0 .u32 .ro (.c 0) [] .sat false
def Leg.SIG_FAILS : Obj := Obj.row 0x8C10 0 1 0 1 0x07 0 0 .u32 .ro (.c 0) [] .sat false
def Leg.LEGACY_PORT_MAP : Obj := Obj.row 0x8C11 0 1 0 32 0x01 1 0 .u8 .rwk (.c 255) [(0, 63), (255, 255)] .none false
def Leg.LEGACY_RT_CORR_PS : Obj := Obj.row 0x8C12 0 1 0 32 0x01 1 0 .s32 .rwk (.c 0) [(-100000000, 100000000)] .none false
def Leg.SLOT0_STATE : Obj := Obj.row 0x8C13 0 1 0 1 0x01 0 0 .u8 .ro (.c 0) [(0, 3)] .none false
def Leg.SLOT0_SEQ : Obj := Obj.row 0x8C13 0 1 0 1 0x02 0 0 .u32 .ro (.c 0) [] .none false
def Leg.SLOT0_AT : Obj := Obj.row 0x8C13 0 1 0 1 0x03 0 0 .time96 .ro (.c 0) [] .none false
def Leg.SLOT1_STATE : Obj := Obj.row 0x8C13 0 1 0 1 0x04 0 0 .u8 .ro (.c 0) [(0, 3)] .none false
def Leg.SLOT1_SEQ : Obj := Obj.row 0x8C13 0 1 0 1 0x05 0 0 .u32 .ro (.c 0) [] .none false
def Leg.SLOT1_AT : Obj := Obj.row 0x8C13 0 1 0 1 0x06 0 0 .time96 .ro (.c 0) [] .none false
def Leg.objs : List Obj :=
  [Leg.LEGACY_ENABLE, Leg.LEGACY_UDP_PORT, Leg.LEGACY_PEER_IP, Leg.LEGACY_TIMEOUT_MS, Leg.LEGACY_PEER_KEY, Leg.SNAP_REJECT,
   Leg.SIG_FAILS, Leg.LEGACY_PORT_MAP, Leg.LEGACY_RT_CORR_PS, Leg.SLOT0_STATE, Leg.SLOT0_SEQ, Leg.SLOT0_AT,
   Leg.SLOT1_STATE, Leg.SLOT1_SEQ, Leg.SLOT1_AT]

/-! Hst : Table 13-18. Host interface objects (13_host_mailboxes.md). -/
def Hst.LINK_SPEED : Obj := Obj.row 0x9000 0 1 0 1 0x01 0 0 .u8 .ro (.c 0) [(0, 5)] .none false
def Hst.LINK_WIDTH : Obj := Obj.row 0x9000 0 1 0 1 0x02 0 0 .u8 .ro (.c 0) [(0, 0), (1, 1), (2, 2), (4, 4), (8, 8)] .none false
def Hst.HOST_INC : Obj := Obj.row 0x9000 0 1 0 1 0x03 0 0 .u8 .ro (.c 0) [] .wrap false
def Hst.HOST_RESETS : Obj := Obj.row 0x9000 0 1 0 1 0x04 0 0 .u16 .ro (.c 0) [] .sat false
def Hst.HOST_BAD_ACCESS : Obj := Obj.row 0x9000 0 1 0 1 0x05 0 0 .u32 .ro (.c 0) [] .sat false
def Hst.SEC_SESSION : Obj := Obj.row 0x9000 0 1 0 1 0x06 0 0 .bool .ro (.c 0) [(0, 1)] .none false
def Hst.SEC_FLUSH : Obj := Obj.row 0x9000 0 1 0 1 0x07 0 0 .u32 .ro (.c 0) [] .sat false
def Hst.DICT_TIMEOUT_US : Obj := Obj.row 0x9000 0 1 0 1 0x08 0 0 .u32 .rwk (.c 1000000) [(10, 1000000)] .none false
def Hst.CLEAR : Obj := Obj.row 0x9000 0 1 0 1 0xFF 0 0 .bool .wo (.c 0) [(1, 1)] .none false
def Hst.objs : List Obj :=
  [Hst.LINK_SPEED, Hst.LINK_WIDTH, Hst.HOST_INC, Hst.HOST_RESETS, Hst.HOST_BAD_ACCESS, Hst.SEC_SESSION,
   Hst.SEC_FLUSH, Hst.DICT_TIMEOUT_US, Hst.CLEAR]

/-! Mbx : Table 13-18. Host interface objects (13_host_mailboxes.md). -/
def Mbx.RECEIVER : Obj := Obj.row 0x9010 1 64 0 1 0x01 0 0 .u16 .rwk (.mbxReceiver) [(1, 1), (16, 23)] .none false
def Mbx.TIMEOUT_US : Obj := Obj.row 0x9010 1 64 0 1 0x02 0 0 .u32 .rwk (.c 100000) [(10, 1000000)] .none false
def Mbx.POSTS : Obj := Obj.row 0x9010 1 64 0 1 0x03 0 0 .u64 .ro (.c 0) [] .wrap false
def Mbx.MBX_FULL : Obj := Obj.row 0x9010 1 64 0 1 0x04 0 0 .u32 .ro (.c 0) [] .sat false
def Mbx.MBX_REFUSED : Obj := Obj.row 0x9010 1 64 0 1 0x05 0 0 .u32 .ro (.c 0) [] .sat false
def Mbx.MBX_TIMEOUTS : Obj := Obj.row 0x9010 1 64 0 1 0x06 0 0 .u32 .ro (.c 0) [] .sat false
def Mbx.MBX_LATE_DONE : Obj := Obj.row 0x9010 1 64 0 1 0x07 0 0 .u32 .ro (.c 0) [] .sat false
def Mbx.MBX_STALE_REPLY : Obj := Obj.row 0x9010 1 64 0 1 0x08 0 0 .u32 .ro (.c 0) [] .sat false
def Mbx.MBX_FLUSHED_TOTAL : Obj := Obj.row 0x9010 1 64 0 1 0x09 0 0 .u32 .ro (.c 0) [] .sat false
def Mbx.MBX_BAD_OP : Obj := Obj.row 0x9010 1 64 0 1 0x0A 0 0 .u32 .ro (.c 0) [] .sat false
def Mbx.CLEAR : Obj := Obj.row 0x9010 1 64 0 1 0xFF 0 0 .bool .wo (.c 0) [(1, 1)] .none false
def Mbx.objs : List Obj :=
  [Mbx.RECEIVER, Mbx.TIMEOUT_US, Mbx.POSTS, Mbx.MBX_FULL, Mbx.MBX_REFUSED, Mbx.MBX_TIMEOUTS,
   Mbx.MBX_LATE_DONE, Mbx.MBX_STALE_REPLY, Mbx.MBX_FLUSHED_TOTAL, Mbx.MBX_BAD_OP, Mbx.CLEAR]

/-! Dma : Table 13-18. Host interface objects (13_host_mailboxes.md). -/
def Dma.DESCRIPTORS : Obj := Obj.row 0x9050 1 16 0 1 0x01 0 0 .u64 .ro (.c 0) [] .wrap false
def Dma.HALTS : Obj := Obj.row 0x9050 1 16 0 1 0x02 0 0 .u16 .ro (.c 0) [] .sat false
def Dma.POOL_EMPTY : Obj := Obj.row 0x9050 1 16 0 1 0x03 0 0 .u32 .ro (.c 0) [] .sat false
def Dma.TRUNCATED : Obj := Obj.row 0x9050 1 16 0 1 0x04 0 0 .u32 .ro (.c 0) [] .sat false
def Dma.OMCI_RX_DROP : Obj := Obj.row 0x9050 1 16 0 1 0x05 0 0 .u32 .ro (.c 0) [] .sat false
def Dma.EVT_RING_DROP : Obj := Obj.row 0x9050 1 16 0 1 0x06 0 0 .u32 .ro (.c 0) [] .sat false
def Dma.CLEAR : Obj := Obj.row 0x9050 1 16 0 1 0xFF 0 0 .bool .wo (.c 0) [(1, 1)] .none false
def Dma.objs : List Obj :=
  [Dma.DESCRIPTORS, Dma.HALTS, Dma.POOL_EMPTY, Dma.TRUNCATED, Dma.OMCI_RX_DROP, Dma.EVT_RING_DROP,
   Dma.CLEAR]

/-! Dbl : Table 13-18. Host interface objects (13_host_mailboxes.md). -/
def Dbl.TARGET : Obj := Obj.row 0x9060 1 8 0 32 0x01 1 0 .u8 .rwk (.c 0) [(0, 8)] .none false
def Dbl.objs : List Obj :=
  [Dbl.TARGET]

/-! Lck : Table 13-18. Host interface objects (13_host_mailboxes.md). -/
def Lck.LOCK_GRANTS : Obj := Obj.row 0x9068 0 1 0 1 0x01 0 0 .u64 .ro (.c 0) [] .wrap false
def Lck.LOCK_CONTENDED : Obj := Obj.row 0x9068 0 1 0 1 0x02 0 0 .u32 .ro (.c 0) [] .wrap false
def Lck.LOCK_BAD_RELEASE : Obj := Obj.row 0x9068 0 1 0 1 0x03 0 0 .u32 .ro (.c 0) [] .sat false
def Lck.LOCK_RESET_RELEASES : Obj := Obj.row 0x9068 0 1 0 1 0x04 0 0 .u32 .ro (.c 0) [] .sat false
def Lck.LOCK_FORCED : Obj := Obj.row 0x9068 0 1 0 1 0x05 0 0 .u32 .ro (.c 0) [] .sat false
def Lck.CLEAR : Obj := Obj.row 0x9068 0 1 0 1 0xFF 0 0 .bool .wo (.c 0) [(1, 1)] .none false
def Lck.objs : List Obj :=
  [Lck.LOCK_GRANTS, Lck.LOCK_CONTENDED, Lck.LOCK_BAD_RELEASE, Lck.LOCK_RESET_RELEASES, Lck.LOCK_FORCED, Lck.CLEAR]

/-! Tbw : Table 13-18. Host interface objects (13_host_mailboxes.md). -/
def Tbw.TBW_WRITES : Obj := Obj.row 0x9069 0 1 0 1 0x01 0 0 .u64 .ro (.c 0) [] .wrap false
def Tbw.TBW_REFUSED : Obj := Obj.row 0x9069 0 1 0 1 0x02 0 0 .u32 .ro (.c 0) [] .sat false
def Tbw.TBW_BAD_ADDR : Obj := Obj.row 0x9069 0 1 0 1 0x03 0 0 .u32 .ro (.c 0) [] .sat false
def Tbw.CLEAR : Obj := Obj.row 0x9069 0 1 0 1 0xFF 0 0 .bool .wo (.c 0) [(1, 1)] .none false
def Tbw.objs : List Obj :=
  [Tbw.TBW_WRITES, Tbw.TBW_REFUSED, Tbw.TBW_BAD_ADDR, Tbw.CLEAR]

/-! Dic : Table 14-6. Dictionary domain objects (14_object_dictionary.md). -/
def Dic.VENDOR_NAME : Obj := Obj.row 0x1000 0 1 0 1 0x01 0 0 (.text 32) .const (.c 2239890148905908938980530594803542) [] .none false
def Dic.DEVICE_NAME : Obj := Obj.row 0x1000 0 1 0 1 0x02 0 0 (.text 16) .const (.c 53005067377223) [] .none false
def Dic.ORDER_CODE : Obj := Obj.row 0x1000 0 1 0 1 0x03 0 0 (.text 16) .ro (.c 0) [] .none false
def Dic.SILICON_REV : Obj := Obj.row 0x1000 0 1 0 1 0x04 0 0 .u8 .const (.c 176) [] .none false
def Dic.DICT_VERSION : Obj := Obj.row 0x1000 0 1 0 1 0x05 0 0 .u16 .const (.c 515) [] .none false
def Dic.SERIAL : Obj := Obj.row 0x1000 0 1 0 1 0x06 0 0 (.octets 16) .ro (.c 0) [] .none false
def Dic.PCI_VENDOR_ID : Obj := Obj.row 0x1000 0 1 0 1 0x07 0 0 .u16 .const (.c 8027) [] .none false
def Dic.PCI_DEVICE_ID : Obj := Obj.row 0x1000 0 1 0 1 0x08 0 0 .u16 .const (.c 25680) [] .none false
def Dic.PCI_CLASS : Obj := Obj.row 0x1000 0 1 0 1 0x09 0 0 .u32 .const (.c 163840) [] .none false
def Dic.FW_VERSION : Obj := Obj.row 0x1000 0 1 0 1 0x0A 0 0 .u32 .ro (.c 0) [] .none false
def Dic.UPTIME_S : Obj := Obj.row 0x1000 0 1 0 1 0x0B 0 0 .u64 .ro (.c 0) [] .none false
def Dic.RESTORE_STATUS : Obj := Obj.row 0x1010 0 1 0 1 0x01 0 0 .u8 .ro (.c 0) [(0, 4)] .none false
def Dic.FACTORY_RESTORE : Obj := Obj.row 0x1010 0 1 0 1 0x02 0 0 .bool .wo (.c 0) [(1, 1)] .none false
def Dic.JOURNAL_PENDING : Obj := Obj.row 0x1010 0 1 0 1 0x03 0 0 .u32 .ro (.c 0) [] .none false
def Dic.JOURNAL_VERSION : Obj := Obj.row 0x1010 0 1 0 1 0x04 0 0 .u16 .ro (.c 0) [] .none false
def Dic.JOURNAL_FAILS : Obj := Obj.row 0x1010 0 1 0 1 0x05 0 0 .u32 .ro (.c 0) [] .sat false
def Dic.DOMAIN_RESTORE : Obj := Obj.row 0x1011 0 1 0 17 0x01 1 0 .u8 .ro (.c 0) [(0, 4)] .none false
def Dic.TXN_BEGIN : Obj := Obj.row 0x1020 0 1 0 1 0x01 0 0 .bool .wo (.c 0) [(1, 1)] .none false
def Dic.TXN_COMMIT : Obj := Obj.row 0x1020 0 1 0 1 0x02 0 0 .bool .wo (.c 0) [(1, 1)] .none false
def Dic.TXN_ABORT : Obj := Obj.row 0x1020 0 1 0 1 0x03 0 0 .bool .wo (.c 0) [(1, 1)] .none false
def Dic.TXN_STATE : Obj := Obj.row 0x1020 0 1 0 1 0x04 0 0 .u8 .ro (.c 0) [(0, 2)] .none false
def Dic.TXN_MEMBERS : Obj := Obj.row 0x1020 0 1 0 1 0x05 0 0 .u16 .ro (.c 0) [(0, 4096)] .none false
def Dic.TXN_FAIL_INDEX : Obj := Obj.row 0x1020 0 1 0 1 0x06 0 0 .u16 .ro (.c 0) [] .none false
def Dic.TXN_FAIL_SUB : Obj := Obj.row 0x1020 0 1 0 1 0x07 0 0 .u8 .ro (.c 0) [] .none false
def Dic.TXN_FAIL_RECORD : Obj := Obj.row 0x1020 0 1 0 1 0x08 0 0 .u32 .ro (.c 4294967295) [] .none false
def Dic.TXN_FAIL_CODE : Obj := Obj.row 0x1020 0 1 0 1 0x09 0 0 .u32 .ro (.c 0) [] .none false
def Dic.LEASE_CMD : Obj := Obj.row 0x1030 0 1 0 1 0x01 0 0 .u8 .wo (.c 0) [(1, 3)] .none false
def Dic.LEASE_PERIOD_S : Obj := Obj.row 0x1030 0 1 0 1 0x02 0 0 .u16 .rwk (.c 30) [(1, 600)] .none false
def Dic.OWNER : Obj := Obj.row 0x1030 0 1 0 1 0x03 0 0 .u8 .ro (.c 255) [(0, 8), (255, 255)] .none false
def Dic.LEASE_END : Obj := Obj.row 0x1030 0 1 0 1 0x04 0 0 .time96 .ro (.c 0) [] .none false
def Dic.LEASE_TAKES : Obj := Obj.row 0x1030 0 1 0 1 0x05 0 0 .u32 .ro (.c 0) [] .wrap false
def Dic.LEASE_LAPSES : Obj := Obj.row 0x1030 0 1 0 1 0x06 0 0 .u32 .ro (.c 0) [] .sat false
def Dic.THIS_SESSION : Obj := Obj.row 0x1040 0 1 0 1 0x01 0 0 .u8 .ro (.c 0) [(0, 8), (254, 254)] .none false
def Dic.SESSIONS_OPEN : Obj := Obj.row 0x1040 0 1 0 1 0x02 0 0 .u8 .ro (.c 0) [(0, 8)] .none false
def Dic.VOT_AUTH_FAIL : Obj := Obj.row 0x1040 0 1 0 1 0x03 0 0 .u32 .ro (.c 0) [] .sat false
def Dic.VOT_DROPPED : Obj := Obj.row 0x1040 0 1 0 1 0x04 0 0 .u32 .ro (.c 0) [] .sat false
def Dic.REQUESTS : Obj := Obj.row 0x1040 0 1 0 1 0x05 0 0 .u64 .ro (.c 0) [] .wrap false
def Dic.CLEAR : Obj := Obj.row 0x1040 0 1 0 1 0xFF 0 0 .bool .wo (.c 0) [(1, 1)] .none false
def Dic.MGMT_MODE : Obj := Obj.row 0x1050 0 1 0 1 0x01 0 0 .u8 .rwk (.c 0) [(0, 1)] .none false
def Dic.IP_ADDR : Obj := Obj.row 0x1050 0 1 0 1 0x02 0 0 (.octets 16) .rwk (.c 0) [] .none false
def Dic.PREFIX_LEN : Obj := Obj.row 0x1050 0 1 0 1 0x03 0 0 .u8 .rwk (.c 0) [(0, 128)] .none false
def Dic.GATEWAY : Obj := Obj.row 0x1050 0 1 0 1 0x04 0 0 (.octets 16) .rwk (.c 0) [] .none false
def Dic.VOT_UDP_PORT : Obj := Obj.row 0x1050 0 1 0 1 0x05 0 0 .u16 .rwk (.c 50300) [(1024, 65535)] .none false
def Dic.VOT_IDLE_S : Obj := Obj.row 0x1050 0 1 0 1 0x06 0 0 .u16 .rwk (.c 60) [(10, 3600)] .none false
def Dic.MGMT_KEY : Obj := Obj.row 0x1050 0 1 0 1 0x07 0 0 (.octets 32) .rws (.c 0) [] .none false
def Dic.MGMT_MAC : Obj := Obj.row 0x1050 0 1 0 1 0x08 0 0 (.octets 6) .ro (.c 0) [] .none false
def Dic.EVT_NEXT_SEQ : Obj := Obj.row 0x1060 0 1 0 1 0x01 0 0 .u32 .ro (.c 0) [] .wrap false
def Dic.EVT_OLDEST_SEQ : Obj := Obj.row 0x1060 0 1 0 1 0x02 0 0 .u32 .ro (.c 0) [] .wrap false
def Dic.RDX_LENGTH : Obj := Obj.row 0x1070 0 1 0 1 0x01 0 0 .u32 .ro (.c 0) [] .none false
def Dic.RDX_DIGEST : Obj := Obj.row 0x1070 0 1 0 1 0x02 0 0 (.octets 64) .ro (.c 0) [] .none false
def Dic.OBJECT_COUNT : Obj := Obj.row 0x1070 0 1 0 1 0x03 0 0 .u32 .ro (.c 0) [] .none false
def Dic.objs : List Obj :=
  [Dic.VENDOR_NAME, Dic.DEVICE_NAME, Dic.ORDER_CODE, Dic.SILICON_REV, Dic.DICT_VERSION, Dic.SERIAL,
   Dic.PCI_VENDOR_ID, Dic.PCI_DEVICE_ID, Dic.PCI_CLASS, Dic.FW_VERSION, Dic.UPTIME_S, Dic.RESTORE_STATUS,
   Dic.FACTORY_RESTORE, Dic.JOURNAL_PENDING, Dic.JOURNAL_VERSION, Dic.JOURNAL_FAILS, Dic.DOMAIN_RESTORE, Dic.TXN_BEGIN,
   Dic.TXN_COMMIT, Dic.TXN_ABORT, Dic.TXN_STATE, Dic.TXN_MEMBERS, Dic.TXN_FAIL_INDEX, Dic.TXN_FAIL_SUB,
   Dic.TXN_FAIL_RECORD, Dic.TXN_FAIL_CODE, Dic.LEASE_CMD, Dic.LEASE_PERIOD_S, Dic.OWNER, Dic.LEASE_END,
   Dic.LEASE_TAKES, Dic.LEASE_LAPSES, Dic.THIS_SESSION, Dic.SESSIONS_OPEN, Dic.VOT_AUTH_FAIL, Dic.VOT_DROPPED,
   Dic.REQUESTS, Dic.CLEAR, Dic.MGMT_MODE, Dic.IP_ADDR, Dic.PREFIX_LEN, Dic.GATEWAY,
   Dic.VOT_UDP_PORT, Dic.VOT_IDLE_S, Dic.MGMT_KEY, Dic.MGMT_MAC, Dic.EVT_NEXT_SEQ, Dic.EVT_OLDEST_SEQ,
   Dic.RDX_LENGTH, Dic.RDX_DIGEST, Dic.OBJECT_COUNT]

/-! Sess : Table 14-6. Dictionary domain objects (14_object_dictionary.md). -/
def Sess.PEER_IP : Obj := Obj.row 0x1041 1 8 0 1 0x01 0 0 (.octets 16) .ro (.c 0) [] .none false
def Sess.PEER_PORT : Obj := Obj.row 0x1041 1 8 0 1 0x02 0 0 .u16 .ro (.c 0) [] .none false
def Sess.OPENED_AT : Obj := Obj.row 0x1041 1 8 0 1 0x03 0 0 .time96 .ro (.c 0) [] .none false
def Sess.LAST_SEQ : Obj := Obj.row 0x1041 1 8 0 1 0x04 0 0 .u32 .ro (.c 0) [] .none false
def Sess.SUBSCRIBED : Obj := Obj.row 0x1041 1 8 0 1 0x05 0 0 .bool .ro (.c 0) [(0, 1)] .none false
def Sess.CLOSE : Obj := Obj.row 0x1041 1 8 0 1 0x06 0 0 .bool .wo (.c 0) [(1, 1)] .none false
def Sess.objs : List Obj :=
  [Sess.PEER_IP, Sess.PEER_PORT, Sess.OPENED_AT, Sess.LAST_SEQ, Sess.SUBSCRIBED, Sess.CLOSE]

/-! EvtRec : Table 14-6. Dictionary domain objects (14_object_dictionary.md). -/
def EvtRec.EVENT : Obj := Obj.row 0xA000 0 1 0 1 0x01 0 65536 (.octets 64) .ro (.c 0) [] .none false
def EvtRec.objs : List Obj :=
  [EvtRec.EVENT]

/-! Rdx : Table 14-6. Dictionary domain objects (14_object_dictionary.md). -/
def Rdx.RDX_CHUNK : Obj := Obj.row 0xA001 0 1 0 1 0x01 0 65536 (.octets 1024) .ro (.c 0) [] .none false
def Rdx.objs : List Obj :=
  [Rdx.RDX_CHUNK]

/-! Pwr : Table 15-14. Power and memory (0x2000–0x2025) (15_power_security_debug.md). -/
def Pwr.POWER_STATE : Obj := Obj.row 0x2000 0 1 0 1 0x01 0 0 .u8 .ro (.c 0) [(0, 4)] .none false
def Pwr.POWER_CMD : Obj := Obj.row 0x2000 0 1 0 1 0x02 0 0 .u8 .wo (.c 0) [(1, 3)] .none false
def Pwr.TRIM_UPLINKS : Obj := Obj.row 0x2000 0 1 0 1 0x03 0 0 .u8 .rwk (.c 3) [] .none false
def Pwr.TRIM_AUTO : Obj := Obj.row 0x2000 0 1 0 1 0x04 0 0 .bool .rwk (.c 0) [(0, 1)] .none false
def Pwr.TRIM_EXIT_S : Obj := Obj.row 0x2000 0 1 0 1 0x05 0 0 .u16 .rwk (.c 10) [(1, 3600)] .none false
def Pwr.WAKE_MASK : Obj := Obj.row 0x2000 0 1 0 1 0x06 0 0 .u8 .rwk (.c 3) [(0, 7)] .none false
def Pwr.WAKE_AT : Obj := Obj.row 0x2000 0 1 0 1 0x07 0 0 .u64 .rwk (.c 0) [] .none false
def Pwr.LAST_WAKE : Obj := Obj.row 0x2000 0 1 0 1 0x08 0 0 .u8 .ro (.c 0) [(0, 3)] .none false
def Pwr.TRANSITIONS : Obj := Obj.row 0x2000 0 1 0 1 0x09 0 0 .u32 .ro (.c 0) [] .wrap false
def Pwr.RESTART : Obj := Obj.row 0x2000 0 1 0 1 0x0A 0 0 .bool .wo (.c 0) [(1, 1)] .none false
def Pwr.PLL_LOCKED : Obj := Obj.row 0x2001 0 1 0 1 0x01 0 0 .u8 .ro (.c 0) [] .none false
def Pwr.PLL_UNLOCKS : Obj := Obj.row 0x2001 0 1 0 1 0x02 0 0 .u16 .ro (.c 0) [] .sat false
def Pwr.CLEAR : Obj := Obj.row 0x2001 0 1 0 1 0xFF 0 0 .bool .wo (.c 0) [(1, 1)] .none false
def Pwr.CH_FITTED : Obj := Obj.row 0x2010 0 1 0 1 0x01 0 0 .u8 .ro (.c 0) [] .none false
def Pwr.DDR_RATE_MTS : Obj := Obj.row 0x2010 0 1 0 1 0x02 0 0 .u16 .rwk (.c 6400) [(4800, 4800), (5600, 5600), (6400, 6400)] .none false
def Pwr.CAPACITY_MIB : Obj := Obj.row 0x2010 0 1 0 1 0x03 0 0 .u32 .ro (.c 0) [] .none false
def Pwr.CH_SIZE_GIB : Obj := Obj.row 0x2011 0 1 0 8 0x01 1 0 .u16 .ro (.c 0) [(0, 256)] .none false
def Pwr.JOURNAL_WEAR_PCT : Obj := Obj.row 0x2012 0 1 0 1 0x01 0 0 .u8 .ro (.c 0) [(0, 100)] .none false
def Pwr.CAL_FLUSH_H : Obj := Obj.row 0x2012 0 1 0 1 0x02 0 0 .u8 .rwk (.c 6) [(1, 24)] .none false
def Pwr.objs : List Obj :=
  [Pwr.POWER_STATE, Pwr.POWER_CMD, Pwr.TRIM_UPLINKS, Pwr.TRIM_AUTO, Pwr.TRIM_EXIT_S, Pwr.WAKE_MASK,
   Pwr.WAKE_AT, Pwr.LAST_WAKE, Pwr.TRANSITIONS, Pwr.RESTART, Pwr.PLL_LOCKED, Pwr.PLL_UNLOCKS,
   Pwr.CLEAR, Pwr.CH_FITTED, Pwr.DDR_RATE_MTS, Pwr.CAPACITY_MIB, Pwr.CH_SIZE_GIB, Pwr.JOURNAL_WEAR_PCT,
   Pwr.CAL_FLUSH_H]

/-! DdrReg : Table 15-14. Power and memory (0x2000–0x2025) (15_power_security_debug.md). -/
def DdrReg.SIZE_MIB : Obj := Obj.row 0x2020 1 6 0 1 0x01 0 0 .u32 .rwk (.ddrSize) [] .none false
def DdrReg.CH_MASK : Obj := Obj.row 0x2020 1 6 0 1 0x02 0 0 .u8 .rwk (.c 255) [(1, 255)] .none false
def DdrReg.ACTIVE_SIZE_MIB : Obj := Obj.row 0x2020 1 6 0 1 0x03 0 0 .u32 .ro (.c 0) [] .none false
def DdrReg.objs : List Obj :=
  [DdrReg.SIZE_MIB, DdrReg.CH_MASK, DdrReg.ACTIVE_SIZE_MIB]

/-! Sec : Table 15-15. Security (0x9400–0x9403) (15_power_security_debug.md). -/
def Sec.LIFECYCLE : Obj := Obj.row 0x9400 0 1 0 1 0x01 0 0 .u8 .ro (.c 0) [(0, 3)] .none false
def Sec.LIFECYCLE_CMD : Obj := Obj.row 0x9400 0 1 0 1 0x02 0 0 .u8 .rws (.c 0) [(1, 3)] .none false
def Sec.DEBUG_LEVEL : Obj := Obj.row 0x9400 0 1 0 1 0x03 0 0 .u8 .ro (.c 0) [(0, 2)] .none false
def Sec.DEBUG_TOKEN : Obj := Obj.row 0x9400 0 1 0 1 0x04 0 0 (.octets 576) .wo (.c 0) [] .none false
def Sec.DEBUG_EXPIRY : Obj := Obj.row 0x9400 0 1 0 1 0x05 0 0 .u64 .ro (.c 0) [] .none false
def Sec.DEBUG_END : Obj := Obj.row 0x9400 0 1 0 1 0x06 0 0 .bool .wo (.c 0) [(1, 1)] .none false
def Sec.TIME_HWM : Obj := Obj.row 0x9400 0 1 0 1 0x07 0 0 .u64 .ro (.c 0) [] .none false
def Sec.OWNER_DEBUG_KEY : Obj := Obj.row 0x9400 0 1 0 1 0x08 0 0 (.octets 512) .rws (.c 0) [] .none false
def Sec.KEYSTORE_ERASES : Obj := Obj.row 0x9400 0 1 0 1 0x09 0 0 .u32 .ro (.c 0) [] .wrap false
def Sec.RUNNING_SLOT : Obj := Obj.row 0x9401 0 1 0 1 0x01 0 0 .u8 .ro (.c 0) [(0, 1), (255, 255)] .none false
def Sec.BOOT_PREF : Obj := Obj.row 0x9401 0 1 0 1 0x02 0 0 .u8 .rw (.c 0) [(0, 1)] .none false
def Sec.SLOT_A_VERSION : Obj := Obj.row 0x9401 0 1 0 1 0x03 0 0 .u32 .ro (.c 0) [] .none false
def Sec.SLOT_B_VERSION : Obj := Obj.row 0x9401 0 1 0 1 0x04 0 0 .u32 .ro (.c 0) [] .none false
def Sec.SLOT_A_ROLLBACK : Obj := Obj.row 0x9401 0 1 0 1 0x05 0 0 .u8 .ro (.c 0) [(0, 63)] .none false
def Sec.SLOT_B_ROLLBACK : Obj := Obj.row 0x9401 0 1 0 1 0x06 0 0 .u8 .ro (.c 0) [(0, 63)] .none false
def Sec.ROLLBACK_MIN : Obj := Obj.row 0x9401 0 1 0 1 0x07 0 0 .u8 .ro (.c 0) [(0, 64)] .none false
def Sec.ROLLBACK_COMMIT : Obj := Obj.row 0x9401 0 1 0 1 0x08 0 0 .bool .wo (.c 0) [(1, 1)] .none false
def Sec.TRIAL : Obj := Obj.row 0x9401 0 1 0 1 0x09 0 0 .bool .ro (.c 0) [(0, 1)] .none false
def Sec.IMAGE_CONFIRM : Obj := Obj.row 0x9401 0 1 0 1 0x0A 0 0 .bool .wo (.c 0) [(1, 1)] .none false
def Sec.TRIAL_S : Obj := Obj.row 0x9401 0 1 0 1 0x0B 0 0 .u16 .rwk (.c 600) [(60, 3600)] .none false
def Sec.IMAGE_VERIFY : Obj := Obj.row 0x9401 0 1 0 1 0x0C 0 0 .bool .wo (.c 0) [(1, 1)] .none false
def Sec.INACTIVE_STATE : Obj := Obj.row 0x9401 0 1 0 1 0x0D 0 0 .u8 .ro (.c 0) [(0, 4)] .none false
def Sec.BOOT_FALLBACKS : Obj := Obj.row 0x9401 0 1 0 1 0x0E 0 0 .u16 .ro (.c 0) [] .sat false
def Sec.IDENTITY_PUBKEY : Obj := Obj.row 0x9403 0 1 0 1 0x01 0 0 (.octets 512) .ro (.c 0) [] .none false
def Sec.CERT_DIGEST : Obj := Obj.row 0x9403 0 1 0 1 0x02 0 0 (.octets 64) .ro (.c 0) [] .none false
def Sec.OWNER_CHAIN : Obj := Obj.row 0x9403 0 1 0 1 0x03 0 0 (.octets 1024) .rws (.c 0) [] .none false
def Sec.SPDM_SESSIONS : Obj := Obj.row 0x9403 0 1 0 1 0x04 0 0 .u32 .ro (.c 0) [] .wrap false
def Sec.objs : List Obj :=
  [Sec.LIFECYCLE, Sec.LIFECYCLE_CMD, Sec.DEBUG_LEVEL, Sec.DEBUG_TOKEN, Sec.DEBUG_EXPIRY, Sec.DEBUG_END,
   Sec.TIME_HWM, Sec.OWNER_DEBUG_KEY, Sec.KEYSTORE_ERASES, Sec.RUNNING_SLOT, Sec.BOOT_PREF, Sec.SLOT_A_VERSION,
   Sec.SLOT_B_VERSION, Sec.SLOT_A_ROLLBACK, Sec.SLOT_B_ROLLBACK, Sec.ROLLBACK_MIN, Sec.ROLLBACK_COMMIT, Sec.TRIAL,
   Sec.IMAGE_CONFIRM, Sec.TRIAL_S, Sec.IMAGE_VERIFY, Sec.INACTIVE_STATE, Sec.BOOT_FALLBACKS, Sec.IDENTITY_PUBKEY,
   Sec.CERT_DIGEST, Sec.OWNER_CHAIN, Sec.SPDM_SESSIONS]

/-! ImgChunk : Table 15-15. Security (0x9400–0x9403) (15_power_security_debug.md). -/
def ImgChunk.IMAGE_CHUNK : Obj := Obj.row 0x9402 0 1 0 1 0x01 0 32768 (.octets 1024) .wo (.c 0) [] .none false
def ImgChunk.objs : List Obj :=
  [ImgChunk.IMAGE_CHUNK]

/-! OwnC : Table 15-15. Security (15_power_security_debug.md). -/
def OwnC.OWNER_CHAIN : Obj := Obj.row 0x9404 0 1 0 1 0x01 0 16 (.octets 1024) .rws (.c 0) [] .none false
def OwnC.objs : List Obj :=
  [OwnC.OWNER_CHAIN]

/-! Cro : Table 15-16. Crocus (0xE000, 0xE001) (15_power_security_debug.md). -/
def Cro.CROCUS_ENABLE : Obj := Obj.row 0xE000 0 1 0 1 0x01 0 0 .bool .rw (.c 0) [(0, 1)] .none false
def Cro.SCOPE_PORT : Obj := Obj.row 0xE000 0 1 0 1 0x02 0 0 .u8 .rw (.c 0) [(0, 63)] .none false
def Cro.SCOPE_CHANNEL : Obj := Obj.row 0xE000 0 1 0 1 0x03 0 0 .u8 .rw (.c 0) [(0, 1)] .none false
def Cro.SCOPE_PIPE : Obj := Obj.row 0xE000 0 1 0 1 0x04 0 0 .u8 .rw (.c 0) [(0, 7)] .none false
def Cro.SCOPE_MEM : Obj := Obj.row 0xE000 0 1 0 1 0x05 0 0 .u8 .rw (.c 0) [(0, 7)] .none false
def Cro.OBS_SEL : Obj := Obj.row 0xE001 0 1 0 16 0x01 1 0 .u16 .rw (.c 0) [] .none false
def Cro.objs : List Obj :=
  [Cro.CROCUS_ENABLE, Cro.SCOPE_PORT, Cro.SCOPE_CHANNEL, Cro.SCOPE_PIPE, Cro.SCOPE_MEM, Cro.OBS_SEL]

/-! Mem : Table 16-5. Memory integrity (0x9800, 0x9801, 0x9810 + a) (16_memory_integrity.md). -/
def Mem.CE_TOTAL : Obj := Obj.row 0x9800 0 1 0 1 0x01 0 0 .u64 .ro (.c 0) [] .wrap false
def Mem.UE_TOTAL : Obj := Obj.row 0x9800 0 1 0 1 0x02 0 0 .u32 .ro (.c 0) [] .sat false
def Mem.UE_PKT_DROP : Obj := Obj.row 0x9800 0 1 0 1 0x03 0 0 .u32 .ro (.c 0) [] .sat false
def Mem.CE_REPEAT_LIMIT : Obj := Obj.row 0x9800 0 1 0 1 0x04 0 0 .u16 .rwk (.c 16) [(2, 10000)] .none false
def Mem.SCRUB_WAKE_H : Obj := Obj.row 0x9800 0 1 0 1 0x05 0 0 .u8 .rwk (.c 24) [(0, 168)] .none false
def Mem.CLEAR : Obj := Obj.row 0x9800 0 1 0 1 0xFF 0 0 .bool .wo (.c 0) [(1, 1)] .none false
def Mem.objs : List Obj :=
  [Mem.CE_TOTAL, Mem.UE_TOTAL, Mem.UE_PKT_DROP, Mem.CE_REPEAT_LIMIT, Mem.SCRUB_WAKE_H, Mem.CLEAR]

/-! Inj : Table 16-5. Memory integrity (0x9800, 0x9801, 0x9810 + a) (16_memory_integrity.md). -/
def Inj.INJ_ARRAY : Obj := Obj.row 0x9801 0 1 0 1 0x01 0 0 .u8 .rw (.c 0) [(0, 18)] .none false
def Inj.INJ_ADDR : Obj := Obj.row 0x9801 0 1 0 1 0x02 0 0 .u64 .rw (.c 0) [] .none false
def Inj.INJ_BITS : Obj := Obj.row 0x9801 0 1 0 1 0x03 0 0 .u8 .rw (.c 1) [(1, 2)] .none false
def Inj.INJ_ARM : Obj := Obj.row 0x9801 0 1 0 1 0x04 0 0 .bool .rw (.c 0) [(0, 1)] .none false
def Inj.objs : List Obj :=
  [Inj.INJ_ARRAY, Inj.INJ_ADDR, Inj.INJ_BITS, Inj.INJ_ARM]

/-! MemA : Table 16-5. Memory integrity (0x9800, 0x9801, 0x9810 + a) (16_memory_integrity.md). -/
def MemA.CODE : Obj := Obj.row 0x9810 1 19 0 1 0x01 0 0 .u8 .const (.memCode) [(0, 2)] .none false
def MemA.CE_COUNT : Obj := Obj.row 0x9810 1 19 0 1 0x02 0 0 .u32 .ro (.c 0) [] .wrap false
def MemA.UE_COUNT : Obj := Obj.row 0x9810 1 19 0 1 0x03 0 0 .u32 .ro (.c 0) [] .sat false
def MemA.LAP_MS : Obj := Obj.row 0x9810 1 19 0 1 0x04 0 0 .u32 .ro (.c 0) [] .none false
def MemA.LAP_MAX_MS : Obj := Obj.row 0x9810 1 19 0 1 0x05 0 0 .u32 .ro (.c 0) [] .none false
def MemA.LAP_LIMIT_S : Obj := Obj.row 0x9810 1 19 0 1 0x06 0 0 .u32 .rwk (.lapLimit) [(1, 604800)] .none false
def MemA.LAP_ALARM : Obj := Obj.row 0x9810 1 19 0 1 0x07 0 0 .bool .ro (.c 0) [(0, 1)] .none false
def MemA.LAST_UE_ADDR : Obj := Obj.row 0x9810 1 19 0 1 0x08 0 0 .u64 .ro (.c 0) [] .none false
def MemA.LAST_UE_AT : Obj := Obj.row 0x9810 1 19 0 1 0x09 0 0 .time96 .ro (.c 0) [] .none false
def MemA.SCRUB_ENABLE : Obj := Obj.row 0x9810 1 19 0 1 0x0A 0 0 .bool .rwk (.c 1) [(0, 1)] .none false
def MemA.CLEAR : Obj := Obj.row 0x9810 1 19 0 1 0xFF 0 0 .bool .wo (.c 0) [(1, 1)] .none false
def MemA.objs : List Obj :=
  [MemA.CODE, MemA.CE_COUNT, MemA.UE_COUNT, MemA.LAP_MS, MemA.LAP_MAX_MS, MemA.LAP_LIMIT_S,
   MemA.LAP_ALARM, MemA.LAST_UE_ADDR, MemA.LAST_UE_AT, MemA.SCRUB_ENABLE, MemA.CLEAR]

/-! Sta : Table 17-8. Start-up and thermal objects (0x2030, 0x2031, 0x2040) (17_startup_electrical.md). -/
def Sta.START_CAUSE : Obj := Obj.row 0x2030 0 1 0 1 0x01 0 0 .u8 .ro (.c 0) [(0, 4)] .none false
def Sta.START_PHASE : Obj := Obj.row 0x2030 0 1 0 1 0x02 0 0 .u8 .ro (.c 0) [(1, 8)] .none false
def Sta.WAVE_MIN_MS : Obj := Obj.row 0x2030 0 1 0 1 0x03 0 0 .u16 .rwk (.c 500) [(100, 5000)] .none false
def Sta.WAVE_MAX_MS : Obj := Obj.row 0x2030 0 1 0 1 0x04 0 0 .u16 .rwk (.c 1500) [(500, 10000)] .none false
def Sta.WAVE_TEC_A : Obj := Obj.row 0x2030 0 1 0 1 0x05 0 0 .u16 .rwk (.c 32) [(4, 200)] .none false
def Sta.SERVICE_MS : Obj := Obj.row 0x2030 0 1 0 1 0x06 0 0 .u32 .ro (.c 0) [] .none false
def Sta.PHASE_END_MS : Obj := Obj.row 0x2031 0 1 0 7 0x01 1 0 .u32 .ro (.c 0) [] .none false
def Sta.WAVE_START_MS : Obj := Obj.row 0x2031 0 1 0 8 0x08 1 0 .u32 .ro (.c 0) [] .none false
def Sta.TJ_W_MC : Obj := Obj.row 0x2040 0 1 0 1 0x01 0 0 .s32 .ro (.c 0) [] .none false
def Sta.TJ_E_MC : Obj := Obj.row 0x2040 0 1 0 1 0x02 0 0 .s32 .ro (.c 0) [] .none false
def Sta.TJ_CORE_MC : Obj := Obj.row 0x2040 0 1 0 1 0x03 0 0 .s32 .ro (.c 0) [] .none false
def Sta.TJ_PEAK_MC : Obj := Obj.row 0x2040 0 1 0 1 0x04 0 0 .s32 .ro (.c 0) [] .none false
def Sta.TJ_WARN_C : Obj := Obj.row 0x2040 0 1 0 1 0x05 0 0 .s16 .rwk (.tjWarn) [(60, 110)] .none false
def Sta.THERMAL_TRIPS : Obj := Obj.row 0x2040 0 1 0 1 0x06 0 0 .u16 .ro (.c 0) [] .sat false
def Sta.CORE_VID_MV : Obj := Obj.row 0x2040 0 1 0 1 0x07 0 0 .u16 .ro (.c 0) [(700, 800)] .none false
def Sta.CLEAR : Obj := Obj.row 0x2040 0 1 0 1 0xFF 0 0 .bool .wo (.c 0) [(1, 1)] .none false
def Sta.objs : List Obj :=
  [Sta.START_CAUSE, Sta.START_PHASE, Sta.WAVE_MIN_MS, Sta.WAVE_MAX_MS, Sta.WAVE_TEC_A, Sta.SERVICE_MS,
   Sta.PHASE_END_MS, Sta.WAVE_START_MS, Sta.TJ_W_MC, Sta.TJ_E_MC, Sta.TJ_CORE_MC, Sta.TJ_PEAK_MC,
   Sta.TJ_WARN_C, Sta.THERMAL_TRIPS, Sta.CORE_VID_MV, Sta.CLEAR]

end Sys2Proof.Machine
end

