-- ==== Sys2Proof/Machine/Objects.lean ====
section
/-! DEFINITION. Every object of the dictionary, in the order of the spec (R370). -/

namespace Sys2Proof.Machine

/-- All object descriptors. -/
def allObjs : List Obj :=
  List.flatten [
    Pon.objs, ActCfg.objs, ActSt.objs, ActDev.objs, Onu.objs, GrDev.objs,
    GrCfg.objs, GrSt.objs, Ctx.objs, MapCap.objs, MapCapEnt.objs, Cal.objs,
    CalCnt.objs, Coef.objs, FrCfg.objs, FrSt.objs, FrDev.objs, OnuPm.objs,
    Xg.objs, PmHist.objs, PmHist15.objs, PmHist24.objs, Cls.objs, Pipe.objs,
    Exc.objs, Hsh.objs, Ind.objs, IndEnt.objs, Rule.objs, Fwd.objs,
    Lkp.objs, FwdOp.objs, Assoc.objs, FidMap.objs, FwdView.objs, Tm.objs,
    Pool.objs, Own.objs, Join.objs, BCap.objs, Node.objs, Queue.objs,
    Pol.objs, DropP.objs, ClsQUs.objs, ClsQDs.objs, Repl.objs, ReplMem.objs,
    Chan.objs, CapRec.objs, CapLine.objs, Upl.objs, Lane.objs, Mac.objs,
    Otn.objs, OtnPm.objs, Prot.objs, Esc.objs, Rcvy.objs, Gen.objs,
    Tim.objs, Ptp.objs, PtpPort.objs, SyE.objs, SySrc.objs, Pin.objs,
    Tod.objs, Twin.objs, TwinCnt.objs, Leg.objs, Hst.objs, Mbx.objs,
    Dma.objs, Dbl.objs, Lck.objs, Tbw.objs, Dic.objs, Sess.objs,
    EvtRec.objs, Rdx.objs, Pwr.objs, DdrReg.objs, Sec.objs, ImgChunk.objs,
    OwnC.objs, Cro.objs, Mem.objs, Inj.objs, MemA.objs, Sta.objs]

end Sys2Proof.Machine
end

