-- ==== Sys2Proof/Machine/Out.lean ====
section
/-! DEFINITION. Event records (R394) and what leaves the block: replies, codes, messages, pins. -/

namespace Sys2Proof.Machine

/-- One event record of R394. `args` are sizes in bytes and values, in the order of Table 14-7. -/
structure EvRec where
  time : Nat := 0
  seq : Nat := 0
  code : Nat := 0
  source : Nat := 0
  inc : Nat := 0
  args : List (Nat × Int) := []
  deriving DecidableEq, Repr

/-- Pins and wires that the block drives. -/
inductive Pin where
  | pwrEnA | pwrEnB | ppsOut | out10M | hbOut | intrN | alertN | thermTripN | readyOut
  deriving DecidableEq, Repr

/-- What an uplink complex sends besides frames: remote fault (R268), BDI and BEI (R276), ODU4 AIS (R277), APS (R282), and the squelch of
a group's lanes (R265). -/
inductive LineSig where
  | remoteFault | bdi | bei | ais | aps | squelch
  deriving DecidableEq, Repr

/-- A downstream XGEM frame (R161): header fields and the payload as sent. -/
structure XgemOut where
  pli : Nat := 0
  keyIndex : Nat := 0
  portId : Nat := 0xFFFF
  lf : Nat := 1
  hec : Nat := 0
  payload : Nat := 0
  deriving DecidableEq, Repr

/-- The 8-byte header of an XGEM frame (R161): PLI 63:50, KEY_INDEX 49:48, XGEM_PORT_ID 47:32, OPTIONS 31:14 zero, LF 13, HEC 12:0. -/
def XgemOut.header (x : XgemOut) : Nat :=
  x.pli * 2 ^ 50 + x.keyIndex * 2 ^ 48 + x.portId * 2 ^ 32 + x.lf * 2 ^ 13 + x.hec % 2 ^ 13

/-- A downstream PLOAM as sent, with its integrity code (R170). -/
structure PloamOut where
  onu : Nat := 1023
  kind : PloamKind := .none
  arg : Int := 0
  mic : Nat := 0
  deriving DecidableEq, Repr

/-- The transmit FIR's three taps in 1/64 of full swing, the swing in mV, and the polarity (R40). -/
structure TxDrive where
  pre : Nat := 0
  main : Nat := 64
  post : Nat := 0
  swing : Nat := 0
  invert : Bool := false
  deriving DecidableEq, Repr

/-- A downstream frame (R158, R159): its superframe counter and PON-ID, the header's map length in bytes and PLOAM count, the map as
the framer encodes it, PLOAMs, XGEM frames, and the bytes that idle XGEM frames fill. -/
structure DsFrame where
  k : Nat := 0
  ponId : Nat := 0
  mapLen : Nat := 0
  ploamCount : Nat := 0
  /-- The fields of R122, and for a window the delimiter of an ONU of RTD 0 and EqD 0, ps after the frame's start. -/
  map : List (List Nat × Int) := []
  ploams : List PloamOut := []
  xgems : List XgemOut := []
  idle : Nat := 0
  /-- How the line is driven (R40). -/
  drive : TxDrive := {}
  deriving DecidableEq, Repr

/-- One thing that left the block.
Log: 10 DESIGN CHOICE. -/
inductive Out where
  /-- An event record, to the log, DMA channel 11 and the subscribed sessions. -/
  | event (e : EvRec)
  /-- The result code of a write at an owner's object. -/
  | result (index sub rcd code : Nat)
  /-- A dictionary reply (R375). -/
  | reply (r : Reply)
  /-- A value returned by a register read. -/
  | value (v : Nat)
  /-- A burst notice on the die-to-die link. -/
  | notice (p c : Nat) (n : Notice)
  /-- A laser or power-window code on OSB_TRG: 0 close, 1 open, 2 off, 3 on (Table 5-5), and when its first bit starts, ns. -/
  | trg (p c code start : Nat)
  /-- The bits of a command frame on OSB_DO, first bit first (Table 5-6). -/
  | sbFrame (p : Nat) (bits : List Nat)
  /-- A downstream PLOAM: channel, ONU-ID, message type and argument. -/
  | ploam (p c onu : Nat) (kind : PloamKind) (arg : Int)
  /-- The interrupt of a loss of signal (R62). -/
  | losIrq (p c : Nat)
  /-- A downstream frame of a channel: its parts, and its bytes on the line from the first (Table 6-1). -/
  | dsFrame (p c : Nat) (f : DsFrame) (line : List Nat)
  /-- An upstream PLOAM delivered to the activation engine or the control complex. -/
  | usPloam (p c onu : Nat) (kind : UsPloam) (body : Int)
  /-- An MSI-X message: vector, and address and data of its table entry. -/
  | msix (vector addr data : Nat)
  /-- What a register read returned to a requester. -/
  | read (req v : Nat)
  /-- A completed descriptor as written to host memory: channel, position, STATUS, LEN, AUX, RESULT, TIME in ns, and the data
  of a receive descriptor. -/
  | dma (c pos status len aux result time : Nat) (data : List Nat)
  /-- An interrupt to a control core. -/
  | coreIrq (core cause : Nat)
  /-- A datagram of Volold Object Transport (Table 14-4): KIND, SESSION, SEQ, AUTH and the body, with the client's address and port and
  the next hop. -/
  | datagram (kind session seq auth : Nat) (body : List Nat) (ip port hop : Nat)
  /-- A frame that the MGMT port sends in answer to ARP, neighbour discovery or an echo request (R389). -/
  | mgmt (data : List Nat)
  /-- A control frame on the twin link, by type (Table 12-3): SUBTYPE, FLAGS, INCARNATION, SEQ and FRAME_K, then its payload; and the bytes of
  the frame (R311). -/
  | twin (kind : Nat) (args : List Int) (frame : List Nat)
  /-- The entries of a MIRROR frame: of the group `k`, or lazy. -/
  | mirror (lazy : Bool) (k : Nat) (entries : List MirEntry)
  /-- The answer to ALLOC (R234): the pointer, or none for pool-empty. -/
  | bufAlloc (req pool : Nat) (ptr : Option Nat)
  /-- The last-holder notice of a buffer (R237). -/
  | bufNotice (owner ptr : Nat)
  /-- A packet sent on an egress: requester identity of the egress, line and bytes. -/
  | packet (egress line : Nat) (data : List Nat)
  /-- A line signal of a member, OTN layer, protection group or uplink group, with its level or content. -/
  | uplink (sig : LineSig) (id arg : Nat)
  /-- The 64 bytes of the trail trace of a layer, in order (R275). -/
  | trace (e : Nat) (data : List Nat)
  /-- The six justification control bytes of a GMP period: member and layer (R278). -/
  | gmp (member layer : Nat) (jc : List Nat)
  /-- An OMCI message on an OMCC port. -/
  | omci (rcd tci : Nat) (body : Int)
  /-- A PTP, ESMC or APS message: kind, port, arguments. -/
  | time (kind port : Nat) (args : List Int)
  /-- A recovered-clock output: the lane that it shows and RCLK_FREQ, or none while it is squelched (R300). -/
  | rclk (n : Nat) (src : Option (Nat × Nat))
  /-- The settings with which a lane of an uplink group starts (R266, Table 10-10): polarities, and the transmit FIR's taps in 1/64 where
  the lane is not trained. -/
  | lane (l : Nat) (txInvert rxInvert : Bool) (taps : Option (Nat × Nat × Nat))
  /-- A pin driven to a level, or pulsed. -/
  | pin (p : Pin) (level : Nat)
  /-- An SPDM response with its code. -/
  | spdm (code arg : Nat)
  /-- A TAP data register selected by the instruction. -/
  | tap (reg : Nat)
  /-- A precise trap of control core `core`: its mcause and mtval (Table 16-3). -/
  | trap (core cause tval : Nat)
  deriving DecidableEq, Repr

end Sys2Proof.Machine
end

