-- ==== Sys2Proof/Machine/State.lean ====
section
/-! DEFINITION. The state of the block, its faults and refusals, and the state after reset. -/

namespace Sys2Proof.Machine

/-- No command of this block faults: the spec gives every one an effect. The type has one constructor that nothing raises. -/
inductive Fault where
  /-- Raised by no command; safe. -/
  | none
  deriving DecidableEq, Repr

/-- Why a command is refused. -/
inductive Refusal where
  /-- A command that the model does not give its meaning; raised by Dispatch alone; safe. -/
  | notModelled (mnemonic : String)
  deriving DecidableEq, Repr

/-- Everything the spec gives the block.
Log: 4 DESIGN CHOICE. -/
structure State where
  /-- Commands that wait, first in first out (the model's own). -/
  pending : List Instr := []
  /-- Device time in nanoseconds (R9). -/
  now : Nat := 0
  /-- Every dictionary object (R370). -/
  od : Store := []
  /-- Everything that has left the block, newest first (the model's own). -/
  out : List Out := []
  /-- Free values drawn so far (the model's own). -/
  drawn : Nat := 0
  /-- The event log by SEQ mod 65,536 (R394). -/
  log : Tab EvRec := []
  port : Tab PortCh := []
  onu : Tab OnuX := []
  framer : Tab OnuF := []
  /-- Retained values accepted and not yet journalled (R387). -/
  jpend : List Addr := []
  /-- Non-whole bursts by channel, ONU-ID and span (R326). -/
  nonWhole : List (Nat × Nat × Nat) := []
  /-- Times of the last late map and uncorrectable critical read, ns (R330). -/
  mapLateAt : Option Nat := none
  memUeAt : Option Nat := none
  act : Tab ActCh := []
  grant : Tab GrantCh := []
  ctx : Tab CtxX := []
  optics : Tab Optics := []
  loops : Tab Loops := []
  /-- Refinement writes that wait for the store arbiters, oldest first (R24). -/
  storeQ : List StoreWrite := []
  /-- Number of the next map to close (R95, R98). -/
  nextMap : Nat := 0
  /-- Priority pointers of the rotating arbiters, by resource (R12). -/
  arb : Tab Nat := []
  /-- HINT_ENABLE of each port as frozen at the last close (R124). -/
  hintEn : Tab Nat := []
  /-- The first map that an armed capture may copy (R125). -/
  capFrom : Nat := 0
  /-- Warm bits by ONU record as mirrored from the active (R123). -/
  warmPeer : Tab Nat := []
  /-- Times and durations in ns of the handovers of the last second (Table 4-5). -/
  computeLog : List (Nat × Nat) := []
  /-- FIND_SERIAL by session (Table 3-7). -/
  findSerial : Tab Nat := []
  /-- Hints on their way from the traffic manager (R109). -/
  hintPosts : List Hint := []
  /-- Framer channels, reassemblies by XGEM record, and OMCI messages that wait for the host, by port. -/
  fr : Tab FramerCh := []
  reasm : Tab Reasm := []
  /-- Values whose last write is not in force yet: old value and the time of the boundary (R183). -/
  lag : List (Addr × Int × Nat) := []
  omciRx : Tab (List OmciMsg) := []
  /-- Pipelines, the forwarding unit and the traffic manager. -/
  pipes : Tab Pipeline := []
  fwd : FwdUnit := {}
  tm : Traffic := {}
  /-- The uplink complex. -/
  upl : Uplinks := {}
  /-- The time unit. -/
  time : TimeX := {}
  /-- The twin unit. -/
  twin : TwinX := {}
  /-- Snowdrop domain, host interface, dictionary engine, journal, security engine and memory integrity. -/
  power : Power := {}
  host : HostIf := {}
  dict : DictX := {}
  journal : Journal := {}
  secu : Secure := {}
  mem : MemX := {}
  deriving DecidableEq, Repr

/-- The state right after power is applied, before the rails rise (R448, R458): every object at its default.
Log: 4 DESIGN CHOICE. -/
def State.reset : State := {}

end Sys2Proof.Machine
end

