-- ==== Sys2Proof/Machine/Ops.lean ====
section
/-! DEFINITION. The named operations over the state: objects, counters, retained writes, events, outputs, arbiters and time. -/

namespace Sys2Proof.Machine

abbrev Res := Host.Outcome State Fault Refusal

/-- The effect of a command on everything but the queue.
Log: 5 DEDUCED. -/
def always (s : State) (f : State → State) : Res := .next { f s with pending := s.pending }

/-- A command of the core: without core power it has no effect.
Log: 5 DEDUCED. -/
def live (s : State) (f : State → State) : Res := always s (fun s => if s.power.coreOn then f s else s)

/-- The value of an object. -/
def State.get (s : State) (o : Obj) (i : Nat := 0) (j : Nat := 0) : Int := s.od.get o i j 0

/-- The value of an object as a number. -/
def State.nat (s : State) (o : Obj) (i : Nat := 0) (j : Nat := 0) : Nat := (s.get o i j).toNat

/-- The value of an object as a truth value. -/
def State.flag (s : State) (o : Obj) (i : Nat := 0) (j : Nat := 0) : Bool := s.get o i j != 0

/-- The value in force of an object whose writes wait for a boundary: the old value until then. -/
def State.eff (s : State) (o : Obj) (i : Nat := 0) (j : Nat := 0) : Nat :=
  match s.lag.find? (fun e => e.1 == o.addr i j 0 && decide (s.now < e.2.2)) with
  | some e => e.2.1.toNat
  | none => s.nat o i j

/-- An object given a value. -/
def State.put (s : State) (o : Obj) (v : Int) (i : Nat := 0) (j : Nat := 0) : State :=
  { s with od := s.od.put o i j 0 v }

/-- The value of a record's subindex; `i` tells the banks or directions of one table apart. -/
def State.rget (s : State) (o : Obj) (r : Nat) (i : Nat := 0) : Int := s.od.get o i 0 r

def State.rnat (s : State) (o : Obj) (r : Nat) (i : Nat := 0) : Nat := (s.rget o r i).toNat

def State.rflag (s : State) (o : Obj) (r : Nat) (i : Nat := 0) : Bool := s.rget o r i != 0

def State.rput (s : State) (o : Obj) (r : Nat) (v : Int) (i : Nat := 0) : State :=
  { s with od := s.od.put o i 0 r v }

/-- A counter's next value (R14): a saturating one stops at its greatest value; the store wraps the others. -/
def Obj.plus (o : Obj) (old : Int) (n : Nat) : Int :=
  match o.cnt with
  | .sat => min (old + n) o.ty.max
  | _ => old + n

/-- A counter increased by `n`. -/
def State.bumpBy (s : State) (o : Obj) (n : Nat) (i : Nat := 0) (j : Nat := 0) : State :=
  s.put o (o.plus (s.get o i j) n) i j

def State.bump (s : State) (o : Obj) (i : Nat := 0) (j : Nat := 0) : State := s.bumpBy o 1 i j

def State.rbumpBy (s : State) (o : Obj) (r n : Nat) (i : Nat := 0) : State :=
  s.rput o r (o.plus (s.rget o r i) n) i

def State.rbump (s : State) (o : Obj) (r : Nat) (i : Nat := 0) : State := s.rbumpBy o r 1 i

/-- One more thing has left the block.
Log: 10 DESIGN CHOICE. -/
def State.emit (s : State) (o : Out) : State := { s with out := o :: s.out }

/-- The answer to a write at an owner's object.
Log: 8 DEDUCED. -/
def State.result (s : State) (o : Obj) (r code : Nat) (i : Nat := 0) (j : Nat := 0) : State :=
  s.emit (.result (o.addr i j r).index (o.addr i j r).sub r code)

/-- A fresh free value: nothing constrains it.
Log: 2 DESIGN CHOICE. -/
def State.draw (s : State) : Int × State := (Config.freeValue s.drawn, { s with drawn := s.drawn + 1 })

/-- Result codes of R372. -/
abbrev rcOk : Nat := 0
abbrev rcNoIndex : Nat := 0x06010001
abbrev rcNoSub : Nat := 0x06010002
abbrev rcNoRecord : Nat := 0x06010003
abbrev rcReadOnly : Nat := 0x06020001
abbrev rcSecureOnly : Nat := 0x06020002
abbrev rcLifecycle : Nat := 0x06020003
abbrev rcType : Nat := 0x06030001
abbrev rcRange : Nat := 0x06040001
abbrev rcConsistency : Nat := 0x06040002
abbrev rcBusy : Nat := 0x06050001
abbrev rcLease : Nat := 0x06050002
abbrev rcState : Nat := 0x06060001
abbrev rcFull : Nat := 0x06070001
abbrev rcDuplicate : Nat := 0x06070002
abbrev rcHardware : Nat := 0x06080001
abbrev rcMemory : Nat := 0x06080002
abbrev rcAborted : Nat := 0x06090001

/-- Requester identities of Table 1-7. -/
abbrev idHost : Nat := 0x001
/--
Log: 162 DESIGN CHOICE. -/
abbrev idCore (k : Nat) : Nat := 0x010 + k
abbrev idSecurePart : Nat := 0x018
abbrev idSecurity : Nat := 0x020
abbrev idPeer : Nat := 0x030
abbrev idPort (p : Nat) : Nat := 0x040 + p
abbrev idPipe (n : Nat) : Nat := 0x080 + n
abbrev idGrant : Nat := 0x090
abbrev idAct : Nat := 0x091
abbrev idCal : Nat := 0x092
abbrev idTime : Nat := 0x0A0
abbrev idTm : Nat := 0x0B0
abbrev idRepl : Nat := 0x0B1
abbrev idUplink (g : Nat) : Nat := 0x0C0 + g
abbrev idScrub : Nat := 0x0D0
abbrev idDma : Nat := 0x0E0
/-- The dictionary engine runs on CC1 (R352). -/
abbrev idDict : Nat := 0x011

/-- Channel key of the per-channel tables. -/
abbrev chKey (p c : Nat) : Nat := p * 2 + c

/-- Sizes of event arguments (Table 14-8). -/
abbrev a8 (v : Int) : Nat × Int := (1, v)
abbrev a16 (v : Int) : Nat × Int := (2, v)
abbrev a32 (v : Int) : Nat × Int := (4, v)
abbrev a64 (v : Int) : Nat × Int := (8, v)
abbrev aTime (v : Int) : Nat × Int := (12, v)
/-- Octets, held with byte 0 least significant; their byte order is the same on every carrier. -/
abbrev aOct (n : Nat) (v : Int) : Nat × Int := (256 + n, v)

/-- A field of a record, in the byte order of its carrier: a time is seconds, then nanoseconds. -/
def fieldBytes (big : Bool) (n : Nat) (v : Int) : List Nat :=
  if 256 ≤ n then leBytes (n - 256) (v % 2 ^ (8 * (n - 256))).toNat
  else if n = 12 then
    if big then beBytes 8 (v.toNat / secNs) ++ beBytes 4 (v.toNat % secNs)
    else leBytes 8 (v.toNat / secNs) ++ leBytes 4 (v.toNat % secNs)
  else if big then beBytes n (v % 2 ^ (8 * n)).toNat else leBytes n (v % 2 ^ (8 * n)).toNat

/-- The 64 bytes of an event record (R394). -/
def EvRec.bytes (e : EvRec) (big : Bool) : List Nat :=
  let args := e.args.flatMap (fun a => fieldBytes big a.1 a.2)
  (fieldBytes big 12 e.time ++ fieldBytes big 4 e.seq ++ fieldBytes big 2 e.code ++ fieldBytes big 2 e.source ++
    [e.inc, args.length, 0, 0] ++ args ++ List.replicate 40 0).take 64

/-- Incarnation of a source for the event record (R394). -/
def State.incOf (s : State) (id : Nat) : Nat :=
  if id = idHost then s.nat Hst.HOST_INC
  else if id = idSecurePart then s.host.incs.getD 0 0
  else if 0x010 ≤ id ∧ id ≤ 0x017 then s.host.incs.getD (id - 0x010) 0 else 0

/-- Free descriptors of a receive channel; none while it does not run (R350). -/
def State.dmaFree (s : State) (c : Nat) : Nat :=
  let d := s.host.dma.getD c {}
  if d.enable && !d.halted then (d.tail + d.size - d.head) % d.size else 0

/-- AUTH of a datagram of Volold Object Transport (Table 14-4): over header bytes 0–11 and the body. -/
def votAuth (key kind session flags seq : Nat) (body : List Nat) : Nat :=
  let head := [0x56, 0x4F, 1, kind, session, flags] ++ beBytes 2 body.length ++ beBytes 4 seq
  Config.hmacSha512 key (head ++ body) % 2 ^ 128

/-- The next hop to an address: the address itself on the subnet, else GATEWAY (Table 14-6); byte 0 of an address comes first. -/
def State.nextHop (s : State) (ip : Nat) : Nat :=
  let net (a : Nat) : Nat := ofBe (leBytes 16 a) / 2 ^ (128 - s.nat Dic.PREFIX_LEN)
  if net ip = net (s.nat Dic.IP_ADDR) then ip else s.nat Dic.GATEWAY

/-- A datagram to the client of a session, under the session's key. -/
def State.votSend (s : State) (kind k seq : Nat) (body : List Nat) : State :=
  s.emit (.datagram kind k seq (votAuth (s.dict.sess.getD k {}).key kind k 0 seq body) body
    (s.nat Sess.PEER_IP (k - 1)) (s.nat Sess.PEER_PORT (k - 1)) (s.nextHop (s.nat Sess.PEER_IP (k - 1))))

/-- A record goes to DMA channel 11, which counts it when its ring is full (R350), and to the subscribed sessions (R393). -/
def State.deliver (s : State) (e : EvRec) : State :=
  let s :=
    if !(s.host.dma.getD 11 {}).enable then s
    else if s.host.evts.length < s.dmaFree 11 then { s with host := { s.host with evts := s.host.evts ++ [e.seq] } }
    else s.put Dma.EVT_RING_DROP (Dma.EVT_RING_DROP.plus (s.get Dma.EVT_RING_DROP 11) 1) 11
  (List.range 8).foldl (fun s i =>
    if s.flag Sess.SUBSCRIBED i then
      let x := s.dict.sess.getD (i + 1) {}
      let n := (x.evtSeq + 1) % 2 ^ 32
      ({ s with dict := { s.dict with sess := s.dict.sess.ins (i + 1) { x with evtSeq := n } } }).votSend 5 (i + 1) n (e.bytes true)
    else s) s

/-- An event is raised (R394): numbered, logged over the oldest record of the same slot, and sent out. -/
def State.event (s : State) (code source : Nat) (args : List (Nat × Int)) : State :=
  let e : EvRec := { time := s.now, seq := s.nat Dic.EVT_NEXT_SEQ, code := code, source := source,
                     inc := s.incOf source, args := args }
  let s := { s with log := s.log.ins (e.seq % 65536) e }
  let s := s.put Dic.EVT_NEXT_SEQ (e.seq + 1 : Nat)
  let s := if s.log.length = 65536 then s.put Dic.EVT_OLDEST_SEQ (e.seq + 1 - 65536) else s
  (s.emit (.event e)).deliver e

/-- Records of the table at `index` that exist (R373): their marker is subindex 0.
Log: 1 DESIGN CHOICE. -/
def State.records (s : State) (index : Nat) : List Nat :=
  s.od.filterMap (fun e => if e.1.index = index && e.1.sub = 0 then some e.1.recNo else none)

/-- Record numbers of the table at `index` with a value that is not its default. -/
def State.written (s : State) (index : Nat) : List Nat :=
  (s.od.filterMap (fun e => if e.1.index = index then some e.1.recNo else none)).eraseDups

/-- The existence marker of the table at `index`.
Log: 1 DESIGN CHOICE. -/
def marker (index : Nat) : Obj := Obj.row index 0 1 0 1 0 0 0x100000000 .bool .ro (.c 0) [] .none false

/-- Record `r` of the table at `index` exists. -/
def State.hasRecord (s : State) (index r : Nat) : Bool := s.rget (marker index) r != 0

/-- Every value of record `r` of the table at `index` returns to its default, the marker included. -/
def State.dropRecord (s : State) (index r : Nat) : State :=
  { s with od := s.od.filter (fun e => !(e.1.index == index && e.1.recNo == r)) }

/-- A record of a retained table is created: its marker goes to the journal with its values (R373, R387). -/
def State.markNew (s : State) (index r : Nat) : State :=
  let s := s.rput (marker index) r 1
  { s with jpend := (marker index).addr 0 0 r :: s.jpend }

/-- A record of a retained table is gone; the journal hears of it, and of nothing else in the record. -/
def State.markGone (s : State) (index r : Nat) : State :=
  let a := (marker index).addr 0 0 r
  { s.dropRecord index r with jpend := a :: s.jpend.filter (fun b => !(b.index == index && b.recNo == r)) }

/-- Rotating priority (R12): the first requester at or after the pointer in ascending identity, else the lowest.
Log: 6 DEDUCED, 118 DEDUCED. -/
def arbPick (ptr : Nat) (reqs : List Nat) : Option Nat :=
  match (reqs.filter (fun q => decide (ptr ≤ q))).min? with
  | some q => some q
  | none => reqs.min?

/-- A grant of arbiter `a` to requester `q`: the pointer moves past the winner.
Log: 6 DEDUCED. -/
def State.granted (s : State) (a q : Nat) : State := { s with arb := s.arb.ins a (q + 1) }

/-- A grant in the clock at `t` of an arbiter that serves every request of one clock: the pointer moves past the first alone.
Log: 6 DEDUCED. -/
def State.grantedAt (s : State) (a q t : Nat) : State :=
  if s.arb.getD (a + 1000000) 0 = t + 1 then s else { s.granted a q with arb := (s.granted a q).arb.ins (a + 1000000) (t + 1) }

/-- The pointer of an arbiter that serves every request of one clock moves past the requester served first.
Log: 6 DEDUCED. -/
def State.servedClock (s : State) (a : Nat) (reqs : List Nat) : State :=
  match arbPick (s.arb.getD a 0) reqs with
  | some q => s.granted a q
  | none => s

/-- Insertion into a list sorted by a key, after equal keys. -/
def insBy {α : Type} (key : α → Nat) (a : α) : List α → List α
  | [] => [a]
  | b :: t => if key a < key b then a :: b :: t else b :: insBy key a t

/-- A list sorted by a key, equal keys in their order. -/
def sortBy {α : Type} (key : α → Nat) (l : List α) : List α := l.foldl (fun t a => insBy key a t) []

/-- Requests of one clock in serving order: ascending identity from the pointer on, then from the lowest (R12).
Log: 6 DEDUCED. -/
def arbOrderBy {α : Type} (key : α → Nat) (ptr : Nat) (reqs : List α) : List α :=
  let l := sortBy key reqs
  l.filter (fun q => decide (ptr ≤ key q)) ++ l.filter (fun q => decide (key q < ptr))

/-- The requesters of one clock in serving order, for resources that serve them all (R12). -/
def arbOrder (ptr : Nat) (reqs : List Nat) : List Nat := arbOrderBy (fun q => q) ptr reqs

/-- Device time wraps after 2^64 seconds (R9). -/
abbrev timeMod : Nat := 2 ^ 64 * 1000000000

/-- Number of the frame that holds device time `t` (R9, R287). -/
def State.frameOf (s : State) (t : Nat) : Nat := (((t : Int) - s.get Tim.FRAME_EPOCH) % timeMod).toNat / frameNs

def State.frame (s : State) : Nat := s.frameOf s.now

/-- Start of frame `k` in ns. -/
def State.frameStart (s : State) (k : Nat) : Nat := (s.nat Tim.FRAME_EPOCH + k * frameNs) % timeMod

/-- The device is in Trim (R402). -/
def State.inTrim (s : State) : Bool := s.nat Pwr.POWER_STATE == 2

/-- Whole device seconds. -/
def State.sec (s : State) : Nat := s.now / secNs

/-- A field of a layout held as a number, high:low. -/
def bits (v hi lo : Nat) : Nat := v / 2 ^ lo % 2 ^ (hi - lo + 1)

/-- `v` with the field hi:lo replaced by `x`. -/
def setBits (v hi lo x : Nat) : Nat :=
  v - bits v hi lo * 2 ^ lo + x % 2 ^ (hi - lo + 1) * 2 ^ lo

/-- Two's complement value of an `n`-bit field. -/
def sext (n v : Nat) : Int := if v < 2 ^ (n - 1) then v else (v : Int) - 2 ^ n

/-- round of R6: halves away from zero, of the quotient `a / b` for positive `b`. -/
def roundDiv (a : Int) (b : Nat) : Int :=
  if 0 ≤ a then (2 * a + b) / (2 * b) else -((2 * (-a) + b) / (2 * b))

/-- Division rounded toward zero. -/
def truncDiv (a : Int) (b : Nat) : Int := Int.tdiv a b

def clampInt (v lo hi : Int) : Int := max lo (min v hi)

/-- Quotient rounded up. -/
def ceilDiv (a b : Nat) : Nat := (a + b - 1) / b

end Sys2Proof.Machine
end

