-- ==== Sys2Proof/Machine/DdrOps.lean ====
section
/-! DEFINITION. DDR5 channels: which one an access meets, accesses, self-refresh and wakes (R29, R30, R32, R407, R439). -/

namespace Sys2Proof.Machine

/-- The channels in force of deep-memory region `j` (R407). -/
def State.regionChans (s : State) (j : Nat) : List Nat := s.mem.chans.getD j []

/-- The channel that holds an item of region `j`: the spec gives no interleave.
Log: 163 DESIGN CHOICE. -/
def State.ddrChan (s : State) (j key : Nat) : Option Nat :=
  let l := s.regionChans j
  l[Config.ddrChannel j key % l.length]?

/-- An access request wakes a sleeping channel; one that meets the channel's stop keeps it out of self-refresh (R29, R30). -/
def State.ddrRequest (s : State) (k : Nat) : State :=
  let m := s.mem
  let m : MemX := match m.asleep.find? k with
    | some t => if t = s.now then { m with asleep := m.asleep.del k }
                else { m with waking := if m.waking.contains k then m.waking else k :: m.waking }
    | none => m
  { s with mem := { m with access := m.access.ins k s.now } }

/-- An access to an item of region `j`. -/
def State.ddrAccess (s : State) (j key : Nat) : State :=
  match s.ddrChan j key with
  | some k => s.ddrRequest k
  | none => s

/-- The channel of an item is out of self-refresh. -/
def State.ddrReady (s : State) (j key : Nat) : Bool :=
  match s.ddrChan j key with
  | some k => (s.mem.asleep.find? k).isNone
  | none => true

/-- A channel that a running function accesses continually: replay, forwarding overflow or PM history (R32, R256). -/
def State.ddrHeld (s : State) (k : Nat) : Bool :=
  ((s.regionChans 1).contains k && !s.inTrim && (s.written 0xB060).any (fun x => s.rflag Chan.ENABLE x)) ||
    (s.regionChans 3).contains k || ((s.regionChans 4).contains k && !s.inTrim && s.eff PmHist.PMH_ENABLE != 0)

/-- R32, R438: a DDR5 channel leaves self-refresh; its time asleep counts toward R439. -/
def State.ddrAwake (s : State) (k : Nat) : State :=
  match s.mem.asleep.find? k with
  | some t =>
    let m := s.mem
    { s with mem := { m with asleep := m.asleep.del k, waking := m.waking.filter (fun x => x != k),
                             access := m.access.ins k s.now, slept := m.slept.upd k 0 (fun n => n + (s.now - t)) } }
  | none => s

/-- A channel enters self-refresh: it is fitted and awake, no function holds it, no scrub lap for which it was woken runs, and it has had
no access for 10 ms (R29, R32, R439). -/
def State.ddrSleep (s : State) (k : Nat) : State :=
  if (s.nat Pwr.CH_FITTED).testBit k ∧ (s.mem.asleep.find? k).isNone ∧ ¬s.ddrHeld k ∧ ¬s.mem.lap.contains k ∧
      s.mem.access.getD k 0 + 10 * msNs ≤ s.now then
    { s with mem := { s.mem with asleep := s.mem.asleep.ins k s.now } }
  else s

end Sys2Proof.Machine
end

