-- ==== Sys2Proof/Machine/Shared.lean ====
section
/-! DEFINITION. Accessors of the internal tables, the ONU table's shared operations, burst timing and the local fault bits. -/

namespace Sys2Proof.Machine

/-- One channel of a port complex. -/
def State.ch (s : State) (p c : Nat) : PortCh := s.port.getD (chKey p c) {}
def State.updCh (s : State) (p c : Nat) (f : PortCh → PortCh) : State :=
  { s with port := s.port.upd (chKey p c) {} f }

def State.onuX (s : State) (r : Nat) : OnuX := s.onu.getD r {}
def State.updOnu (s : State) (r : Nat) (f : OnuX → OnuX) : State := { s with onu := s.onu.upd r {} f }

def State.actCh (s : State) (p c : Nat) : ActCh := s.act.getD (chKey p c) {}
def State.updAct (s : State) (p c : Nat) (f : ActCh → ActCh) : State :=
  { s with act := s.act.upd (chKey p c) {} f }

def State.grantCh (s : State) (p c : Nat) : GrantCh := s.grant.getD (chKey p c) {}
def State.updGrant (s : State) (p c : Nat) (f : GrantCh → GrantCh) : State :=
  { s with grant := s.grant.upd (chKey p c) {} f }

def State.ctxX (s : State) (r : Nat) : CtxX := s.ctx.getD r {}
def State.updCtx (s : State) (r : Nat) (f : CtxX → CtxX) : State := { s with ctx := s.ctx.upd r {} f }

def State.optic (s : State) (p : Nat) : Optics := s.optics.getD p {}
def State.updOptic (s : State) (p : Nat) (f : Optics → Optics) : State := { s with optics := s.optics.upd p {} f }

def State.loop (s : State) (p c : Nat) : Loops := s.loops.getD (chKey p c) {}
def State.updLoop (s : State) (p c : Nat) (f : Loops → Loops) : State :=
  { s with loops := s.loops.upd (chKey p c) {} f }

/-- The framer's state of an ONU record and of a channel. -/
def State.onuF (s : State) (r : Nat) : OnuF := s.framer.getD r {}
def State.updOnuF (s : State) (r : Nat) (f : OnuF → OnuF) : State := { s with framer := s.framer.upd r {} f }

def State.frCh (s : State) (p c : Nat) : FramerCh := s.fr.getD (chKey p c) {}
def State.updFr (s : State) (p c : Nat) (f : FramerCh → FramerCh) : State :=
  { s with fr := s.fr.upd (chKey p c) {} f }

/-- Channel states of Table 2-2. -/
abbrev chOff : Nat := 0
abbrev chWarming : Nat := 1
abbrev chDark : Nat := 2
abbrev chLit : Nat := 3
abbrev chFault : Nat := 4

def State.chState (s : State) (p c : Nat) : Nat := s.nat Pon.STATE p c

/-- ONU states of Table 3-1. -/
abbrev onuEmpty : Nat := 0
abbrev onuPending : Nat := 1
abbrev onuFast : Nat := 2
abbrev onuAssigned : Nat := 3
abbrev onuRanging : Nat := 4
abbrev onuOperating : Nat := 5
abbrev onuLost : Nat := 6
abbrev onuDisabled : Nat := 7

/-- A value of a retained object that the device writes itself is journalled like a dictionary write (R45, R387). -/
def State.putK (s : State) (o : Obj) (v : Int) (i : Nat := 0) (j : Nat := 0) : State :=
  let s := s.put o v i j
  { s with jpend := o.addr i j 0 :: s.jpend } |>.bump Dic.JOURNAL_PENDING

def State.rputK (s : State) (o : Obj) (r : Nat) (v : Int) : State :=
  let s := s.rput o r v
  { s with jpend := o.addr 0 0 r :: s.jpend } |>.bump Dic.JOURNAL_PENDING

/-- The ONU records of a channel, ascending. -/
def State.onusOf (s : State) (p c : Nat) : List Nat :=
  (s.records 0x4200).filter (fun r => s.rnat Onu.PORT r == p && s.rnat Onu.CHANNEL r == c)

/-- The record of the channel with an ONU-ID. -/
def State.onuBy (s : State) (p c id : Nat) : Option Nat :=
  (s.onusOf p c).find? (fun r => s.rnat Onu.ONU_ID r == id)

/-- A message of the activation engine for a channel's downstream frames (R160).
Log: 9 DEDUCED. -/
def State.actSend (s : State) (p c onu : Nat) (kind : PloamKind) (arg : Int) : State :=
  s.updAct p c (fun a => { a with msgs := a.msgs ++ [{ onu := onu, kind := kind, arg := arg, at' := s.now }] })

/-- A post of the activation engine for the grant engine.
Log: 9 DEDUCED. -/
def State.actPost (s : State) (p c : Nat) (x : ActPost) : State :=
  s.updAct p c (fun a => { a with posts := a.posts ++ [x] })

/-- The lowest rate of a channel: 12.4416 Gb/s on c0, 9.95328 Gb/s on c1 (R58, R83). -/
def discRate (c : Nat) : Nat := if c = 0 then 0 else 3

/-- An OMCI message or returned request waits for the host, up to 1,024 per port (R350). -/
def State.toOmciRx (s : State) (m : OmciMsg) : State :=
  let p := s.rnat Onu.PORT m.rcd
  let l := s.omciRx.getD p []
  if 1024 ≤ l.length then s.bump Dma.OMCI_RX_DROP 10 else { s with omciRx := s.omciRx.ins p (l ++ [m]) }

/-- OMCI_PENDING follows the requests of a record (Table 6-10). -/
def State.omciCount (s : State) (r : Nat) : State :=
  let x := s.onuF r
  s.rput OnuPm.OMCI_PENDING r ((x.omci0.length + x.omci1.length : Nat) : Int)

/-- A record leaves OPERATING: its OMCI requests are returned (R173). -/
def State.omciReturn (s : State) (r : Nat) : State :=
  let x := s.onuF r
  let back (prio : Nat) (s : State) (q : OmciReq) : State :=
    s.toOmciRx { rcd := r, prio := prio, body := q.body, code := rcAborted, at' := s.now }
  let s := x.omci1.foldl (back 1) (x.omci0.foldl (back 0) s)
  (s.updOnuF r (fun x => { x with omci0 := [], omci1 := [] })).omciCount r

/-- The unicast key slots of a record are invalidated (R166). -/
def State.keysGone (s : State) (r : Nat) : State :=
  let s := s.updOnuF r (fun x => { x with key1 := none, key2 := none, switch := none })
  (s.rput OnuPm.KEY_VALID r 0).rput OnuPm.KEY_ACTIVE r 0

/-- The ONU has an XGEM record with ENCRYPT 1 (R167). -/
def State.wantsKey (s : State) (r : Nat) : Bool :=
  (s.records 0xA400).any (fun x => s.rnat Xg.ENCRYPT x == 1 && s.rget Xg.PORT x == s.rget Onu.PORT r &&
    s.rget Xg.CHANNEL x == s.rget Onu.CHANNEL r && s.rget Xg.ONU_ID x == s.rget Onu.ONU_ID r)

/-- A record enters OPERATING: its rekey period starts, and a missing key is asked for at once (R167). -/
def State.keyEntry (s : State) (r : Nat) : State :=
  let want := s.wantsKey r && s.rnat OnuPm.KEY_VALID r == 0
  s.updOnuF r (fun x => { x with controlAt := s.now, missing := want })

/-- A record's state changes (R68): LAST_CHANGE, the counts of OPERATING records, and what leaving or entering OPERATING ends. -/
def State.setOnu (s : State) (r st : Nat) : State :=
  let old := s.rnat Onu.STATE r
  let p := s.rnat Onu.PORT r
  let s := s.rput Onu.STATE r st
  let s := if old = st then s else s.rput Onu.LAST_CHANGE r s.now
  let s := if st = onuEmpty ∨ st = onuDisabled then s.keysGone r else s
  if old ≠ onuOperating ∧ st = onuOperating then
    let s := s.put ActSt.ONUS_OPERATING (s.get ActSt.ONUS_OPERATING p + 1) p
    (s.put ActDev.ONUS_OPERATING (s.get ActDev.ONUS_OPERATING + 1)).keyEntry r
  else if old = onuOperating ∧ st ≠ onuOperating then
    let s := s.put ActSt.ONUS_OPERATING (s.get ActSt.ONUS_OPERATING p - 1) p
    let s := s.put ActDev.ONUS_OPERATING (s.get ActDev.ONUS_OPERATING - 1)
    let s := s.rputK Onu.LAST_RATE r (s.rget Onu.RATE r)
    let s := s.rput Onu.TRIAL r 0
    (s.updOnu r (fun x => { x with darkRun := 0, noLockRun := 0 })).omciReturn r
  else s

/-- A record goes to EMPTY with a deactivation cause (Table 3-3); requests for it are withdrawn. -/
def State.onuToEmpty (s : State) (r cause : Nat) : State :=
  let p := s.rnat Onu.PORT r
  let c := s.rnat Onu.CHANNEL r
  let s := s.setOnu r onuEmpty
  let s := s.rput Onu.DEACT_CAUSE r cause
  let s := s.updOnu r (fun x => { x with rangePhase := 0, awaiting := [], observed := false, holdUntil := none })
  s.actPost p c (.withdraw r)

/-- The same with Deactivate_ONU-ID. -/
def State.deactivate (s : State) (r cause : Nat) : State :=
  let s := s.actSend (s.rnat Onu.PORT r) (s.rnat Onu.CHANNEL r) (s.rnat Onu.ONU_ID r) .deactivate 0
  s.onuToEmpty r cause

/-- Nominal duration of the preamble in ns (Table 2-5). -/
def preambleNs (rate : Nat) (cold : Bool) : Nat :=
  match rate with
  | 2 => if cold then 800 else 100
  | 1 => if cold then 960 else 120
  | _ => if cold then 1280 else 160

/-- Preamble length in bits (Table 2-5). -/
def preambleBits (rate : Nat) (cold : Bool) : Nat :=
  match rate with
  | 2 => if cold then 39814 else 4977
  | 1 => if cold then 23888 else 2986
  | 0 => if cold then 15926 else 1991
  | _ => if cold then 12741 else 1593

/-- A bit time is 156,250 / (243 × 32) ps at 49.7664 Gb/s; this is its multiple at another rate. -/
def bitMul (rate : Nat) : Nat :=
  match rate with
  | 2 => 1
  | 1 => 2
  | 0 => 4
  | _ => 5

/-- `n` bit times at a rate, in ps rounded down. -/
def bitsPs (rate n : Nat) : Nat := n * bitMul rate * 156250 / 7776

/-- Expected delimiter start D in ps (R47, R48, Table 2-8): burst start plus the preamble in whole bits, rounded to a picosecond.
Log: 176 DEDUCED. -/
def Notice.delim (n : Notice) : Nat :=
  n.start + (2 * preambleBits n.rate n.cold * bitMul n.rate * 156250 + 7776) / 15552

/-- The feeder offset of a channel in ps (R138). -/
def State.feeder (s : State) (p c : Nat) : Int :=
  if c = 0 then s.get Cal.FEEDER_OFS_C0_PS p else s.get Cal.FEEDER_OFS_C1_PS p

def State.feederState (s : State) (p c : Nat) : Nat :=
  if c = 0 then s.nat Cal.FEEDER_STATE_C0 p else s.nat Cal.FEEDER_STATE_C1 p

/-- RT_CORR_PS of a channel (R141): it follows δ and FEEDER_ASYM_PS. -/
def State.rtCorr (s : State) (p c : Nat) : Int := 2 * s.feeder p c + s.get Cal.FEEDER_ASYM_PS p

/-- The port is one that the twin pair serves (R314). -/
def State.twinned (s : State) (p : Nat) : Bool :=
  s.flag Twin.TWIN_ENABLE && (s.nat Twin.TWIN_PORTS).testBit p

/-- The chip is the standby of a twin pair for the port (R309). -/
def State.standby (s : State) (p : Nat) : Bool := s.twinned p && s.nat Twin.ROLE == 2

/-- Span of a time in ps: span k is [B_k + TEQD, B_k + TEQD + 125 µs) (R95). -/
def State.spanOf (s : State) (p startPs : Nat) : Nat :=
  s.frameOf (startPs / 1000 - s.nat ActCfg.TEQD_US p * 1000)

/-- Start of span k in ps of device time (R95). -/
def State.spanStart (s : State) (p k : Nat) : Nat := s.frameStart k * 1000 + s.nat ActCfg.TEQD_US p * 1000000

/-- The feeder offset that holds for a burst (R138, R335): after a take-over at frame n, δ for spans of the old active's maps,
RT_CORR for span n, then 0. -/
def State.feederAt (s : State) (p c startPs : Nat) : Int :=
  match s.twin.takeN with
  | some n =>
    if s.twinned p && !s.standby p then
      let k := s.spanOf p startPs
      if k < n then s.twin.oldDelta.getD (chKey p c) 0 else if k = n then s.twin.oldRt.getD (chKey p c) 0 else 0
    else s.feeder p c
  | none => s.feeder p c

/-- `t` in ps lies in the guard window [D + δ − W, D + δ + W) (R48, R138). -/
def State.inGuard (s : State) (p c : Nat) (n : Notice) (t : Nat) : Bool :=
  let d : Int := n.delim + s.feederAt p c n.start
  let w : Int := s.nat Pon.WINDOW_NS p c * 1000
  decide (d - w ≤ t) && decide ((t : Int) < d + w)

/-- The activation engine acts on the channel: LIT, and not as a twin standby (R69, R86). -/
def State.actLive (s : State) (p c : Nat) : Bool := s.chState p c == chLit && !s.standby p

/-- Indication 4 of Table 12-7: a standby's time offset is at or above TIME_MAX_NS, or its servo is not LOCKED to port 32. -/
def State.timeFault (s : State) : Bool :=
  s.nat Twin.ROLE == 2 && (decide (s.nat Twin.TIME_MAX_NS * 1000 ≤ (s.get Tim.OFFSET_PS).natAbs) ||
    s.nat Tim.SERVO_STATE != 2 || s.time.follow != some 32)

/-- OSB_CLK runs (R149): from the start of start-up phase 6, which begins with phase 5, and throughout Full and Trim.
Log: 46 DEDUCED. -/
def State.osbRuns (s : State) : Bool :=
  let st := s.nat Pwr.POWER_STATE
  s.power.st != 3 && (st == 1 || st == 2 || (st == 0 && decide (5 ≤ s.nat Sta.START_PHASE)))

def State.setTwin (s : State) (f : TwinX → TwinX) : State := { s with twin := f s.twin }

/-- The bytes of a control frame (R311, Table 12-2): addresses 0, EtherType, header, payload, and the CRC-32 of header and payload; every
field most significant byte first (R8). -/
def ctrlFrame (kind sub flags inc seq k : Nat) (body : List Nat) : List Nat :=
  let covered := [16 + kind, flags, inc % 256, sub] ++ beBytes 4 seq ++ beBytes 8 k ++ body
  List.replicate 12 0 ++ [0x88, 0xB5] ++ covered ++ beBytes 4 (crc32 covered)

/-- A control frame leaves with the payload bytes `body` (R311): its header is counted and stamped.
Log: 184 DEDUCED. -/
def State.ctrlBytes (s : State) (kind sub : Nat) (payload : List Int) (body : List Nat) : State :=
  let role := s.nat Twin.ROLE
  let flags : Nat := (if role = 1 then 1 else 0) + (if role = 2 then 2 else 0)
  let s := s.emit (.twin kind ([(sub : Int), flags, s.twin.inc, s.twin.seq, s.frame] ++ payload)
    (ctrlFrame kind sub flags s.twin.inc s.twin.seq s.frame body))
  s.setTwin (fun t => { t with seq := (t.seq + 1) % 2 ^ 32 })

/-- A control frame whose payload layout the spec does not give. -/
def State.ctrl (s : State) (kind sub : Nat) (payload : List Int) : State :=
  s.ctrlBytes kind sub payload (Config.twinPayload kind sub payload)

/-- A received control frame is intact and of this type and subtype (R311). -/
def CtrlIn.good (f : CtrlIn) (kind sub : Nat) (body : List Nat) : Bool :=
  f.hd.length == 16 && f.hd.getD 0 0 == 16 + kind && f.hd.getD 3 0 == sub && crc32 (f.hd ++ body) == f.crc

/-- A received control frame: one with a wrong CRC-32, VERSION, TYPE or SUBTYPE is dropped and counted (R311). -/
def ctrlRx (f : CtrlIn) (kind sub : Nat) (body : List Nat) (s : State) (g : State → State) : Res :=
  live s (fun s => if !s.flag Twin.TWIN_ENABLE then s else if f.good kind sub body then g s else s.bump TwinCnt.CTRL_BAD)

/-- A switch-over is counted and raised (R332). -/
def State.switched (s : State) (cause role gapUs : Nat) : State :=
  let s := ((s.bump TwinCnt.SWITCHES).put Twin.LAST_SWITCH_CAUSE cause).put Twin.LAST_SWITCH_AT s.now
  (s.put Twin.LAST_GAP_US gapUs).event 0x8C04 idPeer [a8 cause, a8 role]

/-- The first frame whose boundary is at or after `t` ns. -/
def State.frameAfter (s : State) (t : Nat) : Nat := if s.frameStart (s.frameOf t) = t then s.frameOf t else s.frameOf t + 1

/-- The active starts a hand-over (R333): YIELD n.
Log: 106 DEDUCED. -/
def State.handOverTo (s : State) (cause : Nat) : State :=
  if s.twin.yieldN.isSome then s
  else
    let n := s.frameAfter (s.now + 130000)
    let s := s.ctrl 4 2 [(n : Int), cause]
    (s.setTwin (fun t => { t with yieldN := some n, dimmed := false })).switched cause 2 0

/-- A local fault on the active, with an eligible standby that has none, starts a hand-over (R332).
Log: 105 DEDUCED. -/
def State.faultSwitch (s : State) : State :=
  if s.nat Twin.STATE = 5 ∧ s.nat Twin.LOCAL_FAULTS ≠ 0 ∧ s.twin.peerState = 4 ∧ s.nat Twin.PEER_FAULTS = 0 then s.handOverTo 1
  else s

/-- LOCAL_FAULTS follows the conditions of Table 12-7; one on an active may start a switch-over (R332). -/
def State.refreshFaults (s : State) : State :=
  let f := (List.range 64).any (fun p => s.twinned p && (s.chState p 0 == chFault || s.chState p 1 == chFault))
  let recent (t : Option Nat) : Bool := match t with | some t => decide (s.now < t + secNs) | none => false
  let b (x : Bool) (k : Nat) : Nat := if x then 2 ^ k else 0
  (s.put Twin.LOCAL_FAULTS
    ((b f 0 + b (recent s.mapLateAt) 1 + b (s.flag Esc.ESC_ACTIVE) 2 + b (recent s.memUeAt) 3
      + b s.timeFault 4 + b (s.flag Twin.HOST_FAULT) 5 : Nat) : Int)).faultSwitch

/-- Adds to the counts of the second that holds a burst start (R178). -/
def State.pmAdd (s : State) (r startPs : Nat) (f : SecTally → SecTally) : State :=
  s.updOnuF r (fun x => { x with secs := x.secs.upd (startPs / 1000 / secNs) {} f })

/-- A non-whole burst makes its ONU's streams unsure from its span onward (R326). -/
def State.nonWholeBurst (s : State) (p c onu startPs : Nat) : State :=
  if s.twinned p then
    let k := s.spanOf p startPs
    let xs := (s.records 0xA400).filter (fun x => s.rnat Xg.PORT x == p && s.rnat Xg.CHANNEL x == c &&
      s.rnat Xg.ONU_ID x == onu && s.rflag Gen.RTAG_GEN x)
    let st := xs.foldl (fun t x => t.upd x {} (fun m => { m with mark := some (max k (m.mark.getD 0)) })) s.twin.streams
    { s with nonWhole := ((chKey p c, onu, k) :: s.nonWhole).take 4096, twin := { s.twin with streams := st } }
  else s

/-- A c1 channel held DARK as the cold standby of a GZ3216 (R339).
Log: 112 DESIGN CHOICE. -/
def State.coldStandby (s : State) (p c : Nat) : Bool :=
  c == 1 && s.nat Twin.STATE == 9 && (List.range 32).any (fun i => s.nat Leg.LEGACY_PORT_MAP 0 i == p)

/-- CH_CMD of the channel is the twin unit's own: on a twinned port in any state but OFF (R319), and on a cold standby (R339).
Log: 112 DESIGN CHOICE. -/
def State.heldByTwin (s : State) (p c : Nat) : Bool := s.twinned p && s.nat Twin.STATE != 0 || s.coldStandby p c

/-- The chip is paired with its peer present: SYNCING, STANDBY, ACTIVE or SUSPECT (Table 12-5). -/
def State.paired (s : State) : Bool := [3, 4, 5, 7].contains (s.nat Twin.STATE)

/-- An entry of engine state joins the open commit group of a paired active (R320).
Log: 102 DEDUCED. -/
def State.mirrorPost (s : State) (p : Nat) (e : MirEntry) : State :=
  if s.twinned p && s.nat Twin.STATE == 5 then s.setTwin (fun t => { t with posts := t.posts ++ [e] }) else s

/-- The bytes of a reply (R375), in the order of its carrier. -/
def Reply.bytes (r : Reply) (big : Bool) : List Nat :=
  let f (n v : Nat) : List Nat := if big then beBytes n v else leBytes n v
  f 4 r.code ++ f 2 r.total ++ f 2 r.offset ++ f 4 r.rcd ++ f 2 r.data.length ++ f 2 r.token ++ r.data

/-- A reply goes to its session (R375, R392): an MGMT session's leaves as a datagram and is kept, a message without
WANT_REPLY is answered by DICT_WRITE_FAIL alone (R395). -/
def State.sendReply (s : State) (r : Reply) : State :=
  if 1 ≤ r.session ∧ r.session ≤ 8 then
    let x := s.dict.sess.getD r.session {}
    if x.isOpen then
      let b := r.bytes true
      let kept := if r.seq = s.nat Sess.LAST_SEQ (r.session - 1) then b else x.kept
      ({ s with dict := { s.dict with sess := s.dict.sess.ins r.session { x with kept := kept } } }).votSend 4 r.session r.seq b
    else s
  else if r.want then s.emit (.reply r)
  else if r.write && r.code != 0 then
    s.event 0x1006 idDict [a16 r.index, a8 r.sub, a32 r.rcd, a32 r.code]
  else s

end Sys2Proof.Machine
end

