-- ==== Sys2Proof/Machine/ActOps.lean ====
section
/-! DEFINITION. Operations that the activation and calibration engines share: coefficient sets, rates, trials, EqD, ranging and LIT entry. -/

namespace Sys2Proof.Machine

/-- The stored set of a rate and its refinement time (Table 5-11). -/
def coefSet (rate : Nat) : Obj :=
  match rate with
  | 0 => Coef.SET_12G
  | 1 => Coef.SET_25G
  | 2 => Coef.SET_50G
  | _ => Coef.SET_10G

def coefTime (rate : Nat) : Obj :=
  match rate with
  | 0 => Coef.REFINED_12G
  | 1 => Coef.REFINED_25G
  | 2 => Coef.REFINED_50G
  | _ => Coef.REFINED_10G

/-- The default set of a rate (R53, R65). -/
def defSet (rate : Nat) : Obj :=
  match rate with
  | 0 => Pon.DEF_12G
  | 1 => Pon.DEF_25G
  | 2 => Pon.DEF_50G
  | _ => Pon.DEF_10G

def State.coefValid (s : State) (r rate : Nat) : Bool := (s.rnat Coef.VALID r).testBit rate

/-- Age of a set in ns (R127); REFINED_AT may lie before time 0 (R132), so the age is an integer.
Log: 15 DEDUCED. -/
def State.coefAge (s : State) (r rate : Nat) : Int :=
  let d : Int := (s.now : Int) - s.rget (coefTime rate) r
  if d < -((timeMod / 2 : Nat) : Int) then d + timeMod else d

/-- Warm at the rate: valid and of age in [0, 2 s) (R22, Table 5-1).
Log: 15 DEDUCED. -/
def State.warm (s : State) (r rate : Nat) : Bool :=
  s.coefValid r rate && decide (0 ≤ s.coefAge r rate) && decide (s.coefAge r rate < 2 * secNs)

/-- A burst would start from the stored set: valid and younger than STALE_S (Table 5-1).
Log: 15 DEDUCED. -/
def State.notStale (s : State) (r rate : Nat) : Bool :=
  s.coefValid r rate && decide (s.coefAge r rate < s.nat Cal.STALE_S (s.rnat Onu.PORT r) * secNs)

def State.setValid (s : State) (r rate : Nat) (b : Bool) : State :=
  let v := s.rnat Coef.VALID r
  s.rput Coef.VALID r (if b then (if v.testBit rate then v else v + 2 ^ rate)
    else (if v.testBit rate then v - 2 ^ rate else v) : Nat)

/-- LOL_RUN shows the count at the ONU's current RATE (Table 5-11). -/
def State.showLol (s : State) (r : Nat) : State :=
  s.rput Coef.LOL_RUN r (((s.onuX r).lolRuns.getD (s.rnat Onu.RATE r) 0 : Nat) : Int)

/-- A grant of the die's store arbiter to the calibration engine (R24). -/
def State.storeGrant (s : State) (p : Nat) : State := s.granted (p / 32) idCal

/-- CDR_PHASE of every valid set moves when the EqD sent falls by `dec` ps (R131). -/
def State.shiftPhases (s : State) (r : Nat) (dec : Int) : State :=
  let p := s.rnat Onu.PORT r
  if dec = 0 then s
  else
    [0, 1, 2, 3].foldl (fun s rate =>
      if s.coefValid r rate then
        let set := s.rnat (coefSet rate) r
        let ph : Int := bits set 16 10
        let sh := roundDiv (dec * 128 * 7776) (156250 * bitMul rate)
        let s := (s.rput (coefSet rate) r (setBits set 16 10 ((ph - sh) % 128).toNat : Nat)).storeGrant p
        s.bump CalCnt.CDR_ADJUSTS p
      else s) s

/-- The sets of a record are cleared with what describes their ONU (R132); retained copies go at once (R133). -/
def State.clearCoef (s : State) (r : Nat) : State :=
  let s := s.dropRecord 0xA100 r
  let gone : List Addr := [0, 1, 2, 3].flatMap (fun k => [(coefSet k).addr 0 0 r, (coefTime k).addr 0 0 r])
  let s := s.updOnu r (fun x => { x with rxpRef := [], lolRuns := [], snapAt := [], rxpLow := false, rxpHigh := false })
  let out (m : Store) : Store := gone.foldl (fun m a => m.del a) m
  { s with storeQ := s.storeQ.filter (fun w => w.rcd != r),
           journal := { s.journal with cal := out s.journal.cal, calFlash := out s.journal.calFlash } }

/-- The fields of a coefficient set (Table 2-6): high bit, low bit, signed. CDR_PHASE and RATE are apart. -/
def setFields : List (Nat × Nat × Bool) :=
  [(3, 0, false), (9, 4, false)] ++
  (List.range 11).map (fun k => (31 + 8 * k, 24 + 8 * k, true)) ++
  (List.range 5).map (fun j => (119 + 8 * j, 112 + 8 * j, true)) ++
  [(159, 152, true)]

/-- The value of a field. -/
def fieldVal (v hi lo : Nat) (signed : Bool) : Int :=
  if signed then sext (hi - lo + 1) (bits v hi lo) else bits v hi lo

/-- The merge of a final set into a stored one (R129). -/
def mergeSet (old final shift : Nat) : Nat :=
  let v := setFields.foldl (fun v f =>
    let a := fieldVal old f.1 f.2.1 f.2.2
    let b := fieldVal final f.1 f.2.1 f.2.2
    let x := a + truncDiv (b - a) (2 ^ shift : Nat)
    setBits v f.1 f.2.1 (x % (2 ^ (f.1 - f.2.1 + 1) : Nat)).toNat) old
  let a : Int := bits old 16 10
  let d : Int := ((bits final 16 10 : Int) - a + 64) % 128 - 64
  setBits v 16 10 ((a + truncDiv d (2 ^ shift : Nat)) % 128).toNat

/-- The procedure refine of R129; `rxp` is none when not measured. -/
def State.refine (s : State) (p r rate final : Nat) (rxp : Option Int) : State :=
  let ref := (s.onuX r).rxpRef.find? rate
  let jump := match rxp, ref with
    | some a, some b => decide (s.nat Cal.PWR_JUMP_CDB p ≤ (a - b).natAbs)
    | _, _ => false
  let setRef (s : State) : State := s.updOnu r (fun x => { x with
    rxpRef := match rxp with | some v => x.rxpRef.ins rate v | none => x.rxpRef.del rate })
  let s :=
    if !s.coefValid r rate || jump then setRef (s.rput (coefSet rate) r final)
    else
      let s := s.rput (coefSet rate) r (mergeSet (s.rnat (coefSet rate) r) final (s.nat Cal.MERGE_SHIFT p))
      if ref.isNone then setRef s else s
  ((s.setValid r rate true).rput (coefTime rate) r s.now).storeGrant p

/-- A burst's preload that has its slot and waits for the store (R24, R55). -/
def Burst.wants (b : Burst) : Bool := b.slot && b.loaded.isNone && !b.ended

/-- The requesters of a die's store arbiter that have a preload outstanding (R24). -/
def State.preloadPorts (s : State) (die : Nat) : List Nat :=
  (List.range 32).filterMap (fun k =>
    let p := die * 32 + k
    if [0, 1].any (fun c => (s.ch p c).bursts.any Burst.wants) then some (idPort p) else none)

/-- The refinement writes that wait for a die's store arbiter, oldest first. -/
def State.storeWrites (s : State) (die : Nat) : List StoreWrite := s.storeQ.filter (fun w => w.port / 32 == die)

/-- A grant of a die's store arbiter to the oldest waiting refinement (R24, R129).
Log: 185 DEDUCED. -/
def State.storeWrite (s : State) (die : Nat) : State :=
  match s.storeWrites die with
  | [] => s
  | w :: _ =>
    let s : State := { s with storeQ := s.storeQ.erase w }
    (s.refine w.port w.rcd w.rate w.final w.rxp).bump CalCnt.REFINES w.port

/-- With no preload outstanding on the die, the waiting refinements are granted, one after another (R24).
Log: 185 DEDUCED. -/
def State.storeDrain (s : State) (die : Nat) : State :=
  if (s.preloadPorts die).isEmpty then (s.storeWrites die).foldl (fun s _ => s.storeWrite die) s else s

/-- EqD rounded to the channel's unit, halves up (R78). -/
def eqdRound (c : Nat) (eqd : Int) : Int :=
  let u : Nat := max 1 (Config.eqdUnitPs c)
  (2 * eqd + u) / (2 * u : Nat) * u

/-- The EqD last sent to an ONU (R131): for a retained record, its EQD_PS rounded; none without one.
Log: 30 DEDUCED. -/
def State.prevEqd (s : State) (r : Nat) : Option Int :=
  match (s.onuX r).eqdSent with
  | some e => some e
  | none => if s.rget Onu.EQD_PS r = 0xFFFFFFFF then none
            else some (eqdRound (s.rnat Onu.CHANNEL r) (s.rget Onu.EQD_PS r))

/-- A new EqD: recorded unrounded, sent in Ranging_Time, posted to the grant engine, and the phases shifted (R78, R131). -/
def State.sendEqd (s : State) (r : Nat) (eqd : Int) : State :=
  let p := s.rnat Onu.PORT r
  let c := s.rnat Onu.CHANNEL r
  let prev := s.prevEqd r
  let v := eqdRound c eqd
  let s := s.rputK Onu.EQD_PS r eqd
  let s := s.actSend p c (s.rnat Onu.ONU_ID r) .rangingTime v
  let s := s.actPost p c (.eqd r eqd)
  let s := s.updOnu r (fun x => { x with eqdSent := some v })
  match prev with
  | some e => s.shiftPhases r (e - v)
  | none => s

/-- TEQD of a port in ps (R75). -/
def State.teqd (s : State) (p : Nat) : Int := s.nat ActCfg.TEQD_US p * 1000000

/-- The ONU's current rate changes; the grant engine hears of it (R79), the run of R81 restarts, and an OPERATING ONU's LAST_RATE
follows (R83). -/
def State.setRate (s : State) (r rate : Nat) : State :=
  let s := s.rput Onu.RATE r rate
  let s := if s.rnat Onu.STATE r = onuOperating then s.rputK Onu.LAST_RATE r rate else s
  let s := (s.updOnu r (fun x => { x with noLockRun := 0, rateSince := s.now })).showLol r
  s.actPost (s.rnat Onu.PORT r) (s.rnat Onu.CHANNEL r) (.rate r rate)

/-- The holdoff base in force (R80). -/
def State.holdBaseOf (s : State) (r : Nat) : Nat :=
  if (s.onuX r).holdBase = 0 then s.nat ActCfg.STEP_HOLDOFF_S (s.rnat Onu.PORT r) else (s.onuX r).holdBase

/-- HOLDOFF_S takes the base and the base doubles up to 960 s (R80). -/
def State.holdoff (s : State) (r : Nat) : State :=
  let b := s.holdBaseOf r
  let s := s.rput Onu.HOLDOFF_S r b
  s.updOnu r (fun x => { x with holdBase := min 960 (2 * b) })

/-- A trial starts at a rate (R79): its bursts are those of the maps that close from now on. -/
def State.startTrial (s : State) (r rate : Nat) : State :=
  let s := s.updOnu r (fun x => { x with trialFrom := s.rnat Onu.RATE r, trialSeen := 0, trialBad := 0,
                                         trialSince := s.spanStart (s.rnat Onu.PORT r) s.nextMap })
  let s := s.rput Onu.TRIAL r 1
  s.setRate r rate

/-- A trial fails: back to the rate before it, with a holdoff (R80). -/
def State.failTrial (s : State) (r : Nat) : State :=
  let from_ := (s.onuX r).trialFrom
  let s := s.rput Onu.TRIAL r 0
  (s.setRate r from_).holdoff r

/-- A trial passes (R80). -/
def State.passTrial (s : State) (r : Nat) : State :=
  let p := s.rnat Onu.PORT r
  let s := s.rput Onu.TRIAL r 0
  let s := s.bump ActSt.STEP_UPS p
  s.updOnu r (fun x => { x with holdBase := s.nat ActCfg.STEP_HOLDOFF_S p })

/-- A burst granted at `rate` has its outcome, or is found bad later: it counts in a running trial of that rate (R80).
Log: 26 DEDUCED. -/
def State.trialCount (s : State) (r rate startPs seen bad : Nat) : State :=
  if s.rget Onu.TRIAL r = 1 ∧ rate = s.rnat Onu.RATE r ∧ (s.onuX r).trialSince ≤ startPs then
    let p := s.rnat Onu.PORT r
    let s := s.updOnu r (fun x => { x with trialSeen := x.trialSeen + seen, trialBad := x.trialBad + bad })
    let x := s.onuX r
    if s.nat ActCfg.TRIAL_MAX_BAD p < x.trialBad then s.failTrial r
    else if s.nat ActCfg.TRIAL_BURSTS p ≤ x.trialSeen then s.passTrial r
    else s
  else s

/-- Bursts of a second for the step rules (R79, R81), by burst start.
Log: 26 DEDUCED. -/
def State.stepTally (s : State) (r startPs granted bad : Nat) : State :=
  let k := startPs / 1000 / secNs
  s.updOnu r (fun x => { x with secGranted := x.secGranted.upd k 0 (fun n => n + granted),
                                secBad := x.secBad.upd k 0 (fun n => n + bad) })

/-- A ranging window is requested for a record (R74, R76); `first` is the first map that may hold it. -/
def State.requestRanging (s : State) (r lenUs first : Nat) : State :=
  let p := s.rnat Onu.PORT r
  let c := s.rnat Onu.CHANNEL r
  let s := s.updOnu r (fun x => { x with rangePhase := 1 })
  s.actPost p c (.request { kind := .ranging, rcd := r, onu := s.rnat Onu.ONU_ID r, rate := discRate c,
                            notBefore := first, lenUs := lenUs })

/-- Length of a record's ranging window in µs (R76). -/
def State.rangingLen (s : State) (r : Nat) : Nat :=
  if (s.onuX r).acquired then s.nat ActCfg.RAND_DELAY_US (s.rnat Onu.PORT r) + 4 else 4

/-- Re-ranging from FAST, OPERATING or LOST (Table 3-2, R76); probes that are still queued are withdrawn.
Log: 180 DEDUCED. -/
def State.rerange (s : State) (r : Nat) : State :=
  let s := s.actPost (s.rnat Onu.PORT r) (s.rnat Onu.CHANNEL r) (.withdraw r)
  let s := s.setOnu r onuRanging
  let s := s.updOnu r (fun x => { x with attempts := 1, awaiting := [], acquired := false })
  s.requestRanging r (s.rangingLen r) 0

/-- A ranging attempt fails (R77): a new window, or deactivation after RANGE_TRIES attempts. -/
def State.failAttempt (s : State) (r : Nat) : State :=
  let p := s.rnat Onu.PORT r
  let s := s.updOnu r (fun x => { x with awaiting := [] })
  if s.nat ActCfg.RANGE_TRIES p ≤ (s.onuX r).attempts then
    (s.bump ActSt.RANGE_FAILS p).deactivate r 1
  else
    let s := s.updOnu r (fun x => { x with attempts := x.attempts + 1 })
    s.requestRanging r (s.rangingLen r) 0

/-- A record goes to ASSIGNED with its ONU-ID (Table 3-4): what was outstanding is withdrawn, attempts start again, and
Assign_ONU-ID waits for the next downstream frame (R74). `at'` is the acquisition's delimiter, counted from its window's zero point. -/
def State.assign (s : State) (r : Nat) (at' : Int) : State :=
  let p := s.rnat Onu.PORT r
  let c := s.rnat Onu.CHANNEL r
  let s := s.actPost p c (.withdraw r)
  let s := s.setOnu r onuAssigned
  let s := s.updOnu r (fun x => { x with
    attempts := 1, awaiting := [], acquired := true, rangePhase := 0, acqAt := at', fastTries := 0, probeMap := none })
  s.actSend p c (s.rnat Onu.ONU_ID r) .assignOnuId (s.rget Onu.SERIAL r)

/-- What follows when the framer sends a message of the activation engine in frame `k`: after Assign_ONU-ID the ranging
window is requested, no earlier than the second upstream frame (R74); after Ranging_Time the verification burst, in the
first map that closes at least two frames later (R77). -/
def State.actSent (s : State) (p c k : Nat) (m : Ploam) : State :=
  match s.onuBy p c m.onu with
  | none => s
  | some r =>
    match m.kind with
    | .assignOnuId =>
      if s.rnat Onu.STATE r = onuAssigned then
        (s.updOnu r (fun x => { x with fresh := true })).requestRanging r (s.rangingLen r) (k + 2)
      else s
    | .rangingTime =>
      let s := s.updOnu r (fun x => { x with fresh := false })
      if s.rnat Onu.STATE r = onuRanging ∧ (s.onuX r).rangePhase = 3 then
        s.actPost p c (.request { kind := .verify, rcd := r, onu := m.onu, rate := discRate c, notBefore := k + 3 })
      else s
    | _ => s

/-- The arguments that name a record in an activation event (Table 14-7). -/
def State.onuArgs (s : State) (r : Nat) : List (Nat × Int) :=
  [a8 (s.rget Onu.PORT r), a8 (s.rget Onu.CHANNEL r), a16 (s.rget Onu.ONU_ID r), a32 r]

/-- A drift correction by `corr` ps (R85): a new EqD and a hold, or deactivation when the EqD would leave its range. -/
def State.correctDrift (s : State) (r : Nat) (corr : Int) : State :=
  let p := s.rnat Onu.PORT r
  let e := s.rget Onu.EQD_PS r - corr
  if e < 0 ∨ s.teqd p ≤ e then s.deactivate r 2
  else
    let s := s.sendEqd r e
    let s := (s.rbump Onu.EQD_CORR_COUNT r).bump ActSt.EQD_CORRECTIONS p
    s.updOnu r (fun x => { x with holdUntil := some (s.frame + s.nat ActCfg.DRIFT_HOLD_FRAMES p), seedNext := true })

/-- An applied offset `x` and the filter value `f` that it gave are held against the two limits (R85).
Log: 24 DEDUCED, 179 DEDUCED. -/
def State.driftJudge (s : State) (r : Nat) (x f : Int) : State :=
  let p := s.rnat Onu.PORT r
  if s.get ActCfg.DRIFT_ALARM_PS p ≤ (x.natAbs : Int) then
    (s.event 0x4006 idAct (s.onuArgs r ++ [a32 x])).correctDrift r x
  else if s.get ActCfg.DRIFT_THRESH_PS p ≤ (f.natAbs : Int) ∧ s.rget Onu.TRIAL r = 0 then s.correctDrift r f
  else s

/-- An ONU enters OPERATING (R68, R83, R84) with the offset of its verification burst or probe, if its header gave one: probes
still queued are withdrawn, it stands at the lowest rate, goes straight to its target rate with a trial where a set for it is
not stale, and the offset that seeds the filter is held against the limits of R85.
Log: 179 DEDUCED, 180 DEDUCED. -/
def State.enterOperating (s : State) (r : Nat) (x : Option Int) : State :=
  let p := s.rnat Onu.PORT r
  let c := s.rnat Onu.CHANNEL r
  let target := min (s.rnat Onu.LAST_RATE r) (s.rnat Onu.RATE_MAX r)
  let s := s.setOnu r onuOperating
  let s := s.updOnu r (fun o => { o with
    rangePhase := 0, awaiting := [], attempts := 0, seedNext := x.isNone, acquired := false,
    darkRun := 0, noLockRun := 0, runsWere := (0, 0), holdUntil := none, lastRx := some s.now })
  let s := (s.actPost p c (.withdraw r)).setRate r (discRate c)
  let s := if c = 0 ∧ 0 < target ∧ target < 3 ∧ s.notStale r target then s.startTrial r target else s
  match x with
  | some x => (s.rput Onu.DRIFT_PS r x).driftJudge r x x
  | none => s

/-- The per-ONU counts of a record are cleared, with the uncommitted seconds (R181); the next second counted is the first
full one.
Log: 51 DEDUCED. -/
def State.clearPm (s : State) (r : Nat) : State :=
  let s := [OnuPm.BURSTS_GRANTED, OnuPm.BURSTS_LOST, OnuPm.BURSTS_UNCORR, OnuPm.CW_UNCORR, OnuPm.UNAVAILABLE,
    OnuPm.ES_15M, OnuPm.SES_15M, OnuPm.UAS_15M, OnuPm.PREV_ES_15M, OnuPm.PREV_SES_15M, OnuPm.PREV_UAS_15M,
    OnuPm.ES_24H, OnuPm.SES_24H, OnuPm.UAS_24H, OnuPm.PREV_ES_24H, OnuPm.PREV_SES_24H, OnuPm.PREV_UAS_24H].foldl
      (fun s o => s.rput o r 0) s
  let at' := (s.now - 11 * secNs) / secNs
  let s := s.rput OnuPm.BIN15_START r (at' / 900 * 900 * secNs : Nat)
  let s := s.rput OnuPm.BIN24_START r (at' / 86400 * 86400 * secNs : Nat)
  s.updOnuF r (fun x => { x with secs := [], classed := [], nextSec := ceilDiv s.now secNs, sesRun := 0, okRun := 0,
                                 bin15 := {}, bin24 := {}, tcaEs := false, tcaSes := false })

/-- An ONU record is created (R93): its values, the marker and the count of records.
Log: 31 DEDUCED. -/
def State.createOnu (s : State) (r p c onu serial admin : Nat) : State :=
  let s := s.markNew 0x4200 r
  let s := s.rputK Onu.PORT r p
  let s := s.rputK Onu.CHANNEL r c
  let s := s.rputK Onu.ONU_ID r onu
  let s := s.rputK Onu.SERIAL r serial
  let s := s.rputK Onu.ADMIN r admin
  let s := if c = 1 then (s.rputK Onu.RATE_MAX r 3).rput Onu.RATE r 3 else s
  (s.put ActDev.RECORDS (s.get ActDev.RECORDS + 1)).clearPm r

/-- An ONU record is removed with its coefficient and framer records (R92, R157). -/
def State.removeOnu (s : State) (r : Nat) : State :=
  let s := s.actPost (s.rnat Onu.PORT r) (s.rnat Onu.CHANNEL r) (.withdraw r)
  let s := ((s.clearCoef r).dropRecord 0x4200 r).dropRecord 0xA300 r
  let s := { s with onu := s.onu.del r, framer := s.framer.del r }.markGone 0x4200 r
  s.put ActDev.RECORDS (s.get ActDev.RECORDS - 1)

/-- A channel leaves LIT for OFF or FAULT (Table 3-2).
Log: 170 DESIGN CHOICE. -/
def State.channelDown (s : State) (p c : Nat) : State :=
  let s := (s.onusOf p c).foldl (fun s r =>
    let st := s.rnat Onu.STATE r
    if st = onuEmpty ∨ st = onuDisabled then s else s.onuToEmpty r 5) s
  s.updAct p c (fun a => { a with qwDue := false, ranging := [], scan := { running := false }, msgs := [] })

/-- A channel leaves LIT for DARK: its records freeze, and bursts already granted act on none of them (R69). -/
def State.freezeOnus (s : State) (p c : Nat) : State :=
  let s := (s.onusOf p c).foldl (fun s r => s.updOnu r (fun x => { x with frozen := true, awaiting := [] })) s
  s.updAct p c (fun a => { a with qwDue := false, msgs := [] })

/-- The retained ONUs of a channel enter FAST (R90).
Log: 23 DEDUCED. -/
def State.enterFast (s : State) (p c : Nat) : State :=
  (s.onusOf p c).foldl (fun s r =>
    if s.rnat Onu.STATE r = onuEmpty ∧ s.rget Onu.ADMIN r ≠ 0 ∧ s.rget Onu.EQD_PS r ≠ 0xFFFFFFFF then
      (s.setOnu r onuFast).updOnu r (fun x =>
        { x with fastTries := 0, probeMap := none, awaiting := [], eqdSent := s.prevEqd r })
    else s) s

/-- A request of the record waits at the grant engine or on its way there. -/
def State.requested (s : State) (p c r : Nat) : Bool :=
  (s.grantCh p c).reqs.any (fun q => q.rcd == r) ||
    (s.actCh p c).posts.any (fun x => match x with
      | .request q => q.rcd == r
      | _ => false)

/-- The records of a channel that comes back from DARK resume (R69): a ranging whose window, message or verification burst
went by has failed an attempt, and Assign_ONU-ID is sent again where no ranging window is requested.
Log: 181 DEDUCED. -/
def State.resumeOnus (s : State) (p c : Nat) : State :=
  (s.onusOf p c).foldl (fun s r =>
    let st := s.rnat Onu.STATE r
    if s.requested p c r then s
    else if st = onuRanging then s.failAttempt r
    else if st = onuAssigned then s.actSend p c (s.rnat Onu.ONU_ID r) .assignOnuId (s.rget Onu.SERIAL r)
    else s) s

/-- A channel enters LIT (R69, R72, R90): from DARK its records resume; from WARMING frozen records first go to EMPTY,
then retained ONUs enter FAST. A quiet window is due at once.
Log: 22 DEDUCED, 23 DEDUCED. -/
def State.litEntry (s : State) (p c : Nat) (fromWarming : Bool) : State :=
  let s := if fromWarming then
      (s.onusOf p c).foldl (fun s r =>
        let st := s.rnat Onu.STATE r
        if (s.onuX r).frozen ∧ st ≠ onuEmpty ∧ st ≠ onuDisabled then s.onuToEmpty r 5 else s) s
    else s
  let s := (s.onusOf p c).foldl (fun s r => s.updOnu r (fun x => { x with frozen := false })) s
  let s := if fromWarming then s.enterFast p c else s.resumeOnus p c
  s.updAct p c (fun a => { a with qwNext := s.now })

/-- The master session key of an ONU, or the default one from its REG_ID (R167). -/
def State.mskFor (s : State) (r : Nat) : Nat :=
  match (s.onuF r).msk with
  | some k => k
  | none => Config.mskOf (s.rnat Onu.REG_ID r)

/-- The key of a PLOAM's integrity code (R170). -/
def State.ploamKey (s : State) (p c onu : Nat) : Nat :=
  match (if onu < 1023 then s.onuBy p c onu else none) with
  | some r => Config.ploamKeyOf (s.mskFor r)
  | none => Config.broadcastKey

/-- An upstream PLOAM passes its integrity check, or PLOAM_MIC_CHECK is 0 (R170). -/
def State.micOk (s : State) (p c onu : Nat) (body : List Nat) (mic : Nat) : Bool :=
  s.eff FrCfg.PLOAM_MIC_CHECK p == 0 || Config.ploamMic (s.ploamKey p c onu) body == mic

end Sys2Proof.Machine
end

