-- ==== Sys2Proof/Machine/PortOps.lean ====
section
/-! DEFINITION. Channel transitions of a port complex (R42–R45): entering OFF, WARMING, DARK, LIT and FAULT. -/

namespace Sys2Proof.Machine

/-- A notice is discarded and counted (R56). -/
def State.discardNotices (s : State) (p c n : Nat) : State := s.bumpBy Pon.NOTICE_DISCARD n p c

/-- OP to DATA of a command frame (Table 5-6): COUNT is one less than the number of registers. -/
def SbCmd.body (m : SbCmd) : List Nat :=
  let n := if m.op = 2 then m.data.length else m.count
  msBits 3 m.op ++ msBits 8 m.addr ++ msBits 4 (n - 1) ++ (if m.op = 2 then m.data.flatMap (msBits 16) else [])

/-- A command frame goes out on OSB_DO (R151): start bit, body, CRC-8 and stop bit. -/
def State.sbFrame (s : State) (p : Nat) (m : SbCmd) : State :=
  s.emit (.sbFrame p ([0] ++ m.body ++ msBits 8 (crc8 m.body) ++ [1]))

/-- A new command of the sideband (R151): sent while OSB_CLK runs and fewer than 4 are outstanding, else it waits. None goes to an absent
module, and none to the c1 addresses of a module without c1 (R154).
Log: 46 DEDUCED. -/
def State.sbSend (s : State) (p : Nat) (m : SbCmd) : State :=
  let toC1 := decide (0x30 ≤ m.addr ∧ m.addr < 0x40) || decide (0xA0 ≤ m.addr)
  if (!s.flag Pon.MODULE_PRESENT p && !(s.optic p).reading) || (toC1 && !s.flag Pon.C1_FITTED p) then s
  else if s.osbRuns && decide ((s.optic p).cmds.length < 4) then
    let m := { m with sentAt := s.now }
    ((s.updOptic p (fun o => { o with cmds := o.cmds ++ [m] })).sbFrame p m).bump Cal.SB_CMDS p
  else s.updOptic p (fun o => { o with waiting := o.waiting ++ [m] })

/-- A write of one register of a channel's block (Table 5-8).
Log: 46 DEDUCED. -/
def State.sbWrite (s : State) (p c reg : Nat) (v : Int) : State :=
  s.sbSend p { op := 2, addr := (if c = 0 then 0x10 else 0x30) + reg, data := [(v % 65536).toNat] }

/-- A read of `n` registers of a channel's block.
Log: 46 DEDUCED. -/
def State.sbRead (s : State) (p c reg n : Nat) : State :=
  s.sbSend p { op := 1, addr := (if c = 0 then 0x10 else 0x30) + reg, count := n }

/-- A laser code on OSB_TRG (R147, R150) that starts at `start`, ahead of waiting window codes; OSB_TRG works while its clock runs
(R149). -/
def State.laserCodeAt (s : State) (p c code start : Nat) : State :=
  if s.osbRuns then (s.updOptic p (fun o => { o with trgFree := max o.trgFree start + 160 })).emit (.trg p c code start) else s

/-- A laser code at the next clock edge. -/
def State.laserCode (s : State) (p c code : Nat) : State := s.laserCodeAt p c code (ceilDiv s.now 40 * 40)

/-- Discarded bursts without an outcome leave the tallies of their frames (R56, R62).
Log: 19 DEDUCED. -/
def State.unnotify (s : State) (l : List Burst) (t : Tab FrameTally) : Tab FrameTally :=
  (l.filter (fun b => b.outcome == .pending && !b.n.quiet)).foldl (fun t b =>
    t.upd (s.frameOf (b.n.start / 1000)) {} (fun f => { f with notified := f.notified - 1 })) t

/-- What leaving the running states ends (R42, R56, R147): queued notices are discarded, a burst in progress is
abandoned, the laser-off code is sent, clocks and loops stop. Bursts that have ended keep what still comes for them.
Log: 19 DEDUCED, 43 DEDUCED, 173 DESIGN CHOICE. -/
def State.shutChannel (s : State) (p c : Nat) : State :=
  let queued := ((s.ch p c).bursts.filter (fun b => !b.ended)).length
  let s := s.discardNotices p c queued
  let s := s.updCh p c (fun x => { x with
    frames := s.unnotify (x.bursts.filter (fun b => !b.ended)) x.frames,
    pend := false, serLock := false, ramping := false, rampDone := false, sending := false, laser := false,
    squelch := true, txClk := false, rxClk := false, bursts := x.bursts.filter (fun b => b.ended), starts := [], lastEnd := 0 })
  let s := s.laserCode p c 2
  let s := s.updLoop p c (fun l => { l with integ := 0, inBand := 0, outBand := 0, biasHold := false,
                                            biasLimitAt := none, modLimitAt := none })
  let s := (s.put Cal.TEC_MA 0 p c).sbWrite p c 1 0
  let s := s.put Cal.SETTLED 0 p c
  (s.put Cal.HOLD_LOST 0 p c).storeDrain (p / 32)

/-- A channel enters OFF; FAULT_CAUSE is cleared (R44). -/
def State.enterOff (s : State) (p c : Nat) : State :=
  let was := s.chState p c
  let s := s.put Pon.STATE 0 p c
  let s := s.put Pon.FAULT_CAUSE 0 p c
  let s := s.shutChannel p c
  let s := s.put Cal.LOOP_LIMIT 0 p c
  (if was = chLit then s.channelDown p c else s).refreshFaults

/-- A channel that is not OFF enters FAULT with its first cause (Table 2-3, R44).
Log: 21 DEDUCED. -/
def State.enterFault (s : State) (p c cause : Nat) : State :=
  let was := s.chState p c
  if was = chWarming ∨ was = chDark ∨ was = chLit then
    let s := s.put Pon.STATE 4 p c
    let s := s.put Pon.FAULT_CAUSE cause p c
    let s := s.shutChannel p c
    let s := s.event 0x3001 (idPort p) [a8 p, a8 c, a8 cause]
    (if was = chLit then s.channelDown p c else s).refreshFaults
  else s

/-- The channel counts as without a module (R154). -/
def State.moduleMissing (s : State) (p c : Nat) : Bool :=
  !(s.optic p).reading && (!s.flag Pon.MODULE_PRESENT p || (c == 1 && !s.flag Pon.C1_FITTED p))

/-- A channel leaves OFF for WARMING; without a module it goes on to FAULT (R43, R154).
Log: 173 DESIGN CHOICE. -/
def State.enterWarming (s : State) (p c : Nat) : State :=
  let s := s.put Pon.STATE 1 p c
  let s := s.updCh p c (fun x => { x with warmAt := s.now })
  let s := s.updLoop p c (fun l => { l with integ := 0, inBand := 0, outBand := 0 })
  let s := s.put Cal.SETTLED 0 p c
  if s.moduleMissing p c then s.enterFault p c 3 else s

/-- The calibration block of a channel (Table 5-8).
Log: 45 DESIGN CHOICE. -/
def State.calBlock (s : State) (p c k : Nat) : Nat :=
  (if c = 0 then (s.optic p).cal0 else (s.optic p).cal1).getD k 0

/-- The laser-on code (R147): before the first one after detection, BIAS and MOD are written from the module. -/
def State.laserOn (s : State) (p c : Nat) : State :=
  let fresh := if c = 0 then (s.optic p).fresh0 else (s.optic p).fresh1
  let s := if fresh then
      let s := (s.put Cal.BIAS_10UA (s.calBlock p c 5) p c).sbWrite p c 2 (s.calBlock p c 5)
      let s := (s.put Cal.MOD_10UA (s.calBlock p c 2 / 2 : Nat) p c).sbWrite p c 3 (s.calBlock p c 2 / 2 : Nat)
      s.updOptic p (fun o => if c = 0 then { o with fresh0 := false } else { o with fresh1 := false })
    else s
  let s := s.updCh p c (fun x => { x with laser := true, ramping := true, rampDone := false })
  s.laserCode p c 3

/-- A channel enters LIT (R41, R43, R69, R90). -/
def State.enterLit (s : State) (p c : Nat) : State :=
  let warm := s.chState p c == chWarming
  let s := s.put Pon.STATE 3 p c
  let s := s.updCh p c (fun x => { x with
    pend := false, litAt := s.now, serLock := x.serLock && !warm, sending := false, squelch := false, txClk := true })
  let s := s.laserOn p c
  s.litEntry p c warm

/-- A channel enters DARK from WARMING, or from LIT at a frame boundary, at which its laser-off code ends (R43, R69, R147).
Log: 43 DEDUCED. -/
def State.enterDark (s : State) (p c : Nat) : State :=
  let was := s.chState p c
  let s := s.put Pon.STATE 2 p c
  let s := s.updCh p c (fun x => { x with
    pend := false, serLock := x.serLock && was == chLit, sending := false, laser := false,
    ramping := false, rampDone := false, squelch := true, txClk := true })
  let s := s.updLoop p c (fun l => { l with biasHold := false, biasLimitAt := none, modLimitAt := none })
  if was = chLit then (s.laserCodeAt p c 2 (s.now - 160)).freezeOnus p c else s

/-- Thermal settling drives a channel out of WARMING by its target (Table 2-3). -/
def State.leaveWarming (s : State) (p c : Nat) : State :=
  if s.chState p c = chWarming then
    match s.nat Pon.CH_CMD p c with
    | 3 => s.enterLit p c
    | 2 => s.enterDark p c
    | _ => s
  else s

/-- The owner's check of a CH_CMD write (R43, R66).
Log: 20 DEDUCED. -/
def State.chCmdCheck (s : State) (p c v : Nat) : Nat :=
  if v ≠ 0 ∧ (s.ch p c).testing then rcConsistency
  else if v ≠ 0 ∧ s.chState p c = chFault then rcState
  else rcOk

/-- An accepted CH_CMD write: the target is recorded, and Table 2-3 acts on the current state. -/
def State.chCmdApply (s : State) (p c v : Nat) : State :=
  let s := s.putK Pon.CH_CMD v p c
  let st := s.chState p c
  if st = chOff then
    if v ≠ 0 ∧ (s.ch p c).wave then s.enterWarming p c else s
  else if st = chWarming then
    if v = 0 then s.updCh p c (fun x => { x with pend := true })
    else if s.flag Cal.SETTLED p c then s.leaveWarming p c else s
  else if st = chDark then
    if v = 3 then s.enterLit p c
    else if v = 0 then s.updCh p c (fun x => { x with pend := true })
    else s
  else if st = chLit then
    if v = 3 then s else s.updCh p c (fun x => { x with pend := true })
  else if v = 0 then s.enterOff p c
  else s

/-- A CH_CMD write: judged, and applied or answered with its code and no other effect. -/
def State.chCmd (s : State) (p c v : Nat) : State :=
  match if s.heldByTwin p c then rcState else s.chCmdCheck p c v with
  | 0 => (s.chCmdApply p c v).result Pon.CH_CMD 0 rcOk p c
  | code => s.result Pon.CH_CMD 0 code p c

/-- The pending transition at a downstream frame boundary, by the target recorded then (R43). -/
def State.pendingApply (s : State) (p c : Nat) : State :=
  if (s.ch p c).pend then
    let s := s.updCh p c (fun x => { x with pend := false })
    let st := s.chState p c
    let t := s.nat Pon.CH_CMD p c
    if t = 0 ∧ (st = chWarming ∨ st = chDark ∨ st = chLit) then s.enterOff p c
    else if t = 2 ∧ st = chLit then s.enterDark p c
    else s
  else s

end Sys2Proof.Machine
end

