-- ==== Sys2Proof/Machine/BurstOps.lean ====
section
/-! DEFINITION. Bursts at the port complex: slots, the current burst, outcomes, detectors and the final set. -/

namespace Sys2Proof.Machine

/-- The first burst that satisfies `p` is changed by `f`. -/
def updFirst (p : Burst → Bool) (f : Burst → Burst) : List Burst → List Burst
  | [] => []
  | b :: t => if p b then f b :: t else b :: updFirst p f t

/-- A burst that needs nothing more is forgotten.
Log: 16 DEDUCED. -/
def Burst.finished (b : Burst) : Bool :=
  b.ended && (b.n.quiet || b.outcome == .lostDark || b.outcome == .lostNoLock ||
    (b.sent && b.header != .pending) || b.header == .wrongSource)

def pruneBursts (l : List Burst) : List Burst := l.filter (fun b => !b.finished)

/-- Free staging slots go to the oldest waiting notices (R55): four slots, freed at burst end. A preload is issued with the slot,
and reads the default set of that moment (R53). -/
def takeSlots (dflt : Nat → Nat) (free : Nat) : List Burst → List Burst
  | [] => []
  | b :: t =>
    if b.ended ∨ b.slot then b :: takeSlots dflt free t
    else match free with
      | 0 => b :: takeSlots dflt 0 t
      | n + 1 => { b with slot := true, dflt := dflt b.n.rate } :: takeSlots dflt n t

def slotsUsed (l : List Burst) : Nat := (l.filter (fun b => b.slot && !b.ended)).length

def assignSlots (dflt : Nat → Nat) (l : List Burst) : List Burst := takeSlots dflt (4 - slotsUsed l) l

/-- The default sets of a port by rate. -/
def State.dfltSets (s : State) (p rate : Nat) : Nat := s.nat (defSet rate) p

/-- The ONU record that a notice names. -/
def State.onuOfNotice (s : State) (p c : Nat) (n : Notice) : Option Nat := s.onuBy p c n.onu

/-- What the preload of a burst delivers, and whether it came from the store (R53, R127); a default set as it was when the preload
was issued. -/
def State.preloadSet (s : State) (p c : Nat) (b : Burst) : Nat × Bool :=
  match s.onuOfNotice p c b.n with
  | some r => if !b.n.quiet && s.notStale r b.n.rate then (s.rnat (coefSet b.n.rate) r, true) else (b.dflt, false)
  | none => (b.dflt, false)

/-- Stretches of light above a threshold inside [a, b), with touching ones joined; times in ps.
Log: 178 DESIGN CHOICE. -/
def lightRuns (thr : Nat) (a b : Int) : Envelope → List (Int × Int)
  | [] => []
  | (f, u, mv) :: t =>
    let lo := max a f
    let hi := min b u
    if mv ≤ thr ∨ hi ≤ lo then lightRuns thr a b t
    else
      match lightRuns thr a b t with
      | (f', u') :: rest => if f' = hi then (lo, u') :: rest else (lo, hi) :: (f', u') :: rest
      | [] => [(lo, hi)]

/-- The presence detector of a burst (R59): light above PRES_THRESH for 8 ns in a row inside [t − W, D + W), where the windows of a
standby stand δ later (R138).
Log: 178 DESIGN CHOICE. -/
def State.presence (s : State) (p c : Nat) (n : Notice) (env : Envelope) : Bool :=
  let d := s.feederAt p c n.start
  let w : Int := s.nat Pon.WINDOW_NS p c * 1000
  (lightRuns (s.eff Pon.PRES_THRESH p) (n.start + d - w) (n.delim + d + w) env).any (fun r => decide (r.1 + 8000 ≤ r.2))

/-- A stretch without the open intervals. -/
def outside (a b : Nat) : List (Nat × Nat) → List (Nat × Nat)
  | [] => if a < b then [(a, b)] else []
  | (f, u) :: t => if b ≤ a then [] else outside a (min b (max a f)) t ++ outside (max a (min b u)) b t

/-- The unexpected-light detector asserts for the frame [b, e) (R61, R471): a stretch above PRES_THRESH outside every open interval
has 64 ns of it in the frame, or reaches 64 ns there.
Log: 178 DESIGN CHOICE. -/
def unexpLit (thr b e : Nat) (opens : List (Nat × Nat)) (env : Envelope) : Bool :=
  let parts : Envelope := env.flatMap (fun x => (outside x.1 x.2.1 opens).map (fun y => (y.1, y.2, x.2.2)))
  (lightRuns thr 0 e (sortBy (fun x => x.1) parts)).any (fun r =>
    decide (max r.1 b + 64000 ≤ min r.2 e) || (decide (b ≤ r.1 + 64000) && decide (r.1 + 64000 < e) && decide (r.1 + 64000 ≤ r.2)))

/-- A frame's tally of the detectors is changed. -/
def PortCh.tally (x : PortCh) (k : Nat) (f : FrameTally → FrameTally) : PortCh :=
  { x with frames := x.frames.upd k {} f }

/-- The fourth burst start in a 400 ns window (R55, R56): the third start before this one lies less than 400 ns back. -/
def fourthStart (starts : List Nat) (t : Nat) : Bool :=
  match starts[2]? with
  | some a => decide (t < a + 400000)
  | none => false

/-- A notice must be discarded on arrival (R56).
Log: 182 DEDUCED. -/
def State.noticeBad (s : State) (p c : Nat) (n : Notice) : Bool :=
  let x := s.ch p c
  let st := s.chState p c
  !(st == chDark || st == chLit) || fourthStart x.starts n.start ||
    (!x.starts.isEmpty && decide (n.start < x.lastEnd + s.nat Pon.GUARD_NS p c * 1000))

/-- A burst's outcome is known for its frame (R62, R471). -/
def State.tallyOutcome (s : State) (p c : Nat) (b : Burst) (o : BurstOutcome) (x : Int) : State :=
  s.updCh p c (fun ch => ch.tally (s.frameOf (b.n.start / 1000)) (fun f =>
    { f with done := f.done + 1,
             dark := if o = .lostDark then f.dark + 1 else f.dark,
             presence := if o = .lostDark then f.presence else f.presence + 1,
             received := if o = .received then f.received + 1 else f.received,
             offsets := if o = .received then f.offsets ++ [x] else f.offsets }))

/-- The count of lost-no-lock bursts from the stored set (R130); at LOL_STALE the set is made invalid. -/
def State.lolStale (s : State) (p r : Nat) (b : Burst) (noLock : Bool) : State :=
  if noLock && b.fromStore && !b.late then
    let n := (s.onuX r).lolRuns.getD b.n.rate 0 + 1
    let s := s.updOnu r (fun x => { x with lolRuns := x.lolRuns.ins b.n.rate n })
    if s.nat Cal.LOL_STALE p ≤ n ∧ s.coefValid r b.n.rate then (s.setValid r b.n.rate false).bump CalCnt.SETS_INVALIDATED p
    else s
  else s.updOnu r (fun x => { x with lolRuns := x.lolRuns.ins b.n.rate 0 })

/-- RX_LOL after a lost-no-lock burst (R63). -/
def State.lolLost (s : State) (p c : Nat) : State :=
  let n := (s.ch p c).lolRun + 1
  let s := s.updCh p c (fun x => { x with lolRun := n })
  if s.eff Pon.LOL_BURSTS p ≤ n ∧ s.flag Pon.RX_LOL p c = false then
    (s.put Pon.RX_LOL 1 p c).event 0x3003 (idPort p) [a8 p, a8 c, a8 1]
  else s

/-- RX_LOL after a received burst (R63). -/
def State.lolReceived (s : State) (p c : Nat) : State :=
  let s := s.updCh p c (fun x => { x with lolRun := 0 })
  if s.flag Pon.RX_LOL p c then (s.put Pon.RX_LOL 0 p c).event 0x3003 (idPort p) [a8 p, a8 c, a8 0] else s

/-- Wrong-source reports of a past second are logged once (R60).
Log: 18 DEDUCED. -/
def State.flushWrong (s : State) (p c : Nat) : State :=
  let x := s.ch p c
  if 0 < x.wrongCount ∧ x.wrongSec < s.sec then
    (s.updCh p c (fun x => { x with wrongCount := 0 })).event 0x3005 (idPort p) [a8 p, a8 c, a32 x.wrongCount]
  else s

/-- A burst reported lost or wrong-source leaves its words out of G and counts as fully used (R107, R108). -/
def State.grantLost (s : State) (p c onu startPs : Nat) : State :=
  let k := s.spanOf p startPs
  ((s.records 0x5200).filter (fun r =>
      s.rnat Ctx.PORT r == p && s.rnat Ctx.CHANNEL r == c && s.rnat Ctx.ONU_ID r == onu)).foldl (fun s r =>
    s.updCtx r (fun x => { x with
      grants := x.grants.map (fun g => if g.1 = k then (g.1, g.2.1, true) else g),
      usage := match x.grants.find? (fun g => g.1 == k) with
        | some g => some (g.2.1, 0)
        | none => x.usage })) s

/-- The final set of an ended, received burst goes to the calibration engine (R51, R136). -/
def State.sendFinal (s : State) (p c : Nat) (b : Burst) : State :=
  let good := b.outcome == .received && b.header == .passed && !b.late && !b.frozen
  let s := s.updCh p c (fun x => { x with
    posts := x.posts ++ [.final b.n.onu b.n.rate b.n.start b.final b.eye good b.rxp],
    bursts := pruneBursts (updFirst (fun y => y.n.start == b.n.start) (fun y => { y with sent := true }) x.bursts) })
  s

/-- A tap of `w` bits at `lo` after `n` symbols of sign-sign LMS (R51): at most one step of 2^−step from its start at each symbol,
with 2^`frac` counts in a weight of 1.
Log: 177 DEDUCED. -/
def adaptTap (start final lo w frac step n : Nat) : Nat :=
  let a := sext w (bits start (lo + w - 1) lo)
  let m : Int := ceilDiv (n * 2 ^ frac) (2 ^ step)
  ((clampInt (sext w (bits final (lo + w - 1) lo)) (a - m) (a + m)) % 2 ^ w).toNat

/-- The final set of a burst (R51, Table 2-6) from the values that its stages hold at the end: CTLE and gain as the preamble left
them, taps within reach of their steps, RATE the burst's, reserved bits 0; with ADAPT_FREEZE the set it started from.
Log: 177 DEDUCED. -/
def Burst.finalSet (b : Burst) (final : Nat) : Nat :=
  if b.frozen then b.active
  else
    let n := (b.n.stop - b.n.start) * 7776 / (156250 * bitMul b.n.rate) + 1
    let v := bits b.front 9 0 + bits final 16 10 * 2 ^ 10 + bits final 159 152 * 2 ^ 152 + b.n.rate % 4 * 2 ^ 160
    let v := (List.range 11).foldl (fun v k => v + adaptTap b.active final (24 + 8 * k) 8 6 b.ffeStep n * 2 ^ (24 + 8 * k)) v
    (List.range 5).foldl (fun v j => v + adaptTap b.active final (112 + 8 * j) 8 7 b.dfeStep n * 2 ^ (112 + 8 * j)) v

/-- The current burst of a receive channel: started and not ended. -/
def State.current (s : State) (p c : Nat) : Option Burst :=
  (s.ch p c).bursts.find? (fun b => b.started && !b.ended)

/-- The oldest started burst that waits for its outcome.
Log: 16 DEDUCED. -/
def State.undecided (s : State) (p c : Nat) : Option Burst :=
  (s.ch p c).bursts.find? (fun b => b.started && b.outcome == .pending && !b.n.quiet)

/-- A burst of the channel is changed. -/
def State.updBurst (s : State) (p c start : Nat) (f : Burst → Burst) : State :=
  s.updCh p c (fun x => { x with bursts := pruneBursts (updFirst (fun b => b.n.start == start) f x.bursts) })

end Sys2Proof.Machine
end

