-- ==== Sys2Proof/Machine/CaptureOps.lean ====
section
/-! DEFINITION. Burst capture (R259). -/

namespace Sys2Proof.Machine

/-- Whole 64-byte lines of a captured burst's data. -/
def CapBurst.lines (x : CapBurst) : Nat := ceilDiv x.len 64

/-- Bytes of the capture region that the kept bursts take: header and lines.
Log: 83 DESIGN CHOICE. -/
def capBytes (l : List CapBurst) : Nat := (l.map (fun x => 64 + 64 * x.lines)).sum

/-- Bytes of the sliced bits from D − W to the burst end, at most CAP_MAX_BYTES. -/
def State.capLen (s : State) (p c : Nat) (n : Notice) : Nat :=
  let w := s.nat Pon.WINDOW_NS p c * 1000
  let ps := n.stop - (n.delim - w)
  min (s.nat BCap.CAP_MAX_BYTES) (ceilDiv (ps * 7776 / (156250 * bitMul n.rate)) 8)

/-- The kept bursts after the outcome `kind` of one, and whether the trigger is among them now.
Log: 83 DESIGN CHOICE. -/
def State.capStore (s : State) (x : CapBurst) : State :=
  let hit := !s.tm.capTrig && (s.nat BCap.CAP_TRIGGER == 0 || s.nat BCap.CAP_TRIGGER == x.outcome)
  let x := { x with trigger := hit }
  let trig := s.tm.capTrig || hit
  let pre := s.nat BCap.CAP_PRE
  let l := s.tm.cap ++ [x]
  let l := if trig then l else l.drop (l.length - pre)
  let after := if trig then s.tm.capAfter + 1 else 0
  let full := decide (s.nat DdrReg.ACTIVE_SIZE_MIB 2 * 1048576 < capBytes l)
  let l := if full then l.dropLast else l
  let s := { s with tm := { s.tm with cap := l, capTrig := trig, capAfter := after } }.ddrAccess 2 x.base
  if full ∨ (trig ∧ s.nat BCap.CAP_POST ≤ after) then (s.put BCap.CAP_COUNT l.length).put BCap.CAP_ARM 0 else s

/-- A burst's outcome reaches burst capture: 0 passed, 1 lost-dark, 2 lost-no-lock, 3 uncorrectable, 4 wrong source.
A burst found uncorrectable after its header is relabelled, and may then be the trigger.
Log: 83 DESIGN CHOICE. -/
def State.captureOutcome (s : State) (p c : Nat) (b : Burst) (kind : Nat) : State :=
  if s.flag BCap.CAP_ARM ∧ !s.inTrim ∧ s.nat BCap.CAP_PORT = p ∧ s.nat BCap.CAP_CHANNEL = c ∧
      (s.nat BCap.CAP_ONU = 0xFFFF ∨ s.nat BCap.CAP_ONU = b.n.onu) then
    if kind = 3 ∧ s.tm.cap.any (fun x => x.start == b.n.start) then
      let hit : Bool := !s.tm.capTrig && s.nat BCap.CAP_TRIGGER == 3
      let l := s.tm.cap.map (fun x => if x.start = b.n.start then { x with outcome := 3, trigger := x.trigger || hit } else x)
      let tm := { s.tm with cap := l, capTrig := (s.tm.capTrig || hit), capAfter := (if hit then 1 else s.tm.capAfter) }
      let s : State := { s with tm := tm }
      if hit ∧ s.nat BCap.CAP_POST ≤ 1 then (s.put BCap.CAP_COUNT l.length).put BCap.CAP_ARM 0 else s
    else
      let len := s.capLen p c b.n
      let got := b.outcome == .received || kind == 0 || kind == 3 || kind == 4
      let ofs : Option Int := if got then some b.offset else none
      let x : CapBurst :=
        { start := b.n.start, onu := b.n.onu, rate := b.n.rate, cold := b.n.cold, outcome := kind,
          offset := ofs, rxp := b.rxp, len := len, coef := b.active, base := s.drawn }
      { s with drawn := s.drawn + x.lines }.capStore x
  else s

/-- The 64-byte header of a captured burst, byte 0 least significant (Table 9-7). -/
def CapBurst.header (x : CapBurst) : Nat :=
  let sec := x.start / 1000000000000
  let ns := x.start / 1000 % 1000000000
  let frac := x.start % 1000 * 65536 / 1000
  ofLe (leBytes 8 sec ++ leBytes 4 ns ++ leBytes 2 frac ++ leBytes 2 x.onu ++ [x.rate, (if x.cold then 1 else 0), x.outcome,
    (if x.trigger then 1 else 0)] ++
    leBytes 4 ((match x.offset with | some o => o % 2 ^ 32 | none => 0x80000000) : Int).toNat ++
    leBytes 2 ((match x.rxp with | some o => o % 2 ^ 16 | none => 0x8000) : Int).toNat ++ [0, 0] ++ leBytes 4 x.len ++
    leBytes 24 x.coef)

end Sys2Proof.Machine
end

