-- ==== Sys2Proof/Machine/FamPort.lean ====
section
/-! DEFINITION. The commands of the PON port complexes (chapter 2). -/

namespace Sys2Proof.Machine

/-- CH_CMD 0 (R43, Table 2-3). -/
def execChCmdOff (p : Fin 64) (c : Fin 2) (s : State) : Res := live s (fun s => s.chCmd p c 0)

/-- CH_CMD 2 (R43, R45, R66). -/
def execChCmdDark (p : Fin 64) (c : Fin 2) (s : State) : Res := live s (fun s => s.chCmd p c 2)

/-- CH_CMD 3 (R43, R45, R66). -/
def execChCmdLit (p : Fin 64) (c : Fin 2) (s : State) : Res := live s (fun s => s.chCmd p c 3)

/-- The downstream frame boundary of a channel with a pending transition (R43). -/
def execChPendingApply (p : Fin 64) (c : Fin 2) (s : State) : Res := live s (fun s => s.pendingApply p c)

/-- The transmit serialiser locks; it runs only in DARK and LIT (R41). -/
def execSerialiserLocked (p : Fin 64) (c : Fin 2) (s : State) : Res :=
  live s (fun s =>
    if s.chState p c = chDark ∨ s.chState p c = chLit then
      s.updCh p c (fun x => { x with serLock := true })
    else s)

/-- WARM_TIMEOUT_S has passed in WARMING (R43, cause 4).
Log: 12 DEDUCED. -/
def execWarmTimeout (p : Fin 64) (c : Fin 2) (s : State) : Res :=
  live s (fun s =>
    if s.chState p c = chWarming ∧ (s.ch p c).warmAt + s.eff Pon.WARM_TIMEOUT_S p * secNs ≤ s.now then
      s.enterFault p c 4
    else s)

/-- Transmit loss of lock: squelched, FAULT with cause 1 (R64). -/
def execTxLossOfLock (p : Fin 64) (c : Fin 2) (s : State) : Res := live s (fun s => s.enterFault p c 1)

/-- The PON PLL of a die unlocks: every channel of the die that is not OFF enters FAULT with cause 2 (R64). -/
def execPonPllUnlock (die : Fin 2) (s : State) : Res :=
  live s (fun s =>
    let bit := 4 + die.val
    let l := s.nat Pwr.PLL_LOCKED
    let s := if l.testBit bit then (s.put Pwr.PLL_LOCKED (l - 2 ^ bit : Nat)).bump Pwr.PLL_UNLOCKS else s
    (List.range 32).foldl (fun s k =>
      (s.enterFault (die.val * 32 + k) 0 2).enterFault (die.val * 32 + k) 1 2) s)

/-- The test of a port ends on whichever channel it runs: its clocks stop (R66).
Log: 164 DESIGN CHOICE. -/
def State.testStop (s : State) (p : Nat) : State :=
  [0, 1].foldl (fun s c =>
    if (s.ch p c).testing then
      s.updCh p c (fun x => { x with testing := false, testSet := none, txClk := false, rxClk := false })
    else s) s

/-- TEST_MODE written non-zero: only while the channel named in TEST_CHANNEL is OFF (R66). It becomes the channel under test, with
its clocks running; in mode 2 its receiver shows the default set of the channel's highest rate.
Log: 20 DEDUCED, 164 DESIGN CHOICE. -/
def State.testMode (s : State) (p mode : Nat) : State :=
  let c := s.nat Pon.TEST_CHANNEL p
  if s.chState p c = chOff then
    let s := (s.testStop p).put Pon.TEST_MODE mode p
    let set := if mode = 2 then some (s.nat (defSet (if c = 0 then 2 else 3)) p) else none
    let s := s.updCh p c (fun x => { x with testing := true, testSet := set, txClk := true, rxClk := true, laser := false })
    s.result Pon.TEST_MODE 0 rcOk p
  else s.result Pon.TEST_MODE 0 rcState p

/-- TEST_MODE 0 ends the test (R66); `errors` is what the receive checker found since PRBS_ERRORS was last read.
Log: 20 DEDUCED. -/
def execTestModeNone (p : Fin 64) (errors : Nat) (s : State) : Res :=
  live s (fun s =>
    let s := if s.nat Pon.TEST_MODE p = 2 then s.bumpBy Pon.PRBS_ERRORS errors p else s
    ((s.testStop p).put Pon.TEST_MODE 0 p).result Pon.TEST_MODE 0 rcOk p)

def execTestModePrbsTx (p : Fin 64) (s : State) : Res := live s (fun s => s.testMode p 1)

def execTestModePrbsRx (p : Fin 64) (s : State) : Res := live s (fun s => s.testMode p 2)

def execTestModeLoopback (p : Fin 64) (s : State) : Res := live s (fun s => s.testMode p 3)

/-- A notice reaches the port complex (R54–R56): discarded and counted, or queued, with the receive clock started and a
staging slot taken when one is free. A quiet or ranging window starts from the default set (R53, R76). -/
def execBurstNotice (p : Fin 64) (c : Fin 2) (s : State) : Res :=
  live s (fun s =>
    match (s.ch p c).link with
    | [] => s
    | n :: rest =>
      let s := s.updCh p c (fun x => { x with link := rest })
      if s.noticeBad p c n then s.bump Pon.NOTICE_DISCARD p c
      else
        let b : Burst := { n := n, loaded := if n.quiet then some (s.nat (defSet n.rate) p) else none }
        let w := s.nat Pon.WINDOW_NS p c * 1000
        s.updCh p c (fun x =>
          let x := if n.quiet then x else x.tally (s.frameOf (n.start / 1000)) (fun f => { f with notified := f.notified + 1 })
          { x with rxClk := true, bursts := assignSlots (s.dfltSets p) (x.bursts ++ [b]), starts := (n.start :: x.starts).take 3,
                   lastEnd := n.stop, opens := x.opens ++ [(n.start - w, n.stop + w)] }))

/-- A grant of a die's store arbiter to the port `q` (R57): its oldest outstanding preload is delivered, c0 before c1. -/
def State.preloadServe (s : State) (die q : Nat) : State :=
  let s := s.granted die q
  let p := q - idPort 0
  let c := if (s.ch p 0).bursts.any Burst.wants then 0 else 1
  match (s.ch p c).bursts.find? Burst.wants with
  | none => s
  | some b =>
    let (set, stored) := s.preloadSet p c b
    s.updCh p c (fun x => { x with bursts := updFirst Burst.wants (fun b =>
      { b with loaded := some set, fromStore := stored }) x.bursts })

/-- The next preload of a die completes (R12, R24, R57). A waiting refinement competes with the preloads: where it is ahead of them
it is granted first, and the preload in the next grant cycle.
Log: 185 DEDUCED. -/
def execPreloadComplete (die : Fin 2) (s : State) : Res :=
  live s (fun s =>
    let cal := if (s.storeWrites die).isEmpty then [] else [idCal]
    let s := if arbPick (s.arb.getD die.val 0) (cal ++ s.preloadPorts die) = some idCal then s.storeWrite die else s
    match arbPick (s.arb.getD die.val 0) (s.preloadPorts die) with
    | none => s
    | some q => (s.preloadServe die q).storeDrain die)

/-- The open code of a notified burst (R135, R136): its last bit ends at the last clock edge at or before the payload start;
when earlier codes hold OSB_TRG for more than 80 ns beyond that need, the burst is not measured. -/
def State.openCode (s : State) (p c : Nat) (b : Burst) : State :=
  let payload := (b.n.delim + s.feederAt p c b.n.start).toNat + bitsPs b.n.rate 64
  let need := payload / 40000 * 40 - 160
  let start := max need (s.optic p).trgFree
  if need + 80 < start then s.bump Cal.RXP_MISSED p
  else
    let s := s.updOptic p (fun o => { o with trgFree := start + 160 })
    (s.updBurst p c b.n.start (fun b => { b with coded := true })).emit (.trg p c 1 start)

/-- The close code of a measured burst (R135, R150): at the first clock edge at or after the burst end; the module counts
it modulo 8 and tags the sample with the count that it makes. A window more than eight closes back can no longer be told and is missed.
Log: 42 DEDUCED, 174 DESIGN CHOICE. -/
def State.closeCode (s : State) (p c : Nat) (b : Burst) : State :=
  let start := max (ceilDiv s.now 40 * 40) (s.optic p).trgFree
  let seq := ((s.ch p c).closeCount + 1) % 8
  let s := s.updOptic p (fun o => { o with trgFree := start + 160 })
  let l := (s.ch p c).samples ++ [(seq, b.n.onu, b.n.start)]
  let s := s.bumpBy Cal.RXP_MISSED (l.length - 8) p
  let s := s.updCh p c (fun x => { x with closeCount := seq, samples := l.drop (l.length - 8) })
  let s := s.updBurst p c b.n.start (fun y => { y with seq := seq })
  s.emit (.trg p c 0 start)

/-- Burst start (R55, R25, R53): the slot's set becomes active, or the default set when the preload is late, and what R51 takes
for the whole burst is held; the open code is sent for a notified burst (R135). A window starts with no serial number heard
(R73). -/
def execBurstStart (p : Fin 64) (c : Fin 2) (s : State) : Res :=
  live s (fun s =>
    match (s.ch p c).bursts.find? (fun b => !b.started) with
    | none => s
    | some b =>
      let late := b.loaded.isNone
      let set := match b.loaded with | some v => v | none => s.nat (defSet b.n.rate) p
      let s := s.updCh p c (fun x => { x with bursts := updFirst (fun b => !b.started) (fun b =>
        { b with started := true, late := late, active := set, front := bits set 9 0, frozen := s.eff Pon.ADAPT_FREEZE p != 0,
                 ffeStep := s.eff Pon.FFE_STEP p, dfeStep := s.eff Pon.DFE_STEP p }) x.bursts })
      let s := if b.n.quiet then s.updAct p c (fun a => { a with winSerials := [] }) else s
      let s := if late then s.bump Pon.LATE_PRELOAD p c
        else if !b.fromStore && !b.n.quiet then s.bump CalCnt.STALE_STARTS p else s
      if b.n.quiet then s else s.openCode p c b)

/-- A burst with presence and its delimiter inside the guard window is received (R48, R49, R59): its offset is posted.
Log: 17 DEDUCED. -/
def State.burstReceived (s : State) (p c : Nat) (b : Burst) (at' bitErrors : Nat) : State :=
  let x : Int := (at' : Int) - b.n.delim
  let s := s.updBurst p c b.n.start (fun b => { b with outcome := .received, offset := x })
  let s := if 0 < bitErrors then s.bump Pon.DELIM_CORRECTED p c else s
  let s := s.lolReceived p c
  let s := s.tallyOutcome p c b .received x
  let s := s.updCh p c (fun ch => { ch with posts := ch.posts ++ [.offset b.n.onu b.n.rate b.n.start x] })
  match s.onuOfNotice p c b.n with
  | some r => ((s.pmAdd r b.n.start (fun t => { t with g := t.g + 1 })).lolStale p r b false).showLol r
  | none => s

/-- A delimiter with up to 3 bit errors (R48, R49, R58, R59). In a guard window it is accepted, with `front` the CTLE and gain that
the preamble trained (R51), and the burst is received once it has presence in the envelope `env`; in a quiet window the
delimiter is reported with its time.
Log: 17 DEDUCED. -/
def execDelimiterDetected (p : Fin 64) (c : Fin 2) (at' : Nat) (bitErrors front : Nat) (env : Envelope) (s : State) : Res :=
  live s (fun s =>
    if 3 < bitErrors then s
    else match (s.ch p c).bursts.find? (fun b => b.started && b.outcome == .pending && b.delim.isNone && !b.n.quiet &&
        s.inGuard p c b.n at') with
      | some b =>
        let s := s.updBurst p c b.n.start (fun b => { b with delim := some (at', bitErrors), front := front % 1024 })
        if s.presence p c b.n env then s.burstReceived p c b at' bitErrors else s
      | none =>
        if (s.ch p c).bursts.any (fun b => b.started && b.n.quiet && !b.ended && decide (b.n.start ≤ at') && decide (at' < b.n.stop))
        then s.emit (.value at') else s)

/-- The guard window closes (R59, R63, R128, R130, R178, R326): the burst is lost, unless it had its delimiter and presence comes
only now. -/
def execGuardWindowClose (p : Fin 64) (c : Fin 2) (env : Envelope) (s : State) : Res :=
  live s (fun s =>
    match s.undecided p c with
    | none => s
    | some b =>
      let presence := s.presence p c b.n env
      let found := if presence then b.delim else none
      if (s.now : Int) * 1000 < b.n.delim + s.feederAt p c b.n.start + s.nat Pon.WINDOW_NS p c * 1000 then s
      else if found.isSome then s.burstReceived p c b (found.getD (0, 0)).1 (found.getD (0, 0)).2
      else
        let o : BurstOutcome := if presence then .lostNoLock else .lostDark
        let s := s.updBurst p c b.n.start (fun b => { b with outcome := o })
        let s := s.bump Pon.BURSTS_LOST p c
        let s := if presence then (s.bump Pon.CDR_NO_LOCK p c).lolLost p c else s
        let s := s.bump CalCnt.REFINE_SKIPPED p
        let s := s.tallyOutcome p c b o 0
        let s := s.updCh p c (fun ch => { ch with posts := ch.posts ++ [.lost b.n.onu b.n.rate b.n.start presence] })
        let s := s.nonWholeBurst p c b.n.onu b.n.start
        let s := s.grantLost p c b.n.onu b.n.start
        let s := s.captureOutcome p c b (if presence then 2 else 1)
        match s.onuOfNotice p c b.n with
        | some r => ((s.pmAdd r b.n.start (fun t => { t with g := t.g + 1, l := t.l + 1 })).lolStale p r b presence).showLol r
        | none => s)

/-- A received burst has ended and its header is checked (R79–R81): it counts for the step rules, bad where it is wrong-source or
holds an uncorrectable codeword; on a record under observation it changes nothing (R89). -/
def State.burstDone (s : State) (p c : Nat) (b : Burst) : State :=
  if b.outcome ≠ .received ∨ b.header = .pending ∨ b.ended = false ∨ b.n.quiet then s
  else
    match s.onuOfNotice p c b.n with
    | none => s
    | some r =>
      if s.rnat Onu.STATE r = onuDisabled then s
      else
        let bad := if b.header = .passed ∧ b.uncorr = false then 0 else 1
        (s.stepTally r b.n.start 1 bad).trialCount r b.n.rate b.n.start 1 bad

/-- The burst ends (R51, R55, R135): the close code is sent, the slot freed and given to a waiting notice, and the final
set held for its power sample. `final` is what the stages hold, `eye` the eye measurement.
Log: 177 DEDUCED. -/
def execBurstEnd (p : Fin 64) (c : Fin 2) (final eye : Nat) (s : State) : Res :=
  live s (fun s =>
    match s.current p c with
    | none => s
    | some b =>
      let set := b.finalSet final
      let s := if b.coded then s.closeCode p c b else s
      let s := s.burstDone p c { b with ended := true }
      let s := s.updCh p c (fun x => { x with
        bursts := assignSlots (s.dfltSets p) (pruneBursts (updFirst (fun y => y.started && !y.ended)
          (fun y => { y with ended := true, endedAt := s.now, final := set, eye := eye }) x.bursts)) })
      s.storeDrain (p.val / 32))

/-- 16 ns after a burst end with no notice pending the receive clock stops (R57, R30), but not on a channel under test (R66).
Log: 14 DESIGN CHOICE. -/
def execRxClockStop (p : Fin 64) (c : Fin 2) (s : State) : Res :=
  live s (fun s =>
    let x := s.ch p c
    if x.bursts.all (fun b => b.ended) ∧ x.lastEnd + 16000 ≤ s.now * 1000 ∧ !x.testing then
      s.updCh p c (fun x => { x with rxClk := false })
    else s)

/-- The burst counters of a received burst that is not wrong-source (R60, Table 2-9). -/
def State.countReceived (s : State) (p c : Nat) (b : Burst) : State :=
  let s := s.bump Pon.BURSTS_OK p c
  if b.n.cold then s.bump Pon.COLD_BURSTS p c else s.bump Pon.WARM_BURSTS p c

/-- A received burst resets the ONU's lost-burst runs (R81, R87), which are kept for lost bursts of the same clock (R70); a record
under observation is not touched (R89). -/
def State.onuReceived (s : State) (r : Nat) : State :=
  if s.rnat Onu.STATE r = onuDisabled then s
  else s.updOnu r (fun x => { x with
    runsWere := if x.lastRx = some s.now then x.runsWere else (x.darkRun, x.noLockRun), darkRun := 0, noLockRun := 0,
    lastRx := some s.now })

/-- The header check (R60): an uncorrectable header, a wrong source, or a pass.
Log: 16 DEDUCED. -/
def execBurstHeaderCheck (p : Fin 64) (c : Fin 2) (correctable : Bool) (found : Nat) (ploamWaiting : Bool) (s : State) : Res :=
  live s (fun s =>
    match (s.ch p c).bursts.find? (fun b => b.outcome == .received && b.header == .pending) with
    | none => s
    | some b =>
      let r := s.onuOfNotice p c b.n
      if correctable = false then
        let s := s.updBurst p c b.n.start (fun b => { b with header := .uncorrectable, uncorr := true })
        let s := s.countReceived p c b
        let s := s.nonWholeBurst p c b.n.onu b.n.start
        let s := s.captureOutcome p c b 3
        match r with
        | none => s
        | some r =>
          let s := s.pmAdd r b.n.start (fun t => { t with u := t.u + 1 })
          let s := s.updOnu r (fun x => { x with heldOffsets := x.heldOffsets.del b.n.start })
          (s.onuReceived r).burstDone p c { b with header := .uncorrectable }
      else if found ≠ b.n.onu then
        let s := s.updBurst p c b.n.start (fun b => { b with header := .wrongSource })
        let s := s.flushWrong p c
        let s := s.bump Pon.WRONG_SOURCE p c
        let s := s.updCh p c (fun x => { x with wrongSec := s.sec, wrongCount := x.wrongCount + 1,
                                                posts := x.posts ++ [.wrongSource b.n.onu found b.n.start] })
        let s := s.bump CalCnt.REFINE_SKIPPED p
        let s := s.nonWholeBurst p c b.n.onu b.n.start
        let s := s.grantLost p c b.n.onu b.n.start
        let s := s.captureOutcome p c b 4
        match r with
        | none => s
        | some r =>
          (s.pmAdd r b.n.start (fun t => { t with l := t.l + 1 })).burstDone p c { b with header := .wrongSource }
      else
        let s := s.updBurst p c b.n.start (fun b => { b with header := .passed })
        let s := s.updCh p c (fun x => { x with good := ((b.n.start, b.n.onu) :: x.good).take 1024 })
        let s := s.countReceived p c b
        let s := s.captureOutcome p c b 0
        match r with
        | none => s
        | some r =>
          let s := s.onuReceived r
          let s := s.updOnu r (fun x => { x with ploamWaiting := ploamWaiting })
          s.burstDone p c { b with header := .passed })

/-- The outcomes of the oldest frame are complete, and loss of signal is judged for it (R62, R471).
Log: 165 DESIGN CHOICE. -/
def execFrameOutcomesComplete (p : Fin 64) (c : Fin 2) (s : State) : Res :=
  live s (fun s =>
    match (s.ch p c).frames with
    | [] => s
    | (k, f) :: rest =>
      if s.frame ≤ k ∨ f.done < f.notified then s
      else
        let s := s.updCh p c (fun x => { x with frames := rest, lastFrame := f })
        if f.notified = 0 then s
        else if f.dark = f.notified then
          let n := (s.ch p c).losRun + 1
          let s := s.updCh p c (fun x => { x with losRun := n, losClearRun := 0 })
          if s.eff Pon.LOS_FRAMES p ≤ n ∧ s.flag Pon.LOS p c = false then
            let s := (s.put Pon.LOS 1 p c).bump Pon.LOS_ENTRIES p c
            (s.event 0x3002 (idPort p) [a8 p, a8 c, a8 1]).emit (.losIrq p c)
          else s
        else
          let n := (s.ch p c).losClearRun + 1
          let s := s.updCh p c (fun x => { x with losRun := 0, losClearRun := n })
          if s.eff Pon.LOS_CLEAR_FRAMES p ≤ n ∧ s.flag Pon.LOS p c then
            (s.put Pon.LOS 0 p c).event 0x3002 (idPort p) [a8 p, a8 c, a8 0]
          else s)

/-- The scan goes on to the next record that is still OPERATING or LOST, which it disables, or ends (R89).
Log: 28 DEDUCED, 183 DEDUCED. -/
def State.scanNext (s : State) (p c : Nat) : State :=
  let sc := (s.actCh p c).scan
  match sc.rest.dropWhile (fun r => !s.hasRecord 0x4200 r ||
      !(s.rnat Onu.STATE r == onuOperating || s.rnat Onu.STATE r == onuLost)) with
  | [] =>
    let s := s.updAct p c (fun a => { a with scan := {} })
    s.event 0x400B idAct [a8 p, a8 c, a16 0xFFFF, a32 0xFFFFFFFF, a32 sc.observed]
  | r :: rest =>
    let s := s.updOnu r (fun x => { x with prevState := s.rnat Onu.STATE r, observed := true, awaiting := [] })
    let s := s.actSend p c (s.rnat Onu.ONU_ID r) .disable 0
    let s := s.setOnu r onuDisabled
    let s := s.actPost p c (.withdraw r)
    s.updAct p c (fun a => { a with scan :=
      { running := true, cur := r, rest := rest, startFrame := s.frame, light := false, observed := sc.observed + 1 } })

/-- Records in ascending ONU-ID. -/
def State.byOnuId (s : State) (l : List Nat) : List Nat := sortBy (s.rnat Onu.ONU_ID) l

/-- A rogue-isolation scan starts (R89): the OPERATING and LOST records in ascending ONU-ID.
Log: 28 DEDUCED. -/
def State.scanStart (s : State) (p c : Nat) : State :=
  if (s.actCh p c).scan.running then s
  else
    let l := s.byOnuId ((s.onusOf p c).filter (fun r =>
      s.rnat Onu.STATE r == onuOperating || s.rnat Onu.STATE r == onuLost))
    let s := s.event 0x4009 idAct [a8 p, a8 c, a16 0xFFFF, a32 0xFFFFFFFF]
    let s := s.bump ActSt.ROGUE_SCANS p
    let s := s.updAct p c (fun a => { a with qwDue := false, scan := { running := true, rest := l } })
    s.scanNext p c

/-- The activation engine takes an unexpected-light message (R61, R89). -/
def State.unexpTaken (s : State) (p c : Nat) : State :=
  let s := s.updCh p c (fun x => { x with posts := x.posts.erase .unexpLight })
  if s.flag ActCfg.ROGUE_ISOLATE p ∧ s.actLive p c then s.scanStart p c else s

/-- The unexpected-light detector at a frame's end (R61, R471, R89), which judges each frame once, by the envelope `env`. -/
def execUnexpLightJudge (p : Fin 64) (c : Fin 2) (env : Envelope) (s : State) : Res :=
  live s (fun s =>
    let x := s.ch p c
    let k := s.frame
    let b := s.frameStart (k - 1) * 1000
    let light := unexpLit (s.eff Pon.PRES_THRESH p) b (b + frameNs * 1000) x.opens env
    let s := s.updCh p c (fun x => { x with judged := k, opens := x.opens.filter (fun o => decide (b < o.2)) })
    if k = 0 ∨ k ≤ x.judged then s
    else if light then
      let s := s.bump Pon.UNEXP_LIGHT_EVENTS p c
      let s := s.updCh p c (fun x => { x with unexpRun := x.unexpRun + 1, unexpClearRun := 0 })
      let s := s.updAct p c (fun a => { a with scan := { a.scan with light := true } })
      if s.eff Pon.UNEXP_FRAMES p ≤ x.unexpRun + 1 ∧ s.flag Pon.UNEXP_LIGHT p c = false then
        let s := (s.put Pon.UNEXP_LIGHT 1 p c).event 0x3004 (idPort p) [a8 p, a8 c, a8 1]
        (s.updCh p c (fun x => { x with posts := x.posts ++ [.unexpLight] })).unexpTaken p c
      else s
    else
      let s := s.updCh p c (fun x => { x with unexpRun := 0, unexpClearRun := x.unexpClearRun + 1 })
      if s.eff Pon.UNEXP_FRAMES p ≤ x.unexpClearRun + 1 ∧ s.flag Pon.UNEXP_LIGHT p c then
        (s.put Pon.UNEXP_LIGHT 0 p c).event 0x3004 (idPort p) [a8 p, a8 c, a8 0]
      else s)

end Sys2Proof.Machine
end

