-- ==== Sys2Proof/Machine/MapOps.lean ====
section
/-! DEFINITION. The computation of a bandwidth map (R95–R120): grid, cost, windows, tiers, layout, trimming and digest. -/

namespace Sys2Proof.Machine

/-- Units of a span (R96). -/
def spanUnits (c : Nat) : Nat := if c = 0 then 194400 else 38880

/-- `u` units in ps, rounded down: a unit is 156,250 / 243 ps on c0 and five times that on c1 (R96). -/
def unitPs (c u : Nat) : Nat := u * (if c = 0 then 156250 else 781250) / 243

/-- The first unit that starts at or after `t` ps. -/
def unitCeil (c t : Nat) : Nat := ceilDiv (t * 243) (if c = 0 then 156250 else 781250)

/-- Bytes per unit at a rate (R96). -/
def bytesPerUnit (c rate : Nat) : Nat :=
  if c = 0 then (match rate with | 2 => 4 | 1 => 2 | _ => 1) else 4

/-- Profile overhead in units (R113). -/
def overheadUnits (c rate : Nat) (cold : Bool) (guardNs : Nat) : Nat :=
  let b := 8 * bytesPerUnit c rate
  let d := if c = 0 then 625 else 3125
  ceilDiv (guardNs * 972 * b + (preambleBits rate cold + 64) * d) (d * b)

/-- Payload with its parity in units (R111). -/
def payloadUnits (c rate p : Nat) : Nat :=
  let k := if c = 0 then 1824 else 216
  let par := if c = 0 then 336 else 32
  ceilDiv (p + par * ceilDiv p k) (bytesPerUnit c rate)

/-- Payload bytes of a burst (R111). -/
def MapBurst.payload (b : MapBurst) : Nat :=
  8 + (b.structs.map (fun a => (if a.ploam then 48 else 0) + (if a.report then 4 else 0) + 4 * a.words)).sum

/-- Units of a burst's slot (R111). -/
def MapBurst.units (c guardNs : Nat) (b : MapBurst) : Nat :=
  overheadUnits c b.rate b.cold guardNs + payloadUnits c b.rate b.payload

/-- A served context as the computation reads it (R103–R106). -/
structure CtxIn where
  rcd : Nat := 0
  onu : Nat := 0
  alloc : Nat := 0
  cls : Nat := 4
  fixed : Nat := 0
  assured : Nat := 0
  maxk : Nat := 0
  prio : Nat := 0
  weight : Nat := 1
  si : Nat := 8
  report : Bool := true
  last : Nat := 0
  demand : Nat := 0
  deriving DecidableEq, Repr

/-- A map in the making. -/
structure MapW where
  c : Nat := 0
  k : Nat := 0
  guardNs : Nat := 64
  quantum : Nat := 256
  /-- Units of windows and carried span. -/
  base : Nat := 0
  wins : List Win := []
  bursts : List MapBurst := []
  /-- Words granted, newest first: context, words, tier. -/
  log : List (Nat × Nat × Nat) := []
  want : Tab Nat := []
  fixedAcc : Tab Nat := []
  assuredAcc : Tab Nat := []
  limits : Nat := 0
  hintsMissed : Nat := 0
  hintsUsed : Nat := 0
  hintCtx : List Nat := []
  assuredShort : Nat := 0
  trims : Nat := 0
  p3 : Nat := 0
  p4 : Nat := 0
  deriving DecidableEq, Repr

def MapW.burst? (m : MapW) (onu : Nat) : Option MapBurst := m.bursts.find? (fun b => b.onu == onu)

/-- Structures of the map, windows not included (R120). -/
def MapW.structs (m : MapW) : Nat := (m.bursts.map (fun b => b.structs.length)).sum

/-- Units in use: windows, carried span and slots. -/
def MapW.used (m : MapW) : Nat := m.base + (m.bursts.map (fun b => b.units m.c m.guardNs)).sum

/-- The burst of an ONU is replaced, or added. -/
def putBurst (b : MapBurst) : List MapBurst → List MapBurst
  | [] => [b]
  | x :: t => if x.onu = b.onu then b :: t else x :: putBurst b t

/-- A structure is added, in ascending Alloc-ID order (R118). -/
def MapBurst.addStruct (b : MapBurst) (a : Alloc) : MapBurst :=
  { b with structs := insBy (fun x : Alloc => x.allocId) a b.structs }

/-- A burst with `x` more words for a context, the structure created if needed. -/
def MapBurst.withWords (b : MapBurst) (i : CtxIn) (x : Nat) : MapBurst :=
  if b.structs.any (fun a => a.ctx == some i.rcd) then
    { b with structs := b.structs.map (fun a => if a.ctx = some i.rcd then { a with words := a.words + x } else a) }
  else b.addStruct { allocId := i.alloc, ctx := some i.rcd, words := x, report := i.report }

/-- The map's cost with a burst replaced stays within the span. -/
def MapW.fits (m : MapW) (b : MapBurst) : Bool :=
  decide (m.base + ((putBurst b m.bursts).map (fun b => b.units m.c m.guardNs)).sum ≤ spanUnits m.c)

/-- The greatest `x` in [lo, hi] with `p x`, for `p` that holds up to a point and at `lo`. -/
def greatest (p : Nat → Bool) : Nat → Nat → Nat → Nat
  | 0, lo, _ => lo
  | f + 1, lo, hi =>
    if hi ≤ lo then lo
    else
      let mid := (lo + hi + 1) / 2
      if p mid then greatest p f mid hi else greatest p f lo (mid - 1)

/-- The procedure give of R114: the words granted and the map.
Log: 32 DEDUCED, 33 DEDUCED. -/
def MapW.give (m : MapW) (i : CtxIn) (rate : Nat) (cold : Bool) (w tier : Nat) : Nat × MapW :=
  let old := m.burst? i.onu
  if (old.isNone && decide (512 ≤ m.bursts.length)) || decide (1024 ≤ m.structs) then
    (0, { m with limits := m.limits + 1 })
  else
    let b := old.getD { onu := i.onu, rate := rate, cold := cold }
    let ok (x : Nat) : Bool := m.fits (b.withWords i x)
    if ok 0 = false then (0, m)
    else
      let g := if ok w then w else greatest ok 64 0 w
      if g = 0 ∧ 0 < w then (0, m)
      else
        let m := { m with bursts := putBurst (b.withWords i g) m.bursts }
        (g, if 0 < g then { m with log := (i.rcd, g, tier) :: m.log } else m)

/-- A default-allocation structure with a PLOAM slot (R116, R117).
Log: 32 DEDUCED, 33 DEDUCED. -/
def MapW.addPloam (m : MapW) (onu rate : Nat) (cold : Bool) : Bool × MapW :=
  let old := m.burst? onu
  if (old.isNone && decide (512 ≤ m.bursts.length)) || decide (1024 ≤ m.structs) then
    (false, { m with limits := m.limits + 1 })
  else
    let b := (old.getD { onu := onu, rate := rate, cold := cold }).addStruct { allocId := onu, ploam := true }
    if m.fits b then (true, { m with bursts := putBurst b m.bursts }) else (false, m)

/-- Words of a context in the map, by tier test. -/
def MapW.words (m : MapW) (rcd : Nat) (p : Nat → Bool) : Nat :=
  ((m.log.filter (fun e => e.1 == rcd && p e.2.2)).map (fun e => e.2.1)).sum

/-- Maps since the last grant (R106, R112): map numbers wrap at 32 bits. -/
def CtxIn.age (i : CtxIn) (k : Nat) : Nat := (k + 2 ^ 32 - i.last % 2 ^ 32) % 2 ^ 32

def CtxIn.due (i : CtxIn) (k : Nat) : Bool := decide (i.si ≤ i.age k)

/-- MAX_KBPS × min(n, SI_FRAMES) / 256 (R112).
Log: 34 DEDUCED. -/
def CtxIn.capTotal (i : CtxIn) (k : Nat) : Nat := i.maxk * min (max 1 (i.age k)) i.si / 256

/-- The cap of R112 on the words of tiers 3 and 4. -/
def MapW.cap (m : MapW) (i : CtxIn) : Nat := i.capTotal m.k - m.words i.rcd (fun t => decide (t ≤ 2))

/-- Records of a set in order, starting after the pointer and wrapping. -/
def rotate (ptr : Nat) (l : List CtxIn) : List CtxIn :=
  l.filter (fun i => decide (ptr < i.rcd)) ++ l.filter (fun i => decide (i.rcd ≤ ptr))

/-- What the computation knows of an ONU: its rate and whether it takes the cold profile at the close. -/
abbrev OnuIn := Nat → Nat × Bool

/-- One pass of weighted_passes: words granted and the last winner.
Log: 32 DEDUCED. -/
def MapW.pass (m : MapW) (o : OnuIn) (tier : Nat) : List CtxIn → Nat × Option Nat × MapW
  | [] => (0, none, m)
  | i :: t =>
    let w := min (i.weight * m.quantum) (min (m.want.getD i.rcd 0)
      (m.cap i - m.words i.rcd (fun t => decide (3 ≤ t))))
    let (g, m) := m.give i (o i.onu).1 (o i.onu).2 w tier
    let m := { m with want := m.want.ins i.rcd (m.want.getD i.rcd 0 - g) }
    let (n, last, m) := MapW.pass m o tier t
    (g + n, (match last with | some r => some r | none => if 0 < g then some i.rcd else none), m)

/-- weighted_passes of R114; `last` is the last winner so far. -/
def MapW.passes (o : OnuIn) (tier : Nat) (l : List CtxIn) : Nat → Option Nat → MapW → Option Nat × MapW
  | 0, last, m => (last, m)
  | f + 1, last, m =>
    let (n, won, m) := m.pass o tier l
    if n = 0 then (last, m)
    else MapW.passes o tier l f (match won with | some r => some r | none => last) m

/-- Tiers 1 to 4 of R114 over the served contexts, ascending.
Log: 32 DEDUCED. -/
def MapW.tiers (m : MapW) (o : OnuIn) (l : List CtxIn) : MapW :=
  let give1 (m : MapW) (i : CtxIn) : MapW :=
    let w := m.fixedAcc.getD i.rcd 0 / 256
    if i.due m.k ∧ 0 < i.fixed then
      let (g, m) := m.give i (o i.onu).1 (o i.onu).2 w 1
      { m with fixedAcc := m.fixedAcc.ins i.rcd (m.fixedAcc.getD i.rcd 0 - 256 * g),
               want := m.want.ins i.rcd (m.want.getD i.rcd 0 - g) }
    else m
  let give2 (m : MapW) (i : CtxIn) : MapW :=
    let w := min (m.assuredAcc.getD i.rcd 0 / 256) (m.want.getD i.rcd 0)
    if 0 < i.assured then
      let (g, m) := m.give i (o i.onu).1 (o i.onu).2 w 2
      { m with assuredAcc := m.assuredAcc.ins i.rcd (m.assuredAcc.getD i.rcd 0 - 256 * g),
               want := m.want.ins i.rcd (m.want.getD i.rcd 0 - g) }
    else m
  let poll (m : MapW) (i : CtxIn) : MapW :=
    let has := match m.burst? i.onu with | some b => b.structs.any (fun a => a.ctx == some i.rcd) | none => false
    if i.due m.k ∧ has = false then (m.give i (o i.onu).1 (o i.onu).2 0 2).2 else m
  let m := l.foldl give1 m
  let m := l.foldl give2 m
  let m := l.foldl poll m
  let fuel := spanUnits m.c * 4
  let (w3, m) := m.passes o 3 (rotate m.p3 (l.filter (fun i => i.cls == 3))) fuel none
  let m := { m with p3 := w3.getD m.p3 }
  [7, 6, 5, 4, 3, 2, 1, 0].foldl (fun (m : MapW) level =>
    let set := l.filter (fun i => (i.cls == 4 || i.cls == 5) && i.prio == level)
    let (w4, m) := m.passes o 4 (rotate m.p4 set) fuel none
    { m with p4 := w4.getD m.p4 }) m

/-- Occupied stretches of the span: windows and bursts at fixed positions, ascending. -/
def MapW.occupied (m : MapW) : List (Nat × Nat) :=
  sortBy (fun e : Nat × Nat => e.1)
    (m.wins.map (fun w => (w.start, w.start + w.len)) ++
     (m.bursts.filter (fun b => b.fixed)).map (fun b => (b.slot, b.slot + b.units m.c m.guardNs)))

/-- The first position at or after `pos` where `u` units are free of ascending stretches. -/
def firstFree (u : Nat) : List (Nat × Nat) → Nat → Nat
  | [], pos => pos
  | (a, b) :: t, pos => firstFree u t (if pos < b ∧ a < pos + u then b else pos)

/-- A burst at its position replaces itself. -/
def MapW.putB (m : MapW) (b : MapBurst) : MapW := { m with bursts := putBurst b m.bursts }

/-- The positions of hinted bursts (R110), in the order in which hints are processed; `tol` in ps. `taus` are the hints' ONU and τ,
ps after the span start, in that order. -/
def MapW.placeHints (m : MapW) (tol : Nat) (taus : List (Nat × Nat)) : MapW :=
  let hinted := ((taus.map (fun h => h.1)).eraseDups.filterMap m.burst?).filter (fun b => b.tau.isSome)
  let m := hinted.foldl (fun m b =>
    let u := b.units m.c m.guardNs
    let oh := overheadUnits m.c b.rate b.cold m.guardNs
    let start := firstFree u m.occupied (unitCeil m.c (b.tau.getD 0) - oh)
    if start + u ≤ spanUnits m.c ∧ unitPs m.c (start + oh) < b.tau.getD 0 + tol then
      m.putB { b with slot := start, fixed := true }
    else m) m
  taus.foldl (fun m h =>
    match m.burst? h.1 with
    | some b =>
      let t := unitPs m.c (b.slot + overheadUnits m.c b.rate b.cold m.guardNs)
      if b.fixed ∧ h.2 ≤ t + 1 ∧ t < h.2 + tol then { m with hintsUsed := m.hintsUsed + 1 }
      else { m with hintsMissed := m.hintsMissed + 1 }
    | none => { m with hintsMissed := m.hintsMissed + 1 }) m

/-- Ordinary bursts in ascending ONU-ID order (R118). -/
def MapW.layout (m : MapW) : MapW :=
  let occ := m.occupied
  let ord := sortBy (fun b : MapBurst => b.onu) (m.bursts.filter (fun b => !b.fixed))
  (ord.foldl (fun (x : Nat × MapW) b =>
    let u := b.units x.2.c x.2.guardNs
    let start := firstFree u occ x.1
    (start + u, x.2.putB { b with slot := start })) (0, m)).2

def MapW.inSpan (m : MapW) : Bool :=
  m.bursts.all (fun b => decide (b.slot + b.units m.c m.guardNs ≤ spanUnits m.c))

/-- A context's structure loses `x` words. -/
def MapW.less (m : MapW) (rcd x : Nat) : MapW :=
  { m with bursts := m.bursts.map (fun b => { b with structs := b.structs.map (fun a =>
      if a.ctx = some rcd then { a with words := a.words - x } else a) }) }

/-- A context's structure is removed, and its burst when nothing else remains (R119). -/
def MapW.dropStruct (m : MapW) (rcd : Nat) : MapW :=
  { m with bursts := (m.bursts.map (fun b =>
      { b with structs := b.structs.filter (fun a => a.ctx != some rcd) })).filter (fun b => !b.structs.isEmpty) }

/-- One step of R119 on a grant of the log: the fewest words whose removal makes the layout fit, else all of them.
Log: 38 DEDUCED. -/
def MapW.cut (m : MapW) (e : Nat × Nat × Nat) : MapW :=
  if m.layout.inSpan then m
  else
    let (rcd, g, tier) := e
    let has := m.bursts.any (fun b => b.structs.any (fun a => a.ctx == some rcd && decide (0 < a.words)))
    if has = false then m
    else
      let x := g - greatest (fun kept => (m.less rcd (g - kept)).layout.inSpan) 64 0 g
      let m := m.less rcd x
      let m := if tier = 1 then { m with fixedAcc := m.fixedAcc.ins rcd (m.fixedAcc.getD rcd 0 + 256 * x) }
        else if tier = 2 then { m with assuredAcc := m.assuredAcc.ins rcd (m.assuredAcc.getD rcd 0 + 256 * x) }
        else m
      let m := if tier ≤ 2 then { m with assuredShort := m.assuredShort + 1 } else m
      let left := (m.bursts.map (fun b => ((b.structs.filter (fun a => a.ctx == some rcd)).map (fun a => a.words)).sum)).sum
      if left == 0 && !m.layout.inSpan then m.dropStruct rcd else m

/-- Contexts whose structure holds no words and no hint, the highest record first: report-only structures. -/
def MapW.empties (m : MapW) : List Nat :=
  (sortBy id ((m.bursts.flatMap (fun b => b.structs)).filterMap (fun a =>
    if a.words = 0 ∧ a.hint = false then a.ctx else none))).reverse

/-- Layout and trimming (R118, R119). Tier-0 words are never removed. When no words are left to remove, report-only structures
go, and a burst that would still pass the end of the span is not in the map (R97).
Log: 38 DEDUCED. -/
def MapW.finish (m : MapW) : MapW :=
  let order := m.log.filter (fun e => decide (3 ≤ e.2.2)) ++ m.log.filter (fun e => e.2.2 == 1 || e.2.2 == 2)
  if m.layout.inSpan then m.layout
  else
    let m := order.foldl MapW.cut m
    let m := (m.empties.foldl (fun (m : MapW) r => if m.layout.inSpan then m else m.dropStruct r) { m with trims := 1 }).layout
    { m with bursts := m.bursts.filter (fun b => decide (b.slot + b.units m.c m.guardNs ≤ spanUnits m.c)) }

/-- Units that a window takes of the span itself. -/
def Win.inSpan (c : Nat) (w : Win) : Nat := min w.len (spanUnits c - w.start)

/-- The windows of a map (R115): carried span, quiet window, ranging windows. -/
structure WinPlan where
  wins : List Win := []
  /-- Units carried into the next span. -/
  carried : Nat := 0
  quiet : Bool := false
  deferred : Bool := false
  ranging : List Req := []
  reqs : List Req := []
  deriving DecidableEq, Repr

/-- Ranging windows placed one after another from `pos`; at most `n` start in the map. -/
def placeRanging (c k : Nat) (quiet carried : Bool) : Nat → Nat → List Req → List Win × List Req × List Req
  | _, _, [] => ([], [], [])
  | n, pos, q :: t =>
    if q.kind ≠ .ranging ∨ k < q.notBefore ∨ n = 0 ∨ (!quiet && decide (spanUnits c ≤ pos)) ∨ (q.displaced && carried) then
      let (w, g, rest) := placeRanging c k quiet carried n pos t
      (w, g, q :: rest)
    else if quiet then
      let (w, g, rest) := placeRanging c k quiet carried (n - 1) pos t
      (w, g, { q with displaced := true } :: rest)
    else
      let len := unitCeil c (q.lenUs * 1000000)
      let (w, g, rest) := placeRanging c k quiet carried (n - 1) (pos + len) t
      ({ kind := .ranging, start := pos, len := len, rcd := q.rcd } :: w, q :: g, rest)

/-- place_windows of R115; `qLenUs` is the length of a due quiet window. -/
def planWindows (c k carried : Nat) (due : Bool) (qLenUs perFrame : Nat) (reqs : List Req) : WinPlan :=
  let span := spanUnits c
  let car := min carried span
  let carWin : List Win := if car = 0 then [] else [{ kind := .carried, start := 0, len := car }]
  let quiet := due && carried == 0
  let qLen := if quiet then unitCeil c (qLenUs * 1000000) else 0
  let qWin : List Win := if quiet then [{ kind := .quiet, start := 0, len := qLen }] else []
  let (rw, granted, rest) := placeRanging c k quiet (carried != 0) perFrame (car + qLen) reqs
  let stop := (carWin ++ qWin ++ rw).foldl (fun n w => max n (w.start + w.len)) carried
  { wins := carWin ++ qWin ++ rw, carried := stop - span, quiet := quiet,
    deferred := due && carried != 0, ranging := granted, reqs := rest }

/-- Flags of Table 4-9. -/
def Alloc.flags (a : Alloc) : Nat :=
  (if a.report then 1 else 0) + (if a.ploam then 2 else 0) + (if a.hint then 4 else 0)

def Win.flags (w : Win) : Nat :=
  match w.kind with | .quiet => 8 | .ranging => 16 | .carried => 32

/-- One entry of a map in map order: ONU-ID, Alloc-ID, start, words, rate, profile, flags (R122). -/
abbrev MapEntry := List Nat

/-- The structures and windows of a map in map order, each burst's payload start included (R122, R125), and the zero point of each
window; 0 for a structure. -/
def MapRec.placed (c : Nat) (m : MapRec) : List (MapEntry × Int) :=
  let ws : List (Nat × List (MapEntry × Int)) := m.wins.map (fun w =>
    (w.start, [([0x3FF, 0xFFFF, w.start, w.len, discRate c, 1, w.flags], w.zero)]))
  let bs : List (Nat × List (MapEntry × Int)) := m.bursts.map (fun b =>
    (b.slot, b.structs.map (fun a =>
      ([b.onu, a.allocId, b.slot + overheadUnits c b.rate b.cold m.guardNs, a.words, b.rate,
        if b.cold then 1 else 0, a.flags], 0))))
  ((sortBy (fun e : Nat × List (MapEntry × Int) => e.1) (ws ++ bs)).map (fun e => e.2)).flatten

/-- The entries alone. -/
def MapRec.entries (c : Nat) (m : MapRec) : List MapEntry := (m.placed c).map (fun e => e.1)

/-- MAP_DIGEST (R122). -/
def mapDigest (l : List MapEntry) : Nat :=
  if l.isEmpty then 0
  else crc32 ((l.map (fun e =>
    beBytes 2 (e.getD 0 0) ++ beBytes 2 (e.getD 1 0) ++ beBytes 4 (e.getD 2 0) ++ beBytes 4 (e.getD 3 0) ++
    [e.getD 4 0, e.getD 5 0, e.getD 6 0, 0])).flatten)

end Sys2Proof.Machine
end

