-- ==== Sys2Proof/Machine/ParseOps.lean ====
section
/-! DEFINITION. The packet parser, the classifier key and the flow hash (R190–R194, R204). -/

namespace Sys2Proof.Machine

/-- What the parser reads from the configuration (Table 7-9). -/
structure ParseCfg where
  depth : Nat := 128
  tpids : List Nat := [0x8100, 0x88A8, 0x9100, 0x9200]
  vxlan : Nat := 4789
  gre : Bool := true
  inner : Bool := false
  anchor : Nat := 0
  ofs : Nat := 0
  deriving DecidableEq, Repr

/-- The header kinds of Table 7-2. -/
inductive Hdr where
  | eth | vlan | pppoe | pppoeDisc | mpls | arp | ptp | ip4 | ip6 | ext | udp | tcp | icmp | gre | vxlan
  deriving DecidableEq, Repr

/-- The key fields of Table 7-4 that the parser fills. -/
structure KeyF where
  status : Nat := 0
  subtype : Nat := 0
  dir : Nat := 0
  pass2 : Nat := 0
  srcType : Nat := 0
  srcPort : Nat := 0
  srcCh : Nat := 0
  tagCount : Nat := 0
  ipVer : Nat := 0
  onuRec : Nat := 0
  dmac : Nat := 0
  smac : Nat := 0
  etype : Nat := 0
  /-- Outer and second tag: TPID number, PCP, DEI and VID as laid out in bits 487:470. -/
  oTag : Nat := 0
  iTag : Nat := 0
  mplsLabel : Nat := 0
  pppoeSid : Nat := 0
  pppProto : Nat := 0
  sip : Nat := 0
  dip : Nat := 0
  dscp : Nat := 0
  ecn : Nat := 0
  proto : Nat := 0
  ttl : Nat := 0
  frag : Nat := 0
  tunType : Nat := 0
  mplsTc : Nat := 0
  sport : Nat := 0
  dport : Nat := 0
  tcpFlags : Nat := 0
  tunId : Nat := 0
  xgemRec : Nat := 0
  firstClass : Nat := 0
  udf : Nat := 0
  firstColour : Nat := 0
  deriving DecidableEq, Repr

/-- VID of a tag field. -/
def tagVid (t : Nat) : Nat := t % 4096

/-- DEI of a tag field. -/
def tagDei (t : Nat) : Nat := t / 4096 % 2

/-- The state of a parse. -/
structure Parse where
  f : KeyF := {}
  h : Nat := 0
  pos : Nat := 0
  next : Option Hdr := some .eth
  /-- Kind of the last header and how many of it in a row; VLAN tags and all tags parsed. -/
  prev : Option Hdr := none
  run : Nat := 0
  vlans : Nat := 0
  tags : Nat := 0
  /-- VLAN tags in a row behind the first Ethernet header, which a tag edit acts on (R197). -/
  outer : Nat := 0
  /-- EtherType that led to the header; IPv6 Next Header that did. -/
  et : Nat := 0
  nh : Nat := 0
  seenMac : Bool := false
  seenMpls : Bool := false
  /-- Offsets of the first IP header, the first TCP, UDP or ICMP header and the UDP payload. -/
  ip : Option Nat := none
  l4 : Option Nat := none
  udp : Option Nat := none
  /-- Inner packet of the first tunnel: offset, and EtherType for an IP payload, 0 for Ethernet (R202). -/
  innerAt : Option (Nat × Nat) := none
  /-- IP payload length, fragment state and extension bytes of the last IP header. -/
  pay : Int := 0
  frag : Nat := 0
  ext : Nat := 0
  deriving DecidableEq, Repr

def byteAt (d : List Nat) (o : Nat) : Nat := (d.drop o).headD 0 % 256

/-- A field of `n` bytes, most significant first; 0 when it does not lie wholly in the data. -/
def beAt (d : List Nat) (o n : Nat) : Nat := if o + n ≤ d.length then ofBe ((d.drop o).take n) else 0

/-- Length of the header at `pos` (Table 7-2). A length field below the least header counts as the least.
Log: 57 DEDUCED. -/
def hdrLen (d : List Nat) (x : Parse) : Hdr → Nat
  | .eth => 14
  | .vlan => 4
  | .pppoe => 8
  | .pppoeDisc => 6
  | .mpls => 4
  | .arp => 28
  | .ptp => 34
  | .ip4 => max 5 (byteAt d x.pos % 16) * 4
  | .ip6 => 40
  | .ext => if x.nh = 44 then 8 else (byteAt d (x.pos + 1) + 1) * 8
  | .udp => 8
  | .tcp => max 5 (byteAt d (x.pos + 12) / 16) * 4
  | .icmp => 4
  | .gre =>
    let fl := byteAt d x.pos
    4 + 4 * (bits fl 7 7 + bits fl 5 5 + bits fl 4 4)
  | .vxlan => 8

/-- What an EtherType continues with. -/
def ofEtype (g : ParseCfg) (et : Nat) : Option Hdr :=
  if g.tpids.contains et then some .vlan
  else if et = 0x8864 then some .pppoe
  else if et = 0x8863 then some .pppoeDisc
  else if et = 0x8847 ∨ et = 0x8848 then some .mpls
  else if et = 0x0806 then some .arp
  else if et = 0x88F7 then some .ptp
  else if et = 0x0800 then some .ip4
  else if et = 0x86DD then some .ip6
  else none

/-- What a protocol number continues with. -/
def ofProto (g : ParseCfg) (v6 : Bool) (p : Nat) : Option Hdr :=
  if p = 17 then some .udp
  else if p = 6 then some .tcp
  else if p = 1 ∨ p = 58 then some .icmp
  else if p = 47 ∧ g.gre then some .gre
  else if v6 ∧ (p = 0 ∨ p = 43 ∨ p = 44 ∨ p = 60) then some .ext
  else none

/-- One's complement sum of an IPv4 header, folded (16 bits). -/
def ipSum : List Nat → Nat → Nat
  | a :: b :: t, n => ipSum t (n + a % 256 * 256 + b % 256)
  | _, n => let m := n / 65536 + n % 65536
            m / 65536 + m % 65536

/-- A tunnel found: the first sets TUN_TYPE and TUN_ID (R190). -/
def Parse.tunnel (x : Parse) (ty id : Nat) : Parse :=
  if x.f.tunType = 0 then { x with f := { x.f with tunType := ty, tunId := id % 2 ^ 24 } } else x

def Parse.inner (x : Parse) (o et : Nat) : Parse :=
  if x.innerAt.isNone then { x with innerAt := some (o, et) } else x

/-- IP in IP after an IP header (protocol 4 or 41): end of pass; otherwise the protocol's header. After a header that failed its check
(`bad`) the parse stops (R191). -/
def Parse.after (g : ParseCfg) (x : Parse) (bad : Nat × Nat) (v6 : Bool) (p o : Nat) : Parse :=
  if x.frag = 2 ∨ bad.1 ≠ 0 then { x with next := none }
  else if p = 4 ∨ p = 41 then
    { ((x.tunnel 4 0).inner o (if p = 4 then 0x0800 else 0x86DD)) with next := none }
  else { x with next := ofProto g v6 p, nh := p }

/-- The fields of header `k` enter the key; the result's status is the header's own check (R192).
Log: 57 DEDUCED, 58 DEDUCED. -/
def parseHdr (g : ParseCfg) (d : List Nat) (x : Parse) (k : Hdr) (ln : Nat) : (Nat × Nat) × Parse :=
  let o := x.pos
  let left := d.length - o
  match k with
  | .eth =>
    let et := beAt d (o + 12) 2
    let f := if x.seenMac then x.f else { x.f with dmac := beAt d o 6, smac := beAt d (o + 6) 6 }
    ((0, 0), { x with f := { f with etype := et }, seenMac := true, et := et, next := ofEtype g et })
  | .vlan =>
    let t := (g.tpids.findIdx (fun q => q == x.et)) % 4 * 2 ^ 16 + beAt d o 2
    let et := beAt d (o + 2) 2
    let f := match x.vlans with
      | 0 => { x.f with oTag := t }
      | 1 => { x.f with iTag := t }
      | _ => x.f
    ((0, 0), { x with f := { f with etype := et }, vlans := x.vlans + 1, tags := x.tags + 1, et := et,
                      outer := if o = 14 + 4 * x.outer then x.outer + 1 else x.outer,
                      next := ofEtype g et })
  | .pppoe =>
    let pp := beAt d (o + 6) 2
    let bad := if left - 6 < beAt d (o + 4) 2 then (3, 4) else (0, 0)
    (bad, { x with f := { x.f with pppoeSid := beAt d (o + 2) 2, pppProto := pp },
                   next := if pp = 0x0021 then some .ip4 else if pp = 0x0057 then some .ip6 else none })
  | .pppoeDisc =>
    (if left - 6 < beAt d (o + 4) 2 then (3, 4) else (0, 0),
      { x with f := { x.f with pppoeSid := beAt d (o + 2) 2 }, next := none })
  | .mpls =>
    let w := beAt d o 4
    let f := if x.seenMpls then x.f else { x.f with mplsLabel := bits w 31 12, mplsTc := bits w 11 9 }
    let x := { x with f := f, seenMpls := true, tags := x.tags + 1 }
    let x := x.tunnel 3 0
    if bits w 8 8 = 0 then ((0, 0), { x with next := some .mpls })
    else
      let nib := byteAt d (o + 4) / 16
      let nx : Option Hdr := if nib = 4 then some .ip4 else if nib = 6 then some .ip6
        else if g.inner then some .eth else none
      let x := if x.f.tunType = 3 then
          (match nx with
           | some .ip4 => x.inner (o + 4) 0x0800
           | some .ip6 => x.inner (o + 4) 0x86DD
           | some _ => x.inner (o + 4) 0
           | none => x) else x
      ((0, 0), { x with next := nx })
  | .arp | .ptp => ((0, 0), { x with next := none })
  | .ip4 =>
    let b0 := byteAt d o
    let ihl := b0 % 16
    let tot := beAt d (o + 2) 2
    let fo := beAt d (o + 6) 2
    let frag := if fo % 8192 ≠ 0 then 2 else if bits fo 13 13 = 1 then 1 else 0
    let p := byteAt d (o + 9)
    let f := if x.ip.isSome then x.f else
      { x.f with ipVer := 1, dscp := byteAt d (o + 1) / 4, ecn := byteAt d (o + 1) % 4, ttl := byteAt d (o + 8),
                 proto := p, sip := beAt d (o + 12) 4, dip := beAt d (o + 16) 4, frag := frag }
    let x := { x with f := f, ip := some (x.ip.getD o), pay := (tot : Int) - ihl * 4, frag := frag, ext := 0 }
    let bad := if b0 / 16 ≠ 4 then (4, 1) else if ihl < 5 then (4, 2) else if left < tot then (3, 1)
      else if tot < ihl * 4 then (3, 2) else if ipSum ((d.drop o).take ln) 0 ≠ 0xFFFF then (4, 3) else (0, 0)
    (bad, x.after g bad false p (o + ln))
  | .ip6 =>
    let w := beAt d o 4
    let pl := beAt d (o + 4) 2
    let p := byteAt d (o + 6)
    let f := if x.ip.isSome then x.f else
      { x.f with ipVer := 2, dscp := bits w 27 22, ecn := bits w 21 20, ttl := byteAt d (o + 7), proto := p,
                 sip := beAt d (o + 8) 16, dip := beAt d (o + 24) 16, frag := 0 }
    let x := { x with f := f, ip := some (x.ip.getD o), pay := pl, frag := 0, ext := 0 }
    let bad := if w / 2 ^ 28 ≠ 6 then (4, 1) else if left < pl + 40 then (3, 1) else (0, 0)
    (bad, x.after g bad true p (o + ln))
  | .ext =>
    let ext := x.ext + ln
    let fo := beAt d (o + 2) 2
    let frag := if x.nh = 44 then (if fo / 8 ≠ 0 then 2 else if fo % 2 = 1 then 1 else 0) else x.frag
    let p := byteAt d o
    let x := { x with f := { x.f with proto := p, frag := frag }, frag := frag, ext := ext }
    let bad := if x.pay < (ext : Int) then (3, 2) else (0, 0)
    (bad, x.after g bad true p (o + ln))
  | .udp =>
    let dp := beAt d (o + 2) 2
    let ul := beAt d (o + 4) 2
    let bad := if x.frag ≠ 2 ∧ (ul < 8 ∨ (ul : Int) ≠ x.pay - x.ext) then (3, 3) else (0, 0)
    (bad, { x with f := { x.f with sport := beAt d o 2, dport := dp }, l4 := some (x.l4.getD o),
                   udp := some (o + 8),
                   next := if dp = g.vxlan then some .vxlan else if dp = 319 ∨ dp = 320 then some .ptp else none })
  | .tcp =>
    ((0, 0), { x with f := { x.f with sport := beAt d o 2, dport := beAt d (o + 2) 2, tcpFlags := byteAt d (o + 13) },
                      l4 := some (x.l4.getD o), next := none })
  | .icmp =>
    ((0, 0), { x with f := { x.f with sport := byteAt d o * 256 + byteAt d (o + 1), dport := 0 },
                      l4 := some (x.l4.getD o), next := none })
  | .gre =>
    let fl := byteAt d o
    let key := if bits fl 5 5 = 1 then beAt d (o + 4 + 4 * bits fl 7 7) 4 else 0
    let gp := beAt d (o + 2) 2
    let x := x.tunnel 2 key
    let x := if gp = 0x6558 then x.inner (o + ln) 0
      else if gp = 0x0800 ∨ gp = 0x86DD then x.inner (o + ln) gp else x
    ((0, 0), { x with next := none })
  | .vxlan => ((0, 0), { ((x.tunnel 1 (beAt d (o + 4) 3)).inner (o + 8) 0) with next := none })

def Parse.stop (x : Parse) (c : Nat × Nat) : Parse :=
  { x with f := { x.f with status := c.1, subtype := c.2 }, next := none }

/-- One header (R191): a header that breaks a limit is not parsed; one that fails a check, the end of the frame among them, keeps its
fields and ends the parse after it. Of a header that the frame cuts off, the fields that lie wholly in the frame are kept.
Log: 56 DEDUCED. -/
def parseStep (g : ParseCfg) (d : List Nat) (x : Parse) (k : Hdr) : Parse :=
  let ln := hdrLen d x k
  let run := if x.prev = some k then x.run + 1 else 1
  if 16 ≤ x.h then x.stop (2, 1)
  else if (k = .vlan ∨ k = .mpls) ∧ 8 < run then x.stop (2, 2)
  else if g.depth < x.pos + ln then x.stop (1, 0)
  else
    match parseHdr g d { x with h := x.h + 1, prev := some k, run := run } k ln with
    | (bad, y) => if d.length < x.pos + ln then { y with innerAt := x.innerAt }.stop (3, 5) else if bad.1 = 0 then { y with pos := y.pos + ln } else y.stop bad

/-- The parse graph from the start of a pass; at most 17 headers are reached. -/
def parseWalk (g : ParseCfg) (d : List Nat) : Nat → Parse → Parse
  | 0, x => x
  | n + 1, x =>
    match x.next with
    | none => x
    | some k => parseWalk g d n (parseStep g d x k)

/-- UDF: 16 bits after its anchor, or 0 (R194). -/
def udfOf (g : ParseCfg) (d : List Nat) (x : Parse) : Nat :=
  let base : Option Nat := if g.anchor = 0 then some 0 else if g.anchor = 1 then x.ip else x.l4
  match base with
  | some b => if b + g.ofs + 2 ≤ min g.depth d.length then beAt d (b + g.ofs) 2 else 0
  | none => 0

/-- A whole parse (R190, R191). -/
def parsePacket (g : ParseCfg) (d : List Nat) : Parse :=
  let x := parseWalk g d 18 {}
  { x with f := { x.f with tagCount := min 15 x.tags, udf := udfOf g d x } }

/-- The key's fields with their widths, from bit 639 down (Table 7-4). -/
def KeyF.fields (f : KeyF) : List (Nat × Nat) :=
  [(f.status, 4), (f.subtype, 4), (f.dir, 1), (f.pass2, 1), (f.srcType, 2), (f.srcPort, 7), (f.srcCh, 1),
   (f.tagCount, 4), (f.ipVer, 2), (f.onuRec, 14), (f.dmac, 48), (f.smac, 48), (f.etype, 16), (f.oTag, 18),
   (f.iTag, 18), (f.mplsLabel, 20), (f.pppoeSid, 16), (f.pppProto, 16), (f.sip, 128), (f.dip, 128),
   (f.dscp, 6), (f.ecn, 2), (f.proto, 8), (f.ttl, 8), (f.frag, 2), (f.tunType, 3), (f.mplsTc, 3),
   (f.sport, 16), (f.dport, 16), (f.tcpFlags, 8), (f.tunId, 24), (f.xgemRec, 18), (f.firstClass, 6),
   (f.udf, 16), (f.firstColour, 2), (0, 6)]

/-- The 640-bit key. -/
def KeyF.key (f : KeyF) : Nat := f.fields.foldl (fun n e => n * 2 ^ e.2 + e.1 % 2 ^ e.2) 0

/-- The fields that select bits 0–16 choose, as values and whole bytes (R204). -/
def KeyF.selectable (f : KeyF) (sym : Bool) : List (Nat × Nat) :=
  let o (a b : Nat) : Nat × Nat := if sym ∧ b < a then (b, a) else (a, b)
  let ip := o f.sip f.dip
  let pt := o f.sport f.dport
  [(f.srcPort * 2 + f.srcCh, 1), (f.onuRec, 2), (f.dmac, 6), (f.smac, 6), (f.etype, 2), (tagVid f.oTag, 2),
   (tagVid f.iTag, 2), (f.mplsLabel, 3), (f.pppoeSid, 2), (ip.1, 16), (ip.2, 16), (f.proto, 1), (pt.1, 2),
   (pt.2, 2), (f.tunId, 3), (f.xgemRec, 3), (f.udf, 2)]

/-- CRC-32C with a seed loaded unchanged and a complemented result (R204). -/
def crc32cSeed (seed : Nat) (l : List Nat) : Nat :=
  Nat.xor (l.foldl (crcByte 0x82F63B78) (seed % 2 ^ 32)) 0xFFFFFFFF

/-- The hash H of a profile (R204). -/
def flowHash (fields seed : Nat) (sym : Bool) (f : KeyF) : Nat :=
  let l := f.selectable sym
  let bytes := (List.range l.length).flatMap (fun i =>
    if fields.testBit i then (match l[i]? with | some e => beBytes e.2 e.1 | none => []) else [])
  let c := crc32cSeed seed bytes
  Nat.xor (c / 65536) (c % 65536)

/-- Clocks of a pass of `h` headers (Table 7-1), and its time in ns, rounded. -/
def passClocks (h : Nat) : Nat := 252 + 4 * (h - 6)

/--
Log: 62 DEDUCED. -/
def passNs (h : Nat) : Nat := (passClocks h * 4 + 3) / 6

end Sys2Proof.Machine
end

