-- ==== Sys2Proof/Machine/BufOps.lean ====
section
/-! DEFINITION. Buffer pools and buffer ownership (R232–R240). -/

namespace Sys2Proof.Machine

/-- A buffer pointer of pool `k` (0–7 on chip, 8–10 deep) at an offset (Table 9-2). -/
def bufPtr (k ofs : Nat) : Nat := (if 8 ≤ k then 2 ^ 63 + (k - 8) * 2 ^ 59 else k * 2 ^ 59) + ofs

/-- Pool and offset of a pointer; none when it names no pool of its memory or its reserved bits are not 0 (R233). -/
def ptrPool (p : Nat) : Option (Nat × Nat) :=
  let k := bits p 62 59
  if bits p 58 41 ≠ 0 ∨ 2 ^ 64 ≤ p then none
  else if bits p 63 63 = 0 then (if k < 8 then some (k, bits p 40 0) else none)
  else (if k < 3 then some (k + 8, bits p 40 0) else none)

/-- COUNT, OWNER and LAST_OWNER of a buffer; a buffer not listed is free (R237). -/
def State.buf (s : State) (p : Nat) : Nat × Nat × Nat := s.tm.bufs.getD p (0, 0, 0)

def State.setBuf (s : State) (p : Nat) (b : Nat × Nat × Nat) : State :=
  { s with tm := { s.tm with bufs := if b.1 = 0 then s.tm.bufs.del p else s.tm.bufs.ins p b } }

/-- Buffers of a pool in use, by number in the pool, ascending. -/
def State.poolUsed (s : State) (k : Nat) : List Nat :=
  s.tm.bufs.filterMap (fun e =>
    match ptrPool e.1 with
    | some (j, o) => if j = k then some (o / s.nat Pool.SIZE k) else none
    | none => none)

def State.poolFree (s : State) (k : Nat) : Nat := s.nat Pool.ACTIVE_COUNT k - (s.poolUsed k).length

/-- The share of the spill region that a deep pool of COUNT 0 takes, in bytes (Table 9-1).
Log: 70 DEDUCED. -/
def State.deepShare (s : State) (k : Nat) : Nat :=
  let spill := s.nat DdrReg.ACTIVE_SIZE_MIB 0 * 1048576
  if k = 8 then spill / 8 else if k = 9 then spill * 3 / 8 else spill / 2

/-- The `n`-th free buffer of a pool.
Log: 71 DESIGN CHOICE. -/
def nthFree (n : Nat) (used : List Nat) : Nat := used.foldl (fun i u => if u ≤ i then i + 1 else i) n

/-- LOW_WATER follows FREE (Table 9-12). -/
def State.lowWater (s : State) (k : Nat) : State :=
  let f := s.poolFree k
  let s := s.put Pool.FREE f k
  if f < s.nat Pool.LOW_WATER k then s.put Pool.LOW_WATER f k else s

/-- A buffer of pool `k` is taken. Which free one is not stated: a free value chooses (R234).
Log: 71 DESIGN CHOICE. -/
def State.take (s : State) (req k : Nat) : Nat × State :=
  let (v, s) := s.draw
  let i := nthFree (v.toNat % max 1 (s.poolFree k)) (s.poolUsed k)
  let p := bufPtr k (i * s.nat Pool.SIZE k)
  (p, (s.setBuf p (1, req, 0)).lowWater k)

/-- The next larger pool of the same memory. -/
def nextPool (k : Nat) : Option Nat := if k < 7 then some (k + 1) else if 8 ≤ k ∧ k < 10 then some (k + 1) else none

/-- Arbiter of a pool's allocations (R234). -/
abbrev arbPool (k : Nat) : Nat := 200 + k

/-- Arbiter of the operations on buffers (R239). -/
abbrev arbBuf : Nat := 220

/-- A requester that found pool `k` empty goes on at the next larger pool, or the allocation fails there (R234). -/
def State.spillUp (s : State) (k : Nat) (next : Nat → State → Option Nat × State) : Option Nat × State :=
  match nextPool k with
  | some k' => if s.flag Pool.SPILL_UP k' then next k' s else (none, s.bump Pool.ALLOC_FAIL k)
  | none => (none, s.bump Pool.ALLOC_FAIL k)

/-- Allocation in a pool, with spill-up through empty pools, each pool's grant in a clock of its own (R234): the pointer, or none
as pool-empty.
Log: 71 DESIGN CHOICE. -/
def State.allocIn (req : Nat) : Nat → Nat → Bool → State → Option Nat × State
  | 0, k, _, s => (none, s.bump Pool.ALLOC_FAIL k)
  | n + 1, k, up, s =>
    let s := s.granted (arbPool k) req
    if 0 < s.poolFree k then
      match s.take req k with
      | (p, s) => (some p, if up then s.bump Pool.SPILLED_UP_IN k else s)
    else s.spillUp k (fun k' => State.allocIn req n k' true)

/-- ALLOC(pool) of Table 9-3. -/
def State.alloc (s : State) (req k : Nat) : Option Nat × State := State.allocIn req 8 k false s

/-- The smallest pool of a memory whose size holds `n` bytes (R234). -/
def State.poolFor (s : State) (deep : Bool) (n : Nat) : Option Nat :=
  (if deep then [8, 9, 10] else List.range 8).find? (fun k => decide (n ≤ s.nat Pool.SIZE k))

def State.allocBytes (s : State) (req : Nat) (deep : Bool) (n : Nat) : Option Nat × State :=
  match s.poolFor deep n with
  | some k => s.alloc req k
  | none => (none, s)

/-- Operation code of the BUF_REJECT event (Table 14-7). -/
def BufOp.code : BufOp → Nat
  | .handover _ => 2 | .share _ _ => 3 | .release => 4 | .free => 5

/-- The first failing check of Table 9-4, or 0. -/
def State.bufCheck (s : State) (op : BufOp) (req p : Nat) : Nat :=
  match ptrPool p with
  | none => 1
  | some (k, o) =>
    let sz := s.nat Pool.SIZE k
    if s.nat Pool.ACTIVE_COUNT k * sz ≤ o then 1
    else if o % sz ≠ 0 then 2
    else
      let b := s.buf p
      if b.1 = 0 then 3
      else
        match op with
        | .handover _ => if b.2.1 ≠ req then 4 else if 2 ≤ b.1 then 6 else 0
        | .share n _ => if b.2.1 ≠ req then 4 else if 2 ≤ b.1 then 6 else if n < 2 ∨ 4096 < n then 7 else 0
        | .release => if b.1 = 1 then 8 else if b.2.2 = req then 9 else 0
        | .free => if b.2.1 ≠ req then 4 else if 2 ≤ b.1 then 5 else 0

/-- A rejected operation is counted and raised (R238). -/
def State.bufReject (s : State) (op : BufOp) (req p why : Nat) : State :=
  (s.bump Own.REJECT 0 (why - 1)).event 0x7801 idTm [a16 req, a8 op.code, a64 p, a8 why, aTime s.now]

/-- The last-holder notice of host software or a control core is a record of the event log (R237). The spec gives the record no code
and no arguments: they are uninterpreted. -/
def State.lastNotice (s : State) (id p : Nat) : State :=
  if id = idHost ∨ (0x010 ≤ id ∧ id ≤ idSecurePart) then
    s.event (Config.holderEvent id p).1 idTm (Config.holderEvent id p).2
  else s

/-- A buffer operation (Table 9-3, R238), and its reason code. At the last release but one, the last owner has its notice;
the replication engine then frees the buffer (R252). -/
def State.bufOp (s : State) (op : BufOp) (req p : Nat) : Nat × State :=
  let why := s.bufCheck op req p
  if why ≠ 0 then (why, s.bufReject op req p why)
  else
    let b := s.buf p
    match op with
    | .handover id => (0, s.setBuf p (1, id, b.2.2))
    | .share k id => (0, s.setBuf p (k, id, id))
    | .release =>
      let s := s.setBuf p (b.1 - 1, b.2.1, b.2.2)
      if b.1 = 2 then
        if b.2.2 = idRepl then (0, (s.setBuf p (0, 0, 0)).lowWater ((ptrPool p).getD (0, 0)).1)
        else (0, (s.lastNotice b.2.2 p).emit (.bufNotice b.2.2 p))
      else (0, s)
    | .free => (0, (s.setBuf p (0, 0, 0)).lowWater ((ptrPool p).getD (0, 0)).1)

/-- Operations on one buffer in one clock (R239): served in R12 order, but a FREE by the last owner comes after the releases (R260).
Log: 6 DEDUCED. -/
def State.bufClock (s : State) (p : Nat) (ops : List (Nat × BufOp)) : State :=
  let late (e : Nat × BufOp) : Bool := e.2 == .free && e.1 == (s.buf p).2.2
  let l := arbOrderBy (fun e : Nat × BufOp => e.1) (s.arb.getD arbBuf 0) ops
  (l.filter (fun e => !late e) ++ l.filter late).foldl (fun s e => (s.bufOp e.2 e.1 p).2)
    (s.servedClock arbBuf (ops.map (fun e => e.1)))

/-- An operation of the hardware in a clock of its own. -/
def State.bufAct (s : State) (req p : Nat) (op : BufOp) : State := s.bufClock p [(req, op)]

/-- The buffer of a packet passes to another owner (R240). -/
def State.bufTo (s : State) (req id : Nat) : Option Nat → State
  | some p => s.bufAct req p (.handover id)
  | none => s

/-- A packet's buffer is freed by its holder, or released when it is shared (R240). -/
def State.bufDrop (s : State) (req : Nat) (shared : Bool) : Option Nat → State
  | some p => s.bufAct req p (if shared then .release else .free)
  | none => s

end Sys2Proof.Machine
end

