-- ==== Sys2Proof/Machine/TmOps.lean ====
section
/-! DEFINITION. The queue hierarchy: admission, spill, refill, shaping, pick and dequeue (R241–R253). -/

namespace Sys2Proof.Machine

abbrev qKey (dir q : Nat) : Nat := dir * 262144 + q
abbrev nKey (dir n : Nat) : Nat := dir * 131072 + n

def State.queue (s : State) (dir q : Nat) : List QPkt := s.tm.queues.getD (qKey dir q) []

def State.setQueue (s : State) (dir q : Nat) (l : List QPkt) : State :=
  { s with tm := { s.tm with queues := if l.isEmpty then s.tm.queues.del (qKey dir q) else s.tm.queues.ins (qKey dir q) l } }

/-- Q, the on-chip bytes and the deep bytes of a queue (R246, R247). -/
def qBytes (l : List QPkt) : Nat := (l.map (fun x => x.pkt.len)).sum
def qDeep (l : List QPkt) : Nat := qBytes (l.filter (fun x => x.deep))
def qChip (l : List QPkt) : Nat := qBytes (l.filter (fun x => !x.deep))

/-- Level of a node number (Table 9-5). -/
def nodeLevel (dir n : Nat) : Nat :=
  if dir = 0 then
    if n < 130 then 1 else if 1024 ≤ n ∧ n < 5120 then 2 else if 8192 ≤ n ∧ n < 24704 then 3
    else if 32768 ≤ n ∧ n < 98304 then 4 else 0
  else
    if n < 34 then 1 else if 1024 ≤ n ∧ n < 2048 then 2 else if 8192 ≤ n ∧ n < 24576 then 3
    else if 32768 ≤ n ∧ n < 49152 then 4 else 0

/-- A node exists: level 1 always, the others once written (R241). -/
def State.nodeExists (s : State) (dir n : Nat) : Bool := nodeLevel dir n == 1 || s.hasRecord (0xB010 + dir) n

/-- A node and its ancestors up to the line, lowest level first. -/
def State.nodePath (s : State) (dir : Nat) : Nat → Nat → List Nat
  | 0, _ => []
  | f + 1, n => if nodeLevel dir n = 1 then [n] else n :: State.nodePath s dir f (s.rnat Node.PARENT n dir)

/-- The nodes above a queue, service first. -/
def State.queuePath (s : State) (dir q : Nat) : List Nat := s.nodePath dir 4 (s.rnat Queue.SERVICE q dir)

/-- The line-level ancestor of a queue. -/
def State.queueLine (s : State) (dir q : Nat) : Option Nat := (s.queuePath dir q).getLast?.filter (fun n => nodeLevel dir n == 1)

/-- The queues of a direction with packets. -/
def State.busyQueues (s : State) (dir : Nat) : List Nat :=
  s.tm.queues.filterMap (fun e => if e.1 / 262144 = dir then some (e.1 % 262144) else none)

/-- Bytes queued below a node (Table 9-15). -/
def State.backlog (s : State) (dir n : Nat) : Nat :=
  ((s.busyQueues dir).map (fun q => if (s.queuePath dir q).contains n then qBytes (s.queue dir q) else 0)).sum

/-- Children of a node: nodes by PARENT, or queues by SERVICE. The flag says which. -/
def State.children (s : State) (dir n : Nat) : List (Bool × Nat) :=
  if nodeLevel dir n = 4 then
    ((s.records (0xB000 + dir)).filter (fun q => s.rnat Queue.SERVICE q dir == n)).map (fun q => (true, q))
  else
    ((s.records (0xB010 + dir)).filter (fun m => nodeLevel dir m != 1 && s.rnat Node.PARENT m dir == n)).map (fun m => (false, m))

/-- The queue whose QINDEX is `i` under a service. -/
def State.queueAt (s : State) (dir svc i : Nat) : Option Nat :=
  (s.records (0xB000 + dir)).find? (fun q => s.rnat Queue.SERVICE q dir == svc && s.rnat Queue.QINDEX q dir == i)

/-- The service node bound to an XGEM record (R242). -/
def State.serviceOf (s : State) (x : Nat) : Option Nat :=
  (s.records 0xB010).find? (fun n => nodeLevel 0 n == 4 && s.rnat Node.XGEM_REC n == x)

/-- Configured rates and bursts of a node or queue: CIR, CBS, PIR, PBS (R249). -/
def State.rates (s : State) (isQ : Bool) (dir n : Nat) : Nat × Nat × Nat × Nat :=
  if isQ then (s.rnat Queue.CIR_KBPS n dir, s.rnat Queue.CBS_BYTES n dir, s.rnat Queue.PIR_KBPS n dir, s.rnat Queue.PBS_BYTES n dir)
  else (s.rnat Node.CIR_KBPS n dir, s.rnat Node.CBS_BYTES n dir, s.rnat Node.PIR_KBPS n dir, s.rnat Node.PBS_BYTES n dir)

/-- A byte of tokens: a rate of 1 kb/s refills one unit per ns. -/
abbrev tokByte : Nat := 8000000

/-- Tokens of both shapers at `now`. Their level before the first use is not stated: an uninterpreted value, at most the burst.
Log: 74 DESIGN CHOICE. -/
def State.shaper (s : State) (isQ : Bool) (dir n : Nat) : Shaper :=
  let r := s.rates isQ dir n
  let key := if isQ then qKey dir n else nKey dir n
  let sh := (if isQ then s.tm.queueSh else s.tm.nodeSh).getD key {}
  if sh.set then
    let dt : Int := s.now - sh.at'
    { sh with c := min (r.2.1 * tokByte) (sh.c + dt * r.1), p := min (r.2.2.2 * tokByte) (sh.p + dt * r.2.2.1), at' := s.now }
  else
    { sh with set := true, at' := s.now, c := min (r.2.1 * tokByte) (Config.shaperInit (2 * key)),
              p := min (r.2.2.2 * tokByte) (Config.shaperInit (2 * key + 1)) }

def State.setShaper (s : State) (isQ : Bool) (dir n : Nat) (sh : Shaper) : State :=
  if isQ then { s with tm := { s.tm with queueSh := s.tm.queueSh.ins (qKey dir n) sh } }
  else { s with tm := { s.tm with nodeSh := s.tm.nodeSh.ins (nKey dir n) sh } }

/-- LEAD of a queue's line (R304). -/
def State.leadOf (s : State) (dir q : Nat) : Nat :=
  match s.queueLine dir q with
  | some n => if dir = 0 then (if n = 128 then s.nat Pin.TWIN_LAUNCH_LEAD_NS else 0)
              else if n < 32 then s.nat Pin.UPL_LAUNCH_LEAD_NS else if n = 32 then s.nat Pin.TWIN_LAUNCH_LEAD_NS else 0
  | none => 0

/-- The launch time that a packet carries (R303), a TS112 time in 1/65,536 ns (R286). -/
def State.launchOf (s : State) (dir q : Nat) (p : Pkt) : Option Nat :=
  match p.launch with
  | some t => some t
  | none =>
    let d := s.nat Pin.US_LAUNCH_DELAY_NS
    if dir = 1 ∧ p.srcType = 1 ∧ d ≠ 0 ∧ s.rflag Queue.LAUNCH q dir then some (p.start * 65536 / 1000 + d * 65536) else none

/-- Start of the eligibility window of a queued packet (R253, R304), in 1/65,536 ns. -/
def State.windowAt (s : State) (dir q : Nat) (x : QPkt) : Nat :=
  match s.launchOf dir q x.pkt with
  | some l => l - s.leadOf dir q * 65536
  | none => x.admitted * 65536

/-- A queue's head can be sent: it is on chip, and launch-eligible when LAUNCH is 1 (R250, R253). -/
def State.headReady (s : State) (dir q : Nat) : Bool :=
  match s.queue dir q with
  | [] => false
  | x :: _ =>
    !x.deep &&
      (!s.rflag Queue.LAUNCH q dir ||
        (let l := s.windowAt dir q x
         decide (l ≤ s.now * 65536) && decide (s.now * 65536 < l + s.nat Tm.LAUNCH_LATE_NS * 65536)))

/-- eligible(c, pass) of R250; `com` is the COMMITTED pass.
Log: 78 DEDUCED. -/
def State.eligible (s : State) (dir : Nat) (com : Bool) (c : Bool × Nat) : Bool :=
  let r := s.rates c.1 dir c.2
  let sh := s.shaper c.1 dir c.2
  (if c.1 then s.headReady dir c.2 else decide (0 < s.backlog dir c.2)) &&
    (r.2.2.1 == 0 || decide (0 ≤ sh.p)) &&
    (!com || (decide (0 < r.1) && decide (0 ≤ sh.c)))

def State.prioOf (s : State) (dir : Nat) (c : Bool × Nat) : Nat :=
  if c.1 then s.rnat Queue.PRIORITY c.2 dir else s.rnat Node.PRIORITY c.2 dir

def State.weightOf (s : State) (dir : Nat) (c : Bool × Nat) : Nat :=
  if c.1 then s.rnat Queue.WEIGHT c.2 dir else s.rnat Node.WEIGHT c.2 dir

/-- next_dwrr(n, prio, s) of R250: the member with deficit at or after the pointer; others gain their quantum. -/
def State.dwrr (s : State) (dir n prio : Nat) (l : List (Bool × Nat)) : Nat → Option (Bool × Nat) × State
  | 0 => (none, s)
  | f + 1 =>
    let k := nKey dir n * 8 + prio
    let ptr := s.tm.ptrs.getD k 0
    match (l.find? (fun c => decide (ptr ≤ c.2))).or l.head? with
    | none => (none, s)
    | some c =>
      let sh := s.shaper c.1 dir c.2
      if 0 < sh.deficit then
        (some c, { s with tm := { s.tm with ptrs := s.tm.ptrs.ins k c.2 } })
      else
        let s := s.setShaper c.1 dir c.2 { sh with deficit := sh.deficit + s.weightOf dir c * 2048 }
        State.dwrr { s with tm := { s.tm with ptrs := s.tm.ptrs.ins k (c.2 + 1) } } dir n prio l f

/-- The members of one priority tried in turn; `sub` picks below a node. -/
def State.pickAmong (dir n prio : Nat) (sub : Nat → State → Option Nat × State) :
    Nat → List (Bool × Nat) → State → Option Nat × State
  | 0, _, s => (none, s)
  | f + 1, l, s =>
    match s.dwrr dir n prio l (24 * (l.length + 1)) with
    | (none, s) => (none, s)
    | (some c, s) =>
      if c.1 then (some c.2, s)
      else
        match sub c.2 s with
        | (some q, s) => (some q, s)
        | (none, s) => State.pickAmong dir n prio sub f (l.filter (fun d => d != c)) s

/-- The passes and priorities of pick, in order. -/
def State.pickPasses (dir n : Nat) (sub : Nat → State → Option Nat × State) :
    List (Bool × Nat) → State → Option Nat × State
  | [], s => (none, s)
  | (com, prio) :: t, s =>
    let l := (s.children dir n).filter (fun c => s.prioOf dir c == prio && s.eligible dir com c)
    match State.pickAmong dir n prio sub (l.length + 1) l s with
    | (some q, s) => (some q, s)
    | (none, s) => State.pickPasses dir n sub t s

/-- pick(n) of R250, at most five levels deep. -/
def State.pick (dir : Nat) : Nat → Nat → State → Option Nat × State
  | 0, _, s => (none, s)
  | f + 1, n, s =>
    State.pickPasses dir n (State.pick dir f)
      ([true, false].flatMap (fun com => [7, 6, 5, 4, 3, 2, 1, 0].map (fun pr => (com, pr)))) s

/-- A dequeue debits every shaper on the path by `n` bytes with the line's overhead, and lowers the deficits; an empty
member's deficit is 0 (R249, R250). -/
def State.debit (s : State) (dir q n : Nat) : State :=
  let path := s.queuePath dir q
  let ovh : Int := s.rget Node.OVH_BYTES (path.getLast?.getD 0) dir
  let d : Int := (n : Int) + ovh
  let one (s : State) (isQ : Bool) (m : Nat) (busy : Bool) : State :=
    let sh := s.shaper isQ dir m
    s.setShaper isQ dir m { sh with c := sh.c - d * tokByte, p := sh.p - d * tokByte,
                                    deficit := if busy then sh.deficit - d else 0 }
  let s := one s true q (decide (0 < qBytes (s.queue dir q)))
  path.foldl (fun s m =>
    let s := (s.rbump Node.TX_PACKETS m dir).rbumpBy Node.TX_BYTES m n dir
    if nodeLevel dir m = 1 then s else one s false m (decide (0 < s.backlog dir m))) s

/-- Packets from the head of the deep part are read until the on-chip bytes reach REFILL_AT (R247). -/
def refillMark (goal : Nat) : Nat → List QPkt → List QPkt
  | _, [] => []
  | chip, x :: t =>
    if x.deep ∧ ¬x.writing ∧ chip < goal then { x with reading := true } :: refillMark goal (chip + x.pkt.len) t
    else if x.deep then x :: t
    else x :: refillMark goal chip t

/-- An access to a deep buffer of the spill region. -/
def State.spillAccess (s : State) : Option Nat → State
  | some d => s.ddrAccess 0 d
  | none => s

def State.refill (s : State) (dir q : Nat) : State :=
  let l := s.queue dir q
  let goal := s.rnat DropP.REFILL_AT (s.rnat Queue.PROFILE q dir)
  if qChip l < goal then
    let l' := refillMark goal (qChip l) l
    (l'.filter (fun x => x.reading && !l.contains x)).foldl (fun s x => s.spillAccess x.pkt.buf) (s.setQueue dir q l')
  else s

/-- Removes the head of a queue (R250): shapers, deficits and counters follow, and the deep part refills. -/
def State.dequeue (s : State) (dir q : Nat) : Option QPkt × State :=
  match s.queue dir q with
  | [] => (none, s)
  | x :: t =>
    let s := s.setQueue dir q t
    let s := s.debit dir q x.pkt.len
    (some x, s.refill dir q)

/-- A packet leaves a queue without being sent: its bytes leave Q, deficits of emptied members are 0 (R248, R253). -/
def State.leaveQueue (s : State) (dir q : Nat) (x : QPkt) (rest : List QPkt) : State :=
  let s := s.setQueue dir q rest
  let s := s.bufDrop idTm (x.pkt.shared && !x.deep) x.pkt.buf
  let s := match x.chip with
    | some p => { s.bufDrop idTm x.pkt.shared (some p) with
                    tm := { (s.bufDrop idTm x.pkt.shared (some p)).tm with staging := s.tm.staging - x.pkt.len } }
    | none => s
  let s := (if rest.isEmpty then s.setShaper true dir q { s.shaper true dir q with deficit := 0 } else s)
  (s.queuePath dir q).foldl (fun s m =>
    if nodeLevel dir m ≠ 1 ∧ s.backlog dir m = 0 then s.setShaper false dir m { s.shaper false dir m with deficit := 0 } else s) s
    |>.refill dir q

/-- A packet that leaves a queue unsent is counted in DROP_OTHER. -/
def State.dropQueued (s : State) (dir q : Nat) (x : QPkt) (rest : List QPkt) : State :=
  (s.rbump Queue.DROP_OTHER q dir).leaveQueue dir q x rest

/-- A packet goes to deep memory (R247, R248): a deep buffer and the staging area, else it is dropped (false).
Log: 80 DEDUCED. -/
def State.spill (s : State) (dir q : Nat) (x : QPkt) : Bool × State :=
  let n := x.pkt.len
  match s.allocBytes idTm true n with
  | (some d, s) =>
    if s.tm.staging + n ≤ 4194304 then
      let s := { s with tm := { s.tm with staging := s.tm.staging + n } }
      let y := { x with deep := true, writing := true, chip := x.pkt.buf, pkt := { x.pkt with buf := some d } }
      (true, ((s.setQueue dir q (s.queue dir q ++ [y])).bump Tm.SPILLED).ddrAccess 0 d)
    else
      let s := s.bufAct idTm d .free
      (false, ((s.bump Tm.SPILL_FAIL).rbump Queue.DROP_OTHER q dir).bufDrop idTm x.pkt.shared x.pkt.buf)
  | (none, s) => (false, ((s.bump Tm.SPILL_FAIL).rbump Queue.DROP_OTHER q dir).bufDrop idTm x.pkt.shared x.pkt.buf)

/-- The threshold of a colour in a queue's drop profile. -/
def State.dropMax (s : State) (dir q colour : Nat) : Nat :=
  let i := s.rnat Queue.PROFILE q dir
  match colour with
  | 0 => s.rnat DropP.GREEN_MAX i
  | 1 => s.rnat DropP.YELLOW_MAX i
  | _ => s.rnat DropP.RED_MAX i

def dropCnt : Nat → Obj
  | 0 => Queue.DROP_GREEN
  | 1 => Queue.DROP_YELLOW
  | _ => Queue.DROP_RED

/-- Admission of a packet at a queue (R246, R253, R309), then spill where the profile says so (R247): whether the queue holds it.
Log: 80 DEDUCED. -/
def State.accept (s : State) (dir q : Nat) (x : QPkt) : Bool × State :=
  let n := x.pkt.len
  let l := s.queue dir q
  let dark := dir == 0 && (match s.queueLine dir q with
    | some n => decide (n < 128) && s.standby (n / 2)
    | none => false)
  let late := match s.launchOf dir q x.pkt with
    | some t => s.rflag Queue.LAUNCH q dir && decide ((s.now + s.nat Tm.LAUNCH_HORIZON_US * usNs) * 65536 ≤ t)
    | none => false
  if dark then (false, (s.bump TwinCnt.STANDBY_DS_DROP).bufDrop idTm x.pkt.shared x.pkt.buf)
  else if late then (false, ((s.bump Tm.LAUNCH_EARLY).rbump Queue.DROP_OTHER q dir).bufDrop idTm x.pkt.shared x.pkt.buf)
  else if s.dropMax dir q x.colour ≤ qBytes l + n then
    (false, (s.rbump (dropCnt x.colour) q dir).bufDrop idTm x.pkt.shared x.pkt.buf)
  else
    let s := (s.rbump Queue.ENQ_PACKETS q dir).rbumpBy Queue.ENQ_BYTES q n dir
    let x := { x with admitted := s.now }
    let at' := if s.inTrim then 0 else s.rnat DropP.SPILL_AT (s.rnat Queue.PROFILE q dir)
    if at' ≠ 0 ∧ (at' ≤ qChip l ∨ 0 < qDeep l) then s.spill dir q x
    else (true, s.setQueue dir q (l ++ [x]))

/-- The line node of a destination (Table 9-5). -/
def State.lineOf (s : State) (dir : Nat) : Dest → Nat
  | .xgem r => if dir = 0 then chKey (s.rnat Xg.PORT r) (s.rnat Xg.CHANNEL r) else 0
  | .member m => m
  | .twin => if dir = 0 then 128 else 32
  | .host => if dir = 0 then 129 else 33

/-- The queue of a decision (R243): the queue, or the counter of its drop. -/
def State.chooseQueue (s : State) (dir : Nat) (d : Dest) (sel queue cls : Nat) : Option Nat :=
  if sel = 1 then
    match dir, d with
    | 0, .xgem r =>
      match s.serviceOf r with
      | some svc =>
        let i := s.nat Tm.DS_CLASS_QIDX 0 cls
        (s.queueAt 0 svc i).or (s.queueAt 0 svc 0)
      | none => none
    | 0, d => some (s.rnat ClsQDs.CLASS_QUEUE ((s.lineOf 0 d - 128) * 64 + cls))
    | _, d => some (s.rnat ClsQUs.CLASS_QUEUE (s.lineOf dir d * 64 + cls))
  else some queue

/-- The queue that takes a packet, after the checks of R243; a drop is counted.
Log: 72 DEDUCED. -/
def State.findQueue (s : State) (dir : Nat) (d : Dest) (sel queue cls : Nat) : Option Nat × State :=
  match s.chooseQueue dir d sel queue cls with
  | none => (none, s.bump Tm.NO_QUEUE)
  | some q =>
    if !s.hasRecord (0xB000 + dir) q || (match dir, d with
        | 0, .xgem r => (s.serviceOf r).isNone
        | _, _ => false) then (none, s.bump Tm.NO_QUEUE)
    else if s.queueLine dir q ≠ some (s.lineOf dir d) then (none, s.bump Tm.QUEUE_MISMATCH)
    else if (match dir, d with
             | 0, .xgem r =>
               let x := s.rnat Node.XGEM_REC (s.rnat Queue.SERVICE q)
               x != r && x != 0x3FFFF
             | _, _ => false) then (none, s.bump Tm.QUEUE_MISMATCH)
    else if !s.rflag Queue.ADMIN q dir then (none, s.rbump Queue.DROP_OTHER q dir)
    else (some q, s)

/-- A policer's colour for a packet of `n` bytes (R244): buckets refilled, capped and debited.
Log: 73 DEDUCED. -/
def State.police (s : State) (i n colour : Nat) : Nat × State :=
  if i = 0 then (colour, s)
  else
    let cbs : Int := s.rnat Pol.CBS_BYTES i * tokByte
    let pbs : Int := s.rnat Pol.PBS_BYTES i * tokByte
    let b := s.tm.policers.getD i (cbs, pbs, s.now)
    let dt : Int := s.now - b.2.2
    let tc := min cbs (b.1 + dt * s.rnat Pol.CIR_KBPS i)
    let tp := min pbs (b.2.1 + dt * s.rnat Pol.PIR_KBPS i)
    let m : Int := n * tokByte
    let inC := if s.rnat Pol.MODE i = 1 then colour else 0
    let r : Nat × Int × Int :=
      if 2 ≤ inC ∨ tp < m then (2, tc, tp)
      else if inC = 1 ∨ tc < m then (1, tc, tp - m)
      else (0, tc - m, tp - m)
    let s := { s with tm := { s.tm with policers := s.tm.policers.ins i (r.2.1, r.2.2, s.now) } }
    (r.1, s.rbump (match r.1 with | 0 => Pol.GREEN | 1 => Pol.YELLOW | _ => Pol.RED) i)

/-- A DEST value of Table 7-6 in a direction; the twin and host values hold in both. -/
def destOf (dir v : Nat) : Dest :=
  if bits v 19 19 = 1 then .host else if bits v 18 18 = 1 then .twin
  else if dir = 0 then .xgem (v % 262144) else .member (v % 32)

/-- Location type and value of a destination (Table 8-2). -/
def Dest.loc : Dest → Nat × Nat
  | .xgem r => (0, r)
  | .member m => (1, m)
  | .twin => (2, 0)
  | .host => (3, 0)

end Sys2Proof.Machine
end

