-- ==== Sys2Proof/Machine/FwdOps.lean ====
section
/-! DEFINITION. The forwarding and learning unit: tables, lookup, insertion, learning and aging (chapter 8). -/

namespace Sys2Proof.Machine

/-- The 17 bytes of a form and key (R212). -/
def keyBytes (form key : Nat) : List Nat := (form % 16) :: beBytes 16 key

/-- The two candidate buckets of a key in a table of `n` buckets with a seed mask (R212). -/
def State.buckets (s : State) (n mask form key : Nat) : Nat × Nat :=
  let l := keyBytes form key
  let b1 := crc32cSeed (Nat.xor (s.nat Fwd.SEED_1) mask) l % max 1 n
  let b2 := crc32cSeed (Nat.xor (s.nat Fwd.SEED_2) mask) l % max 1 n
  (b1, if b2 = b1 then Nat.xor b1 1 else b2)

def chipBuckets : Nat := 1048576

/-- Candidates on chip and in deep memory. -/
def State.candidates (s : State) (far : Bool) (form key : Nat) : Nat × Nat :=
  if far then s.buckets (s.nat Fwd.FAR_BUCKETS) 0x5A5A5A5A form key else s.buckets chipBuckets 0 form key

/-- The ways of a table. -/
def State.waysOf (s : State) (far : Bool) : Tab FwdEnt := if far then s.fwd.far else s.fwd.ways

def State.setWays (s : State) (far : Bool) (t : Tab FwdEnt) : State :=
  let s := if far then { s with fwd := { s.fwd with far := t } } else { s with fwd := { s.fwd with ways := t } }
  if far then s.put Fwd.ENTRIES_FAR t.length else s.put Fwd.ENTRIES_ONCHIP t.length

def State.putWay (s : State) (far : Bool) (i : Nat) (e : FwdEnt) : State := s.setWays far ((s.waysOf far).ins i e)
def State.delWay (s : State) (far : Bool) (i : Nat) : State := s.setWays far ((s.waysOf far).del i)

/-- The place of a key in a table: bucket × 4 + way. -/
def State.findWay (s : State) (far : Bool) (form key : Nat) : Option Nat :=
  (s.waysOf far).findKey? (fun _ e => e.form == form && e.key == key)

/-- The place of a key on chip, or else in deep memory. -/
def State.findEntry (s : State) (form key : Nat) : Option (Bool × Nat × FwdEnt) :=
  match s.findWay false form key with
  | some i => some (false, i, (s.fwd.ways.getD i {}))
  | none => (s.findWay true form key).map (fun i => (true, i, s.fwd.far.getD i {}))

/-- The first free way of a bucket. -/
def State.freeWay (s : State) (far : Bool) (b : Nat) : Option Nat :=
  ((List.range 4).map (fun w => b * 4 + w)).find? (fun i => ((s.waysOf far).find? i).isNone)

/-- The other candidate bucket of the entry at a way. -/
def State.otherBucket (s : State) (far : Bool) (i : Nat) : Nat :=
  let e := (s.waysOf far).getD i {}
  let c := s.candidates far e.form e.key
  if c.1 = i / 4 then c.2 else c.1

/-- Breadth-first search for a cuckoo path (R218): `paths` hold the ways to move, last first, with the bucket reached. -/
def State.cuckooSearch (s : State) (far : Bool) : Nat → List (Nat × List Nat) → List Nat → Option (List Nat × Nat)
  | 0, _, _ => none
  | n + 1, paths, seen =>
    let next := paths.flatMap (fun p => (List.range 4).map (fun w =>
      let i := p.1 * 4 + w
      (s.otherBucket far i, i :: p.2)))
    match next.find? (fun p => (s.freeWay far p.1).isSome) with
    | some p => some (p.2, p.1)
    | none =>
      let fresh := next.foldl (fun (acc : List (Nat × List Nat)) p =>
        if seen.contains p.1 || acc.any (fun q => q.1 == p.1) then acc else acc ++ [p]) []
      if fresh.isEmpty then none
      else State.cuckooSearch s far n fresh (seen ++ fresh.map (fun p => p.1))

/-- The moves of a path, from its far end (R219): each entry goes to the free way of its other bucket. -/
def State.cuckooMoves (s : State) (far : Bool) : List Nat → State
  | [] => s
  | i :: t =>
    let e := (s.waysOf far).getD i {}
    match s.freeWay far (s.otherBucket far i) with
    | some j => State.cuckooMoves ((s.putWay far j e).delWay far i) far t
    | none => State.cuckooMoves s far t

/-- Insertion into one table (R218): a free way of b1, then b2, then a cuckoo path.
Log: 65 DEDUCED. -/
def State.insertIn (s : State) (far : Bool) (e : FwdEnt) : Option State :=
  if far ∧ s.nat Fwd.FAR_BUCKETS = 0 then none
  else
    let c := s.candidates far e.form e.key
    match (s.freeWay far c.1).or (s.freeWay far c.2) with
    | some i => some (s.putWay far i e)
    | none =>
      match s.cuckooSearch far (s.nat Fwd.MAX_KICKS) [(c.1, []), (c.2, [])] [c.1, c.2] with
      | none => none
      | some (path, _) =>
        let s := s.cuckooMoves far path
        (((s.freeWay far c.1).or (s.freeWay far c.2))).map (fun i => s.putWay far i e)

/-- Deep memory takes an entry; FAR is set on its on-chip candidates (R212). -/
def State.markFar (s : State) (form key : Nat) : State :=
  let c := s.candidates false form key
  { s with fwd := { s.fwd with farFlags := ([c.1, c.2] ++ s.fwd.farFlags).eraseDups } }

/-- The home pipeline of a key (R222). -/
def State.homeOf (s : State) (form key : Nat) : Nat :=
  let h := crc32cSeed 0xFFFFFFFF (keyBytes form key)
  if s.power.drained then ([0, 1, 4, 5] : List Nat).getD (h % 4) 0 else h % 8

/-- Insertion on chip, else in deep memory (R218). A failure raises FWD_TABLE_FULL at most once per second. -/
def State.insert (s : State) (e : FwdEnt) : Bool × State :=
  match s.insertIn false e with
  | some s => (true, s)
  | none =>
    match (if s.flag Fwd.FAR_ENABLE then s.insertIn true e else none) with
    | some s => (true, s.markFar e.form e.key)
    | none =>
      if s.fwd.fullSec = s.sec + 1 then (false, s)
      else (false, { s with fwd := { s.fwd with fullSec := s.sec + 1 } }.event 0x7001 (idPipe (s.homeOf e.form e.key)) [a8 e.form, aOct 16 (ofLe (beBytes 16 e.key))])

/-- The answers of R214; QUARANTINED comes before WRONG_SIDE. -/
inductive Answer where
  | hit (locType dest : Nat)
  | miss | far | wrongSide | quarantined
  deriving DecidableEq, Repr

/-- The lookup key of a form (Table 8-1); form 0 when it cannot be built (R209). -/
def State.lookupKey (s : State) (f : KeyF) (cls form : Nat) (src : Bool) : Nat × Nat :=
  if form = 1 then
    (1, s.rnat FidMap.FID (f.dir * 4096 + tagVid f.oTag) * 2 ^ 48 + (if src then f.smac else f.dmac))
  else if form = 2 ∧ f.ipVer = 1 then (2, s.nat Lkp.VRF f.dir cls * 2 ^ 32 + f.dip % 2 ^ 32)
  else if form = 3 ∧ f.ipVer = 2 then (3, f.dip)
  else if form = 4 ∧ f.dir = 1 then (4, f.onuRec * 2 ^ 24 + tagVid f.oTag * 2 ^ 12 + tagVid f.iTag)
  else (0, 0)

/-- The best associative entry among keys: highest PRIORITY, then the lower record (R215). -/
def State.assocHit (s : State) (keys : List (Nat × Nat)) : Option Nat :=
  let hits := (s.od.filterMap (fun e =>
    if e.1.index = 0xA600 ∧ e.1.sub = 6 ∧ e.2 = 1 then some e.1.recNo else none)).filter (fun r =>
      keys.any (fun k => s.rnat Assoc.FORM r == k.1 && s.rnat Assoc.KEY r == k.2))
  hits.foldl (fun best r =>
    match best with
    | none => some r
    | some b => if s.rnat Assoc.PRIORITY b < s.rnat Assoc.PRIORITY r then some r else some b) none

/-- Every valid associative entry of the keys has its HIT set (R215). -/
def State.assocHits (s : State) (keys : List (Nat × Nat)) : State :=
  let hits := (s.od.filterMap (fun e =>
    if e.1.index = 0xA600 ∧ e.1.sub = 6 ∧ e.2 = 1 then some e.1.recNo else none)).filter (fun r =>
      keys.any (fun k => s.rnat Assoc.FORM r == k.1 && s.rnat Assoc.KEY r == k.2))
  { s with fwd := { s.fwd with assoc := hits.foldl (fun t r => t.ins r (Nat.lor (t.getD r 0) 4)) s.fwd.assoc } }

/-- Sets HIT on the on-chip entry of a key (R215, R219). -/
def State.setHit (s : State) (form key : Nat) : State :=
  match s.findWay false form key with
  | some i => s.setWays false (s.fwd.ways.ins i { s.fwd.ways.getD i {} with hit := true })
  | none => s

/-- A candidate bucket of the key has FAR set. -/
def State.hasFar (s : State) (k : Nat × Nat) : Bool :=
  let c := s.candidates false k.1 k.2
  s.fwd.farFlags.contains c.1 || s.fwd.farFlags.contains c.2

/-- A FAR answer starts the promotions of its keys that have none pending; at most 4,096 may be pending, and an answer that finds the set
full counts once and starts none (R217). -/
def State.startPromotions (s : State) (l : List (Nat × Nat)) : State :=
  let fresh := (l.filter (fun k => !s.fwd.promos.contains k)).eraseDups
  if fresh.isEmpty then s
  else if 4096 ≤ s.fwd.promos.length then s.bump Fwd.PROMOTE_DROP
  else { s with fwd := { s.fwd with promos := (s.fwd.promos ++ fresh).take 4096 } }

/-- A lookup of a packet's destination in the slot (R214–R216).
Log: 63 DEDUCED. -/
def State.lookup (s : State) (f : KeyF) (cls : Nat) : Answer × State :=
  let keys := ([s.nat Lkp.KEY_FORM_1 f.dir cls, s.nat Lkp.KEY_FORM_2 f.dir cls].map
    (fun fm => s.lookupKey f cls fm false)).filter (fun k => k.1 != 0)
  let found := keys.filter (fun k => (s.findWay false k.1 k.2).isSome)
  let s := found.foldl (fun s k => s.setHit k.1 k.2) s
  let suits (lt : Nat) : Bool := 2 ≤ lt || lt == f.dir
  let judge (s : State) (lt d : Nat) (quar : Bool) : Answer × State :=
    if quar ∧ s.nat Fwd.QUAR_ACTION = 1 then (.quarantined, s)
    else if suits lt then (.hit lt d, s) else (.wrongSide, s.bump Fwd.WRONG_SIDE)
  match s.assocHit keys with
  | some r => judge ((s.assocHits keys).rbump Assoc.HITS r) (s.rnat Assoc.LOC_TYPE r) (s.rnat Assoc.DEST r) false
  | none =>
    match found with
    | k :: _ =>
      let e := s.fwd.ways.getD ((s.findWay false k.1 k.2).getD 0) {}
      judge s e.locType e.dest e.quar
    | [] =>
      let fars := keys.filter (fun k => s.hasFar k)
      if fars.isEmpty then (.miss, s.bump Fwd.LOOKUP_MISS)
      else (.far, (s.bump Fwd.LOOKUP_FAR).startPromotions fars)

/-- H of R222. -/
def homeHash (form key : Nat) : Nat := crc32cSeed 0xFFFFFFFF (keyBytes form key)

/-- The 256-bit message of Table 8-3. -/
def Learn.word (m : Learn) : Nat :=
  1 * 2 ^ 252 + 1 * 2 ^ 248 + m.src % 4096 * 2 ^ 236 + m.locType % 4 * 2 ^ 234 + m.loc % 2 ^ 20 * 2 ^ 214 +
    (if m.fromPeer then 2 ^ 213 else 0) + m.timeNs % 2 ^ 32 * 2 ^ 160 + m.hash % 2 ^ 32 * 2 ^ 128 + m.key % 2 ^ 128

/-- A learning message enters the queue of station `n`, which holds 256, else it is dropped (R222).
Log: 68 DEDUCED. -/
def State.sendLearn (s : State) (n : Nat) (m : Learn) : State :=
  let x := s.pipes.getD n {}
  if 256 ≤ x.learn.length then s.bump Fwd.LEARN_DROP
  else { s with pipes := s.pipes.ins n { x with learn := x.learn ++ [{ m with at' := s.now, hash := homeHash 1 m.key }] } }

/-- The next station of the ring: PL0 to PL7 in a loop, those that Trim powers off left out (R222).
Log: 68 DEDUCED. -/
def State.nextStation (s : State) (n : Nat) : Nat :=
  if s.power.drained then ([1, 4, 4, 4, 5, 0, 0, 0] : List Nat).getD n 0 else (n + 1) % 8

/-- The oldest message at station `n` for another home moves one hop (R222).
Log: 68 DEDUCED. -/
def State.ringHop (s : State) (n : Nat) : State :=
  let x := s.pipes.getD n {}
  match x.learn.find? (fun m => s.homeOf 1 m.key != n) with
  | none => s
  | some m =>
    ({ s with pipes := s.pipes.ins n { x with learn := x.learn.erase m } }).sendLearn (s.nextStation n) { m with ring := true }

/-- Location type of a packet source (R220); host DMA packets have none. -/
def Pkt.locType (p : Pkt) : Option Nat :=
  match p.srcType with
  | 0 => some 1
  | 1 => some 0
  | 3 => some 2
  | _ => none

/-- The learning probe of a packet in its slot (R220). -/
def State.probe (s : State) (p : Pkt) (f : KeyF) (n : Nat) : State :=
  match p.locType with
  | none => s
  | some lt =>
    let k := (s.lookupKey f 0 1 true).2
    let m : Learn := { src := idPipe n, locType := lt, loc := p.srcLoc, timeNs := s.now % 2 ^ 32, key := k }
    match s.findWay false 1 k with
    | none => s.sendLearn n m
    | some i =>
      let e := s.fwd.ways.getD i {}
      let same := e.locType == lt && e.dest == p.srcLoc
      let s := if same then s.setHit 1 k else s
      if !same || e.aged then s.sendLearn n m else s

/-- A commit or move of a PON location goes to the twin peer (R227).
Log: 64 DEDUCED. -/
def State.learnTwin (s : State) (e : FwdEnt) (m : Learn) : State :=
  if s.flag Fwd.TWIN_LEARN ∧ e.locType = 0 ∧ !m.fromPeer then
    s.ctrlBytes 5 0 [(m.word : Int)] (beBytes 32 m.word)
  else s

/-- An entry changed where it stands. -/
def State.putEntry (s : State) (far : Bool) (i : Nat) (e : FwdEnt) : State := s.setWays far ((s.waysOf far).ins i e)

/-- An entry whose quarantine has ended is gone before a message is handled (R225, R228). -/
def State.quarEnd (s : State) (key : Nat) : State :=
  match s.findEntry 1 key with
  | some (far, i, e) => if e.quar ∧ e.quarUntil ≤ s.now then s.delWay far i else s
  | none => s

/-- learn(m, now) of R223, with the move count of R224. A window keeps the length in force when it opened (R230).
Log: 64 DEDUCED, 65 DEDUCED. -/
def State.learn (s : State) (m : Learn) : State :=
  let s := s.quarEnd m.key
  match s.findEntry 1 m.key with
  | none =>
    let e : FwdEnt := { form := 1, key := m.key, locType := m.locType, dest := m.loc, fromPeer := m.fromPeer }
    (match s.insert e with
     | (true, s) => (s.bump Fwd.LEARN_COMMITS).learnTwin e m
     | (false, s) => s.bump Fwd.LEARN_TABLE_FULL)
  | some (far, i, e) =>
    let same := e.locType == m.locType && e.dest == m.loc
    if e.static then (if same then s else s.bump Fwd.STATIC_CONFLICT)
    else if e.quar then s.bump Fwd.QUAR_IGNORED
    else if same then s.putEntry far i { e with aged := false, hit := true, cand := none }
    else
      let held : Option Nat := match e.cand with
        | some (t, d, stop) => if t = m.locType ∧ d = m.loc then some stop else none
        | none => none
      match held with
      | none =>
        (s.putEntry far i { e with cand := some (m.locType, m.loc, s.now + s.nat Fwd.MOVE_HOLD_MS * msNs) }).bump Fwd.MOVE_SUPPRESSED
      | some stop =>
        if s.now < stop then s.bump Fwd.MOVE_SUPPRESSED
        else
          let cnt := (if e.moveSec = s.sec then e.moveCount else 0) + 1
          let quar := decide (s.nat Fwd.MOVE_LIMIT < cnt)
          let e' := { e with locType := m.locType, dest := m.loc, cand := none, fromPeer := m.fromPeer,
                             moveSec := s.sec, moveCount := cnt, quar := quar,
                             quarUntil := s.now + s.nat Fwd.QUARANTINE_S * secNs }
          let s := ((s.putEntry far i e').bump Fwd.MOVES).learnTwin e' m
          if quar then
            (s.bump Fwd.QUARANTINES).event 0x7002 (idPipe (s.homeOf 1 m.key))
              [a8 1, aOct 16 (ofLe (beBytes 16 e.key)), a8 e.locType, a32 e.dest, a8 m.locType, a32 m.loc]
          else s

/-- The message that home `n` handles next, if it is not behind a rival of this clock (R222, R228): the earliest arrived; of the clock's
oldest ring message and oldest local one, R12 picks. `host` is a host write that waits as a local message of identity 0x001. -/
def State.homeNext (s : State) (n : Nat) (host : Bool) : Option Learn :=
  let l := (s.pipes.getD n {}).learn.filter (fun m => s.homeOf 1 m.key == n)
  let heads := ((l.find? (fun m => m.ring)).toList ++ (l.find? (fun m => !m.ring)).toList)
  match (heads.map (fun m => m.at')).min? with
  | none => none
  | some t =>
    if host ∧ s.now < t then none
    else
      let c := heads.filter (fun m => m.at' == t)
      let rival := host && decide (s.now ≤ t)
      match arbPick (s.arb.getD (120 + n) 0) (c.map (fun m => m.src) ++ (if rival then [idHost] else [])) with
      | some id => c.find? (fun m => m.src == id)
      | none => none

/-- The home handles its next message: whether there was one.
Log: 68 DEDUCED. -/
def State.homeTurn (s : State) (n : Nat) (host : Bool) : Bool × State :=
  match s.homeNext n host with
  | none => (false, s)
  | some m =>
    let x := s.pipes.getD n {}
    (true, ((({ s with pipes := s.pipes.ins n { x with learn := x.learn.erase m } }).granted (120 + n) m.src).learn m))

/-- The messages that the home handles before a host write of this clock. -/
def State.hostTurns (n : Nat) : Nat → State → State
  | 0, s => s
  | f + 1, s =>
    match s.homeTurn n true with
    | (true, s) => State.hostTurns n f s
    | (false, s) => s

/-- A host write passes the home station as a local message of identity 0x001 (R228). -/
def State.hostTurn (s : State) (form key : Nat) : State :=
  let n := s.homeOf form key
  (State.hostTurns n 256 s).granted (120 + n) idHost

/-- The visit of one entry by the aging sweeper (R226). -/
def visit (e : FwdEnt) : Option FwdEnt :=
  if e.static ∨ e.quar then some e
  else if e.hit then some { e with hit := false, aged := false }
  else if e.aged then none
  else some { e with aged := true }

/-- FAR flags recomputed from deep memory (R212). -/
def State.recomputeFar (s : State) : State :=
  { s with fwd := { s.fwd with farFlags := [] } } |> fun s =>
    s.fwd.far.foldl (fun s e => s.markFar e.2.form e.2.key) s

/-- Entry flags, bits 174:170 of Table 8-2. -/
def FwdEnt.flags (e : FwdEnt) : Nat :=
  (if e.static then 1 else 0) + (if e.quar then 2 else 0) + (if e.hit then 4 else 0) +
  (if e.aged then 8 else 0) + (if e.fromPeer then 16 else 0)

/-- The 192-bit entry of Table 8-2. -/
def FwdEnt.word (e : FwdEnt) : Nat :=
  e.key % 2 ^ 128 + e.form * 2 ^ 128 + e.locType * 2 ^ 132 + e.dest * 2 ^ 134 + e.flags * 2 ^ 170 + 2 ^ 191

end Sys2Proof.Machine
end

