-- ==== Sys2Proof/Machine/PipeOps.lean ====
section
/-! DEFINITION. The packet pipelines: arrival, classification, resolution and recirculation (R186–R203). -/

namespace Sys2Proof.Machine

def State.pipe (s : State) (n : Nat) : Pipeline := s.pipes.getD n {}
def State.updPipe (s : State) (n : Nat) (f : Pipeline → Pipeline) : State := { s with pipes := s.pipes.upd n {} f }

/-- The pipeline of a source (R27, R28, R33): an uplink group, a PON port, the twin link, or a DMA packet of a direction. -/
def State.pipeOfGroup (s : State) (g : Nat) : Nat := if s.power.trim then g % 2 else g % 4
def State.pipeOfPort (s : State) (p : Nat) : Nat := if s.power.trim then 4 + p / 32 else 4 + p / 16
def State.pipeOfTwin (s : State) : Nat := if s.power.trim then 1 else 3
def pipeOfDma (dir : Nat) : Nat := if dir = 0 then 0 else 4

/-- Direction of a pipeline: PL0–PL3 downstream, PL4–PL7 upstream. -/
def pipeDir (n : Nat) : Nat := if n < 4 then 0 else 1

/-- A packet is on its way to a pipeline. -/
def State.arrive (s : State) (n : Nat) (p : Pkt) : State :=
  s.updPipe n (fun x => { x with arriving := x.arriving ++ [p] })

/-- The ingress FIFO has no room for a packet (R189): 512 packets, or 32 KiB of first PARSE_DEPTH bytes.
Log: 55 DEDUCED. -/
def State.ingressFull (s : State) (n : Nat) (p : Pkt) : Bool :=
  let x := s.pipe n
  let sz (q : Pkt) : Nat := min q.len (s.nat Cls.PARSE_DEPTH)
  decide (512 ≤ x.ingress.length) || decide (32768 < (x.ingress.map sz).sum + sz p)

/-- The packet that is written next: the earliest, and among those of one clock by R12 (R188). -/
def nextArrival (ptr : Nat) (l : List Pkt) : Option Pkt :=
  match (l.map (fun p => p.at')).min? with
  | none => none
  | some t =>
    let c := l.filter (fun p => p.at' == t)
    match arbPick ptr (c.map (fun p => p.srcId)) with
    | some id => c.find? (fun p => p.srcId == id)
    | none => none

/-- Arbiters of the pipelines: FIFO writes and input slots. -/
abbrev arbWrite (n : Nat) : Nat := 100 + n
abbrev arbSlot (n : Nat) : Nat := 110 + n
abbrev arbPolicer (i : Nat) : Nat := 1000 + i

/-- The ingress clock starts when it stood still (R29, R31). -/
def State.wakePipe (s : State) (n : Nat) : State :=
  let x := s.pipe n
  let still := !x.clock || (x.ingress.isEmpty && x.recirc.isEmpty && decide (x.idleAt + usNs < s.now))
  let s := if still then s.bump Pipe.WAKES n else s
  s.updPipe n (fun x => { x with clock := true })

/-- Average time from close to handover over the last second (Table 4-5). -/
def State.computeAvg (s : State) : Nat :=
  let l := s.computeLog.filter (fun e => decide (s.now < e.1 + secNs))
  if l.isEmpty then 0 else (l.map (fun e => e.2)).sum / l.length

/-- Average wait in the recirculation FIFO over the last second (R207). -/
def State.recircAvg (s : State) (n : Nat) : Nat :=
  let l := (s.pipe n).waits.filter (fun w => decide (s.now < w.1 + secNs))
  if l.isEmpty then 0 else (l.map (fun w => w.2)).sum / l.length

/-- A data packet of the twin link toward the PON comes to its pipeline (R27, R33, R310). -/
def State.twinData (s : State) (n : Nat) (link : Option (List Nat)) : State :=
  match link with
  | some d => if n = s.pipeOfTwin ∧ s.paired then s.arrive n { data := d, srcType := 3, srcId := idPeer, at' := s.now } else s
  | none => s

/-- One arrival at an ingress FIFO (R189, R234, R235). -/
def State.ingress (s : State) (n : Nat) : State :=
  let here := (s.pipe n).arriving.filter (fun p => decide (p.at' ≤ s.now))
  let drops := here.filter (fun p => p.srcType == 0 || p.srcType == 3)
  let pick := match nextArrival (s.arb.getD (arbWrite n) 0) here with
    | some p => if s.ingressFull n p ∧ (p.srcType = 1 ∨ p.srcType = 2) ∧ p.len ≤ 16384
                then nextArrival (s.arb.getD (arbWrite n) 0) drops else some p
    | none => none
  match pick with
  | none => s
  | some p =>
    let dir := pipeDir n
    let s := (s.updPipe n (fun x => { x with arriving := x.arriving.erase p })).grantedAt (arbWrite n) p.srcId p.at'
    let done (s : State) (st : Nat) : State := match p.desc with
      | some (c, k) => { s with tm := { s.tm with dmaDone := s.tm.dmaDone ++ [(c, k, st, 0)] } }
      | none => s
    if 16384 < p.len then done (s.bump Tm.TOO_LONG) 0
    else if s.ingressFull n p then s.bump Pipe.INGRESS_DROP n
    else
      match s.allocBytes p.srcId false p.len with
      | (none, s) =>
        if p.desc.isSome then done s 1
        else s.bump (if dir = 0 then Tm.ARRIVAL_DROP_DS else Tm.ARRIVAL_DROP_US)
      | (some b, s) =>
        let s := s.wakePipe n
        let s := s.updPipe n (fun x => { x with ingress := x.ingress ++ [{ p with buf := some b, at' := s.now }] })
        done s 0

/-- An action of Table 7-6. -/
structure Act where
  cls : Nat := 0
  colour : Nat := 0
  queueSel : Nat := 0
  queue : Nat := 0
  policer : Nat := 0
  mode : Nat := 0
  dest : Nat := 0
  profile : Nat := 0
  table : Nat := 0
  decap : Bool := false
  learn : Bool := false
  hint : Bool := false
  tagOp : Nat := 0
  tagPcp : Nat := 0
  tagVid : Nat := 0
  reason : Nat := 0
  deriving DecidableEq, Repr

def actOf (v : Nat) : Act :=
  { cls := bits v 127 122, colour := bits v 121 120, queueSel := bits v 119 118, queue := bits v 117 100,
    policer := bits v 99 84, mode := bits v 83 81, dest := bits v 80 61, profile := bits v 60 58,
    table := bits v 57 53, decap := bits v 52 52 == 1, learn := bits v 51 51 == 1, hint := bits v 50 50 == 1,
    tagOp := bits v 49 47, tagPcp := bits v 46 44, tagVid := bits v 43 32, reason := bits v 31 24 }

/-- The checks of R200 on an action: the result code. -/
def actCheck (v : Nat) : Nat :=
  let a := actOf v
  if bits v 23 0 ≠ 0 ∨ a.queueSel = 3 ∨ a.mode = 7 ∨ 5 ≤ a.tagOp then rcRange
  else if a.mode = 2 ∧ a.queueSel = 2 then rcConsistency else rcOk

/-- The checks of R200 on a bank's default action. -/
def defaultCheck (v : Nat) : Nat :=
  let a := actOf v
  if bits v 23 0 ≠ 0 ∨ a.queueSel = 3 ∨ a.mode = 7 ∨ 5 ≤ a.tagOp then rcRange
  else if a.mode = 2 ∨ a.mode = 6 ∨ a.queueSel = 2 then rcConsistency else rcOk

def State.defaultAct (s : State) (bank : Nat) : Act :=
  actOf (s.nat (if bank = 0 then Cls.DEFAULT_A else Cls.DEFAULT_B))

/-- The valid entries of a bank, by record number. -/
def State.validRules (s : State) (bank : Nat) : List Nat :=
  s.od.filterMap (fun e => if e.1.index = 0xA800 + bank ∧ e.1.sub = 5 ∧ e.2 = 1 then some e.1.recNo else none)

/-- The winning entry for a key (R196): highest PRIORITY, then the lower record number. -/
def State.classify (s : State) (bank key : Nat) : Option Nat :=
  let hits := (s.validRules bank).filter (fun r =>
    Nat.land key (s.rnat Rule.MASK r bank) == Nat.land (s.rnat Rule.KEY r bank) (s.rnat Rule.MASK r bank))
  hits.foldl (fun best r =>
    match best with
    | none => some r
    | some b => if s.rnat Rule.PRIORITY b bank < s.rnat Rule.PRIORITY r bank then some r else some b) none

/-- The parser's configuration. -/
def State.parseCfg (s : State) : ParseCfg :=
  { depth := s.nat Cls.PARSE_DEPTH, tpids := [s.nat Cls.TPID_0, s.nat Cls.TPID_1, s.nat Cls.TPID_2, s.nat Cls.TPID_3],
    vxlan := s.nat Cls.VXLAN_PORT, gre := s.flag Cls.GRE_ENABLE, inner := s.flag Cls.MPLS_INNER_ETH,
    anchor := s.nat Cls.UDF_ANCHOR, ofs := s.nat Cls.UDF_OFFSET }

/-- What a pass carries through its stages. -/
structure Pass where
  n : Nat := 0
  pkt : Pkt := {}
  bank : Nat := 0
  second : Bool := false
  x : Parse := {}
  deriving DecidableEq, Repr

def Pass.key (q : Pass) : KeyF := q.x.f

/-- Colour of an action: 3 takes it from the outer tag's DEI (Table 7-6). -/
def Act.colourOf (a : Act) (f : KeyF) : Nat := if a.colour = 3 then tagDei f.oTag else a.colour

/-- AUX of a trap-ring record (Table 13-8).
Log: 76 DESIGN CHOICE. -/
def trapAux (reason : Nat) (rule : Bool) (dir : Nat) (p : Pkt) : Nat :=
  reason % 256 + (if rule then 256 else 0) + dir * 512 + p.srcType % 4 * 1024 + p.srcPort % 128 * 4096 + p.srcCh % 2 * 524288

/-- A packet goes to a trap ring; its buffer passes to the DMA engine (R240). -/
def State.trap (s : State) (q : Pass) (reason : Nat) (rule : Bool) : State :=
  let dir := pipeDir q.n
  let s := s.bufTo q.pkt.srcId idDma q.pkt.buf
  { s with tm := { s.tm with toHost := s.tm.toHost ++
      [{ ch := if dir = 0 then 8 else 9, pkt := q.pkt, aux := trapAux reason rule dir q.pkt }] } }

/-- The copy of COPY: its bytes go to the trap ring without the buffer. -/
def State.trapCopy (s : State) (q : Pass) (reason : Nat) : State :=
  let dir := pipeDir q.n
  { s with tm := { s.tm with toHost := s.tm.toHost ++
      [{ ch := if dir = 0 then 8 else 9, pkt := { q.pkt with buf := none }, aux := trapAux reason true dir q.pkt }] } }

/-- A dropped packet's source frees its buffer (R240). -/
def State.pipeDrop (s : State) (q : Pass) : State := s.bufDrop q.pkt.srcId false q.pkt.buf

/-- An enqueue decision leaves for the traffic manager, with the buffer (R198, R240). The DEI of a pushed tag is not stated.
Log: 60 DESIGN CHOICE. -/
def State.decide' (s : State) (q : Pass) (a : Act) (d : Dest) (flood : Option Nat) (queue : Nat) : State :=
  let s := s.bufTo q.pkt.srcId idTm q.pkt.buf
  let (dei, s) := if a.tagOp = 1 then (let r := s.draw; (r.1.toNat % 2, r.2)) else (0, s)
  let tag := if a.tagOp = 0 then [] else [a.tagOp, a.tagPcp, a.tagVid, dei, q.x.outer, s.nat Cls.TPID_0]
  let r : Decision :=
    { pkt := { q.pkt with tag := tag }, dir := pipeDir q.n, dest := d, flood := flood, queueSel := a.queueSel,
      queue := queue, cls := a.cls, colour := a.colourOf q.key, policer := a.policer, hint := a.hint,
      udp := q.x.udp, pipe := q.n, at' := s.now }
  { s with tm := { s.tm with decisions := s.tm.decisions ++ [r] } }

/-- Code of an answer for the miss trap (R216). -/
def Answer.code : Answer → Nat
  | .hit _ _ => 0
  | .miss => 1
  | .far => 2
  | .wrongSide => 3
  | .quarantined => 4

/-- Destination of a location (R216). -/
def destOfLoc (lt d : Nat) : Dest :=
  match lt with
  | 0 => .xgem d
  | 1 => .member (d % 32)
  | 2 => .twin
  | _ => .host

/-- An enqueue decision, drop or trap from an action (R197, R198). `v` is the indirection value; `look` the lookup's answer. -/
def State.emitAct (s : State) (q : Pass) (a : Act) (v : Nat) (look : Answer) : State :=
  let dir := pipeDir q.n
  let queue := if a.queueSel = 2 then v else a.queue
  match a.mode with
  | 3 => s.pipeDrop q
  | 4 => s.trap q a.reason true
  | 1 => s.decide' q a (destOf dir a.dest) none queue
  | 2 => s.decide' q a (destOf dir v) none queue
  | _ =>
    let s := if a.mode = 5 then s.trapCopy q a.reason else s
    match look with
    | .hit lt d => s.decide' q a (destOfLoc lt d) none queue
    | ans =>
      let md := s.nat Lkp.MISS_DEST dir a.cls
      match s.nat Lkp.MISS_ACTION dir a.cls with
      | 0 => s.pipeDrop q
      | 1 => s.decide' q a (destOf dir md) none queue
      | 2 =>
        let g := if s.nat Lkp.KEY_FORM_1 dir a.cls = 1 then s.rnat FidMap.FID (dir * 4096 + tagVid q.key.oTag) else md % 65536
        s.decide' q a (destOf dir md) (some g) queue
      | _ => s.trap q (0xF0 + ans.code) true

/-- The bank's default action taken (Table 7-9), with its own lookup. -/
def State.useDefault (s : State) (q : Pass) : State :=
  let a := s.defaultAct q.bank
  let s := s.bump (if q.bank = 0 then Cls.DEFAULT_HITS_A else Cls.DEFAULT_HITS_B)
  if a.mode = 0 ∨ a.mode = 5 then
    match s.lookup q.key a.cls with
    | (ans, s) => s.emitAct q a 0 ans
  else s.emitAct q a 0 .miss

/-- exception(p, c) of R198 and the exception actions of R193. -/
def State.exception (s : State) (q : Pass) (code subtype : Nat) (count : Bool) : State :=
  let s := if count then s.bump Exc.EXC_COUNT q.n (code * 16 + subtype) else s
  match s.nat Cls.EXC_ACTION 0 (code - 1) with
  | 0 => s.useDefault q
  | 1 => s.pipeDrop q
  | _ => s.trap q (code * 16 + subtype) false

/-- The inner packet of a tunnel (R202).
Log: 58 DEDUCED. -/
def decap (d : List Nat) (x : Parse) : List Nat :=
  match x.innerAt with
  | none => d
  | some (o, 0) => d.drop o
  | some (o, et) => d.take 12 ++ beBytes 2 et ++ d.drop o

/-- INFLIGHT_OLD: packets of the bank that is not active (R201). A pass is one step, so only recirculating ones remain.
Log: 54 DESIGN CHOICE. -/
def State.inflight (s : State) : State :=
  let old := 1 - s.nat Cls.ACTIVE_BANK
  let n := (s.pipes.map (fun e => (e.2.recirc.filter (fun r => r.bank == old)).length)).sum
  s.put Cls.INFLIGHT_OLD (if s.nat Cls.SWAP_STATE = 1 then n else 0)

/-- Recirculation (R202). -/
def State.recirculate (s : State) (q : Pass) (a : Act) : State :=
  let data := if a.decap ∧ q.key.tunType ≠ 0 then decap q.pkt.data q.x else q.pkt.data
  s.updPipe q.n (fun x => { x with recirc := x.recirc ++ [
    { pkt := { q.pkt with data := data }, bank := q.bank, cls := a.cls, colour := a.colourOf q.key,
      tunType := q.key.tunType, tunId := q.key.tunId, at' := s.now }] })

/-- The resolve stage (R198). -/
def State.resolve (s : State) (q : Pass) (win : Option Nat) (look : Answer) : State :=
  let st := q.key.status
  let s := if st = 0 then s else s.bump Exc.EXC_COUNT q.n (st * 16 + q.key.subtype)
  let trusted := match win with
    | some r => bits (s.rnat Rule.MASK r q.bank) 639 632 == 0xFF
    | none => false
  if st ≠ 0 ∧ !trusted then s.exception q st q.key.subtype false
  else
    match win with
    | none => s.useDefault q
    | some r =>
      let a := actOf (s.rnat Rule.ACTION r q.bank)
      if a.mode = 6 then
        if q.second then s.exception q 5 0 true
        else if 64 ≤ (s.pipe q.n).recirc.length then s.exception q 6 0 true
        else s.recirculate q a
      else if a.mode = 2 ∨ a.queueSel = 2 then
        let h := flowHash (s.nat Hsh.FIELDS a.profile) (s.nat Hsh.SEED a.profile) (s.flag Hsh.SYMMETRIC a.profile) q.key
        let v := s.rnat IndEnt.ENTRY (a.table * 256 + h * s.nat Ind.SIZE a.table / 65536)
        if bits v 31 31 = 0 then s.exception q 7 0 true else s.emitAct q a (v % 2 ^ 20) look
      else s.emitAct q a 0 look

/-- A pass of a packet (R186): parse, classify, look up and learn, hash, resolve.
Log: 54 DESIGN CHOICE. -/
def State.pass (s : State) (n : Nat) (pkt : Pkt) (bank : Nat) (second : Option Recirc) : State :=
  let x := parsePacket s.parseCfg pkt.data
  let f := { x.f with dir := pipeDir n, srcType := pkt.srcType, srcPort := pkt.srcPort, srcCh := pkt.srcCh,
                      onuRec := pkt.onu, xgemRec := pkt.xgem }
  let f := match second with
    | some r => { f with pass2 := 1, tunType := r.tunType, tunId := r.tunId, firstClass := r.cls, firstColour := r.colour }
    | none => f
  let q : Pass := { n := n, pkt := pkt, bank := bank, second := second.isSome, x := { x with f := f } }
  let s := s.put Pipe.LATENCY_MAX_NS (max (s.get Pipe.LATENCY_MAX_NS n) (passNs x.h)) n
  let win := s.classify bank f.key
  let s := match win with
    | some r => (s.rbump Rule.HITS r bank).rbumpBy Rule.HIT_BYTES r pkt.len bank
    | none => s
  let act := match win with
    | some r => actOf (s.rnat Rule.ACTION r bank)
    | none => s.defaultAct bank
  let (look, s) := if win.isSome ∧ (act.mode = 0 ∨ act.mode = 5) then s.lookup f act.cls else (.miss, s)
  let s := if act.learn ∧ s.nat Lkp.LEARN_FORM f.dir act.cls = 1 then s.probe pkt f n else s
  (s.resolve q win look).inflight

/-- Who wins the input slot between the two FIFOs (R188): true for the recirculation FIFO. -/
def State.slotRecirc (s : State) (n : Nat) : Bool :=
  let x := s.pipe n
  match x.ingress, x.recirc with
  | _, [] => false
  | [], _ => true
  | p :: _, _ => arbPick (s.arb.getD (arbSlot n) 0) [p.srcId, idPipe n] == some (idPipe n)

/-- The bank drains: it is the inactive one while SWAP_STATE is 1 (R201). -/
def State.draining (s : State) (bank : Nat) : Bool := s.nat Cls.SWAP_STATE == 1 && bank != s.nat Cls.ACTIVE_BANK

/-- Beat 0–4 of an entry goes into its shadow (R199, R200): the result code and the state.
Log: 59 DEDUCED. -/
def State.ruleBeat (s : State) (bank r beat w : Nat) : Nat × State :=
  if s.draining bank then (rcBusy, s.bump Cls.RULE_WRITE_REFUSED)
  else if s.rflag Rule.VALID r bank then (rcState, s.bump Cls.RULE_WRITE_REFUSED)
  else
    let e := s.rnat Rule.KEY r bank + s.rnat Rule.MASK r bank * 2 ^ 640
    let e := setBits e (256 * beat + 255) (256 * beat) w
    (rcOk, (s.rput Rule.KEY r (e % 2 ^ 640 : Nat) bank).rput Rule.MASK r (e / 2 ^ 640 : Nat) bank)

/-- An entry is committed now (R444). -/
def State.noteCommit (s : State) (index r : Nat) : State :=
  { s with mem := { s.mem with commits := (index, r, s.now) :: s.mem.commits.filter (fun e => e.2.2 == s.now) } }

/-- Beat 5 of an entry takes effect in all replicas in one clock (R199, R200): the result code and the state.
Log: 59 DEDUCED. -/
def State.beat5Now (s : State) (bank r w : Nat) : Nat × State :=
  let valid := w.testBit 255
  if (valid && s.rflag Rule.VALID r bank) || s.draining bank then
    (if s.draining bank then rcBusy else rcState, s.bump Cls.RULE_WRITE_REFUSED)
  else if valid then
    if actCheck (w % 2 ^ 128) ≠ rcOk then (actCheck (w % 2 ^ 128), s)
    else
      let s := ((s.rput Rule.ACTION r (w % 2 ^ 128 : Nat) bank).rput Rule.PRIORITY r (bits w 143 128) bank).rput Rule.VALID r 1 bank
      (rcOk, s.noteCommit (0xA800 + bank) r)
  else (rcOk, s.rput Rule.VALID r 0 bank)

/-- Beat 5 of an entry; while replicas are copied it waits until the copy ends (R401). -/
def State.beat5 (s : State) (bank r w : Nat) : Nat × State :=
  if s.power.trans = 2 then (rcOk, { s with power := { s.power with commits := s.power.commits ++ [(bank, r, w)] } })
  else s.beat5Now bank r w

end Sys2Proof.Machine
end

