-- ==== Sys2Proof/Machine/ObjFind.lean ====
section
/-! DEFINITION. Objects by index and subindex (R370). -/

namespace Sys2Proof.Machine

/-- Subindices of EXC_COUNT: code × 16 + subtype (Table 7-9). -/
def excSubs : List Nat := [0x10, 0x21, 0x22, 0x31, 0x32, 0x33, 0x34, 0x35, 0x41, 0x42, 0x43, 0x50, 0x60, 0x70]

/-- Instance `i`, `j` of an array stands in the dictionary: EXC_COUNT only at the codes of Table 7-3, and of the OTN layers eight
sections without the subindices that are a path's only (Table 10-12). -/
def Obj.holds (o : Obj) (i j : Nat) : Bool :=
  if o.index = 0x6020 ∧ o.nj = 256 then excSubs.contains j
  else if o.index = 0x8080 ∧ j = 0 then decide (i < 8) && decide (o.sub < 0x0D)
  else true

/-- The instance of an object at an index and subindex. -/
def Obj.inst? (o : Obj) (index sub : Nat) : Option (Nat × Nat) :=
  (List.range o.nj).findSome? (fun j =>
    let base := o.index + o.pj * j
    if sub ≠ o.sub + o.ps * j ∨ index < base then none
    else if o.pi = 0 then (if index = base ∧ o.holds 0 j then some (0, j) else none)
    else if (index - base) % o.pi = 0 ∧ (index - base) / o.pi < o.ni ∧ o.holds ((index - base) / o.pi) j then
      some ((index - base) / o.pi, j)
    else none)

/-- The object has a subindex at this index. -/
def Obj.atIndex (o : Obj) (index : Nat) : Bool :=
  (List.range o.nj).any (fun j =>
    let base := o.index + o.pj * j
    if index < base then false
    else if o.pi = 0 then index == base
    else (index - base) % o.pi == 0 && decide ((index - base) / o.pi < o.ni) && o.holds ((index - base) / o.pi) j)

/-- The object at an index and subindex, with its instance. -/
def objAt (index sub : Nat) : Option (Obj × Nat × Nat) :=
  allObjs.findSome? (fun o => (o.inst? index sub).map (fun ij => (o, ij.1, ij.2)))

/-- A value placed at an address: an object's, or an existence marker's. -/
def State.place (s : State) (a : Addr) (v : Int) : State :=
  match objAt a.index a.sub with
  | some (o, i, j) => { s with od := s.od.put o i j a.recNo v }
  | none => { s with od := if v = 0 then s.od.del a else s.od.ins a v }

/-- The value at an address. -/
def State.valueAt (s : State) (a : Addr) : Int :=
  match objAt a.index a.sub with
  | some (o, i, j) => s.od.get o i j a.recNo
  | none => (s.od.find? a).getD 0

end Sys2Proof.Machine
end

