-- ==== Sys2Proof/Machine/TwinOps.lean ====
section
/-! DEFINITION. The mirror stream, digest sets and streams of the twin unit (R318–R327). -/

namespace Sys2Proof.Machine

/-- The port of the line above a downstream node. -/
def State.nodePort (s : State) (n : Nat) : Nat := ((s.nodePath 0 4 n).getLast?.getD 128) / 2

/-- A critical object of a twinned port, as Table 12-6 lists them. Policers and profiles serve every channel alike. -/
def State.critical (s : State) (a : Addr) : Bool :=
  let i := a.index
  let r := a.recNo
  let tw := s.twinned
  if i = 0x4200 then
    tw (s.rnat Onu.PORT r) && !([Onu.DRIFT_PS, Onu.HOLDOFF_S, Onu.LOB_COUNT, Onu.EQD_CORR_COUNT, Onu.ROGUE_COUNT, Onu.DEACT_CAUSE,
      Onu.LAST_CHANGE]).any (fun o => o.sub == a.sub)
  else if i = 0x5200 then tw (s.rnat Ctx.PORT r) && (a.sub < 0x14 || a.sub == 0xFF)
  else if i = 0xA400 then tw (s.rnat Xg.PORT r) && (a.sub < 9 || a.sub == 0xFF)
  else if i = 0xA910 then tw (s.rnat Xg.PORT r) && a.sub == 5
  else if 0x4000 ≤ i ∧ i < 0x4040 then tw (i - 0x4000)
  else if 0x5040 ≤ i ∧ i < 0x5080 then tw (i - 0x5040)
  else if 0x5800 ≤ i ∧ i < 0x5840 then tw (i - 0x5800)
  else if i = 0xB000 then tw (s.nodePort (s.rnat Queue.SERVICE r)) && (a.sub < 0x10 || a.sub == 0xFF)
  else if i = 0xB010 then tw (s.nodePort r) && (a.sub < 0x0F || a.sub == 0xFF)
  else if i = 0xB020 then a.sub < 7 && s.flag Twin.TWIN_ENABLE
  else if i = 0xB030 then s.flag Twin.TWIN_ENABLE
  else if i = 0xB050 then tw (s.rnat Xg.PORT (s.rnat Repl.BOUND_XGEM r))
  else if i = 0xB051 then tw (s.rnat Xg.PORT (s.rnat Repl.BOUND_XGEM (s.rnat ReplMem.GROUP r)))
  else false

/-- Every twinned channel. -/
def State.twinChannels (s : State) : List (Nat × Nat) :=
  ((List.range 64).filter s.twinned).flatMap (fun p => [(p, 0), (p, 1)])

/-- The content of a FEEDER message: δ and RT_CORR_PS by channel (Table 12-4). -/
def feederFields (l : List (Nat × Int × Int)) : List Int := l.flatMap (fun e => [(e.1 : Int), e.2.1, e.2.2])

/-- A FEEDER message leaves a paired chip (Table 12-4). -/
def State.sendFeeder (s : State) : State :=
  if s.paired then s.ctrl 4 4 (feederFields (s.twinChannels.map (fun pc => (chKey pc.1 pc.2, s.feeder pc.1 pc.2, s.rtCorr pc.1 pc.2)))) else s

/-- The critical state as it stands (Table 12-6): dictionary values, warm bits, pointers and keys.
Log: 102 DEDUCED. -/
def State.criticalNow (s : State) : List MirEntry :=
  let vals := (s.od.filter (fun e => s.critical e.1)).map (fun e => MirEntry.value e.1.index e.1.sub e.1.recNo e.2)
  let onus := (s.records 0x4200).filter (fun r => s.twinned (s.rnat Onu.PORT r))
  let warm := onus.map (fun r =>
    MirEntry.warm r (([0, 1, 2, 3].filter (fun k => s.warm r k)).map (fun k => 2 ^ k)).sum)
  let keys := onus.map (fun r => MirEntry.key r (s.onuF r).key1 (s.onuF r).key2 (s.onuF r).switch)
  let chans := s.twinChannels.flatMap (fun pc =>
    let g := s.grantCh pc.1 pc.2
    let f := s.frCh pc.1 pc.2
    [MirEntry.pointers pc.1 pc.2 g.p3 g.p4, MirEntry.mkey pc.1 pc.2 f.key1 f.key2 f.active f.switch])
  vals ++ warm ++ keys ++ chans

/-- Values that have returned to their defaults since the last group.
Log: 102 DEDUCED. -/
def State.criticalGone (s : State) (now : List MirEntry) : List MirEntry :=
  s.twin.mirrored.filterMap (fun e =>
    match e with
    | .value i sub r _ =>
      if now.any (fun x => match x with
        | .value i' sub' r' _ => i' == i && sub' == sub && r' == r
        | _ => false) then none
      else some (.value i sub r (s.valueAt { index := i, sub := sub, recNo := r }))
    | _ => none)

/-- The keys of an entry, each changed by `f` (R318). -/
def MirEntry.keys (f : Nat → Option Nat) (e : MirEntry) : MirEntry :=
  match e with
  | .key r k1 k2 sw => .key r (k1.bind f) (k2.bind f) sw
  | .mkey p c k1 k2 a sw => .mkey p c (k1.bind f) (k2.bind f) a sw
  | e => e

/-- An optional value as numbers. -/
def optInts : Option Nat → List Int
  | some v => [1, v]
  | none => [0, 0]

/-- The values of an entry, its kind first. -/
def MirEntry.fields : MirEntry → List Int
  | .value i sub r v => [0, i, sub, r, v]
  | .warm r b => [1, r, b]
  | .pointers p c p3 p4 => [2, p, c, p3, p4]
  | .hint p c m h => [3, p, c, m, h.ctx, h.bytes, h.tau]
  | .post p c (.request q) =>
    [4, p, c, (match q.kind with | .verify => 0 | .probe => 1 | .ranging => 2), q.rcd, q.onu, q.rate, q.notBefore, q.lenUs,
      if q.displaced then 1 else 0]
  | .post p c (.withdraw r) => [5, p, c, r]
  | .post p c (.rate r v) => [6, p, c, r, v]
  | .post p c (.eqd r v) => [7, p, c, r, v]
  | .quiet p c => [8, p, c]
  | .key r k1 k2 sw => ([9, (r : Int)] : List Int) ++ optInts k1 ++ optInts k2 ++ optInts (sw.map (fun x => x.1)) ++ optInts (sw.map (fun x => x.2))
  | .mkey p c k1 k2 a sw => ([10, (p : Int), (c : Int)] : List Int) ++ optInts k1 ++ optInts k2 ++ [(a : Int)] ++ optInts (sw.map (fun x => x.1)) ++
      optInts (sw.map (fun x => x.2))

/-- Entries as they leave: keys wrapped under the pair key (R318); without one no key leaves. -/
def State.wrapMirror (s : State) (l : List MirEntry) : List MirEntry :=
  l.map (MirEntry.keys (fun v => s.secu.pairKey.map (fun q => Config.wrapPeer q v)))

/-- The bytes of a MIRROR frame's entries. -/
def mirrorBytes (sub : Nat) (l : List MirEntry) : List Nat := Config.twinPayload 1 sub (l.flatMap MirEntry.fields)

/-- Entries leave in a MIRROR frame of the critical class. -/
def State.sendMirror (s : State) (k : Nat) (l : List MirEntry) : State :=
  let w := s.wrapMirror l
  (s.ctrlBytes 1 1 [] (mirrorBytes 1 w)).emit (.mirror false k w)

/-- The commit marker of a group: group number, MIRROR frames, entries, and the CRC-32 over the entries (R320). -/
def State.sendCommit (s : State) (k : Nat) (l : List MirEntry) : State :=
  s.ctrl 2 0 [(k : Int), (if l.isEmpty then 0 else 1 : Nat), l.length, crc32 (mirrorBytes 1 (s.wrapMirror l))]

/-- Received entries with their keys unwrapped; a key that does not unwrap is none (R318). -/
def State.unwrapMirror (s : State) (l : List MirEntry) : List MirEntry :=
  l.map (MirEntry.keys (fun v => s.secu.pairKey.bind (fun q => Config.unwrapPeer q v)))

/-- The close of map k posts commit group k on a paired active (R320), the bulk copy's marker after it (R317).
Log: 102 DEDUCED. -/
def State.commitGroup (s : State) (k : Nat) : State :=
  if s.nat Twin.STATE ≠ 5 then s
  else
    let now := s.criticalNow
    let l := s.criticalGone now ++ now.filter (fun e => !s.twin.mirrored.contains e) ++ s.twin.posts
    let s := if l.isEmpty then s else s.sendMirror k l
    let s := s.sendCommit k l
    let s := if s.twin.bulk then s.ctrl 4 6 [] else s
    s.setTwin (fun t => { t with mirrored := now, posts := [], bulk := false, sent := k,
                                 kept := (t.kept.ins k l).filter (fun e => decide (k < e.1 + 64)) })

/-- An entry takes effect on the standby (R318, R320).
Log: 102 DEDUCED. -/
def State.mirrorApply (s : State) (e : MirEntry) : State :=
  match e with
  | .value i sub r v => s.place { index := i, sub := sub, recNo := r } v
  | .warm r b => { s with warmPeer := s.warmPeer.ins r b }
  | .pointers p c p3 p4 => s.updGrant p c (fun g => { g with p3 := p3, p4 := p4 })
  | .hint p c k h => s.updGrant p c (fun g => { g with hints := g.hints ++ [(k, h)] })
  | .post p c x =>
    s.updGrant p c (fun g =>
      match x with
      | .request q => { g with reqs := g.reqs ++ [q] }
      | .withdraw r => { g with reqs := g.reqs.filter (fun q => q.rcd != r) }
      | .rate r v => { g with rates := g.rates.ins r v }
      | .eqd r v => { g with eqds := g.eqds.ins r v })
  | .quiet p c => s.updAct p c (fun a => { a with qwDue := true })
  | .key r k1 k2 sw => s.updOnuF r (fun x => { x with key1 := k1, key2 := k2, switch := sw })
  | .mkey p c k1 k2 a sw => s.updFr p c (fun x => { x with key1 := k1, key2 := k2, active := a, switch := sw })

/-- ONUS_OPERATING follows the records. -/
def State.countOperating (s : State) : State :=
  let l := (s.records 0x4200).filter (fun r => s.rnat Onu.STATE r == onuOperating)
  let s := (List.range 64).foldl (fun s p =>
    if s.twinned p then s.put ActSt.ONUS_OPERATING (l.filter (fun r => s.rnat Onu.PORT r == p)).length p else s) s
  (s.put ActDev.ONUS_OPERATING l.length).put ActDev.RECORDS (s.records 0x4200).length

/-- Group `k` is applied as one unit (R321). -/
def State.groupApply (s : State) (k : Nat) (l : List MirEntry) : State :=
  let s := ((s.unwrapMirror l).foldl State.mirrorApply s).countOperating
  let s := (s.put Twin.LAST_GROUP_APPLIED k).bump TwinCnt.GROUPS_APPLIED
  let carried (e : Nat × Nat × Nat) : Bool := l.any (fun x => match x with
    | .value i _ r _ => i == e.1 && r == e.2.1
    | _ => false)
  let s : State := { s with mem := { s.mem with reload := s.mem.reload.filter (fun e => !carried e) } }
  s.setTwin (fun t => { t with applied := some k, waiting := t.waiting.del k, asked := t.asked.filter (fun g => decide (k < g)) })

/-- Waiting groups that follow the last one applied are applied in ascending order. -/
def State.groupsFollow (s : State) : Nat → State
  | 0 => s
  | n + 1 =>
    match s.twin.applied with
    | none => s
    | some k =>
      match s.twin.waiting.find? (k + 1) with
      | some l => (s.groupApply (k + 1) l).groupsFollow n
      | none => s

/-- Digest set `n` leaves (2·k for map k, 2·k + 1 for span k).
Log: 110 DEDUCED. -/
def State.setSent (s : State) (n : Nat) : State :=
  s.setTwin (fun t => { t with setAt := (t.setAt.ins n s.now).filter (fun e => decide (n < e.1 + 256)) })

/-- The MAP_SET of map k (R327). -/
def State.sendMapSet (s : State) (k : Nat) : State :=
  if !s.paired then s
  else
    let d := (List.range 64).flatMap (fun p => [0, 1].map (fun c =>
      if s.twinned p then (((s.grantCh p c).digests.find? (fun e => e.1 == k)).map (fun e => e.2)).getD 0 else 0))
    (s.ctrlBytes 3 1 ((k : Int) :: d.map (fun (x : Nat) => (x : Int))) (beBytes 8 k ++ d.flatMap (beBytes 4))).setSent (2 * k)

/-- Streams with packets in span k, or unsure, as the SPAN_SET lists them (R327). -/
def State.spanEntries (s : State) (k : Nat) : List SpanEnt :=
  let l := s.twin.spans.getD k []
  let unsure := s.twin.streams.filter (fun e => e.2.mark.isSome && !l.any (fun x => x.xgem == e.1))
  l.map (fun x => { x with crc := Nat.xor x.crc 0xFFFFFFFF }) ++
    unsure.map (fun e => ({ xgem := e.1, counter := e.2.counter } : SpanEnt))

/-- The channels with non-whole bursts in span k, and their ONU-IDs (R327). -/
def State.nonWholeOf (s : State) (k : Nat) : List (Nat × List Nat) :=
  (List.range 128).filterMap (fun ch =>
    let l := (s.nonWhole.filter (fun e => e.1 == ch && e.2.2 == k)).map (fun e => e.2.1)
    if l.isEmpty then none else some (ch, l))

/-- The fields of the SPAN_SET of span k with their sizes in bytes (R327). -/
def State.spanFields (s : State) (k : Nat) : List (Nat × Nat) :=
  let es := s.spanEntries k
  [(8, k)] ++ (s.nonWholeOf k).flatMap (fun e => [(2, e.1), (2, e.2.length)] ++ e.2.map (fun o => (2, o))) ++ [(4, es.length)] ++
    es.flatMap (fun x => [(4, x.xgem), (2, x.packets), (2, x.counter), (4, x.crc)])

/-- The SPAN_SET of span k (R327). -/
def State.sendSpanSet (s : State) (k : Nat) : State :=
  let fs := s.spanFields k
  (s.ctrlBytes 3 2 (fs.map (fun e => (e.2 : Int))) (fs.flatMap (fun e => beBytes e.1 e.2))).setSent (2 * k + 1)

/-- End of span k of a port in ns. -/
def State.spanEnd (s : State) (p k : Nat) : Nat := s.frameStart (k + 1) + s.nat ActCfg.TEQD_US p * 1000

/-- Span sets that are due leave: 20 µs after the end of the span on every twinned port (R327). -/
def State.sendSpanSets (s : State) : Nat → State
  | 0 => s
  | n + 1 =>
    let k := s.twin.spanNext
    let done := ((List.range 64).filter s.twinned).all (fun p => decide (s.spanEnd p k + 20000 ≤ s.now))
    if s.paired ∧ done then
      ((s.sendSpanSet k).setTwin (fun t => { t with spanNext := k + 1 })).sendSpanSets n
    else s

/-- A packet of a stream is numbered (R324, R269), and joins its span's set: its number, and whether it is forwarded (R326). -/
def State.streamNumber (s : State) (p x startPs : Nat) (data : List Nat) : Nat × Bool × State :=
  let m := s.twin.streams.getD x {}
  let n := m.counter
  let s := s.rput Gen.LAST_SEQ x n
  let k := s.spanOf p startPs
  let next := (n + 1) % 65536
  let s := s.setTwin (fun t => { t with streams := t.streams.ins x { m with counter := next } })
  if !s.twinned p then (n, true, s)
  else
    let l := s.twin.spans.getD k []
    let e := (l.find? (fun e => e.xgem == x)).getD { xgem := x, crc := 0xFFFFFFFF }
    let e := { e with packets := e.packets + 1, counter := next,
                      crc := (beBytes 2 n ++ beBytes 2 data.length ++ data).foldl (crcByte 0xEDB88320) e.crc }
    let l := e :: l.filter (fun y => y.xgem != x)
    let s := s.setTwin (fun t => { t with spans := (t.spans.ins k l).filter (fun e => decide (k < e.1 + 64)) })
    if m.mark.isSome then (n, false, s.bump TwinCnt.UNSURE_DROP) else (n, true, s)

end Sys2Proof.Machine
end

