-- ==== Sys2Proof/Machine/FramerOps.lean ====
section
/-! DEFINITION. The framer's shared operations: PLOAM queue, keys, frame filling, OMCI transport and reassembly (chapter 6). -/

namespace Sys2Proof.Machine

/-- Data bytes of a downstream frame (Table 6-1). -/
def frameData (c : Nat) : Nat := if c = 0 then 656616 else 135432

/-- Codewords of a downstream frame and the data bytes of each but the last of c0, which has 1,800 (Table 6-1). -/
def frameCodewords (c : Nat) : Nat := if c = 0 then 360 else 627
def codewordData (c : Nat) : Nat := if c = 0 then 1824 else 216

/-- Data as codewords, each with its parity (Table 6-1). -/
def fecEncode (c : Nat) : Nat → List Nat → List Nat
  | 0, _ => []
  | n + 1, l =>
    let d := l.take (codewordData c)
    d ++ Config.fecParity c d ++ fecEncode c n (l.drop (codewordData c))

/-- A PLOAM is posted to the channel's queue of 64 (R160): the result code. -/
def State.ploamPost (s : State) (p c : Nat) (m : Ploam) : Nat × State :=
  if 64 ≤ (s.frCh p c).ploams.length then (rcBusy, s.bump FrSt.PLOAM_DS_DROP p c)
  else (rcOk, s.updFr p c (fun x => { x with ploams := x.ploams ++ [m] }))

/-- Kind of a PLOAM as a byte of its integrity code. -/
def PloamKind.num : PloamKind → Nat
  | .none => 0 | .assignOnuId => 1 | .rangingTime => 2 | .deactivate => 3 | .disable => 4 | .enable => 5
  | .keyControl => 6 | .host => 7

/-- A PLOAM leaves in a frame (R170). -/
def State.ploamOut (s : State) (p c : Nat) (m : Ploam) : PloamOut :=
  { onu := m.onu, kind := m.kind, arg := m.arg,
    mic := Config.ploamMic (s.ploamKey p c m.onu) (m.kind.num :: beBytes 2 m.onu ++ beBytes 36 (m.arg % 2 ^ 288).toNat) }

/-- A unicast key is installed into the slot that is not active, and becomes active KEY_SWITCH_FRAMES later (R167).
Log: 47 DEDUCED. -/
def State.installKey (s : State) (r key : Nat) : State :=
  let p := s.rnat Onu.PORT r
  let slot := if s.rnat OnuPm.KEY_ACTIVE r = 1 then 2 else 1
  let at' := s.now + s.eff FrCfg.KEY_SWITCH_FRAMES p * frameNs
  let k := ceilDiv (at' - s.nat Tim.FRAME_EPOCH) frameNs
  let s := s.updOnuF r (fun x =>
    if slot = 1 then { x with key1 := some key, switch := some (k, 1) } else { x with key2 := some key, switch := some (k, 2) })
  let v := s.rnat OnuPm.KEY_VALID r
  let s := s.rput OnuPm.KEY_VALID r (if v.testBit (slot - 1) then v else v + slot : Nat)
  s.bump FrDev.KEY_INSTALLS

/-- A key exchange fails (R168): the third in a row raises an event.
Log: 48 DEDUCED. -/
def State.keyFail (s : State) (r : Nat) : State :=
  let s := s.bump FrDev.KEY_FAILS
  let n := (s.onuF r).keyFails + 1
  let s := s.updOnuF r (fun x => { x with exchange := 0, keyFails := if n = 3 then 0 else n })
  if n = 3 then
    s.event 0x5801 idSecurity [a8 (s.rget Onu.PORT r), a8 (s.rget Onu.CHANNEL r), a16 (s.rget Onu.ONU_ID r), a32 r]
  else s

/-- Pending key switches of a channel's ONUs and of its multicast slots take effect at frame `k` (R166, R167). -/
def State.latchKeys (s : State) (p c k : Nat) : State :=
  let s := (s.onusOf p c).foldl (fun s r =>
    match (s.onuF r).switch with
    | some (j, slot) =>
      if j ≤ k then
        let s := s.updOnuF r (fun x => { x with switch := none })
        ((s.rput OnuPm.KEY_ACTIVE r slot).rbump OnuPm.KEY_SWITCHES r).rput OnuPm.KEY_SWITCH_AT r (s.frameStart k)
      else s
    | none => s) s
  match (s.frCh p c).switch with
  | some (j, slot) => if j ≤ k then s.updFr p c (fun x => { x with active := slot, switch := none }) else s
  | none => s

/-- The record's packet may be sent on the channel (R163). -/
def State.xgemSends (s : State) (p c x : Nat) : Bool :=
  s.hasRecord 0xA400 x && s.rflag Xg.ADMIN x && (s.rnat Xg.DIRECTION x).testBit 0 &&
    s.rnat Xg.PORT x == p && s.rnat Xg.CHANNEL x == c &&
    (s.rnat Xg.ONU_ID x == 1023 || (s.onuBy p c (s.rnat Xg.ONU_ID x)).isSome)

/-- KEY_INDEX and key of a record's packets (R164); none when the active slot holds no valid key. -/
def State.xgemKey (s : State) (p c x : Nat) : Option (Nat × Nat) :=
  match s.rnat Xg.ENCRYPT x with
  | 0 => some (0, 0)
  | 1 =>
    match s.onuBy p c (s.rnat Xg.ONU_ID x) with
    | some r =>
      (match s.rnat OnuPm.KEY_ACTIVE r with
       | 1 => (s.onuF r).key1.map (fun k => (1, k))
       | 2 => (s.onuF r).key2.map (fun k => (2, k))
       | _ => none)
    | none => none
  | _ =>
    match (s.frCh p c).active with
    | 1 => (s.frCh p c).key1.map (fun k => (1, k))
    | 2 => (s.frCh p c).key2.map (fun k => (2, k))
    | _ => none

/-- Bytes after the tag edit of a decision (R197): push, pop, replace VID and PCP, pop two.
Log: 60 DESIGN CHOICE. -/
def Pkt.wire (p : Pkt) : List Nat :=
  let d := p.data
  match p.tag with
  | [1, pcp, vid, dei, _, tpid] => d.take 12 ++ beBytes 2 tpid ++ beBytes 2 (pcp * 8192 + dei * 4096 + vid) ++ d.drop 12
  | [2, _, _, _, n, _] => if 1 ≤ n then d.take 12 ++ d.drop 16 else d
  | [3, pcp, vid, _, n, _] =>
    if 1 ≤ n then d.take 14 ++ beBytes 2 (pcp * 8192 + beAt d 14 2 / 4096 % 2 * 4096 + vid) ++ d.drop 16 else d
  | [4, _, _, _, n, _] => if 2 ≤ n then d.take 12 ++ d.drop 20 else if 1 ≤ n then d.take 12 ++ d.drop 16 else d
  | _ => d

/-- A number of bytes rounded up to a multiple of 4 (R161). -/
def pad4 (n : Nat) : Nat := (n + 3) / 4 * 4

/-- One XGEM frame with its payload encrypted (R161, R164). -/
def xgemOut (c k pos portId : Nat) (key : Nat × Nat) (payload : List Nat) (last : Bool) : XgemOut :=
  let pli := payload.length
  let lf := if last then 1 else 0
  let plain := ofBe (payload ++ List.replicate (pad4 pli - pli) 0)
  let hdr := pli * 2 ^ 37 + key.1 * 2 ^ 35 + portId * 2 ^ 19 + lf
  { pli := pli, keyIndex := key.1, portId := portId, lf := lf, hec := Config.xgemHec hdr,
    payload := if key.1 = 0 then plain else Config.aesCtr key.2 (Config.counterBlock c k pos) plain }

/-- Bytes of an XGEM frame: the header, then the payload padded to a multiple of 4 (R161). -/
def XgemOut.bytes (x : XgemOut) : List Nat := beBytes 8 x.header ++ beBytes (pad4 x.pli) x.payload

/-- Idle XGEM frames over `n` bytes, each with at most 16,380 bytes of zeros; four last bytes are zeros (R162).
Log: 53 DESIGN CHOICE. -/
def idleBytes : Nat → Nat → List Nat
  | 0, _ => []
  | f + 1, n =>
    if n < 8 then List.replicate n 0
    else
      let len := min (n - 8) 16380
      ({ pli := len, hec := Config.xgemHec (len * 2 ^ 37 + 0xFFFF * 2 ^ 19 + 1) } : XgemOut).bytes ++ idleBytes f (n - 8 - len)

/-- The bytes of a frame on the line (R158, R159): the synchronisation block, then the data in codewords, scrambled as the channel's
standard has it. -/
def DsFrame.line (c : Nat) (f : DsFrame) : List Nat :=
  let data := Config.frameHeader c f.mapLen f.ploamCount ++
    (f.map.map (fun e => Config.mapBytes c e.1 e.2)).flatten ++
    (f.ploams.map (fun m => Config.ploamBytes m.onu m.kind.num m.arg m.mic)).flatten ++
    (f.xgems.map XgemOut.bytes).flatten ++ idleBytes 64 f.idle
  Config.syncBlock c f.k f.ponId ++ Config.scramble c f.k (fecEncode c (frameCodewords c) data)

/-- Filling of a frame with XGEM frames (R161–R164): frames so far, and the data bytes left. -/
structure Fill where
  s : State
  out : List XgemOut := []
  room : Nat := 0

/-- The first staged packet leaves the queue, its buffer freed by the port complex (R240). -/
def State.unstage (s : State) (p c : Nat) (q : Pkt) : State :=
  (s.updFr p c (fun x => { x with staged := x.staged.drop 1, sentBytes := 0 })).bufDrop (idPort p) q.shared q.buf

/-- One step of the filling: a packet dropped, sent whole, or begun as a fragment; none when the frame takes no more. -/
def Fill.step (w : Fill) (p c k : Nat) : Option Fill :=
  let s := w.s
  match (s.frCh p c).staged with
  | [] => none
  | q :: _ =>
    let d := q.wire
    let done := (s.frCh p c).sentBytes
    if s.eff FrCfg.MAX_SDU p < d.length then some { w with s := (s.bump FrSt.DS_OVERSIZE p c).unstage p c q }
    else if !s.xgemSends p c q.xgem then some { w with s := (s.bump FrSt.DS_XGEM_INVALID p c).unstage p c q }
    else
      match s.xgemKey p c q.xgem with
      | none => some { w with s := (s.bump FrSt.DS_NOKEY_DROP p c).unstage p c q }
      | some key =>
        let rest := d.drop done
        let id := s.rnat Xg.XGEM_ID q.xgem
        let pos := frameData c - w.room
        if 8 + pad4 rest.length ≤ w.room then
          let s := ((s.rbump Xg.FRAMES_DS q.xgem).rbumpBy Xg.BYTES_DS q.xgem d.length).bump FrSt.DS_XGEM_FRAMES p c
          some { s := s.unstage p c q, out := xgemOut c k pos id key rest true :: w.out, room := w.room - 8 - pad4 rest.length }
        else if 16 ≤ w.room then
          let n := w.room - 8
          let s := s.bump FrSt.DS_XGEM_FRAMES p c
          some { s := s.updFr p c (fun x => { x with sentBytes := done + n }),
                 out := xgemOut c k pos id key (rest.take n) false :: w.out, room := 0 }
        else none

/-- Steps of the filling until the frame is full or nothing is staged. -/
def Fill.run (p c k : Nat) : Nat → Fill → Fill
  | 0, w => w
  | n + 1, w => if w.room < 16 then w else match w.step p c k with | some w => Fill.run p c k n w | none => w

/-- Bytes that staged packets will take at least, against the data bytes of a frame (R159, R249).
Log: 75 DEDUCED. -/
def State.stagedBytes (s : State) (p c : Nat) : Nat :=
  ((s.frCh p c).staged.map (fun q => 8 + pad4 q.len)).sum

/-- The OMCC record of an ONU with ADMIN 1 (R172). -/
def State.omccOf (s : State) (r : Nat) : Option Nat :=
  (s.records 0xA400).find? (fun x => s.rflag Xg.OMCC x && s.rflag Xg.ADMIN x && s.rget Xg.PORT x == s.rget Onu.PORT r &&
    s.rget Xg.CHANNEL x == s.rget Onu.CHANNEL r && s.rget Xg.ONU_ID x == s.rget Onu.ONU_ID r)

/-- An OMCI message with its integrity code is staged on the OMCC port (R172). -/
def State.omciSend (s : State) (r : Nat) (body : List Nat) : State :=
  match s.omccOf r with
  | none => s
  | some x =>
    let mic := Config.omciMic (Config.omciKeyOf (s.mskFor r)) body
    let q : Pkt := { data := body ++ beBytes 4 mic, srcType := 2, xgem := x, at' := s.now }
    s.updFr (s.rnat Onu.PORT r) (s.rnat Onu.CHANNEL r) (fun f => { f with staged := f.staged ++ [q] })

def OnuF.omci (x : OnuF) (prio : Nat) : List OmciReq := if prio = 0 then x.omci0 else x.omci1

def OnuF.setOmci (x : OnuF) (prio : Nat) (l : List OmciReq) : OnuF := if prio = 0 then { x with omci0 := l } else { x with omci1 := l }

/-- The next queued request of a priority is sent (R173). -/
def State.omciNext (s : State) (r prio : Nat) : State :=
  match (s.onuF r).omci prio with
  | [] => s
  | q :: t =>
    (s.updOnuF r (fun x => x.setOmci prio ({ q with sent := 1, sentAt := s.now } :: t))).omciSend r q.body

/-- The outstanding request of a priority ends and the next is released (R173). -/
def State.omciPop (s : State) (r prio : Nat) : State :=
  let s := s.updOnuF r (fun x => x.setOmci prio ((x.omci prio).drop 1))
  (s.omciNext r prio).omciCount r

/-- A reassembly fails (R176); the context is left in state `st`.
Log: 50 DEDUCED. -/
def State.reasmFail (s : State) (p c x st : Nat) : State :=
  let s := (s.bump FrSt.US_REASM_FAIL p c).rbump Xg.REASM_FAIL x
  { s with reasm := s.reasm.ins x { st := st } }

/-- Reassemblies open on the chip. -/
def State.reasmOpen (s : State) : Nat := (s.reasm.filter (fun e => e.2.st == 1)).length

/-- A reassembly not completed in time fails (R176). -/
def State.reasmExpire (s : State) (p c x : Nat) : State :=
  let m := s.reasm.getD x {}
  if m.st = 1 ∧ m.since + s.eff FrCfg.REASM_TIMEOUT_US p * usNs ≤ s.now then s.reasmFail p c x 2 else s

/-- A complete upstream packet goes to the pipeline of its port (R177), unless it is too long or an OMCI message; a stream's
packet is numbered (R324), and a standby drops the others (R309).
Log: 52 DEDUCED. -/
def State.usPacket (s : State) (p c r x start : Nat) (data : List Nat) : State :=
  if s.eff FrCfg.MAX_SDU p < data.length then s.bump FrSt.US_OVERSIZE p c
  else
    let s := (s.rbump Xg.FRAMES_US x).rbumpBy Xg.BYTES_US x data.length
    if s.rflag Xg.OMCC x then s
    else
      let q : Pkt := { data := data, srcType := 1, srcPort := p, srcCh := c, srcId := idPort p, srcLoc := x,
                       onu := r, xgem := x, start := start, at' := s.now + 8 }
      if s.rflag Gen.RTAG_GEN x ∧ (s.twin.streams.getD x {}).startSpan ≤ s.spanOf p start then
        match s.streamNumber p x start data with
        | (_, false, s) => s
        | (n, true, s) => s.arrive (s.pipeOfPort p) { q with seq := some n }
      else if s.standby p then s.bump TwinCnt.STANDBY_US_DROP
      else s.arrive (s.pipeOfPort p) q

/-- The objects of a history record. -/
def historyObjs (day : Bool) : List Obj :=
  if day then [PmHist24.BIN_START, PmHist24.ES, PmHist24.SES, PmHist24.UAS, PmHist24.GRANTED, PmHist24.LOST, PmHist24.UNCORR]
  else [PmHist15.BIN_START, PmHist15.ES, PmHist15.SES, PmHist15.UAS, PmHist15.GRANTED, PmHist15.LOST, PmHist15.UNCORR]

/-- A history record is written. -/
def State.historyPut (s : State) (h : Nat) (objs : List Obj) (vals : List Int) : State :=
  let s := s.ddrAccess 4 ((objs.map (fun o => o.index)).sum * 10000000 + h)
  (objs.zip vals).foldl (fun s e => s.rput e.1 h e.2) s

/-- Bins kept in Trim are written at the return to Full (R402). -/
def State.historyFlush (s : State) : State :=
  s.framer.foldl (fun s e =>
    let s := e.2.held.reverse.foldl (fun s b => s.historyPut b.1 (historyObjs b.2.1) b.2.2) s
    if e.2.held.isEmpty then s else s.updOnuF e.1 (fun f => { f with held := [] })) s

end Sys2Proof.Machine
end

