-- ==== Sys2Proof/Machine/HostOps.lean ====
section
/-! DEFINITION. Host interface: interrupts, mailboxes, doorbells, locks and DMA channels (R344–R365). -/

namespace Sys2Proof.Machine

def State.setHost (s : State) (f : HostIf → HostIf) : State := { s with host := f s.host }

def State.dmaCh (s : State) (c : Nat) : DmaCh := s.host.dma.getD c {}
def State.updDma (s : State) (c : Nat) (f : DmaCh → DmaCh) : State := s.setHost (fun h => { h with dma := h.dma.upd c {} f })

def State.mbxCh (s : State) (m : Nat) : MbxCh := s.host.mbx.getD m {}
def State.updMbx (s : State) (m : Nat) (f : MbxCh → MbxCh) : State := s.setHost (fun h => { h with mbx := h.mbx.upd m {} f })

def State.slot (s : State) (m k : Nat) : Slot := (s.mbxCh m).slots.getD k {}
def State.setSlot (s : State) (m k : Nat) (x : Slot) : State :=
  s.updMbx m (fun c => { c with slots := if x.st = 0 then c.slots.del k else c.slots.ins k x })

def State.view (s : State) (m who : Nat) : View := (s.mbxCh m).views.getD who {}
def State.updView (s : State) (m who : Nat) (f : View → View) : State :=
  s.updMbx m (fun c => { c with views := c.views.upd who {} f })

/-- Target identity of a doorbell (R362): the host or a core. -/
def State.dblTarget (s : State) (d : Nat) : Nat :=
  let t := s.nat Dbl.TARGET (d / 32) (d % 32)
  if t = 0 then idHost else idCore (t - 1)

/-- The level of an interrupt source (R347, Table 13-4). -/
def State.srcLevel (s : State) (src : Nat) : Bool :=
  if src < 16 then (s.dmaCh src).irq != 0
  else if src < 80 then Nat.land (s.view (src - 16) idHost).cause (s.view (src - 16) idHost).en != 0
  else if src < 112 then
    (List.range 8).any (fun i => s.dblTarget (8 * (src - 80) + i) == idHost && (s.host.dbl.getD (8 * (src - 80) + i) (0, 0)).1 != 0)
  else src < 115 && s.host.cause.testBit (src - 112)

/-- A source is signalled through its IRQ_MAP (R347). The vector's table entry masks it as PCIe has it.
Log: 115 PRESUMED. -/
def State.sendMsix (s : State) (src : Nat) : State :=
  let r := s.host.irqMap.getD src 0
  if r.testBit 31 then
    let v := r % 256
    let e := s.host.msix.getD v (2 ^ 96)
    if e.testBit 96 then s.setHost (fun h => { h with pba := if h.pba.contains v then h.pba else v :: h.pba })
    else s.emit (.msix v (e % 2 ^ 64) (bits e 95 64))
  else s

/-- A pending vector is sent once its table entry is unmasked, as PCIe has it.
Log: 115 PRESUMED. -/
def State.msixUnmask (s : State) (v : Nat) : State :=
  let e := s.host.msix.getD v (2 ^ 96)
  if s.host.pba.contains v && !e.testBit 96 then
    (s.setHost (fun h => { h with pba := h.pba.filter (fun x => x != v) })).emit (.msix v (e % 2 ^ 64) (bits e 95 64))
  else s

/-- A change of cause bits: the source is signalled on its level's change from 0 to 1. -/
def State.irqStep (s : State) (src : Nat) (f : State → State) : State :=
  if !s.srcLevel src && (f s).srcLevel src then (f s).sendMsix src else f s

/-- Bits of IRQ_HOST_CAUSE set: 0 lock events, 1 access errors, 2 session ended. -/
def State.hostCause (s : State) (b : Nat) : State :=
  s.irqStep (112 + b) (fun s => s.setHost (fun h => { h with cause := Nat.lor h.cause (2 ^ b) }))

/-- An access to a reserved range, or one that a rule discards (R345).
Log: 119 DEDUCED. -/
def State.badAccess (s : State) : State := (s.bump Hst.HOST_BAD_ACCESS).hostCause 1

/-- An interrupt to a control core starts its clock (R29). -/
def State.coreIrq (s : State) (k src : Nat) : State :=
  (s.setHost (fun h => { h with coreOff := h.coreOff.filter (fun c => c != k), coreIrqAt := h.coreIrqAt.ins k s.now })).emit (.coreIrq k src)

/-- The core behind an identity. -/
def coreOf (id : Nat) : Option Nat :=
  if id = idSecurePart then some 0 else if 0x010 ≤ id ∧ id ≤ 0x017 then some (id - 0x010) else none

/-- A cause of a requester's mailbox view is set (R357). -/
def State.mbxCause (s : State) (m who b : Nat) : State :=
  let set (s : State) : State := s.updView m who (fun v => { v with cause := Nat.lor v.cause (2 ^ b) })
  if who = idHost then s.irqStep (16 + m) set
  else
    let up := Nat.land (s.view m who).cause (s.view m who).en == 0 && (s.view m who).en.testBit b
    match coreOf who with
    | some k => if up then (set s).coreIrq k (16 + m) else set s
    | none => set s

/-- The receiver of a channel (R352). -/
def State.mbxReceiver (s : State) (m : Nat) : Nat :=
  if m < 8 then idSecurity else if m = 8 then idDict else s.nat Mbx.RECEIVER m

/-- The timeout T of a channel in ns (R352, R355). -/
def State.mbxTimeout (s : State) (m : Nat) : Nat :=
  if m < 8 then 100 * msNs else if m = 8 then s.nat Hst.DICT_TIMEOUT_US * usNs else s.nat Mbx.TIMEOUT_US m * usNs

/-- Permitted senders (R352, R360, R361, R451). -/
def State.mbxPermits (s : State) (m who : Nat) : Bool :=
  if m < 8 then who == idSecurePart || (who == idHost && s.flag Hst.SEC_SESSION)
  else if m = 8 then who == idHost && s.dict.ready
  else (who == idHost || (decide (0x010 ≤ who) && decide (who ≤ 0x017))) && who != s.mbxReceiver m

/-- The channel is one of MB00–MB07 and the host does not see it through BAR4 (R360, R361): in BAR0 its page reads as 0 for the host.
Log: 116 DEDUCED. -/
def State.mbxHidden (s : State) (m who : Nat) : Bool :=
  decide (m < 8) && who == idHost && !(s.flag Hst.SEC_SESSION && s.host.secSel == m)

/-- Requesters with a view of every channel. -/
def viewers : List Nat := [idHost, 0x010, 0x011, 0x012, 0x013, 0x014, 0x015, 0x016, 0x017, idSecurePart, idSecurity]

/-- A slot returns to FREE; EMPTY is set in every view when no slot is in use (R353). -/
def State.freeSlot (s : State) (m k : Nat) : State :=
  let s := s.setSlot m k {}
  if (s.mbxCh m).slots.isEmpty then viewers.foldl (fun s w => s.mbxCause m w 2) s else s

/-- The message was posted under an incarnation that its sender no longer has (R359). -/
def State.stale (s : State) (x : Slot) : Bool := s.incOf x.sender != x.inc

/-- A message whose window has ended (R355). -/
def State.mbxExpired (s : State) (m : Nat) (x : Slot) : Bool :=
  (x.st == 1 || (x.st == 2 && x.want)) && decide (x.at' + s.mbxTimeout m ≤ s.now)

/-- A timeout (R355, R359): the message becomes a timed-out reply, or a stale one is freed. -/
def State.mbxExpire (s : State) (m k : Nat) : State :=
  let x := s.slot m k
  if s.mbxExpired m x then
    let s := (s.bump Mbx.MBX_TIMEOUTS m).updMbx m (fun c => { c with late := k :: c.late.filter (fun j => j != k) })
    if s.stale x then (s.bump Mbx.MBX_STALE_REPLY m).freeSlot m k
    else
      let n := (s.mbxCh m).next
      let s := s.setSlot m k { x with st := 3, kind := 2, length := 0, order := n }
      (s.updMbx m (fun c => { c with next := n + 1 })).mbxCause m x.sender 4
  else s

/-- A timeout in the clock of an operation is applied before it (R356).
Log: 116 DEDUCED. -/
def State.mbxSweep (s : State) (m : Nat) : State :=
  (List.range 16).foldl (fun s k => s.mbxExpire m k) s

/-- The lowest free slot. -/
def State.freeIn (s : State) (m : Nat) : Option Nat :=
  (List.range 16).find? (fun k => (s.slot m k).st == 0)

/-- Bytes of a STAGE buffer with the missing ones 0. -/
def View.bytes (v : View) : List Nat := (v.stage ++ List.replicate 64 0).take 64

/-- A post (R353, R354): the status byte. -/
def State.mbxPost (s : State) (m who : Nat) : Nat × State :=
  let b := (s.view m who).bytes
  let h := ofLe (b.take 8)
  let len := bits h 37 32
  if !s.mbxPermits m who then (0xFE, s.bump Mbx.MBX_REFUSED m)
  else if 56 < len then (0xFD, s.bump Mbx.MBX_BAD_OP m)
  else
    match s.freeIn m with
    | none => (0xFF, s.bump Mbx.MBX_FULL m)
    | some k =>
      let n := (s.mbxCh m).next
      let x : Slot := { st := 1, sender := who, inc := s.incOf who, kind := 0, length := len, want := h.testBit 38,
                        tag := bits h 63 52, data := b.drop 8, order := n, at' := s.now }
      let s := (s.setSlot m k x).updMbx m (fun c => { c with next := n + 1 })
      (k, (s.bump Mbx.POSTS m).mbxCause m (s.mbxReceiver m) 0)

/-- The slot in a state that comes first in order, among those that satisfy `p`. -/
def State.mbxOldest (s : State) (m : Nat) (p : Slot → Bool) : Option Nat :=
  ((s.mbxCh m).slots.filter (fun e => p e.2)).foldl (fun best e =>
    match best with
    | none => some e.1
    | some k => if e.2.order < (s.slot m k).order then some e.1 else some k) none

/-- A write of MBX_DONE or MBX_FREE that does not fit (R353, R355). -/
def State.mbxBadDone (s : State) (m k who : Nat) : State :=
  if who = s.mbxReceiver m ∧ (s.slot m k).st ≠ 2 ∧ (s.mbxCh m).late.contains k then s.bump Mbx.MBX_LATE_DONE m else s.bump Mbx.MBX_BAD_OP m

/-- The receiver of a channel is reset (R358). -/
def State.mbxLoseReceiver (s : State) (m : Nat) : State :=
  let s := s.updMbx m (fun c => { c with late := [] })
  (List.range 16).foldl (fun s k =>
    let x := s.slot m k
    if x.st = 1 ∨ x.st = 2 then
      let s := s.updView m x.sender (fun v => { v with flushed := min 65535 (v.flushed + 1) })
      ((s.bump Mbx.MBX_FLUSHED_TOTAL m).mbxCause m x.sender 3).freeSlot m k
    else s) s

/-- A sender is reset (R359): its replies are erased. -/
def State.mbxLoseSender (s : State) (m who : Nat) : State :=
  (List.range 16).foldl (fun s k =>
    let x := s.slot m k
    if x.st = 3 ∧ x.sender = who then (s.bump Mbx.MBX_STALE_REPLY m).freeSlot m k else s) s

/-- A reset of identities applies to every mailbox (R346). -/
def State.mbxReset (s : State) (ids : List Nat) : State :=
  (List.range 64).foldl (fun s m =>
    let s := if ids.contains (s.mbxReceiver m) then s.mbxLoseReceiver m else s
    ids.foldl (fun s w => s.mbxLoseSender m w) s) s

/-- A lock's owner and the owner's incarnation; 0 when free. -/
def State.lock (s : State) (n : Nat) : Nat × Nat := s.host.lck.getD n (0, 0)
def State.setLock (s : State) (n : Nat) (o : Nat × Nat) : State :=
  s.setHost (fun h => { h with lck := if o.1 = 0 then h.lck.del n else h.lck.ins n o })

/-- LCK_ACQUIRE as read: OWNER and OWNER_INC. -/
def lockWord (o : Nat × Nat) : Nat := o.1 + o.2 * 4096

/-- The locks of identities are released at their reset (R364). The event carries the incarnation from before it. -/
def State.lockReset (s : State) (ids : List Nat) : State :=
  s.host.lck.foldl (fun s e =>
    if ids.contains e.2.1 then
      let s := (s.setLock e.1 (0, 0)).bump Lck.LOCK_RESET_RELEASES
      (s.event 0x9002 e.2.1 [a8 e.1, a16 e.2.1]).hostCause 0
    else s) s

/-- The pending bits of every doorbell of a target are cleared (R346). -/
def State.dblReset (s : State) (id : Nat) : State :=
  s.setHost (fun h => { h with
    dbl := h.dbl.map (fun e => if s.dblTarget e.1 = id then (e.1, (0, e.2.2)) else e),
    dblClk := h.dblClk.filter (fun e => s.dblTarget e.1 != id) })

/-- The secured session of the host ends (R361). -/
def State.sessionEnd (s : State) : State :=
  if s.flag Hst.SEC_SESSION then
    let s := (s.put Hst.SEC_SESSION 0).setHost (fun h => { h with secSel := 0 })
    let s := (List.range 8).foldl (fun s m => (List.range 16).foldl (fun s k =>
      if (s.slot m k).st ≠ 0 ∧ (s.slot m k).sender = idHost then (s.bump Hst.SEC_FLUSH).freeSlot m k else s) s) s
    let s := { s with secu := { s.secu with spdmHost := 3 } }
    (s.event 0x9407 idSecurity [a8 0, a8 0]).hostCause 2
  else s

/-- The descriptor at the head of a channel's ring. -/
def DmaCh.desc (d : DmaCh) : Desc := d.descs.getD d.head {}

/-- Descriptors that belong to the device (R349).
Log: 117 DEDUCED. -/
def DmaCh.owned (d : DmaCh) : Nat := (d.tail + d.size - d.head) % d.size

/-- A channel halts (R351). -/
def State.dmaHalt (s : State) (c cause : Nat) : State :=
  let s := s.irqStep c (fun s => s.updDma c (fun d =>
    { d with halted := true, haltCause := cause, busy := false, irq := Nat.lor d.irq 2 }))
  s.bump Dma.HALTS c

/-- A descriptor has a reserved bit set, or on a receive channel LEN out of range (R351). -/
def Desc.bad (x : Desc) (c : Nat) : Bool :=
  if c < 4 then bits x.ctrl 7 4 != 0 || x.rest != 0 || x.aux != 0
  else if c < 8 then bits x.ctrl 7 4 != 0 || x.rest != 0 || bits x.aux 31 15 != 0
  else bits x.ctrl 7 2 != 0 || decide (x.len < 64) || decide (16384 < x.len)

/-- LEN of a transmit descriptor is in range (Table 13-7). -/
def Desc.lenOk (x : Desc) (c : Nat) : Bool :=
  if c < 4 then decide (64 ≤ x.len) && decide (x.len ≤ 16384) else decide (1 ≤ x.len) && decide (x.len ≤ 1980)

/-- A completed transmit packet or message: status and RESULT for the descriptor (R235, R349). -/
def State.dmaPost (s : State) (c k st res : Nat) : State :=
  { s with tm := { s.tm with dmaDone := s.tm.dmaDone ++ [(c, k, st, res)] } }

/-- The DMA engine reads the next transmit descriptor of a running channel: a packet leaves for its pipeline. -/
def State.dmaKick (s : State) (c : Nat) : State :=
  let d := s.dmaCh c
  if 5 ≤ c ∨ !d.enable ∨ d.halted ∨ d.busy ∨ d.owned = 0 then s
  else
    let x := d.desc
    if x.bad c then s.dmaHalt c 2
    else
      let s := s.updDma c (fun d => { d with busy := true })
      if !x.lenOk c then s.dmaPost c d.head 2 0
      else if c = 4 then s
      else
        let l := if x.ctrl.testBit 2 then some (((x.launch % 2 ^ 64) * secNs + bits x.launch 95 64) * 65536 + bits x.launch 111 96) else none
        s.arrive (pipeOfDma (bits x.ctrl 3 3))
          { data := (x.data ++ List.replicate x.len 0).take x.len, srcType := 2, srcId := idDma, at' := s.now,
            launch := l, desc := some (c, d.head) }

/-- A packet of a descriptor still on its way is discarded.
Log: 117 DEDUCED. -/
def State.dmaDiscard (s : State) (c k : Nat) : State :=
  { s with pipes := s.pipes.map (fun e => (e.1, { e.2 with arriving := e.2.arriving.filter (fun p => p.desc != some (c, k)) })) }

/-- A descriptor completes (R349): the completion is written, DMA_HEAD advances, and DMA_IRQ bit 0 is set when asked.
Log: 117 DEDUCED. -/
def State.dmaComplete (s : State) (c st len aux res time : Nat) (data : List Nat) : State :=
  let d := s.dmaCh c
  let s := s.emit (.dma c d.head st len aux res time data)
  let s := s.updDma c (fun d => { d with head := (d.head + 1) % d.size, busy := false, descs := d.descs.del d.head })
  let s := (s.bump Dma.DESCRIPTORS c)
  let s := { s with tm := { s.tm with dmaDone := s.tm.dmaDone.filter (fun e => !(e.1 == c && e.2.1 == d.head)) } }
  if d.desc.ctrl.testBit 1 then s.irqStep c (fun s => s.updDma c (fun d => { d with irq := Nat.lor d.irq 1 })) else s

/-- What waits for a receive channel: bytes, AUX, RESULT, arrival time and buffer, and the state without it. -/
def State.dmaItem (s : State) (c : Nat) : Option ((List Nat × Nat × Nat × Nat × Option Pkt) × State) :=
  if c = 8 ∨ c = 9 then
    match s.tm.toHost.find? (fun h => h.ch == c) with
    | some h => some ((h.pkt.data, h.aux, 0, h.pkt.at', some h.pkt), { s with tm := { s.tm with toHost := s.tm.toHost.erase h } })
    | none => none
  else if c = 10 then
    match (s.omciRx.filterMap (fun e => e.2.head?.map (fun m => m.at'))).min? with
    | none => none
    | some a =>
      match List.find? (fun e => e.2.head?.any (fun m => m.at' == a)) s.omciRx with
      | some (p, m :: t) =>
        some ((m.body, m.rcd + m.prio * 16384, m.code, m.at', none), { s with omciRx := s.omciRx.ins p t })
      | _ => none
  else if c = 11 then
    match s.host.evts with
    | q :: t =>
      let s' := s.setHost (fun h => { h with evts := t })
      match s.log.find? (q % 65536) with
      | some e => some ((e.bytes false, 0, 0, e.time, none), s')
      | none => none
    | [] => none
  else none

/-- The buffer of a packet written to host memory is freed or released (R240). -/
def State.dmaFreed (s : State) : Option Pkt → State
  | some p => s.bufDrop idDma p.shared p.buf
  | none => s

/-- A transmit descriptor that is in progress when the host is reset completes with STATUS 6 (R350). -/
def State.dmaAbandon (s : State) (c : Nat) : State :=
  let d := s.dmaCh c
  let s := if d.busy then (s.dmaDiscard c d.head).dmaComplete c 6 d.desc.len d.desc.aux 0 0 [] else s
  s.updDma c (fun d => { d with enable := false })

end Sys2Proof.Machine
end

