-- ==== Sys2Proof/Machine/LeaseOps.lean ====
section
/-! DEFINITION. Dictionary sessions and the lease (R378–R383). -/

namespace Sys2Proof.Machine

def State.setDict (s : State) (f : DictX → DictX) : State := { s with dict := f s.dict }

def State.sess (s : State) (k : Nat) : DictSess := s.dict.sess.getD k {}
def State.updSess (s : State) (k : Nat) (f : DictSess → DictSess) : State :=
  s.setDict (fun d => { d with sess := d.sess.upd k {} f })

/-- No session holds the lease. -/
abbrev noOwner : Nat := 0xFF

def State.owner (s : State) : Nat := s.nat Dic.OWNER

/-- The transaction of a session is discarded (R383), a commit that waits with it; an abort that the session did not request
waits to be reported. -/
def State.txnDrop (s : State) (k : Nat) (requested : Bool) : State :=
  let wait := s.dict.commits.filter (fun c => c.reply.session == k)
  let s := s.setDict (fun d => { d with commits := d.commits.filter (fun c => c.reply.session != k) })
  let s := wait.foldl (fun s c => s.sendReply { c.reply with code := rcAborted }) s
  let s := if (s.sess k).txn then
      s.updSess k (fun x => { x with txn := false, members := [], aborted := !requested }) else s
  s

/-- The owner gives up the lease (R379, R380).
Log: 121 DEDUCED. -/
def State.leaseFree (s : State) (requested : Bool) : State :=
  let k := s.owner
  if k = noOwner then s else ((s.put Dic.OWNER noOwner).put Dic.LEASE_END 0).txnDrop k requested

/-- The lease lapses at its end (R380). -/
def State.leaseSweep (s : State) : State :=
  let k := s.owner
  if k ≠ noOwner ∧ s.nat Dic.LEASE_END ≤ s.now then
    ((s.leaseFree false).bump Dic.LEASE_LAPSES).event 0x1002 idDict [a8 k]
  else s

/-- The lease covers [now, now + LEASE_PERIOD_S) (R379). -/
def State.leaseExtend (s : State) : State :=
  s.put Dic.LEASE_END ((s.now + s.nat Dic.LEASE_PERIOD_S * secNs : Nat) : Int)

/-- LEASE_CMD by a session: the code and the state (R379). -/
def State.leaseCmd (s : State) (k cmd : Nat) : Nat × State :=
  let o := s.owner
  if cmd = 1 then
    if o = k then (rcOk, s.leaseExtend)
    else if o = noOwner ∧ k ≤ 8 then
      let s := ((s.put Dic.OWNER k).bump Dic.LEASE_TAKES).leaseExtend
      (rcOk, s.event 0x1001 idDict [a8 k, aTime (s.get Dic.LEASE_END)])
    else (rcLease, s)
  else if o ≠ k then (rcLease, s)
  else if cmd = 2 then (rcOk, s.leaseExtend)
  else (rcOk, s.leaseFree true)

/-- The objects of an MGMT session return to 0. -/
def State.sessClear (s : State) (k : Nat) : State :=
  [Sess.PEER_IP, Sess.PEER_PORT, Sess.OPENED_AT, Sess.LAST_SEQ, Sess.SUBSCRIBED].foldl (fun s o => s.put o 0 (k - 1)) s

/-- An MGMT session closes: a lease that it holds is released (R380, R383, R391). -/
def State.sessClose (s : State) (k : Nat) : State :=
  if (s.sess k).isOpen then
    let s := if s.owner = k then s.leaseFree false else s.txnDrop k false
    let s := s.sessClear k
    let s := { s with findSerial := s.findSerial.del k }
    let s := s.setDict (fun d => { d with sess := d.sess.del k })
    s.put Dic.SESSIONS_OPEN (s.get Dic.SESSIONS_OPEN - 1)
  else s

/-- Every MGMT session closes (R389). -/
def State.sessCloseAll (s : State) : State := (List.range 8).foldl (fun s i => s.sessClose (i + 1)) s

/-- A host reset releases the lease of session 0 (R380). -/
def State.leaseHostReset (s : State) : State :=
  let s := s.leaseSweep
  if s.owner = 0 then s.leaseFree false else s.txnDrop 0 false


end Sys2Proof.Machine
end

