-- ==== Sys2Proof/Machine/TimeOps.lean ====
section
/-! DEFINITION. The time unit: steps, PTP data sets, servo, synchronous Ethernet selection and time of day (R286–R306). -/

namespace Sys2Proof.Machine

/-- The members of a mode (Table 10-1). -/
def modeMembers (mode : Nat) : List Nat :=
  match mode with
  | 1 | 4 => [0]
  | 2 => [0, 1]
  | 3 | 5 => [0, 1, 2, 3]
  | _ => []

/-- First lane of member `m` of group `g` (R263). -/
def laneOf (mode g m : Nat) : Nat :=
  match mode with
  | 2 => 4 * g + 2 * m
  | 3 => 4 * g + m
  | _ => 4 * g

/-- Lanes of member `m` of group `g` (Table 10-1). -/
def lanesOf (mode g m : Nat) : List Nat :=
  match mode with
  | 2 => [4 * g + 2 * m, 4 * g + 2 * m + 1]
  | 3 => [4 * g + m]
  | 4 => (List.range 4).map (fun l => 4 * g + l) ++ (List.range 4).map (fun l => 4 * g + 16 + l)
  | _ => (List.range 4).map (fun l => 4 * g + l)

/-- The Ethernet member that a lane belongs to. -/
def State.memberOfLane (s : State) (l : Nat) : Option Nat :=
  (List.range 32).find? (fun i =>
    let mode := s.nat Upl.MODE (i / 4)
    mode != 5 && (modeMembers mode).contains (i % 4) && (lanesOf mode (i / 4) (i % 4)).contains l)

def State.setTime (s : State) (f : TimeX → TimeX) : State := { s with time := f s.time }

def State.ptpX (s : State) (k : Nat) : PtpX := s.time.ports.getD k {}
def State.updPtp (s : State) (k : Nat) (f : PtpX → PtpX) : State :=
  s.setTime (fun t => { t with ports := t.ports.upd k {} f })

def State.syncX (s : State) (k : Nat) : SyncX := s.time.srcs.getD k {}
def State.updSync (s : State) (k : Nat) (f : SyncX → SyncX) : State :=
  s.setTime (fun t => { t with srcs := t.srcs.upd k {} f })

/-- PTP port states (Table 11-7). -/
abbrev ptpDisabled : Nat := 0
abbrev ptpListening : Nat := 1
abbrev ptpPassive : Nat := 2
abbrev ptpMaster : Nat := 3
abbrev ptpUncal : Nat := 4
abbrev ptpSlave : Nat := 5

/-- Servo states (Table 11-3). -/
abbrev svFree : Nat := 0
abbrev svAcq : Nat := 1
abbrev svLocked : Nat := 2
abbrev svHold : Nat := 3
abbrev svHoldOut : Nat := 4

/-- The clockClass sent (Table 11-3). -/
def State.clockClass (s : State) : Nat :=
  match s.nat Tim.SERVO_STATE with
  | 1 => if s.time.everLocked then 135 else 248
  | 2 => s.nat Ptp.GM_CLASS
  | 3 => 135
  | 4 => 165
  | _ => 248

/-- Mean of the applied frequency offset over [a, b), newest change first; 0 before the first. -/
def meanFreq (a b : Nat) : Nat → List (Nat × Int) → Int
  | _, [] => 0
  | hi, (t, v) :: l =>
    let lo := max a (min t hi)
    (if lo < hi then v * ((hi : Int) - lo) else 0) + (if t ≤ a then 0 else meanFreq a b (min hi t) l)

/-- The frequency offset takes a value at the next frame boundary, or at the one that is now (R287, R307).
Log: 96 DESIGN CHOICE. -/
def State.setFreq (s : State) (v : Int) : State :=
  let k := s.frame
  let t := if s.frameStart k = s.now then s.now else s.frameStart (k + 1)
  s.setTime (fun x => { x with freqs := (t, Ty.s32.norm v) :: x.freqs })

/-- FREQ_PPB: the frequency offset applied now. -/
def State.freqNow (s : State) : Int := ((s.time.freqs.find? (fun e => decide (e.1 ≤ s.now))).map (fun e => e.2)).getD 0

/-- The servo's frequency after an update with offset `th`: the loop's, with an added offset of at most SLEW_MAX_PPB (R289, R295).
Log: 96 DESIGN CHOICE. -/
def State.servoSet (s : State) (th : Int) : State :=
  let bw := s.nat Tim.BW_MHZ
  let m : Int := s.get Tim.SLEW_MAX_PPB
  let v := Config.servoFreq bw th s.drawn + clampInt (Config.servoSlew bw th s.drawn) (-m) m
  ({ s with drawn := s.drawn + 1 } : State).setFreq v

/-- The rate of holdover (R296): the SyncE frequency, whose number is not stated, or the mean before the loss.
Log: 96 DESIGN CHOICE. -/
def State.holdRate (s : State) : State :=
  if s.flag Tim.FREQ_ASSIST ∧ s.nat SyE.SELECTED ≠ 0xFF then
    match s.draw with | (v, s) => s.setFreq v
  else
    let l := s.time.lossAt.getD s.now
    let a := l - s.nat Tim.HOLD_AVG_S * secNs - secNs
    let b := l - secNs
    if a < b then s.setFreq (roundDiv (meanFreq a b b s.time.freqs) (b - a)) else s

/-- The servo changes its state (R295); a step it asked for is made in ACQUIRING alone (R289).
Log: 98 DEDUCED. -/
def State.setServo (s : State) (st : Nat) : State :=
  let old := s.nat Tim.SERVO_STATE
  if st = old then s
  else
    let s := (s.put Tim.SERVO_STATE st).event 0x8803 idTime [a8 st, a8 old]
    let s := s.setTime (fun t => { t with inRun := 0, outRun := 0, stepBy := if st = svAcq then t.stepBy else none,
                                          everLocked := t.everLocked || st == svLocked,
                                          lossAt := if st = svLocked then none
                                                    else if old = svLocked then some s.now else t.lossAt })
    let s := if s.flag Pin.OUT_SQUELCH ∧ (st = svFree ∨ old = svFree) then
        s.emit (.pin .out10M (if st = svFree then 0 else 1)) else s
    if st = svHold ∨ st = svHoldOut then s.holdRate else s

/-- The time source is lost (R295).
Log: 98 DEDUCED. -/
def State.sourceLost (s : State) : State :=
  let s := s.setTime (fun t => { t with theta := none })
  match s.nat Tim.SERVO_STATE with
  | 1 =>
    if s.time.everLocked then
      s.setServo (if s.now < s.time.lossAt.getD s.now + s.nat Tim.HOLDOVER_SPEC_S * secNs then svHold else svHoldOut)
    else s.setServo svFree
  | 2 => s.setServo svHold
  | _ => s

/-- The time source in force at a second boundary is not valid: the SLAVE port, or PPS_IN when TIME_SOURCE is 1 (R295, R308).
Log: 98 DEDUCED. -/
def State.sourceGone (s : State) : Bool :=
  if s.nat Tim.TIME_SOURCE = 1 then !s.flag Pin.PPS_IN_VALID
  else !(s.time.follow.any (fun k => s.nat PtpPort.PORT_STATE k == ptpSlave))

/-- A time source is valid (R295). -/
def State.sourceValid (s : State) : State :=
  match s.nat Tim.SERVO_STATE with
  | 0 | 3 | 4 => s.setServo svAcq
  | _ => s

/-- TOD_INFO of a channel from frame `k` (R305).
Log: 100 DEDUCED. -/
def State.todOf (s : State) (k : Nat) (delay : Int) : Nat :=
  let ps : Int := (s.frameStart k : Int) * 1000 + delay
  let ns := ((ps + 500) / 1000).toNat
  ofLe (beBytes 4 (k % 2 ^ 51 % 2 ^ 32) ++ beBytes 6 (ns / secNs) ++ beBytes 4 (ns % secNs))

/-- TOD_INFO of every channel for the current second (R306).
Log: 100 DEDUCED. -/
def State.todAll (s : State) : State :=
  (List.range 64).foldl (fun s p =>
    let k := s.frameOf ((s.sec + s.nat Tod.TOD_LEAD_S p) * secNs)
    (s.put Tod.TOD_INFO_C0 (s.todOf k (s.get Tod.TOD_TX_DELAY_C0_PS p)) p).put Tod.TOD_INFO_C1
      (s.todOf k (s.get Tod.TOD_TX_DELAY_C1_PS p)) p) s

/-- Any channel is LIT or DARK. -/
def State.anyLit (s : State) : Bool :=
  (List.range 64).any (fun p => (List.range 2).any (fun c => s.chState p c == chLit || s.chState p c == chDark))

/-- Device time becomes `t`, a step of −θ ps (R289). Start-up times are measured in elapsed time, and TIME_HWM keeps the largest
device time seen (R424).
Log: 97 DEDUCED, 101 DEDUCED. -/
def State.stepTo (s : State) (t : Nat) (theta : Int) : State :=
  let k := s.frame
  let e : Int :=
    if s.anyLit then s.get Tim.FRAME_EPOCH + ((t : Int) - s.now)
    else (t / frameNs * frameNs : Nat) - (k * frameNs : Nat)
  let d : Int := (t : Int) - s.now
  let s := if d < 0 then s.put Sec.TIME_HWM (max (s.get Sec.TIME_HWM) s.sec) else s
  let w := s.power
  let s := { s with power := { w with t0 := w.t0 + d, transAt := w.transAt + d, waveAt := w.waveAt + d, phase5 := w.phase5 + d } }
  let s := { s with now := t }.put Tim.FRAME_EPOCH e
  let s := s.setTime (fun x => { x with stepBy := none, setTo := none, lastSec := t / secNs })
  let s := (s.bump Tim.STEPS).event 0x8801 idTime [a64 theta]
  (s.bump Tim.TOD_SEQ).todAll

/-- Ticks of 1/8,192,000 ns, in which both a picosecond and the 1/65,536 ns of TS112 (R286) are whole. -/
abbrev psTicks : Nat := 8192
abbrev fracTicks : Nat := 125

/-- The parts of a received PTP message (R293). -/
structure PtpMsg where
  kind : Nat := 0
  version : Nat := 0
  len : Nat := 0
  domain : Nat := 0
  twoStep : Bool := false
  /-- Correction in ticks, port identity of the sender, sequence number, time stamp of the body in ticks. -/
  corr : Int := 0
  src : Nat := 0
  seq : Nat := 0
  stamp : Int := 0
  deriving DecidableEq, Repr

def ptpMsg (d : List Nat) : PtpMsg :=
  { kind := byteAt d 0 % 16, version := byteAt d 1 % 16, len := min d.length (beAt d 2 2), domain := byteAt d 4,
    twoStep := (byteAt d 6).testBit 1, corr := sext 64 (beAt d 8 8) * fracTicks, src := ofLe ((d.drop 20).take 10),
    seq := beAt d 30 2, stamp := (beAt d 34 6 * secNs + beAt d 40 4 : Nat) * 65536 * fracTicks }

/-- The least length of a supported message: Sync 0, Delay_Req 1, Follow_Up 8, Delay_Resp 9, Announce 11 (Table 11-2).
Log: 93 PRESUMED. -/
def ptpMinLen (kind : Nat) : Option Nat :=
  match kind with
  | 0 | 1 | 8 => some 44
  | 9 => some 54
  | 11 => some 64
  | _ => none

/-- The profile checks of R293.
Log: 93 PRESUMED. -/
def State.ptpOk (s : State) (m : PtpMsg) : Bool :=
  m.version == 2 && m.domain == s.nat Ptp.DOMAIN &&
    (match ptpMinLen m.kind with
     | some n => decide (n ≤ m.len)
     | none => false)

/-- RX_LAT and TX_LAT of a PTP port in ps (Table 11-1). -/
def State.ptpLat (s : State) (k : Nat) : Int × Int :=
  if k = 32 then (355000, 190000)
  else
    match s.nat Upl.MODE (k / 4) with
    | 1 => (341600, 182400)
    | 2 => (378200, 201900)
    | 3 => (452800, 236500)
    | _ => (322700, 171300)

/-- Lexicographic order of data sets. -/
def lexLt : List Nat → List Nat → Bool
  | [], _ => false
  | _, [] => false
  | a :: t, b :: u => decide (a < b) || (a == b && lexLt t u)

/-- The data set of a master as the alternate BMCA of G.8275.1 orders it, heard by a port of local priority `lp` (R294).
Log: 93 PRESUMED. -/
def Ann.key (a : Ann) (lp : Nat) : List Nat :=
  [a.cls, a.acc, a.var, a.prio2, lp] ++ (if a.cls ≤ 127 then [a.steps, a.src] else [a.gm, a.steps, a.src])

/-- announceReceiptTimeout: 3 intervals of 125 ms (Table 11-2). -/
abbrev announceNs : Nat := 375000000

/-- Masters whose Announce messages are fresh, and of those the ones heard twice within 4 intervals.
Log: 93 PRESUMED. -/
def Ann.usable (now : Nat) (a : Ann) : Bool :=
  decide (now < a.at' + announceNs) &&
    (match a.prev with
     | some p => decide (a.at' < p + 500000000)
     | none => false)

/-- The best master of a port. -/
def State.bestOf (s : State) (k : Nat) : Option Ann :=
  let lp := s.nat PtpPort.PORT_LOCAL_PRIORITY k
  ((s.ptpX k).masters.filter (Ann.usable s.now)).foldl (fun b a =>
    match b with
    | none => some a
    | some x => if lexLt (a.key lp) (x.key lp) then some a else some x) none

/-- The PTP port takes part: enabled, with its LINK (R294), and not in a MODE 5 group (R291). -/
def State.ptpOn (s : State) (k : Nat) : Bool :=
  s.flag PtpPort.PTP_ENABLE k && (decide (32 ≤ k) || s.flag Mac.LINK k && s.nat Upl.MODE (k / 4) != 5)

/-- The destination address of a port's PTP messages (R292). -/
def State.ptpDmac (s : State) (k : Nat) : Nat := if s.nat PtpPort.DMAC_SEL k = 0 then 0x011B19000000 else 0x0180C200000E

/-- The clock's own data set (R294, R295). -/
def State.ownKey (s : State) : List Nat :=
  [if s.flag Ptp.SLAVE_ONLY then 255 else match s.nat Tim.SERVO_STATE with
     | 3 => 135
     | 4 => 165
     | 1 => if s.time.everLocked then 135 else 248
     | _ => 248,
   0xFE, 0xFFFF, s.nat Ptp.PRIORITY2, s.nat Ptp.LOCAL_PRIORITY, Config.clockIdentity, 0, 0]

/-- The time unit is locked to PTP port 32: the chip is a twin's standby (R317).
Log: 94 DEDUCED. -/
def State.lockedTo32 (s : State) : Bool := s.nat Twin.ROLE == 2 && s.nat Twin.STATE != 9

/-- The best master of all ports that may be SLAVE, when it is better than the clock itself: port and data set. A standby takes
that of PTP port 32 (R317).
Log: 93 PRESUMED, 94 DEDUCED. -/
def State.ebest (s : State) : Option (Nat × Ann) :=
  let all := (if s.lockedTo32 then [32] else List.range 33).filterMap (fun k =>
    if s.ptpOn k ∧ !s.flag PtpPort.MASTER_ONLY k ∧ !s.flag PtpPort.NOT_SLAVE k then (s.bestOf k).map (fun a => (k, a)) else none)
  let key (x : Nat × Ann) := x.2.key (s.nat PtpPort.PORT_LOCAL_PRIORITY x.1)
  match all.foldl (fun b x => match b with
      | none => some x
      | some y => if lexLt (key x) (key y) then some x else some y) none with
  | some x => if s.lockedTo32 ∨ lexLt (key x) s.ownKey then some x else none
  | none => none

/-- The state that the alternate BMCA gives a port (R294).
Log: 93 PRESUMED. -/
def State.ptpDecide (s : State) (eb : Option (Nat × Ann)) (k : Nat) : Nat :=
  if !s.ptpOn k then ptpDisabled
  else
    let alone := if s.flag Ptp.SLAVE_ONLY then ptpListening
      else if s.nat PtpPort.PORT_STATE k ≤ ptpListening ∧ s.now < (s.ptpX k).since + announceNs then ptpListening
      else ptpMaster
    match eb with
    | none => if (s.bestOf k).isSome ∧ !s.flag Ptp.SLAVE_ONLY then ptpMaster else alone
    | some (p, a) =>
      if p = k then
        (if s.nat PtpPort.PORT_STATE k = ptpSlave ∧ s.nat Ptp.PARENT_ID = a.src then ptpSlave else ptpUncal)
      else
        match s.bestOf k with
        | none => alone
        | some b =>
          if s.flag PtpPort.MASTER_ONLY k then ptpMaster
          else if b.gm = a.gm ∧ b.steps ≤ a.steps + 1 then ptpPassive
          else if s.flag Ptp.SLAVE_ONLY then ptpListening else ptpMaster

/-- The BMCA runs (R294): port states, parent data, and the time source that may be lost. -/
def State.bmca (s : State) : State :=
  let eb := s.ebest
  let was := s.time.follow
  let sts := (List.range 33).map (fun k => (k, s.ptpDecide eb k))
  let lost : Bool := match was with
    | some k => s.nat PtpPort.PORT_STATE k == ptpSlave && (sts.find? (fun e => e.1 == k)).map (fun e => e.2) != some ptpSlave
    | none => false
  let s := sts.foldl (fun s e =>
    let s := if s.nat PtpPort.PORT_STATE e.1 = ptpDisabled ∧ e.2 ≠ ptpDisabled then
        s.updPtp e.1 (fun _ => { since := s.now }) else s
    s.put PtpPort.PORT_STATE e.2 e.1) s
  let s := if lost ∧ s.nat Tim.TIME_SOURCE = 0 then s.sourceLost else s
  let par := match eb with
    | some (_, a) => (a.src, a.gm, a.cls, a.steps)
    | none => (0, 0, s.clockClass, 0)
  let changed := s.nat Ptp.PARENT_ID ≠ par.1 ∨ s.time.gm ≠ par.2.1
  let s := ((s.put Ptp.PARENT_ID par.1).put Ptp.GM_CLASS par.2.2.1).put Ptp.STEPS_REMOVED par.2.2.2
  let s := s.setTime (fun t => { t with gm := par.2.1, follow := eb.map (fun x => x.1) })
  if changed then s.event 0x8802 idTime [(10, (par.1 : Nat)), a8 (par.2.2.1 : Nat)] else s

/-- The offset of a port from times in ticks (R295), to the nearest ps (R6); the port becomes SLAVE. -/
def State.ptpMeasure (s : State) (k : Nat) (t1 t2 : Int) : State :=
  let s := s.updPtp k (fun x => { x with sync := some (t1, t2) })
  if s.time.follow ≠ some k then s
  else
    let first := s.nat PtpPort.PORT_STATE k == ptpUncal
    let s := if first then s.put PtpPort.PORT_STATE ptpSlave k else s
    if s.nat Tim.TIME_SOURCE = 0 then
      let s := s.sourceValid
      s.setTime (fun t => { t with theta := some (roundDiv
        (t2 - t1 - (s.get PtpPort.MEAN_PATH_PS k + s.get PtpPort.DELAY_ASYM_PS k) * psTicks) psTicks) })
    else s

/-- Rank of a QL under an option of G.781, higher is better; 0 is not selectable (R298).
Log: 99 PRESUMED. -/
def qlRank (option code : Nat) : Nat :=
  if option = 1 then
    match code with
    | 2 => 4
    | 4 => 3
    | 8 => 2
    | 11 => 1
    | _ => 0
  else
    match code with
    | 1 => 7
    | 0 => 6
    | 7 => 5
    | 4 => 4
    | 13 => 3
    | 10 => 2
    | 12 => 1
    | _ => 0

/-- The QL sent in holdover (R298). -/
def holdQl (option : Nat) : Nat := if option = 1 then 11 else 10

/-- The QL of a source: none is QL-FAILED (R298). -/
def State.srcQl (s : State) (k : Nat) : Option Nat :=
  if 32 ≤ k then some (s.nat SySrc.FORCED_QL k)
  else
    match s.memberOfLane k with
    | some i => if s.flag Mac.LINK i then (s.syncX k).ql else none
    | none => none

/-- The source is a candidate: enabled, in the selection, with a QL that can be selected. -/
def State.syncCand (s : State) (k : Nat) : Bool :=
  s.flag SySrc.ENABLE k && (s.syncX k).ready &&
    (match s.srcQl k with
     | some q => qlRank (s.nat SyE.EEC_OPTION) q != 0
     | none => false)

/-- The best candidate: highest QL, then lowest PRIORITY, then lowest number. -/
def State.syncBest (s : State) : Nat :=
  let key (k : Nat) : List Nat := [8 - qlRank (s.nat SyE.EEC_OPTION) ((s.srcQl k).getD 15), s.nat SySrc.PRIORITY k, k]
  ((List.range 37).filter s.syncCand).foldl (fun b k => if b = 0xFF ∨ lexLt (key k) (key b) then k else b) 0xFF

/-- QL_OUT follows the selection.
Log: 99 PRESUMED. -/
def State.qlOut (s : State) : Nat :=
  let k := s.nat SyE.SELECTED
  if k = 0xFF then holdQl (s.nat SyE.EEC_OPTION) else (s.srcQl k).getD (holdQl (s.nat SyE.EEC_OPTION))

/-- Selection of a source (R298); in holdover the rate follows it (R296). -/
def State.syncSelect (s : State) (k : Nat) : State :=
  if s.nat SyE.SELECTED = k then s.put SyE.QL_OUT s.qlOut
  else
    let s := (s.put SyE.SELECTED k).bump SyE.SELECT_CHANGES
    let s := s.put SyE.QL_OUT s.qlOut
    let s := s.event 0x8804 idTime [a8 k, a8 (s.get SyE.QL_OUT)]
    if s.nat Tim.SERVO_STATE = svHold ∨ s.nat Tim.SERVO_STATE = svHoldOut then s.holdRate else s

/-- The time since when a condition holds. -/
def sinceOf (now : Nat) (cond : Bool) (old : Option Nat) : Option Nat := if cond then old.or (some now) else none

/-- What an RCLK_OUT shows: the lane of its RCLK_SEL and RCLK_FREQ, or nothing while that source's QL is QL-FAILED (R300). -/
def State.rclkOf (s : State) (o : Obj) : Option (Nat × Nat) :=
  if (s.srcQl (s.nat o)).isSome then some (s.nat o, s.nat Pin.RCLK_FREQ) else none

/-- QL_IN, VALID and the entry of sources; then the selection, unless the selected source has failed (R298). -/
def State.syncRefresh (s : State) : State :=
  let sel := s.nat SyE.SELECTED
  let s := (List.range 37).foldl (fun s k =>
    let q := s.srcQl k
    let x := s.syncX k
    let v := sinceOf s.now q.isSome x.validAt
    let ready := if q.isSome then x.ready || s.nat SyE.WTR_S == 0 else x.ready && k == sel
    let s := s.updSync k (fun x => { x with validAt := v, ready := ready })
    (s.put SySrc.QL_IN (q.getD 15) k).put SySrc.VALID (if q.isSome then 1 else 0) k) s
  let a := s.rclkOf Pin.RCLK_SEL0
  let b := s.rclkOf Pin.RCLK_SEL1
  let s := if s.time.rclk0 ≠ a then s.emit (.rclk 0 a) else s
  let s := if s.time.rclk1 ≠ b then s.emit (.rclk 1 b) else s
  let s := s.setTime (fun t => { t with rclk0 := a, rclk1 := b })
  if sel ≠ 0xFF ∧ (s.srcQl sel).isNone then
    (s.setTime (fun t => { t with failAt := t.failAt.or (some s.now) })).put SyE.QL_OUT s.qlOut
  else (s.setTime (fun t => { t with failAt := none })).syncSelect s.syncBest

/-- A member's LINK has changed: its PTP port and its lanes' QL follow (R294, R298). -/
def State.linkChanged (s : State) : State := s.bmca.syncRefresh

/-- The frame is one that the time unit takes at the MAC (R293, R298): PTP of the port's destination and domain, or ESMC. -/
def State.timeTakes (s : State) (i : Nat) (d : List Nat) : Bool :=
  let o := if s.parseCfg.tpids.contains (beAt d 12 2) then 16 else 12
  (s.flag PtpPort.PTP_ENABLE i && beAt d o 2 == 0x88F7 && beAt d 0 6 == s.ptpDmac i && byteAt d (o + 6) == s.nat Ptp.DOMAIN) ||
    (s.nat Upl.MODE (i / 4) != 5 && beAt d 12 2 == 0x8809 && byteAt d 14 == 0x0A)

end Sys2Proof.Machine
end

