-- ==== Sys2Proof/Machine/UplOps.lean ====
section
/-! DEFINITION. The uplink complex: groups, links, OTN layers, protection, escalation and 802.1CB recovery (R263–R285). -/

namespace Sys2Proof.Machine

def State.uplG (s : State) (g : Nat) : UplG := s.upl.groups.getD g {}
def State.updUplG (s : State) (g : Nat) (f : UplG → UplG) : State :=
  { s with upl := { s.upl with groups := s.upl.groups.upd g {} f } }

def State.macX (s : State) (i : Nat) : MacX := s.upl.macs.getD i {}
def State.updMac (s : State) (i : Nat) (f : MacX → MacX) : State :=
  { s with upl := { s.upl with macs := s.upl.macs.upd i {} f } }

def State.otnX (s : State) (e : Nat) : OtnX := s.upl.otn.getD e {}
def State.updOtn (s : State) (e : Nat) (f : OtnX → OtnX) : State :=
  { s with upl := { s.upl with otn := s.upl.otn.upd e {} f } }

def State.protX (s : State) (j : Nat) : ProtX := s.upl.prot.getD j {}
def State.updProt (s : State) (j : Nat) (f : ProtX → ProtX) : State :=
  { s with upl := { s.upl with prot := s.upl.prot.upd j {} f } }

/-- Nominal rate of a member in Gb/s (Table 10-1). -/
def memberGbps (mode : Nat) : Nat :=
  match mode with
  | 1 => 400
  | 2 => 200
  | 3 | 5 => 100
  | 4 => 800
  | _ => 0

/-- Group states of Table 10-2. -/
abbrev upDisabled : Nat := 0
abbrev upStarting : Nat := 1
abbrev upTraining : Nat := 2
abbrev upAligning : Nat := 3
abbrev upUp : Nat := 4
abbrev upFail : Nat := 5

/-- The member exists in its group's mode and the group is UP. -/
def State.memberUp (s : State) (i : Nat) : Bool :=
  s.nat Upl.STATE (i / 4) == upUp && (modeMembers (s.nat Upl.MODE (i / 4))).contains (i % 4)

/-- Group, object instance and layer of PM entry `e`: sections 0–7, then paths (Table 10-13). -/
def otnGroup (e : Nat) : Nat := if e < 8 then e else (e - 8) / 4
def otnI (e : Nat) : Nat := if e < 8 then e else e - 8
def otnJ (e : Nat) : Nat := if e < 8 then 0 else 1

def State.defects (s : State) (e : Nat) : Nat := s.nat Otn.DEFECTS (otnI e) (otnJ e)

def State.sf (s : State) (e : Nat) : Bool := (s.defects e).testBit 13

/-- The OTN layer is in use. -/
def State.otnOn (s : State) (e : Nat) : Bool :=
  s.nat Upl.MODE (otnGroup e) == 5 && s.flag Upl.ENABLE (otnGroup e)

/-- The signal-fail causes of R277. -/
def State.sfCause (s : State) (e : Nat) : Bool :=
  let d := s.defects e
  let tim := d.testBit 7 && s.flag Otn.TIM_ACT (otnI e) (otnJ e)
  if e < 8 then d % 128 != 0 || tim
  else
    let x := s.otnX e
    s.sf (otnGroup e) || d.testBit 6 || d.testBit 9 || d.testBit 10 || d.testBit 11 || tim || x.fail0 || x.fail1

/-- A defect bit takes a value.
Log: 90 DEDUCED. -/
def State.setDefect (s : State) (e bit : Nat) (v : Bool) : State :=
  s.put Otn.DEFECTS (setBits (s.defects e) bit bit (if v then 1 else 0) : Nat) (otnI e) (otnJ e)

/-- The condition judged now: a defect once it has lasted `up` ns, none once it has been good for `down` ns (Table 10-6). -/
def LineCond.settle (now up down : Nat) (x : LineCond) : LineCond :=
  if x.bad ∧ ¬x.dfct ∧ x.since + up ≤ now then { x with dfct := true }
  else if ¬x.bad ∧ x.dfct ∧ x.since + down ≤ now then { x with dfct := false }
  else x

/-- The condition seen now. A check at the exact end of a duration belongs to the next window (R274). -/
def LineCond.see (now up down : Nat) (bad : Bool) (x : LineCond) : LineCond :=
  let x := x.settle now up down
  if bad = x.bad then x else ({ x with bad := bad, since := now } : LineCond).settle now up down

/-- One more frame with or without its alignment signal. -/
def AlignRun.next (ok : Bool) (r : AlignRun) : AlignRun := if ok then { miss := 0, hit := r.hit + 1 } else { miss := r.miss + 1, hit := 0 }

/-- Out of alignment after five frames in a row without the signal, in alignment after two with it (Table 10-6). -/
def AlignRun.out (r : AlignRun) (was : Bool) : Bool := if was then decide (r.hit < 2) else decide (5 ≤ r.miss)

/-- The transmitted trace of a layer: SAPI, DAPI, operator field (R275). -/
def State.txTrace (s : State) (e : Nat) : List Nat :=
  let i := otnI e
  let j := otnJ e
  leBytes 16 (s.nat Otn.TX_SAPI i j) ++ leBytes 16 (s.nat Otn.TX_DAPI i j) ++ leBytes 32 (s.nat Otn.TX_OPER i j)

/-- The protection group that names member `i` as working, or as protection. -/
def State.protWorking (s : State) (i : Nat) : Option Nat :=
  (List.range 16).find? (fun j => s.nat Prot.WORKING j == i && s.nat Prot.PROTECT j < 32)
def State.protProtect (s : State) (i : Nat) : Option Nat :=
  (List.range 16).find? (fun j => s.nat Prot.PROTECT j == i && s.nat Prot.WORKING j < 32)

/-- The tributary whose frames are those of member `i` (R280). -/
def State.tribOf (s : State) (i : Nat) : Nat :=
  match s.protWorking i with
  | some j => if s.nat Prot.SELECTED j = 1 then s.nat Prot.PROTECT j else i
  | none => i

/-- Local fault of a tributary: no block lock, local fault sets, or its ODU4 in SF (R268, R273, R277). -/
def State.localFault (s : State) (i : Nat) : Bool :=
  let x := s.macX i
  !x.lock || x.localFault || (s.nat Upl.MODE (i / 4) == 5 && s.sf (8 + i))

/-- The tributary receives frames. -/
def State.tribUp (s : State) (i : Nat) : Bool := s.memberUp i && !s.localFault i && !(s.macX i).remoteFault

/-- Uplink capacity: nominal rates of members with LINK 1, a protected pair once (R284). -/
def State.capacity (s : State) : Nat :=
  ((List.range 32).map (fun i =>
    let twice := match s.protProtect i with
      | some j => s.flag Mac.LINK (s.nat Prot.WORKING j)
      | none => false
    if s.flag Mac.LINK i ∧ !twice then memberGbps (s.nat Upl.MODE (i / 4)) else 0)).sum

/-- CAPACITY_GBPS and the times since when it is below or not below ESC_MIN_GBPS (R284).
Log: 88 DEDUCED. -/
def State.refreshCap (s : State) : State :=
  let c := s.capacity
  let s := s.put Esc.CAPACITY_GBPS c
  if c < s.nat Esc.ESC_MIN_GBPS then
    { s with upl := { s.upl with escOk := none,
                                 escLow := if s.flag Esc.ESC_ENABLE then s.upl.escLow.or (some s.now) else none } }
  else { s with upl := { s.upl with escLow := none, escOk := s.upl.escOk.or (some s.now) } }

/-- LINK and FAULT of a member follow its tributary (R268).
Log: 92 DEDUCED. -/
def State.refreshLink (s : State) (i : Nat) : State :=
  let t := s.tribOf i
  let up := s.memberUp i && s.tribUp t
  let was := s.flag Mac.LINK i
  let f : Nat := if !s.memberUp i then 0 else if s.localFault t then 1 else if (s.macX t).remoteFault then 2 else 0
  let s := if f = 1 ∧ s.nat Mac.FAULT i ≠ 1 then s.emit (.uplink .remoteFault i 1)
           else if f ≠ 1 ∧ s.nat Mac.FAULT i = 1 then s.emit (.uplink .remoteFault i 0) else s
  let s := (s.put Mac.FAULT f i).put Mac.LINK (if up then 1 else 0) i
  let s := if was ∧ !up then
      (s.bump Mac.LINK_DOWNS i).event 0x8002 (idUplink (i / 4)) [a8 i, a8 f]
    else s
  let s := s.refreshCap
  if was = up then s else s.linkChanged

/-- LINK of a member and of the working member that it protects. -/
def State.refreshMember (s : State) (i : Nat) : State :=
  let s := s.refreshLink i
  match s.protProtect i with
  | some j => s.refreshLink (s.nat Prot.WORKING j)
  | none => s

/-- Codes of Table 10-8 among the local requests. -/
def ProtX.request (x : ProtX) : Nat :=
  if x.lo then 9 else if x.rSfP then 8 else if x.fs then 7 else if x.rSfW then 6 else if x.rSdP then 5
  else if x.rSdW then 4 else if x.ms then 3 else if x.wtr.isSome then 2 else if x.exer then 1 else 0

/-- The tributary that a request selects (Table 10-8): 0 working, 1 protection. -/
def selects (req : Nat) (revertive : Bool) (sel : Nat) : Nat :=
  match req with
  | 9 | 8 | 5 => 0
  | 7 | 6 | 4 | 3 | 2 => 1
  | 1 => sel
  | _ => if revertive then 0 else sel

/-- The active request of a group: in TYPE 1 the higher of the local and the far end's (R281). -/
def State.protActive (s : State) (j : Nat) : Nat :=
  let x := s.protX j
  if s.nat Prot.TYPE j = 1 then max x.request x.far else x.request

/-- Arbitration and the selector (R281, R282).
Log: 86 DEDUCED. -/
def State.protArbitrate (s : State) (j : Nat) : State :=
  let s := if 2 < s.protActive j then s.updProt j (fun x => { x with wtr := none }) else s
  let r := s.protActive j
  let s := if s.nat Prot.TYPE j = 1 ∧ s.nat Prot.REQUEST j ≠ r then s.emit (.uplink .aps j r) else s
  let s := s.put Prot.REQUEST r j
  let sel := s.nat Prot.SELECTED j
  let n := selects r (s.flag Prot.REVERTIVE j) sel
  if n = sel then s
  else
    let (v, s) := s.draw
    let s := (s.put Prot.SELECTED n j).bump Prot.SWITCHES j
    let s := s.put Prot.LAST_SWITCH_MS (v.toNat % 51 : Nat) j
    let w := s.nat Prot.WORKING j % 32
    let s := s.event 0x8008 (idUplink (w / 4)) [a8 j, a8 n, a8 r]
    s.refreshLink w

/-- A defect is a request: it was one and persists, or it has persisted for the hold-off time, a half-open window (R281). -/
def heldOff (now hold : Nat) (was : Bool) (since : Option Nat) : Bool :=
  match since with
  | some t => was || decide (t + hold * msNs ≤ now)
  | none => false

/-- The defects of a group's tributaries as requests (R281); WTR starts when SF-W or SD-W clears on protection.
Log: 87 DESIGN CHOICE. -/
def State.protRefresh (s : State) (j : Nat) : State :=
  let w := s.nat Prot.WORKING j
  let p := s.nat Prot.PROTECT j
  if 32 ≤ w ∨ 32 ≤ p then s.protArbitrate j
  else
    let sd (i : Nat) : Bool := s.flag Prot.SD_ENABLE j && (s.defects (8 + i)).testBit 12
    let hold := s.nat Prot.HOLDOFF_MS j
    let x := s.protX j
    let y := { x with sfW := sinceOf s.now (s.sf (8 + w)) x.sfW, sfP := sinceOf s.now (s.sf (8 + p)) x.sfP,
                      sdW := sinceOf s.now (sd w) x.sdW, sdP := sinceOf s.now (sd p) x.sdP }
    let y := { y with rSfW := heldOff s.now hold x.rSfW y.sfW, rSfP := heldOff s.now hold x.rSfP y.sfP,
                      rSdW := heldOff s.now hold x.rSdW y.sdW, rSdP := heldOff s.now hold x.rSdP y.sdP }
    let cleared := (x.rSfW && !y.rSfW) || (x.rSdW && !y.rSdW)
    let start := cleared && s.nat Prot.SELECTED j == 1 && s.flag Prot.REVERTIVE j
    (s.updProt j (fun _ => if start then { y with wtr := some s.now } else y)).protArbitrate j

/-- Protection follows member `i`. -/
def State.protOf (s : State) (i : Nat) : State :=
  match (s.protWorking i).or (s.protProtect i) with
  | some j => s.protRefresh j
  | none => s

/-- The SF bit of one layer follows its causes (R277), with BDI backward (R276); what follows from a path. -/
def State.refreshSf1 (s : State) (e : Nat) : State :=
  let v := s.sfCause e
  if v = s.sf e then s
  else
    let s := (s.setDefect e 13 v).emit (.uplink .bdi e (if v then 1 else 0))
    let s := s.updOtn e (fun x =>
      if v then { x with sfSince := some s.now }
      else { x with sfSince := none, sfPast := (match x.sfSince with
                                               | some t => (t, s.now) :: x.sfPast
                                               | none => x.sfPast) })
    if e < 8 then s else (s.protOf (e - 8)).refreshMember (e - 8)

/-- Signal fail of a layer, and of the paths of a section (R277). -/
def State.refreshSf (s : State) (e : Nat) : State :=
  let s := s.refreshSf1 e
  if e < 8 then (List.range 4).foldl (fun s m => s.refreshSf1 (8 + e * 4 + m)) s else s

/-- dTIM of a layer (R275). -/
def State.timCompare (s : State) (e : Nat) : Bool :=
  let i := otnI e
  let j := otnJ e
  let a := s.nat Otn.ACC_TTI i j
  let sapi := a % 2 ^ 128 != s.nat Otn.EXP_SAPI i j
  let dapi := a / 2 ^ 128 % 2 ^ 128 != s.nat Otn.EXP_DAPI i j
  let oper := a / 2 ^ 256 != s.nat Otn.EXP_OPER i j
  match s.nat Otn.TIM_MODE i j with
  | 0 => false
  | 1 => sapi
  | 2 => dapi
  | 3 => sapi || dapi
  | _ => sapi || dapi || oper

/-- dTIM is evaluated (R275): at each change of ACC_TTI, of an expected field or of TIM_MODE. -/
def State.timEval (s : State) (e : Nat) : State :=
  let v := s.timCompare e
  let was := (s.defects e).testBit 7
  let s := s.setDefect e 7 v
  let s := if v ∧ !was then s.event 0x8003 (idUplink (otnGroup e)) [a8 e, a8 1] else s
  s.refreshSf e

/-- Members of a group lose or follow their links. -/
def State.groupLinks (s : State) (g : Nat) : State := (List.range 4).foldl (fun s m => s.refreshLink (4 * g + m)) s

/-- The group belongs to an 800GbE pair as its partner (R263, R264).
Log: 91 DEDUCED. -/
def State.partner (s : State) (g : Nat) : Bool := decide (4 ≤ g) && s.nat Upl.MODE (g - 4) == 4

/-- Lanes of a group: those of an 800GbE pair are both groups' (Table 10-1). -/
def State.groupLanes (s : State) (g : Nat) : List Nat :=
  (List.range 4).map (fun l => 4 * g + l) ++ (if s.nat Upl.MODE g = 4 then (List.range 4).map (fun l => 4 * g + 16 + l) else [])

/-- The settings with which a lane starts (R263, R266). -/
def State.laneStart (s : State) (l : Nat) (train : Bool) : Out :=
  .lane l (s.flag Lane.TX_INVERT l) (s.flag Lane.RX_INVERT l)
    (if train then none else some (s.nat Lane.TX_PRE2 l, s.nat Lane.TX_PRE l, s.nat Lane.TX_POST l))

/-- A group leaves DISABLED for STARTING (R265). Monitoring of its OTN layers begins with the next second. -/
def State.groupStart (s : State) (g : Nat) : State :=
  let s := (s.put Upl.STATE upStarting g).updUplG g (fun x => { x with since := s.now, enabledAt := s.now })
  let es := g :: (List.range 4).map (fun m => 8 + 4 * g + m)
  es.foldl (fun s e => s.updOtn e (fun x =>
    { x with nextSec := ceilDiv s.now secNs, badRun := 0, goodRun := 0, nSes := 0, nOk := 0, fSes := 0, fOk := 0, secs := [] })) s

/-- A group is DISABLED at once, its lanes squelched (R265). -/
def State.groupStop (s : State) (g : Nat) : State :=
  let s := if s.nat Upl.STATE g = upDisabled then s else (s.put Upl.STATE upDisabled g).emit (.uplink .squelch g 1)
  let s := (List.range 4).foldl (fun s m => s.updMac (4 * g + m) (fun _ => {})) s
  s.groupLinks g

/-- Trim holds the group disabled (R400). -/
def State.trimHeld (s : State) (g : Nat) : Bool := s.power.trim && !(s.nat Pwr.TRIM_UPLINKS).testBit g

/-- A write of ENABLE (R264, R265): the result code and the state. -/
def State.groupEnable (s : State) (g : Nat) (on : Bool) : Nat × State :=
  if s.partner g then (rcState, s)
  else if on ∧ s.nat Upl.MODE g = 0 then (rcConsistency, s)
  else
    let was := s.flag Upl.ENABLE g
    let s := s.putK Upl.ENABLE (if on then 1 else 0) g
    if !on then (rcOk, s.groupStop g) else if was ∨ s.trimHeld g then (rcOk, s) else (rcOk, s.groupStart g)

/-- The offset of the EtherType after the VLAN tags of a frame, with the outer VID or 0xFFFF (R269, R270). -/
def afterTags (tpids : List Nat) (d : List Nat) : Nat → Nat → Nat → Nat × Nat
  | 0, o, vid => (o, vid)
  | f + 1, o, vid =>
    if tpids.contains (beAt d o 2) ∧ o + 4 ≤ d.length then
      afterTags tpids d f (o + 4) (if vid = 0xFFFF then beAt d (o + 2) 2 % 4096 else vid)
    else (o, vid)

def State.tagEnd (s : State) (d : List Nat) : Nat × Nat := afterTags s.parseCfg.tpids d (d.length / 4 + 1) 12 0xFFFF

/-- Number of 0 bits among bits 127 to `128 − d` of the history. -/
def lostBits (h d : Nat) : Nat :=
  ((List.range d).filter (fun k => !h.testBit (127 - k))).length

/-- recover of R271: whether the frame passes.
Log: 85 DEDUCED. -/
def State.recover (s : State) (r seq : Nat) : Bool × State :=
  let x := s.upl.rcvy.getD r {}
  let upd (s : State) (x : RcvyX) : State := { s with upl := { s.upl with rcvy := s.upl.rcvy.ins r x } }
  let pass (s : State) : Bool × State := (true, s.rbump Rcvy.PASSED r)
  let stale := decide (x.lastAccept + s.rnat Rcvy.RESET_MS r * msNs ≤ s.now)
  let s := if stale then s.rbump Rcvy.RESETS r else s
  if stale ∨ x.takeAny then
    pass (upd (s.rput Rcvy.RCVY_SEQ r seq) { takeAny := false, hist := 1, lastAccept := s.now })
  else
    let d : Int := ((seq : Int) - s.rget Rcvy.RCVY_SEQ r + 32768) % 65536 - 32768
    if 128 ≤ d ∨ d ≤ -128 then (false, s.rbump Rcvy.ROGUE r)
    else if 0 < d then
      let n := d.toNat
      let s := s.rbumpBy Rcvy.LOST r (lostBits x.hist n)
      let s := upd (s.rput Rcvy.RCVY_SEQ r seq) { x with hist := (x.hist * 2 ^ n) % (2 ^ 128) + 1, lastAccept := s.now }
      pass (if 1 < n then s.rbump Rcvy.OUT_OF_ORDER r else s)
    else
      let n := (-d).toNat
      if x.hist.testBit n then (false, s.rbump Rcvy.DISCARDED r)
      else pass (upd (s.rbump Rcvy.OUT_OF_ORDER r) { x with hist := x.hist + 2 ^ n, lastAccept := s.now })

/-- The recovery stage of R270: the frame as it goes on, or none when it is discarded.
Log: 85 DEDUCED. -/
def State.recovery (s : State) (d : List Nat) : Option (List Nat) × State :=
  let (o, vid) := s.tagEnd d
  let mac := ofLe (d.take 6)
  match (s.od.filterMap (fun e => if e.1.index = 0xA900 ∧ e.1.sub = 5 ∧ e.2 = 1 then some e.1.recNo else none)).find?
      (fun r => s.rnat Rcvy.DMAC r == mac && s.rnat Rcvy.VID r == vid) with
  | none => (some d, s)
  | some r =>
    if beAt d o 2 ≠ 0xF1C1 then (some d, s.rbump Rcvy.TAGLESS r)
    else
      match s.recover r (beAt d (o + 4) 2) with
      | (false, s) => (none, s)
      | (true, s) => (some (if s.rflag Rcvy.POP_RTAG r then d.take o ++ d.drop (o + 6) else d), s)

/-- The bins of a PM entry: near-end and far-end counts in the order ES, SES, BBE, UAS. -/
def otn15 : List Obj := [OtnPm.NE_ES, OtnPm.NE_SES, OtnPm.NE_BBE, OtnPm.NE_UAS, OtnPm.FE_ES, OtnPm.FE_SES, OtnPm.FE_BBE, OtnPm.FE_UAS]
def otnPrev15 : List Obj := [OtnPm.PREV15_NE_ES, OtnPm.PREV15_NE_SES, OtnPm.PREV15_NE_BBE, OtnPm.PREV15_NE_UAS,
  OtnPm.PREV15_FE_ES, OtnPm.PREV15_FE_SES, OtnPm.PREV15_FE_BBE, OtnPm.PREV15_FE_UAS]
def otn24 : List Obj := [OtnPm.D24_NE_ES, OtnPm.D24_NE_SES, OtnPm.D24_NE_BBE, OtnPm.D24_NE_UAS,
  OtnPm.D24_FE_ES, OtnPm.D24_FE_SES, OtnPm.D24_FE_BBE, OtnPm.D24_FE_UAS]
def otnPrev24 : List Obj := [OtnPm.PREV24_NE_ES, OtnPm.PREV24_NE_SES, OtnPm.PREV24_NE_BBE, OtnPm.PREV24_NE_UAS,
  OtnPm.PREV24_FE_ES, OtnPm.PREV24_FE_SES, OtnPm.PREV24_FE_BBE, OtnPm.PREV24_FE_UAS]

/-- The current bin of a kind becomes previous when second `k` belongs to a later one (R279).
Log: 89 DEDUCED. -/
def State.otnRoll (s : State) (e k len : Nat) (start : Obj) (cur prev : List Obj) : State :=
  let old := s.nat start e
  let new := k / len * len * secNs
  if old = new then s
  else
    let follows := old + len * secNs = new
    let s := (cur.zip prev).foldl (fun s c => (s.put c.2 (if follows then s.get c.1 e else 0) e).put c.1 0 e) s
    let s := s.put start new e
    if len = 900 then s.updOtn e (fun x => { x with tcaEs := false, tcaSes := false }) else s

/-- What a committed second adds to ES, SES, BBE and UAS of one end (R279). -/
def otnAdds (es ses un : Bool) (bb : Nat) : List Nat :=
  if un then [0, 0, 0, 1]
  else [if es then 1 else 0, if ses then 1 else 0, if ses then 0 else bb, 0]

/-- A threshold alert of a PM entry (R279). -/
def State.otnTca (s : State) (e code : Nat) (th cnt : Obj) (done : Bool) : Bool × State :=
  let t := s.nat th e
  if t = 0 ∨ done ∨ s.nat cnt e < t then (done, s)
  else (true, s.event code (idUplink (otnGroup e)) [a8 e, aTime (s.get OtnPm.BIN15_START e), a32 (s.get cnt e)])

/-- Second `k` is committed into the bins that contain it (R279).
Log: 89 DEDUCED. -/
def State.otnCommit (s : State) (e k : Nat) : State :=
  match (s.otnX e).secs.find? k with
  | none => s
  | some x =>
    let s := s.otnRoll e k 900 OtnPm.BIN15_START otn15 otnPrev15
    let s := s.otnRoll e k 86400 OtnPm.BIN24_START otn24 otnPrev24
    let adds := otnAdds x.nEs x.nSes x.nUn x.nBb ++ otnAdds x.fEs x.fSes x.fUn x.fBb
    let s := (otn15.zip adds).foldl (fun s c => s.bumpBy c.1 c.2 e) s
    let s := (otn24.zip adds).foldl (fun s c => s.bumpBy c.1 c.2 e) s
    let (d1, s) := s.otnTca e 0x8005 OtnPm.ES_TCA_15M OtnPm.NE_ES (s.otnX e).tcaEs
    let (d2, s) := s.otnTca e 0x8006 OtnPm.SES_TCA_15M OtnPm.NE_SES (s.otnX e).tcaSes
    s.updOtn e (fun x => { x with tcaEs := d1, tcaSes := d2, secs := x.secs.del k })

/-- A condition with its past intervals held at some time in second `k`.
Log: 89 DEDUCED. -/
def heldIn (k : Nat) (since : Option Nat) (past : List (Nat × Nat)) : Bool :=
  (match since with
   | some t => decide (t < (k + 1) * secNs)
   | none => false) ||
  past.any (fun i => decide (i.1 < (k + 1) * secNs) && decide (k * secNs < i.2))

end Sys2Proof.Machine
end

