-- ==== Sys2Proof/Machine/PowerOps.lean ====
section
/-! DEFINITION. Power states, starts, the journal's contents, debug levels and the key store (chapters 15 and 17). -/

namespace Sys2Proof.Machine

def State.setPower (s : State) (f : Power → Power) : State := { s with power := f s.power }
def State.setSecu (s : State) (f : Secure → Secure) : State := { s with secu := f s.secu }
def State.setJournal (s : State) (f : Journal → Journal) : State := { s with journal := f s.journal }

/-- Power states and modes (Table 15-1). -/
abbrev pwStart : Nat := 0
abbrev pwFull : Nat := 1
abbrev pwTrim : Nat := 2
abbrev pwSnow : Nat := 3
abbrev pwRecovery : Nat := 4

/-- The mode of the device. -/
def State.powerState (s : State) : Nat := if s.power.st = pwSnow then pwSnow else s.nat Pwr.POWER_STATE

/-- Milliseconds since T0 (R448). -/
def State.msT0 (s : State) : Nat := (((s.now : Int) - s.power.t0) / 1000000).toNat

/-- The device enters a state of Table 15-1: counted and raised (R429). The cause of PWR_STATE has no listed values.
Log: 122 DEDUCED. -/
def State.powerTo (s : State) (st : Nat) : State :=
  let s := (s.put Pwr.POWER_STATE st).bump Pwr.TRANSITIONS
  match s.draw with
  | (v, s) => s.event 0x2001 0 [a8 st, a8 (v % 256)]

/-- End of a phase of Table 17-1, and the next. -/
def State.phaseEnd (s : State) (n next : Nat) : State :=
  (s.put Sta.PHASE_END_MS s.msT0 0 (n - 1)).put Sta.START_PHASE next

/-- A bit of ALERT is set; BMC_ALERT_N is low while ALERT is not 0 (R462).
Log: 137 DEDUCED. -/
def State.alertSet (s : State) (b : Nat) : State :=
  let s := if s.power.alert = 0 then s.emit (.pin .alertN 0) else s
  s.setPower (fun w => { w with alert := Nat.lor w.alert (2 ^ b) })

/-- One journalled address goes from the current values into the retained image; a marker stands for its whole record. -/
def journalOne (od image : Store) (a : Addr) : Store :=
  if a.sub = 0 then
    let rest := image.filter (fun e => !(e.1.index == a.index && e.1.recNo == a.recNo))
    let kept (e : Addr × Int) : Bool := e.1.index == a.index && e.1.recNo == a.recNo &&
      (e.1.sub == 0 || (objAt e.1.index e.1.sub).any (fun o => o.1.acc == .rwk))
    if (od.find? a).isSome then (od.filter kept).foldl (fun m e => m.ins e.1 e.2) rest else rest
  else
    match od.find? a with
    | some v => image.ins a v
    | none => image.del a

/-- Every accepted retained write reaches the image (R387, R410).
Log: 143 DEDUCED. -/
def State.journalFold (s : State) : State :=
  let image := s.jpend.reverse.foldl (journalOne s.od) s.journal.image
  let s := s.setJournal (fun j => { j with image := image, present := true, version := 0x0203 })
  { s with jpend := [] }.put Dic.JOURNAL_PENDING 0

/-- The calibration section is copied to the flash log (R411). -/
def State.calFlush (s : State) : State := s.setJournal (fun j => { j with calFlash := j.cal, calAt := s.now })

/-- TIME_HWM goes to the sealed section (R424).
Log: 124 DEDUCED. -/
def State.hwmSave (s : State) : State :=
  let h := max (s.nat Sec.TIME_HWM) s.sec
  (s.put Sec.TIME_HWM h).setJournal (fun j => { j with hwm := h, hwmAt := s.now })

/-- The key store is erased, the pair key with it, and counted (R419); ONUs that need a key are asked for one at once (R167).
Log: 114 DEDUCED. -/
def State.eraseKeys (s : State) : State :=
  let s := s.framer.foldl (fun s e =>
    let want := s.rnat Onu.STATE e.1 == onuOperating && s.wantsKey e.1
    (s.keysGone e.1).updOnuF e.1 (fun x => { x with msk := none, missing := want })) s
  let s : State := { s with fr := s.fr.map (fun e => (e.1, { e.2 with key1 := none, key2 := none, active := 0, switch := none })) }
  (s.setSecu (fun x => { x with pairKey := none })).bump Sec.KEYSTORE_ERASES

/-- The debug level at each start and in Snowdrop (Table 15-10). -/
def lifeLevel (life : Nat) : Nat := if life = 0 then 2 else if life = 2 then 1 else 0

/-- The debug level takes a value; Crocus stops when it falls (R428), and entry to Full erases the key store (R419). -/
def State.debugTo (s : State) (level expiry : Nat) : State :=
  let old := s.nat Sec.DEBUG_LEVEL
  let s := (s.put Sec.DEBUG_LEVEL level).put Sec.DEBUG_EXPIRY expiry
  let s := if level < old then s.put Cro.CROCUS_ENABLE 0 else s
  if level = 2 ∧ old ≠ 2 then s.eraseKeys else s

/-- The debug level ends (R422, R429): cause 1 expiry, 2 DEBUG_END, 3 Snowdrop. -/
def State.debugEnd (s : State) (level cause : Nat) : State :=
  let old := s.nat Sec.DEBUG_LEVEL
  let s := s.debugTo level 0
  if old = level then s else s.event 0x9405 idSecurity [a8 old, a8 cause]

/-- Values in fuses, one-time-programmable cells and the Snowdrop domain, which no start clears (R405, R417, R468). -/
def keptAtStart (a : Addr) : Bool :=
  (a.index == 0x9403 && a.sub == 3) || a.index == 0x9404 || (a.index == 0x2040 && a.sub == 6)

/-- Device time at a start: seeded from the seconds counter (R288).
Log: 123 DEDUCED. -/
def State.startTime (s : State) : Nat := if s.power.snowValid then s.power.snowSecs * secNs else 0

/-- What a start leaves (R448, R455): everything but fuses, flash, Honeycomb SRAM and the Snowdrop domain at its reset value.
Log: 103 DEDUCED. -/
def State.startBase (s : State) : State :=
  let w := s.power
  let x := s.secu
  { pending := s.pending, now := s.startTime, od := s.od.filter (fun e => keptAtStart e.1), out := s.out, drawn := s.drawn,
    time := { lastSec := s.startTime / secNs }
    journal := { s.journal with calAt := s.startTime, hwmAt := s.startTime }
    twin := { inc := (s.twin.inc + 1) % 256 }
    power := { coreOn := true, snowSecs := w.snowSecs, snowValid := w.snowValid, enA := w.enA, enB := w.enB, enAt := w.enAt,
               t0 := s.startTime, low := w.low, alert := w.alert, warned := w.warned }
    secu := { slotA := x.slotA, slotB := x.slotB, rec0 := x.rec0, rec1 := x.rec1, trialNext := x.trialNext, failed := x.failed,
              idGone := x.idGone, lifecycle := x.lifecycle, rollback := x.rollback, tap := x.tap } }

/-- The objects that a start writes, from the fuses, the seconds counter and the sealed section of `s` (R288, R424). -/
def State.startObjects (f s : State) (cause phase : Nat) : State :=
  ((((((f.put Sta.START_CAUSE cause).put Sta.START_PHASE phase).put Sec.LIFECYCLE s.secu.lifecycle).put
    Sec.ROLLBACK_MIN s.secu.rollback).put Sec.DEBUG_LEVEL (lifeLevel s.secu.lifecycle)).put
    Tim.SEED_VALID (if s.power.snowValid then 1 else 0)).put Sec.TIME_HWM s.journal.hwm

/-- What a start reports: the rail that failed (R406) and the thermal trip (R465). -/
def State.startEvents (f : State) (w : Power) : State :=
  let f := match w.supply with | some r => f.event 0x2003 0 [a8 r] | none => f
  match w.trip with
  | some d => (f.bump Sta.THERMAL_TRIPS).event 0x2006 0 [a8 2, a8 d.1, a32 d.2]
  | none => f

/-- A start (R448, R449, R455) with its cause, at a phase. -/
def State.freshStart (s : State) (cause phase : Nat) : State :=
  (s.startBase.startObjects s cause phase).startEvents s.power

/-- A start with the SRAM tail of the log laid over the image (R410). After a thermal trip the last writes may be lost (R465).
Log: 124 DEDUCED. -/
def State.start (s : State) (cause phase : Nat) : State :=
  match s.power.trip with
  | none => s.journalFold.freshStart cause phase
  | some _ =>
    match s.draw with
    | (v, s) => if v % 2 = 0 then s.journalFold.freshStart cause phase else { s with jpend := [] }.freshStart cause phase

/-- The core rails are switched off: PWR_EN_B, then PWR_EN_A (R458).
Log: 137 DEDUCED. -/
def State.railsOff (s : State) : State :=
  ((s.emit (.pin .pwrEnB 0)).emit (.pin .pwrEnA 0)).setPower (fun w => { w with coreOn := false, enA := false, enB := false })

/-- A loss of the Snowdrop rail clears the seconds counter and Honeycomb SRAM, the sealed section in it included (R406, R409), and
THERMAL_TRIPS, which no other state loses (R468).
Log: 124 DEDUCED, 137 DEDUCED. -/
def State.snowLost (s : State) : State :=
  let s := s.setPower (fun w => { w with snowSecs := 0, snowValid := false })
  let times (e : Addr × Int) : Bool := e.1.index == 0xA100 && decide (9 ≤ e.1.sub)
  let s := s.setJournal (fun j => { j with cal := j.calFlash.filter (fun e => !times e), calFlash := j.calFlash.filter (fun e => !times e),
                                           mgmtKey := 0, ownerKey := 0, hwm := 0 })
  { s with jpend := [] }.put Sta.THERMAL_TRIPS 0

/-- TRIM_AUTO as it counts: 0 in Retired (R399). -/
def State.trimAuto (s : State) : Bool := s.flag Pwr.TRIM_AUTO && s.nat Sec.LIFECYCLE != 3

/-- Learning messages in flight are dropped and counted when the home map changes (R222). -/
def State.dropLearn (s : State) : State :=
  let n := (s.pipes.map (fun e => e.2.learn.length)).sum
  let s : State := { s with pipes := s.pipes.map (fun e => (e.1, { e.2 with learn := [] })) }
  s.bumpBy Fwd.LEARN_DROP n

/-- The pipelines that Trim powers off (R33). -/
def trimPipes : List Nat := [2, 3, 6, 7]

/-- Steering for Trim: packets go to the pipelines of R33, and the groups outside TRIM_UPLINKS stop (R400). -/
def State.steerTrim (s : State) : State :=
  let s := s.setPower (fun w => { w with trim := true })
  (List.range 8).foldl (fun s g => if s.trimHeld g then s.groupStop g else s) s

/-- The Trim form: home map changed, the four pipelines off (R400). -/
def State.enterTrim (s : State) : State :=
  let s := (s.setPower (fun w => { w with drained := true, trans := 0 })).dropLearn
  let s := trimPipes.foldl (fun s n => s.updPipe n (fun x => { x with powered := false, clock := false })) s
  s.powerTo pwTrim

/-- Back to Full: steering, groups, home map, and the history bins kept in Trim (R401, R402). -/
def State.enterFull (s : State) : State :=
  let back := (List.range 8).filter (fun g => s.trimHeld g && s.flag Upl.ENABLE g && !s.partner g)
  let s := s.setPower (fun w => { w with trim := false, drained := false, trans := 0 })
  let s := (back.foldl (fun s g => s.groupStart g) s).dropLearn
  (s.powerTo pwFull).historyFlush

/-- A channel takes part in its wave: target 2 or 3 (R452). -/
def State.inWave (s : State) (p c : Nat) : Bool := s.nat Pon.CH_CMD p c == 2 || s.nat Pon.CH_CMD p c == 3

/-- Wave `w` starts (R452); the answer tells whether a channel took part.
Log: 128 DEDUCED. -/
def State.wave (s : State) (w : Nat) : Bool × State :=
  let chans := ((List.range 64).filter (fun p => p % 8 == w)).flatMap (fun p => [(p, 0), (p, 1)])
  let some' := chans.any (fun pc => s.inWave pc.1 pc.2)
  let s := chans.foldl (fun s pc =>
    let s := s.updCh pc.1 pc.2 (fun x => { x with wave := true })
    if s.inWave pc.1 pc.2 ∧ s.chState pc.1 pc.2 = chOff then s.enterWarming pc.1 pc.2 else s) s
  let s := s.put Sta.WAVE_START_MS s.msT0 0 w
  let x := s.power
  let x : Power := { x with waves := w + 1, waveAt := s.now, waveMin := s.nat Sta.WAVE_MIN_MS,
                            waveMax := s.nat Sta.WAVE_MAX_MS, waveTec := s.nat Sta.WAVE_TEC_A }
  (some', { s with power := x })

/-- The next wave starts; waves without a channel are passed in the same instant (R452). -/
def State.nextWaves (s : State) : Nat → State
  | 0 => s
  | n + 1 =>
    if 8 ≤ s.power.waves then s
    else
      match s.wave s.power.waves with
      | (true, s) => s
      | (false, s) => s.nextWaves n

/-- The rule for the next wave holds (R452): the sum of |TEC_MA| over the channels in WARMING is below WAVE_TEC_A once
WAVE_MIN_MS has passed, or WAVE_MAX_MS has passed. -/
def State.waveDue (s : State) : Bool :=
  let w := s.power
  let ms : Int := ((s.now : Int) - w.waveAt) / 1000000
  let sum := ((List.range 64).flatMap (fun p => [(p, 0), (p, 1)])).foldl (fun n pc =>
    if s.chState pc.1 pc.2 = chWarming then n + (s.get Cal.TEC_MA pc.1 pc.2).natAbs else n) 0
  1 ≤ w.waves && w.waves < 8 &&
    ((decide ((w.waveMin : Int) ≤ ms) && decide (sum < w.waveTec * 1000)) || decide ((w.waveMax : Int) ≤ ms))

/-- Full service (R453): reported once.
Log: 128 DEDUCED. -/
def State.serviceCheck (s : State) : State :=
  let ps := s.nat Pwr.POWER_STATE
  if (ps ≠ pwFull ∧ ps ≠ pwTrim) ∨ s.power.served then s
  else
    let lit := (List.range 64).all (fun p => (List.range 2).all (fun c => s.nat Pon.CH_CMD p c != 3 || s.chState p c == chLit))
    let up := (List.range 8).all (fun g => !s.flag Upl.ENABLE g || s.trimHeld g || s.partner g || s.nat Upl.STATE g == 4)
    let onus := (s.records 0x4200).all (fun r => s.rnat Onu.STATE r != onuFast &&
      !(s.rnat Onu.STATE r == onuOperating && s.rflag Onu.TRIAL r))
    if lit && up && onus then
      let ms := s.msT0
      let s := ((s.put Sta.SERVICE_MS ms).phaseEnd 7 8).setPower (fun w => { w with served := true })
      (s.event 0x2007 0 [a8 (s.get Sta.START_CAUSE), a32 ms]).alertSet 3
    else s

/-- The twin role is decided, or need not be (R453). -/
def State.roleSettled (s : State) : Bool :=
  s.nat Twin.ROLE != 0 || !s.flag Twin.TWIN_ENABLE ||
    decide (s.power.phase5 + (s.nat Twin.SEEK_S * secNs : Nat) ≤ (s.now : Int))

/-- Lasers and drives off at the first frame boundary of a Snowdrop entry (R142, R403): channels stop in place. -/
def State.lasersOff (s : State) : State :=
  ((List.range 64).flatMap (fun p => [(p, 0), (p, 1)])).foldl (fun s pc =>
    let s := if s.get Cal.TEC_MA pc.1 pc.2 = 0 then s else (s.put Cal.TEC_MA 0 pc.1 pc.2).sbWrite pc.1 pc.2 1 0
    if (s.ch pc.1 pc.2).laser then
      let off (x : PortCh) : PortCh :=
        { x with laser := false, ramping := false, rampDone := false, sending := false, squelch := true }
      (s.laserCode pc.1 pc.2 2).updCh pc.1 pc.2 off
    else s) s

/-- The steps of Table 15-3 up to `k`, each once.
Log: 125 DEDUCED. -/
def State.snowStages (s : State) (k : Nat) : State :=
  let done := s.power.stage
  let s := if done < 1 ∧ 1 ≤ k then s.lasersOff else s
  let s := if done < 2 ∧ 2 ≤ k then s.emit (.pin .hbOut 0) else s
  let s := if done < 3 ∧ 3 ≤ k then s.journalFold.calFlush.hwmSave else s
  let s := if done < 4 ∧ 4 ≤ k then (List.range 16).foldl (fun s c => s.dmaAbandon c) s else s
  s.setPower (fun w => { w with stage := max done k })

/-- A POWER_CMD write (R399): the code. -/
def State.powerCheck (s : State) (v : Nat) : Nat :=
  let ps := s.nat Pwr.POWER_STATE
  if s.nat Sec.LIFECYCLE = 3 ∧ v ≠ 3 then rcLifecycle
  else if s.power.trans ≠ 0 then rcBusy
  else if !((v == 1 && ps == pwTrim) || (v == 2 && ps == pwFull) || (v == 3 && (ps == pwFull || ps == pwTrim || ps == pwRecovery))) then
    rcState
  else if v = 1 ∧ s.flag Pwr.TRIM_AUTO ∧ s.power.low then rcConsistency
  else rcOk

/-- A transition begins (R399–R403): 1 Trim entry, 2 Trim exit, 3 Snowdrop entry, which erases the key store and ends the debug
level (R419, R422).
Log: 125 DEDUCED. -/
def State.transBegin (s : State) (t : Nat) : State :=
  let s := s.setPower (fun w => { w with trans := t, transAt := s.now, stage := 0, wake := none })
  if t = 2 then trimPipes.foldl (fun s n => s.updPipe n (fun x => { x with powered := true })) s
  else if t = 3 then s.eraseKeys.debugEnd (lifeLevel (s.nat Sec.LIFECYCLE)) 3
  else s

/-- A POWER_CMD write: judged, begun and answered. -/
def State.powerCmd (s : State) (v : Nat) : State :=
  let e := s.powerCheck v
  if e = rcOk then
    (s.transBegin (if v = 1 then 2 else if v = 2 then 1 else 3)).result Pwr.POWER_CMD 0 rcOk
  else s.result Pwr.POWER_CMD 0 e

/-- The first frame boundary after a transition began has passed. -/
def State.boundaryPassed (s : State) : Bool := decide (s.frameOf s.power.transAt.toNat < s.frame)

/-- Trigger `b` of a wake holds in WAKE_MASK (R404). -/
def State.wakeOn (s : State) (b : Nat) : Bool :=
  (s.nat Pwr.WAKE_MASK).testBit b &&
    (b != 1 || (s.nat Pwr.WAKE_AT != 0 && decide (s.nat Pwr.WAKE_AT ≤ s.power.snowSecs)))

/-- The device starts from Snowdrop (R404, R405): the enables go high and the start begins at phase 2 (R455).
Log: 126 DEDUCED. -/
def State.wakeUp (s : State) (b : Nat) : State :=
  let s := ((s.emit (.pin .pwrEnA 1)).emit (.pin .pwrEnB 1)).setPower (fun w => { w with enA := true, enB := true })
  ((s.start 1 2).put Pwr.LAST_WAKE (b + 1)).event 0x2002 0 [a8 b]

/-- 1 ns passes with no command waiting (R9, R288, R401, R403, R453).
Log: 3 DESIGN CHOICE, 123 DEDUCED. -/
def State.tick (s : State) : State :=
  let run := s.power.coreOn && (s.nat Pwr.POWER_STATE == pwFull || s.nat Pwr.POWER_STATE == pwTrim)
  let now := if s.now + 1 = timeMod then 0 else s.now + 1
  let s := { s with now := now }
  let s := if !run && now % secNs == 0 then s.setPower (fun w => { w with snowSecs := w.snowSecs + 1 }) else s
  if !s.power.coreOn then s
  else
    let t : Int := (now : Int) - s.power.transAt
    let s :=
      if s.power.trans = 4 ∧ s.boundaryPassed then s.enterFull
      else if s.power.trans = 3 then
        s.snowStages (if (250 * msNs : Int) ≤ t then 4 else if (msNs : Int) ≤ t then 2 else if s.boundaryPassed then 1 else 0)
      else s
    if now % msNs = 0 then s.serviceCheck else s

end Sys2Proof.Machine
end

