-- ==== Sys2Proof/Machine/FamAct.lean ====
section
/-! DEFINITION. The commands of the activation and ranging engine (chapter 3). -/

namespace Sys2Proof.Machine

/-- Length of a quiet window in µs (R71). -/
def State.qwLenUs (s : State) (p : Nat) : Nat :=
  10 * s.nat ActCfg.DISC_DIFF_KM p + s.nat ActCfg.RAND_DELAY_US p + 2

/-- The interval to the next quiet window in ns (R72); none with periodic windows off.
Log: 22 DEDUCED. -/
def State.qwInterval (s : State) (p c : Nat) : Option Nat :=
  if s.now < (s.ch p c).litAt + s.nat ActCfg.DISC_FAST_S p * secNs then
    some (s.nat ActCfg.DISC_FAST_FRAMES p * frameNs)
  else if s.nat ActCfg.DISC_PERIOD_MS p = 0 then none
  else some (s.nat ActCfg.DISC_PERIOD_MS p * msNs)

/-- A quiet window becomes due (R72); suspended while a scan runs (R89).
Log: 22 DEDUCED. -/
def execQuietWindowDue (p : Fin 64) (c : Fin 2) (s : State) : Res :=
  live s (fun s =>
    if s.actLive p c ∧ (s.actCh p c).qwNext ≤ s.now ∧ (s.actCh p c).scan.running = false then
      match s.qwInterval p c with
      | some d => (s.updAct p c (fun a => { a with qwDue := true, qwNext := s.now + d })).mirrorPost p (.quiet p c)
      | none => s
    else s)

/-- The record that holds a serial number (R73). -/
def State.serialRec (s : State) (serial : Nat) : Option Nat :=
  (s.records 0x4200).find? (fun r => s.rnat Onu.SERIAL r == serial)

/-- The lowest ONU-ID that no record of the channel holds.
Log: 29 DEDUCED. -/
def State.freeOnuId (s : State) (p c : Nat) : Nat :=
  let used := (s.onusOf p c).map (s.rnat Onu.ONU_ID)
  ((List.range 1023).find? (fun i => !used.contains i)).getD 0

/-- The lowest free record of a port's block (R93). -/
def State.freeOnuRec (s : State) (p : Nat) : Option Nat :=
  let used := s.records 0x4200
  if 16384 ≤ used.length then none
  else ((List.range 512).map (fun k => p * 512 + k)).find? (fun r => !used.contains r)

/-- A serial number that no record holds (Table 3-2, Table 3-4, R93).
Log: 28 DEDUCED. -/
def State.newSerial (s : State) (p c serial : Nat) (at' : Int) : State :=
  if s.nat ActCfg.AUTH_MODE p = 2 then s.bump ActSt.SN_REJECTED p
  else
    match s.freeOnuRec p with
    | none => (s.bump ActSt.SN_REJECTED p).event 0x4002 idAct [a8 p, a8 c, a16 0xFFFF, a32 0xFFFFFFFF, aOct 8 serial]
    | some r =>
      let id := s.freeOnuId p c
      if s.nat ActCfg.AUTH_MODE p = 0 then
        (s.createOnu r p c id serial 2).assign r at'
      else
        let s := (s.createOnu r p c id serial 0).setOnu r onuPending
        let s := s.updOnu r (fun x => { x with since := s.now, acqAt := at' })
        s.event 0x4001 idAct [a8 p, a8 c, a16 id, a32 r, aOct 8 serial]

/-- A burst of the record was received in the last 1 s (Table 3-4). -/
def State.heardLately (s : State) (r : Nat) : Bool :=
  match (s.onuX r).lastRx with
  | some t => decide (s.now < t + secNs)
  | none => false

/-- A serial number that record `r` holds (Table 3-4). -/
def State.knownSerial (s : State) (p c r serial : Nat) (at' : Int) : State :=
  let st := s.rnat Onu.STATE r
  if s.rnat Onu.PORT r ≠ p ∨ s.rnat Onu.CHANNEL r ≠ c then
    (s.bump ActSt.SN_REJECTED p).event 0x4005 idAct (s.onuArgs r ++ [aOct 8 serial, a8 p, a8 c])
  else if st = onuDisabled then
    (s.bump ActSt.SN_REJECTED p).event 0x4003 idAct (s.onuArgs r ++ [aOct 8 serial])
  else if st = onuPending then s
  else if s.rget Onu.ADMIN r = 0 then s.bump ActSt.SN_REJECTED p
  else if st = onuOperating ∨ st = onuLost then
    if s.heardLately r then
      (s.bump ActSt.SN_REJECTED p).event 0x4004 idAct (s.onuArgs r ++ [aOct 8 serial])
    else (s.onuToEmpty r 6).assign r at'
  else s.assign r at'

/-- The window being received at a time. -/
def State.openWindow (s : State) (p c at' : Nat) : Option Burst :=
  (s.ch p c).bursts.find? (fun b => b.started && b.n.quiet && decide (b.n.start ≤ at') && decide (at' < b.n.stop))

/-- The zero point of the quiet window being received at a time (R71, R75); none for a ranging window. -/
def State.quietZero (s : State) (p c at' : Nat) : Option Int :=
  match s.openWindow p c at' with
  | some b => ((s.actCh p c).quiets.find? (fun e => e.1 == b.n.start)).map (fun e => e.2)
  | none => none

/-- An upstream PLOAM of the activation engine as its integrity code covers it: type, ONU-ID and the value it brings. -/
def actPloam (kind onu len v : Nat) : List Nat := kind :: beBytes 2 onu ++ beBytes len v

/-- The framer decodes the delimiter of a quiet window (R73) that was found at `at'` ps: an acquisition, or garbled; a Serial_Number_ONU
whose integrity code `mic` is wrong is dropped and counted (R170).
Log: 53 DESIGN CHOICE. -/
def execQuietWindowResponse (p : Fin 64) (c : Fin 2) (serial : Option Nat) (at' mic : Nat) (s : State) : Res :=
  live s (fun s =>
    match s.quietZero p c at' with
    | none => s
    | some zero =>
      if s.actLive p c = false then s
      else
        match serial with
        | none => s.bump ActSt.SN_GARBLED p
        | some sn =>
          let sn := sn % 2 ^ 64
          if !s.micOk p c 1023 (actPloam 1 1023 8 sn) mic then s.bump FrSt.PLOAM_MIC_FAIL p c
          else if (s.actCh p c).winSerials.contains sn then s
          else
            let s := s.updAct p c (fun a => { a with winSerials := sn :: a.winSerials })
            let s := s.bump ActSt.SN_ACQUIRED p
            match s.serialRec sn with
            | none => s.newSerial p c sn (at' - zero)
            | some r => s.knownSerial p c r sn (at' - zero))

/-- PENDING_S has passed without approval (Table 3-2); a frozen record keeps its state (R69).
Log: 12 DEDUCED. -/
def execPendingTimeout (r : Nat) (s : State) : Res :=
  live s (fun s =>
    let p := s.rnat Onu.PORT r
    if s.hasRecord 0x4200 r ∧ s.actLive p (s.rnat Onu.CHANNEL r) ∧ s.rnat Onu.STATE r = onuPending ∧
        (s.onuX r).since + s.nat ActCfg.PENDING_S p * secNs ≤ s.now then
      (s.removeOnu r).bump ActSt.SN_REJECTED p
    else s)

/-- The record whose ranging window is being received, with the window's zero point (R75). -/
def State.rangingRec (s : State) (p c : Nat) : Option (Nat × Int) :=
  match (s.actCh p c).ranging with
  | (r, zero) :: _ => if s.rnat Onu.STATE r = onuRanging ∧ (s.onuX r).rangePhase = 2 then some (r, zero) else none
  | [] => none

/-- The EqD that the ONU applies (R75): none of it after a new assignment, else the one last sent.
Log: 30 DEDUCED. -/
def State.appliedEqd (s : State) (r : Nat) : Int :=
  if (s.onuX r).fresh then 0 else (s.prevEqd r).getD 0

/-- A Registration PLOAM in the ranging window (R77, R75), whose burst's delimiter came at `arrival` ps of device time; one whose
integrity code `mic` is wrong is dropped and counted (R170).
Log: 53 DESIGN CHOICE, 171 DESIGN CHOICE. -/
def execRegistrationReceived (p : Fin 64) (c : Fin 2) (regId arrival mic : Nat) (s : State) : Res :=
  live s (fun s =>
    match s.rangingRec p c with
    | none => s
    | some (r, zero) =>
      if s.actLive p c = false ∨ s.openWindow p c arrival = none then s
      else if !s.micOk p c (s.rnat Onu.ONU_ID r) (actPloam 2 (s.rnat Onu.ONU_ID r) 36 (regId % 2 ^ 288)) mic then
        s.bump FrSt.PLOAM_MIC_FAIL p c
      else
        let rtd : Int := (arrival : Int) - zero - s.appliedEqd r
        if s.rget Onu.REG_ID r ≠ 0 ∧ s.rget Onu.REG_ID r ≠ (regId % 2 ^ 288 : Nat) then s.deactivate r 8
        else
          let s := s.rput Onu.RTD_PS r rtd
          if s.teqd p ≤ rtd then s.deactivate r 2
          else (s.updOnu r (fun x => { x with rangePhase := 3 })).sendEqd r (s.teqd p - rtd))

/-- A ranging window ends (R77): without a Registration PLOAM the attempt has failed. -/
def execRangingWindowEnd (p : Fin 64) (c : Fin 2) (s : State) : Res :=
  live s (fun s =>
    let missed := s.rangingRec p c
    let s := s.updAct p c (fun a => { a with ranging := a.ranging.drop 1 })
    match missed with
    | some (r, _) => if s.actLive p c then s.failAttempt r else s
    | none => s)

/-- The verification burst or probe that started at `start` was received inside its guard window (R68, Table 3-2). -/
def execOnuOperatingEntry (r start : Nat) (s : State) : Res :=
  live s (fun s =>
    let st := s.rnat Onu.STATE r
    if s.actLive (s.rnat Onu.PORT r) (s.rnat Onu.CHANNEL r) ∧ (s.onuX r).awaiting.contains start ∧
        (st = onuRanging ∨ st = onuFast ∨ st = onuLost) then
      let x := (s.onuX r).heldOffsets.find? start
      let s := s.updOnu r (fun o => { o with heldOffsets := o.heldOffsets.del start })
      (s.enterOperating r x).serviceCheck
    else s)

/-- The oldest post of a port complex that satisfies a test, and the rest. -/
def takePost (f : PortPost → Bool) : List PortPost → Option PortPost × List PortPost
  | [] => (none, [])
  | x :: t =>
    if f x then (some x, t)
    else
      let (y, t) := takePost f t
      (y, x :: t)

def State.takePortPost (s : State) (p c : Nat) (f : PortPost → Bool) : Option PortPost × State :=
  let (x, t) := takePost f (s.ch p c).posts
  (x, s.updCh p c (fun ch => { ch with posts := t }))

/-- An arrival offset reaches the engine and is held until the header check (R84); one that comes during a hold is discarded
(R85). -/
def execActArrivalOffset (p : Fin 64) (c : Fin 2) (s : State) : Res :=
  live s (fun s =>
    match s.takePortPost p c (fun x => match x with | .offset .. => true | _ => false) with
    | (some (.offset onu _ start x), s) =>
      match s.onuBy p c onu with
      | some r =>
        if s.rnat Onu.STATE r = onuDisabled ∨ (s.onuX r).holdUntil.isSome then s
        else s.updOnu r (fun o => { o with heldOffsets := o.heldOffsets.ins start x })
      | none => s
    | (_, s) => s)

/-- A held offset is applied to the filter after a passed header check (R84–R86); during a hold it is discarded, and on a
standby whose feeder offset is not tracked it is ignored (R138).
Log: 24 DEDUCED. -/
def execDriftOffsetApply (r start : Nat) (s : State) : Res :=
  live s (fun s =>
    let p := s.rnat Onu.PORT r
    let c := s.rnat Onu.CHANNEL r
    match (s.onuX r).heldOffsets.find? start with
    | none => s
    | some x0 =>
      let s := s.updOnu r (fun o => { o with heldOffsets := o.heldOffsets.del start })
      if s.rnat Onu.STATE r ≠ onuOperating ∨ (s.onuX r).holdUntil.isSome then s
      else if s.standby p ∧ s.feederState p c ≠ 2 then s
      else
        let correcting := s.actLive p c
        let x := x0 - s.feederAt p c start
        let old := s.rget Onu.DRIFT_PS r
        let f := if (s.onuX r).seedNext then x
          else old + truncDiv (x - old) (2 ^ s.nat ActCfg.DRIFT_SHIFT p : Nat)
        let s := (s.rput Onu.DRIFT_PS r f).updOnu r (fun o => { o with seedNext := false })
        if correcting then s.driftJudge r x f else s)

/-- DRIFT_HOLD_FRAMES have passed (R85). -/
def execDriftHoldEnd (r : Nat) (s : State) : Res :=
  live s (fun s =>
    match (s.onuX r).holdUntil with
    | some k => if k ≤ s.frame then s.updOnu r (fun x => { x with holdUntil := none, seedNext := true }) else s
    | none => s)

/-- Step down by one rate with its holdoff (R81). -/
def State.stepDown (s : State) (r : Nat) : State :=
  let s := s.setRate r (s.rnat Onu.RATE r - 1)
  (s.holdoff r).bump ActSt.STEP_DOWNS (s.rnat Onu.PORT r)

/-- An OPERATING ONU's lost-dark run is full (R87).
Log: 167 DESIGN CHOICE. -/
def State.lossOfBurst (s : State) (r : Nat) : State :=
  let s := s.setOnu r onuLost
  let s := s.updOnu r (fun x => { x with since := s.now, probeMap := some s.frame, awaiting := [] })
  let s := (s.bump ActSt.LOB_EVENTS (s.rnat Onu.PORT r)).rbump Onu.LOB_COUNT r
  s.event 0x4007 idAct (s.onuArgs r ++ [a32 (s.rget Onu.LOB_COUNT r)])

/-- A lost burst of an OPERATING ONU (R80, R81, R87). A lost burst comes before a burst received in the same clock (R70): it
joins the runs as they stood before that burst. -/
def State.operatingLost (s : State) (r rate start : Nat) (noLock : Bool) : State :=
  let p := s.rnat Onu.PORT r
  let s := s.trialCount r rate start 1 1
  let same := (s.onuX r).lastRx == some s.now
  if noLock then
    let n := if rate = s.rnat Onu.RATE r then 1 else 0
    let run := (if same then (s.onuX r).runsWere.2 else (s.onuX r).noLockRun) + n
    let s := s.updOnu r (fun x => if same then { x with runsWere := (0, run) } else { x with darkRun := 0, noLockRun := run })
    if s.nat ActCfg.RERANGE_BURSTS p ≤ run then
      if s.rget Onu.TRIAL r = 1 then s.failTrial r
      else if s.rnat Onu.RATE r = discRate (s.rnat Onu.CHANNEL r) then s.rerange r
      else s.stepDown r
    else s
  else
    let run := (if same then (s.onuX r).runsWere.1 else (s.onuX r).darkRun) + 1
    let s := s.updOnu r (fun x => if same then { x with runsWere := (run, x.runsWere.2) } else { x with darkRun := run })
    if s.nat ActCfg.LOB_BURSTS p ≤ run then s.lossOfBurst r else s

/-- A probe or verification burst was not received (R77, R87, R90).
Log: 166 DESIGN CHOICE, 169 DESIGN CHOICE, 183 DEDUCED. -/
def State.probeLost (s : State) (r start : Nat) (noLock : Bool) : State :=
  let st := s.rnat Onu.STATE r
  let s := s.updOnu r (fun x => { x with awaiting := x.awaiting.erase start })
  if st = onuRanging then s.failAttempt r
  else if noLock ∧ (st = onuFast ∨ st = onuLost) then s.rerange r
  else if st = onuFast ∧ s.nat ActCfg.FAST_TRIES (s.rnat Onu.PORT r) ≤ (s.onuX r).fastTries then s.onuToEmpty r 5
  else s

/-- A lost burst reaches the engine (R87, R80, R77, R90). -/
def execActLostBurst (p : Fin 64) (c : Fin 2) (s : State) : Res :=
  live s (fun s =>
    match s.takePortPost p c (fun x => match x with | .lost .. => true | _ => false) with
    | (some (.lost onu rate start noLock), s) =>
      match s.onuBy p c onu with
      | some r =>
        let s := if s.rnat Onu.STATE r = onuDisabled then s else s.stepTally r start 1 1
        if s.actLive p c = false then s
        else if s.rnat Onu.STATE r = onuOperating then s.operatingLost r rate start noLock
        else if (s.onuX r).awaiting.contains start then s.probeLost r start noLock
        else s
      | none => s
    | (_, s) => s)

/-- The found ONU of a wrong-source burst (R88).
Log: 25 DEDUCED. -/
def State.rogueReport (s : State) (r : Nat) : State :=
  let s := s.rbump Onu.ROGUE_COUNT r
  let n := if (s.onuX r).rogueSec = s.sec then (s.onuX r).rogueCount + 1 else 1
  let s := s.updOnu r (fun x => { x with rogueSec := s.sec, rogueCount := n })
  if n = 16 then s.event 0x4008 idAct (s.onuArgs r ++ [a16 (s.rget Onu.ROGUE_COUNT r)]) else s

/-- A wrong-source message (R84, R87, R88).
Log: 166 DESIGN CHOICE. -/
def execActWrongSource (p : Fin 64) (c : Fin 2) (s : State) : Res :=
  live s (fun s =>
    match s.takePortPost p c (fun x => match x with | .wrongSource .. => true | _ => false) with
    | (some (.wrongSource notified found start), s) =>
      let s := match s.onuBy p c notified with
        | some r =>
          let s := s.updOnu r (fun o => { o with heldOffsets := o.heldOffsets.del start })
          if s.actLive p c ∧ (s.onuX r).awaiting.contains start then s.probeLost r start false else s
        | none => s
      match s.onuBy p c found with
      | some r => s.rogueReport r
      | none => s
    | (_, s) => s)

/-- A presence probe of a LOST ONU is due (R87).
Log: 167 DESIGN CHOICE. -/
def execLostProbeDue (r : Nat) (s : State) : Res :=
  live s (fun s =>
    let p := s.rnat Onu.PORT r
    let c := s.rnat Onu.CHANNEL r
    let since := ((s.onuX r).probeMap).getD 0
    if s.actLive p c ∧ s.hasRecord 0x4200 r ∧ s.rnat Onu.STATE r = onuLost ∧
        since + s.nat ActCfg.LOST_PROBE_FRAMES p ≤ s.frame then
      let s := s.updOnu r (fun x => { x with probeMap := some s.frame })
      s.actPost p c (.request { kind := .probe, rcd := r, onu := s.rnat Onu.ONU_ID r, rate := discRate c })
    else s)

/-- LOST_TIMEOUT_S after entry to LOST (R87).
Log: 12 DEDUCED. -/
def execLostTimeout (r : Nat) (s : State) : Res :=
  live s (fun s =>
    if s.actLive (s.rnat Onu.PORT r) (s.rnat Onu.CHANNEL r) ∧ s.hasRecord 0x4200 r ∧ s.rnat Onu.STATE r = onuLost ∧
        (s.onuX r).since + s.nat ActCfg.LOST_TIMEOUT_S (s.rnat Onu.PORT r) * secNs ≤ s.now then
      s.deactivate r 3
    else s)

/-- Bursts of the seconds [a, b). -/
def tallySum (t : Tab Nat) (a b : Nat) : Nat :=
  ((t.select (fun k _ => decide (a ≤ k) && decide (k < b))).map (fun e => e.2)).sum

/-- A burst of the record that starts before second `k` still waits for its outcome (R79): for its guard window, its header check,
its end, or its message.
Log: 26 DEDUCED. -/
def State.outcomesOpen (s : State) (r k : Nat) : Bool :=
  let x := s.ch (s.rnat Onu.PORT r) (s.rnat Onu.CHANNEL r)
  let onu := s.rnat Onu.ONU_ID r
  let before (start : Nat) : Bool := decide (start < k * secNs * 1000)
  x.bursts.any (fun b => b.n.onu == onu && !b.n.quiet && before b.n.start &&
      (b.outcome == .pending || (b.outcome == .received && (b.header == .pending || !b.ended)))) ||
    x.posts.any (fun m => match m with
      | .lost o _ start _ => o == onu && before start
      | _ => false)

/-- The ONU may step up at second `k` (R79). -/
def State.stepEligible (s : State) (r k : Nat) : Bool :=
  let p := s.rnat Onu.PORT r
  let w := s.nat ActCfg.STEP_WINDOW_S p
  decide (s.rnat Onu.RATE r < s.rnat Onu.RATE_MAX r) && s.rget Onu.TRIAL r == 0 && s.rget Onu.HOLDOFF_S r == 0 &&
    decide ((s.onuX r).rateSince + w * secNs ≤ k * secNs) && tallySum (s.onuX r).secBad (k - w) k == 0

/-- The ONU must step down at second `k` (R81). -/
def State.stepDownDue (s : State) (r k : Nat) : Bool :=
  let g := tallySum (s.onuX r).secGranted (k - 1) k
  let b := tallySum (s.onuX r).secBad (k - 1) k
  decide (0 < s.rnat Onu.RATE r) && decide (4 ≤ g) &&
    decide (s.nat ActCfg.STEP_DOWN_PCT (s.rnat Onu.PORT r) * g ≤ 100 * b)

/-- The evaluation of one record at a second boundary (R79–R81).
Log: 27 DEDUCED. -/
def execStepEvaluation (r : Nat) (s : State) : Res :=
  live s (fun s =>
    let k := s.sec
    if s.hasRecord 0x4200 r = false ∨ k ≤ (s.onuX r).evalSec ∨ s.outcomesOpen r k then s
    else
      let c := s.rnat Onu.CHANNEL r
      let acts := s.actLive (s.rnat Onu.PORT r) c && c == 0 && s.rnat Onu.STATE r == onuOperating
      let hold := s.rget Onu.HOLDOFF_S r
      let up := acts && s.stepEligible r k
      let down := acts && !up && s.stepDownDue r k
      let s := if up then s.startTrial r (s.rnat Onu.RATE r + 1)
        else if down then
          (if s.rget Onu.TRIAL r = 1 then s.failTrial r else s.stepDown r)
        else s
      let s := if 0 < hold ∧ down = false then s.rput Onu.HOLDOFF_S r (hold - 1) else s
      s.updOnu r (fun x => { x with evalSec := k,
                                    secGranted := x.secGranted.select (fun j _ => decide (k ≤ j + 61)),
                                    secBad := x.secBad.select (fun j _ => decide (k ≤ j + 61)) }))

/-- ISO_FRAMES have passed for the scanned ONU (R89). -/
def execRogueObservationEnd (p : Fin 64) (c : Fin 2) (s : State) : Res :=
  live s (fun s =>
    let sc := (s.actCh p c).scan
    let r := sc.cur
    if s.actLive p c = false ∨ sc.running = false ∨ s.frame < sc.startFrame + s.nat ActCfg.ISO_FRAMES p then s
    else
      let stands := s.rnat Onu.STATE r == onuDisabled && (s.onuX r).observed
      let prev := (s.onuX r).prevState
      let s := s.updOnu r (fun x => { x with observed := false })
      if sc.light = false then
        let s := s.updAct p c (fun a => { a with scan := {} })
        if stands then (s.rput Onu.DEACT_CAUSE r 7).event 0x400A idAct (s.onuArgs r) else s
      else if stands then
        let s := s.actSend p c (s.rnat Onu.ONU_ID r) .enable (s.rget Onu.SERIAL r)
        let s := s.setOnu r prev
        (if prev = onuOperating then s.rerange r else s).scanNext p c
      else s.scanNext p c)

/-- FIND_SERIAL is kept per session (R372, Table 3-7). -/
def execFindSerial (session serial : Nat) (s : State) : Res :=
  live s (fun s => { s with findSerial := s.findSerial.ins session (serial % 2 ^ 64) } |>.result ActDev.FIND_SERIAL 0 rcOk)

end Sys2Proof.Machine
end

