-- ==== Sys2Proof/Machine/MemOps.lean ====
section
/-! DEFINITION. Memory integrity: uncorrectable reads and corrections (R440, R443, R446). -/

namespace Sys2Proof.Machine

def State.setMem (s : State) (f : MemX → MemX) : State := { s with mem := f s.mem }

/-- An uncorrectable read of an array by a consumer of Table 16-3: counted, recorded, logged at most 1,000 times per array and
device second (R446), and a local fault for arrays 3, 4, 5 and 9 (R440).
Log: 140 DEDUCED. -/
def State.memUe (s : State) (a addr code who : Nat) : State :=
  let s := (s.bump MemA.UE_COUNT a).bump Mem.UE_TOTAL
  let s := (s.put MemA.LAST_UE_ADDR addr a).put MemA.LAST_UE_AT s.now a
  let n := match s.mem.ueSec.find? a with
    | some (t, n) => if t = s.sec then n else 0
    | none => 0
  let s := s.setMem (fun m => { m with ueSec := m.ueSec.ins a (s.sec, n + 1) })
  let s := if n < 1000 then s.event 0x9801 who [a8 a, a64 addr, a8 code] else s
  if a = 3 ∨ a = 4 ∨ a = 5 ∨ a = 9 then { s with memUeAt := some s.now }.refreshFaults else s

/-- Corrections counted (R432, R434). -/
def State.memCe (s : State) (a n : Nat) : State := (s.bumpBy MemA.CE_COUNT n a).bumpBy Mem.CE_TOTAL n

/-- The list of repeats keeps the 64 addresses corrected most recently, each with the hour and its count in it (R443). -/
def State.memRepeat (s : State) (a addr lane : Nat) : State :=
  let l := s.mem.repeats.getD a []
  let hour := s.sec / 3600
  let n := match l.find? (fun e => e.1 == addr) with
    | some e => if e.2.1 = hour then e.2.2 + 1 else 1
    | none => 1
  let hit := decide (s.nat Mem.CE_REPEAT_LIMIT ≤ n)
  let l := ((addr, hour, if hit then 0 else n) :: l.filter (fun e => e.1 != addr)).take 64
  let s := s.setMem (fun m => { m with repeats := m.repeats.ins a l })
  if hit then s.event 0x9802 idScrub [a8 a, a64 addr, a8 lane] else s

end Sys2Proof.Machine
end

