-- ==== Sys2Proof/Machine/FamHost.lean ====
section
/-! DEFINITION. The commands of the host interface but for its windows (chapter 13): resets, DMA, mailboxes, doorbells, locks. -/

namespace Sys2Proof.Machine

/-- R346, R350, R358, R359, R361, R364, R380: a reset of the host function. Clean-up is done under the old incarnation. -/
def execHostReset (s : State) : Res :=
  live s (fun s =>
    let s := (List.range 16).foldl (fun s c => s.dmaAbandon c) s
    let s := ((s.mbxReset [idHost]).lockReset [idHost]).dblReset idHost
    let s := s.sessionEnd.leaseHostReset
    let s := s.setHost (fun h => { h with msix := [], pba := [] })
    let s := { s with secu := { s.secu with spdmHost := 0 } }
    (s.bump Hst.HOST_RESETS).bump Hst.HOST_INC)

/-- R346: a reset of CC k; CC0 takes its secure partition with it.
Log: 162 DESIGN CHOICE. -/
def execCoreReset (k : Fin 8) (s : State) : Res :=
  live s (fun s =>
    let ids := if k.val = 0 then [idCore 0, idSecurePart] else [idCore k]
    let s := ids.foldl (fun s i => s.dblReset i) ((s.mbxReset ids).lockReset ids)
    s.setHost (fun h => { h with incs := h.incs.ins k ((h.incs.getD k 0 + 1) % 256) }))

/-- R349: DMA_TAIL; `descs` are the descriptors that host memory holds from the old tail on. -/
def State.dmaTail (s : State) (c tail : Nat) (descs : List Desc) : State :=
  let d := s.dmaCh c
  if d.size ≤ tail then s.badAccess
  else
    let n := (tail + d.size - d.tail) % d.size
    if d.size - 1 < d.owned + n then s.badAccess
    else
      let t := (List.range n).foldl (fun t i => t.ins ((d.tail + i) % d.size) (descs.getD i {})) d.descs
      (s.updDma c (fun d => { d with tail := tail, descs := t })).dmaKick c

def execDmaTailWrite (c : Fin 16) (tail : Nat) (descs : List Desc) (s : State) : Res := live s (fun s => s.dmaTail c tail descs)

/-- R350, Table 13-6, Table 13-9: ENABLE of a channel; it stays 0 on the reserved ones, and DMA_HEAD takes TAIL's value when an
empty ring starts. -/
def State.dmaEnable (s : State) (c : Nat) (on : Bool) : State :=
  if (5 ≤ c ∧ c < 8) ∨ 12 ≤ c then s
  else (s.updDma c (fun d => { d with enable := on })).dmaKick c

def execDmaEnable (c : Fin 16) (on : Bool) (s : State) : Res := live s (fun s => s.dmaEnable c on)

/-- R351: RESTART clears HALTED, and the channel goes on at DMA_HEAD. -/
def State.dmaRestart (s : State) (c : Nat) : State :=
  (s.updDma c (fun d => { d with halted := false, haltCause := 0 })).dmaKick c

def execDmaRestart (c : Fin 16) (s : State) : Res := live s (fun s => s.dmaRestart c)

/-- R349, R351: the descriptor at the head of a channel finishes. `err`: 0 none, 1 descriptor read error, 2 uncorrectable channel
state, 3 host access error, 4 uncorrectable data, at `addr` of array `a`. -/
def execDmaDescriptorComplete (c : Fin 16) (err : Fin 5) (a addr : Nat) (s : State) : Res :=
  live s (fun s =>
    let d := s.dmaCh c
    if d.halted then s
    else if c.val < 5 then
      if !d.busy then s
      else if err.val = 1 then (s.dmaDiscard c d.head).dmaHalt c 1
      else if err.val = 2 then ((s.memUe a addr 4 idDma).dmaDiscard c d.head).dmaHalt c 3
      else if err.val = 3 then ((s.dmaDiscard c d.head).dmaComplete c 3 d.desc.len d.desc.aux 0 0 []).dmaKick c
      else if err.val = 4 then
        (((s.memUe a addr 3 idDma).dmaDiscard c d.head).dmaComplete c 4 d.desc.len d.desc.aux 0 0 []).dmaKick c
      else
        match s.tm.dmaDone.find? (fun e => e.1 == c.val && e.2.1 == d.head) with
        | none => s
        | some e =>
          let s := if e.2.2.1 = 1 then s.bump Dma.POOL_EMPTY c else s
          (s.dmaComplete c e.2.2.1 d.desc.len d.desc.aux e.2.2.2 0 []).dmaKick c
    else
      let x := d.desc
      if s.dmaFree c = 0 then s
      else if err.val = 1 then s.dmaHalt c 1
      else if err.val = 2 then (s.memUe a addr 4 idDma).dmaHalt c 3
      else if x.bad c then s.dmaHalt c 2
      else
        match s.dmaItem c with
        | none => s
        | some ((data, aux, res, time, pkt), s) =>
          let s := s.dmaFreed pkt
          if err.val = 3 then s.dmaComplete c 3 0 aux res time []
          else if err.val = 4 then (s.memUe a addr 3 idDma).dmaComplete c 4 0 aux res time []
          else if x.len < data.length then
            (s.bump Dma.TRUNCATED c).dmaComplete c 2 x.len aux res time (data.take x.len)
          else s.dmaComplete c 0 data.length aux res time data)

/-- Cause bits that a write-one-to-clear clears, by source (Table 13-4). -/
def State.causeW1c (s : State) (src mask : Nat) : State :=
  let clr (v : Nat) : Nat := v - Nat.land v mask
  if src < 16 then s.updDma src (fun d => { d with irq := clr d.irq })
  else if src < 80 then s.updView (src - 16) idHost (fun v => { v with cause := clr v.cause })
  else if 112 ≤ src ∧ src < 115 then s.setHost (fun h => { h with cause := clr h.cause })
  else s

/-- R347, R357: cause bits are cleared; the message is sent again while another enabled cause stays set. -/
def State.causeClear (s : State) (src mask : Nat) : State :=
  let s := s.causeW1c src mask
  if s.srcLevel src then s.sendMsix src else s

/-- R347: a write-one-to-clear of the cause register of an interrupt source. IRQ_HOST_CAUSE is shared by sources 112–114. -/
def execIrqCauseClear (src : Fin 115) (mask : Nat) (s : State) : Res :=
  live s (fun s =>
    if src.val < 80 then s.causeClear src mask
    else if src.val < 112 then s
    else [112, 113, 114].foldl (fun s k => if s.srcLevel k then s.sendMsix k else s) (s.causeW1c src mask))

/-- R352–R354, R356: reads of MBX_SEND in one clock, in R12 order. -/
def execMbxSend (m : Fin 64) (reqs : List Nat) (s : State) : Res :=
  live s (fun s =>
    let s := s.mbxSweep m
    let order := arbOrder (s.arb.getD (300 + m) 0) reqs
    let s := order.foldl (fun s w =>
      if s.mbxHidden m w then s.emit (.read w 0)
      else
        match s.mbxPost m w with
        | (st, s) => s.emit (.read w st)) s
    s.servedClock (300 + m) (reqs.filter (fun w => !s.mbxHidden m w)))

/-- R353: a read of MBX_RECV. -/
def execMbxRecv (m : Fin 64) (who : Nat) (s : State) : Res :=
  live s (fun s =>
    let s := s.mbxSweep m
    if s.mbxHidden m who then s.emit (.read who 0)
    else if who ≠ s.mbxReceiver m then s.emit (.read who 0xFE)
    else
      match s.mbxOldest m (fun x => x.st == 1) with
      | none => s.emit (.read who 0xFF)
      | some k =>
        let s := s.updMbx m (fun c => { c with late := c.late.filter (fun j => j != k) })
        (s.setSlot m k { s.slot m k with st := 2 }).emit (.read who k))

/-- MBX_DONE with action release (R353, R355). -/
def State.mbxRelease (s : State) (m k who : Nat) : State :=
  let x := s.slot m k
  if who = s.mbxReceiver m ∧ x.st = 2 then
    if x.want then s.bump Mbx.MBX_BAD_OP m else s.freeSlot m k
  else s.mbxBadDone m k who

/-- MBX_DONE with action reply (R353, R355, R359). LENGTH stands in the replier's STAGE, the payload in the slot.
Log: 116 DEDUCED. -/
def State.mbxAnswer (s : State) (m k who : Nat) : State :=
  let x := s.slot m k
  let len := bits (ofLe ((s.view m who).bytes.take 8)) 37 32
  if who = s.mbxReceiver m ∧ x.st = 2 then
    if 56 < len then s.bump Mbx.MBX_BAD_OP m
    else if s.stale x then (s.bump Mbx.MBX_STALE_REPLY m).freeSlot m k
    else
      let n := (s.mbxCh m).next
      let s := s.setSlot m k { x with st := 3, kind := 1, replier := who, length := len, order := n }
      (s.updMbx m (fun c => { c with next := n + 1 })).mbxCause m x.sender 1
  else s.mbxBadDone m k who

/-- MBX_FREE by the sender (R353). -/
def State.mbxFreed (s : State) (m k who : Nat) : State :=
  let x := s.slot m k
  if x.st = 3 ∧ x.sender = who ∧ x.inc = s.incOf who then s.freeSlot m k else s.bump Mbx.MBX_BAD_OP m

/-- One operation of a requester on a slot; a host's write to a hidden page is discarded (R360). -/
def State.mbxOp (s : State) (m k : Nat) (e : Nat × MbxOp) : State :=
  if s.mbxHidden m e.1 then s.badAccess
  else
    match e.2 with
    | .release => s.mbxRelease m k e.1
    | .reply => s.mbxAnswer m k e.1
    | .free => s.mbxFreed m k e.1

/-- The operations of one clock on a slot, in R12 order, after its timeout (R356).
Log: 116 DEDUCED. -/
def State.mbxClock (s : State) (m k : Nat) (ops : List (Nat × MbxOp)) : State :=
  let s := s.mbxSweep m
  let a := 2000 + 16 * m + k
  let l := arbOrderBy (fun e : Nat × MbxOp => e.1) (s.arb.getD a 0) ops
  l.foldl (fun s e => s.mbxOp m k e) (s.servedClock a (ops.map (fun e => e.1)))

/-- R353, R355, R356: MBX_DONE with action release; `same` holds the other operations on the slot in its clock. -/
def execMbxDoneRelease (m : Fin 64) (k : Fin 16) (who : Nat) (same : List (Nat × MbxOp)) (s : State) : Res :=
  live s (fun s => s.mbxClock m k ((who, .release) :: same))

/-- R353, R355, R356, R359: MBX_DONE with action reply. -/
def execMbxDoneReply (m : Fin 64) (k : Fin 16) (who : Nat) (same : List (Nat × MbxOp)) (s : State) : Res :=
  live s (fun s => s.mbxClock m k ((who, .reply) :: same))

/-- R353: a read of MBX_REPLY. -/
def execMbxReply (m : Fin 64) (who : Nat) (s : State) : Res :=
  live s (fun s =>
    let s := s.mbxSweep m
    if s.mbxHidden m who then s.emit (.read who 0)
    else match s.mbxOldest m (fun x => x.st == 3 && x.sender == who && x.inc == s.incOf who) with
    | none => s.emit (.read who 0xFF)
    | some k => s.emit (.read who k))

/-- R353, R356: MBX_FREE by the sender. -/
def execMbxFree (m : Fin 64) (k : Fin 16) (who : Nat) (same : List (Nat × MbxOp)) (s : State) : Res :=
  live s (fun s => s.mbxClock m k ((who, .free) :: same))

/-- R358: MBX_FLUSHED returns the caller's count and clears it. -/
def execMbxFlushedRead (m : Fin 64) (who : Nat) (s : State) : Res :=
  live s (fun s =>
    if s.mbxHidden m who then s.emit (.read who 0)
    else (s.updView m who (fun v => { v with flushed := 0 })).emit (.read who (s.view m who).flushed))

/-- R355: the window of a message ends. -/
def execMbxTimeout (m : Fin 64) (k : Fin 16) (s : State) : Res := live s (fun s => s.mbxExpire m k)

/-- R362: DBL_RING by several writers in one clock; the writes are ORed, LAST_RINGER is the last in R12 order. -/
def State.dblRing (s : State) (d : Nat) (writes : List (Nat × Nat)) : State :=
  let w := writes.filter (fun x => x.2 != 0)
  let ids := w.map (fun x => x.1)
  match (arbOrder (s.arb.getD (400 + d) 0) ids).getLast? with
  | none => s
  | some last =>
    let v := w.foldl (fun v x => Nat.lor v (x.2 % 2 ^ 32)) 0
    let old := (s.host.dbl.getD d (0, 0)).1
    let clk := match s.host.dblClk.find? d with
      | some (t, w, r) => if t = s.now then (t, w, Nat.lor r v) else (s.now, old, v)
      | none => (s.now, old, v)
    let set (s : State) : State :=
      s.setHost (fun h => { h with dbl := h.dbl.ins d (Nat.lor old v, last), dblClk := h.dblClk.ins d clk })
    let s := if s.dblTarget d = idHost then s.irqStep (80 + d / 8) set
      else (set s).coreIrq (s.dblTarget d - idCore 0) (80 + d / 8)
    s.servedClock (400 + d) ids

def execDblRing (d : Fin 256) (writes : List (Nat × Nat)) (s : State) : Res := live s (fun s => s.dblRing d writes)

/-- R362: DBL_PEND; only the target's read clears it. In the clock of a ring that read returns the word from before it, and the ring's
bits stay pending. -/
def execDblPendRead (d : Fin 256) (who : Nat) (s : State) : Res :=
  live s (fun s =>
    let x := s.host.dbl.getD d (0, 0)
    let (w, r) := match s.host.dblClk.find? d with
      | some (t, w, r) => if t = s.now then (w, r) else (x.1, 0)
      | none => (x.1, 0)
    if s.dblTarget d = who then
      (s.setHost (fun h => { h with dbl := h.dbl.ins d (r, x.2), dblClk := h.dblClk.del d })).emit (.read who w)
    else s.emit (.read who x.1))

/-- A release by the owner, or a bad release (R364). -/
def State.lockRelease (s : State) (n who : Nat) : State :=
  let o := s.lock n
  if o.1 = who ∧ o.1 ≠ 0 then s.setLock n (0, 0)
  else ((s.bump Lck.LOCK_BAD_RELEASE).event 0x9001 who [a16 who, a8 n, a16 o.1]).hostCause 0

/-- R363, R364: reads of LCK_ACQUIRE in one clock, in R12 order, after the releases `rels` of that clock. The first is granted a free
lock; the others of that clock read its owner.
Log: 118 DEDUCED. -/
def execLckAcquire (n : Fin 128) (reqs rels : List Nat) (s : State) : Res :=
  live s (fun s =>
    let s := rels.foldl (fun s w => s.lockRelease n w) s
    let o := s.lock n
    match arbOrder (s.arb.getD (700 + n) 0) reqs with
    | [] => s
    | w :: rest =>
      let s := s.servedClock (700 + n) reqs
      if o.1 ≠ 0 then (w :: rest).foldl (fun s q => s.emit (.read q (lockWord o))) s
      else
        let s := ((s.setLock n (w, s.incOf w)).bump Lck.LOCK_GRANTS).emit (.read w 0)
        rest.foldl (fun s q => (s.bump Lck.LOCK_CONTENDED).emit (.read q (lockWord (s.lock n)))) s)

/-- R364. -/
def execLckRelease (n : Fin 128) (who : Nat) (s : State) : Res := live s (fun s => s.lockRelease n who)

/-- R365: LCK_FORCE, by the host alone. -/
def State.lockForce (s : State) (who v : Nat) : State :=
  let n := v % 128
  let o := s.lock n
  if who ≠ idHost then s.badAccess
  else if o.1 = 0 then s
  else (((s.setLock n (0, 0)).bump Lck.LOCK_FORCED).event 0x9003 idHost [a8 n, a16 o.1]).hostCause 0

def execLckForce (who v : Nat) (s : State) : Res := live s (fun s => s.lockForce who v)

/-- R361: the secured session of the host ends. -/
def execSpdmSessionEnd (s : State) : Res := live s (fun s => s.sessionEnd)

end Sys2Proof.Machine
end

