-- ==== Sys2Proof/Machine/FamGrant.lean ====
section
/-! DEFINITION. The commands of the grant engine (chapter 4). -/

namespace Sys2Proof.Machine

/-- The contexts of a channel that are served (R105): ADMIN 1 and the ONU OPERATING, ascending. -/
def State.servedCtx (s : State) (p c : Nat) : List Nat :=
  (s.records 0x5200).filter (fun r =>
    s.rnat Ctx.PORT r == p && s.rnat Ctx.CHANNEL r == c && s.rflag Ctx.ADMIN r &&
    (match s.onuBy p c (s.rnat Ctx.ONU_ID r) with
     | some o => s.rnat Onu.STATE o == onuOperating
     | none => false))

/-- Demand of a context at the close of map k (R107, R108), after `hinted` words in tier 0, which the cap of R112 leaves out.
Log: 34 DEDUCED. -/
def State.demand (s : State) (i : CtxIn) (p k hinted : Nat) : Nat :=
  let x := s.ctxX i.rcd
  if i.report then
    match x.report with
    | none => 0
    | some (r, j) =>
      r - ((x.grants.filter (fun g => decide (j < g.1) && decide (g.1 < k) && !g.2.2)).map (fun g => g.2.1)).sum
  else
    match x.usage with
    | none => s.nat GrCfg.TM_MIN_WORDS p
    | some (w, idle) => if idle < 2 then min (2 * w) (i.capTotal k - hinted) else w - idle

/-- A context as the computation of a map reads it, its demand not yet taken. -/
def State.ctxIn (s : State) (r : Nat) : CtxIn :=
    { rcd := r, onu := s.rnat Ctx.ONU_ID r, alloc := s.rnat Ctx.ALLOC_ID r, cls := s.rnat Ctx.CLASS r,
      fixed := s.rnat Ctx.FIXED_KBPS r, assured := s.rnat Ctx.ASSURED_KBPS r, maxk := s.rnat Ctx.MAX_KBPS r,
      prio := s.rnat Ctx.PRIORITY r, weight := s.rnat Ctx.WEIGHT r, si := s.rnat Ctx.SI_FRAMES r,
      report := s.rnat Ctx.REPORT_MODE r == 0, last := s.rnat Ctx.LAST_GRANT_MAP r }

/-- An ONU is warm at a rate at the close; the standby takes it from the active (R22, R123). -/
def State.warmAtClose (s : State) (p r rate : Nat) : Bool :=
  if s.standby p then (s.warmPeer.getD r 0).testBit rate else s.warm r rate

/-- Rate and profile of an ONU at the close (R22, R79): the rate last posted, cold unless warm at it.
Log: 37 DEDUCED. -/
def State.onuIn (s : State) (p c : Nat) (onu : Nat) : Nat × Bool :=
  match s.onuBy p c onu with
  | some r =>
    let rate := (s.grantCh p c).rates.getD r (discRate c)
    (rate, !s.warmAtClose p r rate)
  | none => (discRate c, true)

/-- Requests for probes of FAST records that wait at the grant engine. -/
def State.fastQueued (s : State) (p c : Nat) : List Req :=
  (s.grantCh p c).reqs.filter (fun q => q.kind == .probe && s.rnat Onu.STATE q.rcd == onuFast)

/-- Presence probes of the FAST records to ask for map k (R90): first probes ascending, then retries, FAST_PER_FRAME in all with
those that still wait.
Log: 168 DESIGN CHOICE. -/
def State.fastProbes (s : State) (p c k : Nat) : List Req :=
  if s.actLive p c = false then []
  else
    let queued := s.fastQueued p c
    let l := (s.onusOf p c).filter (fun r =>
      s.rnat Onu.STATE r == onuFast && (s.onuX r).awaiting.isEmpty && !queued.any (fun q => q.rcd == r) &&
      decide ((s.onuX r).fastTries < s.nat ActCfg.FAST_TRIES p))
    let first := l.filter (fun r => (s.onuX r).fastTries == 0)
    let again := l.filter (fun r => (s.onuX r).fastTries != 0 &&
      (match (s.onuX r).probeMap with | some j => decide (j + 2 ≤ k) | none => true))
    ((first ++ again).take (s.nat ActCfg.FAST_PER_FRAME p - queued.length)).map (fun r =>
      { kind := .probe, rcd := r, onu := s.rnat Onu.ONU_ID r, rate := discRate c })

/-- The activation engine asks for the probes of a channel's FAST records before map k closes (R90, R123). -/
def State.askFast (s : State) (p c k : Nat) : State :=
  (s.fastProbes p c k).foldl (fun s q =>
    (s.updGrant p c (fun g => { g with reqs := g.reqs ++ [q] })).mirrorPost p (.post p c (.request q))) s

/-- A PLOAM slot is due to an OPERATING ONU (R117). -/
def State.ploamDue (s : State) (p r k : Nat) : Bool :=
  let n := s.nat GrCfg.PLOAM_FRAMES p
  s.rnat Onu.STATE r == onuOperating &&
    ((s.onuX r).ploamWaiting || (n != 0 && decide (n ≤ k - (s.onuX r).lastPloamMap)))

/-- Burst start of a placed burst in ps (R101), with the guard time of its map. -/
def State.burstStart (s : State) (p c k guardNs : Nat) (b : MapBurst) : Nat :=
  s.spanStart p k + unitPs c (b.slot + overheadUnits c b.rate b.cold guardNs) -
    bitsPs b.rate (preambleBits b.rate b.cold + 64)

/-- Tier 0 requests in order (R116): those granted and those that stay queued. -/
def tier0 (k : Nat) : List Req → MapW → List Req × List Req × MapW
  | [], m => ([], [], m)
  | q :: t, m =>
    if k < q.notBefore ∨ q.kind = .ranging ∨ (m.burst? q.onu).isSome then
      let (g, l, m) := tier0 k t m
      (g, q :: l, m)
    else
      let (ok, m) := m.addPloam q.onu q.rate true
      let (g, l, m) := tier0 k t m
      if ok then (q :: g, l, m) else (g, q :: l, m)

/-- What the computation of one map gives beside the map. -/
structure Closing where
  plan : WinPlan := {}
  granted : List Req := []
  left : List Req := []
  ploams : List Nat := []
  ctxs : List CtxIn := []
  m : MapW := {}
  deriving DecidableEq, Repr

/-- Requests that this map does not serve: of records in `skip`, of frozen records (R69), and probes of FAST records above
FAST_PER_FRAME (R90).
Log: 36 DEDUCED. -/
def State.heldReqs (s : State) (p c : Nat) (skip : List Nat) : List Req :=
  let more := (s.fastQueued p c).drop (s.nat ActCfg.FAST_PER_FRAME p)
  (s.grantCh p c).reqs.filter (fun q =>
    skip.contains q.rcd || more.contains q || ((s.onuX q.rcd).frozen && !s.standby p))

/-- The hints of a map in their order (R110), each to its context's structure: the ONUs and times of those that gave words, and the map. -/
def MapW.hints (m : MapW) (o : OnuIn) (maxWords t0 : Nat) (ctxs : List CtxIn) (hs : List Hint) : List (Nat × Nat) × MapW :=
  hs.foldl (fun (x : List (Nat × Nat) × MapW) h =>
    let missed (m : MapW) : List (Nat × Nat) × MapW := (x.1, { m with hintsMissed := m.hintsMissed + 1 })
    match ctxs.find? (fun i => i.rcd == h.ctx) with
    | none => missed x.2
    | some i =>
      let m := (x.2.give i (o i.onu).1 (o i.onu).2 (min (ceilDiv h.bytes 4) maxWords) 0).2
      let mark (a : Alloc) : Alloc := if a.ctx = some i.rcd then { a with hint := true } else a
      match m.burst? i.onu with
      | some b =>
        if b.structs.any (fun a => a.ctx == some i.rcd) then
          (x.1 ++ [(i.onu, h.tau - t0)],
           { m.putB { b with structs := b.structs.map mark,
                             tau := some (min (b.tau.getD (h.tau - t0)) (h.tau - t0)) } with
             hintCtx := i.rcd :: m.hintCtx })
        else missed m
      | none => missed m) ([], m)

/-- compute_map of R114 for one channel; the requests of the records in `skip` are left out. An ONU with a granted request has no
other structure in the map (R116), though its contexts go on accruing (R106).
Log: 35 DEDUCED. -/
def State.computeMap (s : State) (p c k : Nat) (skip : List Nat) : Closing :=
  let g := s.grantCh p c
  let held := s.heldReqs p c skip
  let plan := planWindows c k g.carried ((s.actCh p c).qwDue) (10 * s.nat ActCfg.DISC_DIFF_KM p +
    s.nat ActCfg.RAND_DELAY_US p + 2) (s.nat ActCfg.RANGE_PER_FRAME p) (g.reqs.filter (fun q => !held.contains q))
  let m : MapW :=
    { c := c, k := k, guardNs := s.nat Pon.GUARD_NS p c,
      quantum := if c = 0 then s.nat GrCfg.QUANTUM_WORDS_C0 p else s.nat GrCfg.QUANTUM_WORDS_C1 p,
      base := (plan.wins.map (Win.inSpan c)).sum, wins := plan.wins, p3 := g.p3, p4 := g.p4 }
  let (granted, _, m) := tier0 k plan.reqs m
  let asked := granted.map (fun q => q.onu)
  let o := s.onuIn p c
  let (ploams, m) := ((s.onusOf p c).filter (fun r => s.ploamDue p r k && !asked.contains (s.rnat Onu.ONU_ID r))).foldl
    (fun (x : List Nat × MapW) r =>
      let id := s.rnat Onu.ONU_ID r
      let (ok, m) := x.2.addPloam id (o id).1 (o id).2
      (if ok then r :: x.1 else x.1, m)) ([], m)
  let ctxs := (s.servedCtx p c).map s.ctxIn
  let free (i : CtxIn) : Bool := !asked.contains i.onu
  let hs := sortBy (fun h : Hint => h.tau)
    (sortBy (fun h : Hint => h.ctx) ((g.hints.filter (fun e => e.1 == k)).map (fun e => e.2)))
  let (taus, m) := m.hints o (s.nat GrCfg.HINT_MAX_WORDS p) (s.spanStart p k) (ctxs.filter free) hs
  let hinted (i : CtxIn) : Nat := m.words i.rcd (fun t => t == 0)
  let ctxs := ctxs.map (fun i => { i with demand := s.demand i p k (hinted i) })
  let m := ctxs.foldl (fun (m : MapW) i =>
    { m with fixedAcc := m.fixedAcc.ins i.rcd (min (s.rnat Ctx.FIXED_ACC i.rcd + i.fixed) (2 * i.si * i.fixed)),
             assuredAcc := m.assuredAcc.ins i.rcd (min (s.rnat Ctx.ASSURED_ACC i.rcd + i.assured) (2 * i.si * i.assured)),
             want := m.want.ins i.rcd (i.demand - m.words i.rcd (fun t => t == 0)) }) m
  let m := ((m.tiers o (ctxs.filter free)).placeHints (s.nat GrCfg.HINT_TOL_NS p * 1000) taus).finish
  let stands (onu : Nat) : Bool := (m.burst? onu).isSome
  let granted := granted.filter (fun q => stands q.onu)
  { plan := plan, granted := granted,
    left := ((granted ++ plan.ranging).foldl List.erase g.reqs).map (fun q =>
      if plan.reqs.contains { q with displaced := true } then { q with displaced := true } else q),
    ploams := ploams.filter (fun r => stands (s.rnat Onu.ONU_ID r)), ctxs := ctxs, m := m }

/-- A LOST record's probe would start at or after the timeout (R87).
Log: 36 DEDUCED. -/
def State.probeTooLate (s : State) (p c k : Nat) (m : MapW) (q : Req) : Bool :=
  s.rnat Onu.STATE q.rcd == onuLost &&
    (match m.burst? q.onu with
     | some b => decide (((s.onuX q.rcd).since + s.nat ActCfg.LOST_TIMEOUT_S p * secNs) * 1000 ≤ s.burstStart p c k m.guardNs b)
     | none => false)

/-- The objects of one direction pair, c0 or c1. -/
def byCh (c : Nat) (a b : Obj) : Obj := if c = 0 then a else b

/-- Contexts after a close: demand, accumulators and what a grant records (R106, Table 4-8). -/
def State.commitCtx (s : State) (k : Nat) (m : MapW) (i : CtxIn) : State :=
  let r := i.rcd
  let s := s.rput Ctx.DEMAND_WORDS r i.demand
  let s := s.rput Ctx.FIXED_ACC r (m.fixedAcc.getD r 0 : Nat)
  let s := s.rput Ctx.ASSURED_ACC r (m.assuredAcc.getD r 0 : Nat)
  let s := s.rbumpBy Ctx.HINTS r (m.hintCtx.filter (fun h => h == r)).length
  match (m.bursts.flatMap (fun b => b.structs)).find? (fun a => a.ctx == some r) with
  | none => s
  | some a =>
    let s := s.rput Ctx.LAST_GRANT_MAP r k
    let s := (s.rbumpBy Ctx.GRANTED_WORDS r a.words).rbump Ctx.GRANTS r
    s.updCtx r (fun x => { x with grants := (k, a.words, false) :: x.grants, usage := none })

/-- Records of the requests granted in a closed map: the burst's outcome acts on a record that is in the state of its request
(R77, R87, R90), and the structure is the ONU's PLOAM slot of the map (R116, R117).
Log: 180 DEDUCED. -/
def State.commitReq (s : State) (p c k : Nat) (m : MapW) (q : Req) : State :=
  match m.burst? q.onu with
  | none => s
  | some b =>
    let st := s.rnat Onu.STATE q.rcd
    let acts := if q.kind = .verify then st == onuRanging else st == onuFast || st == onuLost
    let fast := st == onuFast
    s.updOnu q.rcd (fun x => { x with
      awaiting := if acts then x.awaiting ++ [s.burstStart p c k m.guardNs b] else x.awaiting,
      lastPloamMap := k,
      fastTries := if fast then x.fastTries + 1 else x.fastTries,
      probeMap := if fast then some k else x.probeMap })

/-- When a window opens at the receiver, ps: after its guard time (R115). -/
def State.winOpen (s : State) (p c k guardNs : Nat) (w : Win) : Nat := s.spanStart p k + unitPs c w.start + guardNs * 1000

/-- The delimiter that a re-ranging or ranging window is placed around, in ps after that of an ONU of RTD 0 and EqD 0 (R76): the
middle of what an acquisition allows, or what RTD_PS and the EqD posted to the grant engine (R78) make it.
Log: 30 DEDUCED. -/
def State.rangingMid (s : State) (p c r : Nat) : Int :=
  if (s.onuX r).acquired then (s.onuX r).acqAt - (s.nat ActCfg.RAND_DELAY_US p * 500000 : Nat)
  else
    let e := ((s.grantCh p c).eqds.find? r).getD (s.rget Onu.EQD_PS r)
    let rtd := if s.rget Onu.RTD_PS r = 0 then s.teqd p - e else s.rget Onu.RTD_PS r
    rtd + eqdRound c e

/-- When the delimiter of an ONU of RTD 0 and EqD 0 that responds to a window comes, ps: a quiet window opens with the response of an
ONU at DISC_MIN_KM (R71), a ranging window is centred on the delimiter it expects (R76). -/
def State.winZero (s : State) (p c k guardNs : Nat) (w : Win) : Int :=
  match w.kind with
  | .carried => 0
  | .quiet =>
    let n : Notice := { rate := discRate c, start := s.winOpen p c k guardNs w, cold := true }
    (n.delim : Int) - (s.nat ActCfg.DISC_MIN_KM p * 10000000 + Config.responsePs : Nat)
  | .ranging => ((s.spanStart p k + unitPs c w.start + unitPs c w.len / 2 : Nat) : Int) - s.rangingMid p c w.rcd

/-- The windows of a closed map, each with its zero point (R71, R76). -/
def State.commitWin (s : State) (p c k guardNs : Nat) (w : Win) : State :=
  match w.kind with
  | .carried => s
  | .quiet => s.updAct p c (fun a => { a with quiets := ((s.winOpen p c k guardNs w, w.zero) :: a.quiets).take 8 })
  | .ranging =>
    let s := if s.rnat Onu.STATE w.rcd = onuAssigned then s.setOnu w.rcd onuRanging else s
    let s := s.updOnu w.rcd (fun o => { o with rangePhase := 2 })
    s.updAct p c (fun a => { a with ranging := a.ranging ++ [(w.rcd, w.zero)] })

/-- One channel's map k is computed and kept for its handover (R98, R114).
Log: 36 DEDUCED. -/
def State.closeChannel (s : State) (p c k : Nat) : State :=
  let x := s.computeMap p c k []
  let late := (x.granted.filter (s.probeTooLate p c k x.m)).map (fun q => q.rcd)
  let x := if late.isEmpty then x else s.computeMap p c k late
  let m := x.m
  let wins := x.plan.wins.map (fun w => { w with zero := s.winZero p c k m.guardNs w })
  let oh (b : MapBurst) : Nat := overheadUnits c b.rate b.cold m.guardNs
  let s := s.bumpBy (byCh c GrSt.BURSTS_C0 GrSt.BURSTS_C1) m.bursts.length p
  let s := s.bumpBy (byCh c GrSt.OH_UNITS_C0 GrSt.OH_UNITS_C1) (m.bursts.map oh).sum p
  let s := s.bumpBy (byCh c GrSt.COLD_C0 GrSt.COLD_C1) (m.bursts.filter (fun b => b.cold)).length p
  let s := s.bumpBy (byCh c GrSt.IDLE_UNITS_C0 GrSt.IDLE_UNITS_C1) (spanUnits c - m.used) p
  let s := s.bumpBy GrSt.TRIMS m.trims p
  let s := s.bumpBy GrSt.ASSURED_SHORT m.assuredShort p
  let s := s.bumpBy GrSt.MAP_LIMIT m.limits p
  let s := s.bumpBy GrSt.HINTS_USED m.hintsUsed p
  let s := s.bumpBy GrSt.HINTS_MISSED m.hintsMissed p
  let s := if x.plan.deferred && !(s.actCh p c).qwHeld then
      (s.bump GrSt.QW_DEFERRED p).updAct p c (fun a => { a with qwHeld := true })
    else s
  let s := if x.plan.quiet then
      (s.bump ActSt.QUIET_WINDOWS p).updAct p c (fun a => { a with qwDue := false, qwHeld := false })
    else s
  let s := x.ctxs.foldl (fun s i => s.commitCtx k m i) s
  let s := x.granted.foldl (fun s q => s.commitReq p c k m q) s
  let s := x.ploams.foldl (fun s r => s.updOnu r (fun o => { o with lastPloamMap := k })) s
  let s := wins.foldl (fun s w => s.commitWin p c k m.guardNs w) s
  let warm := ((s.onusOf p c).filter (fun r => s.warmAtClose p r (s.rnat Onu.RATE r))).length
  let s := s.put (byCh c CalCnt.WARM_C0 CalCnt.WARM_C1) warm p
  s.updGrant p c (fun g => { g with
    reqs := x.left, hints := g.hints.filter (fun h => decide (k < h.1)), carried := x.plan.carried,
    p3 := m.p3, p4 := m.p4, closed := some { k := k, guardNs := m.guardNs, wins := wins, bursts := m.bursts } })

/-- Every channel of a kind, ports ascending. -/
def channels : List (Nat × Nat) := (List.range 64).flatMap (fun p => [(p, 0), (p, 1)])

/-- The channels that compute maps (R102, R339). -/
def State.mapped (s : State) (p c : Nat) : Bool :=
  (s.chState p c == chDark || s.chState p c == chLit) && !s.coldStandby p c

/-- The inputs of HINT_ENABLE are frozen at a close (R124). -/
def State.freezeHints (s : State) : State :=
  { s with hintEn := (List.range 64).filterMap (fun p =>
      if s.flag GrCfg.HINT_ENABLE p then some (p, 1) else none) }

/-- The engines' clock runs: a channel is in WARMING, DARK or LIT (R29).
Log: 14 DESIGN CHOICE. -/
def State.engineOn (s : State) : Bool :=
  channels.any (fun pc => let st := s.chState pc.1 pc.2; st == chWarming || st == chDark || st == chLit)

/-- The channels of a port close map k on the active timing (R98): not a standby's before map n of a hand-over to it, and not one that
it has closed as a standby (R322, R333, R334). -/
def State.closesActive (s : State) (p k : Nat) : Bool :=
  if s.twinned p then
    decide (s.twin.nextMap ≤ k) && (s.nat Twin.ROLE != 2 || (s.twin.byHand && decide (s.twin.takeN.getD 0 ≤ k)))
  else true

/-- The close of map k (R98, R114): every mapped channel that is not a standby's, at B_k − 15 µs; an active first posts the commit
group, with all that the map is computed from (R320, R123). -/
def execMapClose (s : State) : Res :=
  live s (fun s =>
    let k := s.frameOf (s.now + 15000)
    if k < s.nextMap ∨ s.now + 15000 < s.frameStart k ∨ ¬s.engineOn then s
    else
      let mine (s : State) (pc : Nat × Nat) : Bool := s.mapped pc.1 pc.2 && s.closesActive pc.1 k
      let s := channels.foldl (fun s pc => if mine s pc then s.askFast pc.1 pc.2 k else s) s.freezeHints
      let s := channels.foldl (fun s pc => if mine s pc then s.closeChannel pc.1 pc.2 k else s) (s.commitGroup k)
      { s with nextMap := k + 1 }.bump GrDev.MAPS_CLOSED)

/-- The notices of a map, in order of burst start (R101): its bursts, and its quiet and ranging windows (R58, R76).
Log: 182 DEDUCED. -/
def State.noticesOf (s : State) (p c : Nat) (m : MapRec) : List Notice :=
  let t0 := s.spanStart p m.k
  let g := m.guardNs
  let bs := m.bursts.map (fun b =>
    let n : Notice := { onu := b.onu, rate := b.rate, start := s.burstStart p c m.k g b,
                        stop := t0 + unitPs c (b.slot + b.units c g), cold := b.cold }
    n)
  let ws := (m.wins.filter (fun w => w.kind != .carried)).map (fun w =>
    let n : Notice := { onu := 0x3FF, rate := discRate c, start := s.winOpen p c m.k g w,
                        stop := t0 + unitPs c (w.start + w.len), cold := true, quiet := true }
    n)
  sortBy (fun n : Notice => n.start) (ws ++ bs)

/-- No notices on a twinned channel that neither sends the frame nor is a standby (R323). -/
def State.noticesWanted (s : State) (p c k : Nat) : Bool :=
  !s.twinned p || s.standby p ||
    (s.chState p c == chLit && (match s.twin.takeN with
                                | some n => decide (n ≤ k)
                                | none => true))

/-- Map capture (R125): the first map of the chosen channel that closed after the arming. -/
def State.captureMap (s : State) (p c k : Nat) (l : List MapEntry) : State :=
  if s.flag MapCap.CAP_ARM ∧ s.nat MapCap.CAP_PORT = p ∧ s.nat MapCap.CAP_CHANNEL = c ∧ s.capFrom ≤ k then
    let s := (s.records 0x5101).foldl (fun s r => s.dropRecord 0x5101 r) s
    let l := l.take 1280
    let s := (l.zip (List.range l.length)).foldl (fun s e =>
      let s := s.rput (marker 0x5101) e.2 1
      ([MapCapEnt.ONU_ID, MapCapEnt.ALLOC_ID, MapCapEnt.START_UNIT, MapCapEnt.WORDS, MapCapEnt.RATE,
        MapCapEnt.PROFILE, MapCapEnt.FLAGS].zip e.1).foldl (fun s f => s.rput f.1 e.2 f.2) s) s
    ((s.put MapCap.CAP_MAP k).put MapCap.CAP_COUNT l.length).put MapCap.CAP_ARM 0
  else s

/-- A closed map goes to the framer and its digest to the twin unit (R99, R122). -/
def State.handOver (s : State) (p c : Nat) (m : MapRec) : State :=
  let l := m.entries c
  let d := mapDigest l
  let s := s.put (byCh c GrSt.DIGEST_C0 GrSt.DIGEST_C1) d p
  let s := s.captureMap p c m.k l
  let ns := if s.noticesWanted p c m.k then s.noticesOf p c m else []
  s.updGrant p c (fun g => { g with
    closed := none, handed := some m, toIssue := g.toIssue ++ ns, digests := ((m.k, d) :: g.digests).take 64 })

/-- The handover of the closed maps (R99); `computeNs` is the time from close to handover (Table 4-5).
Log: 39 DEDUCED. -/
def execMapHandover (computeNs : Nat) (s : State) : Res :=
  live s (fun s =>
    if channels.all (fun pc => (s.grantCh pc.1 pc.2).closed.isNone) then s
    else
      let s := channels.foldl (fun s pc =>
        match (s.grantCh pc.1 pc.2).closed with
        | some m => s.handOver pc.1 pc.2 m
        | none => s) s
      let s := (s.sendMapSet ((if s.nat Twin.ROLE = 2 ∧ !s.twin.byHand then s.twin.nextMap else s.nextMap) - 1)).sendSpanSets 4
      let l := (s.now, computeNs) :: s.computeLog.filter (fun e => decide (s.now < e.1 + secNs))
      let s := s.put GrDev.COMPUTE_MAX_NS (max (s.get GrDev.COMPUTE_MAX_NS) computeNs)
      { s with computeLog := l })

/-- A map is not ready at B_k − 4 µs (R102), on a standby at B_k + 16 µs (R322): sent without allocation structures, without notices, and counted; on a twinned channel it
is a local fault (Table 12-7). -/
def execMapLate (p : Fin 64) (c : Fin 2) (s : State) : Res :=
  live s (fun s =>
    match (s.grantCh p c).closed with
    | none => s
    | some m =>
      if (if s.standby p then s.now < s.frameStart m.k + 16000 else s.now + 4000 < s.frameStart m.k) then s
      else
        let s := s.updGrant p c (fun g => { g with closed := none, handed := some { k := m.k } })
        let s := (s.bump GrDev.MAP_LATE).event 0x5001 idGrant [a8 p.val, a8 c.val, a32 m.k]
        if s.twinned p then { s with mapLateAt := some s.now }.refreshFaults else s)

/-- The CDR phases follow each change of the window offset after a take-over, before the first burst of the span (R335): the
step from δ to RT_CORR at span n, and from RT_CORR to 0 at the next. -/
def State.phaseSteps (s : State) (p c startPs : Nat) : State :=
  match s.twin.takeN, s.twin.phase.find? (chKey p c) with
  | some n, some stage =>
    let k := s.spanOf p startPs
    let d := s.twin.oldDelta.getD (chKey p c) 0
    let rt := s.twin.oldRt.getD (chKey p c) 0
    let dec : Int := (if stage = 0 ∧ n ≤ k then d - rt else 0) + (if n < k then rt else 0)
    if k < n ∨ (stage = 1 ∧ k = n) then s
    else
      let s := s.setTwin (fun t => { t with phase := if n < k then t.phase.del (chKey p c) else t.phase.ins (chKey p c) 1 })
      (s.onusOf p c).foldl (fun s r => s.shiftPhases r dec) s
  | _, _ => s

/-- The grant engine issues its next notice (R101, R138): 400 ns before the burst start, moved by δ on a standby. -/
def execNoticeIssue (p : Fin 64) (c : Fin 2) (s : State) : Res :=
  live s (fun s =>
    match (s.grantCh p c).toIssue with
    | [] => s
    | n :: rest =>
      if (s.now : Int) * 1000 + 400000 < n.start + s.feederAt p c n.start then s
      else
        let s := (s.updGrant p c (fun g => { g with toIssue := rest })).phaseSteps p c n.start
        (s.updCh p c (fun x => { x with link := x.link ++ [n] })).emit (.notice p c n))

/-- A burst of an ONU that started in span `k` of a channel passed its header check (R60, R175). -/
def State.goodIn (s : State) (p c onu k : Nat) : Bool := (s.ch p c).good.any (fun e => e.2 == onu && s.spanOf p e.1 == k)

/-- A status report of a burst that passed its header check (R107): `words` in the allocation's buffer, granted in `map`. -/
def execStatusReport (r words map : Nat) (s : State) : Res :=
  live s (fun s =>
    if s.hasRecord 0x5200 r ∧ s.rget Ctx.REPORT_MODE r = 0 ∧
        s.goodIn (s.rnat Ctx.PORT r) (s.rnat Ctx.CHANNEL r) (s.rnat Ctx.ONU_ID r) map then
      s.updCtx r (fun x =>
        match x.report with
        | some (_, j) => if map < j then x
            else { x with report := some (words, map), grants := x.grants.filter (fun g => decide (map < g.1)) }
        | none => { x with report := some (words, map), grants := x.grants.filter (fun g => decide (map < g.1)) })
    else s)

/-- The framer's usage record of the grant in the burst that started at `start` (R108, R175): the words granted, and those among them
that held idle XGEM frames.
Log: 172 DESIGN CHOICE. -/
def execUsageRecord (r start : Nat) (s : State) : Res :=
  live s (fun s =>
    let k := s.spanOf (s.rnat Ctx.PORT r) start
    match s.hasRecord 0x5200 r, (s.ctxX r).grants.find? (fun g => g.1 == k) with
    | true, some g =>
      s.updCtx r (fun x => { x with
        usage := some (g.2.1, ((x.idle.filter (fun e => e.1 == start)).map (fun e => e.2)).sum),
        idle := x.idle.filter (fun e => e.1 != start),
        grants := if s.rnat Ctx.REPORT_MODE r = 0 then x.grants else x.grants.filter (fun g => decide (k ≤ g.1)) })
    | _, _ => s)

/-- A cooperative hint arrives (R109): kept for the map whose span holds τ, or discarded and counted. -/
def execHintPost (s : State) : Res :=
  live s (fun s =>
    match s.hintPosts with
    | [] => s
    | h :: rest =>
      let s := { s with hintPosts := rest }
      if s.hasRecord 0x5200 h.ctx = false then s
      else
        let p := s.rnat Ctx.PORT h.ctx
        let k := s.spanOf p h.tau
        if s.rflag Ctx.HINT_OK h.ctx = false ∨ s.hintEn.getD p 0 = 0 ∨ k < s.nextMap then s.bump GrSt.HINTS_LATE p
        else
          let c := s.rnat Ctx.CHANNEL h.ctx
          (s.updGrant p c (fun g => { g with hints := g.hints ++ [(k, h)] })).mirrorPost p (.hint p c k h))

/-- The oldest post of the activation engine reaches the grant engine (R116, R79, R78). -/
def execActRequestPost (p : Fin 64) (c : Fin 2) (s : State) : Res :=
  live s (fun s =>
    match (s.actCh p c).posts with
    | [] => s
    | x :: rest =>
      let s := (s.updAct p c (fun a => { a with posts := rest })).mirrorPost p (.post p c x)
      s.updGrant p c (fun g =>
        match x with
        | .request q => { g with reqs := g.reqs ++ [q] }
        | .withdraw r => { g with reqs := g.reqs.filter (fun q => q.rcd != r) }
        | .rate r v => { g with rates := g.rates.ins r v }
        | .eqd r v => { g with eqds := g.eqds.ins r v }))

/-- CAP_ARM written 1 (R125): the next map of the channel to close is copied. -/
def execMapCaptureArm (s : State) : Res :=
  live s (fun s =>
    let k := if s.standby (s.nat MapCap.CAP_PORT) then s.twin.nextMap else s.nextMap
    { s.put MapCap.CAP_ARM 1 with capFrom := k }.result MapCap.CAP_ARM 0 rcOk)

end Sys2Proof.Machine
end

