-- ==== Sys2Proof/Machine/FamCal.lean ====
section
/-! DEFINITION. The commands of the calibration engine and the optics (chapter 5). -/

namespace Sys2Proof.Machine

/-- The final set of a burst reaches the calibration engine (R128, R129): it asks the store arbiter for the merge, or is counted as
skipped. -/
def execFinalSetReceived (p : Fin 64) (c : Fin 2) (s : State) : Res :=
  live s (fun s =>
    match s.takePortPost p c (fun x => match x with | .final .. => true | _ => false) with
    | (some (.final onu rate _ set eye good rxp), s) =>
      match s.onuBy p c onu with
      | some r =>
        if good && decide (s.nat Cal.EYE_MIN_PCT p ≤ eye) then
          let w : StoreWrite := { port := p, rcd := r, rate := rate, final := set, rxp := rxp }
          { s with storeQ := s.storeQ ++ [w] }.storeDrain (p.val / 32)
        else s.bump CalCnt.REFINE_SKIPPED p
      | none => s.bump CalCnt.REFINE_SKIPPED p
    | (_, s) => s)

/-- The checks of R132 on a written set. -/
def State.coefCheck (s : State) (r rate set : Nat) : Nat :=
  if s.hasRecord 0x4200 r = false then rcNoRecord
  else if bits set 23 17 ≠ 0 ∨ bits set 191 162 ≠ 0 then rcRange
  else if bits set 161 160 ≠ rate then rcConsistency
  else if (s.rnat Onu.CHANNEL r == 1) != (rate == 3) then rcConsistency
  else rcOk

/-- Host software writes a coefficient set (R132): Stored, two seconds old, with no power reference. -/
def execCoeffSetWrite (r : Nat) (rate : Fin 4) (set : Nat) (s : State) : Res :=
  live s (fun s =>
    match s.coefCheck r rate set with
    | 0 =>
      let s := s.rput (coefSet rate) r set
      let s := (s.setValid r rate true).rput (coefTime rate) r ((s.now : Int) - 2 * secNs)
      let s := s.updOnu r (fun x => { x with rxpRef := x.rxpRef.del rate })
      (s.storeGrant (s.rnat Onu.PORT r)).result (coefSet rate) r rcOk
    | code => s.result (coefSet rate) r code)

/-- INVALIDATE clears the valid bits of a mask (Table 5-11). -/
def execCoeffInvalidate (r mask : Nat) (s : State) : Res :=
  live s (fun s =>
    if s.hasRecord 0x4200 r = false then s.result Coef.INVALIDATE r rcNoRecord
    else if mask = 0 ∨ 15 < mask then s.result Coef.INVALIDATE r rcRange
    else
      let s := [0, 1, 2, 3].foldl (fun s k => if mask.testBit k then s.setValid r k false else s) s
      s.result Coef.INVALIDATE r rcOk)

/-- CLEAR_RXP resets the four power values of a record (Table 5-11). -/
def execClearRxp (r : Nat) (s : State) : Res :=
  live s (fun s =>
    if s.hasRecord 0x4200 r = false then s.result Coef.CLEAR_RXP r rcNoRecord
    else
      let s := [Coef.RXP_LAST, Coef.RXP_AVG, Coef.RXP_MIN, Coef.RXP_MAX].foldl (fun s o => s.rput o r (-32768)) s
      s.result Coef.CLEAR_RXP r rcOk)

/-- A valid set goes to the calibration section in Honeycomb SRAM, at most once in any 60 s (R133, R409). -/
def execCoeffSnapshot (r : Nat) (rate : Fin 4) (s : State) : Res :=
  live s (fun s =>
    let due := match (s.onuX r).snapAt.find? rate with | some t => decide (t + 60 * secNs ≤ s.now) | none => true
    if s.hasRecord 0x4200 r && s.coefValid r rate && due then
      let s := s.updOnu r (fun x => { x with snapAt := x.snapAt.ins rate s.now })
      let cal := (s.journal.cal.ins ((coefSet rate).addr 0 0 r) (s.rget (coefSet rate) r)).ins
        ((coefTime rate).addr 0 0 r) (s.rget (coefTime rate) r)
      { s with journal := { s.journal with cal := cal } }
    else s)

/-- The power statistics of a record take a sample (R137). -/
def State.powerSample (s : State) (p c r : Nat) (rxp : Int) : State :=
  let first := s.rget Coef.RXP_LAST r == -32768
  let avg0 := s.rget Coef.RXP_AVG r
  let avg := if first then rxp else avg0 + truncDiv (rxp - avg0) 16
  let s := s.rput Coef.RXP_LAST r rxp
  let s := s.rput Coef.RXP_MIN r (if first then rxp else min rxp (s.rget Coef.RXP_MIN r))
  let s := s.rput Coef.RXP_MAX r (if first then rxp else max rxp (s.rget Coef.RXP_MAX r))
  let s := s.rput Coef.RXP_AVG r avg
  let low := s.get Cal.RXP_LOW_CDB p
  let high := s.get Cal.RXP_HIGH_CDB p
  let x := s.onuX r
  let args := [a8 p, a8 c, a16 (s.rget Onu.ONU_ID r), a32 r, a16 avg]
  let s := if avg < low ∧ x.rxpLow = false then
      (s.updOnu r (fun x => { x with rxpLow := true })).event 0x3401 idCal args
    else if low + 100 < avg then s.updOnu r (fun x => { x with rxpLow := false }) else s
  if high < avg ∧ x.rxpHigh = false then
    (s.updOnu r (fun x => { x with rxpHigh := true })).event 0x3402 idCal args
  else if avg < high - 100 then s.updOnu r (fun x => { x with rxpHigh := false }) else s

/-- An ended, received burst whose final set waits and whose header is known. -/
def Burst.waits (b : Burst) : Bool :=
  b.ended && b.outcome == .received && b.header != .pending && b.header != .wrongSource && !b.sent

/-- A module power frame (R135–R137, R152, R153): without odd parity over CH to VALUE it is discarded; else the windows it skips are missed and
its own burst is measured.
Log: 42 DEDUCED. -/
def execPowerFrameReceived (p : Fin 64) (c : Fin 2) (seq value : Nat) (parity : Fin 2) (s : State) : Res :=
  live s (fun s =>
    let odd := (c.val + (msBits 3 seq).sum + (msBits 12 value).sum + parity.val) % 2 == 1
    let l := (s.ch p c).samples
    let gap := (l.takeWhile (fun e => e.1 != seq)).length
    match odd, l[gap]? with
    | true, some (_, onu, start) =>
      let rxp : Int := -4500 + (value % 4096 : Nat) + s.get Cal.RXP_OFS_CDB p
      let s := s.bumpBy Cal.RXP_MISSED gap p
      let s := s.bump Cal.RXP_MEASURED p
      let s := s.updCh p c (fun x => { x with samples := x.samples.drop (gap + 1) })
      let s := match s.onuBy p c onu with
        | some r => s.powerSample p c r rxp
        | none => s
      let s := s.updBurst p c start (fun b => if b.sent then b else { b with rxp := some rxp })
      match (s.ch p c).bursts.find? (fun b => b.n.start == start && b.waits) with
      | some b => s.sendFinal p c b
      | none => s
    | _, _ => s)

/-- Burst end plus 2 µs without a sample (R136): the final set is sent with NOT_MEASURED. -/
def execRxpSampleTimeout (p : Fin 64) (c : Fin 2) (s : State) : Res :=
  live s (fun s =>
    match (s.ch p c).bursts.find? (fun b => b.waits && decide (b.endedAt + 2000 ≤ s.now)) with
    | some b => s.sendFinal p c b
    | none => s)

/-- Offsets sorted ascending. -/
def insInt (a : Int) : List Int → List Int
  | [] => [a]
  | b :: t => if a < b then a :: b :: t else b :: insInt a t

/-- The median; of an even count, the mean of the two middle values, toward zero.
Log: 40 DEDUCED. -/
def median (l : List Int) : Int :=
  let l := l.foldl (fun t a => insInt a t) []
  let n := l.length
  if n % 2 = 1 then l.getD (n / 2) 0 else truncDiv (l.getD (n / 2 - 1) 0 + l.getD (n / 2) 0) 2

/-- δ of a channel (R138); the peer hears of a change (Table 12-4). -/
def State.setFeeder (s : State) (p c : Nat) (d : Int) : State :=
  let t := s.put (byCh c Cal.FEEDER_OFS_C0_PS Cal.FEEDER_OFS_C1_PS) d p
  if s.feeder p c = d then t else t.sendFeeder

def State.setFeederState (s : State) (p c v : Nat) : State :=
  s.put (byCh c Cal.FEEDER_STATE_C0 Cal.FEEDER_STATE_C1) v p

/-- A chip that is not standby has FEEDER_STATE 0 and δ 0 on every channel (R138). -/
def State.feederClear (s : State) : State :=
  channels.foldl (fun s pc =>
    if s.feederState pc.1 pc.2 = 0 ∧ s.feeder pc.1 pc.2 = 0 then s
    else (s.setFeeder pc.1 pc.2 0).setFeederState pc.1 pc.2 0) s

/-- Lower limit of the candidates in ps (R139). -/
def State.feederLow (s : State) (p : Nat) : Int :=
  max (-(s.get Cal.FEEDER_RANGE_NS p)) (20000 - s.get ActCfg.TEQD_US p * 1000) * 1000

/-- Candidate number `n` around a base in ps: base, +2W, −2W, +4W, … (R139). -/
def candidate (base : Int) (w n : Nat) : Int :=
  if n % 2 = 1 then base + ((n + 1) / 2 * 2 * w * 1000 : Nat) else base - (n / 2 * 2 * w * 1000 : Nat)

/-- The next candidate number at or after `n` inside the range; none when both sides are exhausted. -/
def nextCandidate (ok : Nat → Bool) : Nat → Nat → Option Nat
  | 0, _ => none
  | f + 1, n => if ok n then some n else nextCandidate ok f (n + 1)

/-- The next candidate of a search at or after number `n`: inside [lower limit, FEEDER_RANGE_NS) (R139). -/
def State.feederNext (s : State) (p c : Nat) (base : Int) (n : Nat) : Option Nat :=
  let w := s.nat Pon.WINDOW_NS p c
  let hi : Int := s.get Cal.FEEDER_RANGE_NS p * 1000
  nextCandidate (fun k => decide (s.feederLow p ≤ candidate base w k) && decide (candidate base w k < hi))
    (240000 / (max w 1) + 2) n

/-- A search starts from a base in ps (R138–R140), with the first candidate that is not skipped.
Log: 41 DEDUCED. -/
def State.feederSearch (s : State) (p c : Nat) (base : Int) : State :=
  let n := (s.feederNext p c base 0).getD 0
  let s := s.updLoop p c (fun l => { l with cand := n, candBase := base, dryFrames := 0 })
  s.setFeeder p c (candidate base (s.nat Pon.WINDOW_NS p c) n)

/-- A frame of a searching channel ends (R139).
Log: 41 DEDUCED. -/
def execFeederSearchFrame (p : Fin 64) (c : Fin 2) (s : State) : Res :=
  live s (fun s =>
    if s.feederState p c ≠ 1 ∧ s.feederState p c ≠ 3 then s
    else
      let s := s.setFeederState p c 1
      let f := (s.ch p c).lastFrame
      if 0 < f.notified ∧ f.notified ≤ 2 * f.received then
        (s.setFeeder p c (median f.offsets)).setFeederState p c 2
      else
        let l := s.loop p c
        match s.feederNext p c l.candBase (l.cand + 1) with
        | some n =>
          let s := s.updLoop p c (fun l => { l with cand := n })
          s.setFeeder p c (candidate l.candBase (s.nat Pon.WINDOW_NS p c) n)
        | none =>
          let s := s.bump Cal.FEEDER_SEARCHES p
          let s := s.event 0x3403 idCal [a8 p.val, a8 c.val, a32 (s.feeder p c)]
          s.feederSearch p c (s.get Cal.FEEDER_COARSE_NS p * 1000))

/-- A channel loses its feeder offset (R140).
Log: 41 DEDUCED. -/
def State.feederLost (s : State) (p c : Nat) : State :=
  let s := s.setFeederState p c 3
  let s := s.event 0x3404 idCal [a8 p, a8 c, a32 (s.feeder p c)]
  s.feederSearch p c (s.feeder p c)

/-- A frame of a tracking channel ends (R140). -/
def execFeederTrackFrame (p : Fin 64) (c : Fin 2) (s : State) : Res :=
  live s (fun s =>
    if s.feederState p c ≠ 2 then s
    else
      let f := (s.ch p c).lastFrame
      let dry := decide (8 ≤ f.notified) && f.received == 0
      let n := if dry then (s.loop p c).dryFrames + 1 else 0
      let s := s.updLoop p c (fun l => { l with dryFrames := n })
      if 64 ≤ n then s.feederLost p c
      else if 8 ≤ f.received then
        let d := s.feeder p c
        let m := median (f.offsets.map (fun x => x - d))
        let d' := d + truncDiv m (2 ^ s.nat Cal.FEEDER_SHIFT p : Nat)
        if d' < s.feederLow p then s.feederLost p c else s.setFeeder p c d'
      else s)

/-- A configuration value whose 0 means the module's own (R148, Table 5-8); `k` is its place in the calibration block.
Log: 45 DESIGN CHOICE. -/
def State.orModule (s : State) (o : Obj) (p c k : Nat) : Nat :=
  if s.nat o p c = 0 then s.calBlock p c k else s.nat o p c

/-- The channel's thermal loop runs (Table 5-2); in Snowdrop every drive is 0 (R142), from the frame boundary at which channels stop
in place (R403). -/
def State.thermalRuns (s : State) (p c : Nat) : Bool :=
  let st := s.chState p c
  (st == chWarming || st == chDark || st == chLit) && !(s.power.trans == 3 && decide (1 ≤ s.power.stage))

/-- The channel settles (R143): reported to the port complex, and HOLD_LOST is cleared. -/
def State.settled (s : State) (p c : Nat) : State :=
  let s := if s.flag Cal.SETTLED p c then s
    else s.put Cal.SETTLE_TIME_MS ((s.now - (s.ch p c).warmAt) / msNs : Nat) p c
  let s := (s.put Cal.SETTLED 1 p c).put Cal.HOLD_LOST 0 p c
  s.leaveWarming p c

/-- A sample of the thermal loop (R143); `temp` in m°C. The integrator is held exactly, in mA × 65,536,000. -/
def execThermalLoopSample (p : Fin 64) (c : Fin 2) (temp : Int) (s : State) : Res :=
  live s (fun s =>
    if s.thermalRuns p c = false then s
    else
      let setpt : Int := if s.get Cal.SETPT_MC p c = 0 then sext 16 (s.calBlock p c 0 % 65536) * 10 else s.get Cal.SETPT_MC p c
      let e := setpt - temp
      let i := (s.loop p c).integ
      let u := s.get Cal.KP p c * e + i
      let lim : Int := s.get Cal.TEC_LIMIT_MA p c * 65536000
      let i := if (u.natAbs : Int) < lim ∨ e.sign ≠ u.sign then clampInt (i + s.get Cal.KI p c * e) (-lim) lim else i
      let tec := roundDiv (clampInt u (-lim) lim) 65536000
      let s := (s.sbRead p c 0 1).put Cal.TEMP_MC temp p c
      let s := (s.put Cal.TEC_MA tec p c).sbWrite p c 1 tec
      let inB := if (e.natAbs : Int) < s.get Cal.SETTLE_MK p c then (s.loop p c).inBand + 1 else 0
      let outB := if s.get Cal.HOLD_MK p c ≤ (e.natAbs : Int) then (s.loop p c).outBand + 1 else 0
      let s := s.updLoop p c (fun l => { l with integ := i, inBand := inB, outBand := outB })
      if s.nat Cal.SETTLE_MS p c + 1 ≤ inB then s.settled p c
      else if s.flag Cal.SETTLED p c ∧ 100 ≤ outB ∧ s.flag Cal.HOLD_LOST p c = false then
        ((s.put Cal.HOLD_LOST 1 p c).bump Cal.HOLD_LOSSES p c).event 0x3405 idCal [a8 p.val, a8 c.val, a32 temp]
      else s)

/-- Since when a loop stands at a limit with excess error. -/
def limitSince (atLimit : Bool) (now : Nat) (old : Option Nat) : Option Nat :=
  if atLimit then (match old with | some t => some t | none => some now) else none

/-- A sample of the bias loop (R144). -/
def execBiasLoopSample (p : Fin 64) (c : Fin 2) (mpdAvg : Nat) (s : State) : Res :=
  live s (fun s =>
    if s.chState p c ≠ chLit ∨ (s.ch p c).rampDone = false ∨ (s.loop p c).biasHold then s
    else
      let err : Int := (s.orModule Cal.MPD_TARGET_UA p c 3 : Int) - mpdAvg
      let lo := s.get Cal.BIAS_MIN_10UA p c
      let hi : Int := s.orModule Cal.BIAS_MAX_10UA p c 1
      let b := clampInt (s.get Cal.BIAS_10UA p c + roundDiv (s.get Cal.KB p c * err) 65536) lo hi
      let s := (s.sbRead p c 4 1).put Cal.MPD_UA mpdAvg p c
      let s := (s.put Cal.BIAS_10UA b p c).sbWrite p c 2 b
      let bad := (b == lo || b == hi) && decide (s.get Cal.MPD_TOL_UA p c < (err.natAbs : Int))
      s.updLoop p c (fun l => { l with biasLimitAt := limitSince bad s.now l.biasLimitAt }))

/-- 1 ms after a ramp completed (R144). -/
def execBiasLoopResume (p : Fin 64) (c : Fin 2) (s : State) : Res :=
  live s (fun s =>
    if (s.loop p c).rampAt + msNs ≤ s.now then s.updLoop p c (fun l => { l with biasHold := false }) else s)

/-- round(1,000 × log10(num / den)) for num ≥ den > 0, exactly: the greatest n with 10^(2n−1) · den^2000 ≤ num^2000.
Log: 44 DEDUCED. -/
def log10Cdb (num den : Nat) : Nat :=
  greatest (fun n => n == 0 || decide (10 ^ (2 * n - 1) * den ^ 2000 ≤ num ^ 2000)) 64 0 3000

/-- The extinction ratio in cdB (R145).
Log: 44 DEDUCED. -/
def extinction (avg swing : Nat) : Nat :=
  if 2 * avg ≤ swing then 3000 else log10Cdb (2 * avg + swing) (2 * avg - swing)

/-- A sample of the extinction loop (R145). -/
def execExtinctionLoopSample (p : Fin 64) (c : Fin 2) (avg swing : Nat) (s : State) : Res :=
  live s (fun s =>
    let err : Int := (s.orModule Cal.MPD_TARGET_UA p c 3 : Int) - avg
    if s.chState p c ≠ chLit ∨ s.get Cal.MPD_TOL_UA p c < (err.natAbs : Int) then s
    else
      let er := extinction avg swing
      let e : Int := (s.orModule Cal.ER_TARGET_CDB p c 4 : Int) - er
      let lo := s.get Cal.MOD_MIN_10UA p c
      let hi : Int := s.orModule Cal.MOD_MAX_10UA p c 2
      let m := clampInt (s.get Cal.MOD_10UA p c + roundDiv (s.get Cal.KM p c * e) 65536) lo hi
      let s := ((s.sbRead p c 4 2).put Cal.ER_CDB er p c).put Cal.MPD_UA avg p c
      let s := (s.put Cal.MOD_10UA m p c).sbWrite p c 3 m
      let bad := (m == lo || m == hi) && decide (100 < e.natAbs)
      s.updLoop p c (fun l => { l with modLimitAt := limitSince bad s.now l.modLimitAt }))

/-- A loop has stood at its limit for 1 s (R146): FAULT with cause 6.
Log: 43 DEDUCED. -/
def execLoopLimitTimeout (p : Fin 64) (c : Fin 2) (s : State) : Res :=
  live s (fun s =>
    let late (t : Option Nat) : Bool := match t with | some t => decide (t + secNs ≤ s.now) | none => false
    let l := s.loop p c
    if late l.biasLimitAt then (s.enterFault p c 6).put Cal.LOOP_LIMIT 1 p c
    else if late l.modLimitAt then (s.enterFault p c 6).put Cal.LOOP_LIMIT 2 p c
    else s)

/-- The module reports a laser safety trip (R146). -/
def execLaserSafetyTrip (p : Fin 64) (c : Fin 2) (s : State) : Res :=
  live s (fun s =>
    let st := s.chState p c
    if st = chWarming ∨ st = chDark ∨ st = chLit then (s.enterFault p c 6).put Cal.LOOP_LIMIT 3 p c else s)

/-- The module has ramped BIAS (R147); the bias loop waits 1 ms (R144). -/
def execLaserRampComplete (p : Fin 64) (c : Fin 2) (s : State) : Res :=
  live s (fun s =>
    if (s.ch p c).ramping then
      let s := s.updCh p c (fun x => { x with ramping := false, rampDone := true })
      s.updLoop p c (fun l => { l with biasHold := true, rampAt := s.now })
    else s)

/-- The oldest outstanding command has ended; the next waiting one is sent. -/
def State.sbNext (s : State) (p : Nat) : State :=
  let s := s.updOptic p (fun o => { o with cmds := o.cmds.drop 1 })
  match (s.optic p).waiting with
  | m :: rest => (s.updOptic p (fun o => { o with waiting := rest })).sbSend p m
  | [] => s

/-- OSB_CLK starts (R149): commands that have waited for it leave, up to 4 of a port (R151). -/
def State.sbStart (s : State) : State :=
  (List.range 64).foldl (fun s p =>
    (List.range 4).foldl (fun s _ =>
      match (s.optic p).waiting with
      | m :: rest => if (s.optic p).cmds.length < 4 then (s.updOptic p (fun o => { o with waiting := rest })).sbSend p m else s
      | [] => s) s) s

/-- Every channel of a port that is not OFF enters FAULT. -/
def State.portFault (s : State) (p cause : Nat) : State := (s.enterFault p 0 cause).enterFault p 1 cause

/-- A command failed once more (R153): repeated up to 2 times, then counted toward the fault of cause 5. -/
def State.sbFail (s : State) (p : Nat) (m : SbCmd) : State :=
  if m.tries < 2 then
    let m := { m with tries := m.tries + 1, sentAt := s.now }
    ((s.updOptic p (fun o => { o with cmds := m :: o.cmds.drop 1 })).sbFrame p m).bump Cal.SB_RETRIES p
  else
    let n := (s.optic p).failed + 1
    let s := (s.updOptic p (fun o => { o with failed := if 3 ≤ n then 0 else n })).sbNext p
    if 3 ≤ n then s.portFault p 5 else s

/-- CRC-8 of a response frame, over STATUS to DATA (Table 5-7). -/
def responseCrc (status count : Nat) (data : List Nat) : Nat := crc8 (msBits 2 status ++ msBits 4 count ++ data.flatMap (msBits 16))

/-- A module response frame with its fields and stop bit (R153, Table 5-7). -/
def execSbResponse (p : Fin 64) (status : Fin 4) (count : Fin 16) (data : List Nat) (crc : Nat) (stop : Bool) (s : State) : Res :=
  live s (fun s =>
    let crcError := crc != responseCrc status count data
    match (s.optic p).cmds with
    | [] => s
    | m :: _ =>
      if status.val = 0 ∧ crcError = false ∧ stop = true then
        (s.updOptic p (fun o => { o with failed := 0 })).sbNext p
      else (if crcError then s.bump Cal.SB_CRC_ERRORS p else s).sbFail p m)

/-- No response within SB_TIMEOUT_US (R153). -/
def execSbTimeout (p : Fin 64) (s : State) : Res :=
  live s (fun s =>
    match (s.optic p).cmds with
    | [] => s
    | m :: _ =>
      if s.now < m.sentAt + s.nat Cal.SB_TIMEOUT_US p * usNs then s
      else (s.bump Cal.SB_TIMEOUTS p).sbFail p m)

/-- The module is absent (R154). -/
def execModuleAbsent (p : Fin 64) (s : State) : Res :=
  live s (fun s =>
    let s := s.put Pon.MODULE_PRESENT 0 p
    let s := s.updOptic p (fun o => { trgFree := o.trgFree })
    s.portFault p 3)

/-- OSB_DI goes idle high (R154): the chip reads the module's identity and calibration.
Log: 174 DESIGN CHOICE. -/
def execModuleDetected (p : Fin 64) (s : State) : Res :=
  live s (fun s =>
    let s := s.updOptic p (fun o => { reading := true, trgFree := o.trgFree })
    (s.sbSend p { op := 1, addr := 0, count := 2 }).sbSend p { op := 1, addr := 0x80, count := 6 })

/-- The identity read ends (R154, R148): known, unknown, and with or without c1. -/
def execModuleReadComplete (p : Fin 64) (modId caps : Nat) (cal0 cal1 : List Nat) (s : State) : Res :=
  live s (fun s =>
    if (s.optic p).reading = false then s
    else
      let s := s.put Pon.MODULE_PRESENT (if modId % 65536 = 0x4F53 then 1 else 0) p
      let s := s.put Cal.MODULE_ID (modId : Nat) p
      if modId % 65536 ≠ 0x4F53 then
        let s := s.updOptic p (fun o => { trgFree := o.trgFree })
        (s.event 0x3406 idCal [a8 p.val, a16 modId]).portFault p 3
      else
        let s := s.put Pon.C1_FITTED (caps % 2 : Nat) p
        let s := s.updOptic p (fun o => { o with
          reading := false, caps := caps, cal0 := cal0.take 6, cal1 := cal1.take 6, fresh0 := true, fresh1 := true })
        let s := s.sbSend p { op := 1, addr := 0xA0, count := 6 }
        let s := (s.sbWrite p 0 7 (s.get Cal.RAMP_US p 0)).sbWrite p 1 7 (s.get Cal.RAMP_US p 1)
        if caps % 2 = 0 then s.enterFault p 1 3 else s)

end Sys2Proof.Machine
end

