-- ==== Sys2Proof/Machine/FamTwin.lean ====
section
/-! DEFINITION. The commands of the twin unit (chapter 12). -/

namespace Sys2Proof.Machine

/-- The unit enters a state of Table 12-5, and its role follows; feeder calibration is the standby's alone (R138). -/
def State.twinState (s : State) (st : Nat) : State :=
  let role : Nat := if st = 5 ∨ st = 6 then 1 else if [3, 4, 7, 8, 9].contains st then 2 else 0
  let s := (s.put Twin.STATE st).put Twin.ROLE role
  if role = 2 then s else s.feederClear

/-- The unit writes CH_CMD of its channels (Table 12-5): 3 where the manager's target is 3, 2 where it is not 0; while it
seeks, 2 where it is 3.
Log: 109 DEDUCED. -/
def State.twinWrite (s : State) (v : Nat) (seeking : Bool := false) : State :=
  s.twinChannels.foldl (fun s pc =>
    let t := s.twin.targets.getD (chKey pc.1 pc.2) 0
    let due := if v = 3 ∨ seeking then t == 3 else t != 0
    if due ∧ s.nat Pon.CH_CMD pc.1 pc.2 ≠ v ∧ s.chCmdCheck pc.1 pc.2 v = 0 then s.chCmdApply pc.1 pc.2 v else s) s

/-- The unit leaves OFF for SEEKING (R315). -/
def State.twinSeek (s : State) : State :=
  let ts := s.twinChannels.map (fun pc => (chKey pc.1 pc.2, s.nat Pon.CH_CMD pc.1 pc.2))
  let s := s.setTwin (fun t => { t with since := s.now, hbLostAt := s.now, targets := ts, helloAt := none, beatAt := none })
  ((s.emit (.pin .hbOut 1)).twinState 1).twinWrite 2 true

/-- The unit is switched off: the retained targets apply (Table 12-5). -/
def State.twinOff (s : State) : State :=
  let ts := s.twin.targets
  let s := (s.emit (.pin .hbOut 0)).twinState 0
  let s := ts.foldl (fun s e =>
    if s.nat Pon.CH_CMD (e.1 / 2) (e.1 % 2) ≠ e.2 ∧ s.chCmdCheck (e.1 / 2) (e.1 % 2) e.2 = 0 then
      s.chCmdApply (e.1 / 2) (e.1 % 2) e.2 else s) s
  s.setTwin (fun t => { t with targets := [], takeN := none, yieldN := none, byHand := false })

/-- The chip serves: ALONE or ACTIVE with a twinned channel LIT (R316). -/
def State.serving (s : State) : Bool :=
  s.nat Twin.ROLE == 1 && s.twinChannels.any (fun pc => s.chState pc.1 pc.2 == chLit)

/-- The chip's own HELLO (Table 12-4). -/
def State.helloOf (s : State) : Hello :=
  { serial := Config.serialNumber, prevRole := s.nat Twin.PREV_ROLE, serving := s.serving, faults := s.nat Twin.LOCAL_FAULTS,
    ports := s.nat Twin.TWIN_PORTS, teqds := (List.range 64).map (fun p => s.nat ActCfg.TEQD_US p), epoch := s.nat Tim.FRAME_EPOCH }

/-- The content of a HELLO in its order (Table 12-4). -/
def Hello.fields (h : Hello) : List Int :=
  [(h.serial : Int), h.prevRole, (if h.serving then 1 else 0 : Nat), h.faults, h.dict, h.ports] ++
    h.teqds.map (fun (x : Nat) => (x : Int)) ++ [(h.epoch : Int)]

/-- A HELLO leaves.
Log: 103 DEDUCED. -/
def State.sendHello (s : State) : State := (s.ctrl 4 1 s.helloOf.fields).setTwin (fun t => { t with helloAt := some s.now })

/-- The failing pairing check of R315: 1 dictionary version, 2 TWIN_PORTS, 3 TEQD_US, 4 authentication; 0 none. -/
def State.pairCheck (s : State) (h : Hello) (auth : Bool) : Nat :=
  if h.dict ≠ 0x0203 then 1
  else if h.ports ≠ s.nat Twin.TWIN_PORTS then 2
  else if (List.range 64).any (fun p => s.twinned p && h.teqds.getD p 0 != s.nat ActCfg.TEQD_US p) then 3
  else if auth then 0 else 4

/-- Order of PREV_ROLE: active, none, standby (R316).
Log: 104 DEDUCED. -/
def prevRank (r : Nat) : Nat := match r with | 1 => 0 | 0 => 1 | _ => 2

/-- This chip is the active by the rules of R316; serial numbers compare as 128-bit numbers, first byte most significant.
Log: 104 DEDUCED. -/
def electActive (own peer : Hello) : Bool :=
  let num (h : Hello) : Nat := ofBe (leBytes 16 h.serial)
  if (own.faults == 0) != (peer.faults == 0) then own.faults == 0
  else if own.serving != peer.serving then own.serving
  else if prevRank own.prevRole ≠ prevRank peer.prevRole then decide (prevRank own.prevRole < prevRank peer.prevRole)
  else decide (num own < num peer)

/-- What a new standby starts from: no groups, feeder calibration (R138), and maps from the next one. -/
def State.standbyStart (s : State) (st : Nat) : State :=
  let s := s.setTwin (fun t => { t with
    held := [], frames := 0, waiting := [], asked := [], byHand := false, applied := none, marker := false, spanSeen := false, settled := false,
    nextMap := s.frame + 1, lateMaps := [], peerLost := false, epoch := none, takeN := none, yieldN := none, phase := [], ranged := [] })
  let s := (s.twinState st).twinWrite 2
  s.twinChannels.foldl (fun s pc =>
    (s.feederSearch pc.1 pc.2 (s.get Cal.FEEDER_COARSE_NS pc.1 * 1000)).setFeederState pc.1 pc.2 1) s

/-- The standby takes the active's frame epoch while none of its twinned channels is LIT (R317). -/
def State.takeEpoch (s : State) : State :=
  match s.twin.epoch with
  | none => s
  | some e =>
    if s.twinChannels.any (fun pc => s.chState pc.1 pc.2 == chLit) then s
    else
      let same := s.get Tim.FRAME_EPOCH == e
      let s := s.setTwin (fun t => { t with epoch := none })
      if same then s
      else
        let s := s.put Tim.FRAME_EPOCH e
        let fr := s.fr.map (fun x => (x.1, { x.2 with nextFrame := s.frame }))
        ({ s with nextMap := s.frame + 1, fr := fr } : State).setTwin (fun t => { t with nextMap := s.frame + 1, spanNext := s.frame })

/-- A bulk copy of the critical state starts with the next group (R317). -/
def State.startBulk (s : State) : State := s.setTwin (fun t => { t with mirrored := [], bulk := true })

/-- A new active or standby counts its span sets from the current span. -/
def State.digestStart (s : State) : State :=
  s.setTwin (fun t => { t with spanNext := s.frame, spans := [], mapsDone := [], spansDone := [], setAt := [], peerNonWhole := [] })

/-- The standby enters STANDBY once the marker is applied, its time offset is small and a span set has been compared (R317);
one that was SUSPECT is so again, until COMMAND 3 (R331).
Log: 107 DEDUCED. -/
def State.trySync (s : State) : State :=
  if s.nat Twin.STATE = 3 ∧ s.twin.marker ∧ s.twin.spanSeen ∧ (s.get Tim.OFFSET_PS).natAbs < s.nat Twin.TIME_MAX_NS * 1000 then
    s.twinState (if s.nat Twin.SUSPECT_CAUSE = 0 then 4 else 7)
  else s

/-- The standby asks for a bulk copy (R321).
Log: 111 DEDUCED. -/
def State.resync (s : State) : State :=
  let s := (s.bump TwinCnt.RESYNCS).ctrl 4 6 []
  (s.twinState 3).setTwin (fun t => { t with applied := none, held := [], frames := 0, waiting := [], asked := [], marker := false,
                                             spanSeen := false, settled := false })

/-- What a new active keeps of its standby time (R335): δ, RT_CORR and the phase shifts to come. It no longer is SUSPECT. -/
def State.activeStart (s : State) (n : Nat) : State :=
  let chans := s.twinChannels
  let d := chans.map (fun pc => (chKey pc.1 pc.2, s.feeder pc.1 pc.2))
  let rt := chans.map (fun pc => (chKey pc.1 pc.2, s.rtCorr pc.1 pc.2))
  let s := s.setTwin (fun t => { t with takeN := some n, byHand := false, oldDelta := d, oldRt := rt, ranged := [], held := [],
                                        frames := 0, waiting := [], asked := [], phase := chans.map (fun pc => (chKey pc.1 pc.2, 0)) })
  (s.put Twin.SUSPECT_CAUSE 0).feederClear

/-- At B_n of a hand-over the standby becomes the active (R333); its first group is that of map n + 1.
Log: 106 DEDUCED. -/
def State.takeRole (s : State) : State :=
  match s.twin.takeN with
  | some n => if s.twin.byHand ∧ n ≤ s.frame then ((s.activeStart n).twinState 5).startBulk else s
  | none => s

/-- The standby takes over (R334) with its peer gone or forced aside; where a YIELD stands, n is the later of the two (R342).
Log: 106 DEDUCED. -/
def State.takeOver (s : State) (cause : Nat) (linkUp : Bool) : State :=
  let n := max (s.frameAfter (s.now + 120000)) (if s.twin.byHand then s.twin.takeN.getD 0 else 0)
  let s := s.activeStart n
  let s := (s.twinState (if linkUp then 5 else 6)).twinWrite 3
  let s := s.ctrl 4 3 [(n : Int)]
  s.switched cause 1 ((s.frameStart n - s.now) / usNs)

/-- R312, R313: a BEAT every BEAT_US while the link is used. -/
def execBeatSend (s : State) : Res :=
  live s (fun s =>
    let due := match s.twin.beatSent with
      | some t => decide (t + s.nat Twin.BEAT_US * usNs ≤ s.now)
      | none => true
    if !s.flag Twin.TWIN_ENABLE ∨ s.nat Twin.STATE < 3 ∨ 9 ≤ s.nat Twin.STATE ∨ !due then s
    else
      let s := s.refreshFaults
      let s := s.ctrl 6 0 [s.get Twin.ROLE, s.get Twin.STATE, s.get Twin.LOCAL_FAULTS, (s.twin.sent : Int),
        (s.twin.applied.getD 0 : Nat)]
      s.setTwin (fun t => { t with beatSent := some s.now }))

/-- Results whose group the standby has applied are returned (R319). -/
def State.confirmUpTo (s : State) (k : Nat) : State :=
  let out := s.twin.confirm.filter (fun e => decide (e.1 ≤ k))
  let s := out.foldl (fun s e => s.sendReply e.2.2) s
  s.setTwin (fun t => { t with confirm := t.confirm.filter (fun e => !decide (e.1 ≤ k)) })

/-- R312, R319, R321, R330: a BEAT of the peer.
Log: 105 DEDUCED. -/
def execBeatRx (f : CtrlIn) (role st faults sent applied : Nat) (s : State) : Res :=
  ctrlRx f 6 0 (Config.twinPayload 6 0 [(role : Int), st, faults, sent, applied]) s (fun s =>
    let s := s.setTwin (fun t => { t with beatAt := some s.now, peerState := st, peerSent := sent, peerApplied := applied })
    if !s.paired then s
    else
      let s := s.put Twin.PEER_FAULTS faults
      if s.nat Twin.STATE = 5 then (if role = 2 then s.confirmUpTo applied else s).faultSwitch
      else
        let s := s.takeEpoch
        match s.twin.applied with
        | some k => if k + 64 < sent ∧ s.nat Twin.STATE ≠ 3 then s.resync else s
        | none => s)

/-- The BEAT window of R313 has ended. -/
def State.beatGone (s : State) : Bool :=
  match s.twin.beatAt with
  | some t => decide (t + s.nat Twin.BEAT_US * s.nat Twin.BEAT_MISS * usNs ≤ s.now)
  | none => false

/-- BEAT is lost: with HB_IN the link is down (R338), without it the peer is dead (R332, R334).
Log: 108 DEDUCED. -/
def State.peerGone (s : State) : State :=
  let st := s.nat Twin.STATE
  if !s.paired ∨ !s.beatGone then s
  else if s.twin.hb then
    let s := (s.bump TwinCnt.BEAT_LOSSES).twinState (if st = 5 then 6 else 8)
    s.event 0x8C06 idPeer [a8 (s.get Twin.STATE)]
  else if st = 5 then s.twinState 6
  else if st = 3 then
    if s.twin.peerLost then s
    else (s.setTwin (fun t => { t with peerLost := true })).event 0x8C05 idPeer [a8 (s.get Twin.STATE)]
  else s.takeOver 5 false

/-- R313, R332, R338.
Log: 108 DEDUCED. -/
def execBeatLost (s : State) : Res := live s State.peerGone

/-- R313: no edge fell in a 4 µs window; `edge` is the time of the last one. -/
def execHbInLost (edge : Nat) (s : State) : Res :=
  live s (fun s => if s.now < edge + 4000 then s else (s.setTwin (fun t => { t with hb := false, hbLostAt := if t.hb then s.now else t.hbLostAt })).peerGone)

/-- R313: 8 edges in a row with no gap of 4 µs; `edges` holds their times, the latest first. -/
def execHbInPresent (edges : List Nat) (s : State) : Res :=
  live s (fun s =>
    if 8 ≤ edges.length ∧ (edges.zip edges.tail).all (fun e => decide (e.2 < e.1) && decide (e.1 < e.2 + 4000)) ∧
        s.now < edges.headD 0 + 4000 then
      s.setTwin (fun t => { t with hb := true })
    else s)

/-- R315–R317: a HELLO of the peer, with the result of the mutual authentication. A paired chip answers until a BEAT has shown
that the peer is paired too.
Log: 103 DEDUCED, 114 DEDUCED. -/
def execHelloRx (f : CtrlIn) (h : Hello) (auth : Bool) (s : State) : Res :=
  ctrlRx f 4 1 (Config.twinPayload 4 1 h.fields) s (fun s =>
    let st := s.nat Twin.STATE
    if [4, 5, 7].contains st ∨ (st = 3 ∧ !s.twin.peerLost) then (if s.twin.peerState = 0 then s.sendHello else s)
    else if !([1, 2, 3, 6, 8]).contains st then s
    else
      let own := s.helloOf
      let s := (s.put Twin.PEER_SERIAL h.serial).sendHello
      let bad := s.pairCheck h auth
      if bad ≠ 0 then
        (if st = 6 then s else s.twinState 2).event 0x8C01 idPeer [a8 bad]
      else
        let s := s.setTwin (fun t => { t with beatAt := some s.now, peerState := 0 })
        let s : State := { s with secu := { s.secu with pairKey := some (Config.pairKey s.now) } }
        if electActive own h then
          let s := (s.putK Twin.PREV_ROLE 1).twinState 5
          (s.twinWrite 3).startBulk.digestStart
        else
          (((s.putK Twin.PREV_ROLE 2).standbyStart 3).digestStart.setTwin (fun t => { t with epoch := some (h.epoch : Int) })).takeEpoch)

/-- R315: SEEK_S without a HELLO and with HB_IN lost throughout. -/
def execSeekTimeout (s : State) : Res :=
  live s (fun s =>
    let w := s.nat Twin.SEEK_S * secNs
    if s.nat Twin.STATE = 1 ∧ s.twin.since + w ≤ s.now ∧ !s.twin.hb ∧ s.twin.hbLostAt + w ≤ s.now then
      (s.twinState 6).twinWrite 3
    else s)

/-- R318, R320: a MIRROR frame: critical entries are held, lazy records apply at once. -/
def execMirrorRx (f : CtrlIn) (lazy : Bool) (entries : List MirEntry) (s : State) : Res :=
  let sub := if lazy then 2 else 1
  ctrlRx f 1 sub (mirrorBytes sub entries) s (fun s =>
    if !([3, 4, 7]).contains (s.nat Twin.STATE) then s
    else if lazy then entries.foldl State.mirrorApply s
    else s.setTwin (fun t => { t with held := t.held ++ entries, frames := t.frames + 1 }))

/-- The standby closes its next map k; `have'` says that group k is applied (R322).
Log: 110 DEDUCED. -/
def State.standbyClose (s : State) (have' : Bool) : State :=
  let k := s.twin.nextMap
  let s := s.twinChannels.foldl (fun s pc => if s.mapped pc.1 pc.2 then s.closeChannel pc.1 pc.2 k else s) s
  s.setTwin (fun t => { t with nextMap := k + 1,
                               lateMaps := (if have' then t.lateMaps else k :: t.lateMaps).take 64 })

/-- R322: the standby closes its next map: group k applied, or B_k + 5 µs. From map n of a hand-over on, maps close as an active's (R333).
Log: 110 DEDUCED. -/
def execStandbyMapClose (s : State) : Res :=
  live s (fun s =>
    let k := s.twin.nextMap
    let have' := match s.twin.applied with
      | some a => decide (k ≤ a)
      | none => false
    if s.nat Twin.ROLE ≠ 2 ∨ s.nat Twin.STATE = 9 ∨ (s.twin.byHand ∧ s.twin.takeN.getD 0 ≤ k) ∨
        !(have' || decide (s.frameStart k + 5000 ≤ s.now)) then s
    else s.standbyClose have')

/-- The groups before `k` of which no frame and no marker has come are discarded, counted and asked for again (R321).
Log: 110 DEDUCED. -/
def State.askMissing (s : State) (next k : Nat) : State :=
  let l := ((List.range (min 64 (k - next))).map (fun x => next + x)).filter (fun g =>
    (s.twin.waiting.find? g).isNone && !s.twin.asked.contains g)
  l.foldl (fun (s : State) (g : Nat) => ((s.bump TwinCnt.GROUPS_DISCARDED).ctrl 4 5 [(g : Int)]).setTwin (fun t => { t with asked := g :: t.asked })) s

/-- R321: COMMIT k, with the CRC-32 over the group's entries. At B_k + 5 µs it is too late for map k (R342).
Log: 110 DEDUCED. -/
def execCommitRx (f : CtrlIn) (k frames entries crc : Nat) (s : State) : Res :=
  ctrlRx f 2 0 (Config.twinPayload 2 0 [(k : Int), frames, entries, crc]) s (fun s =>
    if !([3, 4, 7]).contains (s.nat Twin.STATE) then s
    else
      let l := s.twin.held
      let intact := s.twin.frames == frames && l.length == entries && crc32 (mirrorBytes 1 l) == crc
      let s := s.setTwin (fun t => { t with held := [], frames := 0 })
      let next := match s.twin.applied with
        | some a => a + 1
        | none => k
      if k < next then s
      else if !intact then
        ((s.askMissing next k).bump TwinCnt.GROUPS_DISCARDED).ctrl 4 5 [(k : Int)] |>.setTwin (fun t => { t with asked := k :: t.asked })
      else if k = next then
        let late := decide (s.twin.nextMap ≤ k) && decide (s.frameStart s.twin.nextMap + 5000 ≤ s.now)
        (((if late then s.standbyClose false else s).groupApply k l).groupsFollow 64).trySync
      else (s.setTwin (fun t => { t with waiting := t.waiting.ins k l })).askMissing next k)

/-- R320, R321: the peer asks for group k again. -/
def execResendRx (f : CtrlIn) (k : Nat) (s : State) : Res :=
  ctrlRx f 4 5 (Config.twinPayload 4 5 [(k : Int)]) s (fun s =>
    match s.twin.kept.find? k with
    | some l =>
      let s := if l.isEmpty then s else s.sendMirror k l
      s.sendCommit k l
    | none => s)

/-- R317, R321: RESYNC asks an active for a bulk copy; on a standby it is the marker after one.
Log: 111 DEDUCED. -/
def execResyncRx (f : CtrlIn) (s : State) : Res :=
  ctrlRx f 4 6 (Config.twinPayload 4 6 []) s (fun s =>
    if s.nat Twin.STATE = 5 then s.startBulk
    else if s.nat Twin.STATE = 3 then (s.setTwin (fun t => { t with marker := true })).trySync
    else s)

/-- R312, R336: δ and RT_CORR_PS of the peer's channels, by channel key.
Log: 113 DEDUCED. -/
def execFeederRx (f : CtrlIn) (chans : List (Nat × Int × Int)) (s : State) : Res :=
  ctrlRx f 4 4 (Config.twinPayload 4 4 (feederFields chans)) s (fun s =>
    chans.foldl (fun s e => s.setTwin (fun t => { t with peerFeeder := t.peerFeeder.ins e.1 e.2 })) s)

/-- The standby becomes SUSPECT (R331).
Log: 107 DEDUCED. -/
def State.makeSuspect (s : State) (cause : Nat) : State :=
  if s.nat Twin.STATE = 4 ∨ s.nat Twin.STATE = 3 then
    let s := (s.twinState 7).put Twin.SUSPECT_CAUSE cause
    (s.ctrl 4 7 [(cause : Int)]).event 0x8C02 idPeer [a8 cause]
  else s

/-- R331: the peer declares the standby SUSPECT.
Log: 107 DEDUCED. -/
def execSuspectRx (f : CtrlIn) (cause : Nat) (s : State) : Res :=
  ctrlRx f 4 7 (Config.twinPayload 4 7 [(cause : Int)]) s (fun s =>
    if s.nat Twin.STATE = 5 then s.setTwin (fun t => { t with peerState := 7 }) else s.makeSuspect (cause % 4))

/-- R331: an unexplained mismatch, attributed by the local fault indications; `cause` is 1 map or 2 stream.
Log: 107 DEDUCED. -/
def State.unexplained (s : State) (cause : Nat) : State :=
  let act := s.nat Twin.ROLE == 1
  let af := if act then s.nat Twin.LOCAL_FAULTS != 0 else s.nat Twin.PEER_FAULTS != 0
  let sf := if act then s.nat Twin.PEER_FAULTS != 0 else s.nat Twin.LOCAL_FAULTS != 0
  if af && !sf then
    if act then (if s.twin.peerState = 4 then s.handOverTo 2 else s) else s
  else
    let s := if af && sf then s.event 0x8C03 idPeer [a8 (s.get Twin.LOCAL_FAULTS), a8 (s.get Twin.PEER_FAULTS)] else s
    let c := if sf then 3 else cause
    if act then (s.setTwin (fun t => { t with peerState := 7 })).ctrl 4 7 [(c : Int)] else s.makeSuspect c

/-- R319: the oldest result has waited 1 ms for the standby; it returns anyway. -/
def execMirrorConfirmTimeout (s : State) : Res :=
  live s (fun s =>
    match s.twin.confirm with
    | [] => s
    | e :: t =>
      if s.now < e.2.1 + msNs then s
      else
        let s := s.setTwin (fun x => { x with confirm := t })
        (s.bump TwinCnt.MIRROR_UNCONFIRMED).sendReply e.2.2)

/-- A non-whole burst that exactly one chip lists, on a channel, in a span that ended in the excuse window of map k (R328). -/
def State.excusedBy (s : State) (p c k : Nat) : Bool :=
  let close := s.frameStart k - 15000
  let inWin (sp : Nat) : Bool :=
    decide (close ≤ s.spanEnd p sp + s.nat Twin.EXCUSE_SPANS * frameNs) && decide (s.spanEnd p sp < close)
  let own := s.nonWhole.filter (fun e => e.1 == chKey p c && inWin e.2.2)
  let peer := s.twin.peerNonWhole.filter (fun e => e.1 == chKey p c && inWin e.2.2)
  own.any (fun e => !peer.contains e) || peer.any (fun e => !own.contains e)

/-- R328: the digests of map k are compared; `peer` holds the peer's 128 values. -/
def execMapCompare (k : Nat) (peer : List Nat) (s : State) : Res :=
  live s (fun s =>
    let st := s.nat Twin.STATE
    if !(st = 4 ∨ st = 7 ∨ (st = 5 ∧ (s.twin.peerState = 4 ∨ s.twin.peerState = 7))) ∨ s.now < s.frameStart k + 40000 ∨
        s.twin.mapsDone.contains k then s
    else
      let s := s.setTwin (fun t => { t with mapsDone := (k :: t.mapsDone).take 64 })
      let late := if s.nat Twin.ROLE = 2 then s.twin.lateMaps.contains k else decide (s.twin.peerApplied < k)
      let (s, bad) := s.twinChannels.foldl (fun (x : State × Bool) pc =>
        let (s, bad) := x
        match (s.grantCh pc.1 pc.2).digests.find? (fun e => e.1 == k) with
        | none => (s, bad)
        | some (_, d) =>
          if d = peer.getD (chKey pc.1 pc.2) 0 then (s, bad)
          else
            let s := s.bump TwinCnt.MAP_MISMATCH
            if late ∨ s.excusedBy pc.1 pc.2 k then (s.bump TwinCnt.MAP_EXCUSED, bad) else (s, true)) (s, false)
      if bad then s.unexplained 1 else s)

/-- A stream's counter after span k on this chip: of its last set entry up to k. -/
def State.ownAfter (s : State) (x k : Nat) : Nat :=
  match ((s.twin.spans.filter (fun e => decide (e.1 ≤ k))).reverse.findSome? (fun e => e.2.find? (fun y => y.xgem == x))) with
  | some y => y.counter
  | none => (s.twin.streams.getD x {}).counter

/-- A non-whole burst of an ONU lies in a span before k whose comparison was still pending at the start of k (R329). -/
def State.pendingBefore (s : State) (p ch onu k : Nat) (l : List (Nat × Nat × Nat)) : Bool :=
  l.any (fun e => e.1 == ch && e.2.1 == onu && decide (e.2.2 < k) && decide (k ≤ e.2.2 + 64) &&
    (match s.twin.spansDone.find? e.2.2 with
     | some t => decide (s.spanEnd p (k - 1) ≤ t)
     | none => true))

/-- One stream of a span set comparison (R329); the flag tells an unexplained mismatch. -/
def State.streamCompare (s : State) (k : Nat) (peer : List SpanEnt) (first : Bool) (x : Nat) : State × Bool :=
  let p := s.rnat Xg.PORT x
  let ch := chKey p (s.rnat Xg.CHANNEL x)
  let onu := s.rnat Xg.ONU_ID x
  let own := ((s.twin.spans.getD k []).find? (fun e => e.xgem == x)).map (fun e => { e with crc := Nat.xor e.crc 0xFFFFFFFF })
  let a : SpanEnt := own.getD { xgem := x, counter := s.ownAfter x k }
  let b : SpanEnt := (peer.find? (fun e => e.xgem == x)).getD { xgem := x, counter := s.ownAfter x (k - 1) }
  let same := a.packets == b.packets && a.counter == b.counter && a.crc == b.crc
  let clear (s : State) : State := s.setTwin (fun t => { t with streams := t.streams.upd x {} (fun m =>
    if m.mark.getD 0 ≤ k then { m with mark := none } else m) })
  let align (s : State) : State :=
    let s := s.setTwin (fun t => { t with streams := t.streams.upd x {} (fun m =>
      { m with counter := (m.counter + b.counter + 65536 - a.counter) % 65536 }) })
    clear s
  let mine := s.nonWhole.contains (ch, onu, k)
  let theirs := s.twin.peerNonWhole.contains (ch, onu, k)
  let standby := s.nat Twin.ROLE == 2
  if s.pendingBefore p ch onu k s.nonWhole ∨ s.pendingBefore p ch onu k s.twin.peerNonWhole then (s, false)
  else if same then (clear s, false)
  else if mine ∧ !theirs then ((align s).bump TwinCnt.STREAM_ALIGNED, false)
  else if theirs ∧ !mine then (s, false)
  else if first then (if standby then (align s).bump TwinCnt.STREAM_ALIGNED else s, false)
  else ((if standby then align s else s).bump TwinCnt.STREAM_MISMATCH, true)

/-- R329: the peer's set of span k: its non-whole bursts by channel key and ONU-ID, and its streams. -/
def execSpanCompare (k : Nat) (peerNonWhole : List (Nat × Nat)) (peer : List SpanEnt) (s : State) : Res :=
  live s (fun s =>
    if !s.paired ∨ (s.twin.spansDone.find? k).isSome then s
    else
      let s := s.setTwin (fun t => { t with
        peerNonWhole := (peerNonWhole.map (fun e => (e.1, e.2, k)) ++ t.peerNonWhole).take 4096 })
      let first := s.nat Twin.STATE == 3 || s.twin.peerState == 3 || !s.twin.settled
      let xs := ((s.spanEntries k).map (fun e => e.xgem) ++ peer.map (fun e => e.xgem)).eraseDups
      let (s, bad) := xs.foldl (fun (z : State × Bool) x =>
        let (s, b) := z.1.streamCompare k peer first x
        (s, b || z.2)) (s, false)
      let s := s.setTwin (fun t => { t with
        spansDone := (t.spansDone.ins k s.now).filter (fun e => decide (k < e.1 + 64)), spanSeen := true,
        settled := t.settled || s.nat Twin.STATE == 4 || (s.nat Twin.STATE == 5 && t.peerState == 4) })
      let s := if bad then s.unexplained 2 else s
      s.trySync)

/-- R327: the counterpart of a set has not arrived within 1 ms: map set k, or span set k.
Log: 110 DEDUCED. -/
def execDigestMissing (span : Bool) (k : Nat) (s : State) : Res :=
  live s (fun s =>
    if !s.paired ∨ (s.twin.setAt.find? (if span then 2 * k + 1 else 2 * k)).all (fun t => decide (s.now < t + msNs)) then s
    else if span then
      if (s.twin.spansDone.find? k).isSome then s
      else (s.setTwin (fun t => { t with spansDone := t.spansDone.ins k s.now })).bump TwinCnt.DIGEST_MISSING
    else if s.twin.mapsDone.contains k then s
    else (s.setTwin (fun t => { t with mapsDone := (k :: t.mapsDone).take 64 })).bump TwinCnt.DIGEST_MISSING)

/-- COMMAND 1 (R332): the result code. A standby asks its active with a YIELD of frame 0. -/
def State.twinSwitch (s : State) : Nat × State :=
  if s.nat Twin.STATE = 5 ∧ s.twin.peerState = 4 ∧ s.nat Twin.PEER_FAULTS = 0 then (rcOk, s.handOverTo 3)
  else if s.nat Twin.STATE = 4 ∧ s.nat Twin.LOCAL_FAULTS = 0 then (rcOk, s.ctrl 4 2 [0, 3])
  else (rcState, s)

/-- R332: COMMAND 1. -/
def execTwinSwitchCmd (s : State) : Res := live s (fun s => match s.twinSwitch with | (c, s) => s.result Twin.COMMAND 0 c)

/-- COMMAND 2 (R332): the result code. -/
def State.twinForce (s : State) : Nat × State :=
  let st := s.nat Twin.STATE
  if st = 5 ∧ (s.twin.peerState = 4 ∨ s.twin.peerState = 7) then (rcOk, s.handOverTo 4)
  else if st = 4 ∨ st = 7 then (rcOk, s.ctrl 4 2 [0, 4])
  else if st = 8 then (rcOk, s.takeOver 4 false)
  else (rcState, s)

/-- R332: COMMAND 2. -/
def execTwinForce (s : State) : Res := live s (fun s => match s.twinForce with | (c, s) => s.result Twin.COMMAND 0 c)

/-- COMMAND 3 (R331).
Log: 107 DEDUCED. -/
def State.clearSuspect (s : State) : State :=
  (if s.nat Twin.STATE = 7 then s.twinState 4 else s).put Twin.SUSPECT_CAUSE 0

/-- R331: COMMAND 3. -/
def execClearSuspect (s : State) : Res := live s (fun s => s.clearSuspect.result Twin.COMMAND 0 rcOk)

/-- COMMAND 4 (R321): a standby asks for a bulk copy; an active sends one.
Log: 111 DEDUCED. -/
def State.twinResync (s : State) : Nat × State :=
  let st := s.nat Twin.STATE
  if st = 3 ∨ st = 4 ∨ st = 7 then (rcOk, s.resync)
  else if st = 5 then (rcOk, s.startBulk)
  else (rcState, s)

/-- R321: COMMAND 4. -/
def execTwinResyncCmd (s : State) : Res := live s (fun s => match s.twinResync with | (c, s) => s.result Twin.COMMAND 0 c)

/-- The channel that a GZ3216 port is mapped to (R339). -/
def State.legacyPort (s : State) (i : Nat) : Option Nat :=
  let p := s.nat Leg.LEGACY_PORT_MAP 0 i
  if i < 32 ∧ p < 64 then some p else none

/-- The chip becomes the cold standby of a GZ3216 (R339): its mapped channels are held DARK. -/
def State.legacyHold (s : State) : State :=
  (List.range 32).foldl (fun s i =>
    match s.legacyPort i with
    | some p => if s.nat Pon.CH_CMD p 1 ≠ 2 ∧ s.chCmdCheck p 1 2 = 0 then s.chCmdApply p 1 2 else s
    | none => s) (s.twinState 9)

/-- The lowest free record below `n` of a table. -/
def State.freeRec (s : State) (index n : Nat) : Option Nat :=
  let used := s.records index
  (List.range (used.length + 1)).find? (fun r => !used.contains r && decide (r < n))

/-- One record of a snapshot is written for its mapped channel, or counted as rejected (R341). -/
def State.legacyRecord (s : State) (l : List Nat) : State :=
  let f (k : Nat) : Nat := l.getD k 0
  let reject (s : State) : State := s.bump Leg.SNAP_REJECT
  match s.legacyPort (f 1) with
  | none => s
  | some p =>
    match f 0 with
    | 0 =>
      let e : Int := (f 5 : Int) - s.get Leg.LEGACY_RT_CORR_PS 0 (f 1)
      if e < 0 ∨ s.teqd p ≤ e ∨ 1023 ≤ f 2 ∨ (s.onuBy p 1 (f 2)).isSome ∨ (s.serialRec (f 3)).isSome then reject s
      else
        match s.freeOnuRec p with
        | none => reject s
        | some r =>
          let s := s.createOnu r p 1 (f 2) (f 3) 1
          ((s.rputK Onu.REG_ID r (f 4)).rputK Onu.EQD_PS r e).rputK Onu.LAST_RATE r 3
    | 1 =>
      if (s.onuBy p 1 (f 2)).isNone then reject s
      else
        match s.freeRec 0x5200 65536 with
        | none => reject s
        | some r =>
          let s := s.markNew 0x5200 r
          ([(Ctx.PORT, p), (Ctx.CHANNEL, 1), (Ctx.ONU_ID, f 2), (Ctx.ALLOC_ID, f 3), (Ctx.CLASS, f 4), (Ctx.FIXED_KBPS, f 5),
            (Ctx.ASSURED_KBPS, f 6), (Ctx.MAX_KBPS, f 7), (Ctx.PRIORITY, f 8), (Ctx.WEIGHT, f 9), (Ctx.ADMIN, 1)] :
            List (Obj × Nat)).foldl (fun s e => s.rputK e.1 r e.2) s
    | _ =>
      if f 2 ≠ 1023 ∧ (s.onuBy p 1 (f 2)).isNone then reject s
      else
        match s.freeRec 0xA400 262144 with
        | none => reject s
        | some r =>
          let s := s.markNew 0xA400 r
          ([(Xg.PORT, p), (Xg.CHANNEL, 1), (Xg.ONU_ID, f 2), (Xg.XGEM_ID, f 3), (Xg.DIRECTION, f 4), (Xg.ENCRYPT, f 5), (Xg.ADMIN, 1)] :
            List (Obj × Nat)).foldl (fun s e => s.rputK e.1 r e.2) s

/-- The bytes of a slot when its pieces cover [0, TOTAL). -/
def LegSlot.body (x : LegSlot) : Option (List Nat) :=
  let step (b : List Nat) (e : Nat × List Nat) : List Nat := if e.1 ≤ b.length then b ++ e.2.drop (b.length - e.1) else b
  let b := x.pieces.foldl step []
  if x.total ≤ b.length then some (b.take x.total) else none

/-- The GZ3216 is lost (R341): the newest valid slot is restored and the mapped channels are lit. -/
def State.legacyTake (s : State) : State :=
  let v0 := s.nat Leg.SLOT0_STATE == 2
  let v1 := s.nat Leg.SLOT1_STATE == 2
  let slot : Option LegSlot :=
    if v0 && (!v1 || decide (s.get Leg.SLOT1_AT ≤ s.get Leg.SLOT0_AT)) then some s.twin.slot0
    else if v1 then some s.twin.slot1 else none
  let recs := match slot with
    | some x => Config.legacySnapshot (x.body.getD [])
    | none => []
  let s := recs.foldl State.legacyRecord s
  let s := s.twinState 6
  (List.range 32).foldl (fun s i =>
    match s.legacyPort i with
    | some p =>
      let s := if s.chCmdCheck p 1 3 = 0 then s.chCmdApply p 1 3 else s
      s.enterFast p 1
    | none => s) s

/-- R341: COMMAND 5.
Log: 112 DESIGN CHOICE. -/
def execLegacyTakeover (s : State) : Res :=
  live s (fun s => if s.nat Twin.STATE = 9 then s.legacyTake.result Twin.COMMAND 0 rcOk else s.result Twin.COMMAND 0 rcState)

/-- R333: YIELD n. A standby writes CH_CMD 3 and becomes the active at frame n; an active takes it as the standby's request for a
hand-over. A standby that takes over in the same clock starts with the later frame (R342).
Log: 105 DEDUCED, 106 DEDUCED. -/
def execYieldRx (f : CtrlIn) (n cause : Nat) (s : State) : Res :=
  ctrlRx f 4 2 (Config.twinPayload 4 2 [(n : Int), cause]) s (fun s =>
    let st := s.nat Twin.STATE
    if st = 5 then (if cause = 3 ∨ cause = 4 then s.handOverTo cause else s)
    else if st = 4 ∨ st = 7 then
      let s := s.setTwin (fun t => { t with takeN := some n, byHand := true })
      (s.twinWrite 3).switched (cause % 6) 1 0
    else if st = 6 ∧ s.nat Twin.LAST_SWITCH_CAUSE = 5 ∧ s.nat Twin.LAST_SWITCH_AT = s.now then
      let n := max n (s.twin.takeN.getD 0)
      (s.setTwin (fun t => { t with takeN := some n })).put Twin.LAST_GAP_US ((s.frameStart n - s.now) / usNs : Nat)
    else s)

/-- R334: the peer has taken over from frame n; this chip no longer is the active. -/
def execTakenRx (f : CtrlIn) (n : Nat) (s : State) : Res :=
  ctrlRx f 4 3 (Config.twinPayload 4 3 [(n : Int)]) s (fun s =>
    if s.nat Twin.ROLE = 1 ∨ s.nat Twin.STATE = 8 then
      ((s.standbyStart 3).digestStart).setTwin (fun t => { t with beatAt := some s.now, nextMap := max n t.nextMap })
    else s)

/-- R333, R336: frame n − 1 and B_n of a hand-over on the old active: CH_CMD 2, then STANDBY, with a feeder search from −δ of
the new active; B_n on the new one: it is the active.
Log: 106 DEDUCED. -/
def execHandoverFrame (s : State) : Res :=
  live s (fun s =>
    match s.twin.yieldN with
    | none => s.takeRole
    | some n =>
      let s := if !s.twin.dimmed ∧ n ≤ s.frame + 1 then
          (s.twinWrite 2).setTwin (fun t => { t with dimmed := true }) else s
      if s.frame < n then s
      else
        let s := s.twinChannels.foldl (fun s pc => s.pendingApply pc.1 pc.2) s
        let s := (s.standbyStart 4).setTwin (fun t => { t with applied := some n, nextMap := n + 1, settled := false })
        s.twinChannels.foldl (fun s pc =>
          match s.twin.peerFeeder.find? (chKey pc.1 pc.2) with
          | some (d, _) => s.feederSearch pc.1 pc.2 (-d)
          | none => s) s)

/-- The slot that a snapshot number fills (R340): its own, else the one that is not the newest valid slot. -/
def State.legSlotFor (s : State) (seq : Nat) : Nat :=
  if s.nat Leg.SLOT0_STATE = 1 ∧ s.nat Leg.SLOT0_SEQ = seq then 0
  else if s.nat Leg.SLOT1_STATE = 1 ∧ s.nat Leg.SLOT1_SEQ = seq then 1
  else if s.nat Leg.SLOT0_STATE ≠ 2 then 0
  else if s.nat Leg.SLOT1_STATE ≠ 2 then 1
  else if s.get Leg.SLOT0_AT ≤ s.get Leg.SLOT1_AT then 0 else 1

def legState (k : Nat) : Obj := if k = 0 then Leg.SLOT0_STATE else Leg.SLOT1_STATE
def legSeq (k : Nat) : Obj := if k = 0 then Leg.SLOT0_SEQ else Leg.SLOT1_SEQ
def legAt (k : Nat) : Obj := if k = 0 then Leg.SLOT0_AT else Leg.SLOT1_AT

def State.legSlot (s : State) (k : Nat) : LegSlot := if k = 0 then s.twin.slot0 else s.twin.slot1
def State.setLegSlot (s : State) (k : Nat) (x : LegSlot) : State :=
  let s := s.ddrAccess 5 k
  s.setTwin (fun t => if k = 0 then { t with slot0 := x } else { t with slot1 := x })

/-- A slot whose end has come is valid or invalid (R340).
Log: 112 DESIGN CHOICE. -/
def State.legFinish (s : State) (k : Nat) : State :=
  let x := s.legSlot k
  match x.sig, x.body with
  | some g, some b =>
    if Config.pssVerify (s.nat Leg.LEGACY_PEER_KEY) b (ofLe g) then (s.put (legState k) 2).put (legAt k) s.now
    else (s.put (legState k) 3).bump Leg.SIG_FAILS
  | some _, none => s.put (legState k) 3
  | _, _ => s

/-- R340: a datagram to a UDP port from an IP address: heartbeat, piece or end of a snapshot.
Log: 112 DESIGN CHOICE. -/
def execLegacyDatagram (port ip kind seq offset total : Nat) (data : List Nat) (s : State) : Res :=
  live s (fun s =>
    if !s.flag Leg.LEGACY_ENABLE ∨ port ≠ s.nat Leg.LEGACY_UDP_PORT ∨ ip ≠ s.nat Leg.LEGACY_PEER_IP then s
    else if kind = 1 then s.setTwin (fun t => { t with legBeat := some s.now })
    else if kind ≠ 2 ∧ kind ≠ 3 ∨ 8388608 < total then s
    else
      let k := s.legSlotFor seq
      let filling := s.nat (legState k) = 1 ∧ s.nat (legSeq k) = seq
      let s := if filling then s
        else ((s.put (legState k) 1).put (legSeq k) seq).setLegSlot k { seq := seq, total := total }
      let x := s.legSlot k
      if kind = 2 then s.setLegSlot k { x with pieces := x.pieces.ins offset data }
      else (s.setLegSlot k { x with sig := some (data.take 512) }).legFinish k)

/-- R341: no heartbeat for LEGACY_TIMEOUT_MS. -/
def execLegacyTimeout (s : State) : Res :=
  live s (fun s =>
    match s.twin.legBeat with
    | some t =>
      if s.nat Twin.STATE = 9 ∧ t + s.nat Leg.LEGACY_TIMEOUT_MS * msNs ≤ s.now then
        s.legacyTake.setTwin (fun t => { t with legBeat := none })
      else s
    | none => s)

/-- R315: HELLO each millisecond in SEEKING, and while the peer's return is awaited, each second in INCOMPATIBLE. -/
def execHelloSend (s : State) : Res :=
  live s (fun s =>
    let st := s.nat Twin.STATE
    let gap := if st = 2 then secNs else msNs
    let due : Bool := match s.twin.helloAt with
      | some t => decide (t + gap ≤ s.now)
      | none => true
    if [1, 2, 6, 8].contains st ∧ s.flag Twin.TWIN_ENABLE ∧ due then s.sendHello else s)

/-- R330: a local fault indication that lasts 1 s ends. -/
def execLocalFaultExpiry (s : State) : Res := live s State.refreshFaults

/-- Lazy objects of Table 12-6. -/
def State.lazyValue (s : State) (a : Addr) : Bool :=
  (a.index == 0x4200 && s.twinned (s.rnat Onu.PORT a.recNo) &&
    [Onu.LOB_COUNT, Onu.EQD_CORR_COUNT, Onu.ROGUE_COUNT, Onu.DEACT_CAUSE, Onu.LAST_CHANGE, Onu.HOLDOFF_S].any (fun o => o.sub == a.sub)) ||
  (a.index == 0x5200 && s.twinned (s.rnat Ctx.PORT a.recNo) && decide (0x14 ≤ a.sub) && decide (a.sub ≤ 0x16)) ||
  (a.index == 0xA400 && s.twinned (s.rnat Xg.PORT a.recNo) && (a.sub == 9 || a.sub == 10))

/-- The lazy objects of the twinned records that have been written, as entries. -/
def State.lazyRecords (s : State) : List MirEntry :=
  (s.od.filter (fun e => s.lazyValue e.1)).map (fun e => MirEntry.value e.1.index e.1.sub e.1.recNo e.2)

/-- R318: the active sends its lazy records once in each LAZY_MS window. -/
def execLazyRecordSend (s : State) : Res :=
  live s (fun s =>
    if s.nat Twin.STATE = 5 ∧ s.twin.lazyAt + s.nat Twin.LAZY_MS * msNs ≤ s.now then
      let l := s.lazyRecords
      ((s.ctrlBytes 1 2 [] (mirrorBytes 2 l)).emit (.mirror true 0 l)).setTwin (fun t => { t with lazyAt := s.now })
    else s)

end Sys2Proof.Machine
end

