-- ==== Sys2Proof/Machine/FamPower.lean ====
section
/-! DEFINITION. The commands of power, start-up and thermal supervision (chapters 15 and 17), and the clock stops of R29. -/

namespace Sys2Proof.Machine

/-- R458: rails 0 and 1 are in their windows, and PWR_EN_A goes high. -/
def execSnowdropPowerOn (s : State) : Res :=
  always s (fun s => if s.power.coreOn ∨ s.power.enA ∨ s.power.retryAt.isSome ∨ s.power.tripped ∨ s.power.st = pwSnow then s
    else (s.emit (.pin .pwrEnA 1)).setPower (fun w => { w with enA := true, enAt := s.now }))

/-- R458: PG_A high, and 1 ms later PWR_EN_B.
Log: 137 DEDUCED. -/
def execPgAHigh (s : State) : Res :=
  always s (fun s => if s.power.enA ∧ !s.power.enB then
      (s.emit (.pin .pwrEnB 1)).setPower (fun w => { w with enB := true, enAt := s.now + msNs })
    else s)

/-- R448, R458: T0, 1 ms after PG_B, which PWR_EN_B precedes; the start begins at phase 1.
Log: 11 DEDUCED. -/
def execPowerGood (s : State) : Res :=
  always s (fun s => if s.power.enB ∧ s.power.enAt + msNs ≤ s.now ∧ !s.power.coreOn ∧ !s.power.tripped ∧ s.power.st ≠ pwSnow then s.start 0 1 else s)

/-- R458, R462: a group is not within its windows 50 ms after its enable, a supply fault; `rail` is one that is not.
Log: 137 DEDUCED. -/
def execRailEnableTimeout (rail : Fin 10) (s : State) : Res :=
  always s (fun s => if s.power.enA ∧ !s.power.coreOn ∧ s.power.enAt + 50 * msNs ≤ s.now then
      (s.railsOff.alertSet 2).setPower (fun w => { w with retryAt := some (s.now + secNs), supply := some rail.val })
    else s)

/-- R406, R450, R462: a rail has been outside its window since `since`, for 10 µs; rails 2–9 go off and phase 1 is repeated after 1 s. With the core rails off,
only the always-on rails can.
Log: 137 DEDUCED, 161 DESIGN CHOICE. -/
def execRailFault (rail : Fin 10) (since : Nat) (s : State) : Res :=
  always s (fun s => if (!s.power.enA ∧ 2 ≤ rail.val) ∨ s.now < since + 10 * usNs then s
    else
      let s := if rail.val = 0 then s.snowLost else s
      (s.railsOff.alertSet 2).setPower (fun w => { w with retryAt := some (s.now + secNs), supply := some rail.val, st := 0 }))

/-- R450, R458: the wait of 1 s ends. -/
def execRailRetry (s : State) : Res :=
  always s (fun s => match s.power.retryAt with
    | some t =>
      if t ≤ s.now ∧ !s.power.tripped then
        (s.emit (.pin .pwrEnA 1)).setPower (fun w => { w with enA := true, enAt := s.now, retryAt := none })
      else s
    | none => s)

/-- R455: SYS_RST_N has been low since `since`; a pulse of less than 1 µs starts nothing. -/
def execSysRst (since : Nat) (s : State) : Res := live s (fun s => if s.now < since + usNs then s else s.start 4 2)

/-- R455. -/
def execPcieFundamentalReset (s : State) : Res := live s (fun s => s.start 3 2)

/-- R455, R411, Table 15-14: the write is answered, the journal and the calibration section are flushed, and the device starts. -/
def execRestart (s : State) : Res :=
  live s (fun s => ((s.result Pwr.RESTART 0 rcOk).journalFold.calFlush).start 2 2)

/-- R449: phase 1 ends. -/
def execSnowdropPhaseEnd (s : State) : Res :=
  live s (fun s => if s.nat Sta.START_PHASE = 1 then s.phaseEnd 1 2 else s)

/-- The journal section of an index (R386): the domains of Table 1-8 without 0x5C00–0x5FFF, and the tables at 0xA000–0xDFFF by
the domain whose subsystem owns them. -/
def sectionOf (i : Nat) : Nat :=
  if i < 0x2000 then 0 else if i < 0x3000 then 1 else if i < 0x3400 then 2 else if i < 0x4000 then 3
  else if i < 0x5000 then 4 else if i < 0x5800 then 5 else if i < 0x6000 then 6 else if i < 0x7000 then 7
  else if i < 0x7800 then 8 else if i < 0x8000 then 9 else if i < 0x8800 then 10 else if i < 0x8C00 then 11
  else if i < 0x9000 then 12 else if i < 0x9400 then 13 else if i < 0x9800 then 14 else if i < 0x9C00 then 15
  else if i < 0xA000 then 16
  else if i < 0xA100 then 0 else if i < 0xA300 then 3 else if i < 0xA600 then 6 else if i < 0xA800 then 8
  else if i < 0xA900 then 7 else if i < 0xB000 then 10 else 9

/-- A restored ONU record starts EMPTY with its counts fresh (R93, R178). -/
def State.onuRestored (s : State) (r : Nat) : State :=
  let s := if s.rnat Onu.CHANNEL r = 1 then s.rput Onu.RATE r 3 else s
  (s.put ActDev.RECORDS (s.get ActDev.RECORDS + 1)).clearPm r

/-- Retained coefficient sets come back (R133): with their times where the seconds counter ran throughout, else RESTORE_AGE_S old. -/
def State.calRestore (s : State) : State :=
  (s.records 0x4200).foldl (fun s r =>
    (List.range 4).foldl (fun s k =>
      match s.journal.cal.find? ((coefSet k).addr 0 0 r) with
      | some v =>
        let t : Int := match s.power.snowValid, s.journal.cal.find? ((coefTime k).addr 0 0 r) with
          | true, some t => t
          | _, _ => (s.now : Int) - (s.nat Cal.RESTORE_AGE_S (s.rnat Onu.PORT r) * secNs : Nat)
        ((s.rput (coefSet k) r v).rput (coefTime k) r t).setValid r k true
      | none => s) s) s

/-- R386, R410, R449: the restore. `header` tells whether the journal's header is good, `bad` names the sections with a bad CRC.
Log: 11 DEDUCED, 129 DEDUCED. -/
def execHoneycombRestore (header : Bool) (bad : List Nat) (s : State) : Res :=
  live s (fun s =>
    if s.nat Sta.START_PHASE ≠ 3 then s
    else
      let j := s.journal
      let none' := !j.present
      let invalid := !none' && (!header || j.version != 0x0203)
      let lost := if none' ∨ invalid ∨ j.factory then [] else bad.filter (fun k => decide (k < 17))
      let image : Store := if none' ∨ invalid then [] else j.image.filter (fun e => !lost.contains (sectionOf e.1.index))
      let status := if none' then 4 else if invalid then 2 else if j.factory then 3 else if lost.isEmpty then 0 else 1
      let s : State := { s with od := image.foldl (fun m e => m.ins e.1 e.2) s.od }
      let s := s.setJournal (fun j => { j with image := image, factory := false })
      let s := ((s.put Dic.MGMT_KEY j.mgmtKey).put Sec.OWNER_DEBUG_KEY j.ownerKey)
      let s := (s.records 0x4200).foldl State.onuRestored s
      let s := if 2 ≤ status ∨ lost.contains 3 then s else s.calRestore
      let s := (s.put Dic.RESTORE_STATUS status).put Dic.JOURNAL_VERSION (if none' ∨ !header then 0 else j.version)
      let s := (List.range 17).foldl (fun s k =>
        s.put Dic.DOMAIN_RESTORE (if 2 ≤ status then status else if lost.contains k then 1 else 0) 0 k) s
      let s := (s.event 0x1003 idDict [a8 status]).phaseEnd 3 4
      { s with dict := { s.dict with ready := true } })

/-- The share of region `j` on each channel in 1/840 MiB, and the channels of its mask that are fitted. -/
def State.regionOn (s : State) (fit : Nat) (j : Nat) : List Nat :=
  (List.range 8).filter (fun k => fit.testBit k && (s.nat DdrReg.CH_MASK j).testBit k)

/-- What the regions `1..5` take of each channel in 1/840 MiB, given their sizes (R407).
Log: 127 DESIGN CHOICE. -/
def State.taken (s : State) (fit : Nat) (size : Nat → Nat) (k : Nat) : Nat :=
  ([1, 2, 3, 4, 5].map (fun j =>
    let on := s.regionOn fit j
    if on.contains k then size j * 840 / on.length else 0)).sum

/-- The memory layout (R407): regions 1–5 at their sizes where their masks name fitted channels, spill takes what is left. A region
that does not fit in the channels found has no stated size: a free value within what they offer.
Log: 127 DESIGN CHOICE. -/
def State.layOut (s : State) (fit : Nat) : State :=
  let cap (k : Nat) : Nat := s.nat Pwr.CH_SIZE_GIB 0 k * 1024 * 840
  let s := [1, 2, 3, 4, 5].foldl (fun s j =>
    let on := s.regionOn fit j
    let size := s.nat DdrReg.SIZE_MIB j
    let used (k : Nat) : Nat := s.taken fit (fun i => if i < j then s.nat DdrReg.ACTIVE_SIZE_MIB i else 0) k
    let room := (on.map (fun k => cap k - used k)).min?.getD 0
    if on.isEmpty then s.put DdrReg.ACTIVE_SIZE_MIB 0 j
    else if size * 840 / on.length ≤ room then s.put DdrReg.ACTIVE_SIZE_MIB size j
    else
      match s.draw with
      | (v, s) => s.put DdrReg.ACTIVE_SIZE_MIB (v.toNat % (room * on.length / 840 + 1) : Nat) j) s
  let free := ((s.regionOn fit 0).map (fun k => cap k - s.taken fit (fun i => s.nat DdrReg.ACTIVE_SIZE_MIB i) k)).sum
  s.put DdrReg.ACTIVE_SIZE_MIB (free / 840 : Nat) 0

/-- The pools take their counts in force (R232, R236).
Log: 70 DEDUCED, 127 DESIGN CHOICE. -/
def State.setPools (s : State) : State :=
  let spill := s.nat DdrReg.ACTIVE_SIZE_MIB 0 * 1048576
  (List.range 11).foldl (fun s k =>
    let n := s.nat Pool.COUNT k
    let size := max 1 (s.nat Pool.SIZE k)
    let n := if k < 8 then n else if n = 0 then s.deepShare k / size else min n (spill / size)
    ((s.put Pool.ACTIVE_COUNT n k).put Pool.FREE n k).put Pool.LOW_WATER n k) s

/-- R449, R407, R452, R265, R315: phase 4 ends with the sizes of the trained DDR5 channels in GiB (0: not fitted or not trained);
phases 5 and 6 begin.
Log: 128 DEDUCED. -/
def execPllDdrReady (sizes : List Nat) (s : State) : Res :=
  live s (fun s =>
    if s.nat Sta.START_PHASE ≠ 4 then s
    else
      let size (k : Nat) : Nat := min (sizes.getD k 0) 256
      let fit : Nat := ((List.range 8).map (fun k => if size k = 0 then 0 else 2 ^ k)).sum
      let s := (List.range 8).foldl (fun s k => s.put Pwr.CH_SIZE_GIB (size k) 0 k) s
      let s := (s.put Pwr.CH_FITTED fit).put Pwr.CAPACITY_MIB (((List.range 8).map size).sum * 1024 : Nat)
      let s := ((s.put Pwr.PLL_LOCKED 0x7F).layOut fit).setPools
      let chans : Tab (List Nat) := [0, 1, 2, 3, 4, 5].foldl (fun t j =>
        if s.nat DdrReg.ACTIVE_SIZE_MIB j = 0 then t else t.ins j (s.regionOn fit j)) []
      let access : Tab Nat := (List.range 8).foldl (fun t k => t.ins k s.now) []
      let laps : Tab Nat := (List.range 8).foldl (fun t k => t.ins (11 + k) s.now) s.mem.lapAt
      let s := { s with mem := { s.mem with chans := chans, access := access, asleep := [], waking := [], lap := [], lapAt := laps } }
      let s := s.put Fwd.FAR_BUCKETS (min (s.nat DdrReg.ACTIVE_SIZE_MIB 3 * 8192) 15728640 : Nat)
      let s := { s with fwd := { s.fwd with passDue := s.now + s.nat Fwd.AGE_PERIOD_S * secNs } }
      let s := ((s.phaseEnd 4 5).setPower (fun w => { w with phase5 := s.now })).sbStart
      let s := (List.range 8).foldl (fun s g =>
        if s.flag Upl.ENABLE g ∧ !s.partner g ∧ s.nat Upl.MODE g ≠ 0 then s.groupStart g else s) s.refreshCap
      let s := if s.flag Twin.TWIN_ENABLE then s.twinSeek else if s.flag Leg.LEGACY_ENABLE then s.legacyHold else s
      s.bmca.syncRefresh.nextWaves 8)

/-- R450: PLLs that are not locked 10 ms into phase 4 or later; phase 4 is repeated.
Log: 161 DESIGN CHOICE. -/
def execPllLockRetry (locked : Fin 128) (s : State) : Res :=
  live s (fun s => if s.nat Sta.START_PHASE = 4 ∧ s.nat Sta.PHASE_END_MS 0 2 + 10 ≤ s.msT0 then s.put Pwr.PLL_LOCKED locked.val else s)

/-- R452: a thermal-loop sample at which the next wave may start. -/
def execWaveStart (s : State) : Res := live s (fun s => if s.waveDue then s.nextWaves 8 else s)

/-- R453, R399: Start-up ends.
Log: 11 DEDUCED, 128 DEDUCED. -/
def execStartUpEnd (s : State) : Res :=
  live s (fun s =>
    if s.nat Pwr.POWER_STATE ≠ pwStart ∨ s.nat Sta.START_PHASE < 5 ∨ s.power.waves < 8 ∨ !s.roleSettled then s
    else
      let s := (s.phaseEnd 5 6).phaseEnd 6 7
      let s := if s.trimAuto && s.power.low then s.steerTrim.enterTrim else s.powerTo pwFull
      s.serviceCheck)

/-- R399, R401. -/
def execPowerCmdFull (s : State) : Res := live s (fun s => s.powerCmd 1)

/-- R399, R400. -/
def execPowerCmdTrim (s : State) : Res := live s (fun s => s.powerCmd 2)

/-- R399, R403. -/
def execPowerCmdSnowdrop (s : State) : Res := live s (fun s => s.powerCmd 3)

/-- R399: PWR_LOW_N has been low since `since`; once for 10 ms, Trim is entered.
Log: 125 DEDUCED. -/
def execPwrLowEntry (since : Nat) (s : State) : Res :=
  let s := s.setPower (fun w => { w with low := true })
  always s (fun s =>
    if since + 10 * msNs ≤ s.now ∧ s.power.coreOn ∧ s.nat Pwr.POWER_STATE = pwFull ∧ s.power.trans = 0 ∧ s.trimAuto then s.transBegin 1
    else s)

/-- R399: PWR_LOW_N has been high since `since`; once for TRIM_EXIT_S, Full is entered again.
Log: 125 DEDUCED. -/
def execPwrLowExit (since : Nat) (s : State) : Res :=
  let s := s.setPower (fun w => { w with low := false })
  always s (fun s =>
    if since + s.nat Pwr.TRIM_EXIT_S * secNs ≤ s.now ∧ s.power.coreOn ∧ s.nat Pwr.POWER_STATE = pwTrim ∧ s.power.trans = 0 ∧ s.trimAuto then
      s.transBegin 2
    else s)

/-- R400 step 1: the first frame boundary after the trigger. -/
def execTrimSteering (s : State) : Res :=
  live s (fun s => if s.power.trans = 1 ∧ !s.power.trim ∧ s.boundaryPassed then s.steerTrim else s)

/-- R400 steps 2–4: the four pipelines are empty. -/
def execTrimPipelinesDrained (s : State) : Res :=
  live s (fun s =>
    let empty (n : Nat) : Bool := (s.pipe n).arriving.isEmpty && (s.pipe n).ingress.isEmpty && (s.pipe n).recirc.isEmpty
    if s.power.trans = 1 ∧ s.power.trim ∧ trimPipes.all empty then s.enterTrim else s)

/-- R401: the copy ends; the beat-5 writes that waited reach all replicas, and Full follows at the next frame boundary. -/
def execReplicaCopyComplete (s : State) : Res :=
  live s (fun s =>
    if s.power.trans = 2 then
      let s := s.power.commits.foldl (fun s c => (s.beat5Now c.1 c.2.1 c.2.2).2) s
      s.setPower (fun w => { w with trans := 4, transAt := s.now, commits := [] })
    else s)

/-- R403, R404: the core rails are off; PWR_SLOW reports an entry of more than 300 ms, and a wake source that came true during the
entry starts the device at once.
Log: 122 DEDUCED, 125 DEDUCED. -/
def execSnowdropEntryComplete (s : State) : Res :=
  live s (fun s =>
    if s.power.trans = 3 then
      let s := s.snowStages 4
      let ms := (((s.now : Int) - s.power.transAt) / 1000000).toNat
      let s := if (300 * msNs : Int) < (s.now : Int) - s.power.transAt then s.event 0x2004 0 [a32 ms] else s
      let s := s.railsOff.setPower (fun w => { w with st := pwSnow, trans := 0 })
      match s.power.wake with
      | some b => s.wakeUp b
      | none => s
    else s)

/-- R404: a wake source comes true, WAKE_N once it has been low since `since`, for 1 ms. During an entry it waits; after a thermal
trip it is ignored (R465).
Log: 125 DEDUCED. -/
def execSnowdropWake (b : Fin 3) (since : Nat) (s : State) : Res :=
  let s := if b.val = 2 then s.setPower (fun w => { w with low := false }) else s
  always s (fun s => if !s.wakeOn b ∨ s.power.tripped ∨ (b.val = 0 ∧ s.now < since + msNs) then s
    else if s.power.coreOn then
      if s.power.trans = 3 ∧ s.power.wake.isNone then s.setPower (fun w => { w with wake := some b.val }) else s
    else if s.power.st = pwSnow then s.wakeUp b
    else s)

/-- R29, R30: a pipeline's ingress FIFO has been empty for 1 µs.
Log: 14 DESIGN CHOICE. -/
def execPipelineIdleStop (n : Fin 8) (s : State) : Res :=
  live s (fun s =>
    let x := s.pipe n
    if x.ingress.isEmpty ∧ x.arriving.all (fun p => decide (s.now < p.at')) ∧ x.idleAt + 1000 ≤ s.now then
      s.updPipe n (fun x => { x with clock := false })
    else s)

/-- R29, R30: a control core has waited since `since` for an interrupt, for 100 µs, and none has come.
Log: 14 DESIGN CHOICE, 162 DESIGN CHOICE. -/
def execCoreIdleStop (k : Fin 8) (since : Nat) (s : State) : Res :=
  live s (fun s =>
    if s.now < since + 100 * usNs ∨ (s.host.coreIrqAt.find? k.val).any (fun t => decide (since ≤ t)) then s
    else { s with host := { s.host with coreOff := if s.host.coreOff.contains k.val then s.host.coreOff else k.val :: s.host.coreOff } })

/-- R29: a fitted DDR5 channel that has had no access for 10 ms enters self-refresh. -/
def execDdrSelfRefreshEntry (k : Fin 8) (s : State) : Res := live s (fun s => s.ddrSleep k)

/-- R29, R32: a channel that an access wakes, or that a function accesses continually, has left self-refresh. -/
def execDdrWakeComplete (k : Fin 8) (s : State) : Res :=
  live s (fun s => if s.mem.waking.contains k.val ∨ s.ddrHeld k then s.ddrAwake k else s)

/-- R465, R468: the highest die has been at or above TJ_WARN_C since `since`, for 1 s; `temp` in m°C. -/
def execPwrThermalWarn (die : Fin 3) (temp : Int) (since : Nat) (s : State) : Res :=
  live s (fun s =>
    if s.power.warned ∨ s.now < since + secNs ∨ temp < s.get Sta.TJ_WARN_C * 1000 then s
    else ((s.event 0x2006 0 [a8 1, a8 die.val, a32 temp]).alertSet 0).setPower (fun w => { w with warned := true }))

/-- R465: re-armed below TJ_WARN_C − 5 °C. -/
def execThermalRearm (temp : Int) (s : State) : Res :=
  live s (fun s =>
    if temp < (s.get Sta.TJ_WARN_C - 5) * 1000 then s.setPower (fun w => { w with warned := false }) else s)

/-- R465, R467: a die at the trip temperature of Table 17-11 or above since `since`, for 1 ms; rails 2–9 drop without a flush.
Log: 161 DESIGN CHOICE. -/
def execThermalTrip (die : Fin 3) (temp : Int) (since : Nat) (s : State) : Res :=
  live s (fun s =>
    if s.now < since + msNs ∨ temp < (if Config.gradeXc then 115000 else 120000) then s
    else (s.railsOff.alertSet 1).setPower (fun w =>
      { w with tripped := true, trip := some (die.val, temp), st := pwSnow, trans := 0 }))

/-- R465: the Snowdrop domain's sensor reads below TJ_WARN_C − 10 °C, and wake sources count again. -/
def execTripCoolDown (temp : Int) (s : State) : Res :=
  always s (fun s => if temp < (s.get Sta.TJ_WARN_C - 10) * 1000 then s.setPower (fun w => { w with tripped := false }) else s)

/-- The board-management registers as they read (Table 17-12), ALERT without its clear; 16 bits. `die` holds the die temperatures
in m°C; the highest is given in 0.1 °C. -/
def State.bmcReg (s : State) (a : Nat) (die : List Int) : Nat :=
  match a with
  | 0 => 0x6450
  | 1 => if s.power.coreOn then s.nat Pwr.POWER_STATE + s.nat Sta.START_PHASE * 8 else s.power.st
  | 2 => Config.coreVidMv
  | 3 => if s.power.coreOn then ((die.max?.getD 0 / 100) % 65536).toNat else 0x8000
  | 4 => s.power.alert
  | _ => 0

/-- START_STATUS at BAR0 offset 0x000_0010 (R451, Table 17-2). -/
def State.startStatus (s : State) : Nat :=
  s.nat Sta.START_PHASE + (if s.dict.ready then 16 else 0) + s.nat Pwr.POWER_STATE * 32

/-- R462: a read of ALERT returns and clears it. -/
def execBmcAlertRead (s : State) : Res :=
  always s (fun s => let a := s.power.alert
    let s := if a = 0 then s else s.emit (.pin .alertN 1)
    (s.emit (.value a)).setPower (fun w => { w with alert := 0 }))

/-- R29: the PCIe link enters L1. -/
def execPcieL1Entry (s : State) : Res := live s (fun s => { s with host := { s.host with l1 := true } })

/-- R29: a PCIe wake. -/
def execPcieWake (s : State) : Res := live s (fun s => { s with host := { s.host with l1 := false } })

end Sys2Proof.Machine
end

