-- ==== Sys2Proof/Machine/FamSec.lean ====
section
/-! DEFINITION. The commands of the security engine: boot, images, lifecycle, debug, SPDM and TAP (chapter 15). -/

namespace Sys2Proof.Machine

/-- Chunks of an image slot: 0 A, 1 B. -/
def State.slotTab (s : State) (k : Nat) : Tab Nat := if k = 0 then s.secu.slotA else s.secu.slotB
def State.setSlotTab (s : State) (k : Nat) (t : Tab Nat) : State :=
  s.setSecu (fun x => if k = 0 then { x with slotA := t } else { x with slotB := t })

/-- The 1,024 bytes of chunk `i`; erased flash reads 0xFF. -/
def chunkBytes (t : Tab Nat) (i : Nat) : List Nat := leBytes 1024 (t.getD i (2 ^ 8192 - 1))

/-- `n` bytes of a slot from chunk `i` on. -/
def slotBytes (t : Tab Nat) (i n : Nat) : List Nat := ((List.range (ceilDiv n 1024)).flatMap (fun k => chunkBytes t (i + k))).take n

/-- Byte `o` of a header, and a field of `n` bytes from it, most significant first (Table 15-7). -/
def hdrField (h : List Nat) (o n : Nat) : Nat := ofBe ((h.drop o).take n)

/-- MAGIC and HEADER_CRC are correct (R413). -/
def headerOk (h : List Nat) : Bool :=
  hdrField h 0 4 == 0x564F494D && hdrField h 124 4 == crc32 (h.take 124) && decide (hdrField h 12 4 ≤ 33550336)

/-- Why a slot does not verify (R413): 1 header, 2 hash, 3 signature, 4 rollback; 0 when it does. -/
def slotVerify (t : Tab Nat) (min : Nat) : Nat :=
  let h := chunkBytes t 0
  if !headerOk h then 1
  else if Config.sha512 (slotBytes t 4 (hdrField h 12 4)) ≠ ofLe ((h.drop 16).take 64) then 2
  else if !Config.pssVerify Config.firmwareKey (h.take 128) (ofLe ((h.drop 128).take 512)) then 3
  else if byteAt h 8 < min then 4 else 0

/-- The versions and rollback indices of both slots, from their headers.
Log: 131 DEDUCED. -/
def State.readHeaders (s : State) : State :=
  let one (s : State) (k : Nat) (v r : Obj) : State :=
    let h := chunkBytes (s.slotTab k) 0
    if headerOk h then (s.put v (hdrField h 4 4)).put r (byteAt h 8 : Nat) else (s.put v 0).put r 0
  one (one s 0 Sec.SLOT_A_VERSION Sec.SLOT_A_ROLLBACK) 1 Sec.SLOT_B_VERSION Sec.SLOT_B_ROLLBACK

/-- Rollback index of the running image. -/
def State.runningIndex (s : State) : Nat :=
  if s.nat Sec.RUNNING_SLOT = 0 then s.nat Sec.SLOT_A_ROLLBACK else s.nat Sec.SLOT_B_ROLLBACK

/-- The slot that is not running; in Recovery slot A (R414, R416). -/
def State.inactive (s : State) : Nat := if s.nat Sec.RUNNING_SLOT = 0 then 1 else 0

/-- The next boot record takes the place of the older copy (R413, R414). -/
def State.bootWrite (s : State) (pref : Nat) : State :=
  s.setSecu (fun x =>
    let n0 := match x.rec0 with | some e => e.1 + 1 | none => 0
    let n1 := match x.rec1 with | some e => e.1 + 1 | none => 0
    if n0 ≤ n1 then { x with rec0 := some (n1, pref) } else { x with rec1 := some (n0, pref) })

/-- The slot that the newer valid boot record prefers; without one, A.
Log: 130 DEDUCED. -/
def Secure.pref (x : Secure) : Nat :=
  match x.rec0, x.rec1 with
  | some a, some b => if b.1 ≤ a.1 then a.2 else b.2
  | some a, none => a.2
  | none, some b => b.2
  | none, none => 0

/-- R413, R416, R419, R449: phase 2. The boot records' copies may be damaged: `good0` and `good1` tell whether their CRCs hold.
Log: 11 DEDUCED, 130 DEDUCED, 132 DEDUCED. -/
def execSecureBoot (good0 good1 : Bool) (s : State) : Res :=
  live s (fun s =>
    if s.nat Sta.START_PHASE ≠ 2 then s
    else
      let s := s.setSecu (fun x => { x with rec0 := if good0 then x.rec0 else none, rec1 := if good1 then x.rec1 else none })
      let s := s.eraseKeys.readHeaders
      let p := s.secu.pref
      let s := s.put Sec.BOOT_PREF p
      let e := slotVerify (s.slotTab p) s.secu.rollback
      let f := slotVerify (s.slotTab (1 - p)) s.secu.rollback
      let s := match s.secu.failed with
        | some k => ((s.bump Sec.BOOT_FALLBACKS).event 0x9401 idSecurity [a8 k, a8 5]).setSecu (fun x => { x with failed := none })
        | none => s
      let boot (s : State) (k : Nat) : State :=
        (((s.put Sec.RUNNING_SLOT k).put Dic.FW_VERSION (s.get (if k = 0 then Sec.SLOT_A_VERSION else Sec.SLOT_B_VERSION))).phaseEnd 2 3)
      if e = 0 then boot (if s.secu.trialNext then s.put Sec.TRIAL 1 else s) p
      else
        let s := if f = 0 then (s.bump Sec.BOOT_FALLBACKS).event 0x9401 idSecurity [a8 p, a8 e] else s
        if f = 0 then boot s (1 - p)
        else
          let s := ((s.put Sec.RUNNING_SLOT 0xFF).put Sta.PHASE_END_MS s.msT0 0 1).powerTo pwRecovery
          { s with dict := { s.dict with ready := true } })

/-- R414 steps 1 and 2.
Log: 131 DEDUCED. -/
def execImageChunk (i : Nat) (data : Nat) (s : State) : Res :=
  live s (fun s =>
    let k := s.inactive
    let s := if s.nat Sec.INACTIVE_STATE = 1 then s else (s.setSlotTab k []).put Sec.INACTIVE_STATE 1
    let s := s.setSlotTab k ((s.slotTab k).ins (i % 32768) (data % 2 ^ 8192))
    s.readHeaders.result ImgChunk.IMAGE_CHUNK i rcOk)

/-- R414 step 3. -/
def execImageVerify (s : State) : Res :=
  live s (fun s =>
    let e := slotVerify (s.slotTab s.inactive) s.secu.rollback
    (s.readHeaders.put Sec.INACTIVE_STATE (if e = 0 then 2 else if e = 4 then 4 else 3)).result Sec.IMAGE_VERIFY 0 rcOk)

/-- R414 step 4, R416: the running slot may be named as well.
Log: 130 DEDUCED. -/
def execBootPrefWrite (v : Nat) (s : State) : Res :=
  live s (fun s =>
    if 1 < v then s.result Sec.BOOT_PREF 0 rcRange
    else if v ≠ s.nat Sec.RUNNING_SLOT ∧ (v ≠ s.inactive ∨ s.nat Sec.INACTIVE_STATE ≠ 2) then s.result Sec.BOOT_PREF 0 rcConsistency
    else
      let s := (s.bootWrite v).put Sec.BOOT_PREF v
      let trial := v != s.nat Sec.RUNNING_SLOT && s.nat Sec.RUNNING_SLOT != 0xFF
      (s.setSecu (fun x => { x with trialNext := trial })).result Sec.BOOT_PREF 0 rcOk)

/-- R414: the trial image is confirmed. -/
def execImageConfirm (s : State) : Res :=
  live s (fun s =>
    let s := if s.flag Sec.TRIAL then s.setSecu (fun x => { x with trialNext := false }) else s
    (s.put Sec.TRIAL 0).result Sec.IMAGE_CONFIRM 0 rcOk)

/-- R414: TRIAL_S passes without confirmation; the device restarts from the other slot.
Log: 130 DEDUCED. -/
def execTrialTimeout (s : State) : Res :=
  live s (fun s =>
    if s.flag Sec.TRIAL ∧ s.power.t0 + (s.nat Sec.TRIAL_S * secNs : Nat) ≤ (s.now : Int) then
      let k := s.nat Sec.RUNNING_SLOT
      let s := (s.bootWrite (1 - k)).setSecu (fun x => { x with trialNext := false, failed := some k })
      s.start 2 2
    else s)

/-- R415: the other slot's image, unless one is being written, can boot no longer when its index falls below.
Log: 130 DEDUCED, 131 DEDUCED. -/
def execRollbackCommit (s : State) : Res :=
  live s (fun s =>
    if s.flag Sec.TRIAL then s.result Sec.ROLLBACK_COMMIT 0 rcState
    else
      let n := s.runningIndex
      if s.nat Sec.RUNNING_SLOT = 0xFF ∨ n ≤ s.secu.rollback then s.result Sec.ROLLBACK_COMMIT 0 rcOk
      else
        let s := (s.setSecu (fun x => { x with rollback := n })).put Sec.ROLLBACK_MIN n
        let other := if s.inactive = 0 then s.nat Sec.SLOT_A_ROLLBACK else s.nat Sec.SLOT_B_ROLLBACK
        let st := s.nat Sec.INACTIVE_STATE
        let has : Bool := st == 2 || (st != 1 && headerOk (chunkBytes (s.slotTab s.inactive) 0))
        let s := if has ∧ other < n then s.put Sec.INACTIVE_STATE 4 else s
        (s.event 0x9406 idSecurity [a8 n]).result Sec.ROLLBACK_COMMIT 0 rcOk)

/-- Retained data are erased (Table 15-10): base, log, SRAM and the sealed section. -/
def State.eraseRetained (s : State) : State :=
  let s := ((s.put Dic.MGMT_KEY 0).put Sec.OWNER_DEBUG_KEY 0).put Sec.TIME_HWM 0
  { s with jpend := [], journal := {} }.put Dic.JOURNAL_PENDING 0

/-- An SPDM session over the twin link ends (R418). -/
def State.twinSpdmEnd (s : State) : State :=
  if s.secu.spdmTwin = 5 then (s.setSecu (fun x => { x with spdmTwin := 3 })).event 0x9407 idSecurity [a8 0, a8 1] else s

/-- A new lifecycle state (R418, R420). -/
def State.lifeTo (s : State) (l : Nat) : State :=
  let s := (s.setSecu (fun x => { x with lifecycle := l })).put Sec.LIFECYCLE l
  (s.event 0x9404 idSecurity [a8 l]).eraseKeys.sessionEnd.twinSpdmEnd

/-- R420: LIFECYCLE_CMD 1, from Factory alone; the debug level ends.
Log: 133 DEDUCED. -/
def execLifecycleSecure (s : State) : Res :=
  live s (fun s =>
    if s.secu.lifecycle ≠ 0 then s.result Sec.LIFECYCLE_CMD 0 rcState
    else ((s.lifeTo 1).debugTo 0 0).result Sec.LIFECYCLE_CMD 0 rcOk)

/-- R420: LIFECYCLE_CMD 2, from Factory or Secured with a permitting token.
Log: 133 DEDUCED. -/
def execLifecycleReturn (s : State) : Res :=
  live s (fun s =>
    if 1 < s.secu.lifecycle ∨ !s.secu.returnOk then s.result Sec.LIFECYCLE_CMD 0 rcState
    else (s.lifeTo 2).eraseRetained.result Sec.LIFECYCLE_CMD 0 rcOk)

/-- R420, R426: LIFECYCLE_CMD 3, from any other state; the identity key is erased and the debug level is None.
Log: 133 DEDUCED. -/
def execLifecycleRetire (s : State) : Res :=
  live s (fun s =>
    if s.secu.lifecycle = 3 then s.result Sec.LIFECYCLE_CMD 0 rcState
    else
      let s := ((s.lifeTo 3).eraseRetained.debugTo 0 0).setSecu (fun x => { x with idGone := true })
      s.result Sec.LIFECYCLE_CMD 0 rcOk)

/-- The first failing check of a token (R424), or 0.
Log: 134 DEDUCED. -/
def State.tokenCheck (s : State) (t : List Nat) : Nat :=
  let f (o n : Nat) : Nat := hdrField t o n
  let key := f 7 1
  let owner := s.nat Sec.OWNER_DEBUG_KEY
  let now := max (s.nat Sec.TIME_HWM) s.sec
  if f 0 4 ≠ 0x564F4454 ∨ f 4 1 ≠ 1 ∨ 1 < f 6 1 ∨ f 40 24 ≠ 0 ∨ f 5 1 = 0 ∨ 2 < f 5 1 ∨ 1 < key then 1
  else if key = 1 ∧ (owner = 0 ∨ f 6 1 = 1) then 2
  else if !Config.pssVerify (if key = 0 then Config.debugKey else owner) (t.take 64) (ofLe ((t.drop 64).take 512)) then 3
  else if ofLe ((t.drop 8).take 16) ≠ Config.serialNumber then 4
  else if now < f 24 8 ∨ f 32 8 ≤ now then 5
  else if s.secu.lifecycle = 3 ∨ s.nat Pwr.POWER_STATE = pwStart then 6
  else 0

/-- Result code of a failing check (R424).
Log: 134 DEDUCED. -/
def tokenCode (e : Nat) : Nat := if e = 1 then rcRange else if e = 2 then rcConsistency else rcLifecycle

/-- R422–R424: a token of 576 bytes from DEBUG_TOKEN or the TAP. -/
def execDebugToken (token : List Nat) (s : State) : Res :=
  live s (fun s =>
    let e := s.tokenCheck token
    if e ≠ 0 then (s.event 0x9403 idSecurity [a8 e]).result Sec.DEBUG_TOKEN 0 (tokenCode e)
    else
      let s := s.debugTo (byteAt token 5) (hdrField token 32 8)
      let s := if byteAt token 6 = 1 then s.setSecu (fun x => { x with returnOk := true }) else s
      (s.event 0x9402 idSecurity [a8 (byteAt token 5), a8 (byteAt token 7), a64 (hdrField token 32 8)]).result Sec.DEBUG_TOKEN 0 rcOk)

/-- R422: DEBUG_END. -/
def execDebugEnd (s : State) : Res := live s (fun s => (s.debugEnd 0 2).result Sec.DEBUG_END 0 rcOk)

/-- R424: the token in force reaches EXPIRY.
Log: 133 DEDUCED. -/
def execDebugExpiry (s : State) : Res :=
  live s (fun s =>
    let t := s.nat Sec.DEBUG_EXPIRY
    if t ≠ 0 ∧ t ≤ max (s.nat Sec.TIME_HWM) s.sec then s.debugEnd 0 1 else s)

/-- R424: once per hour.
Log: 156 DEDUCED. -/
def execTimeHwmSave (s : State) : Res :=
  live s (fun s => if s.now < s.journal.hwmAt ∨ s.journal.hwmAt + 3600 * secNs ≤ s.now then s.hwmSave else s)

/-- Progress of SPDM on a link: 0 DOE, 1 the twin link. -/
def State.spdm (s : State) (l : Nat) : Nat := if l = 0 then s.secu.spdmHost else s.secu.spdmTwin
def State.setSpdm (s : State) (l n : Nat) : State :=
  s.setSecu (fun x => if l = 0 then { x with spdmHost := n } else { x with spdmTwin := n })

/-- An SPDM response: its code, and its body as DSP0274 lays it out over what this device puts into it (R418).
Log: 135 PRESUMED. -/
def State.spdmSend (s : State) (code : Nat) (args : List Nat) : State := s.emit (.spdm code (Config.spdmBody code args))

/-- ERROR of DSP0274 with a code: 4 unexpected request, 6 decrypt error, 10 session limit.
Log: 135 PRESUMED. -/
def State.spdmErr (s : State) (code : Nat) : State := s.spdmSend 0x7F [code]

/-- R418: GET_VERSION starts anew, but for an open session.
Log: 135 PRESUMED. -/
def execSpdmGetVersion (l : Fin 2) (s : State) : Res :=
  live s (fun s => (if s.spdm l = 5 then s else s.setSpdm l 1).spdmSend 0x04 [0x12])

/-- R418. -/
def execSpdmGetCapabilities (l : Fin 2) (s : State) : Res :=
  live s (fun s => if s.spdm l = 1 then (s.setSpdm l 2).spdmSend 0x61 [l] else s.spdmErr 4)

/-- R418, Table 15-8. -/
def execSpdmNegotiateAlgorithms (l : Fin 2) (s : State) : Res :=
  live s (fun s => if s.spdm l = 2 then (s.setSpdm l 3).spdmSend 0x63 [l] else s.spdmErr 4)

/-- The owner chain of certificate slot 1 (R417): record object 0x9404. -/
def State.ownerChain (s : State) : List Nat :=
  (List.range 16).flatMap (fun i => leBytes 1024 (s.rnat OwnC.OWNER_CHAIN i))

/-- The chain of a certificate slot. -/
def State.chain (s : State) (slot : Nat) : List Nat := if slot = 0 then Config.certChain else if slot = 1 then s.ownerChain else []

/-- R417, R418. -/
def execSpdmGetDigests (l : Fin 2) (s : State) : Res :=
  live s (fun s =>
    if s.spdm l < 3 then s.spdmErr 4
    else s.spdmSend 0x01 [Config.sha512 Config.certChain, Config.sha512 s.ownerChain])

/-- R417, R418: a portion of a chain; a message holds at most 4 KiB, 8 bytes of them its header.
Log: 135 PRESUMED. -/
def execSpdmGetCertificate (l : Fin 2) (slot offset length : Nat) (s : State) : Res :=
  live s (fun s =>
    if s.spdm l < 3 then s.spdmErr 4
    else
      let b := ((s.chain slot).drop offset).take (min length 4088)
      s.spdmSend 0x02 (slot :: ((s.chain slot).length - offset - b.length) :: b))

/-- A signature of the device under its identity key; none once that is erased (R420). -/
def State.signed (s : State) (code : Nat) (args : List Nat) : State :=
  if s.secu.idGone then s.spdmErr 4 else s.spdmSend code (args ++ [Config.pssSign Config.identityKey args])

/-- R418: CHALLENGE, over the requester's nonce and the slot's chain. -/
def execSpdmChallenge (l : Fin 2) (slot : Nat) (nonce : Nat) (s : State) : Res :=
  live s (fun s => if s.spdm l < 3 then s.spdmErr 4 else s.signed 0x03 [slot, nonce, Config.sha512 (s.chain slot)])

/-- A measurement block (Table 15-9). -/
def State.measurement (s : State) (i : Nat) : Nat :=
  match i with
  | 1 => Config.sha512 Config.romImage
  | 2 =>
    let k := s.nat Sec.RUNNING_SLOT
    if k = 0xFF then 0 else ofLe (((chunkBytes (s.slotTab k) 0).drop 16).take 64)
  | 3 => s.nat Sec.LIFECYCLE + s.nat Sec.DEBUG_LEVEL * 256 + s.nat Sec.TRIAL * 65536
  | 4 => s.nat Sec.ROLLBACK_MIN
  | _ => Config.sha512 (Config.rdxFile (s.nat Dic.FW_VERSION))

/-- R418, Table 15-9: the number of blocks (index 0), one block, or all (0xFF); signed when asked. -/
def execSpdmGetMeasurements (l : Fin 2) (index : Nat) (sign : Bool) (nonce : Nat) (s : State) : Res :=
  live s (fun s =>
    if s.spdm l < 3 ∨ (5 < index ∧ index ≠ 0xFF) then s.spdmErr 4
    else
      let b := if index = 0 then [5] else if index = 0xFF then [1, 2, 3, 4, 5].map s.measurement else [s.measurement index]
      if sign then s.signed 0x60 (nonce :: b) else s.spdmSend 0x60 b)

/-- R418: at most one session on each link.
Log: 135 PRESUMED. -/
def execSpdmKeyExchange (l : Fin 2) (nonce : Nat) (s : State) : Res :=
  live s (fun s =>
    if s.spdm l = 5 then s.spdmErr 10
    else if s.spdm l < 3 ∨ s.secu.idGone then s.spdmErr 4
    else (s.setSpdm l 4).signed 0x64 [nonce])

/-- R418, R361: the session opens when the requester's verification holds; over DOE BAR4 is decoded from then on. -/
def execSpdmFinish (l : Fin 2) (verified : Bool) (s : State) : Res :=
  live s (fun s =>
    if s.spdm l ≠ 4 then s.spdmErr 4
    else if !verified then (s.setSpdm l 3).spdmErr 6
    else
      let s := (s.setSpdm l 5).setSecu (fun x => if l.val = 0 then { x with beatHost := s.now } else { x with beatTwin := s.now })
      let s := if l.val = 0 then s.put Hst.SEC_SESSION 1 else s
      ((s.bump Sec.SPDM_SESSIONS).event 0x9407 idSecurity [a8 1, a8 l.val]).spdmSend 0x65 [])

/-- R418. -/
def execSpdmHeartbeat (l : Fin 2) (s : State) : Res :=
  live s (fun s =>
    if s.spdm l ≠ 5 then s.spdmErr 4
    else (s.setSecu (fun x => if l.val = 0 then { x with beatHost := s.now } else { x with beatTwin := s.now })).spdmSend 0x68 [])

/-- A session of a link ends (R361, R418). -/
def State.spdmEnd (s : State) (l : Nat) : State := if l = 0 then s.sessionEnd else s.twinSpdmEnd

/-- R418: the heartbeat period of 60 s passes. -/
def execSpdmHeartbeatMissed (l : Fin 2) (s : State) : Res :=
  live s (fun s =>
    let t := if l.val = 0 then s.secu.beatHost else s.secu.beatTwin
    if s.spdm l = 5 ∧ t + 60 * secNs ≤ s.now then s.spdmEnd l else s)

/-- R418: the session keys stay within the security engine; the request is answered. -/
def execSpdmKeyUpdate (l : Fin 2) (s : State) : Res :=
  live s (fun s => if s.spdm l ≠ 5 then s.spdmErr 4 else s.spdmSend 0x69 [])

/-- R418. -/
def execSpdmEndSession (l : Fin 2) (s : State) : Res :=
  live s (fun s => if s.spdm l ≠ 5 then s.spdmErr 4 else (s.spdmEnd l).spdmSend 0x6C [])

/-- R425: an instruction of the TAP: 0 BYPASS, 1 IDCODE, 2 token register, 3 boundary scan, 4 debug access, 5 any other. -/
def execTapInstruction (ir : Fin 6) (s : State) : Res :=
  let ps := s.powerState
  let life := s.secu.lifecycle
  let offered : Bool := match ir.val with
    | 1 => true
    | 2 => true
    | 3 => (life == 0 || life == 2) && (ps == pwSnow || (ps == pwRecovery && s.power.coreOn))
    | 4 => s.power.coreOn && s.nat Sec.DEBUG_LEVEL == 2
    | _ => false
  let r := if offered then ir.val else 0
  always s (fun s => (s.setSecu (fun x => { x with tap := r })).emit (.tap r))

end Sys2Proof.Machine
end

