-- ==== Sys2Proof/Machine/FamTime.lean ====
section
/-! DEFINITION. The commands of the time unit (chapter 11). -/

namespace Sys2Proof.Machine

/-- An Announce message (R294): heard masters are kept by their port identity. -/
def State.ptpAnnounce (s : State) (k : Nat) (m : PtpMsg) (d : List Nat) : State :=
  let steps := beAt d 61 2
  if 255 ≤ steps then s
  else
    let old := (s.ptpX k).masters.find? (fun a => a.src == m.src)
    let a : Ann := { src := m.src, cls := byteAt d 48, acc := byteAt d 49, var := beAt d 50 2, prio2 := byteAt d 52,
                     gm := beAt d 53 8, steps := steps, at' := s.now, prev := old.map (fun a => a.at') }
    (s.updPtp k (fun x => { x with masters := a :: x.masters.filter (fun b => b.src != m.src) })).bmca

/-- The master that a port follows.
Log: 95 DEDUCED. -/
def State.ptpParent (s : State) (k src : Nat) : Bool :=
  s.time.follow == some k && s.nat Ptp.PARENT_ID == src

/-- R290, R292–R295: a PTP message taken at port `k` with its MAC time stamp (TS112) in 1/65,536 ns.
Log: 95 DEDUCED. -/
def execPtpRx (k : Fin 33) (msg : List Nat) (tMac : Nat) (s : State) : Res :=
  live s (fun s =>
    if !s.ptpOn k then s
    else
      let m := ptpMsg msg
      if !s.ptpOk m then s.bump PtpPort.PTP_RX_BAD k
      else
        let s := s.bump PtpPort.PTP_RX k
        let t : Int := tMac * fracTicks - ((s.ptpLat k).1 + s.get PtpPort.RX_ADJ_PS k) * psTicks
        match m.kind with
        | 11 => s.ptpAnnounce k m msg
        | 0 =>
          if !s.ptpParent k m.src then s
          else if m.twoStep then s.updPtp k (fun x => { x with twoStep := some (m.seq, t, m.corr) })
          else s.ptpMeasure k (m.stamp + m.corr) t
        | 8 =>
          (match (s.ptpX k).twoStep with
           | some (q, t2, c) =>
             if s.ptpParent k m.src ∧ q = m.seq then
               (s.updPtp k (fun x => { x with twoStep := none })).ptpMeasure k (m.stamp + m.corr + c) t2
             else s
           | none => s)
        | 9 =>
          (match (s.ptpX k).req, (s.ptpX k).sync with
           | some (q, t3), some (t1, t2) =>
             if s.ptpParent k m.src ∧ q = m.seq ∧ ofLe ((msg.drop 44).take 10) = Config.portIdentity k then
               (s.updPtp k (fun x => { x with req := none })).put PtpPort.MEAN_PATH_PS
                 (roundDiv (t2 - t1 + (m.stamp - m.corr - t3)) (2 * psTicks)) k
             else s
           | _, _ => s)
        | _ =>
          if s.nat PtpPort.PORT_STATE k = ptpMaster then
            (s.bump PtpPort.PTP_TX k).emit (.time 3 k [s.ptpDmac k, m.seq, m.src, roundDiv t fracTicks, roundDiv m.corr fracTicks])
          else s)

/-- R294: announceReceiptTimeout expires on a port. -/
def execPtpAnnounceTimeout (k : Fin 33) (s : State) : Res :=
  live s (fun s =>
    let x := s.ptpX k
    if !s.ptpOn k ∨ s.now < x.since + announceNs ∨ x.masters.all (fun a => decide (s.now < a.at' + announceNs)) && !x.masters.isEmpty
    then s
    else (s.updPtp k (fun x => { x with masters := x.masters.filter (fun a => decide (s.now < a.at' + announceNs)) })).bmca)

/-- R295, R289: the servo takes the offset that a Sync or a PPS_IN edge gave.
Log: 96 DESIGN CHOICE. -/
def execServoUpdate (s : State) : Res :=
  live s (fun s =>
    match s.time.theta with
    | none => s
    | some th =>
      let s := (s.put Tim.OFFSET_PS th).setTime (fun t => { t with theta := none })
      let a := th.natAbs
      let lock := s.nat Tim.LOCK_NS * 1000
      match s.nat Tim.SERVO_STATE with
      | 1 =>
        let run := if a < lock then s.time.inRun + 1 else 0
        let s := s.setTime (fun t => { t with inRun := run })
        if s.nat Tim.STEP_THRESH_NS * 1000 ≤ a then
          s.setTime (fun t => { t with stepIn := s.frame, stepBy := some th })
        else
          let s := s.servoSet th
          if 16 ≤ run then s.setServo svLocked else s
      | 2 =>
        let run := if 4 * lock < a then s.time.outRun + 1 else 0
        let s := s.setTime (fun t => { t with outRun := run })
        let s := s.servoSet th
        if 16 ≤ run then s.setServo svAcq else s
      | _ => s)

/-- R289: the requested correction is made at the first frame boundary after the request.
Log: 101 DEDUCED. -/
def execTimeStep (s : State) : Res :=
  live s (fun s =>
    if s.frame ≤ s.time.stepIn then s
    else
      match s.time.setTo with
      | some t => s.stepTo t (((s.now : Int) - t) * 1000)
      | none =>
        match s.time.stepBy with
        | some th => s.stepTo (((s.now : Int) - roundDiv th 1000) % timeMod).toNat th
        | none => s)

/-- A write of TIME_SET, in ns (R289): the result code and the state.
Log: 101 DEDUCED. -/
def State.timeSet (s : State) (t : Nat) : Nat × State :=
  if s.nat Tim.SERVO_STATE = svFree then (rcOk, s.setTime (fun x => { x with stepIn := s.frame, setTo := some t }))
  else (rcState, s)

/-- R289: TIME_SET. -/
def execTimeSet (t : Nat) (s : State) : Res :=
  live s (fun s => match s.timeSet (t % timeMod) with | (c, s) => s.result Tim.TIME_SET 0 c)

/-- R295: the holdover time reaches HOLDOVER_SPEC_S.
Log: 98 DEDUCED. -/
def execHoldoverSpecExpiry (s : State) : Res :=
  live s (fun s =>
    match s.time.lossAt with
    | some l => if s.nat Tim.SERVO_STATE = svHold ∧ l + s.nat Tim.HOLDOVER_SPEC_S * secNs ≤ s.now then s.setServo svHoldOut else s
    | none => s)

/-- R288, R300, R306, R308, and the FEEDER message of Table 12-4: a device second begins.
Log: 18 DEDUCED, 100 DEDUCED, 113 DEDUCED. -/
def execSecondBoundary (s : State) : Res :=
  live s (fun s =>
    if s.sec ≤ s.time.lastSec then s
    else
      let s := s.port.foldl (fun s e => s.flushWrong (e.1 / 2) (e.1 % 2)) s
      let run := s.nat Pwr.POWER_STATE
      let s := if run = 1 ∨ run = 2 then { s with power := { s.power with snowSecs := s.sec, snowValid := true } } else s
      let s := ((s.setTime (fun t => { t with lastSec := s.sec })).bump Dic.UPTIME_S).linkChanged
      let s := if s.sourceGone then s.sourceLost else s
      let s := if s.nat Tim.SERVO_STATE = svFree ∧ s.flag Pin.OUT_SQUELCH then s.emit (.pin .out10M 0)
        else ((s.emit (.pin .out10M 1)).emit (.pin .ppsOut 1)).emit (.time 0 0 [s.sec, s.get Pin.PPS_OUT_DELAY_PS, s.get Pin.PPS_WIDTH_MS])
      s.todAll.sendFeeder)

/-- R301, R302: a rising edge of PPS_IN at a device time in ps. -/
def execPpsInEdge (t : Nat) (s : State) : Res :=
  live s (fun s =>
    let c : Int := (t / 250 * 250 : Nat) - s.get Pin.PPS_IN_DELAY_PS
    let sec : Int := (2 * c + 1000000000000) / 2000000000000
    let th := c - sec * 1000000000000
    let run : Nat := if -1000000000 ≤ th ∧ th < 1000000000 then
        (if (s.time.ppsLast : Int) + 1 = sec then s.time.ppsRun + 1
         else if (s.time.ppsLast : Int) = sec then s.time.ppsRun else 1) else 0
    let s := s.setTime (fun x => { x with ppsLast := if 0 < run then sec.toNat else x.ppsLast, ppsRun := run })
    let s := if 3 ≤ run ∧ !s.flag Pin.PPS_IN_VALID then s.put Pin.PPS_IN_VALID 1 else s
    if s.nat Tim.TIME_SOURCE = 1 ∧ s.flag Pin.PPS_IN_VALID then
      s.sourceValid.setTime (fun x => { x with theta := some th })
    else s)

/-- R302: no edge fell in the windows of three consecutive seconds. -/
def execTimePpsInLost (s : State) : Res :=
  live s (fun s =>
    if s.flag Pin.PPS_IN_VALID ∧ (s.time.ppsLast + 3) * secNs + msNs ≤ s.now then
      let s := (s.put Pin.PPS_IN_VALID 0).setTime (fun x => { x with ppsRun := 0 })
      let s := s.event 0x8805 idTime []
      if s.nat Tim.TIME_SOURCE = 1 then s.sourceLost else s
    else s)

/-- R298: an ESMC message of a member gives its lanes a QL. -/
def execEsmcRx (i : Fin 32) (ql : Fin 16) (s : State) : Res :=
  live s (fun s =>
    let mode := s.nat Upl.MODE (i / 4)
    if mode = 5 ∨ !(modeMembers mode).contains (i % 4) ∨ !s.flag Mac.LINK i then s
    else
      ((lanesOf mode (i / 4) (i % 4)).foldl (fun s l =>
        s.updSync l (fun x => { x with ql := some ql.val, esmcAt := s.now })) s).syncRefresh)

/-- R298: a lane source has had no ESMC for 5 s. -/
def execEsmcTimeout (l : Fin 32) (s : State) : Res :=
  live s (fun s =>
    if (s.syncX l).ql.isSome ∧ (s.syncX l).esmcAt + 5 * secNs ≤ s.now then
      (s.updSync l (fun x => { x with ql := none })).syncRefresh
    else s)

/-- R298: a source has been valid for WTR_S. -/
def execSynceWtrExpiry (k : Fin 37) (s : State) : Res :=
  live s (fun s =>
    match (s.syncX k).validAt with
    | some t =>
      if t + s.nat SyE.WTR_S * secNs ≤ s.now then (s.updSync k (fun x => { x with ready := true })).syncRefresh else s
    | none => s)

/-- R298: 300 ms after the failure of the selected source. -/
def execSynceFailHoldoff (s : State) : Res :=
  live s (fun s =>
    match s.time.failAt with
    | some t =>
      if t + 300000000 ≤ s.now then
        let k := s.nat SyE.SELECTED
        let s := (s.updSync k (fun x => { x with ready := false })).setTime (fun x => { x with failAt := none })
        s.syncSelect s.syncBest
      else s
    | none => s)

/-- R298: ESMC on an Ethernet member, once per second or at once on a change.
Log: 99 PRESUMED. -/
def execEsmcTx (i : Fin 32) (s : State) : Res :=
  live s (fun s =>
    let mode := s.nat Upl.MODE (i / 4)
    if mode = 5 ∨ !(modeMembers mode).contains (i % 4) ∨ !s.flag Mac.LINK i then s
    else
      let sel := s.nat SyE.SELECTED
      let ql : Nat := if (lanesOf mode (i / 4) (i % 4)).contains sel then 15 else s.nat SyE.QL_OUT
      let due := match s.time.esmc.find? i with
        | some (t, q) => decide (t + secNs ≤ s.now) || q != ql
        | none => true
      if due then (s.setTime (fun x => { x with esmc := x.esmc.ins i (s.now, ql) })).emit (.time 4 i [ql]) else s)

/-- R290, R292: the time unit sends a message on port `k`; `tMac` is the delimiter's MAC time stamp (TS112) in 1/65,536 ns.
Log: 95 DEDUCED. -/
def execPtpMessageTx (k : Fin 33) (kind : PtpTx) (tMac : Nat) (s : State) : Res :=
  live s (fun s =>
    let x := s.ptpX k
    let st := s.nat PtpPort.PORT_STATE k
    let t : Int := tMac * fracTicks + ((s.ptpLat k).2 + s.get PtpPort.TX_ADJ_PS k) * psTicks
    let due (l : Option Nat) (n : Nat) : Bool := match l with
      | some l => decide (l + n ≤ s.now)
      | none => true
    if !s.ptpOn k then s
    else
      match kind with
      | .announce =>
        if st = ptpMaster ∧ due x.annAt 125000000 then
          ((s.updPtp k (fun x => { x with annAt := some s.now })).bump PtpPort.PTP_TX k).emit
            (.time 1 k [s.ptpDmac k, s.nat Ptp.DOMAIN, s.clockClass, s.get Ptp.PRIORITY2,
              if s.time.follow.isSome then s.time.gm else Config.clockIdentity,
              if s.time.follow.isSome then s.get Ptp.STEPS_REMOVED + 1 else 0, s.get Tim.UTC_OFFSET_S])
        else s
      | .sync =>
        if st = ptpMaster ∧ due x.syncAt 62500000 then
          ((s.updPtp k (fun x => { x with syncAt := some s.now })).bump PtpPort.PTP_TX k).emit (.time 2 k [s.ptpDmac k, roundDiv t fracTicks])
        else s
      | .delayReq =>
        if (st = ptpSlave ∨ st = ptpUncal) ∧ due x.reqAt 62500000 then
          let n := (x.seq + 1) % 65536
          ((s.updPtp k (fun x => { x with reqAt := some s.now, seq := n, req := some (n, t) })).bump PtpPort.PTP_TX k).emit
            (.time 5 k [s.ptpDmac k, n])
        else s)

end Sys2Proof.Machine
end

