-- ==== Sys2Proof/Machine/FamTm.lean ====
section
/-! DEFINITION. The commands of the traffic manager and its stores (chapter 9), but for PICK. -/

namespace Sys2Proof.Machine

/-- The decision that is taken next: the oldest, and among those of its clock and policer by R12 (R245). -/
def State.nextDecision (s : State) : Option Decision :=
  match s.tm.decisions with
  | [] => none
  | d :: _ =>
    if d.policer = 0 then some d
    else
      let c := s.tm.decisions.filter (fun e => e.at' == d.at' && e.policer == d.policer)
      match arbPick (s.arb.getD (arbPolicer d.policer) 0) (c.map (fun e => idPipe e.pipe)) with
      | some id => c.find? (fun e => idPipe e.pipe == id)
      | none => some d

/-- A cooperative hint message (R254, R255): its payload bytes, or none when it is bad. -/
def hintBody (d : Decision) : Option (List Nat) :=
  match d.udp with
  | none => none
  | some o =>
    let b := (d.pkt.data.drop o).take (beAt d.pkt.data (o - 4) 2 - 8)
    let n := byteAt b 1
    if byteAt b 0 = 1 ∧ 1 ≤ n ∧ n ≤ 16 ∧ 4 + 16 * n ≤ b.length then some b else none

/-- The context record of a path and Alloc-ID. -/
def State.ctxBy (s : State) (p c onu alloc : Nat) : Option Nat :=
  (s.records 0x5200).find? (fun r => s.rnat Ctx.PORT r == p && s.rnat Ctx.CHANNEL r == c &&
    s.rnat Ctx.ONU_ID r == onu && s.rnat Ctx.ALLOC_ID r == alloc)

/-- A hint packet is consumed (R254, R255). -/
def State.takeHint (s : State) (d : Decision) : State :=
  let s := s.bufDrop idTm false d.pkt.buf
  match d.dest, hintBody d with
  | .xgem r, some b =>
    if d.flood.isSome ∨ !s.hasRecord 0xA400 r ∨ 1023 ≤ s.rnat Xg.ONU_ID r then s.bump Tm.HINT_BAD
    else
      (List.range (byteAt b 1)).foldl (fun s i =>
        let o := 4 + 16 * i
        match s.ctxBy (s.rnat Xg.PORT r) (s.rnat Xg.CHANNEL r) (s.rnat Xg.ONU_ID r) (beAt b o 2) with
        | some x =>
          let h : Hint := { ctx := x, bytes := beAt b (o + 4) 4, tau := beAt b (o + 8) 8 * 1000 }
          { s with hintPosts := s.hintPosts ++ [h] }.bump Tm.HINTS_POSTED
        | none => s.bump Tm.HINT_NOCTX) s
  | _, _ => s.bump Tm.HINT_BAD

/-- The replication group of a packet (R251): the flood group, or the one bound to its downstream XGEM record. -/
def State.groupOf (s : State) (d : Decision) : Option Nat :=
  match d.flood with
  | some g => some g
  | none =>
    match d.dir, d.dest with
    | 0, .xgem r =>
      if r = 0x3FFFF then none
      else (s.written 0xB050).find? (fun g => s.rnat Repl.BOUND_XGEM g == r && s.rnat Repl.DIRECTION g == 0)
    | _, _ => none

/-- Members of a group with their destinations, ascending, without the packet's source location (R251). -/
def State.copiesOf (s : State) (g : Nat) (d : Decision) : List Dest :=
  if s.rnat Repl.DIRECTION g ≠ d.dir then []
  else
    ((s.records 0xB051).filter (fun m => s.rnat ReplMem.GROUP m == g)).map (fun m => destOf d.dir (s.rnat ReplMem.DEST m))
      |>.filter (fun x => match d.pkt.locType with
        | some lt => x.loc != (lt, d.pkt.srcLoc)
        | none => true)

/-- Bytes in a replay ring. -/
def Ring.bytes (r : Ring) : Nat := (r.items.map (fun e => e.2.2.length)).sum

/-- The ring without its oldest items beyond MAX_BYTES. -/
def trimRing (max : Nat) : Nat → Ring → Ring
  | 0, r => r
  | n + 1, r => if max < r.bytes then trimRing max n { r with items := r.items.drop 1 } else r

def State.setRing (s : State) (k : Nat) (r : Ring) : State :=
  { s with tm := { s.tm with rings := s.tm.rings.ins k r } }.rput Chan.STORED_BYTES k r.bytes

/-- Items older than WINDOW_MS leave the ring (R257). -/
def State.expireRing (s : State) (k : Nat) : State :=
  let r := s.tm.rings.getD k {}
  s.setRing k { r with items := r.items.filter (fun e => decide (s.now ≤ e.2.1 + s.rnat Chan.WINDOW_MS k * msNs)) }

/-- A packet of a group is recorded in the group's replay channel (R257). -/
def State.record (s : State) (g : Nat) (p : Pkt) : State :=
  if s.inTrim then s
  else ((s.written 0xB060).filter (fun k => s.rflag Chan.ENABLE k && s.rnat Chan.GROUP k == g)).foldl (fun s k =>
    let s := s.expireRing k
    let r := s.tm.rings.getD k {}
    let s := s.ddrAccess 1 (k + 2048 * r.next)
    let r := { r with next := r.next + 1, items := r.items ++ [(r.next, (s.now, p.data))] }
    s.setRing k (trimRing (s.rnat Chan.MAX_BYTES k) r.items.length r)) s

/-- One copy of a packet to one member (R251, R252). -/
def State.copyTo (s : State) (d : Decision) (colour : Nat) (x : Dest) : State :=
  let p := { d.pkt with shared := true }
  match s.findQueue d.dir x 1 0 d.cls with
  | (none, s) => s.bufDrop idTm true p.buf
  | (some q, s) => (s.accept d.dir q { pkt := p, colour := colour, cls := d.cls, dest := x }).2

/-- A replicated packet (R251, R252, R257): recorded, shared by its copies, or freed when it yields none. -/
def State.replicate (s : State) (g : Nat) (d : Decision) (colour : Nat) : State :=
  let s := s.record g d.pkt
  let l := s.copiesOf g d
  if l.isEmpty then (s.bump Tm.REPL_EMPTY).bufDrop idTm false d.pkt.buf
  else
    let s := s.bufTo idTm idRepl d.pkt.buf
    let s := match d.pkt.buf with
      | some b => s.bufAct idRepl b (.share (l.length + 1) idRepl)
      | none => s
    l.foldl (fun s x => s.copyTo d colour x) (s.bumpBy Tm.REPL_COPIES l.length)

/-- Policing of a decision: its colour, or none when the policer drops it (R244).
Log: 72 DEDUCED. -/
def State.policed (s : State) (d : Decision) : Option Nat × State :=
  match s.police d.policer d.pkt.len d.colour with
  | (c, s) =>
    if d.policer ≠ 0 ∧ 2 ≤ c ∧ s.rflag Pol.RED_DROP d.policer then
      (none, (s.rbump Pol.RED_DROPPED d.policer).bufDrop idTm false d.pkt.buf)
    else (some c, s)

/-- R243–R248, R251: the traffic manager takes the next enqueue decision.
Log: 72 DEDUCED. -/
def execEnqueueDecision (s : State) : Res :=
  live s (fun s =>
    match s.nextDecision with
    | none => s
    | some d =>
      let s := { s with tm := { s.tm with decisions := s.tm.decisions.erase d } }
      let s := if d.policer = 0 then s else s.grantedAt (arbPolicer d.policer) (idPipe d.pipe) d.at'
      if d.hint ∧ d.dir = 0 then s.takeHint d
      else
        match s.groupOf d with
        | some g =>
          (match s.policed d with
           | (none, s) => s
           | (some c, s) => s.replicate g d c)
        | none =>
          match s.findQueue d.dir d.dest d.queueSel d.queue d.cls with
          | (none, s) => s.bufDrop idTm false d.pkt.buf
          | (some q, s) =>
            match s.policed d with
            | (none, s) => s
            | (some c, s) => (s.accept d.dir q { pkt := d.pkt, colour := c, cls := d.cls, dest := d.dest }).2)

/-- FREEs of one clock with an allocation: requester and buffer. -/
def State.freeAll (s : State) (frees : List (Nat × Nat)) : State := frees.foldl (fun s e => s.bufAct e.1 e.2 .free) s

/-- The requesters of one clock at one pool, one granted in each clock under R12; the pointers go out. Buffers freed in the first of
these clocks are available from the second (R260).
Log: 6 DEDUCED. -/
def State.allocClock (s : State) (pool : Nat) (reqs : List Nat) (frees : List (Nat × Nat)) : State :=
  match arbOrder (s.arb.getD (arbPool pool) 0) reqs with
  | [] => s.freeAll frees
  | q :: t =>
    let first : Option Nat × State :=
      if 0 < s.poolFree pool then
        match s.alloc q pool with
        | (ptr, s) => (ptr, s.freeAll frees)
      else ((s.granted (arbPool pool) q).freeAll frees).spillUp pool (fun k' => State.allocIn q 7 k' true)
    t.foldl (fun s q =>
      match s.alloc q pool with
      | (ptr, s) => s.emit (.bufAlloc q pool ptr)) (first.2.emit (.bufAlloc q pool first.1))

/-- R234, R260: requesters of one clock at a pool. -/
def execBufAlloc (pool : Nat) (reqs : List Nat) (frees : List (Nat × Nat)) (s : State) : Res :=
  live s (fun s => s.allocClock pool reqs frees)

/-- R237–R239; `same`: other operations on the buffer in this clock. -/
def execBufHandover (req ptr id : Nat) (same : List (Nat × BufOp)) (s : State) : Res :=
  live s (fun s => s.bufClock ptr ((req, .handover id) :: same))

/-- R237–R239. -/
def execBufShare (req ptr k id : Nat) (same : List (Nat × BufOp)) (s : State) : Res :=
  live s (fun s => s.bufClock ptr ((req, .share k id) :: same))

/-- R237–R239. -/
def execBufRelease (req ptr : Nat) (same : List (Nat × BufOp)) (s : State) : Res :=
  live s (fun s => s.bufClock ptr ((req, .release) :: same))

/-- R237–R239. -/
def execBufFree (req ptr : Nat) (same : List (Nat × BufOp)) (s : State) : Res :=
  live s (fun s => s.bufClock ptr ((req, .free) :: same))

/-- Changes the first packet of a queue that satisfies `p`. -/
def updQ (p : QPkt → Bool) (f : QPkt → QPkt) : List QPkt → List QPkt
  | [] => []
  | x :: t => if p x then f x :: t else x :: updQ p f t

/-- The deep buffer of a packet lies on a channel that is awake (R32). -/
def State.deepReady (s : State) (x : QPkt) : Bool := x.pkt.buf.all (fun d => s.ddrReady 0 d)

/-- R247: the oldest deep write of a queue completes; its on-chip buffer is freed, or released when shared. A write to a channel
in self-refresh is held until the channel has woken (R32). -/
def execSpillWriteComplete (dir : Fin 2) (q : Nat) (s : State) : Res :=
  live s (fun s =>
    match (s.queue dir q).find? (fun x => x.writing) with
    | none => s
    | some x =>
      if !s.deepReady x then s
      else
      let s := { s with tm := { s.tm with staging := s.tm.staging - x.pkt.len } }
      let s := s.bufDrop idTm x.pkt.shared x.chip
      (s.setQueue dir q (updQ (fun x => x.writing)
        (fun x => { x with writing := false, chip := none, pkt := { x.pkt with shared := false } }) (s.queue dir q))).refill dir q)

/-- R247: the oldest deep read of a queue lands in a new on-chip buffer; without one it stays in deep memory. -/
def execRefillReadComplete (dir : Fin 2) (q : Nat) (s : State) : Res :=
  live s (fun s =>
    match (s.queue dir q).find? (fun x => x.reading && !x.writing) with
    | none => s
    | some x =>
      if !s.deepReady x then s
      else
      match s.allocBytes idTm false x.pkt.len with
      | (none, s) => s
      | (some b, s) =>
        let s := s.bufDrop idTm false x.pkt.buf
        let s := s.bump Tm.REFILLED
        (s.setQueue dir q (updQ (fun x => x.reading && !x.writing)
          (fun x => { x with deep := false, reading := false, pkt := { x.pkt with buf := some b } }) (s.queue dir q))).refill dir q)

/-- R253: a launch head still queued at the end of its window is dropped. -/
def execLaunchLate (dir : Fin 2) (q : Nat) (s : State) : Res :=
  live s (fun s =>
    match s.queue dir q with
    | [] => s
    | x :: t =>
      if s.rflag Queue.LAUNCH q dir ∧ s.windowAt dir q x + s.nat Tm.LAUNCH_LATE_NS * 65536 ≤ s.now * 65536 then
        (s.bump Tm.LAUNCH_LATE).dropQueued dir q x t
      else s)

/-- R257: items older than WINDOW_MS leave a replay ring. -/
def execReplayRingExpiry (k : Nat) (s : State) : Res := live s (fun s => s.expireRing k)

/-- R258, R402: JOIN_GO starts a replay of the channel's window.
Log: 82 DEDUCED. -/
def execJoinGo (s : State) : Res :=
  live s (fun s =>
    let k := s.nat Join.JOIN_CHANNEL
    let x := s.nat Join.JOIN_XGEM
    let q := match s.serviceOf x with
      | some svc => s.queueAt 0 svc (s.nat Join.JOIN_QINDEX)
      | none => none
    if s.inTrim then s.result Join.JOIN_GO 0 rcState
    else if !s.rflag Chan.ENABLE k then s.result Join.JOIN_GO 0 rcConsistency
    else
      match q with
      | none => s.result Join.JOIN_GO 0 rcConsistency
      | some q =>
        if 256 ≤ s.tm.replays.length then s.result Join.JOIN_GO 0 rcBusy
        else
          let w := s.rnat Chan.WINDOW_MS k * msNs
          let items := ((s.tm.rings.getD k {}).items.filter (fun e => decide (s.now ≤ e.2.1 + w) && decide (e.2.1 < s.now))).map
            (fun e => e.1)
          let r : Replay := { ch := k, q := q, xgem := x, kbps := s.nat Join.JOIN_KBPS, items := items, due := s.now }
          let s := if items.isEmpty then s else { s with tm := { s.tm with replays := s.tm.replays ++ [r] } }
          (s.put Join.REPLAYS_RUNNING s.tm.replays.length).result Join.JOIN_GO 0 rcOk)

/-- Replaces or removes a running replay. -/
def State.setReplay (s : State) (i : Nat) (r : Replay) : State :=
  let s := { s with tm := { s.tm with replays :=
    if r.items.isEmpty then s.tm.replays.eraseIdx i else s.tm.replays.set i r } }
  s.put Join.REPLAYS_RUNNING s.tm.replays.length

/-- R258: the replay at place `i` enqueues its next packet at its pace, or skips one that has left the ring.
Log: 80 DEDUCED, 144 DEDUCED. -/
def execReplayPacket (i : Nat) (s : State) : Res :=
  live s (fun s =>
    match s.tm.replays[i]? with
    | none => s
    | some r =>
      match r.items with
      | [] => s
      | id :: t =>
        if s.now < r.due then s
        else
          let s := s.expireRing r.ch
          match (s.tm.rings.getD r.ch {}).items.find? id with
          | none => (s.bump Join.REPLAY_SKIP).setReplay i { r with items := t }
          | some (_, data) =>
            let s := s.ddrAccess 1 (r.ch + 2048 * id)
            let s := s.setReplay i { r with items := t, due := r.due + data.length * tokByte / max 1 r.kbps }
            let p : Pkt := { data := data, srcType := 1, srcId := idTm, at' := s.now }
            if !s.hasRecord 0xB000 r.q ∨ !s.rflag Queue.ADMIN r.q then s.bump Join.REPLAY_DROP
            else
              match s.allocBytes idTm false data.length with
              | (none, s) => s.bump Join.REPLAY_DROP
              | (some b, s) =>
                match s.accept 0 r.q { pkt := { p with buf := some b }, colour := 0, dest := .xgem r.xgem } with
                | (true, s) => s
                | (false, s) => s.bump Join.REPLAY_DROP)

/-- R259, R256, R402: CAP_ARM 1 starts burst capture.
Log: 82 DEDUCED. -/
def execBurstCaptureArm (s : State) : Res :=
  live s (fun s =>
    if s.inTrim then s.result BCap.CAP_ARM 0 rcState
    else if s.nat DdrReg.ACTIVE_SIZE_MIB 2 = 0 then s.result BCap.CAP_ARM 0 rcConsistency
    else if s.flag BCap.CAP_ARM then s.result BCap.CAP_ARM 0 rcOk
    else
      let s := { s with tm := { s.tm with cap := [], capTrig := false, capAfter := 0 } }
      ((s.put BCap.CAP_COUNT 0).put BCap.CAP_ARM 1).result BCap.CAP_ARM 0 rcOk)

end Sys2Proof.Machine
end

