-- ==== Sys2Proof/Machine/FamUpl.lean ====
section
/-! DEFINITION. The commands of the uplink complex (chapter 10). -/

namespace Sys2Proof.Machine

/-- R264, R265: ENABLE 1. -/
def execGroupEnable (g : Fin 8) (s : State) : Res :=
  live s (fun s => match s.groupEnable g true with | (c, s) => s.result Upl.ENABLE 0 c g)

/-- R264, R265: ENABLE 0. -/
def execGroupDisable (g : Fin 8) (s : State) : Res :=
  live s (fun s => match s.groupEnable g false with | (c, s) => s.result Upl.ENABLE 0 c g)

/-- A group enters a state now. -/
def State.uplEnter (s : State) (g st : Nat) : State := (s.put Upl.STATE st g).updUplG g (fun x => { x with since := s.now })

/-- R265, R266: the uplink PLL has locked and the lanes have started; a member whose client MAC is not enabled sends ODU4 AIS (R277). -/
def execGroupLanesStarted (g : Fin 8) (s : State) : Res :=
  live s (fun s =>
    if s.nat Upl.STATE g ≠ upStarting then s
    else
      let s := s.put Pwr.PLL_LOCKED (setBits (s.nat Pwr.PLL_LOCKED) 2 2 1 : Nat)
      let s := s.emit (.uplink .squelch g 0)
      let s := (s.groupLanes g).foldl (fun s l => s.emit (s.laneStart l (s.flag Upl.TRAIN g && s.nat Upl.MODE g != 5))) s
      let s := if s.nat Upl.MODE g = 5 then
          (List.range 4).foldl (fun s m => if Config.macEnabled (4 * g + m) then s else s.emit (.uplink .ais (4 * g + m) 1)) s
        else s
      s.uplEnter g (if s.flag Upl.TRAIN g ∧ s.nat Upl.MODE g ≠ 5 then upTraining else upAligning))

/-- R265: all lanes are trained, before TRAIN_TIMEOUT_MS. -/
def execGroupTrained (g : Fin 8) (s : State) : Res :=
  live s (fun s =>
    if s.nat Upl.STATE g = upTraining ∧ s.now < (s.uplG g).since + s.nat Upl.TRAIN_TIMEOUT_MS g * msNs then
      s.uplEnter g upAligning
    else s)

/-- R265: TRAIN_TIMEOUT_MS has elapsed; `lane` is the first that failed to train. -/
def execUplTrainFail (g : Fin 8) (lane : Fin 32) (s : State) : Res :=
  live s (fun s =>
    if s.nat Upl.STATE g = upTraining ∧ (s.uplG g).since + s.nat Upl.TRAIN_TIMEOUT_MS g * msNs ≤ s.now then
      let s := (s.uplEnter g upFail).bump Upl.TRAIN_FAILS g
      (s.emit (.uplink .squelch g 1)).event 0x8001 (idUplink g) [a8 g, a8 lane]
    else s)

/-- R265: alignment completes. -/
def execGroupAligned (g : Fin 8) (s : State) : Res :=
  live s (fun s =>
    if s.nat Upl.STATE g = upAligning then
      let s := (s.uplEnter g upUp).put Upl.UP_TIME_MS ((s.now - (s.uplG g).enabledAt) / msNs : Nat) g
      s.groupLinks g
    else s)

/-- R265: a group in FAIL retries after 1 s. -/
def execGroupRetry (g : Fin 8) (s : State) : Res :=
  live s (fun s =>
    if s.nat Upl.STATE g = upFail ∧ (s.uplG g).since + secNs ≤ s.now then s.uplEnter g upStarting else s)

/-- R267–R272, R280: a frame on tributary `i`, without its FCS; `fecBad`: part of it came in an uncorrectable codeword.
Log: 84 DEDUCED. -/
def execMacRxFrame (i : Fin 32) (data : List Nat) (fcsOk fecBad : Bool) (s : State) : Res :=
  live s (fun s =>
    let len := data.length + 4
    if !s.tribUp i then s
    else if len < 64 then s.bump Mac.RX_UNDERSIZE i
    else if s.nat Mac.MAX_FRAME i < len then s.bump Mac.RX_OVERSIZE i
    else if fcsOk = false ∨ (fecBad ∧ s.flag Upl.FEC_ERR_IND (i / 4)) then s.bump Mac.RX_FCS i
    else if beAt data 12 2 = 0x8808 then s.bump Mac.RX_CONTROL i
    else
      let s := (s.bump Mac.RX_FRAMES i).bumpBy Mac.RX_BYTES len i
      let w : Nat := match s.protProtect i with
        | some j => s.nat Prot.WORKING j
        | none => i
      if s.tribOf w ≠ i ∨ s.timeTakes w data then s
      else
        match s.recovery data with
        | (none, s) => s
        | (some d, s) =>
          let g := w / 4
          s.arrive (s.pipeOfGroup g) { data := d, srcType := 0, srcPort := laneOf (s.nat Upl.MODE g) g (w % 4),
                                       srcId := idUplink g, srcLoc := w, at' := s.now })

/-- R268: the line conditions of a member's MAC change. -/
def execUplLinkDown (i : Fin 32) (lock localFault remoteFault : Bool) (s : State) : Res :=
  live s (fun s =>
    if s.memberUp i then
      let s := s.updMac i (fun _ => { lock := lock, localFault := localFault, remoteFault := remoteFault })
      s.refreshMember i
    else s)

/-- The layer after a condition has been seen at `now` (Table 10-6); durations in ns. -/
def OtnX.see (now : Nat) (x : OtnX) : OtnCond → OtnX
  | .transitions lane on => { x with los := x.los.upd lane {} (fun c => c.see now 10000 10000 (!on)) }
  | .markers lost skew => { x with lol := x.lol.see now 0 msNs (lost || decide (180 < skew)) }
  | .flexoFrame ok => { x with flof := x.flof.see now (3 * msNs) (3 * msNs) (!ok) }
  | .flexoMulti ok => { x with flom := x.flom.see now (3 * msNs) (3 * msNs) (!ok) }
  | .fas ok =>
    let r := x.fas.next ok
    { x with fas := r, lof := x.lof.see now (3 * msNs) (3 * msNs) (r.out x.lof.bad) }
  | .mfas ok =>
    let r := x.mfas.next ok
    { x with mfas := r, lom := x.lom.see now (3 * msNs) (3 * msNs) (r.out x.lom.bad) }
  | .bdi on =>
    if on then { x with bdiSince := x.bdiSince.or (some now) }
    else { x with bdiSince := none, bdiPast := (match x.bdiSince with
                                                | some t => (t, now) :: x.bdiPast
                                                | none => x.bdiPast) }
  | _ => x

/-- The defect bit of Table 10-7 that a condition governs, and its level. -/
def OtnX.bit (x : OtnX) : OtnCond → Nat × Bool
  | .transitions .. => (0, x.los.any (fun e => e.2.dfct))
  | .markers .. => (1, x.lol.dfct)
  | .flexoFrame _ => (2, x.flof.dfct)
  | .flexoMulti _ => (3, x.flom.dfct)
  | .fas _ => (4, x.lof.dfct)
  | .mfas _ => (5, x.lom.dfct)
  | .ais on => (6, on)
  | .bdi on => (8, on)
  | .payload pt => (9, pt != 7)
  | .oci on => (10, on)
  | .lck on => (11, on)

/-- R274, R276, R277: the receiver of layer `e` finds a condition, or finds it still so at the end of its duration; its defect is
declared or cleared.
Log: 90 DEDUCED. -/
def execOtnDefectChange (e : Fin 40) (cond : OtnCond) (s : State) : Res :=
  live s (fun s =>
    if !s.otnOn e ∨ !cond.fits e then s
    else
      let s := s.updOtn e (fun x => x.see s.now cond)
      let b := (s.otnX e).bit cond
      (s.setDefect e b.1 b.2).refreshSf e)

/-- R275: the 64-byte trace of a multiframe, byte 0 least significant; three equal ones in a row are accepted. The device's own trace goes
out in its multiframe. -/
def execTtiMultiframe (e : Fin 40) (tti : Nat) (s : State) : Res :=
  live s (fun s =>
    if !s.otnOn e then s
    else
      let s := s.emit (.trace e (s.txTrace e))
      let t := tti % 2 ^ 512
      let x := s.otnX e
      let run := if x.tti = t ∧ 0 < x.ttiRun then x.ttiRun + 1 else 1
      let s := s.updOtn e (fun x => { x with tti := t, ttiRun := run })
      if 3 ≤ run ∧ s.nat Otn.ACC_TTI (otnI e) (otnJ e) ≠ t then
        (s.put Otn.ACC_TTI t (otnI e) (otnJ e)).timEval e
      else s)

/-- The accepted range of Cm (R278). -/
def cmAccepted (layer cm : Nat) : Bool :=
  if layer = 0 then cm == 188 || cm == 189
  else
    decide (Config.cmNom * 999960 / 65536000000 ≤ cm) && decide (cm ≤ ceilDiv (Config.cmNom * 1000040) 65536000000)

/-- R278: a GMP period of member `i` in layer 0 OPU4 or 1 ODTUC4.20: received as `crcOk` and `cm`, sent as the client buffer's fill gives. -/
def execGmpPeriod (i : Fin 32) (layer : Fin 2) (crcOk : Bool) (cm fill : Nat) (s : State) : Res :=
  live s (fun s =>
    let s := if s.otnOn (8 + i) then s.emit (.gmp i layer (Config.gmpBytes layer (Config.gmpCm layer fill) ++ [0, 0, 0])) else s
    let e := 8 + i.val
    let x := s.otnX e
    let rej := if layer = 0 then x.rej0 else x.rej1
    let acc := if layer = 0 then x.acc0 else x.acc1
    let fail := if layer = 0 then x.fail0 else x.fail1
    let set (s : State) (rej acc : Nat) (fail : Bool) : State :=
      s.updOtn e (fun x => if layer = 0 then { x with rej0 := rej, acc0 := acc, fail0 := fail }
                           else { x with rej1 := rej, acc1 := acc, fail1 := fail })
    if !s.otnOn e then s
    else if crcOk && cmAccepted layer cm then
      let s := if layer = 0 then s.put Otn.CM_LAST cm i 1 else s.updOtn e (fun x => { x with cm1 := cm })
      (set s 0 (acc + 1) (fail && decide (acc + 1 < 3))).refreshSf e
    else
      let s := s.bump Otn.CM_REJECT i 1
      let f := fail || decide (3 ≤ rej + 1)
      let s := set s (rej + 1) 0 f
      let s := if f ∧ !fail then s.event 0x8004 (idUplink (i / 4)) [a8 i, a8 layer] else s
      s.refreshSf e)

/-- The last ten classified seconds up to `k` change to unavailable or available at one end (R279, R179). -/
def otnMarkTen (k : Nat) (far v : Bool) (t : Tab OtnSec) : Tab OtnSec :=
  t.map (fun e => if k < e.1 + 10 ∧ e.1 ≤ k then (e.1, if far then { e.2 with fUn := v } else { e.2 with nUn := v }) else e)

/-- R276, R277, R279: the next second of layer `e`: blocks received, violated bits of each errored one, and the non-zero BEI values
received. Each errored block's count goes back in BEI.
Log: 89 DEDUCED. -/
def execOtnPmSecond (e : Fin 40) (blocks : Nat) (bips beis : List Nat) (s : State) : Res :=
  live s (fun s =>
    let neErr := bips.length
    let feErr := (beis.filter (fun n => n != 0)).length
    let x := s.otnX e
    let k := x.nextSec
    if !s.otnOn e ∨ s.now < (k + 1) * secNs then s
    else
      let s := bips.foldl (fun s n => s.emit (.uplink .bei e n)) s
      let i := otnI e
      let j := otnJ e
      let sf := heldIn k x.sfSince x.sfPast
      let bdi := heldIn k x.bdiSince x.bdiPast
      let nSes := sf || (decide (0 < neErr) && decide (15 * blocks ≤ 100 * neErr))
      let fSes := bdi || (decide (0 < feErr) && decide (15 * blocks ≤ 100 * feErr))
      let r : OtnSec := { nEs := sf || decide (0 < neErr), nSes := nSes, nUn := x.nUn, nBb := neErr,
                          fEs := bdi || decide (0 < feErr), fSes := fSes, fUn := x.fUn, fBb := feErr }
      let nRun := if nSes then x.nSes + 1 else 0
      let nOk := if nSes then 0 else x.nOk + 1
      let fRun := if fSes then x.fSes + 1 else 0
      let fOk := if fSes then 0 else x.fOk + 1
      let secs := x.secs.ins k r
      let nEnter := !x.nUn && decide (10 ≤ nRun)
      let nExit := x.nUn && decide (10 ≤ nOk)
      let secs := if nEnter ∨ nExit then otnMarkTen k false nEnter secs else secs
      let fEnter := !x.fUn && decide (10 ≤ fRun)
      let fExit := x.fUn && decide (10 ≤ fOk)
      let secs := if fEnter ∨ fExit then otnMarkTen k true fEnter secs else secs
      let bad := sf || (decide (0 < neErr) && decide (s.nat Otn.DEG_THR_PCT i j * blocks ≤ 100 * neErr))
      let badRun := if bad then x.badRun + 1 else 0
      let goodRun := if bad then 0 else x.goodRun + 1
      let keep (l : List (Nat × Nat)) := l.filter (fun p => decide ((k + 1) * secNs < p.2))
      let s := s.updOtn e (fun x => { x with
        nextSec := k + 1, secs := secs, nSes := nRun, nOk := nOk, fSes := fRun, fOk := fOk,
        nUn := (x.nUn || nEnter) && !nExit, fUn := (x.fUn || fEnter) && !fExit,
        badRun := badRun, goodRun := goodRun, sfPast := keep x.sfPast, bdiPast := keep x.bdiPast })
      let m := s.nat Otn.DEG_M i j
      let deg := (s.defects e).testBit 12
      let s := if !deg ∧ m ≤ badRun then s.setDefect e 12 true else if deg ∧ m ≤ goodRun then s.setDefect e 12 false else s
      let s := if e.val < 8 then s else s.protOf (e - 8)
      if k < 10 then s else s.otnCommit e (k - 10))

/-- R281, R282: a far-end APS request that names a tributary (0 working, 1 protection).
Log: 86 DEDUCED. -/
def execApsReceived (j : Fin 16) (req : Fin 10) (trib : Fin 2) (s : State) : Res :=
  live s (fun s =>
    let bad := if s.nat Prot.TYPE j = 0 then req.val != 0
               else trib.val != selects req (s.flag Prot.REVERTIVE j) (s.nat Prot.SELECTED j)
    if bad then
      let s := (s.updProt j (fun x => { x with far := 0 })).bump Prot.APS_MISMATCH j
      (s.event 0x8007 (idUplink (s.nat Prot.WORKING j % 32 / 4)) [a8 j, a8 req]).protArbitrate j
    else if s.nat Prot.TYPE j = 0 then s
    else (s.updProt j (fun x => { x with far := req })).protArbitrate j)

/-- R281: the hold-off time of a defect has passed. -/
def execProtHoldoffExpiry (j : Fin 16) (s : State) : Res := live s (fun s => s.protRefresh j)

/-- R281: WTR_S has elapsed. -/
def execWtrExpiry (j : Fin 16) (s : State) : Res :=
  live s (fun s =>
    match (s.protX j).wtr with
    | some t =>
      if t + s.nat Prot.WTR_S j * secNs ≤ s.now then (s.updProt j (fun x => { x with wtr := none })).protArbitrate j else s
    | none => s)

/-- A value of COMMAND (R281): 0 clear, 1 LO, 2 FS, 3 MS, 4 EXER. -/
def State.protCommand (s : State) (j v : Nat) : State :=
  (s.updProt j (fun x =>
    match v with
    | 0 => { x with lo := false, fs := false, ms := false, exer := false }
    | 1 => { x with lo := true }
    | 2 => { x with fs := true }
    | 3 => { x with ms := true }
    | _ => { x with exer := true })).protArbitrate j

/-- R281: COMMAND 0. -/
def execProtCmdClear (j : Fin 16) (s : State) : Res :=
  live s (fun s => (s.protCommand j 0).result Prot.COMMAND 0 rcOk j)

/-- R281: COMMAND 1. -/
def execProtCmdLockout (j : Fin 16) (s : State) : Res :=
  live s (fun s => (s.protCommand j 1).result Prot.COMMAND 0 rcOk j)

/-- R281: COMMAND 2. -/
def execProtCmdForced (j : Fin 16) (s : State) : Res :=
  live s (fun s => (s.protCommand j 2).result Prot.COMMAND 0 rcOk j)

/-- R281: COMMAND 3. -/
def execProtCmdManual (j : Fin 16) (s : State) : Res :=
  live s (fun s => (s.protCommand j 3).result Prot.COMMAND 0 rcOk j)

/-- R281: COMMAND 4. -/
def execProtCmdExercise (j : Fin 16) (s : State) : Res :=
  live s (fun s => (s.protCommand j 4).result Prot.COMMAND 0 rcOk j)

/-- R284: the capacity has stayed below, or at or above, ESC_MIN_GBPS for ESC_HOLD_MS.
Log: 88 DEDUCED. -/
def execEscHoldExpiry (s : State) : Res :=
  live s (fun s =>
    let hold := s.nat Esc.ESC_HOLD_MS * msNs
    let done (t : Option Nat) : Bool := match t with
      | some t => decide (t + hold ≤ s.now)
      | none => false
    if s.flag Esc.ESC_ENABLE ∧ !s.flag Esc.ESC_ACTIVE ∧ done s.upl.escLow then
      let s := (s.put Esc.ESC_ACTIVE 1).bump Esc.ESCALATIONS
      (s.event 0x8009 (idUplink 0) [a8 1, a16 (s.get Esc.CAPACITY_GBPS)]).refreshFaults
    else if s.flag Esc.ESC_ACTIVE ∧ done s.upl.escOk then (s.put Esc.ESC_ACTIVE 0).refreshFaults
    else s)

end Sys2Proof.Machine
end

