-- ==== Sys2Proof/Machine/FamFramer.lean ====
section
/-! DEFINITION. The commands of framing, encryption and per-ONU monitoring (chapter 6), but for XGEM record writes. -/

namespace Sys2Proof.Machine

/-- The first frame of a LIT channel follows serialiser lock and the bias ramp (R41). -/
def State.startSending (s : State) (p c : Nat) : State :=
  let x := s.ch p c
  if s.chState p c = chLit ∧ x.serLock ∧ x.rampDone then s.updCh p c (fun x => { x with sending := true }) else s

/-- From its first frame a new active corrects the ranging of a twinned channel (R335): a broadcast relative Ranging_Time of
−RT_CORR_PS, and every EQD_PS lowered by it; an ONU whose EqD would leave [0, TEQD) is deactivated. -/
def State.rangingCorrection (s : State) (p c k : Nat) : State :=
  match s.twin.takeN with
  | some n =>
    if s.twinned p ∧ !s.standby p ∧ n ≤ k ∧ !s.twin.ranged.contains (chKey p c) then
      let rt := s.twin.oldRt.getD (chKey p c) 0
      let s := s.setTwin (fun t => { t with ranged := chKey p c :: t.ranged })
      let s := s.updAct p c (fun a => { a with msgs := { onu := 1023, kind := .rangingTime, arg := -rt, at' := s.now } :: a.msgs })
      (s.onusOf p c).foldl (fun s r =>
        let st := s.rnat Onu.STATE r
        if s.rget Onu.EQD_PS r = 0xFFFFFFFF ∨ st = onuEmpty ∨ st = onuDisabled then s
        else
          let e := s.rget Onu.EQD_PS r - rt
          if e < 0 ∨ s.teqd p ≤ e then s.deactivate r 2
          else (s.rputK Onu.EQD_PS r e).updOnu r (fun x => { x with eqdSent := x.eqdSent.map (fun v => v - rt) })) s
    else s
  | none => s

/-- A new active sends no frame of a twinned channel before its first frame n (R333, R334). -/
def State.frameHeld (s : State) (p k : Nat) : Bool :=
  match s.twin.takeN with
  | some n => s.twinned p && decide (k < n)
  | none => false

/-- A Key_Control leaves: its exchange is open from now (R168). -/
def State.controlSent (s : State) (p c : Nat) (m : Ploam) : State :=
  match m.kind, s.onuBy p c m.onu with
  | .keyControl, some r => s.updOnuF r (fun x => if x.exchange = 1 then { x with exchange := 2, controlAt := s.now } else x)
  | _, _ => s

/-- The activation engine's messages that leave in a frame (R160, R74): the oldest in the first slot; while an Assign_ONU-ID waits
behind it, those up to the last such message leave in the next slots.
Log: 53 DESIGN CHOICE. -/
def actSlots (slots : Nat) (l : List Ploam) : List Ploam :=
  let behind := (l.reverse.dropWhile (fun m => m.kind != .assignOnuId)).length
  l.take (min slots (max 1 behind))

/-- The transmit FIR and polarity of a channel in force (R40). -/
def State.txDrive (s : State) (p c : Nat) : TxDrive :=
  let pre := s.eff (if c = 0 then Pon.C0_TX_PRE else Pon.C1_TX_PRE) p
  let post := s.eff (if c = 0 then Pon.C0_TX_POST else Pon.C1_TX_POST) p
  { pre := pre, main := 64 - pre - post, post := post, swing := s.eff (if c = 0 then Pon.C0_TX_SWING else Pon.C1_TX_SWING) p,
    invert := s.flag Pon.TX_INVERT p c }

/-- Downstream frame k of a channel that sends: its map, its PLOAM messages with the activation engine's first, XGEM frames in the
room that is left, and idle bytes (R158 to R160). -/
def State.buildFrame (s : State) (p c k : Nat) : State :=
  let map := match (s.grantCh p c).handed with
    | some m =>
      if m.k = k then (m.placed c).map (fun e => (e.1, if e.2 = 0 then 0 else e.2 - (s.frameStart k * 1000 : Nat))) else []
    | none => []
  let slots := s.eff FrCfg.PLOAM_DS_MAX p
  let own := actSlots slots (s.actCh p c).msgs
  let s := s.updAct p c (fun a => { a with msgs := a.msgs.drop own.length })
  let s := own.foldl (fun s m => s.actSent p c k m) s
  let first := if own.isEmpty then [{}] else own
  let ready := (s.frCh p c).ploams.filter (fun m => decide (m.at' + 4 * usNs < s.frameStart k))
  let more := ready.take (slots - first.length)
  let s := s.updFr p c (fun x => { x with ploams := x.ploams.drop more.length })
  let s := more.foldl (fun s m => s.controlSent p c m) s
  let ploams := (first ++ more).map (fun m => s.ploamOut p c m)
  let room := frameData c - 4 - 8 * map.length - 48 * ploams.length
  let w := Fill.run p c k (2 * (s.frCh p c).staged.length + 1) { s := s, room := room }
  let s := ((w.s.bump FrSt.DS_FRAMES p c).bumpBy FrSt.DS_IDLE_BYTES w.room p c)
  let f : DsFrame := { k := k, ponId := Config.ponId p c, mapLen := 8 * map.length, ploamCount := ploams.length,
                       map := map, ploams := ploams, xgems := w.out.reverse, idle := w.room, drive := s.txDrive p c }
  s.emit (.dsFrame p c f (f.line c))

/-- R158–R164: the frame that starts at the boundary just reached; on a DARK channel none is built (R159).
Log: 53 DESIGN CHOICE. -/
def execDsFrameBuild (p : Fin 64) (c : Fin 2) (s : State) : Res :=
  live s (fun s =>
    let s := s.takeRole
    let k := s.frame
    if k < (s.frCh p c).nextFrame then s
    else
      let s := s.updFr p c (fun x => { x with nextFrame := k + 1 })
      let s := (s.latchKeys p c k).startSending p c
      if !(s.ch p c).sending ∨ s.frameHeld p k then s
      else
        (s.rangingCorrection p c k).buildFrame p c k)

/-- R160: a message of the control complex for the channel's PLOAM queue. -/
def execPloamPost (p : Fin 64) (c : Fin 2) (onu : Nat) (arg : Int) (s : State) : Res :=
  live s (fun s =>
    match s.ploamPost p c { onu := onu, kind := .host, arg := arg, at' := s.now } with
    | (code, s) => s.emit (.value code))

/-- The lowest record of the channel that waits for a first key (R167). -/
def State.firstMissing (s : State) (p c : Nat) : Option Nat :=
  (s.onusOf p c).find? (fun r => s.rnat Onu.STATE r == onuOperating && (s.onuF r).missing)

/-- R167: Key_Control is posted when the period has passed, an exchange was asked for, or no key is valid. -/
def execKeyControlDue (r : Nat) (s : State) : Res :=
  live s (fun s =>
    let p := s.rnat Onu.PORT r
    let c := s.rnat Onu.CHANNEL r
    let x := s.onuF r
    let period := s.eff FrCfg.KEY_PERIOD_S p
    let due := decide (period ≠ 0) && decide (x.controlAt + period * secNs ≤ s.now)
    let want := x.missing && s.firstMissing p c == some r
    if s.rnat Onu.STATE r ≠ onuOperating ∨ !s.hasRecord 0x4200 r ∨ x.exchange ≠ 0 ∨ !(due || x.rekey || want) then s
    else
      match s.ploamPost p c { onu := s.rnat Onu.ONU_ID r, kind := .keyControl, at' := s.now } with
      | (0, s) => s.updOnuF r (fun x => { x with exchange := 1, controlAt := s.now, rekey := false, missing := false })
      | (_, s) => s)

/-- R167, R168: the security engine takes an ONU's oldest Key_Report. -/
def execKeyReportReceived (r : Nat) (s : State) : Res :=
  live s (fun s =>
    match (s.onuF r).keyReports with
    | [] => s
    | m :: t =>
      let s := s.updOnuF r (fun x => { x with keyReports := t })
      if (s.onuF r).exchange ≠ 2 then s
      else if (s.onuF r).controlAt + 100 * msNs ≤ s.now then s.keyFail r
      else
        match Config.unwrapKey (Config.kekOf (s.mskFor r)) m with
        | none => s.keyFail r
        | some key => (s.installKey r key).updOnuF r (fun x => { x with exchange := 0, keyFails := 0 }))

/-- R168: no complete Key_Report within [Key_Control, Key_Control + 100 ms). -/
def execKeyExchangeTimeout (r : Nat) (s : State) : Res :=
  live s (fun s =>
    let x := s.onuF r
    if x.exchange = 2 ∧ x.controlAt + 100 * msNs ≤ s.now then s.keyFail r else s)

/-- Fields of a key message (Table 6-2). -/
structure KeyMsg where
  op : Nat := 0
  target : Nat := 0
  slot : Nat := 0
  delay : Nat := 0
  key : Nat := 0
  /-- A reserved byte, or a field that must be 0 for the opcode, is not 0. -/
  bad : Bool := false
  deriving DecidableEq, Repr

/--
Log: 49 DEDUCED. -/
def keyMsg (b : List Nat) : KeyMsg :=
  let op := byteAt b 0
  let le (o n : Nat) : Nat := ofLe ((b.drop o).take n)
  let slot := byteAt b 8
  let delay := le 12 4
  let key := le 16 16
  { op := op, target := le 4 4, slot := slot, delay := delay, key := key,
    bad := le 1 3 != 0 || le 9 3 != 0 || le 32 24 != 0 || (op != 1 && op != 3 && key != 0) ||
           ((op == 3 || op == 4) && slot != 0) }

/-- The checks that all key messages share (R169, R421): the sender, the lifecycle state and the debug level, the opcode and the
reserved bytes.
Log: 49 DEDUCED. -/
def State.keyCheck (s : State) (sender op : Nat) (m : KeyMsg) : Nat :=
  if sender ≠ idHost ∧ sender ≠ idSecurePart then rcSecureOnly
  else if 2 ≤ s.nat Sec.LIFECYCLE ∨ s.nat Sec.DEBUG_LEVEL = 2 then rcLifecycle
  else if m.op ≠ op ∨ m.bad then rcRange
  else if (op = 1 ∨ op = 2) ∧ (128 ≤ m.target ∨ m.slot = 0 ∨ 2 < m.slot) then rcRange
  else if op = 2 ∧ (m.delay < 16 ∨ 8000 < m.delay) then rcRange
  else rcOk

/-- The security engine's answer in the message's slot (R169, R353, R359): the result and the target, the rest erased. -/
def State.keyAnswer (s : State) (m k code target : Nat) : State :=
  let x := s.slot m k
  if s.stale x then (s.bump Mbx.MBX_STALE_REPLY m).freeSlot m k
  else
    let n := (s.mbxCh m).next
    let s := s.setSlot m k { x with st := 3, kind := 1, replier := idSecurity, length := 8, order := n,
                                    data := leBytes 4 code ++ leBytes 4 target ++ List.replicate 48 0 }
    (s.updMbx m (fun c => { c with next := n + 1 })).mbxCause m x.sender 1

/-- The oldest posted key message of a secure channel (R169, R361): opcodes 0x80 and above are dictionary requests. -/
def State.keyPosted (s : State) (m : Nat) : Option Nat := s.mbxOldest m (fun x => x.st == 1 && decide (byteAt x.data 0 < 0x80))

/-- The security engine takes the oldest key message of a channel, does what `act` says unless a check refuses it, and answers. A message
with another opcode of Table 6-2 is left to its own command. -/
def State.keyCommand (s : State) (m op : Nat) (act : KeyMsg → State → Nat × State) : State :=
  let s := s.mbxSweep m
  match s.keyPosted m with
  | none => s
  | some k =>
    let msg := keyMsg (s.slot m k).data
    if msg.op ≠ op ∧ 1 ≤ msg.op ∧ msg.op ≤ 4 then s
    else
      let e := s.keyCheck (s.slot m k).sender op msg
      let (e, s) := if e ≠ rcOk then (e, s) else act msg s
      s.keyAnswer m k e msg.target

/-- MCAST_LOAD: the key goes into the slot named, unless it is the active one (R166, R169). -/
def mcastLoad (k : KeyMsg) (s : State) : Nat × State :=
  let p := k.target / 2
  let c := k.target % 2
  if (s.frCh p c).active = k.slot then (rcState, s)
  else
    (rcOk, (s.updFr p c (fun x => if k.slot = 1 then { x with key1 := some k.key } else { x with key2 := some k.key })).bump
      FrDev.KEY_INSTALLS)

/-- R169, R166: MCAST_LOAD. -/
def execMcastLoad (m : Fin 8) (s : State) : Res := live s (fun s => s.keyCommand m 1 mcastLoad)

/-- MCAST_ACTIVATE: the slot named becomes active DELAY_FRAMES after the next boundary (R169). -/
def mcastActivate (k : KeyMsg) (s : State) : Nat × State :=
  let p := k.target / 2
  let c := k.target % 2
  let x := s.frCh p c
  if (if k.slot = 1 then x.key1 else x.key2).isNone then (rcConsistency, s)
  else (rcOk, s.updFr p c (fun x => { x with switch := some (s.frame + 1 + k.delay, k.slot) }))

/-- R169: MCAST_ACTIVATE. -/
def execMcastActivate (m : Fin 8) (s : State) : Res := live s (fun s => s.keyCommand m 2 mcastActivate)

/-- MSK_LOAD: a master session key for an ONU record (R169). -/
def mskLoad (k : KeyMsg) (s : State) : Nat × State :=
  if !s.hasRecord 0x4200 k.target then (rcNoRecord, s)
  else (rcOk, s.updOnuF k.target (fun x => { x with msk := some k.key }))

/-- R169: MSK_LOAD. -/
def execMskLoad (m : Fin 8) (s : State) : Res := live s (fun s => s.keyCommand m 3 mskLoad)

/-- REKEY: an exchange with an ONU is asked for (R167, R169). -/
def askRekey (k : KeyMsg) (s : State) : Nat × State :=
  if !s.hasRecord 0x4200 k.target then (rcNoRecord, s)
  else (rcOk, s.updOnuF k.target (fun x => { x with rekey := true }))

/-- R167, R169: REKEY asks for an exchange with an ONU at once. -/
def execRekey (m : Fin 8) (s : State) : Res := live s (fun s => s.keyCommand m 4 askRekey)

/-- R170, Table 6-3: an upstream PLOAM of the burst that started at `start` is checked and routed; one of a burst whose header check
failed is not used (Table 6-4). -/
def execUsPloam (p : Fin 64) (c : Fin 2) (onu start : Nat) (kind : UsPloam) (body : List Nat) (mic : Nat) (s : State) : Res :=
  live s (fun s =>
    if !(s.ch p c).good.contains (start, onu) then s
    else if !s.micOk p c onu body mic then s.bump FrSt.PLOAM_MIC_FAIL p c
    else
      match kind with
      | .keyReport =>
        (match s.onuBy p c onu with
         | some r => s.updOnuF r (fun x => { x with keyReports := x.keyReports ++ [body] })
         | none => s)
      | k => s.emit (.usPloam p c onu k (ofBe body)))

/-- R172, R173: an OMCI message of the transmit ring; `desc` is its descriptor on DMA channel 4. -/
def execOmciRequest (r : Nat) (prio : Fin 2) (ar : Bool) (tci : Nat) (body : List Nat) (desc : Nat) (s : State) : Res :=
  live s (fun s =>
    let done (s : State) (st res : Nat) : State := { s with tm := { s.tm with dmaDone := s.tm.dmaDone ++ [(4, desc, st, res)] } }
    if (s.omccOf r).isNone then done s 5 rcConsistency
    else if s.rnat Onu.STATE r ≠ onuOperating then done s 5 rcState
    else if ar = false then done (s.omciSend r body) 0 0
    else
      let l := (s.onuF r).omci prio
      if 5 ≤ l.length then done s 5 rcBusy
      else
        let s := (s.updOnuF r (fun x => x.setOmci prio (l ++ [{ tci := tci, body := body }])))
        let s := if l.isEmpty then s.omciNext r prio else s
        done (s.omciCount r) 0 0)

/-- R173: the outstanding request of a priority is sent again, or returned after OMCI_RETRIES. -/
def execOmciTimeout (r : Nat) (prio : Fin 2) (s : State) : Res :=
  live s (fun s =>
    match (s.onuF r).omci prio with
    | [] => s
    | q :: t =>
      let p := s.rnat Onu.PORT r
      if s.now < q.sentAt + s.eff FrCfg.OMCI_TIMEOUT_MS p * msNs then s
      else if q.sent ≤ s.eff FrCfg.OMCI_RETRIES p then
        let s := s.updOnuF r (fun x => x.setOmci prio ({ q with sent := q.sent + 1, sentAt := s.now } :: t))
        (s.bump FrDev.OMCI_RETRANSMITS).omciSend r q.body
      else
        let s := (s.bump FrDev.OMCI_FAILURES).toOmciRx { rcd := r, prio := prio, body := q.body, code := rcAborted, at' := s.now }
        s.omciPop r prio)

/-- R174: an upstream OMCI message.
Log: 52 DEDUCED. -/
def execOmciRx (r : Nat) (prio : Fin 2) (ak : Bool) (tci : Nat) (body : List Nat) (mic : Nat) (s : State) : Res :=
  live s (fun s =>
    let msg : OmciMsg := { rcd := r, prio := prio, body := body, at' := s.now }
    if Config.omciMic (Config.omciKeyOf (s.mskFor r)) body ≠ mic then
      s.bump FrSt.OMCI_MIC_FAIL (s.rnat Onu.PORT r) (s.rnat Onu.CHANNEL r)
    else if ak then
      match (s.onuF r).omci prio with
      | q :: _ => if q.tci = tci then (s.toOmciRx msg).omciPop r prio else s.bump FrDev.OMCI_DUP
      | [] => s.bump FrDev.OMCI_DUP
    else s.toOmciRx msg)

/-- R175, R176: a codeword of the burst that started at `start` is decoded: 0 correct, 1 corrected, 2 uncorrectable, with
the XGEM records whose frames it overlaps.
Log: 26 DEDUCED, 50 DEDUCED, 175 DESIGN CHOICE. -/
def execUsCodeword (p : Fin 64) (c : Fin 2) (r start : Nat) (outcome : Fin 3) (xgems : List Nat) (s : State) : Res :=
  live s (fun s =>
    if outcome = 0 then s.bump FrSt.US_CW_OK p c
    else if outcome = 1 then s.bump FrSt.US_CW_CORRECTED p c
    else
      let s := s.bump FrSt.US_CW_UNCORR p c
      let s := s.pmAdd r start (fun t => { t with c := t.c + 1 })
      let s := xgems.foldl (fun s x => if (s.reasm.getD x {}).st = 3 then s else { s with reasm := s.reasm.ins x { st := 2 } }) s
      match (s.ch p c).bursts.find? (fun b => b.n.start == start && !b.uncorr) with
      | none => s
      | some b =>
        let s := s.updBurst p c start (fun b => { b with uncorr := true })
        let s := s.pmAdd r start (fun t => { t with u := t.u + 1 })
        let s := (s.nonWholeBurst p c b.n.onu start).captureOutcome p c b 3
        if s.rnat Onu.STATE r = onuDisabled ∨ b.header ≠ .passed ∨ b.ended = false then s
        else (s.stepTally r start 0 1).trialCount r b.n.rate start 0 1)

/-- The XGEM record that an upstream frame of ONU record `r` may use (Table 6-4). -/
def State.usXgem (s : State) (p c r id : Nat) : Option Nat :=
  if s.hasRecord 0x4200 r ∧ s.rnat Onu.PORT r = p ∧ s.rnat Onu.CHANNEL r = c then
    (s.records 0xA400).find? (fun x => s.rnat Xg.PORT x == p && s.rnat Xg.CHANNEL x == c && s.rnat Xg.XGEM_ID x == id &&
      s.rflag Xg.ADMIN x && (s.rnat Xg.DIRECTION x).testBit 1 && s.rget Xg.ONU_ID x == s.rget Onu.ONU_ID r)
  else none

/-- Words of an idle XGEM frame with `len` payload bytes are counted for the usage record of its allocation (R175, R108). -/
def State.idleWords (s : State) (p c alloc start len : Nat) : State :=
  match (s.records 0x5200).find? (fun r => s.rnat Ctx.PORT r == p && s.rnat Ctx.CHANNEL r == c && s.rnat Ctx.ALLOC_ID r == alloc) with
  | some r => s.updCtx r (fun x => { x with idle := ((start, (8 + pad4 len) / 4) :: x.idle).take 4096 })
  | none => s

/-- R165, R175–R177: an upstream XGEM frame of ONU record `r`, in the section of Alloc-ID `alloc` of the burst that started at `start`;
`hec` is 0 correct, 1 corrected, 2 uncorrectable. A burst whose header check failed gives none, and an uncorrectable HEC ends the section
(Table 6-4).
Log: 50 DEDUCED. -/
def execUsXgemFrame (p : Fin 64) (c : Fin 2) (r start alloc : Nat) (hec : Fin 3) (id keyIndex : Nat) (lf : Bool) (data : List Nat)
    (s : State) : Res :=
  live s (fun s =>
    if !(s.ch p c).good.contains (start, s.rnat Onu.ONU_ID r) ∨ (s.ch p c).dead.contains (start, alloc) then s
    else if hec = 2 then
      ((s.bump FrSt.US_HEC_UNCORR p c).nonWholeBurst p c (s.rnat Onu.ONU_ID r) start).updCh p c
        (fun x => { x with dead := ((start, alloc) :: x.dead).take 1024 })
    else
      let s := if hec = 1 then s.bump FrSt.US_HEC_CORRECTED p c else s
      if id = 0xFFFF then s.idleWords p c alloc start data.length
      else
        match s.usXgem p c r id with
        | none => s.bump FrSt.US_XGEM_UNKNOWN p c
        | some x =>
          if keyIndex ≠ 0 then s.bump FrSt.US_ENCRYPTED_DROP p c
          else
            let s := s.reasmExpire p c x
            let m := s.reasm.getD x {}
            if m.st = 1 then
              if lf then ({ s with reasm := s.reasm.del x }).usPacket p c r x start (m.data ++ data)
              else { s with reasm := s.reasm.ins x { m with data := m.data ++ data } }
            else if m.st = 3 then
              if lf then { s with reasm := s.reasm.del x } else s.reasmFail p c x 3
            else if lf then ({ s with reasm := s.reasm.del x }).usPacket p c r x start data
            else if m.st = 2 ∨ 65536 ≤ s.reasmOpen then s.reasmFail p c x 3
            else { s with reasm := s.reasm.ins x { st := 1, data := data, since := s.now } })

/-- R176: REASM_TIMEOUT_US has passed since the first fragment. -/
def execReasmTimeout (x : Nat) (s : State) : Res :=
  live s (fun s => s.reasmExpire (s.rnat Xg.PORT x) (s.rnat Xg.CHANNEL x) x)

/-- Identification of an ONU in a framer event. -/
def State.pmArgs (s : State) (r : Nat) : List (Nat × Int) :=
  [a8 (s.rget Onu.PORT r), a8 (s.rget Onu.CHANNEL r), a16 (s.rget Onu.ONU_ID r), a32 r]

/-- Marks the last ten classified seconds up to `k` as unavailable or available (R179). -/
def markTen (k : Nat) (v : Bool) (t : Tab SecClass) : Tab SecClass :=
  t.map (fun e => if k < e.1 + 10 ∧ e.1 ≤ k then (e.1, { e.2 with unav := v }) else e)

/-- R178–R180: the next second of a record is classified once the bursts that start in it have their outcomes. -/
def execPmSecondClassify (r : Nat) (s : State) : Res :=
  live s (fun s =>
    let x := s.onuF r
    let k := x.nextSec
    if !s.hasRecord 0x4200 r ∨ s.now < (k + 1) * secNs ∨ s.outcomesOpen r (k + 1) then s
    else
      let t := x.secs.getD k {}
      let es := decide (1 ≤ t.l) || decide (1 ≤ t.c)
      let ses := decide (1 ≤ t.g) && decide (15 * t.g ≤ 100 * (t.l + t.u))
      let un := s.rflag OnuPm.UNAVAILABLE r
      let cl := x.classed.ins k { es := es || ses, ses := ses, unav := un, t := t }
      let sesRun := if ses then x.sesRun + 1 else 0
      let okRun := if ses then 0 else x.okRun + 1
      let s := s.updOnuF r (fun x => { x with nextSec := k + 1, secs := x.secs.filter (fun e => decide (k < e.1)),
                                              classed := cl, sesRun := sesRun, okRun := okRun })
      let p := s.rnat Onu.PORT r
      if !un ∧ 10 ≤ sesRun then
        let s := (s.rput OnuPm.UNAVAILABLE r 1).updOnuF r (fun x => { x with classed := markTen k true x.classed })
        s.event 0x5802 (idPort p) (s.pmArgs r ++ [aTime ((k - 9) * secNs : Nat)])
      else if un ∧ 10 ≤ okRun then
        let s := (s.rput OnuPm.UNAVAILABLE r 0).updOnuF r (fun x => { x with classed := markTen k false x.classed })
        s.event 0x5803 (idPort p) (s.pmArgs r ++ [aTime ((k - 9) * secNs : Nat)])
      else s)

def SecTally.add (a b : SecTally) : SecTally := { g := a.g + b.g, l := a.l + b.l, u := a.u + b.u, c := a.c + b.c }

/-- A threshold alert of the 15-minute bin (R180). -/
def State.tca (s : State) (r code : Nat) (th cnt : Obj) (done : Bool) : Bool × State :=
  let p := s.rnat Onu.PORT r
  let t := s.eff th p
  if t = 0 ∨ done ∨ s.rnat cnt r < t then (done, s)
  else (true, s.event code (idPort p) (s.pmArgs r ++ [aTime (s.rget OnuPm.BIN15_START r), a16 (s.rget cnt r)]))

/-- R180: the oldest classified second is committed at its start plus 11 s, in the bins that contain it. -/
def execPmSecondCommit (r : Nat) (s : State) : Res :=
  live s (fun s =>
    match (s.onuF r).classed with
    | [] => s
    | (k, x) :: rest =>
      if s.now < (k + 11) * secNs ∨ s.rnat OnuPm.BIN15_START r ≠ k / 900 * 900 * secNs ∨
          s.rnat OnuPm.BIN24_START r ≠ k / 86400 * 86400 * secNs then s
      else
        let s := s.updOnuF r (fun f => { f with classed := rest, bin15 := f.bin15.add x.t, bin24 := f.bin24.add x.t })
        let s := (s.rbumpBy OnuPm.BURSTS_GRANTED r x.t.g).rbumpBy OnuPm.BURSTS_LOST r x.t.l
        let s := (s.rbumpBy OnuPm.BURSTS_UNCORR r x.t.u).rbumpBy OnuPm.CW_UNCORR r x.t.c
        let s :=
          if x.unav then (s.rbump OnuPm.UAS_15M r).rbump OnuPm.UAS_24H r
          else
            let s := if x.es then (s.rbump OnuPm.ES_15M r).rbump OnuPm.ES_24H r else s
            if x.ses then (s.rbump OnuPm.SES_15M r).rbump OnuPm.SES_24H r else s
        let (d1, s) := s.tca r 0x5804 FrCfg.ES_TCA_15M OnuPm.ES_15M (s.onuF r).tcaEs
        let (d2, s) := s.tca r 0x5805 FrCfg.SES_TCA_15M OnuPm.SES_15M (s.onuF r).tcaSes
        s.updOnuF r (fun f => { f with tcaEs := d1, tcaSes := d2 }))

/-- A completed bin goes to history record `h` (R182); in Trim the last two of an ONU record are kept on chip (R402).
A history record is smaller than a line, so the line merger reads its line first; where that read is uncorrectable, the line stays as it
was and the read counts (R435, R440).
Log: 144 DEDUCED. -/
def State.history (s : State) (r h : Nat) (day : Bool) (bad : Option (Fin 8 × Nat)) (vals : List Int) : State :=
  if s.eff PmHist.PMH_ENABLE 0 = 0 then s
  else if s.inTrim then s.updOnuF r (fun f => { f with held := ((h, day, vals) :: f.held).take 2 })
  else
    match bad with
    | some b => (s.ddrRequest b.1).memUe (11 + b.1.val) b.2 15 (idPort (s.rnat Onu.PORT r))
    | none => s.historyPut h (historyObjs day) vals

/-- R180, R182: a bin becomes previous at its end plus 11 s; `day` tells the 24-hour bin from the 15-minute bin.
Log: 144 DEDUCED. -/
def execPmBinEnd (r : Nat) (day : Bool) (bad : Option (Fin 8 × Nat)) (s : State) : Res :=
  live s (fun s =>
    let len := if day then 86400 else 900
    let at' := s.rnat (if day then OnuPm.BIN24_START else OnuPm.BIN15_START) r
    let stop := at' + len * secNs
    let x := s.onuF r
    if !s.hasRecord 0x4200 r ∨ s.now < stop + 11 * secNs ∨ x.nextSec * secNs < stop ∨
        x.classed.any (fun e => decide (e.1 * secNs < stop)) then s
    else if day then
      let s := s.history r (r * 7 + at' / (len * secNs) % 7) true bad
        [at', s.rget OnuPm.ES_24H r, s.rget OnuPm.SES_24H r, s.rget OnuPm.UAS_24H r, x.bin24.g, x.bin24.l, x.bin24.u]
      let s := ((s.rput OnuPm.PREV_ES_24H r (s.rget OnuPm.ES_24H r)).rput OnuPm.PREV_SES_24H r (s.rget OnuPm.SES_24H r)).rput
        OnuPm.PREV_UAS_24H r (s.rget OnuPm.UAS_24H r)
      let s := ((s.rput OnuPm.ES_24H r 0).rput OnuPm.SES_24H r 0).rput OnuPm.UAS_24H r 0
      (s.rput OnuPm.BIN24_START r stop).updOnuF r (fun f => { f with bin24 := {} })
    else
      let s := s.history r (r * 96 + at' / (len * secNs) % 96) false bad
        [at', s.rget OnuPm.ES_15M r, s.rget OnuPm.SES_15M r, s.rget OnuPm.UAS_15M r, x.bin15.g, x.bin15.l, x.bin15.u]
      let s := ((s.rput OnuPm.PREV_ES_15M r (s.rget OnuPm.ES_15M r)).rput OnuPm.PREV_SES_15M r (s.rget OnuPm.SES_15M r)).rput
        OnuPm.PREV_UAS_15M r (s.rget OnuPm.UAS_15M r)
      let s := ((s.rput OnuPm.ES_15M r 0).rput OnuPm.SES_15M r 0).rput OnuPm.UAS_15M r 0
      (s.rput OnuPm.BIN15_START r stop).updOnuF r (fun f => { f with bin15 := {}, tcaEs := false, tcaSes := false }))

/-- R181: CLEAR_PM. -/
def execClearPm (r : Nat) (s : State) : Res :=
  live s (fun s =>
    if s.hasRecord 0x4200 r then (s.clearPm r).result OnuPm.CLEAR_PM r rcOk else s.result OnuPm.CLEAR_PM r rcNoRecord)

end Sys2Proof.Machine
end

