-- ==== Sys2Proof/Machine/FamPipe.lean ====
section
/-! DEFINITION. The commands of the packet pipelines and the forwarding unit (chapters 7 and 8). -/

namespace Sys2Proof.Machine

/-- R189, R27: the next packet that waits for the ingress FIFO of PL n is stored, dropped, or stays held; `link` is a packet that the twin
link brings in the same clock. -/
def execIngressArrival (n : Fin 8) (link : Option (List Nat)) (s : State) : Res := live s (fun s => (s.twinData n link).ingress n)

/-- R186: the head of the ingress FIFO is granted the input slot and makes its pass.
Log: 54 DESIGN CHOICE. -/
def execPipelinePass (n : Fin 8) (s : State) : Res :=
  live s (fun s =>
    if s.slotRecirc n then s
    else
      match (s.pipe n).ingress with
      | [] => s
      | p :: t =>
        let s := (s.updPipe n (fun x => { x with ingress := t, idleAt := s.now })).granted (arbSlot n) p.srcId
        let s := s.bump Pipe.PACKETS n
        s.pass n p (s.nat Cls.ACTIVE_BANK) none)

/-- R202: the head of the recirculation FIFO makes its second pass with its first pass's bank.
Log: 54 DESIGN CHOICE, 62 DEDUCED. -/
def execRecircPass (n : Fin 8) (s : State) : Res :=
  live s (fun s =>
    if s.slotRecirc n then
      match (s.pipe n).recirc with
      | [] => s
      | r :: t =>
        let waits := ((s.now, s.now - r.at') :: (s.pipe n).waits).filter (fun w => decide (s.now < w.1 + secNs))
        let s := (s.updPipe n (fun x => { x with recirc := t, idleAt := s.now, waits := waits })).granted (arbSlot n) (idPipe n)
        let s := s.bump Pipe.PASS2 n
        s.pass n r.pkt r.bank (some r)
    else s)

/-- R199, R200: beat 0–4 of an entry, by the BAR2 window. -/
def execRuleBeatWrite (bank : Fin 2) (r : Nat) (beat : Fin 5) (data : Nat) (s : State) : Res :=
  live s (fun s => (s.ruleBeat bank r beat data).2)

/-- R199, R200: beat 5 with VALID 1 commits the shadow, unless its action fails the checks. -/
def execRuleCommit (bank : Fin 2) (r action prio : Nat) (s : State) : Res :=
  live s (fun s => (s.beat5 bank r (action % 2 ^ 128 + prio % 65536 * 2 ^ 128 + 2 ^ 255)).2)

/-- R199, R200: beat 5 with VALID 0 invalidates the entry. -/
def execRuleInvalidate (bank : Fin 2) (r : Nat) (s : State) : Res := live s (fun s => (s.beat5 bank r 0).2)

/-- R201: SWAP, accepted only while idle. -/
def execSwap (s : State) : Res :=
  live s (fun s =>
    if s.nat Cls.SWAP_STATE ≠ 0 then s.result Cls.SWAP 0 rcBusy
    else
      let s := s.put Cls.ACTIVE_BANK (1 - s.get Cls.ACTIVE_BANK)
      let s := ((s.put Cls.SWAP_STATE 1).bump Cls.SWAPS).put Cls.LAST_SWAP_AT s.now
      s.inflight.result Cls.SWAP 0 rcOk)

/-- R203: the old bank has drained.
Log: 61 DEDUCED. -/
def execClsSwapDone (s : State) : Res :=
  live s (fun s =>
    if s.nat Cls.SWAP_STATE = 1 ∧ s.nat Cls.INFLIGHT_OLD = 0 then
      ((s.put Cls.SWAP_STATE 0).put Cls.LAST_DONE_AT s.now).event 0x6001 (idPipe 0) [a8 (1 - s.get Cls.ACTIVE_BANK)]
    else s)

/-- R205: an atomic write of an indirection entry; its reserved bits are 0. -/
def execIndirEntryWrite (i value : Nat) (s : State) : Res :=
  live s (fun s =>
    if bits value 30 20 ≠ 0 then s.result IndEnt.ENTRY i rcRange
    else (s.rput IndEnt.ENTRY i value).result IndEnt.ENTRY i rcOk)

/-- The way a promoted entry takes (R217): a free way, else one with STATIC 0 and AGED 1 or HIT 0, lower bucket first.
Log: 66 DEDUCED. -/
def State.promoteWay (s : State) (form key : Nat) : Option Nat :=
  let c := s.candidates false form key
  let bs := [min c.1 c.2, max c.1 c.2]
  match bs.findSome? (fun b => s.freeWay false b) with
  | some i => some i
  | none => (bs.flatMap (fun b => (List.range 4).map (fun w => b * 4 + w))).find? (fun i =>
      let e := s.fwd.ways.getD i {}
      !e.static && (e.aged || !e.hit))

/-- R217: the deep read of the oldest pending promotion completes. The displaced entry goes to deep memory first; where it finds no place
there, the promotion ends with no change.
Log: 65 DEDUCED, 66 DEDUCED. -/
def execPromotionComplete (s : State) : Res :=
  live s (fun s =>
    match s.fwd.promos with
    | [] => s
    | k :: t =>
      let s := { s with fwd := { s.fwd with promos := t } }
      match s.findWay true k.1 k.2 with
      | none => s
      | some j =>
        match s.promoteWay k.1 k.2 with
        | none => s
        | some i =>
          let e := s.fwd.far.getD j {}
          let moved := match s.fwd.ways.find? i with
            | none => some s
            | some o => (s.insertIn true o).map (fun (t : State) => t.markFar o.form o.key)
          match moved, (moved.getD s).findWay true k.1 k.2 with
          | some s, some j => ((s.putWay false i e).delWay true j).bump Fwd.PROMOTIONS
          | _, _ => s)

/-- R222, R223: a clock of the ring station PL n: its oldest message for another home goes one hop on, and the home handles its next one. -/
def execLearnMessage (n : Fin 8) (s : State) : Res := live s (fun s => ((s.ringHop n).homeTurn n false).2)

/-- R225: a quarantined entry is removed QUARANTINE_S after it entered quarantine. -/
def execQuarantineExpiry (form key : Nat) (s : State) : Res :=
  live s (fun s =>
    match s.findEntry form key with
    | some (far, i, e) =>
      if e.quar ∧ e.quarUntil ≤ s.now then s.delWay far i else s
    | none => s)

/-- R227: a LEARN frame of the twin peer goes to the key's home station. -/
def execLearnFrameRx (f : CtrlIn) (loc key timeNs : Nat) (s : State) : Res :=
  let m : Learn := { src := idPeer, locType := 0, loc := loc % 2 ^ 20, fromPeer := true, timeNs := timeNs % 2 ^ 32, key := key % 2 ^ 128 }
  ctrlRx f 5 0 (beBytes 32 { m with hash := homeHash 1 m.key }.word) s (fun s => s.sendLearn (s.homeOf 1 m.key) m)

/-- A pass visits every entry of a table in bucket order (R226).
Log: 67 DEDUCED. -/
def State.sweep (s : State) (far : Bool) : State :=
  let t := s.waysOf far
  let kept := t.filterMap (fun e => (visit e.2).map (fun x => (e.1, x)))
  (s.setWays far kept).bumpBy Fwd.AGED_OUT (t.length - kept.length)

/-- R226: an aging pass starts when it is due; in Trim it leaves deep memory out (R402).
Log: 67 DEDUCED. -/
def execAgingPassStart (s : State) : Res :=
  live s (fun s =>
    if s.now < s.fwd.passDue ∨ s.fwd.passing then s
    else
      let s := { s with fwd := { s.fwd with passing := true, passAt := s.now,
                                            passDue := s.fwd.passDue + s.nat Fwd.AGE_PERIOD_S * secNs } }
      if s.inTrim then s.sweep false else (s.sweep false).sweep true)

/-- R226: the pass ends; a pass that outlasted its period is counted, and the next may start.
Log: 67 DEDUCED. -/
def execAgingPassEnd (s : State) : Res :=
  live s (fun s =>
    if s.fwd.passing then
      let s := s.recomputeFar.put Fwd.LAST_PASS_MS ((s.now - s.fwd.passAt) / msNs : Nat)
      let late := decide (s.fwd.passDue ≤ s.now)
      let s := if late then s.bump Fwd.AGE_LATE else s
      { s with fwd := { s.fwd with passing := false } }
    else s)

/-- R231: FIND. -/
def execFwdFind (s : State) : Res :=
  live s (fun s =>
    match s.findEntry (s.nat FwdOp.OP_FORM) (s.nat FwdOp.OP_KEY) with
    | none => (s.put FwdOp.OP_FOUND 0).result FwdOp.OP_CODE 0 rcOk
    | some (far, _, e) =>
      let s := (s.put FwdOp.OP_FOUND (if far then 2 else 1)).put FwdOp.OP_FLAGS e.flags
      let s := ((s.put FwdOp.OP_LOC_TYPE e.locType).put FwdOp.OP_DEST e.dest).put FwdOp.OP_STATIC (if e.static then 1 else 0)
      s.result FwdOp.OP_CODE 0 rcOk)

/-- R231, R228: ADD, after the messages that reached the home station before it. -/
def execFwdAdd (s : State) : Res :=
  live s (fun s =>
    let s := s.hostTurn (s.nat FwdOp.OP_FORM) (s.nat FwdOp.OP_KEY)
    let form := s.nat FwdOp.OP_FORM
    let key := s.nat FwdOp.OP_KEY
    if (s.findEntry form key).isSome then s.result FwdOp.OP_CODE 0 rcDuplicate
    else
      match s.insert { form := form, key := key, locType := s.nat FwdOp.OP_LOC_TYPE, dest := s.nat FwdOp.OP_DEST,
                       static := s.flag FwdOp.OP_STATIC } with
      | (true, s) => s.result FwdOp.OP_CODE 0 rcOk
      | (false, s) => s.result FwdOp.OP_CODE 0 rcFull)

/-- R231, R228: DELETE, after the messages that reached the home station before it. -/
def execFwdDelete (s : State) : Res :=
  live s (fun s =>
    let s := s.hostTurn (s.nat FwdOp.OP_FORM) (s.nat FwdOp.OP_KEY)
    match s.findEntry (s.nat FwdOp.OP_FORM) (s.nat FwdOp.OP_KEY) with
    | none => s.result FwdOp.OP_CODE 0 rcNoRecord
    | some (far, i, _) => (s.delWay far i).result FwdOp.OP_CODE 0 rcOk)

/-- R231: FLUSH starts; a second one while it runs is refused. -/
def execFwdFlush (s : State) : Res :=
  live s (fun s =>
    match s.fwd.flush with
    | some _ => s.result FwdOp.OP_CODE 0 rcBusy
    | none =>
      { s with fwd := { s.fwd with flush := some (s.nat FwdOp.OP_LOC_TYPE, s.nat FwdOp.OP_DEST) } }.result FwdOp.OP_CODE 0 rcOk)

/-- R231: the FLUSH has removed every entry with STATIC 0 at its location. -/
def execFwdFlushComplete (s : State) : Res :=
  live s (fun s =>
    match s.fwd.flush with
    | none => s
    | some (lt, d) =>
      let keep (t : Tab FwdEnt) : Tab FwdEnt := t.filter (fun e => e.2.static || e.2.locType != lt || e.2.dest != d)
      let s := (s.setWays false (keep s.fwd.ways)).setWays true (keep s.fwd.far)
      { s with fwd := { s.fwd with flush := none } })

/-- R211: VALID 1 commits the shadow, unless another valid entry holds its FORM and KEY; HIT of the entry starts at 0. -/
def execAssocCommit (r : Nat) (s : State) : Res :=
  live s (fun s =>
    let twin := (s.od.filterMap (fun e => if e.1.index = 0xA600 ∧ e.1.sub = 6 ∧ e.2 = 1 then some e.1.recNo else none)).any
      (fun q => q != r && s.rget Assoc.FORM q == s.rget Assoc.FORM r && s.rget Assoc.KEY q == s.rget Assoc.KEY r)
    if twin then s.result Assoc.VALID r rcDuplicate
    else
      let s : State := { s with fwd := { s.fwd with assoc := s.fwd.assoc.ins r (s.fwd.assoc.getD r 0 % 2) } }
      ((s.rput Assoc.VALID r 1).noteCommit 0xA600 r).result Assoc.VALID r rcOk)

/-- R211: VALID 0 invalidates the entry. -/
def execAssocInvalidate (r : Nat) (s : State) : Res :=
  live s (fun s => (s.rput Assoc.VALID r 0).result Assoc.VALID r rcOk)

end Sys2Proof.Machine
end

