-- ==== Sys2Proof/Machine/OwnOps.lean ====
section
/-! DEFINITION. Writes at the owners of chapters 2 to 8: the checks of R372 step 9 and the effects. -/

namespace Sys2Proof.Machine

/-- The subindex is retained: class RWK, and RTAG_GEN of the generation records (R285). -/
def Obj.retained (o : Obj) : Bool := o.acc == .rwk || (o.index == 0xA910 && o.acc == .rw)

/-- A value accepted by its owner; a retained one waits for the journal (R387). -/
def State.store (s : State) (o : Obj) (i j r : Nat) (v : Int) : State :=
  let s := { s with od := s.od.put o i j r v }
  if o.retained then { s with jpend := o.addr i j r :: s.jpend }.bump Dic.JOURNAL_PENDING else s

/-- A value accepted that is in force from the next frame boundary (R65, R183). -/
def State.storeLag (s : State) (o : Obj) (i j r : Nat) (v : Int) : State :=
  let a := o.addr i j r
  let at' := s.frameStart (s.frame + 1)
  let old : Int := s.eff o i j
  { s.store o i j r v with lag := (a, old, at') :: s.lag.filter (fun e => e.1 != a && decide (s.now < e.2.2)) }

/-- The result code among what a command sent out. -/
def resultIn : List Out → Option Nat
  | [] => none
  | .result _ _ _ code :: _ => some code
  | _ :: t => resultIn t

/-- A command that answers at an owner's object, as the owner's part of a dictionary write: its code and the state, without the
answer itself. -/
def State.runOp (s : State) (f : State → Res) : Nat × State :=
  match f { s with out := [] } with
  | .next t =>
    ((resultIn t.out).getD rcOk,
      { t with out := t.out.filter (fun x => match x with | .result .. => false | _ => true) ++ s.out })
  | _ => (rcOk, s)

/-- The integers from `a` to `b`. -/
def spanList (a b : Nat) : List Nat := (List.range (b + 1 - a)).map (fun k => a + k)

/-- The subindices that the CLEAR object at a base index clears (R16). -/
def clearsOf (index sub : Nat) : List Nat :=
  match index, sub with
  | 0x3007, 0xFF => spanList 1 0x0B
  | 0x4040, 0xFF => spanList 2 0x0B
  | 0x5000, 0xFF => [2, 3]
  | 0x5080, 0xFF => spanList 1 0x0F
  | 0x3400, 0xFF => spanList 2 7
  | 0x3406, 0xFF => [1, 2, 3, 4, 7]
  | 0x1040, 0xFF => [3, 4, 5]
  | 0x2001, 0xFF => [2]
  | 0x2040, 0xFF => [4, 6]
  | 0x5840, 0xFF => spanList 1 0x12
  | 0x5900, 0xFF => spanList 1 5
  | 0x6010, 0xFF => [1, 2, 3, 5]
  | 0x6020, 0xFF => spanList 1 0xFE
  | 0x7001, 0xFF => spanList 3 0x11
  | 0xA800, 0xFF => [6, 7]
  | 0xA600, 0xFF => [7]
  | 0x7800, 0xFF => spanList 3 0x11
  | 0x7810, 0xFF => [6, 7, 8]
  | 0x7820, 0xFF => spanList 1 9
  | 0xB010, 0xFE => [0x10, 0x11]
  | 0xB000, 0xFE => spanList 0x12 0x17
  | 0xB020, 0xFE => spanList 7 0x0A
  | 0x8020, 0xFF => [7]
  | 0x8040, 0xFF => spanList 4 0x10
  | 0x9C10, 0xFF => spanList 2 9 ++ spanList 0x13 0x1A
  | 0xA900, 0xFF => spanList 6 0x0C
  | 0x8810, 0xFF => spanList 0x0B 0x0D
  | 0x8C01, 0xFF => 3 :: spanList 5 0x0F
  | 0x9000, 0xFF => [5, 7]
  | 0x9010, 0xFF => spanList 3 0x0A
  | 0x9050, 0xFF => spanList 1 6
  | 0x9068, 0xFF => spanList 1 5
  | 0x9069, 0xFF => spanList 1 3
  | 0x9800, 0xFF => [1, 2, 3]
  | 0x9810, 0xFF => [2, 3, 5]
  | _, _ => []

/-- The counters listed with a CLEAR object, cleared in one clock (R16); LOW_WATER starts again from FREE. -/
def State.clearCounters (s : State) (o : Obj) (i j r : Nat) : State :=
  let a := o.addr i j r
  (clearsOf o.index o.sub).foldl (fun s k =>
    match objAt a.index k with
    | some (x, i, j) =>
      let v := if x = Pool.LOW_WATER then s.get Pool.FREE i j else 0
      { s with od := s.od.put x i j r v }
    | none => s) s

/-- Kilobits per second admitted on a channel (R104). -/
def State.admitted (s : State) (p c : Nat) : Nat :=
  ((s.records 0x5200).map (fun r =>
    if s.rnat Ctx.PORT r = p ∧ s.rnat Ctx.CHANNEL r = c ∧ s.rflag Ctx.ADMIN r then
      s.rnat Ctx.FIXED_KBPS r + s.rnat Ctx.ASSURED_KBPS r else 0)).sum

/-- The admission limit of a channel. -/
def State.admitLimit (s : State) (p c : Nat) : Nat := s.nat (if c = 0 then GrCfg.ADMIT_C0_KBPS else GrCfg.ADMIT_C1_KBPS) p

/-- Port objects (R40, R45, R48, R52, R65, R66).
Log: 164 DESIGN CHOICE. -/
def State.ownPort (s : State) (o : Obj) (i j r : Nat) (v : Int) : Nat × State :=
  let held := s.get o i j == v || !(s.chState i j == chLit || s.chState i j == chDark)
  match o.index, o.sub with
  | 0x3001, 1 => s.runOp (fun s => .next (s.chCmd i j v.toNat))
  | 0x3001, 2 => if held then (rcOk, s.store o i j r v) else (rcState, s)
  | 0x3001, 3 => if held then (rcOk, s.store o i j r v) else (rcState, s)
  | 0x3001, 4 => if v < 2 * s.get Pon.WINDOW_NS i j then (rcConsistency, s) else (rcOk, s.store o i j r v)
  | 0x3001, 5 => if s.get Pon.GUARD_NS i j < 2 * v then (rcConsistency, s) else (rcOk, s.store o i j r v)
  | 0x3005, k => if bits v.toNat 161 160 ≠ (k - 1) then (rcConsistency, s) else (rcOk, s.store o i j r v)
  | 0x3006, _ => if bits v.toNat 161 160 ≠ 3 then (rcConsistency, s) else (rcOk, s.store o i j r v)
  | 0x300C, 1 =>
    if v = 0 then
      if s.nat Pon.TEST_MODE i = 2 then
        match s.draw with
        | (n, s) => s.runOp (execTestModeNone (Fin.ofNat 64 i) n.toNat)
      else s.runOp (execTestModeNone (Fin.ofNat 64 i) 0)
    else s.runOp (fun s => .next (s.testMode i v.toNat))
  | 0x300A, _ => (rcOk, s.storeLag o i j r v)
  | 0x300B, _ => (rcOk, s.storeLag o i j r v)
  | 0x300C, 2 => (rcOk, s.store o i j r v)
  | 0x3009, _ => (rcOk, s.storeLag o i j r v)
  | _, _ => (rcOk, s.store o i j r v)

/-- Calibration and optics objects (R132, R156, R157). -/
def State.ownCal (s : State) (o : Obj) (i j r : Nat) (v : Int) : Nat × State :=
  let s' := s.store o i j r v
  let above (lo hi : Obj) (k : Nat) : Bool :=
    s'.orModule hi i j k != 0 && decide (s'.orModule hi i j k ≤ s'.nat lo i j)
  let fin (bad : Bool) : Nat × State := if bad then (rcConsistency, s) else (rcOk, s')
  match o.index, o.sub with
  | 0x3401, 0x0A => fin (above Cal.BIAS_MIN_10UA Cal.BIAS_MAX_10UA 1)
  | 0x3401, 0x0B => fin (above Cal.BIAS_MIN_10UA Cal.BIAS_MAX_10UA 1)
  | 0x3401, 0x0E => fin (above Cal.MOD_MIN_10UA Cal.MOD_MAX_10UA 2)
  | 0x3401, 0x0F => fin (above Cal.MOD_MIN_10UA Cal.MOD_MAX_10UA 2)
  | 0x3401, 0x11 => (rcOk, if (s.optic i).reading then s' else s'.sbWrite i j 7 v)
  | 0x3408, 0x0A => (rcOk, if s.get o i = v then s' else s'.sendFeeder)
  | 0x3407, 2 => fin (decide (s'.get Cal.RXP_HIGH_CDB i - 200 < v))
  | 0x3407, 3 => fin (decide (v - 200 < s'.get Cal.RXP_LOW_CDB i))
  | 0xA100, 4 => s.runOp (execCoeffSetWrite r 0 v.toNat)
  | 0xA100, 5 => s.runOp (execCoeffSetWrite r 1 v.toNat)
  | 0xA100, 6 => s.runOp (execCoeffSetWrite r 2 v.toNat)
  | 0xA100, 7 => s.runOp (execCoeffSetWrite r 3 v.toNat)
  | 0xA100, 0xFE => s.runOp (execClearRxp r)
  | 0xA100, 0xFF => s.runOp (execCoeffInvalidate r v.toNat)
  | _, _ => (rcOk, s')

/-- Activation, grant and framer objects (R94, R104, R124, R125, R181–R183). -/
def State.ownPon (s : State) (o : Obj) (i j r : Nat) (v : Int) : Nat × State :=
  let s' := s.store o i j r v
  let fin (bad : Bool) (code : Nat) : Nat × State := if bad then (code, s) else (rcOk, s')
  match o.index, o.sub with
  | 0x4000, 9 => fin (s.chState i 0 != chOff || s.chState i 1 != chOff) rcState
  | 0x4000, 0x13 => fin (decide (s.get ActCfg.DRIFT_ALARM_PS i ≤ v)) rcConsistency
  | 0x4000, 0x14 => fin (decide (v ≤ s.get ActCfg.DRIFT_THRESH_PS i)) rcConsistency
  | 0x5040, 3 => fin (decide (v < s.admitted i 0)) rcConsistency
  | 0x5040, 4 => fin (decide (v < s.admitted i 1)) rcConsistency
  | 0x5100, 3 => if v = 1 then s.runOp execMapCaptureArm else (rcOk, s')
  | 0x5100, _ => fin (s.flag MapCap.CAP_ARM) rcBusy
  | 0x5800, _ => (rcOk, s.storeLag o i j r v)
  | 0xA300, 0xFF => s.runOp (execClearPm r)
  | 0x9C00, 1 => if v = 1 ∧ s.nat DdrReg.ACTIVE_SIZE_MIB 4 = 0 then (rcConsistency, s) else (rcOk, s.storeLag o i j r v)
  | _, _ => (rcOk, s')

/-- Beat 5 of a rule as the dictionary writes VALID (R199, R200).
Log: 150 DEDUCED. -/
def State.ruleValid (s : State) (bank r : Nat) (v : Int) : Nat × State :=
  if s.draining bank then (rcBusy, s)
  else if v = 0 then s.beat5 bank r 0
  else if s.rflag Rule.VALID r bank then (rcOk, s)
  else s.beat5 bank r (s.rnat Rule.ACTION r bank + s.rnat Rule.PRIORITY r bank * 2 ^ 128 + 2 ^ 255)

/-- Pipeline and forwarding objects (R200, R201, R205, R207, R211, R230, R231).
Log: 150 DEDUCED. -/
def State.ownPipe (s : State) (o : Obj) (i j r : Nat) (v : Int) : Nat × State :=
  let s' := s.store o i j r v
  let fin (bad : Bool) (code : Nat) : Nat × State := if bad then (code, s) else (rcOk, s')
  let dflt (bank : Nat) : Nat × State :=
    if s.draining bank then (rcBusy, s) else fin (defaultCheck v.toNat != rcOk) (defaultCheck v.toNat)
  match o.index, o.sub with
  | 0x6000, 2 => s.runOp execSwap
  | 0x6001, 1 => dflt 0
  | 0x6001, 2 => dflt 1
  | 0xA802, 1 => s.runOp (execIndirEntryWrite r v.toNat)
  | 0xA800, 5 => s.ruleValid i r v
  | 0xA800, 0xFF => if s.draining i then (rcBusy, s) else (rcOk, s.clearCounters o i j r)
  | 0xA800, k =>
    if s.rflag Rule.VALID r i then (rcState, s)
    else if s.draining i then (rcBusy, s)
    else if k = 3 then fin (actCheck v.toNat != rcOk) (actCheck v.toNat)
    else (rcOk, s')
  | 0x7000, 7 => fin (v == 1 && s.nat Fwd.FAR_BUCKETS == 0) rcConsistency
  | 0x7000, 9 => fin (!s.fwd.ways.isEmpty || !s.fwd.far.isEmpty) rcState
  | 0x7000, 0x0A => fin (!s.fwd.ways.isEmpty || !s.fwd.far.isEmpty) rcState
  | 0x7010, 1 => fin (i == 0 && v == 4) rcConsistency
  | 0x7010, 2 => fin (i == 0 && v == 4) rcConsistency
  | 0x7100, 6 =>
    if v = 1 then s.runOp execFwdFind else if v = 2 then s.runOp execFwdAdd else if v = 3 then s.runOp execFwdDelete
    else s.runOp execFwdFlush
  | 0xA600, 6 => if v = 1 then s.runOp (execAssocCommit r) else s.runOp (execAssocInvalidate r)
  | 0xA600, 0xFF => (rcOk, s.clearCounters o i j r)
  | 0xA600, _ => fin (s.rflag Assoc.VALID r) rcState
  | _, _ => (rcOk, s')

end Sys2Proof.Machine
end

