-- ==== Sys2Proof/Machine/OwnTm.lean ====
section
/-! DEFINITION. Writes at the owners of chapters 9 to 12: the checks of R372 step 9 and the effects. -/

namespace Sys2Proof.Machine

/-- Bytes that the regions of pools `a` to `b` take when pool `k` has count `n`: each on-chip region starts at a multiple of 16 KiB,
and a deep pool of count 0 takes its share of the spill region (R232, R236).
Log: 70 DEDUCED. -/
def State.poolBytes (s : State) (a b k n : Nat) : Nat :=
  (spanList a b).foldl (fun e i =>
    let c := if i = k then n else s.nat Pool.COUNT i
    (if 8 ≤ i then e else ceilDiv e 16384 * 16384) + (if 8 ≤ i ∧ c = 0 then s.deepShare i else s.nat Pool.SIZE i * c)) 0

/-- Traffic manager objects that are no records (R236, R258, R259).
Log: 69 DEDUCED. -/
def State.ownTm (s : State) (o : Obj) (i j r : Nat) (v : Int) : Nat × State :=
  let s' := s.store o i j r v
  let fin (bad : Bool) (code : Nat) : Nat × State := if bad then (code, s) else (rcOk, s')
  match o.index, o.sub with
  | 0x7810, 2 =>
    if i < 8 then fin (decide (188 * 1048576 < s.poolBytes 0 7 i v.toNat)) rcConsistency
    else fin (decide (s.nat DdrReg.ACTIVE_SIZE_MIB 0 * 1048576 < s.poolBytes 8 10 i v.toNat)) rcConsistency
  | 0x7810, 4 => fin (i == 0 || i == 8) rcConsistency
  | 0x7830, 5 => s.runOp execJoinGo
  | 0x7840, 8 => if v = 1 then s.runOp execBurstCaptureArm else (rcOk, s')
  | 0x7840, _ => fin (s.flag BCap.CAP_ARM) rcBusy
  | _, _ => (rcOk, s')

/-- ENABLE of the group that drives lane `l`: its own, or that of the 800GbE pair (R264). -/
def State.laneEnabled (s : State) (l : Nat) : Bool :=
  s.flag Upl.ENABLE (l / 4) || (s.partner (l / 4) && s.flag Upl.ENABLE (l / 4 - 4))

/-- Members that a protection group names. -/
def State.protNames (s : State) (j : Nat) : List Nat :=
  ([s.nat Prot.WORKING j, s.nat Prot.PROTECT j]).filter (fun m => decide (m < 32))

/-- WORKING, PROTECT or TYPE of protection group `j` (R283): judged as it would stand, then in force with its links.
Log: 91 DEDUCED. -/
def State.ownProt (s : State) (o : Obj) (j : Nat) (v : Int) : Nat × State :=
  let s' := s.store o j 0 0 v
  let w := s'.nat Prot.WORKING j
  let p := s'.nat Prot.PROTECT j
  let named := s'.protNames j
  if named.any (fun m => s.nat Upl.MODE (m / 4) != 5) ∨ (named.length = 2 ∧ w / 4 = p / 4) then (rcConsistency, s)
  else if (List.range 16).any (fun k => k != j && (s.protNames k).any (fun m => named.contains m)) then (rcDuplicate, s)
  else if s.nat Prot.REQUEST j ≠ 9 ∧ (s.protNames j).length = 2 then (rcState, s)
  else
    let s' := s'.updProt j (fun x => { x with sfP := none, sfW := none, sdP := none, sdW := none,
                                              rSfP := false, rSfW := false, rSdP := false, rSdW := false })
    let s' := s'.protRefresh j
    (rcOk, (s.protNames j ++ named).foldl (fun s m => s.refreshLink m) s')

/-- Uplink objects (R264, R265, R275, R277, R283–R285).
Log: 69 DEDUCED, 91 DEDUCED. -/
def State.ownUpl (s : State) (o : Obj) (i j r : Nat) (v : Int) : Nat × State :=
  let s' := s.store o i j r v
  let e := if j = 0 then i else 8 + i
  match o.index, o.sub with
  | 0x8000, 1 =>
    if s.flag Upl.ENABLE i then (rcState, s)
    else if v = 4 ∧ (4 ≤ i ∨ s.nat Upl.MODE (i + 4) ≠ 0) then (rcConsistency, s)
    else if s.partner i then (rcState, s)
    else (rcOk, s')
  | 0x8000, 2 => s.groupEnable i (v == 1)
  | 0x8020, 4 => if s.laneEnabled i then (rcState, s) else (rcOk, s')
  | 0x8020, 5 => if s.laneEnabled i then (rcState, s) else (rcOk, s')
  | 0x8080, 4 => (rcOk, s'.timEval e)
  | 0x8080, 5 => (rcOk, s'.timEval e)
  | 0x8080, 6 => (rcOk, s'.timEval e)
  | 0x8080, 7 => (rcOk, s'.timEval e)
  | 0x8080, 8 => (rcOk, s'.refreshSf e)
  | 0x80C0, 1 => s.ownProt o i v
  | 0x80C0, 2 => s.ownProt o i v
  | 0x80C0, 3 => s.ownProt o i v
  | 0x80C0, 8 => (rcOk, s.protCommand i v.toNat)
  | 0x80C0, _ => (rcOk, s'.protRefresh i)
  | 0x8100, _ => (rcOk, s'.refreshCap)
  | _, _ => (rcOk, s')

/-- Time objects (R289, R308). What PTP and SyncE configuration changes is in force from the next second boundary. -/
def State.ownTime (s : State) (o : Obj) (i j r : Nat) (v : Int) : Nat × State :=
  let s' := s.store o i j r v
  let fin (bad : Bool) (code : Nat) : Nat × State := if bad then (code, s) else (rcOk, s')
  match o.index, o.sub with
  | 0x8800, 2 => s.timeSet v.toNat
  | 0x8800, 0x0A => fin (decide (s.get Tim.STEP_THRESH_NS ≤ v)) rcConsistency
  | 0x8800, 0x0B => fin (decide (v ≤ s.get Tim.LOCK_NS)) rcConsistency
  | 0x8801, 1 => fin ((List.range 33).any (fun k => s.flag PtpPort.PTP_ENABLE k)) rcState
  | 0x8810, 1 => fin (v == 1 && decide (i < 32) && s.nat Upl.MODE (i / 4) == 5) rcConsistency
  | 0x8878, 6 => fin (decide (v < 32) && !s.laneEnabled v.toNat) rcConsistency
  | 0x8878, 7 => fin (decide (v < 32) && !s.laneEnabled v.toNat) rcConsistency
  | _, _ => (rcOk, s')

/-- TWIN_PORTS while the unit seeks (R314, R315): channels no longer twinned return to their targets, new ones keep theirs. -/
def State.twinPorts (s s' : State) : State :=
  let gone := s.twin.targets.filter (fun e => !s'.twinned (e.1 / 2))
  let kept (pc : Nat × Nat) : Nat × Nat :=
    (chKey pc.1 pc.2, s.twin.targets.getD (chKey pc.1 pc.2) (s'.nat Pon.CH_CMD pc.1 pc.2))
  let ts := s'.twinChannels.map kept
  let s' := s'.setTwin (fun t => { t with targets := ts })
  let s' := gone.foldl (fun s e =>
    if s.nat Pon.CH_CMD (e.1 / 2) (e.1 % 2) ≠ e.2 ∧ s.chCmdCheck (e.1 / 2) (e.1 % 2) e.2 = 0 then
      s.chCmdApply (e.1 / 2) (e.1 % 2) e.2 else s) s'
  s'.twinWrite 2 true

/-- Twin and legacy objects (R331–R333, R339–R343, R408).
Log: 109 DEDUCED. -/
def State.ownTwin (s : State) (o : Obj) (i j r : Nat) (v : Int) : Nat × State :=
  let s' := s.store o i j r v
  match o.index, o.sub with
  | 0x8C00, 1 =>
    if v = 1 ∧ s.flag Leg.LEGACY_ENABLE then (rcConsistency, s)
    else if v = 1 ∧ !s.flag Twin.TWIN_ENABLE then (rcOk, s'.twinSeek.refreshFaults)
    else if v = 0 ∧ s.flag Twin.TWIN_ENABLE then (rcOk, (s.twinOff.store o i j r v).refreshFaults)
    else (rcOk, s')
  | 0x8C00, 2 =>
    if 2 < s.nat Twin.STATE then (rcState, s)
    else if s.nat Twin.STATE = 0 then (rcOk, s'.refreshFaults)
    else (rcOk, (s.twinPorts s').refreshFaults)
  | 0x8C00, 0x0E =>
    match v with
    | 1 => s.twinSwitch
    | 2 => s.twinForce
    | 3 => (rcOk, s.clearSuspect)
    | 4 => s.twinResync
    | _ => s.runOp execLegacyTakeover
  | 0x8C00, 0x0F => (rcOk, s'.refreshFaults)
  | 0x8C10, 1 =>
    if v = 1 ∧ (s.flag Twin.TWIN_ENABLE ∨ s.nat DdrReg.ACTIVE_SIZE_MIB 5 = 0) then (rcConsistency, s)
    else if v = 1 ∧ !s.flag Leg.LEGACY_ENABLE then (rcOk, s'.legacyHold)
    else if v = 0 ∧ s.flag Leg.LEGACY_ENABLE then (rcOk, s'.twinState 0)
    else (rcOk, s')
  | 0x8C11, _ =>
    if v < 64 ∧ (List.range 32).any (fun k => k != j && s.get Leg.LEGACY_PORT_MAP 0 k == v) then (rcDuplicate, s)
    else (rcOk, if s.nat Twin.STATE = 9 then s'.legacyHold else s')
  | _, _ => (rcOk, s')

end Sys2Proof.Machine
end

