-- ==== Sys2Proof/Machine/OwnSys.lean ====
section
/-! DEFINITION. Writes at the owners of chapters 13 to 17: the checks of R372 step 9 and the effects. -/

namespace Sys2Proof.Machine

/-- Least size of a deep-memory region (Table 15-5). -/
def regionMin (j : Nat) : Nat := match j with | 0 => 64 | 4 => 78 | 5 => 16 | _ => 1

/-- The layout that SIZE_MIB and CH_MASK describe holds in the channels found (R408): each region in the channels of its mask, and
64 MiB left for spill. A region whose mask names no fitted channel takes nothing (R407). -/
def State.layoutFits (s : State) : Bool :=
  let fit := s.nat Pwr.CH_FITTED
  let cap (k : Nat) : Nat := s.nat Pwr.CH_SIZE_GIB 0 k * 1024 * 840
  let use (k : Nat) : Nat := s.taken fit (fun i => s.nat DdrReg.SIZE_MIB i) k
  let free : Nat := ((s.regionOn fit 0).map (fun k => cap k - use k)).sum
  (List.range 8).all (fun k => decide (use k ≤ cap k)) && decide (64 * 840 ≤ free)

/-- Power objects (R399, R408, R450).
Log: 69 DEDUCED. -/
def State.ownPower (s : State) (o : Obj) (i j r : Nat) (v : Int) : Nat × State :=
  let s' := s.store o i j r v
  let fin (bad : Bool) (code : Nat) : Nat × State := if bad then (code, s) else (rcOk, s')
  match o.index, o.sub with
  | 0x2000, 2 => s.runOp (fun s => .next (s.powerCmd v.toNat))
  | 0x2020, 1 =>
    if i = 0 then (rcOk, s')
    else fin ((decide (v < regionMin i) && v != 0) || !s'.layoutFits) rcConsistency
  | 0x2020, 2 => fin (!s'.layoutFits) rcConsistency
  | 0x2030, 3 => fin (decide (s.get Sta.WAVE_MAX_MS ≤ v)) rcConsistency
  | 0x2030, 4 => fin (decide (v ≤ s.get Sta.WAVE_MIN_MS)) rcConsistency
  | _, _ => (rcOk, s')

/-- Host interface objects (R352). -/
def State.ownHost (s : State) (o : Obj) (i j r : Nat) (v : Int) : Nat × State :=
  let s' := s.store o i j r v
  match o.index, o.sub with
  | 0x9010, 1 => if (s.mbxCh i).slots.isEmpty then (rcOk, s') else (rcState, s)
  | 0x9010, 2 => if (s.mbxCh i).slots.isEmpty then (rcOk, s') else (rcState, s)
  | 0x9060, _ => (rcOk, s.irqStep (80 + (32 * i + j) / 8) (fun s => s.store o i j r v))
  | _, _ => (rcOk, s')

/-- Security objects (R414–R424).
Log: 153 DEDUCED. -/
def State.ownSec (s : State) (o : Obj) (i j r : Nat) (v : Int) : Nat × State :=
  let s' := s.store o i j r v
  match o.index, o.sub with
  | 0x9400, 2 =>
    if v = 1 then s.runOp execLifecycleSecure else if v = 2 then s.runOp execLifecycleReturn else s.runOp execLifecycleRetire
  | 0x9400, 4 => s.runOp (execDebugToken (leBytes 576 v.toNat))
  | 0x9400, 6 => s.runOp execDebugEnd
  | 0x9400, 8 => (rcOk, s'.setJournal (fun j => { j with ownerKey := v }))
  | 0x9401, 2 => s.runOp (execBootPrefWrite v.toNat)
  | 0x9401, 8 => s.runOp execRollbackCommit
  | 0x9401, 0x0A => s.runOp execImageConfirm
  | 0x9401, 0x0C => s.runOp execImageVerify
  | 0x9402, _ => s.runOp (execImageChunk r v.toNat)
  | 0x9403, 3 => (rcOk, s.store OwnC.OWNER_CHAIN 0 0 0 v)
  | _, _ => (rcOk, s')

/-- The classes of Crocus signals that Table 15-12 permits: 0 none, 1 C1, 2 C2. -/
def State.crocusClass (s : State) : Nat :=
  let life := s.nat Sec.LIFECYCLE
  let lvl := s.nat Sec.DEBUG_LEVEL
  let st := s.powerState
  if st = pwSnow ∨ life = 3 then 0
  else if st = pwStart then (if (lvl = 1 ∧ life = 2) ∨ (lvl = 2 ∧ life = 0) then lvl else 0)
  else lvl

/-- Bits of a Crocus signal, and whether it is of class 2 (Table 15-13). -/
def crocusSig (code : Nat) : Option (Nat × Bool) :=
  match code with
  | 0x001 => some (1, false)
  | 0x002 => some (1, false)
  | 0x010 => some (1, false)
  | 0x011 => some (1, false)
  | 0x012 => some (2, false)
  | 0x013 => some (1, false)
  | 0x014 => some (1, false)
  | 0x015 => some (1, false)
  | 0x016 => some (1, false)
  | 0x020 => some (2, false)
  | 0x030 => some (1, false)
  | 0x031 => some (2, false)
  | 0x040 => some (1, false)
  | 0x050 => some (3, false)
  | 0x100 => some (3, true)
  | 0x101 => some (12, true)
  | 0x110 => some (16, true)
  | 0x120 => some (3, true)
  | _ => none

/-- Bit `b` of a Crocus signal at the scope that the objects select (Table 15-13).
Log: 136 DESIGN CHOICE. -/
def State.crocusBit (s : State) (code b : Nat) : Bool :=
  let p := s.nat Cro.SCOPE_PORT
  let c := s.nat Cro.SCOPE_CHANNEL
  let n := s.nat Cro.SCOPE_PIPE
  let k := s.nat Cro.SCOPE_MEM
  match code with
  | 0x001 => s.frameStart s.frame == s.now
  | 0x002 => s.now % secNs == 0
  | 0x011 => (s.ch p c).rxClk
  | 0x030 => (s.pipe n).clock
  | 0x031 => if b = 0 then !(s.pipe n).ingress.isEmpty else !(s.pipe n).recirc.isEmpty
  | 0x040 => (s.mem.asleep.find? k).isSome
  | _ => Config.crocusLevel code b [p, c, n, k] s.now

/-- Level of pin OBS00–OBS15 (R427): driven low while Crocus is off, where Table 15-12 shows no class, and for a class-2 signal where
only class 1 is shown (R422).
Log: 136 DESIGN CHOICE. -/
def State.obsPin (s : State) (k : Nat) : Bool :=
  let sel := s.nat Cro.OBS_SEL 0 k
  if !s.flag Cro.CROCUS_ENABLE ∨ s.crocusClass = 0 then false
  else
    match crocusSig (sel / 64) with
    | none => false
    | some (n, two) => if n ≤ sel % 64 ∨ (two ∧ s.crocusClass = 1) then false else s.crocusBit (sel / 64) (sel % 64)

/-- Crocus objects (R427–R429).
Log: 153 DEDUCED. -/
def State.ownCrocus (s : State) (o : Obj) (i j r : Nat) (v : Int) : Nat × State :=
  let s' := s.store o i j r v
  match o.index with
  | 0xE000 =>
    if o.sub = 1 ∧ v = 1 then
      if s.crocusClass = 0 then (rcLifecycle, s)
      else if s.flag Cro.CROCUS_ENABLE then (rcOk, s')
      else (rcOk, s'.event 0xE001 idSecurity [a8 (s.get Sec.DEBUG_LEVEL)])
    else (rcOk, s')
  | 0xE001 =>
    match crocusSig (v.toNat / 64) with
    | none => (rcRange, s)
    | some (n, two) =>
      if n ≤ v.toNat % 64 then (rcRange, s)
      else if two ∧ s.crocusClass = 1 then (rcLifecycle, s)
      else (rcOk, s')
  | _ => (rcOk, s')

/-- Bytes of a protected array (Table 16-1, R232, R409).
Log: 146 DESIGN CHOICE. -/
def State.arrayBytes (s : State) (a : Nat) : Nat :=
  if a = 0 then 192 * 1048576 else if a = 1 then 8 * 1048576 else if a = 2 then 8 * 65536
  else if a = 10 then 4 * 1048576
  else if 11 ≤ a then s.nat Pwr.CH_SIZE_GIB 0 (a - 11) * 2 ^ 30
  else Config.arraySize a

/-- The array is a DDR5 channel that is not fitted (R447). -/
def State.unfitted (s : State) (a : Nat) : Bool := decide (11 ≤ a) && !(s.nat Pwr.CH_FITTED).testBit (a - 11)

/-- Memory integrity objects (R445, R447). -/
def State.ownMem (s : State) (o : Obj) (i j r : Nat) (v : Int) : Nat × State :=
  let s' := s.store o i j r v
  let armed := s.flag Inj.INJ_ARM
  match o.index, o.sub with
  | 0x9801, 1 =>
    if armed then (rcBusy, s)
    else if v = 2 ∨ (v = 7 ∧ s.nat Inj.INJ_BITS = 2) then (rcConsistency, s) else (rcOk, s')
  | 0x9801, 2 =>
    if armed then (rcBusy, s) else if s.arrayBytes (s.nat Inj.INJ_ARRAY) ≤ v.toNat then (rcRange, s) else (rcOk, s')
  | 0x9801, 3 =>
    if armed then (rcBusy, s) else if v = 2 ∧ s.nat Inj.INJ_ARRAY = 7 then (rcConsistency, s) else (rcOk, s')
  | 0x9801, 4 =>
    if v = 1 ∧ s.nat Sec.DEBUG_LEVEL ≠ 2 ∧ s.nat Sec.LIFECYCLE ≠ 0 then (rcLifecycle, s) else (rcOk, s')
  | 0x9810, 0x0A => if s.unfitted i then (rcState, s) else if i = 2 then (rcConsistency, s) else (rcOk, s')
  | 0x9810, 0xFF => if s.unfitted i then (rcState, s) else (rcOk, s.clearCounters o i j r)
  | 0x9810, _ => if s.unfitted i then (rcState, s) else (rcOk, s')
  | _, _ => (rcOk, s')

end Sys2Proof.Machine
end

