-- ==== Sys2Proof/Machine/OwnRec.lean ====
section
/-! DEFINITION. Record tables: what an owner judges on a record as a whole, what a write does, and deletion (R92, R105, R185, R262, R285). -/

namespace Sys2Proof.Machine

/-- Any of `l` was written. -/
def wrote (subs l : List Nat) : Bool := l.any subs.contains

/-- The first failing check of a list.
Log: 69 DEDUCED. -/
def firstFail : List (Bool × Nat) → Nat
  | [] => rcOk
  | (bad, code) :: t => if bad then code else firstFail t

/-- An ONU record stands on a path. -/
def State.onuOn (s : State) (p c onu : Nat) : Bool := (s.onuBy p c onu).isSome

/-- An ONU record as a whole (R92): `s` is the state before its first member, `t` holds all of them.
Log: 31 DEDUCED. -/
def onuCheck (s t : State) (r : Nat) (subs : List Nat) (fresh : Bool) : Nat :=
  let st := s.rnat Onu.STATE r
  let st := if fresh ∨ (subs.contains 6 ∧ t.rnat Onu.ADMIN r = 0 ∧ st ≠ onuDisabled) then onuEmpty else st
  let p := t.rnat Onu.PORT r
  let c := t.rnat Onu.CHANNEL r
  let others := (t.records 0x4200).filter (fun x => x != r)
  let rate := if fresh && c == 1 && !subs.contains 7 then 3 else t.rnat Onu.RATE_MAX r
  firstFail [
    (wrote subs [1, 2, 3, 4, 0x0A, 0x0B] && st != onuEmpty && st != onuDisabled, rcState),
    (p != r / 512, rcConsistency),
    ((fresh || wrote subs [1, 2, 3]) && others.any (fun x => t.rnat Onu.PORT x == p && t.rnat Onu.CHANNEL x == c &&
      t.rget Onu.ONU_ID x == t.rget Onu.ONU_ID r), rcDuplicate),
    ((fresh || subs.contains 4) && others.any (fun x => t.rget Onu.SERIAL x == t.rget Onu.SERIAL r), rcDuplicate),
    ((fresh || subs.contains 7) && (rate == 3) != (c == 1), rcConsistency),
    (fresh && decide (512 < (t.onusOf p 0).length + (t.onusOf p 1).length), rcFull)]

/-- ADMIN of an ONU record (Table 3-2), with the path it had: `s` is the state before the write. -/
def State.onuAdmin (t s : State) (r : Nat) : State :=
  let st := s.rnat Onu.STATE r
  let a := t.rnat Onu.ADMIN r
  if a = 0 ∧ st ≠ onuDisabled then
    let t := if st = onuEmpty then t
      else t.actSend (s.rnat Onu.PORT r) (s.rnat Onu.CHANNEL r) (s.rnat Onu.ONU_ID r) .deactivate 0
    t.onuToEmpty r 4
  else if a ≠ 0 ∧ st = onuDisabled then
    let t := t.actSend (s.rnat Onu.PORT r) (s.rnat Onu.CHANNEL r) (s.rnat Onu.ONU_ID r) .enable (s.rget Onu.SERIAL r)
    (t.setOnu r onuEmpty).updOnu r (fun x => { x with observed := false })
  else if a = 1 ∧ st = onuPending ∧ t.now < (s.onuX r).since + s.nat ActCfg.PENDING_S (s.rnat Onu.PORT r) * secNs then
    t.assign r (s.onuX r).acqAt
  else t

/-- RATE_MAX below RATE steps the ONU down administratively (R92). -/
def State.onuRateMax (t : State) (r : Nat) : State :=
  let m := t.rnat Onu.RATE_MAX r
  if t.rnat Onu.STATE r = onuOperating ∧ m < t.rnat Onu.RATE r then (t.rput Onu.TRIAL r 0).setRate r m else t

/-- What an accepted write of an ONU record does (R92, R132, R181, Table 3-2). -/
def onuEffect (s t : State) (r : Nat) (subs : List Nat) (fresh : Bool) : State :=
  let c := t.rnat Onu.CHANNEL r
  if fresh then
    let t := if c = 1 then t.rput Onu.RATE r 3 else t
    let t := if c = 1 ∧ !subs.contains 7 then t.rputK Onu.RATE_MAX r 3 else t
    (t.put ActDev.RECORDS (t.get ActDev.RECORDS + 1)).clearPm r
  else
    let t := if subs.contains 6 then t.onuAdmin s r else t
    let t := if wrote subs [1, 2, 3, 4] then
        let t := ((t.clearCoef r).keysGone r).rput Onu.RATE r (discRate c)
        t.updOnu r (fun x => { x with eqdSent := none })
      else t
    let t := if wrote subs [1, 2, 3] then t.clearPm r else t
    let t := if c ≠ s.rnat Onu.CHANNEL r ∧ !subs.contains 7 then t.rputK Onu.RATE_MAX r (if c = 1 then 3 else 2 : Nat) else t
    let t := if subs.contains 0x0B then t.updOnu r (fun x => { x with eqdSent := none }) else t
    if subs.contains 7 then t.onuRateMax r else t

/-- The rates fit the class (Table 4-2). -/
def classOk (cls fixed assured cap : Nat) : Bool :=
  match cls with
  | 1 => decide (0 < fixed) && assured == 0 && cap == fixed
  | 2 => fixed == 0 && decide (0 < assured) && cap == assured
  | 3 => fixed == 0 && decide (0 < assured) && decide (assured < cap)
  | 4 => fixed == 0 && assured == 0 && decide (0 < cap)
  | _ => decide (fixed + assured ≤ cap) && decide (0 < cap)

/-- A context record as a whole (R104, R105). -/
def ctxCheck (t : State) (r : Nat) (subs : List Nat) (fresh : Bool) : Nat :=
  let p := t.rnat Ctx.PORT r
  let c := t.rnat Ctx.CHANNEL r
  let others := (t.records 0x5200).filter (fun x => x != r && t.rnat Ctx.PORT x == p)
  firstFail [
    (wrote subs [1, 2, 3, 4] && t.rflag Ctx.ADMIN r && !fresh, rcState),
    ((fresh || wrote subs [1, 2, 4]) && others.any (fun x => t.rnat Ctx.CHANNEL x == c &&
      t.rget Ctx.ALLOC_ID x == t.rget Ctx.ALLOC_ID r), rcDuplicate),
    ((fresh || wrote subs [1, 2, 3]) && !t.onuOn p c (t.rnat Ctx.ONU_ID r), rcConsistency),
    ((fresh || wrote subs [6, 7, 8, 9]) &&
      !classOk (t.rnat Ctx.CLASS r) (t.rnat Ctx.FIXED_KBPS r) (t.rnat Ctx.ASSURED_KBPS r) (t.rnat Ctx.MAX_KBPS r), rcConsistency),
    ((fresh || wrote subs [1, 2, 5, 7, 8]) && decide (t.admitLimit p c < t.admitted p c), rcConsistency),
    (fresh && (decide (4096 ≤ others.length) || decide (65536 < (t.records 0x5200).length)), rcFull)]

/-- An XGEM record as a whole (R185).
Log: 151 DEDUCED. -/
def xgemCheck (t : State) (r : Nat) (subs : List Nat) (fresh : Bool) : Nat :=
  let p := t.rnat Xg.PORT r
  let c := t.rnat Xg.CHANNEL r
  let onu := t.rnat Xg.ONU_ID r
  let others := (t.records 0xA400).filter (fun x => x != r && t.rnat Xg.PORT x == p && t.rnat Xg.CHANNEL x == c)
  firstFail [
    (wrote subs [1, 2, 3, 4] && t.rflag Xg.ADMIN r && !fresh, rcState),
    ((fresh || wrote subs [1, 2, 4]) && others.any (fun x => t.rget Xg.XGEM_ID x == t.rget Xg.XGEM_ID r), rcDuplicate),
    ((fresh || wrote subs [1, 2, 3]) && onu != 1023 && !t.onuOn p c onu, rcConsistency),
    (t.rnat Xg.ENCRYPT r == 1 && onu == 1023, rcConsistency),
    (t.rnat Xg.ENCRYPT r == 2 && onu != 1023, rcConsistency),
    ((t.rnat Xg.DIRECTION r != 1 || t.rflag Xg.OMCC r) && onu == 1023, rcConsistency),
    (t.rflag Xg.OMCC r && others.any (fun x => t.rnat Xg.ONU_ID x == onu && t.rflag Xg.OMCC x), rcDuplicate),
    (fresh && decide (262144 < (t.records 0xA400).length), rcFull)]

/-- The conditions of R242 on a downstream node: an ONU or multicast node under its channel, a bound service under the node of its
XGEM record's ONU.
Log: 151 DEDUCED. -/
def State.nodeFits (t : State) (n : Nat) : Bool :=
  let path := t.nodePath 0 4 n
  if nodeLevel 0 n = 3 then
    let line := if n < 24576 then
        (if t.hasRecord 0x4200 (n - 8192) then some (t.rnat Onu.PORT (n - 8192) * 2 + t.rnat Onu.CHANNEL (n - 8192)) else none)
      else some (n - 24576)
    path.getLast? == line
  else if nodeLevel 0 n = 4 then
    let x := t.rnat Node.XGEM_REC n
    if x = 0x3FFFF then true
    else
      let p := t.rnat Xg.PORT x
      let c := t.rnat Xg.CHANNEL x
      if t.rnat Xg.ONU_ID x = 1023 then path.contains (24576 + p * 2 + c)
      else
        match t.onuBy p c (t.rnat Xg.ONU_ID x) with
        | some r => path.contains (8192 + r)
        | none => false
  else true

/-- The parent exists at a higher level of the same direction, and every node at or below `n` fits (R242).
Log: 151 DEDUCED. -/
def State.parentOk (t : State) (dir n : Nat) : Bool :=
  let m := t.rnat Node.PARENT n dir
  decide (0 < nodeLevel dir m) && decide (nodeLevel dir m < nodeLevel dir n) && t.nodeExists dir m &&
    (dir == 1 || (n :: t.records 0xB010).all (fun k => !(t.nodePath 0 4 k).contains n || t.nodeFits k))

/-- CIR above a PIR that is not 0 (R262). -/
def cirOver (cir pir : Nat) : Bool := pir != 0 && decide (pir < cir)

/-- A node record as a whole (R242, R262).
Log: 151 DEDUCED. -/
def nodeCheck (s t : State) (dir n : Nat) (subs : List Nat) (fresh : Bool) : Nat :=
  let line := nodeLevel dir n == 1
  let x := t.rnat Node.XGEM_REC n dir
  let bind := subs.contains 0x0D
  firstFail [
    (nodeLevel dir n == 0, rcNoRecord),
    (line && wrote subs [5, 7, 8, 9, 0x0A, 0x0B, 0x0C], rcConsistency),
    (!line && subs.contains 0x0E, rcConsistency),
    (!line && (fresh || subs.contains 5) && !t.parentOk dir n, rcConsistency),
    (!fresh && subs.contains 5 && decide (0 < s.backlog dir n), rcState),
    (bind && (dir != 0 || nodeLevel dir n != 4), rcConsistency),
    (bind && x != 0x3FFFF && (!t.hasRecord 0xA400 x || t.rnat Xg.DIRECTION x == 2), rcConsistency),
    (bind && x != 0x3FFFF && !t.nodeFits n, rcConsistency),
    (bind && x != 0x3FFFF && (t.records 0xB010).any (fun m => m != n && t.rnat Node.XGEM_REC m == x), rcDuplicate),
    (cirOver (t.rnat Node.CIR_KBPS n dir) (t.rnat Node.PIR_KBPS n dir), rcConsistency)]

/-- A queue record as a whole (R242, R262). Every drop profile has a record.
Log: 151 DEDUCED. -/
def queueCheck (t : State) (dir q : Nat) (subs : List Nat) (fresh : Bool) : Nat :=
  let svc := t.rnat Queue.SERVICE q dir
  firstFail [
    (!fresh && wrote subs [5, 6] && t.rflag Queue.ADMIN q dir, rcState),
    ((fresh || subs.contains 6) && (nodeLevel dir svc != 4 || !t.nodeExists dir svc), rcConsistency),
    ((fresh || wrote subs [5, 6]) && (t.records (0xB000 + dir)).any (fun x => x != q && t.rnat Queue.SERVICE x dir == svc &&
      t.rget Queue.QINDEX x dir == t.rget Queue.QINDEX q dir), rcDuplicate),
    (cirOver (t.rnat Queue.CIR_KBPS q dir) (t.rnat Queue.PIR_KBPS q dir), rcConsistency)]

/-- A drop profile (R262); without a spill region no threshold of spill can be set (R256).
Log: 80 DEDUCED. -/
def profileBad (t : State) (i : Nat) (subs : List Nat) : Bool :=
  (subs.contains 4 && t.rget DropP.SPILL_AT i != 0 && t.nat DdrReg.ACTIVE_SIZE_MIB 0 == 0) ||
  decide (t.rget DropP.YELLOW_MAX i < t.rget DropP.RED_MAX i) || decide (t.rget DropP.GREEN_MAX i < t.rget DropP.YELLOW_MAX i) ||
    (t.rget DropP.SPILL_AT i != 0 && decide (t.rget DropP.SPILL_AT i ≤ t.rget DropP.REFILL_AT i))

/-- Members of a replication group. -/
def State.membersOf (t : State) (g : Nat) : List Nat := (t.records 0xB051).filter (fun m => t.rnat ReplMem.GROUP m == g)

/-- A replay channel (R256, R257, R262). A channel names the group of its GROUP once it is enabled or GROUP is not 0.
Log: 81 DEDUCED. -/
def chanCheck (t : State) (k : Nat) (subs : List Nat) : Nat :=
  let g := t.rget Chan.GROUP k
  let names (x : Nat) : Bool := t.rflag Chan.ENABLE x || t.rget Chan.GROUP x != 0
  let all := t.written 0xB060
  let use : Nat := (all.map (fun x => if t.rflag Chan.ENABLE x then t.rnat Chan.MAX_BYTES x else 0)).sum
  firstFail [
    (wrote subs [1, 4] && names k && all.any (fun x => x != k && names x && t.rget Chan.GROUP x == g), rcDuplicate),
    (wrote subs [3, 4] && t.rflag Chan.ENABLE k &&
      (t.nat DdrReg.ACTIVE_SIZE_MIB 1 == 0 || decide (t.nat DdrReg.ACTIVE_SIZE_MIB 1 * 1048576 < use)), rcConsistency)]

/-- The tables whose records are judged as a whole.
Log: 150 DEDUCED. -/
def wholeRecord (index : Nat) : Bool :=
  [0x4200, 0x5200, 0xA400, 0xB010, 0xB011, 0xB000, 0xB001, 0xB020, 0xB030, 0xB051, 0xB060].contains index

/-- The tables whose writes wait for a frame boundary (R92, R105, R185). -/
def deferred (index : Nat) : Bool := index == 0x4200 || index == 0x5200 || index == 0xA400

/-- The tables whose records are created by a transaction (R373). -/
def creatable (index : Nat) : Bool :=
  [0x4200, 0x5200, 0xA400, 0xB010, 0xB011, 0xB000, 0xB001, 0xB051].contains index

/-- The checks on a record as a whole: the state before its first member and with all of them. -/
def recCheck (s t : State) (index r : Nat) (subs : List Nat) (fresh : Bool) : Nat :=
  match index with
  | 0x4200 => onuCheck s t r subs fresh
  | 0x5200 => ctxCheck t r subs fresh
  | 0xA400 => xgemCheck t r subs fresh
  | 0xB010 => nodeCheck s t 0 r subs fresh
  | 0xB011 => nodeCheck s t 1 r subs fresh
  | 0xB000 => queueCheck t 0 r subs fresh
  | 0xB001 => queueCheck t 1 r subs fresh
  | 0xB020 => if cirOver (t.rnat Pol.CIR_KBPS r) (t.rnat Pol.PIR_KBPS r) then rcConsistency else rcOk
  | 0xB030 => if profileBad t r subs then rcConsistency else rcOk
  | 0xB051 =>
    if (fresh ∨ subs.contains 1) ∧ 4095 < (t.membersOf (t.rnat ReplMem.GROUP r)).length then rcFull
    else if fresh ∧ 262144 < (t.records 0xB051).length then rcFull else rcOk
  | 0xB060 => chanCheck t r subs
  | _ => rcOk

/-- What an accepted write does beside its values. A policer's buckets fill when a parameter is written (R244); tokens refill at the
old rates up to a write of a shaper (R249, R260).
Log: 73 DEDUCED. -/
def recEffect (s t : State) (index r : Nat) (subs : List Nat) (fresh : Bool) : State :=
  match index with
  | 0x4200 => onuEffect s t r subs fresh
  | 0xB020 => if wrote subs [1, 2, 3, 4, 5, 6] then { t with tm := { t.tm with policers := t.tm.policers.del r } } else t
  | 0xB000 => if wrote subs [0x0A, 0x0B, 0x0C, 0x0D] then t.setShaper true 0 r (s.shaper true 0 r) else t
  | 0xB001 => if wrote subs [0x0A, 0x0B, 0x0C, 0x0D] then t.setShaper true 1 r (s.shaper true 1 r) else t
  | 0xB010 => if wrote subs [9, 0x0A, 0x0B, 0x0C] then t.setShaper false 0 r (s.shaper false 0 r) else t
  | 0xB011 => if wrote subs [9, 0x0A, 0x0B, 0x0C] then t.setShaper false 1 r (s.shaper false 1 r) else t
  | _ => t

/-- DELETE of a record (R92, R105, R185, R262).
Log: 151 DEDUCED. -/
def State.deleteRec (s : State) (index r : Nat) : Nat × State :=
  let fin (bad : Bool) (s' : State) : Nat × State := if bad then (rcState, s) else (rcOk, s')
  match index with
  | 0x4200 => fin (s.rnat Onu.STATE r != onuEmpty && s.rnat Onu.STATE r != onuDisabled) (s.removeOnu r)
  | 0x5200 => fin (s.rflag Ctx.ADMIN r) { s.markGone 0x5200 r with ctx := s.ctx.del r }
  | 0xA400 =>
    fin (s.rflag Xg.ADMIN r) (let t := (s.markGone 0xA400 r).dropRecord 0xA910 r
      { t with jpend := Gen.RTAG_GEN.addr 0 0 r :: t.jpend, reasm := t.reasm.del r, twin := { t.twin with streams := t.twin.streams.del r } })
  | 0xB051 => (rcOk, s.markGone 0xB051 r)
  | k =>
    if k = 0xB010 ∨ k = 0xB011 then
      let dir := k - 0xB010
      if nodeLevel dir r = 1 then (rcConsistency, s)
      else fin (!(s.children dir r).isEmpty || decide (0 < s.backlog dir r)) (s.markGone k r)
    else if k = 0xB000 ∨ k = 0xB001 then
      let dir := k - 0xB000
      fin (s.rflag Queue.ADMIN r dir || !(s.queue dir r).isEmpty) (s.markGone k r)
    else (rcOk, s)

/-- A recovery stream's entry (R272, R285). -/
def State.ownRcvy (s : State) (o : Obj) (i j r : Nat) (v : Int) : Nat × State :=
  let s' := s.store o i j r v
  let valid := s.rflag Rcvy.VALID r
  match o.sub with
  | 5 =>
    if v = 1 ∧ (s.written 0xA900).any (fun x => x != r && s.rflag Rcvy.VALID x &&
        s.rget Rcvy.DMAC x == s.rget Rcvy.DMAC r && s.rget Rcvy.VID x == s.rget Rcvy.VID r) then (rcDuplicate, s)
    else if v = 1 then
      (rcOk, { s' with upl := { s'.upl with rcvy := s'.upl.rcvy.ins r { s'.upl.rcvy.getD r {} with takeAny := true } } })
    else (rcOk, s')
  | 0xFF => (rcOk, s.clearCounters o i j r)
  | _ => if valid then (rcState, s) else (rcOk, s')

/-- RTAG_GEN of an XGEM record (R269, R325): a stream that it starts counts from 0 at the first span whose map closes after the
boundary at which the write completes.
Log: 153 DEDUCED. -/
def State.ownGen (s : State) (o : Obj) (i j r : Nat) (v : Int) : Nat × State :=
  let s' := s.store o i j r v
  if v = 1 ∧ !s.rflag Gen.RTAG_GEN r then
    (rcOk, s'.setTwin (fun t => { t with streams := t.streams.ins r { startSpan := s.frameAfter s.now + 1 } }))
  else if v = 0 then (rcOk, s'.setTwin (fun t => { t with streams := t.streams.del r }))
  else (rcOk, s')

end Sys2Proof.Machine
end

