-- ==== Sys2Proof/Machine/OwnAll.lean ====
section
/-! DEFINITION. Every owner's write behind one function, and writes in order as a commit makes them (R372, R373, R382). -/

namespace Sys2Proof.Machine

/-- Lines of the capture store. -/
def State.capLines (s : State) : Nat := (s.tm.cap.map (fun x => x.lines)).sum

/-- A record of a table exists (R373, and the record rules of the chapters). -/
def State.recExists (s : State) (index r : Nat) : Bool :=
  match index with
  | 0x4200 => s.hasRecord 0x4200 r
  | 0x5200 => s.hasRecord 0x5200 r
  | 0xA400 => s.hasRecord 0xA400 r
  | 0xB051 => s.hasRecord 0xB051 r
  | 0xB000 => s.hasRecord 0xB000 r
  | 0xB001 => s.hasRecord 0xB001 r
  | 0xB010 => s.nodeExists 0 r
  | 0xB011 => s.nodeExists 1 r
  | 0xA100 => s.hasRecord 0x4200 r
  | 0xA300 => s.hasRecord 0x4200 r
  | 0xA910 => s.hasRecord 0xA400 r
  | 0x9C01 => s.hasRecord 0x4200 (r / 96)
  | 0x9C02 => s.hasRecord 0x4200 (r / 7)
  | 0xA000 => (s.log.find? r).isSome
  | 0xA001 => decide (r < ceilDiv (Config.rdxFile (s.nat Dic.FW_VERSION)).length 1024)
  | 0x5101 => decide (r < s.nat MapCap.CAP_COUNT)
  | 0xB070 => decide (r < s.nat BCap.CAP_COUNT)
  | 0xB071 => decide (r < s.capLines)
  | 0xB020 => decide (1 ≤ r)
  | _ => true

/-- A record number that a transaction may create (R373, Table 9-5). -/
def mayCreate (index r : Nat) : Bool :=
  creatable index && (index != 0xB010 || nodeLevel 0 r != 0) && (index != 0xB011 || nodeLevel 1 r != 0) &&
    (index != 0xB001 || decide (r < 32768))

/-- The subindices marked "—" of a table. -/
def mandSubs (index : Nat) : List Nat :=
  allObjs.filterMap (fun o => if o.mand && o.index ≤ index && index < o.index + max 1 o.ni && (o.inst? index o.sub).isSome then
    some o.sub else none)

/-- An address that is all zero or a valid unicast address: IPv6, or IPv4 mapped (R396).
Log: 147 DEDUCED. -/
def unicastIp (v : Nat) : Bool :=
  let b := leBytes 16 v
  let x := b.getD 12 0
  if v = 0 then true
  else if b.take 12 = [0, 0, 0, 0, 0, 0, 0, 0, 0, 0, 0xFF, 0xFF] then decide (1 ≤ x) && decide (x < 224)
  else b.getD 0 0 != 0xFF

/-- Objects of the dictionary engine that stand for more than their value (R391, R396, R409). -/
def State.ownDict (s : State) (o : Obj) (i j r : Nat) (v : Int) : Nat × State :=
  let s' := s.store o i j r v
  match o.index, o.sub with
  | 0x1050, 2 => if unicastIp v.toNat then (rcOk, s') else (rcRange, s)
  | 0x1050, 7 => (rcOk, s'.setJournal (fun j => { j with mgmtKey := v }))
  | _, _ => (rcOk, s')

/-- A write at an owner whose checks look at this write alone (R372 step 9). -/
def State.ownAt (s : State) (o : Obj) (i j r : Nat) (v : Int) : Nat × State :=
  let x := o.index
  if x = 0x1050 then s.ownDict o i j r v
  else if x < 0x3000 ∧ 0x2000 ≤ x ∧ o.acc ≠ .wo then s.ownPower o i j r v
  else if x = 0x2000 ∧ o.acc = .wo then s.ownPower o i j r v
  else if o.acc = .wo ∧ (clearsOf x o.sub).isEmpty = false ∧ x ≠ 0x9810 ∧ x ≠ 0xA900 ∧ x ≠ 0xA800 then (rcOk, s.clearCounters o i j r)
  else if 0x3000 ≤ x ∧ x < 0x3400 then s.ownPort o i j r v
  else if (0x3400 ≤ x ∧ x < 0x3800) ∨ x = 0xA100 then s.ownCal o i j r v
  else if (0x4000 ≤ x ∧ x < 0x6000) ∨ x = 0xA300 ∨ x = 0x9C00 then s.ownPon o i j r v
  else if (0x6000 ≤ x ∧ x < 0x7800) ∨ x = 0xA600 ∨ x = 0xA800 ∨ x = 0xA802 then s.ownPipe o i j r v
  else if 0x7800 ≤ x ∧ x < 0x8000 then s.ownTm o i j r v
  else if 0x8000 ≤ x ∧ x < 0x8800 then s.ownUpl o i j r v
  else if 0x8800 ≤ x ∧ x < 0x8C00 then s.ownTime o i j r v
  else if 0x8C00 ≤ x ∧ x < 0x9000 then s.ownTwin o i j r v
  else if 0x9000 ≤ x ∧ x < 0x9400 then s.ownHost o i j r v
  else if 0x9400 ≤ x ∧ x < 0x9800 then s.ownSec o i j r v
  else if 0x9800 ≤ x ∧ x < 0x9C00 then s.ownMem o i j r v
  else if x = 0xA900 then s.ownRcvy o i j r v
  else if x = 0xA910 then s.ownGen o i j r v
  else if 0xE000 ≤ x ∧ x < 0xF000 then s.ownCrocus o i j r v
  else (rcOk, s.store o i j r v)

/-- The same on a twin standby, whose manager may not write critical objects (R319).
Log: 8 DEDUCED, 69 DEDUCED, 154 DEDUCED. -/
def State.ownWrite (s : State) (o : Obj) (i j r : Nat) (v : Int) : Nat × State :=
  if s.nat Twin.ROLE = 2 ∧ s.critical (o.addr i j r) then (rcState, s) else s.ownAt o i j r v

/-- A record in the course of being written: the state before its first member, and the subindices written. -/
structure Seg where
  index : Nat
  rcd : Nat
  old : State
  fresh : Bool
  subs : List Nat

/-- No later member writes the record before its DELETE. -/
def lastOf (m : Wr) (t : List Wr) : Bool :=
  match t.find? (fun x => x.index == m.index && x.rcd == m.rcd) with
  | none => true
  | some x => x.sub == 0xFF

/-- The judgement of a record at its last member, and what the write does (R382). -/
def Seg.close (g : Seg) (t : State) : Nat × State :=
  if g.fresh ∧ !(mandSubs g.index).all g.subs.contains then (rcNoRecord, t)
  else if t.nat Twin.ROLE = 2 ∧ g.subs.any (fun k =>
      t.critical { index := g.index, sub := k, recNo := g.rcd } || g.old.critical { index := g.index, sub := k, recNo := g.rcd }) then
    (rcState, t)
  else
    match recCheck g.old t g.index g.rcd g.subs g.fresh with
    | 0 => (rcOk, recEffect g.old t g.index g.rcd g.subs g.fresh)
    | c => (c, t)

/-- One write of a sequence (R372, R373, R382): its code, the records still open, and the state. The objects of one record are
judged when its last write of the sequence has been made. -/
def writeStep (txn : Bool) (m : Wr) (t : List Wr) (segs : List Seg) (s : State) : Nat × List Seg × State :=
  match objAt m.index m.sub with
  | none => (rcNoSub, segs, s)
  | some (o, i, j) =>
    if !wholeRecord m.index then
      if o.nr ≠ 0 ∧ !s.recExists m.index m.rcd then (rcNoRecord, segs, s)
      else
        let x := s.ownWrite o i j m.rcd m.value
        (x.1, segs, x.2)
    else if m.sub = 0xFF then
      if !s.recExists m.index m.rcd then (rcNoRecord, segs, s)
      else if s.nat Twin.ROLE = 2 ∧ s.critical (o.addr i j m.rcd) then (rcState, segs, s)
      else
        let x := s.deleteRec m.index m.rcd
        (x.1, segs, x.2)
    else
      let isNew := !s.recExists m.index m.rcd
      if isNew ∧ !(txn && mayCreate m.index m.rcd) then (rcNoRecord, segs, s)
      else
        let g : Seg := ((segs.find? (fun g => g.index == m.index && g.rcd == m.rcd)).getD
          { index := m.index, rcd := m.rcd, old := s, fresh := isNew, subs := [] })
        let g := { g with subs := m.sub :: g.subs }
        let rest := segs.filter (fun g => !(g.index == m.index && g.rcd == m.rcd))
        let s := if isNew then s.markNew m.index m.rcd else s
        let s := if o.acc = .wo then s.clearCounters o i j m.rcd else s.store o i j m.rcd m.value
        if lastOf m t then
          let x := g.close s
          (x.1, rest, x.2)
        else (rcOk, g :: rest, s)

/-- The writes of a sequence in order, up to the first that is refused: its code, that write, and the state. -/
def writeGo (txn : Bool) : List Wr → List Seg → State → Nat × Option Wr × State
  | [], _, s => (rcOk, none, s)
  | m :: t, segs, s =>
    let x := writeStep txn m t segs s
    if x.1 = rcOk then writeGo txn t x.2.1 x.2.2 else (x.1, some m, x.2.2)

/-- A member names a critical object (R319), before or after the writes. -/
def Wr.isCritical (m : Wr) (s t : State) : Bool :=
  s.critical { index := m.index, sub := m.sub, recNo := m.rcd } || t.critical { index := m.index, sub := m.sub, recNo := m.rcd }

/-- One write outside a transaction: a refused one leaves only what its owner says (R372). -/
def State.writeOne (s : State) (m : Wr) : Nat × State :=
  match writeGo false [m] [] s with
  | (0, _, t) => (rcOk, t)
  | (c, _, t) => (c, if wholeRecord m.index then s else t)

/-- A transaction's members: all of them, or none (R382). -/
def State.writeAll (s : State) (ms : List Wr) : Nat × Option Wr × State :=
  match writeGo true ms [] s with
  | (0, _, t) => (rcOk, none, t)
  | (c, m, _) => (c, m, s)

end Sys2Proof.Machine
end

