-- ==== Sys2Proof/Machine/DictVal.lean ====
section
/-! DEFINITION. Values as the carriers send them, ranges, and what an object reads as (R8, R370–R373). -/

namespace Sys2Proof.Machine

/-- The bytes of a value in the order of its carrier; octets and text send byte 0 first on every carrier (R370). -/
def encodeVal (ty : Ty) (big : Bool) (v : Int) : List Nat :=
  match ty with
  | .octets n => leBytes n (v % 2 ^ (8 * n)).toNat
  | .text n => leBytes n (v % 2 ^ (8 * n)).toNat
  | .time96 => fieldBytes big 12 v
  | ty => fieldBytes big ty.size v

/-- The value of bytes of the right number. -/
def decodeVal (ty : Ty) (big : Bool) (b : List Nat) : Int :=
  let num (l : List Nat) : Nat := if big then ofBe l else ofLe l
  match ty with
  | .octets _ => ofLe b
  | .text _ => ofLe b
  | .time96 => (num (b.take 8) * secNs + num (b.drop 8) : Nat)
  | ty => if ty.signed then sext (8 * ty.size) (num b) else (num b : Nat)

/-- The length fits the type: exactly its size, and 1 to n bytes for a text (R370). -/
def lenFits (ty : Ty) (n : Nat) : Bool :=
  match ty with
  | .text m => decide (1 ≤ n) && decide (n ≤ m)
  | ty => n == ty.size

/-- Nanoseconds of a time above 999,999,999 (Table 14-1). -/
def badTime (ty : Ty) (big : Bool) (b : List Nat) : Bool :=
  match ty with
  | .time96 => decide (secNs ≤ (if big then ofBe (b.drop 8) else ofLe (b.drop 8)))
  | _ => false

/-- The value lies in one of the intervals.
Log: 147 DEDUCED. -/
def inRange (l : List (Int × Int)) (v : Int) : Bool := l.isEmpty || l.any (fun r => decide (r.1 ≤ v) && decide (v ≤ r.2))

/-- Ranges that an object's own table, or the layout that it names, adds to an interval (R372 step 8).
Log: 147 DEDUCED. -/
def State.rangeRule (s : State) (o : Obj) (i : Nat) (v : Int) : Bool :=
  let n := v.toNat
  match o.index, o.sub with
  | 0x3005, _ => bits n 23 17 == 0 && bits n 191 162 == 0
  | 0x3006, _ => bits n 23 17 == 0 && bits n 191 162 == 0
  | 0xA100, k => !(4 ≤ k && k ≤ 7) || (bits n 23 17 == 0 && bits n 191 162 == 0)
  | 0x6001, _ => defaultCheck n != rcRange
  | 0x6002, 1 => n % 16 == 0
  | 0xA800, 3 => actCheck n != rcRange
  | 0xA802, _ => bits n 30 20 == 0
  | 0x7810, 2 => decide (8 ≤ i) || decide (n ≤ 1572864)
  | 0x80C0, 5 => n % 100 == 0
  | 0xB010, 5 => nodeLevel 0 n != 0 || nodeLevel 1 n != 0
  | 0xB000, 6 => nodeLevel 0 n == 4
  | 0xE001, _ => match crocusSig (n / 64) with
    | some x => decide (n % 64 < x.1)
    | none => false
  | 0x9801, 2 => decide (n < s.arrayBytes (s.nat Inj.INJ_ARRAY)) || s.flag Inj.INJ_ARM
  | 0x2020, 1 => i != 0 || v == 0xFFFFFFFF
  | 0x2040, 5 => decide (v ≤ (if Config.gradeXc then 105 else 110))
  | _, _ => true

/-- Step 8 of R372.
Log: 147 DEDUCED. -/
def State.rangeOk (s : State) (o : Obj) (i : Nat) (v : Int) : Bool :=
  (o.ty != .bool || v == 0 || v == 1) && inRange o.rng v && s.rangeRule o i v

/-- Records of a table that exist, as R375 counts them. -/
def State.recCount (s : State) (index nr : Nat) : Nat :=
  match index with
  | 0xB010 => 130 + ((s.records 0xB010).filter (fun r => nodeLevel 0 r != 1)).length
  | 0xB011 => 34 + ((s.records 0xB011).filter (fun r => nodeLevel 1 r != 1)).length
  | 0xA100 => (s.records 0x4200).length
  | 0xA300 => (s.records 0x4200).length
  | 0xA910 => (s.records 0xA400).length
  | 0x9C01 => 96 * (s.records 0x4200).length
  | 0x9C02 => 7 * (s.records 0x4200).length
  | 0xA000 => s.log.length
  | 0xA001 => ceilDiv (Config.rdxFile (s.nat Dic.FW_VERSION)).length 1024
  | 0x5101 => s.nat MapCap.CAP_COUNT
  | 0xB070 => s.nat BCap.CAP_COUNT
  | 0xB071 => s.capLines
  | 0xB020 => nr - 1
  | k => if creatable k then (s.records k).length else nr

/-- The highest existing record number of a table; 0 when it has none.
Log: 148 DEDUCED. -/
def State.recHigh (s : State) (index nr : Nat) : Nat :=
  match index with
  | 0xB010 => max 129 ((s.records 0xB010).max?.getD 0)
  | 0xB011 => max 33 ((s.records 0xB011).max?.getD 0)
  | 0xA100 => (s.records 0x4200).max?.getD 0
  | 0xA300 => (s.records 0x4200).max?.getD 0
  | 0xA910 => (s.records 0xA400).max?.getD 0
  | 0x9C01 => match (s.records 0x4200).max? with
    | some r => 96 * r + 95
    | none => 0
  | 0x9C02 => match (s.records 0x4200).max? with
    | some r => 7 * r + 6
    | none => 0
  | 0xA000 => (s.log.map (fun e => e.1)).max?.getD 0
  | 0xB020 => nr - 1
  | k => if creatable k then (s.records k).max?.getD 0 else s.recCount k nr - 1

/-- The lowest of a list at or above `r`. -/
def lowestFrom (r : Nat) (l : List Nat) : Option Nat := (l.filter (fun x => decide (r ≤ x))).min?

/-- NEXT (R373): the lowest existing record number at or above the one given. -/
def State.nextRec (s : State) (index nr r : Nat) : Option Nat :=
  let upTo (n : Nat) : Option Nat := if r < n then some r else none
  match index with
  | 0xB010 => if r < 130 then some r else lowestFrom r (s.records 0xB010)
  | 0xB011 => if r < 34 then some r else lowestFrom r (s.records 0xB011)
  | 0xA100 => lowestFrom r (s.records 0x4200)
  | 0xA300 => lowestFrom r (s.records 0x4200)
  | 0xA910 => lowestFrom r (s.records 0xA400)
  | 0x9C01 => if s.hasRecord 0x4200 (r / 96) then some r else (lowestFrom (r / 96 + 1) (s.records 0x4200)).map (fun x => x * 96)
  | 0x9C02 => if s.hasRecord 0x4200 (r / 7) then some r else (lowestFrom (r / 7 + 1) (s.records 0x4200)).map (fun x => x * 7)
  | 0xA000 => lowestFrom r (s.log.map (fun e => e.1))
  | 0xA001 => upTo (ceilDiv (Config.rdxFile (s.nat Dic.FW_VERSION)).length 1024)
  | 0x5101 => upTo (s.nat MapCap.CAP_COUNT)
  | 0xB070 => upTo (s.nat BCap.CAP_COUNT)
  | 0xB071 => upTo s.capLines
  | 0xB020 => if r < nr then some (max 1 r) else none
  | k => if creatable k then lowestFrom r (s.records k) else upTo nr

/-- Path of an ONU record: PORT, CHANNEL, ONU_ID by subindex. -/
def State.onuPath (s : State) (r sub : Nat) : Int :=
  if sub = 1 then s.rget Onu.PORT r else if sub = 2 then s.rget Onu.CHANNEL r else s.rget Onu.ONU_ID r

/-- Path of an XGEM record by subindex. -/
def State.xgemPath (s : State) (x sub : Nat) : Int :=
  if sub = 1 then s.rget Xg.PORT x else if sub = 2 then s.rget Xg.CHANNEL x else if sub = 3 then s.rget Xg.ONU_ID x
  else s.rget Xg.XGEM_ID x

/-- No path. -/
def noPath (sub : Nat) : Int := if sub ≤ 2 then 0xFF else 0xFFFF

/-- Path of a node (R4, R242): of the XGEM record that it is bound to, or of its ONU record or multicast channel. -/
def State.nodePathOf (s : State) (dir n sub : Nat) : Int :=
  let x := s.rnat Node.XGEM_REC n dir
  if dir ≠ 0 then noPath sub
  else if nodeLevel 0 n = 4 then
    (if x ≠ 0x3FFFF ∧ s.hasRecord 0xA400 x then s.xgemPath x sub else noPath sub)
  else if nodeLevel 0 n = 3 then
    (if n < 24576 then (if sub ≤ 3 ∧ s.hasRecord 0x4200 (n - 8192) then s.onuPath (n - 8192) sub else noPath sub)
     else if sub = 1 then ((n - 24576) / 2 : Nat) else if sub = 2 then ((n - 24576) % 2 : Nat)
     else if sub = 3 then 1023 else noPath sub)
  else noPath sub

/-- First data line of captured burst `n`. -/
def State.capFirst (s : State) (n : Nat) : Nat := ((s.tm.cap.take n).map (fun x => x.lines)).sum

/-- Line `j` of the capture store: sliced bits, padded with zeros after the burst's bytes (R259).
Log: 83 DESIGN CHOICE. -/
def capLine : List CapBurst → Nat → Int
  | [], _ => 0
  | x :: t, j =>
    if j < x.lines then Config.freeValue (x.base + j) % 2 ^ (8 * min 64 (x.len - 64 * j)) else capLine t (j - x.lines)

/-- Text as the number of its bytes, byte 0 least significant. -/
def textVal (t : String) : Int := ofLe (t.toList.map Char.toNat)

/-- What an object reads as when it shows other state than a value of its own; `k` is the reading session. -/
def State.derived (s : State) (k : Nat) (o : Obj) (i j r : Nat) : Option Int :=
  let x := s.sess k
  match o.index, o.sub with
  | 0x4040, 1 => some (10 * s.nat ActCfg.DISC_DIFF_KM i + s.nat ActCfg.RAND_DELAY_US i + 2 : Nat)
  | 0x3408, 5 => some (s.rtCorr i 0)
  | 0x3408, 6 => some (s.rtCorr i 1)
  | 0x4201, 2 =>
    match s.findSerial.find? k with
    | none => some 0xFFFFFFFF
    | some sn => some (match (s.records 0x4200).find? (fun r => s.rnat Onu.SERIAL r == sn) with
      | some r => (r : Int)
      | none => 0xFFFFFFFF)
  | 0x5000, 4 => some (s.computeAvg : Nat)
  | 0x6010, 4 => some (s.recircAvg i : Nat)
  | 0x5080, 0x10 => some (s.admitted i 0 : Nat)
  | 0x5080, 0x11 => some (s.admitted i 1 : Nat)
  | 0xA100, 1 => some (s.onuPath r 1)
  | 0xA100, 2 => some (s.onuPath r 2)
  | 0xA100, 3 => some (s.onuPath r 3)
  | 0xA300, 1 => some (s.onuPath r 1)
  | 0xA300, 2 => some (s.onuPath r 2)
  | 0xA300, 3 => some (s.onuPath r 3)
  | 0xA910, 1 => some (s.xgemPath r 1)
  | 0xA910, 2 => some (s.xgemPath r 2)
  | 0xA910, 3 => some (s.xgemPath r 3)
  | 0xA910, 4 => some (s.xgemPath r 4)
  | 0xA602, 1 => some (match s.fwd.ways.find? r with
    | some e => (e.word : Nat)
    | none => 0)
  | 0x7800, 0x12 => some (((s.tm.queues.map (fun e => qDeep e.2)).sum : Nat) : Int)
  | 0xB010, 6 => some (nodeLevel i r : Nat)
  | 0xB010, 0x0F => some (s.backlog i r : Nat)
  | 0xB010, n => if n ≤ 4 then some (s.nodePathOf i r n) else none
  | 0xB000, 0x10 => some (qBytes (s.queue i r) : Nat)
  | 0xB000, 0x11 => some (qDeep (s.queue i r) : Nat)
  | 0xB000, n => if n ≤ 4 then some (s.nodePathOf i (s.rnat Queue.SERVICE r i) n) else none
  | 0xB050, 3 => some ((s.membersOf r).length : Nat)
  | 0xB070, 1 => some (match s.tm.cap[r]? with
    | some x => (x.header : Nat)
    | none => 0)
  | 0xB070, 2 => some (s.capFirst r : Nat)
  | 0xB071, 1 => some (capLine s.tm.cap r)
  | 0x8000, 7 => some (if s.partner i then 1 else 0)
  | 0x8080, 0x0D => some (if j = 1 then (Config.cmNom : Int) else 0)
  | 0x8800, 1 => some (s.now : Int)
  | 0x8800, 8 => some s.freqNow
  | 0x8800, 0x10 => some (s.frame : Int)
  | 0x8880, 1 => if s.nat Tim.SERVO_STATE = svFree then some 0 else none
  | 0x8880, 2 => if s.nat Tim.SERVO_STATE = svFree then some 0 else none
  | 0x8C00, 6 => some (Config.serialNumber : Int)
  | 0x1000, 3 => some (if Config.gradeXc then textVal "GZ6450-XC" else textVal "GZ6450-XE")
  | 0x1000, 6 => some (Config.serialNumber : Int)
  | 0x1020, 4 => some (if x.txn ∨ s.dict.commits.any (fun c => c.reply.session == k) then 1 else if x.aborted then 2 else 0)
  | 0x1020, 5 => some (x.members.length : Nat)
  | 0x1020, 6 => some (x.failIndex : Int)
  | 0x1020, 7 => some (x.failSub : Int)
  | 0x1020, 8 => some (x.failRec : Int)
  | 0x1020, 9 => some (x.failCode : Int)
  | 0x1040, 1 => some (k : Int)
  | 0x1050, 7 => some 0
  | 0x1050, 8 => some (Config.mgmtMac : Int)
  | 0x1070, 1 => some ((Config.rdxFile (s.nat Dic.FW_VERSION)).length : Nat)
  | 0x1070, 2 => some (Config.sha512 (Config.rdxFile (s.nat Dic.FW_VERSION)) : Nat)
  | 0x1070, 3 => some (Config.objectCount (s.nat Dic.FW_VERSION) : Nat)
  | 0xA000, 1 => some (match s.log.find? r with
    | some e => (ofLe (e.bytes false) : Nat)
    | none => 0)
  | 0xA001, 1 => some (ofLe (((Config.rdxFile (s.nat Dic.FW_VERSION)).drop (1024 * r)).take 1024) : Nat)
  | 0x9400, 2 => some 0
  | 0x9400, 7 => some (max (s.get Sec.TIME_HWM) s.sec)
  | 0x9400, 8 => some 0
  | 0x9403, 1 => some (Config.identityKey : Int)
  | 0x9403, 2 => some (Config.sha512 Config.certChain : Nat)
  | 0x9403, 3 => some (s.rget OwnC.OWNER_CHAIN 0)
  | 0x2040, 7 => some (Config.coreVidMv : Int)
  | 0x9810, _ => if s.unfitted i then some 0 else none
  | _, _ => if o.acc = .wo then some 0 else none

/-- Objects that show a measurement no command carries: what a read returns is a free value of the type.
Log: 155 DESIGN CHOICE. -/
def measured (o : Obj) : Bool :=
  match o.index, o.sub with
  | 0x8020, 6 => true
  | 0x9000, 1 => true
  | 0x9000, 2 => true
  | 0x2040, 1 => true
  | 0x2040, 2 => true
  | 0x2040, 3 => true
  | 0x2040, 4 => true
  | _, _ => false

/-- Counters of things that no command carries, while they can occur: FEC results of a group whose lanes are aligned, the test
receiver's errors in PRBS mode. A free number of them has occurred since the last read.
Log: 20 DEDUCED, 155 DESIGN CHOICE. -/
def State.counting (s : State) (o : Obj) (i : Nat) : Bool :=
  let runs (g : Nat) : Bool := let st := s.nat Upl.STATE (if s.partner g then g - 4 else g); st == upAligning || st == upUp
  match o.index, o.sub with
  | 0x8020, 7 => runs (i / 4)
  | 0x8040, 0x0E => runs (i / 4)
  | 0x8040, 0x0F => runs (i / 4)
  | 0x300C, 3 => s.nat Pon.TEST_MODE i == 2
  | _, _ => false

/-- A value of a range, chosen by a number: every value of the range is met by some number, and no other.
Log: 155 DESIGN CHOICE. -/
def spreadRange (v : Int) : List (Int × Int) → Int
  | [] => v
  | [(lo, hi)] => lo + v % (hi - lo + 1)
  | (lo, hi) :: l =>
    let n := ((lo, hi) :: l).foldl (fun (a : Int) e => a + (e.2 - e.1 + 1)) 0
    if v % n < hi - lo + 1 then lo + v % n else spreadRange (v % n - (hi - lo + 1)) l

/-- A read of a value (R371, R372).
Log: 155 DESIGN CHOICE. -/
def State.readVal (s : State) (k : Nat) (o : Obj) (i j r : Nat) : Int × State :=
  match s.derived k o i j r with
  | some v => (o.ty.norm v, s)
  | none =>
    if measured o then
      match s.draw with
      | (v, s) => (o.ty.norm (spreadRange v o.rng), s)
    else if s.counting o i then
      match s.draw with
      | (v, s) => let t := s.bumpBy o v.toNat i j
        (t.get o i j, t)
    else (s.od.get o i j r, s)

end Sys2Proof.Machine
end

