-- ==== Sys2Proof/Machine/FamBar.lean ====
section
/-! DEFINITION. The BARs: table windows and plain registers (R345, R353, R360, R366, R367). -/

namespace Sys2Proof.Machine

/-- What a BAR2 offset holds (Table 13-16): the bytes of its write unit, 0 where bytes are ignored; none where it is reserved. -/
def tbwUnit (a : Nat) : Option Nat :=
  if a < 0x02000000 then some (if a % 256 < 192 then 32 else 0)
  else if a < 0x02200000 then some 32
  else if a < 0x02208000 then some 4
  else if a < 0x02210000 then none
  else if a < 0x02218000 then some 4
  else if a < 0x02400000 then none
  else if a < 0x02600000 then some 32
  else none

/-- The end of the reserved stretch at an offset.
Log: 120 DEDUCED. -/
def tbwReservedEnd (a : Nat) : Nat := if a < 0x02210000 then 0x02210000 else if a < 0x02400000 then 0x02400000 else 2 ^ 30

/-- A refused unit (R366): counted, and an event at most once per millisecond.
Log: 120 DEDUCED. -/
def State.tbwRefuse (s : State) (off code : Nat) : State :=
  let s := s.bump Tbw.TBW_REFUSED
  let ms := s.now / msNs + 1
  let s := if s.host.tbwMs = ms then s
    else (s.event 0x9004 idHost [a32 off, a32 code]).setHost (fun h => { h with tbwMs := ms })
  s.hostCause 1

/-- The owner's part of a window write, with the checks of the object. -/
def State.tbwObject (s : State) (o : Obj) (i r : Nat) (v : Nat) : Nat × State :=
  if !s.rangeOk o i v then (rcRange, s) else s.ownWrite o i 0 r v

/-- A beat of a rule (R199, R200, Table 7-5).
Log: 120 DEDUCED. -/
def State.tbwRule (s : State) (bank r beat w : Nat) : Nat × State :=
  if s.nat Twin.ROLE = 2 ∧ s.critical (Rule.VALID.addr bank 0 r) then (rcState, s)
  else if beat = 5 then s.beat5 bank r (bits w 143 0 + bits w 255 255 * 2 ^ 255)
  else s.ruleBeat bank r beat w

/-- An associative entry (R211, R367, Table 8-2): its fields, then VALID. -/
def State.tbwAssoc (s : State) (r w : Nat) : Nat × State :=
  if !w.testBit 191 then s.ownWrite Assoc.VALID 0 0 r 0
  else if s.rflag Assoc.VALID r then (rcState, s)
  else
    let fields := [(Assoc.KEY, bits w 127 0), (Assoc.FORM, bits w 131 128), (Assoc.LOC_TYPE, bits w 133 132),
      (Assoc.DEST, bits w 153 134), (Assoc.PRIORITY, bits w 169 154), (Assoc.VALID, 1)]
    let t : State := { s with fwd := { s.fwd with assoc := s.fwd.assoc.ins r (bits w 170 170) } }
    let r := fields.foldl (fun (x : Nat × State) f => if x.1 ≠ rcOk then x else x.2.tbwObject f.1 0 r f.2) (rcOk, t)
    if r.1 = rcOk then r else (r.1, s)

/-- One whole unit at an offset, its bytes as a number. -/
def State.tbwApply (s : State) (a w : Nat) : Nat × State :=
  if a < 0x02000000 then s.tbwRule (a / 0x01000000) (a % 0x01000000 / 256) (a % 256 / 32) w
  else if a < 0x02200000 then s.tbwAssoc ((a - 0x02000000) / 32) w
  else if a < 0x02208000 then s.tbwObject IndEnt.ENTRY 0 ((a - 0x02200000) / 4) w
  else if a < 0x02218000 then s.tbwObject FidMap.FID 0 ((a - 0x02210000) / 4) (w % 65536)
  else
    let r := (a - 0x02400000) / 128
    if s.recExists 0xA100 r then s.tbwObject (coefSet ((a - 0x02400000) % 128 / 32)) 0 r (w % 2 ^ 192) else (rcNoRecord, s)

/-- One unit, or the part of one that the write covers (R366, R367, R384, R416, R421).
Log: 120 DEDUCED. -/
def State.tbwUnitWrite (s : State) (a : Nat) (whole : Bool) (w : Nat) : State :=
  if !s.dict.ready ∨ s.nat Pwr.POWER_STATE = pwRecovery then s.tbwRefuse a rcState
  else if s.nat Sec.LIFECYCLE = 3 then s.tbwRefuse a rcLifecycle
  else if s.owner ≠ 0 then s.tbwRefuse a rcLease
  else if !whole then s.tbwRefuse a rcType
  else
    match s.tbwApply a w with
    | (0, s) => s.bump Tbw.TBW_WRITES
    | (c, s) => s.tbwRefuse a c

/-- The units of a write in ascending order (R367). -/
def State.tbwGo : Nat → Nat → List Nat → State → State
  | 0, _, _, s => s
  | n + 1, a, d, s =>
    if d.isEmpty then s
    else
      match tbwUnit a with
      | none => State.tbwGo n (tbwReservedEnd a) (d.drop (tbwReservedEnd a - a)) (s.bump Tbw.TBW_BAD_ADDR)
      | some 0 => State.tbwGo n (a + (256 - a % 256)) (d.drop (256 - a % 256)) s
      | some u =>
        let k := u - a % u
        let whole := a % u == 0 && decide (u ≤ d.length)
        State.tbwGo n (a + k) (d.drop k) (s.tbwUnitWrite a whole (ofLe (d.take u)))

/-- R366, R367: a write through BAR2. -/
def execTbwWrite (off : Nat) (data : List Nat) (s : State) : Res :=
  live s (fun s => State.tbwGo (data.length + 1) off data s.leaseSweep)

/-- A view's causes or enables change: the host's source, or the core's interrupt, follows the level. -/
def State.viewStep (s : State) (m who : Nat) (f : View → View) : State :=
  let set (s : State) : State := s.updView m who f
  if who = idHost then s.irqStep (16 + m) set
  else
    let lev (s : State) : Bool := Nat.land (s.view m who).cause (s.view m who).en != 0
    match coreOf who with
    | some k => if !lev s && lev (set s) then (set s).coreIrq k (16 + m) else set s
    | none => set s

/-- A write of 4 bytes of a mailbox page (Table 13-12).
Log: 116 DEDUCED. -/
def State.mbxPageWrite (s : State) (m who off v : Nat) : State :=
  if off < 0x400 then
    let s := s.mbxSweep m
    let k := off / 64
    let x := s.slot m k
    let b := off % 64
    if 8 ≤ b ∧ x.st = 2 ∧ who = s.mbxReceiver m then
      let d := (x.data ++ List.replicate 56 0).take 56
      s.setSlot m k { x with data := d.take (b - 8) ++ leBytes 4 v ++ d.drop (b - 4) }
    else s.bump Mbx.MBX_BAD_OP m
  else if off < 0x440 then
    let b := off - 0x400
    s.updView m who (fun w => { w with stage := w.bytes.take b ++ leBytes 4 v ++ w.bytes.drop (b + 4) })
  else
    match off with
    | 0x448 => s.mbxClock m (v % 16) [(who, if v.testBit 4 then .reply else .release)]
    | 0x450 => s.mbxClock m (v % 16) [(who, .free)]
    | 0x458 =>
      if who = idHost then s.causeClear (16 + m) v
      else s.updView m who (fun w => { w with cause := w.cause - Nat.land w.cause v })
    | 0x45C => s.viewStep m who (fun w => { w with en := v % 32 })
    | 0x440 | 0x444 | 0x44C | 0x454 | 0x460 => s
    | _ => s.badAccess

/-- A size that Table 13-9 admits.
Log: 119 DEDUCED. -/
def dmaSizeOk (v : Nat) : Bool := (List.range 13).any (fun i => v == 2 ^ (i + 4))

/-- A write of 4 bytes of a DMA channel's page (Table 13-9). TAIL, with the descriptors that host memory holds, and CTRL act as in their
own rows. -/
def State.dmaPageWrite (s : State) (c off v : Nat) (descs : List Desc) : State :=
  let d := s.dmaCh c
  match off with
  | 0x00 => if d.enable then s.badAccess
            else s.updDma c (fun d => { d with base := d.base / 2 ^ 32 * 2 ^ 32 + v / 32 * 32 })
  | 0x04 => if d.enable then s.badAccess else s.updDma c (fun d => { d with base := d.base % 2 ^ 32 + v * 2 ^ 32 })
  | 0x08 => if d.enable ∨ !dmaSizeOk v then s.badAccess else s.updDma c (fun d => { d with size := v })
  | 0x0C => s.dmaTail c v descs
  | 0x14 =>
    let s := if v.testBit 0 = d.enable then s else s.dmaEnable c (v.testBit 0)
    if v.testBit 1 then s.dmaRestart c else s
  | 0x1C => s.causeClear c v
  | 0x10 | 0x18 => s
  | _ => s.badAccess

/-- A write of 4 bytes of BAR0 (Table 13-3).
Log: 119 DEDUCED. -/
def State.bar0Write (s : State) (who off v : Nat) (descs : List Desc) : State :=
  if off < 0x1000 then (if off = 0x100 ∨ off = 0x110 ∨ off = 0x114 ∨ off = 0x118 then s else s.badAccess)
  else if off < 0x11CC then
    s.setHost (fun h => { h with irqMap := h.irqMap.ins ((off - 0x1000) / 4) (v % 256 + bits v 31 31 * 2 ^ 31) })
  else if off = 0x1200 then [112, 113, 114].foldl (fun s k => if s.srcLevel k then s.sendMsix k else s) (s.causeW1c 112 v)
  else if 0x100000 ≤ off ∧ off < 0x110000 then s.dmaPageWrite ((off - 0x100000) / 0x1000) (off % 0x1000) v descs
  else if 0x200000 ≤ off ∧ off < 0x240000 then
    let m := (off - 0x200000) / 0x1000
    if m < 8 ∧ who = idHost then s.badAccess else s.mbxPageWrite m who (off % 0x1000) v
  else if 0x300000 ≤ off ∧ off < 0x300800 then
    if off % 8 = 0 then s.dblRing ((off - 0x300000) / 8) [(who, v)] else s
  else if 0x301000 ≤ off ∧ off < 0x301400 then
    if off % 8 = 0 then s.lockRelease ((off - 0x301000) / 8) who else s
  else if off = 0x301400 then s.lockForce who v
  else if 0x400000 ≤ off ∧ off < 0x401000 then
    let i := (off - 0x400000) / 16
    let b := off % 16 * 8
    s.setHost (fun h => { h with msix := h.msix.ins i (setBits (h.msix.getD i (2 ^ 96)) (b + 31) b v) }) |>.msixUnmask i
  else if 0x401000 ≤ off ∧ off < 0x401020 then s
  else s.badAccess

/-- A write of 4 bytes of BAR4 (R360).
Log: 119 DEDUCED. -/
def State.bar4Write (s : State) (off v : Nat) : State :=
  if off < 0xF00 then s.mbxPageWrite s.host.secSel idHost off v
  else if off = 0xF00 then s.setHost (fun h => { h with secSel := v % 8 })
  else s.badAccess

/-- R345, R347, R351, R353, R360, R361: a write of `size` bytes by a requester to BAR0, or by the host to BAR4 (`sec`). Eight bytes
are two words, the lower first. BAR4 is decoded only while the secured session is open. -/
def execBarRegisterWrite (sec : Bool) (who off size val : Nat) (descs : List Desc) (s : State) : Res :=
  live s (fun s =>
    if sec ∧ !s.flag Hst.SEC_SESSION then s
    else if (size ≠ 4 ∧ size ≠ 8) ∨ off % size ≠ 0 then s.badAccess
    else
      let one (a v : Nat) (s : State) : State := if sec then s.bar4Write a v else s.bar0Write who a v descs
      let s := one off (val % 2 ^ 32) s
      if size = 8 then one (off + 4) (val / 2 ^ 32 % 2 ^ 32) s else s)

end Sys2Proof.Machine
end

