-- ==== Sys2Proof/Machine/DictOps.lean ====
section
/-! DEFINITION. The dictionary engine: requests, transactions, queued writes and replies (R372–R385). -/

namespace Sys2Proof.Machine

/-- The byte order of a session's carrier and the most DATA bytes of one message (R374). -/
def bigOf (k : Nat) : Bool := decide (1 ≤ k) && decide (k ≤ 8)
def dataMax (k : Nat) : Nat := if bigOf k then 1024 else 40

/-- The reply to a request, without result (R375). -/
def replyTo (k : Nat) (q : DictReq) : Reply :=
  { session := k, rcd := q.rcd, token := q.token, index := q.index, sub := q.sub, seq := q.seq, want := q.want, write := q.op == 2 }

/-- A reserved field, an unknown opcode, or a LENGTH beyond the carrier (R374). -/
def malformed (k : Nat) (q : DictReq) : Bool :=
  decide (2 ≤ q.flags) || q.rsv != 0 || !(decide (1 ≤ q.op) && decide (q.op ≤ 4)) || decide (dataMax k < q.length) ||
    (q.op == 2 && decide (q.data.length < q.length))

/-- What the dictionary serves in Recovery (R416).
Log: 132 DEDUCED. -/
def servedInRecovery (index : Nat) : Bool :=
  (decide (0x1000 ≤ index) && decide (index < 0x2000)) || index == 0x2000 || (decide (0x9400 ≤ index) && decide (index < 0x9800))

/-- Steps 1 and 2 of R372, and the fit of RECORD (R374). -/
def State.findObj (s : State) (q : DictReq) : Except Nat (Obj × Nat × Nat) :=
  if s.nat Pwr.POWER_STATE = pwRecovery ∧ !servedInRecovery q.index then .error rcState
  else if 0xF000 ≤ q.index ∨ !allObjs.any (fun o => o.atIndex q.index) then
    .error rcNoIndex
  else
    match objAt q.index q.sub with
    | none => .error rcNoSub
    | some (o, i, j) =>
      if o.nr = 0 ∧ (q.rcd ≠ 0xFFFFFFFF ∨ q.op = 3) then .error rcRange else .ok (o, i, j)

/-- The record of a request as the objects take it: 0 for an object that is no table. -/
def recOf (o : Obj) (q : DictReq) : Nat := if o.nr = 0 then 0 else q.rcd

/-- The object follows the records of another table (R373).
Log: 149 DEDUCED. -/
def followed (index : Nat) : Nat := if index = 0xA100 ∨ index = 0xA300 then 0x4200 else if index = 0xA910 then 0xA400 else 0

/-- Step 3 of R372: the record exists, or may be created by this write; in a transaction the members held so far count. -/
def State.recordOk (s : State) (k : Nat) (o : Obj) (q : DictReq) : Bool :=
  if o.nr = 0 then true
  else if o.nr ≤ q.rcd then false
  else if s.recExists q.index q.rcd then true
  else
    let x := s.sess k
    q.op == 2 && x.txn &&
      ((mayCreate q.index q.rcd && o.acc != .wo) ||
       x.members.any (fun m => (m.index == q.index || m.index == followed q.index) && m.rcd == q.rcd))

/-- Step 4 of R372 for a write: CONST and RO, the settings of Table 13-18 that are fixed, and RWS off a secure request. -/
def accessCode (o : Obj) (i : Nat) (secure : Bool) : Nat :=
  if o.acc = .const ∨ o.acc = .ro then rcReadOnly
  else if o.index = 0x9010 ∧ ((o.sub = 1 ∧ i < 9) ∨ (o.sub = 2 ∧ i < 8)) then rcReadOnly
  else if o.acc = .rws ∧ !secure then rcSecureOnly
  else rcOk

/-- Step 5 of R372: what the lifecycle state refuses (R421). -/
def State.lifeRefuses (s : State) (o : Obj) (v : Int) : Bool :=
  let l := s.nat Sec.LIFECYCLE
  let owner := (o.index == 0x9400 && o.sub == 8) || (o.index == 0x9403 && o.sub == 3) || o.index == 0x9404
  let ret := (o.index == 0x3001 && o.sub == 1 && (v == 2 || v == 3)) || (o.index == 0x8C00 && o.sub == 1 && v == 1) ||
    (o.index == 0x8C10 && o.sub == 1 && v == 1) || (o.index == 0x9401 && o.sub == 8)
  let left := (o.index == 0x1030 && o.sub == 1) || (o.index == 0x2000 && (o.sub == 0x0A || (o.sub == 2 && v == 3)))
  if l = 1 then owner else if l = 2 then owner || ret else if l = 3 then !left else false

/-- LEASE_CMD and FIND_SERIAL, which need no lease (R372). -/
def noLeaseNeeded (o : Obj) : Bool := (o.index == 0x1030 && o.sub == 1) || (o.index == 0x4201 && o.sub == 1)

/-- The MGMT addressing objects (R389). -/
def mgmtAddr (o : Obj) : Bool := o.index == 0x1050 && decide (1 ≤ o.sub) && decide (o.sub ≤ 5)

/-- Writes that are never members and are refused while a transaction is open (R381). -/
def neverMember (o : Obj) : Bool :=
  (o.index == 0x1030 && o.sub == 2) || (o.index == 0x1010 && o.sub == 2) || mgmtAddr o ||
    (o.index == 0x2000 && (o.sub == 2 || o.sub == 0x0A)) || (o.index == 0x9400 && (o.sub == 2 || o.sub == 4 || o.sub == 6)) ||
    o.index == 0x9402 || (o.index == 0x9401 && (o.sub == 8 || o.sub == 0x0A || o.sub == 0x0C)) || (o.index == 0x1041 && o.sub == 6)

/-- A reply to a write: a paired active holds an accepted one until the standby has applied its group (R319). -/
def State.answer (s : State) (critical : Bool) (r : Reply) : State :=
  if critical ∧ r.code = 0 ∧ s.nat Twin.STATE = 5 then
    s.setTwin (fun t => { t with confirm := t.confirm ++ [(s.nextMap, s.now, r)] })
  else s.sendReply r

/-- A write outside a transaction that acts at once. -/
def State.applyNow (s : State) (m : Wr) : State :=
  match s.writeOne m with
  | (c, t) => t.answer (m.isCritical s t) { m.reply with code := c }

/-- TXN_BEGIN (R381). A transaction ends at the boundary of its commit. -/
def State.txnBegin (s : State) (k : Nat) : Nat × State :=
  if (s.sess k).txn ∨ s.dict.commits.any (fun c => c.reply.session == k) then (rcState, s)
  else (rcOk, s.updSess k (fun x => { x with txn := true, members := [] }))

/-- TXN_COMMIT (R382): the members wait for the next frame boundary. None when the answer follows it.
Log: 149 DEDUCED. -/
def State.txnCommit (s : State) (k : Nat) (r : Reply) : Nat × State :=
  let x := s.sess k
  if x.txn then
    let s := s.updSess k (fun x => { x with txn := false, members := [] })
    (rcOk, s.setDict (fun d => { d with commits := d.commits ++ [{ reply := r, frame := s.frame + 1, members := x.members }] }))
  else (rcState, s)

/-- TXN_ABORT (R383).
Log: 121 DEDUCED. -/
def State.txnAbort (s : State) (k : Nat) : Nat × State :=
  if (s.sess k).txn ∨ s.dict.commits.any (fun c => c.reply.session == k) then (rcOk, s.txnDrop k true) else (rcState, s)

/-- FACTORY_RESTORE (R388): the journal holds factory contents; current values stay.
Log: 153 DEDUCED. -/
def State.factoryRestore (s : State) : State :=
  let s := s.setJournal (fun j => { j with image := [], cal := [], calFlash := [], factory := true, present := true, version := 0x0203 })
  { s with jpend := [] }.put Dic.JOURNAL_PENDING 0

/-- A pending abort is reported to a session's write once (R383).
Log: 149 DEDUCED. -/
def State.abortReport (s : State) (k : Nat) : Option State :=
  if (s.sess k).aborted then some (s.updSess k (fun x => { x with aborted := false })) else none

/-- A member joins the transaction (R381): a later one to the same subindex and record takes the place of the earlier.
Log: 149 DEDUCED. -/
def State.hold (s : State) (k : Nat) (m : Wr) : Nat × State :=
  let l := (s.sess k).members
  let same (x : Wr) : Bool := x.index == m.index && x.sub == m.sub && x.rcd == m.rcd
  if l.any same then (rcOk, s.updSess k (fun x => { x with members := l.map (fun y => if same y then m else y) }))
  else if 4096 ≤ l.length then (rcFull, s)
  else (rcOk, s.updSess k (fun x => { x with members := l ++ [m] }))

/-- A write that has passed steps 1 to 8, outside a transaction: engine objects, deferred tables, and all others. -/
def State.perform (s : State) (k : Nat) (o : Obj) (i : Nat) (m : Wr) : State :=
  let ok : Reply := { m.reply with code := rcOk }
  if o.index = 0x1010 ∧ o.sub = 2 then s.factoryRestore.sendReply ok
  else if o.index = 0x2000 ∧ o.sub = 0x0A then ((s.sendReply ok).journalFold.calFlush).start 2 2
  else if o.index = 0x1041 ∧ o.sub = 6 then (s.sendReply ok).sessClose (i + 1)
  else if mgmtAddr o then
    match s.writeOne m with
    | (c, t) =>
      let changed := c == 0 && s.od.get o i 0 0 != t.od.get o i 0 0
      let t := t.sendReply { m.reply with code := c }
      if changed then t.sessCloseAll else t
  else if deferred m.index then s.setDict (fun d => { d with queue := d.queue ++ [{ m with frame := s.frame + 1 }] })
  else s.applyNow { m with reply := { m.reply with session := k } }

/-- A whole value written (R372 steps 1 to 8, R377, R381): `b` is the value in the order of the carrier.
Log: 154 DEDUCED. -/
def State.dictWrite (s : State) (k : Nat) (secure : Bool) (q : DictReq) (b : List Nat) : State :=
  let r := replyTo k q
  let fail (c : Nat) : State := s.sendReply { r with code := c }
  match s.findObj q with
  | .error c => fail c
  | .ok (o, i, _) =>
    let v := decodeVal o.ty (bigOf k) b
    if !s.recordOk k o q then fail rcNoRecord
    else if accessCode o i secure ≠ rcOk then fail (accessCode o i secure)
    else if s.lifeRefuses o v then fail rcLifecycle
    else if s.owner ≠ k ∧ !noLeaseNeeded o then fail rcLease
    else if !lenFits o.ty b.length then fail rcType
    else if badTime o.ty (bigOf k) b ∨ !s.rangeOk o i v then fail rcRange
    else
      let m : Wr := { index := q.index, sub := q.sub, rcd := recOf o q, value := v, reply := r }
      let say (x : Nat × State) : State := x.2.sendReply { r with code := x.1 }
      if o.index = 0x1030 ∧ o.sub = 1 then say (s.leaseCmd k v.toNat)
      else if o.index = 0x4201 ∧ o.sub = 1 then say (rcOk, { s with findSerial := s.findSerial.ins k v.toNat })
      else if o.index = 0x1020 ∧ o.sub = 1 then say (s.txnBegin k)
      else if o.index = 0x1020 ∧ o.sub = 2 then
        (match s.txnCommit k r with
         | (0, s) => s
         | (c, s) => s.sendReply { r with code := c })
      else if o.index = 0x1020 ∧ o.sub = 3 then say (s.txnAbort k)
      else if (s.sess k).txn then
        if neverMember o then fail rcConsistency
        else
          match s.hold k m with
          | (c, s) => s.sendReply { r with code := c }
      else s.perform k o i m

/-- A WRITE (R376): segments are assembled, and the last one completes the value.
Log: 154 DEDUCED. -/
def State.doWrite (s : State) (k : Nat) (secure : Bool) (q : DictReq) : State :=
  let r := replyTo k q
  match s.abortReport k with
  | some t => t.sendReply { r with code := rcAborted }
  | none =>
    let d := q.data.take q.length
    let more := q.flags == 1
    let x := s.sess k
    let clear := s.updSess k (fun x => { x with asm := none })
    match x.asm with
    | some (i, sub, rcd, b) =>
      if i = q.index ∧ sub = q.sub ∧ rcd = q.rcd ∧ q.offset = b.length ∧ b.length + d.length ≤ 1024 then
        if more then (s.updSess k (fun x => { x with asm := some (i, sub, rcd, b ++ d) })).sendReply r
        else clear.dictWrite k secure q (b ++ d)
      else clear.sendReply { r with code := rcType }
    | none =>
      if q.offset ≠ 0 then s.sendReply { r with code := rcType }
      else if more then (s.updSess k (fun x => { x with asm := some (q.index, q.sub, q.rcd, d) })).sendReply r
      else s.dictWrite k secure q d

/-- A READ (R35, R376): at OFFSET 0 the value is snapshotted. `ue` is an uncorrectable error in the stored value: array and
address (R372, R440). -/
def State.doRead (s : State) (k : Nat) (q : DictReq) (ue : Option (Nat × Nat)) : State :=
  let r := replyTo k q
  let n := if q.length = 0 then dataMax k else q.length
  if 0xF000 ≤ q.index then s.sendReply r
  else
    match s.findObj q with
    | .error c => s.sendReply { r with code := c }
    | .ok (o, i, j) =>
      if !s.recordOk k o q then s.sendReply { r with code := rcNoRecord }
      else if q.offset ≠ 0 then
        match (s.sess k).snap with
        | some (x, sub, rcd, b) =>
          if x = q.index ∧ sub = q.sub ∧ rcd = q.rcd then
            s.sendReply { r with total := b.length, offset := q.offset, data := (b.drop q.offset).take n }
          else s.sendReply { r with code := rcConsistency }
        | none => s.sendReply { r with code := rcConsistency }
      else
        match ue with
        | some (a, addr) => (s.memUe a addr 15 idDict).sendReply { r with code := rcMemory }
        | none =>
          match s.readVal k o i j (recOf o q) with
          | (v, s) =>
            let b := encodeVal o.ty (bigOf k) v
            let s := s.updSess k (fun x => { x with snap := some (q.index, q.sub, q.rcd, b) })
            s.sendReply { r with total := b.length, data := b.take n }

/-- A NEXT (R373, R374): the record found, or 0xFFFFFFFF.
Log: 148 DEDUCED. -/
def State.doNext (s : State) (k : Nat) (q : DictReq) : State :=
  let r := replyTo k q
  match s.findObj q with
  | .error c => s.sendReply { r with code := c }
  | .ok (o, _, _) => s.sendReply { r with rcd := (s.nextRec q.index o.nr q.rcd).getD 0xFFFFFFFF }

/-- A DESCRIBE (R375): type, class, size, retention and the records that exist.
Log: 148 DEDUCED. -/
def State.doDescribe (s : State) (k : Nat) (q : DictReq) : State :=
  let r := replyTo k q
  match s.findObj q with
  | .error c => s.sendReply { r with code := c }
  | .ok (o, i, _) =>
    if !s.recordOk k o q then s.sendReply { r with code := rcNoRecord }
    else
      let n (w v : Nat) : List Nat := fieldBytes (bigOf k) w v
      let acc := if o.acc = .rwk ∧ accessCode o i true = rcReadOnly then Acc.const.code else o.acc.code
      let cnt := if o.nr = 0 then 0 else s.recCount q.index o.nr
      let high := if o.nr = 0 then 0 else min 65535 (s.recHigh q.index o.nr)
      s.sendReply { r with total := 12, data :=
        [o.ty.code, acc] ++ n 2 o.ty.size ++ [if o.retained then 1 else 0, 0] ++ n 4 cnt ++ n 2 high }

/-- One request of a session (R374, R377). -/
def State.request (s : State) (k : Nat) (secure : Bool) (q : DictReq) (ue : Option (Nat × Nat)) : State :=
  if !s.dict.ready then s
  else
    let s := s.leaseSweep.bump Dic.REQUESTS
    if malformed k q then s.sendReply { replyTo k q with code := rcRange }
    else if q.op = 1 then s.doRead k q ue
    else if q.op = 2 then s.doWrite k secure q
    else if q.op = 3 then s.doNext k q
    else s.doDescribe k q

/-- A commit at its boundary (R382).
Log: 149 DEDUCED. -/
def State.commitApply (s : State) (c : Commit) : State :=
  let k := c.reply.session
  match s.writeAll c.members with
  | (0, _, t) => t.answer (c.members.any (fun m => m.isCritical s t)) { c.reply with code := rcOk }
  | (code, m, _) =>
    let m := m.getD {}
    let o := objAt m.index m.sub
    let rcd := if (o.map (fun o => o.1.nr)).getD 0 = 0 then 0xFFFFFFFF else m.rcd
    let s := s.updSess k (fun x => { x with failIndex := m.index, failSub := m.sub, failRec := rcd, failCode := code })
    let data := fieldBytes (bigOf k) 2 m.index ++ [m.sub, 0] ++ fieldBytes (bigOf k) 4 rcd
    s.sendReply { c.reply with code := code, total := 8, data := data }

/-- The first commit whose boundary has come. -/
def State.dueCommit (s : State) : Option Commit := s.dict.commits.find? (fun c => decide (c.frame ≤ s.frame))

/-- The first queued write, when its boundary has come and no commit goes before it (R377, R382). -/
def State.dueWrite (s : State) : Option Wr :=
  match s.dict.queue with
  | [] => none
  | w :: _ => if w.frame ≤ s.frame ∧ s.dueCommit.isNone then some w else none

def State.applyCommit (s : State) : State :=
  match s.dueCommit with
  | some c => (s.setDict (fun d => { d with commits := d.commits.erase c })).commitApply c
  | none => s

def State.applyWrite (s : State) : State :=
  match s.dueWrite with
  | some w => (s.setDict (fun d => { d with queue := d.queue.drop 1 })).applyNow w
  | none => s

/-- Everything that is due at the boundary, in its order: commits, then writes in arrival order.
Log: 149 DEDUCED. -/
def State.applyAll (s : State) : State :=
  let s := (List.range s.dict.commits.length).foldl (fun s _ => s.applyCommit) s
  (List.range s.dict.queue.length).foldl (fun s _ => s.applyWrite) s

/-- The next queued write is applied when it is one of the kind. -/
def State.applyKind (s : State) (index : Nat) (delete : Bool) : State :=
  match s.dueWrite with
  | some w => if w.index = index ∧ (w.sub == 0xFF) = delete then s.applyWrite else s
  | none => s

end Sys2Proof.Machine
end

