-- ==== Sys2Proof/Machine/FamDict.lean ====
section
/-! DEFINITION. Commands of chapter 14: requests, lease, transactions, journal and Volold Object Transport. -/

namespace Sys2Proof.Machine

/-- A request from MB08 with the operation of its row. -/
def hostRequest (op : Nat) (q : DictReq) (ue : Option (Nat × Nat)) (s : State) : Res :=
  live s (fun s => s.request 0 false { q with op := op } ue)

/-- R374, R376: READ from MB08. -/
def execDictRead (q : DictReq) (ue : Option (Nat × Nat)) (s : State) : Res := hostRequest 1 q ue s

/-- R372: WRITE from MB08. -/
def execDictWrite (q : DictReq) (s : State) : Res := hostRequest 2 q none s

/-- R373: NEXT from MB08. -/
def execDictNext (q : DictReq) (s : State) : Res := hostRequest 3 q none s

/-- R375: DESCRIBE from MB08. -/
def execDictDescribe (q : DictReq) (s : State) : Res := hostRequest 4 q none s

/-- A secure request (R385), from 0x018 (`part`) or from 0x001, which posts only while its secured session is open.
Log: 160 DEDUCED. -/
def secureRequest (op : Nat) (part : Bool) (q : DictReq) (ue : Option (Nat × Nat)) (s : State) : Res :=
  live s (fun s =>
    if part then s.request 0xFE true { q with op := op } ue
    else if s.flag Hst.SEC_SESSION then s.request 0 true { q with op := op } ue
    else s)

/-- R385: secure READ. -/
def execSecureDictRead (part : Bool) (q : DictReq) (ue : Option (Nat × Nat)) (s : State) : Res := secureRequest 1 part q ue s

/-- R385: secure WRITE. -/
def execSecureDictWrite (part : Bool) (q : DictReq) (s : State) : Res := secureRequest 2 part q none s

/-- R385: secure NEXT. -/
def execSecureDictNext (part : Bool) (q : DictReq) (s : State) : Res := secureRequest 3 part q none s

/-- R385: secure DESCRIBE. -/
def execSecureDictDescribe (part : Bool) (q : DictReq) (s : State) : Res := secureRequest 4 part q none s

/-- R377: the queued writes are applied at their boundary, after the commits. -/
def execDictQueuedWriteApply (s : State) : Res := live s (fun s => s.applyAll)

/-- A write of `n` bytes by session `k` to an object that is no table, taken by the engine as any other (R372).
Log: 152 DEDUCED. -/
def sessionWrite (k : Fin 9) (index sub n : Nat) (v : Int) (s : State) : Res :=
  live s (fun s =>
    if k.val = 0 ∨ (s.sess k).isOpen then
      let seq := if k.val = 0 then 0 else s.nat Sess.LAST_SEQ (k - 1)
      let d := fieldBytes (bigOf k) n v
      s.request k false { op := 2, index := index, sub := sub, length := d.length, data := d, seq := seq } none
    else s)

/-- R379: LEASE_CMD 1. -/
def execLeaseTake (k : Fin 9) (s : State) : Res := sessionWrite k 0x1030 1 1 1 s

/-- R379: LEASE_CMD 2. -/
def execLeaseRenew (k : Fin 9) (s : State) : Res := sessionWrite k 0x1030 1 1 2 s

/-- R379: LEASE_CMD 3. -/
def execLeaseRelease (k : Fin 9) (s : State) : Res := sessionWrite k 0x1030 1 1 3 s

/-- R380: the lease lapses at its end. -/
def execDictLeaseLapsed (s : State) : Res := live s (fun s => if s.dict.ready then s.leaseSweep else s)

/-- R381: TXN_BEGIN. -/
def execTxnBegin (k : Fin 9) (s : State) : Res := sessionWrite k 0x1020 1 1 1 s

/-- R382: TXN_COMMIT. -/
def execTxnCommit (k : Fin 9) (s : State) : Res := sessionWrite k 0x1020 2 1 1 s

/-- R382: the first commit whose boundary has come is validated and applied. -/
def execTxnCommitApply (s : State) : Res := live s (fun s => s.applyCommit)

/-- R383: TXN_ABORT. -/
def execTxnAbort (k : Fin 9) (s : State) : Res := sessionWrite k 0x1020 3 1 1 s

/-- R388: FACTORY_RESTORE. -/
def execFactoryRestore (k : Fin 9) (s : State) : Res := sessionWrite k 0x1010 2 1 1 s

/-- R387: the accepted writes go to the flash log, which then stands at `fill` percent; a failed write is repeated.
Log: 156 DEDUCED. -/
def execJournalWrite (ok : Bool) (fill : Nat) (s : State) : Res :=
  live s (fun s =>
    if s.jpend.isEmpty then s
    else if ok then s.journalFold.setJournal (fun j => { j with fill := fill })
    else (s.bump Dic.JOURNAL_FAILS).event 0x1004 idDict [a32 (s.get Dic.JOURNAL_PENDING)])

/-- JOURNAL_WEAR_PCT (R412): erase cycles used, in percent of 100,000.
Log: 156 DEDUCED. -/
def State.wearTo (s : State) (erases : Nat) : State :=
  let pct := min 100 (erases * 100 / 100000)
  let s := (s.put Pwr.JOURNAL_WEAR_PCT pct).setJournal (fun j => { j with erases := erases })
  if 90 ≤ pct ∧ !s.journal.wearRaised then
    (s.event 0x2005 0 [a8 pct]).setJournal (fun j => { j with wearRaised := true })
  else s

/-- R410, R412: past 75 % fill a new base is written, and the log starts afresh once its header is in place (`ok`).
Log: 156 DEDUCED. -/
def execJournalBaseWrite (ok : Bool) (erases : Nat) (s : State) : Res :=
  live s (fun s =>
    if s.journal.fill ≤ 75 then s
    else
      let s := s.wearTo erases
      if ok then s.journalFold.setJournal (fun j => { j with fill := 0 }) else s)

/-- R411: the calibration section is copied every CAL_FLUSH_H hours.
Log: 156 DEDUCED. -/
def execCalFlush (s : State) : Res :=
  live s (fun s => if s.journal.calAt + s.nat Pwr.CAL_FLUSH_H * 3600 * secNs ≤ s.now then s.calFlush else s)

/-- A datagram of Volold Object Transport as received (Table 14-4), with the addresses and UDP ports of its destination and sender. -/
structure Vot where
  dip : Nat
  dport : Nat
  ip : Nat
  port : Nat
  data : List Nat
  deriving DecidableEq, Repr

def Vot.bodyLen (d : Vot) : Nat := beAt d.data 6 2
def Vot.body (d : Vot) : List Nat := (d.data.drop 28).take d.bodyLen
def Vot.seq (d : Vot) : Nat := beAt d.data 8 4

/-- MAGIC, VERSION and length are as R390 has them. -/
def Vot.good (d : Vot) : Bool :=
  decide (28 ≤ d.data.length) && decide (28 + d.bodyLen ≤ d.data.length) && beAt d.data 0 2 == 0x564F && byteAt d.data 2 == 1

/-- AUTH verifies under a key. -/
def Vot.verifies (d : Vot) (key : Nat) : Bool :=
  ofLe ((d.data.drop 12).take 16) == Config.hmacSha512 key (d.data.take 12 ++ d.body) % 2 ^ 128

/-- A datagram that is dropped for its AUTH or its session: counted, and an event at most once in a device second (R391). -/
def State.votAuthFail (s : State) (d : Vot) : State :=
  let s := s.bump Dic.VOT_AUTH_FAIL
  if s.dict.authSec = s.sec + 1 then s
  else (s.event 0x1005 idDict [aOct 16 d.ip, a16 d.port]).setDict (fun x => { x with authSec := s.sec + 1 })

/-- Sessions close that have had no verified datagram for VOT_IDLE_S (R391).
Log: 158 DEDUCED. -/
def State.votIdle (s : State) : State :=
  (List.range 8).foldl (fun s i =>
    let x := s.sess (i + 1)
    if x.isOpen ∧ x.seen + s.nat Dic.VOT_IDLE_S * secNs ≤ s.now then s.sessClose (i + 1) else s) s

/-- What every datagram of one KIND goes through first (R389–R391): one that is not to IP_ADDR and VOT_UDP_PORT is another frame.
Log: 158 DEDUCED. -/
def votRx (d : Vot) (kind : Nat) (s : State) (f : State → State) : Res :=
  live s (fun s =>
    if !s.dict.ready ∨ s.nat Dic.IP_ADDR = 0 ∨ d.dip ≠ s.nat Dic.IP_ADDR ∨ d.dport ≠ s.nat Dic.VOT_UDP_PORT then s
    else
      let s := s.leaseSweep.votIdle
      if !d.good then s.bump Dic.VOT_DROPPED
      else if byteAt d.data 3 ≠ kind then s
      else f s)

/-- A datagram that must belong to an open session and verify under its key (R391). -/
def votIn (d : Vot) (f : Nat → State → State) (s : State) : State :=
  let k := byteAt d.data 4
  if 1 ≤ k ∧ k ≤ 8 ∧ (s.sess k).isOpen ∧ d.verifies (s.sess k).key then
    f k (s.updSess k (fun x => { x with seen := s.now }))
  else s.votAuthFail d

/-- REFUSE with a code (R391); the spec states neither its SEQ nor its AUTH.
Log: 157 DESIGN CHOICE. -/
def State.votRefuse (s : State) (d : Vot) (code : Nat) : State :=
  match s.draw with
  | (q, s) =>
    match s.draw with
    | (a, s) => s.emit (.datagram 7 0 (q % 2 ^ 32).toNat (a % 2 ^ 128).toNat (beBytes 4 code) d.ip d.port (s.nextHop d.ip))

/-- A session opens (R391): nonce and session number are not the spec's, nor is SEQ of OPEN_ACK. -/
def State.votAccept (s : State) (d : Vot) : State :=
  let free := ((List.range 8).map (fun i => i + 1)).filter (fun k => !(s.sess k).isOpen)
  match s.draw with
  | (n, s) =>
    match s.draw with
    | (p, s) =>
      match s.draw with
      | (q, s) =>
        let nonce := leBytes 16 (n % 2 ^ 128).toNat
        let k := free.getD (p % free.length).toNat 1
        let key := Config.hmacSha512 (s.nat Dic.MGMT_KEY) (d.body ++ nonce) % 2 ^ 256
        let s := s.updSess k (fun _ => { isOpen := true, key := key, seen := s.now })
        let s := (s.put Sess.PEER_IP d.ip (k - 1)).put Sess.PEER_PORT d.port (k - 1)
        let s := (s.put Sess.OPENED_AT s.now (k - 1)).put Sess.LAST_SEQ 0 (k - 1)
        let s := s.put Sess.SUBSCRIBED (byteAt d.data 5 % 2 : Nat) (k - 1)
        let s := s.bump Dic.SESSIONS_OPEN
        s.votSend 2 k (q % 2 ^ 32).toNat (nonce ++ [k] ++ beBytes 2 (s.nat Dic.VOT_IDLE_S))

/-- R391: OPEN.
Log: 157 DESIGN CHOICE, 158 DEDUCED. -/
def execVotOpen (dip dport ip port : Nat) (data : List Nat) (s : State) : Res :=
  let d : Vot := { dip := dip, dport := dport, ip := ip, port := port, data := data }
  votRx d 1 s (fun s =>
    if s.nat Dic.MGMT_KEY = 0 then s.votRefuse d rcLifecycle
    else if !d.verifies (s.nat Dic.MGMT_KEY) then s.votAuthFail d
    else if d.bodyLen ≠ 16 then s.bump Dic.VOT_DROPPED
    else if 8 ≤ s.nat Dic.SESSIONS_OPEN then s.votRefuse d rcBusy
    else s.votAccept d)

/-- A request from a body (R374), most significant byte first. -/
def reqOf (b : List Nat) (seq : Nat) : DictReq :=
  { op := byteAt b 0, flags := byteAt b 1, index := beAt b 2 2, sub := byteAt b 4, rsv := byteAt b 5, offset := beAt b 6 2,
    rcd := beAt b 8 4, length := beAt b 12 2, token := beAt b 14 2, data := b.drop 16, seq := seq }

/-- R392, R393: REQUEST.
Log: 158 DEDUCED. -/
def execVotRequest (dip dport ip port : Nat) (data : List Nat) (ue : Option (Nat × Nat)) (s : State) : Res :=
  let d : Vot := { dip := dip, dport := dport, ip := ip, port := port, data := data }
  votRx d 3 s (votIn d (fun k s =>
    let last := s.nat Sess.LAST_SEQ (k - 1)
    let x := s.sess k
    if d.bodyLen < 16 ∨ (x.heard ∧ d.seq < last) then s.bump Dic.VOT_DROPPED
    else if x.heard ∧ d.seq = last then (if x.kept.isEmpty then s else s.votSend 4 k last x.kept)
    else
      let s := (s.put Sess.LAST_SEQ d.seq (k - 1)).updSess k (fun x => { x with heard := true, kept := [] })
      s.request k false (reqOf d.body d.seq) ue))

/-- R391: CLOSE from the client. -/
def execVotClose (dip dport ip port : Nat) (data : List Nat) (s : State) : Res :=
  let d : Vot := { dip := dip, dport := dport, ip := ip, port := port, data := data }
  votRx d 6 s (votIn d (fun k s => s.sessClose k))

/-- R391: VOT_IDLE_S without a verified datagram closes a session. -/
def execVotIdleTimeout (s : State) : Res := live s (fun s => if s.dict.ready then s.votIdle else s)

/-- R380: session `k` writes CLOSE of MGMT session `i` + 1. -/
def execSessionClose (k : Fin 9) (i : Fin 8) (s : State) : Res := sessionWrite k (0x1041 + i) 6 1 1 s

/-- R389: session `k` writes one of MGMT_MODE, IP_ADDR, PREFIX_LEN, GATEWAY and VOT_UDP_PORT (0x1050.01 to .05).
Log: 152 DEDUCED. -/
def execMgmtAddrWrite (k : Fin 9) (f : Fin 5) (v : Nat) (s : State) : Res :=
  let n := if f.val = 1 ∨ f.val = 3 then 256 + 16 else if f.val = 4 then 2 else 1
  sessionWrite k 0x1050 (f + 1) n v s

/-- R377: the next queued write is applied: it writes an ONU record. -/
def execOnuWriteApply (s : State) : Res := live s (fun s => s.applyKind 0x4200 false)

/-- R68: the next queued write is applied: it deletes an ONU record. -/
def execOnuDelete (s : State) : Res := live s (fun s => s.applyKind 0x4200 true)

/-- R377: the next queued write is applied: it writes an Alloc-ID context. -/
def execContextWriteApply (s : State) : Res := live s (fun s => s.applyKind 0x5200 false)

/-- R377: the next queued write is applied: it deletes an Alloc-ID context. -/
def execContextDelete (s : State) : Res := live s (fun s => s.applyKind 0x5200 true)

/-- R377: the next queued write is applied: it writes an XGEM record. -/
def execXgemWriteApply (s : State) : Res := live s (fun s => s.applyKind 0xA400 false)

/-- R377: the next queued write is applied: it deletes an XGEM record. -/
def execXgemDelete (s : State) : Res := live s (fun s => s.applyKind 0xA400 true)

/-- The Internet checksum of bytes (RFC 1071).
Log: 159 PRESUMED. -/
def netSum (l : List Nat) : Nat := 65535 - ipSum (if l.length % 2 = 0 then l else l ++ [0]) 0

/-- The device's own addresses as bytes; the IPv4 address where it is a mapped one. -/
def State.ipBytes (s : State) : List Nat := leBytes 16 (s.nat Dic.IP_ADDR)
def State.ip4 (s : State) : Option (List Nat) :=
  let b := s.ipBytes
  if b.take 12 = List.replicate 10 0 ++ [255, 255] then some (b.drop 12) else none
def macBytes : List Nat := leBytes 6 Config.mgmtMac

/-- ARP (RFC 826): the reply to a request for the device's IPv4 address.
Log: 159 PRESUMED. -/
def arpAnswer (s : State) (f : List Nat) : Option (List Nat) :=
  match s.ip4 with
  | some ip =>
    if beAt f 14 8 = 0x0001080006040001 ∧ (f.drop 38).take 4 = ip then
      some ((f.drop 22).take 6 ++ macBytes ++ [8, 6, 0, 1, 8, 0, 6, 4, 0, 2] ++ macBytes ++ ip ++ (f.drop 22).take 10)
    else none
  | none => none

/-- ICMP echo (RFC 792): the reply to a request to the device's IPv4 address.
Log: 159 PRESUMED. -/
def echoAnswer (s : State) (f : List Nat) : Option (List Nat) :=
  match s.ip4 with
  | some ip =>
    let h := byteAt f 14 % 16 * 4
    let len := beAt f 16 2
    let icmp := (f.drop (14 + h)).take (len - h)
    let head := (f.drop 14).take h
    if byteAt f 14 / 16 = 4 ∧ 20 ≤ h ∧ h + 8 ≤ len ∧ 14 + len ≤ f.length ∧ byteAt f 23 = 1 ∧ (f.drop 30).take 4 = ip ∧
        beAt f 20 2 % 16384 = 0 ∧ byteAt icmp 0 = 8 ∧ byteAt icmp 1 = 0 ∧ netSum head = 0 ∧ netSum icmp = 0 then
      let back := head.take 12 ++ ip ++ (head.drop 12).take 4 ++ head.drop 20
      let bare := back.take 10 ++ [0, 0] ++ back.drop 12
      let back := bare.take 10 ++ beBytes 2 (netSum bare) ++ bare.drop 12
      let body := [0, 0, 0, 0] ++ icmp.drop 4
      let body := [0, 0] ++ beBytes 2 (netSum body) ++ icmp.drop 4
      some ((f.drop 6).take 6 ++ macBytes ++ [8, 0] ++ back ++ body)
    else none
  | none => none

/-- An ICMPv6 message in an IPv6 packet and an Ethernet frame (RFC 4443). -/
def icmp6 (dst src6 dst6 msg : List Nat) : List Nat :=
  let pseudo := src6 ++ dst6 ++ beBytes 4 msg.length ++ [0, 0, 0, 58]
  let msg := msg.take 2 ++ beBytes 2 (netSum (pseudo ++ msg.take 2 ++ [0, 0] ++ msg.drop 4)) ++ msg.drop 4
  dst ++ macBytes ++ [0x86, 0xDD, 0x60, 0, 0, 0] ++ beBytes 2 msg.length ++ [58, 255] ++ src6 ++ dst6 ++ msg

/-- IPv6 neighbour discovery (RFC 4861) and echo: the answer to a solicitation for, or an echo request to, the device's
address.
Log: 159 PRESUMED. -/
def nd6Answer (s : State) (f : List Nat) : Option (List Nat) :=
  let ip := s.ipBytes
  let len := beAt f 18 2
  let src := (f.drop 22).take 16
  let dst := (f.drop 38).take 16
  let msg := (f.drop 54).take len
  let good := s.ip4.isNone && byteAt f 14 / 16 == 6 && byteAt f 20 == 58 && decide (54 + len ≤ f.length) && decide (8 ≤ len) &&
    netSum (src ++ dst ++ beBytes 4 len ++ [0, 0, 0, 58] ++ msg) == 0
  if !good then none
  else if byteAt msg 0 = 135 ∧ byteAt f 21 = 255 ∧ byteAt msg 1 = 0 ∧ 24 ≤ len ∧ (msg.drop 8).take 16 = ip then
    let any := src.all (fun b => b == 0)
    let dest := if any then [0xFF, 2] ++ List.replicate 13 0 ++ [1] else src
    let mac := if any then [0x33, 0x33, 0, 0, 0, 1] else (f.drop 6).take 6
    some (icmp6 mac ip dest ([136, 0, 0, 0, if any then 0x20 else 0x60, 0, 0, 0] ++ ip ++ [2, 1] ++ macBytes))
  else if byteAt msg 0 = 128 ∧ byteAt msg 1 = 0 ∧ dst = ip then
    some (icmp6 ((f.drop 6).take 6) ip src ([129, 0, 0, 0] ++ msg.drop 4))
  else none

/-- R389: ARP, neighbour discovery and echo requests are answered, and every other frame is dropped.
Log: 159 PRESUMED. -/
def execArpNdEchoRx (data : List Nat) (s : State) : Res :=
  live s (fun s =>
    if s.nat Dic.IP_ADDR = 0 then s
    else
      let a := match beAt data 12 2 with
        | 0x0806 => arpAnswer s data
        | 0x0800 => echoAnswer s data
        | 0x86DD => nd6Answer s data
        | _ => none
      match a with
      | some f => s.emit (.mgmt f)
      | none => s)

end Sys2Proof.Machine
end

