-- ==== Sys2Proof/Machine/FamMem.lean ====
section
/-! DEFINITION. Commands of chapter 16: scrubbing, uncorrectable reads, injection, and the clearing of counters. -/

namespace Sys2Proof.Machine

/-- Consumer code of Table 16-3.
Log: 138 DEDUCED, 139 DEDUCED. -/
def MemUse.code : MemUse → Nat
  | .scrub | .parity .. => 16
  | .fetch .. => 1
  | .load .. => 2
  | .packet .. => 5
  | .replay _ | .tail _ => 6
  | .way .. => 7
  | .rule .. => 8
  | .record .. => 9
  | .coef .. => 10
  | .key .. | .mkey .. => 11
  | .acc _ | .pointers .. | .drift _ | .feeder .. | .counter .. => 12
  | .queue .. | .node .. => 13
  | .honey _ => 14

/-- The requester that reads (Table 1-7).
Log: 139 DEDUCED. -/
def MemUse.who : MemUse → Nat
  | .scrub | .parity .. => idScrub
  | .fetch k _ | .load k _ => idCore (k % 8)
  | .packet .. | .replay _ | .tail _ | .queue .. | .node .. => idTm
  | .way .. | .rule .. => idPipe 0
  | .record i _ | .counter i _ _ => if i = 0x4200 then idAct else if i = 0x5200 then idGrant else idTm
  | .coef .. | .feeder .. => idCal
  | .key .. | .mkey .. => idSecurity
  | .acc _ | .pointers .. => idGrant
  | .drift _ => idAct
  | .honey _ => idDict

/-- Arrays that hold what a consumer reads (Table 16-1). -/
def MemUse.fits (a : Nat) : MemUse → Bool
  | .scrub => a != 2 && a != 7
  | .parity i _ => (a == 7 && i == 0xA600) || (a == 8 && (i == 0xA800 || i == 0xA801))
  | .fetch .. | .load .. => a == 1 || a == 2
  | .packet .. => a == 0 || decide (11 ≤ a)
  | .replay _ | .tail _ => decide (11 ≤ a)
  | .way far _ => if far then decide (11 ≤ a) else a == 6
  | .rule .. => a == 8
  | .queue .. | .node .. => a == 9
  | .honey _ => a == 10
  | .record .. | .counter .. => a == 3 || a == 4 || a == 5 || a == 9
  | _ => a == 3 || a == 4 || a == 5

/-- MEM_ENTRY_INVALIDATED (R441).
Log: 141 DESIGN CHOICE. -/
def State.entryGone (s : State) (a index rcd who : Nat) : State := s.event 0x9803 who [a8 a, a16 index, a32 rcd]

/-- The entry was committed in this clock: the commit takes effect and the invalidation is dropped (R444). -/
def State.justCommitted (s : State) (index r : Nat) : Bool := s.mem.commits.contains (index, r, s.now)

/-- A parity error or an uncorrectable ACTION invalidates a rule in every replica and clears its shadow (R441). -/
def State.ruleGone (s : State) (bank r who : Nat) : State :=
  let s := if s.justCommitted (0xA800 + bank) r then s else [Rule.VALID, Rule.KEY, Rule.MASK, Rule.ACTION, Rule.PRIORITY].foldl (fun s o => s.rput o r 0 bank) s
  s.entryGone 8 (0xA800 + bank) r who

/-- The same of an associative entry. -/
def State.assocGone (s : State) (r who : Nat) : State :=
  let s := if s.justCommitted 0xA600 r then s else [Assoc.VALID, Assoc.FORM, Assoc.KEY, Assoc.LOC_TYPE, Assoc.DEST, Assoc.PRIORITY].foldl
    (fun s o => s.rput o r (o.default 0 0 r)) s
  s.entryGone 7 0xA600 r who

/-- MEM_RECORD_RELOADED (R442), with its removal flag. -/
def State.reloaded (s : State) (index rcd who : Nat) (gone : Bool) : State :=
  s.event 0x9804 who [a16 index, a32 rcd, a8 (if gone then 1 else 0 : Nat)]

/-- A record that is not yet journalled leaves with what hangs on it.
Log: 142 DEDUCED. -/
def State.recordGone (s : State) (index r : Nat) : State :=
  match index with
  | 0x4200 => s.removeOnu r
  | 0x5200 => { s.markGone 0x5200 r with ctx := s.ctx.del r }
  | 0xA400 =>
    let t := (s.markGone 0xA400 r).dropRecord 0xA910 r
    { t with reasm := t.reasm.del r, twin := { t.twin with streams := t.twin.streams.del r } }
  | k => s.markGone k r

/-- The values of a record as the retained image has them, with the SRAM tail over it; all others at their defaults. -/
def State.imageOf (s : State) (index r : Nat) : Store :=
  let mine (a : Addr) : Bool := a.index == index && a.recNo == r
  let tail (m : Store) (a : Addr) : Store := match s.od.find? a with | some v => m.ins a v | none => m.del a
  (s.jpend.filter mine).foldl tail (s.journal.image.filter (fun e => mine e.1))

/-- A record reloads (R442). A twin standby takes a critical one again from the active.
Log: 142 DEDUCED. -/
def State.recordReload (s : State) (index r who : Nat) : State :=
  if s.jpend.contains ((marker index).addr 0 0 r) then (s.recordGone index r).reloaded index r who true
  else
    let s := if index = 0x4200 then s.onuToEmpty r 0 else s
    let image := s.imageOf index r
    let od := s.od.filter (fun e => !(e.1.index == index && e.1.recNo == r))
    let s : State := { s with od := image.foldl (fun m e => m.ins e.1 e.2) od }
    let s := if index = 0x4200 ∧ s.rnat Onu.CHANNEL r = 1 then s.rput Onu.RATE r 3 else s
    let s := if index = 0xB020 then { s with tm := { s.tm with policers := s.tm.policers.del r } } else s
    let s := if s.nat Twin.ROLE = 2 ∧ s.critical { index := index, sub := 1, recNo := r } then
        s.setMem (fun m => { m with reload := m.reload ++ [(index, r, s.now)] }) else s
    s.reloaded index r who false

/-- Every packet of a queue is dropped and counted; the queue's own state starts anew (Table 16-3, code 13). -/
def State.flushQueue (s : State) (dir q : Nat) : State :=
  let s := (List.range (s.queue dir q).length).foldl (fun s _ =>
    match s.queue dir q with
    | x :: t => s.dropQueued dir q x t
    | [] => s) s
  { s with tm := { s.tm with queueSh := s.tm.queueSh.del (qKey dir q) } }

def State.flushNode (s : State) (dir n : Nat) : State :=
  let s := ((s.busyQueues dir).filter (fun q => (s.queuePath dir q).contains n)).foldl (fun s q => s.flushQueue dir q) s
  { s with tm := { s.tm with nodeSh := s.tm.nodeSh.del (nKey dir n) } }

/-- An object of a table, or without one, returns to its initial value. -/
def State.toInitial (s : State) (index sub r : Nat) : State :=
  match objAt index sub with
  | some (o, i, j) => { s with od := s.od.put o i j r (o.default i j r) }
  | none => s

/-- The packet that a replay ring was storing when the merge of its line was abandoned is not in the ring (R435).
Log: 138 DEDUCED. -/
def State.tailLost (s : State) (k : Nat) : State :=
  let r := s.tm.rings.getD k {}
  s.setRing k { r with items := r.items.dropLast }

/-- The outcome of an uncorrectable read (Table 16-3).
Log: 138 DEDUCED, 140 DEDUCED, 141 DESIGN CHOICE, 143 DEDUCED. -/
def State.memOutcome (s : State) (a : Nat) (use : MemUse) : State :=
  let who := use.who
  match use with
  | .scrub => s
  | .fetch k tval => s.emit (.trap (k % 8) 1 tval)
  | .load k tval => s.emit (.trap (k % 8) 5 tval)
  | .parity i r => if i = 0xA600 then s.assocGone r who else s.ruleGone (i - 0xA800) r who
  | .packet dir q =>
    match s.queue dir q with
    | x :: t => (s.bump Mem.UE_PKT_DROP).leaveQueue dir q x t
    | [] => s
  | .replay i =>
    match s.tm.replays[i]? with
    | some r => (s.bump Join.REPLAY_SKIP).setReplay i { r with items := r.items.drop 1 }
    | none => s
  | .tail k => s.tailLost k
  | .way far i =>
    match s.draw with
    | (v, s) => (s.delWay far i).entryGone a (v % 65536).toNat i who
  | .rule bank r => s.ruleGone bank r who
  | .record index r => s.recordReload index r who
  | .coef r rate => s.setValid r rate false
  | .key r slot =>
    let v := s.rnat OnuPm.KEY_VALID r
    let s := s.rput OnuPm.KEY_VALID r (if v.testBit (slot - 1) then v - 2 ^ (slot - 1) else v : Nat)
    s.updOnuF r (fun x => { x with key1 := if slot = 1 then none else x.key1, key2 := if slot = 1 then x.key2 else none, missing := true })
  | .mkey p c slot =>
    s.updFr p c (fun x => { x with key1 := if slot = 1 then none else x.key1, key2 := if slot = 1 then x.key2 else none })
  | .acc r => (s.rput Ctx.FIXED_ACC r 0).rput Ctx.ASSURED_ACC r 0
  | .pointers p c => s.updGrant p c (fun g => { g with p3 := 65535, p4 := 65535 })
  | .drift r => (s.rput Onu.DRIFT_PS r 0).updOnu r (fun x => { x with seedNext := true })
  | .feeder p c =>
    let o := if c = 0 then Cal.FEEDER_OFS_C0_PS else Cal.FEEDER_OFS_C1_PS
    s.put o (o.default p 0 0) p
  | .counter index sub r => s.toInitial index sub r
  | .queue dir q => (s.flushQueue dir q).recordReload (0xB000 + dir) q who
  | .node dir n => (s.flushNode dir n).recordReload (0xB010 + dir) n who
  | .honey k =>
    let l := (s.od.filter (fun e => sectionOf e.1.index == k && (e.1.sub == 0 ||
      (objAt e.1.index e.1.sub).any (fun o => o.1.retained)))).map (fun e => e.1)
    { s with jpend := l ++ s.jpend }

/-- Correctable and uncorrectable errors of a location as it is stored: 0 none, 1 correctable, 2 not. Array 7 and the search
arrays of array 8 detect and correct nothing (R433).
Log: 139 DEDUCED. -/
def State.storedError (s : State) (a addr : Nat) (parity : Bool) : Nat :=
  match s.mem.bad.find? (fun e => e.1 == a && e.2.1 == addr) with
  | some e => if parity then 2 else e.2.2
  | none => 0

def MemUse.isParity : MemUse → Bool
  | .parity .. => true
  | _ => false

/-- The scrubber may visit the array (R436, R439, R447). -/
def State.mayScrub (s : State) (a : Nat) : Bool :=
  s.flag MemA.SCRUB_ENABLE a && !s.unfitted a && (decide (a < 11) || (s.mem.asleep.find? (a - 11)).isNone)

def MemUse.scrubs : MemUse → Bool
  | .scrub | .parity .. => true
  | _ => false

/-- A correction counts, in `n` bytes: once where the scrubber and a user read the location in one clock (R444).
Log: 139 DEDUCED. -/
def State.correct (s : State) (a addr n lane : Nat) (scrubs : Bool) : State :=
  let once := s.mem.fixed.contains (a, addr, s.now, !scrubs)
  let s := s.setMem (fun m => { m with fixed := (a, addr, s.now, scrubs) :: m.fixed.filter (fun e => e.2.2.1 == s.now) })
  if once then s else (s.memCe a n).memRepeat a addr lane

/-- R432–R437, R440: a location is read by the scrubber or by a consumer of Table 16-3. `finding` is what its code shows beside
an error that was injected: 0 clean, 1 correctable in `n` bytes, 2 uncorrectable; `lane` is the byte lane or device.
Log: 139 DEDUCED. -/
def execScrubAccess (a : Fin 19) (addr : Nat) (finding : Fin 3) (n lane : Nat) (use : MemUse) (s : State) : Res :=
  live s (fun s =>
    let f := max finding.val (s.storedError a addr (use.isParity || a.val == 7))
    if use.scrubs ∧ (a.val = 2 ∨ !s.mayScrub a ∨ addr < s.mem.visit.getD a 0) then s
    else
    let s := if use.scrubs then s.setMem (fun m => { m with visit := m.visit.ins a (addr + 1) }) else s
    if f = 0 ∨ s.unfitted a then s
    else if a.val = 2 then s.memCe 2 1
    else if f = 1 then
      let s := s.correct a addr (if 11 ≤ a.val then 1 else max 1 n) lane use.scrubs
      if use.scrubs then s.setMem (fun m => { m with back := m.back.ins a addr }) else s
    else (s.memUe a addr use.code use.who).memOutcome a use)

/-- R432, R437, R444: the scrubber writes its correction back, or (`user`) a requester writes a location, which replaces any error there
and abandons the write-back of it.
Log: 139 DEDUCED. -/
def execScrubWriteback (a : Fin 19) (user : Option Nat) (s : State) : Res :=
  live s (fun s =>
    match user.or (s.mem.back.find? a) with
    | some addr =>
      s.setMem (fun m => { m with
        back := if m.back.find? a = some addr then m.back.del a else m.back
        bad := m.bad.filter (fun e => !(e.1 == a.val && e.2.1 == addr)) })
    | none => s)

/-- Milliseconds that the running lap of an array has taken, without the time that a DDR5 channel was in self-refresh (R438).
Log: 143 DEDUCED. -/
def State.lapMs (s : State) (a : Nat) : Nat :=
  (((s.now : Int) - (match s.mem.lapAt.find? a with | some t => (t : Int) | none => s.power.t0) -
    (if 11 ≤ a then s.mem.slept.getD (a - 11) 0 else 0 : Nat)) / 1000000).toNat

/-- R438: a lap ends, and the next begins.
Log: 143 DEDUCED. -/
def execScrubLapEnd (a : Fin 19) (s : State) : Res :=
  live s (fun s =>
    if a.val = 2 ∨ !s.mayScrub a then s
    else
      let ms := s.lapMs a
      let s := s.setMem (fun m => { m with lapAt := m.lapAt.ins a s.now, visit := m.visit.del a })
      let s := (s.put MemA.LAP_MS ms a).put MemA.LAP_MAX_MS (max ms (s.nat MemA.LAP_MAX_MS a)) a
      let s := if 11 ≤ a.val then
          s.setMem (fun m => { m with
            slept := m.slept.del (a - 11), lap := m.lap.filter (fun x => x != a - 11),
            access := if m.lap.contains (a - 11) then m.access.ins (a - 11) s.now else m.access })
        else s
      if s.nat MemA.LAP_LIMIT_S a * 1000 < ms then (s.put MemA.LAP_ALARM 1 a).event 0x9805 idScrub [a8 a.val, a32 ms]
      else s.put MemA.LAP_ALARM 0 a)

/-- R439: the time in self-refresh since the last lap reaches SCRUB_WAKE_H hours: the scrubber's access request wakes the channel for a
whole lap. -/
def execScrubWake (k : Fin 8) (s : State) : Res :=
  live s (fun s =>
    match s.mem.asleep.find? k with
    | none => s
    | some t =>
      let h := s.nat Mem.SCRUB_WAKE_H
      if h ≠ 0 ∧ s.flag MemA.SCRUB_ENABLE (k + 11) ∧ h * 3600 * secNs ≤ s.mem.slept.getD k 0 + (s.now - t) then
        let s := s.ddrRequest k
        s.setMem (fun m => { m with lap := k.val :: m.lap.filter (fun x => x != k.val) })
      else s)

/-- R445: INJ_ARM 1 is written, or (`hit`) the next write reaches the armed address. -/
def execInjArm (hit : Bool) (s : State) : Res :=
  live s (fun s =>
    if hit then
      if s.flag Inj.INJ_ARM then
        let a := s.nat Inj.INJ_ARRAY
        let x := s.nat Inj.INJ_ADDR
        let rest (m : MemX) := m.bad.filter (fun e => !(e.1 == a && e.2.1 == x))
        let back (m : MemX) := if m.back.find? a = some x then m.back.del a else m.back
        (s.put Inj.INJ_ARM 0).setMem (fun m => { m with bad := (a, x, s.nat Inj.INJ_BITS) :: rest m, back := back m })
      else s
    else
      match s.ownWrite Inj.INJ_ARM 0 0 0 1 with
      | (c, s) => s.result Inj.INJ_ARM 0 c)

/-- R16: a CLEAR object is written: its counters are 0 in one clock. -/
def execCounterClear (index sub r : Nat) (s : State) : Res :=
  live s (fun s =>
    match objAt index sub with
    | none => s.emit (.result index sub r rcNoSub)
    | some (o, i, j) =>
      if o.acc ≠ .wo ∨ (clearsOf o.index o.sub).isEmpty then s.emit (.result index sub r rcNoSub)
      else if o.nr ≠ 0 ∧ (o.nr ≤ r ∨ !s.recExists index r) then s.emit (.result index sub r rcNoRecord)
      else
        match s.ownWrite o i j r 1 with
        | (c, s) => s.emit (.result index sub r c))

/-- R442: a standby that has waited 1 s for the active's copy of a reloaded record asks for all of them.
Log: 145 DEDUCED. -/
def State.reloadCheck (s : State) : State :=
  if s.mem.reload.any (fun e => decide (e.2.2 + secNs ≤ s.now)) then
    let s := s.setMem (fun m => { m with reload := [] })
    if s.nat Twin.ROLE = 2 then s.resync else s
  else s

/-- What 1 ns with no command waiting does (R9).
Log: 3 DESIGN CHOICE, 14 DESIGN CHOICE. -/
def State.idle (s : State) : State := { s.tick.reloadCheck with pending := s.pending }

end Sys2Proof.Machine
end

