-- ==== Sys2Proof/Machine/FamPick.lean ====
section
/-! DEFINITION. Commands that take packets from the queue hierarchy: pick, launch times and refilled shapers (R249, R250, R253). -/

namespace Sys2Proof.Machine

/-- Trap ring of a host line node (R350). -/
abbrev hostRing (dir : Nat) : Nat := 8 + dir

/-- A line-level node can take a packet (R249, R159, R280, R350). The readiness of a MAC is the event that takes.
Log: 75 DEDUCED. -/
def State.lineTakes (s : State) (dir n : Nat) : Bool :=
  if dir = 0 ∧ n < 128 then
    s.chState (n / 2) (n % 2) == chLit && !s.standby (n / 2) && decide (s.stagedBytes (n / 2) (n % 2) < frameData (n % 2))
  else if dir = 1 ∧ n < 32 then (modeMembers (s.nat Upl.MODE (n / 4))).contains (n % 4) && (s.protProtect n).isNone
  else if n = (if dir = 0 then 128 else 32) then s.paired
  else if n = (if dir = 0 then 129 else 33) then
    decide ((s.tm.toHost.filter (fun h => h.ch == hostRing dir)).length < s.dmaFree (hostRing dir))
  else false

/-- Egress identity of a line node (R240). -/
def lineId (dir n : Nat) : Nat :=
  if dir = 0 ∧ n < 128 then idPort (n / 2) else if dir = 1 ∧ n < 32 then idUplink (n / 4)
  else if n = (if dir = 0 then 128 else 32) then idPeer else idDma

/-- A packet with its R-TAG (R269): after the last VLAN tag, before the frame's own EtherType. -/
def State.withRTag (s : State) (d : List Nat) (seq : Nat) : List Nat :=
  let o := (s.tagEnd d).1
  d.take o ++ [0xF1, 0xC1, 0, 0] ++ beBytes 2 seq ++ d.drop o

/-- One member's MAC sends a frame.
Log: 77 DEDUCED, 79 DEDUCED. -/
def State.macSend (s : State) (i : Nat) (d : List Nat) : State :=
  ((s.bump Mac.TX_FRAMES i).bumpBy Mac.TX_BYTES (d.length + 4) i).emit (.packet (idUplink (i / 4)) i d)

/-- An uplink member sends a packet, on both tributaries of a protection group (R268, R269, R280).
Log: 77 DEDUCED. -/
def State.uplinkSend (s : State) (i : Nat) (p : Pkt) : State :=
  let d := p.wire
  let tag := if p.srcType = 1 ∧ s.rflag Gen.RTAG_GEN p.xgem then p.seq else none
  let w := match tag with | some q => s.withRTag d q | none => d
  if !s.flag Mac.LINK i then s.bump Mac.TX_DOWN_DROP i
  else if tag.isSome ∧ s.nat Mac.MAX_FRAME i < w.length + 4 then s.bump Mac.TX_OVERSIZE i
  else
    match s.protWorking i with
    | some j => (s.macSend i w).macSend (s.nat Prot.PROTECT j) w
    | none => s.macSend i w

/-- A packet goes to host software; the spec states no code in AUX for one that was not trapped (Table 13-8).
Log: 76 DESIGN CHOICE. -/
def State.hostSend (s : State) (dir : Nat) (p : Pkt) : State :=
  match s.draw with
  | (v, s) =>
    let aux := (v % 512).toNat + trapAux 0 false dir p
    let q : Pkt := { p with data := p.wire }
    { s with tm := { s.tm with toHost := s.tm.toHost ++ [{ ch := hostRing dir, pkt := q, aux := aux }] } }

/-- What the egress of a line node does with a packet (R240): the port complex and the DMA engine keep its buffer until it is
sent. -/
def State.lineSend (s : State) (dir n : Nat) (x : QPkt) : State :=
  let id := lineId dir n
  let s := if x.pkt.shared then s else s.bufTo idTm id x.pkt.buf
  if dir = 0 ∧ n < 128 then
    let r := match x.dest with | .xgem r => r | _ => x.pkt.xgem
    s.updFr (n / 2) (n % 2) (fun f => { f with staged := f.staged ++ [{ x.pkt with xgem := r }] })
  else if dir = 1 ∧ n < 32 then (s.uplinkSend n x.pkt).bufDrop id x.pkt.shared x.pkt.buf
  else if id = idPeer then (s.emit (.packet id n (x.pkt.wire))).bufDrop id x.pkt.shared x.pkt.buf
  else s.hostSend dir x.pkt

/-- A line-level node takes a packet: pick, dequeue, hand-over (R249, R250). -/
def State.lineTake (s : State) (dir n : Nat) : State :=
  if !s.lineTakes dir n then s
  else
    match State.pick dir 5 n s with
    | (none, s) => s
    | (some q, s) =>
      match s.dequeue dir q with
      | (none, s) => s
      | (some x, s) => s.lineSend dir n x

/-- R250: a line-level node takes a packet. -/
def execPick (dir : Fin 2) (line : Nat) (s : State) : Res := live s (fun s => s.lineTake dir line)

/-- R253, R304: device time reaches L − LEAD of a held head; a line that waits (`ready`) takes a packet at once.
Log: 78 DEDUCED. -/
def execLaunchTimeReached (dir : Fin 2) (q : Nat) (ready : Bool) (s : State) : Res :=
  live s (fun s =>
    if ready ∧ s.rflag Queue.LAUNCH q dir ∧ s.headReady dir q then
      match s.queueLine dir q with
      | some n => s.lineTake dir n
      | none => s
    else s)

/-- R249: tokens of a queue's (`isQ`) or node's shapers are refilled; where none stays below 0, a line that waits (`ready`)
takes a packet at once.
Log: 78 DEDUCED. -/
def execShaperRefill (dir : Fin 2) (isQ : Bool) (n : Nat) (ready : Bool) (s : State) : Res :=
  live s (fun s =>
    let exists' := if isQ then s.hasRecord (0xB000 + dir) n else s.nodeExists dir n && nodeLevel dir n != 1
    if !exists' then s
    else
      let s := s.setShaper isQ dir n (s.shaper isQ dir n)
      if ready ∧ s.eligible dir false (isQ, n) then
        match (if isQ then s.queueLine dir n else (s.nodePath dir 4 n).getLast?) with
        | some l => s.lineTake dir l
        | none => s
      else s)

end Sys2Proof.Machine
end

