-- ==== Sys2Proof/Machine/Dispatch.lean ====
section
/-! DEFINITION. What each command does: one arm per constructor, each a direct call of its meaning. -/

namespace Sys2Proof.Machine

def exec (i : Instr) (s : State) : Host.Outcome State Fault Refusal :=
  match i with
  | .powerGood => Sys2Proof.Machine.execPowerGood s
  | .pgAHigh => Sys2Proof.Machine.execPgAHigh s
  | .railEnableTimeout rail => Sys2Proof.Machine.execRailEnableTimeout rail s
  | .railFault rail since => Sys2Proof.Machine.execRailFault rail since s
  | .sysRst since => Sys2Proof.Machine.execSysRst since s
  | .pcieFundamentalReset => Sys2Proof.Machine.execPcieFundamentalReset s
  | .restart => Sys2Proof.Machine.execRestart s
  | .snowdropPhaseEnd => Sys2Proof.Machine.execSnowdropPhaseEnd s
  | .secureBoot good0 good1 => Sys2Proof.Machine.execSecureBoot good0 good1 s
  | .honeycombRestore header bad => Sys2Proof.Machine.execHoneycombRestore header bad s
  | .pllDdrReady sizes => Sys2Proof.Machine.execPllDdrReady sizes s
  | .pllLockRetry locked => Sys2Proof.Machine.execPllLockRetry locked s
  | .waveStart => Sys2Proof.Machine.execWaveStart s
  | .startUpEnd => Sys2Proof.Machine.execStartUpEnd s
  | .powerCmdFull => Sys2Proof.Machine.execPowerCmdFull s
  | .powerCmdTrim => Sys2Proof.Machine.execPowerCmdTrim s
  | .powerCmdSnowdrop => Sys2Proof.Machine.execPowerCmdSnowdrop s
  | .pwrLowEntry since => Sys2Proof.Machine.execPwrLowEntry since s
  | .pwrLowExit since => Sys2Proof.Machine.execPwrLowExit since s
  | .trimSteering => Sys2Proof.Machine.execTrimSteering s
  | .trimPipelinesDrained => Sys2Proof.Machine.execTrimPipelinesDrained s
  | .replicaCopyComplete => Sys2Proof.Machine.execReplicaCopyComplete s
  | .snowdropEntryComplete => Sys2Proof.Machine.execSnowdropEntryComplete s
  | .snowdropWake b since => Sys2Proof.Machine.execSnowdropWake b since s
  | .pipelineIdleStop n => Sys2Proof.Machine.execPipelineIdleStop n s
  | .coreIdleStop k since => Sys2Proof.Machine.execCoreIdleStop k since s
  | .ddrSelfRefreshEntry k => Sys2Proof.Machine.execDdrSelfRefreshEntry k s
  | .ddrWakeComplete k => Sys2Proof.Machine.execDdrWakeComplete k s
  | .chCmdOff p c => Sys2Proof.Machine.execChCmdOff p c s
  | .chCmdDark p c => Sys2Proof.Machine.execChCmdDark p c s
  | .chCmdLit p c => Sys2Proof.Machine.execChCmdLit p c s
  | .chPendingApply p c => Sys2Proof.Machine.execChPendingApply p c s
  | .serialiserLocked p c => Sys2Proof.Machine.execSerialiserLocked p c s
  | .warmTimeout p c => Sys2Proof.Machine.execWarmTimeout p c s
  | .txLossOfLock p c => Sys2Proof.Machine.execTxLossOfLock p c s
  | .ponPllUnlock die => Sys2Proof.Machine.execPonPllUnlock die s
  | .testModeNone p errors => Sys2Proof.Machine.execTestModeNone p errors s
  | .testModePrbsTx p => Sys2Proof.Machine.execTestModePrbsTx p s
  | .testModePrbsRx p => Sys2Proof.Machine.execTestModePrbsRx p s
  | .testModeLoopback p => Sys2Proof.Machine.execTestModeLoopback p s
  | .noticeIssue p c => Sys2Proof.Machine.execNoticeIssue p c s
  | .burstNotice p c => Sys2Proof.Machine.execBurstNotice p c s
  | .preloadComplete die => Sys2Proof.Machine.execPreloadComplete die s
  | .burstStart p c => Sys2Proof.Machine.execBurstStart p c s
  | .delimiterDetected p c at' bitErrors front env => Sys2Proof.Machine.execDelimiterDetected p c at' bitErrors front env s
  | .guardWindowClose p c env => Sys2Proof.Machine.execGuardWindowClose p c env s
  | .burstEnd p c final eye => Sys2Proof.Machine.execBurstEnd p c final eye s
  | .rxClockStop p c => Sys2Proof.Machine.execRxClockStop p c s
  | .burstHeaderCheck p c correctable found ploamWaiting => Sys2Proof.Machine.execBurstHeaderCheck p c correctable found ploamWaiting s
  | .frameOutcomesComplete p c => Sys2Proof.Machine.execFrameOutcomesComplete p c s
  | .unexpLightJudge p c env => Sys2Proof.Machine.execUnexpLightJudge p c env s
  | .quietWindowDue p c => Sys2Proof.Machine.execQuietWindowDue p c s
  | .quietWindowResponse p c serial at' mic => Sys2Proof.Machine.execQuietWindowResponse p c serial at' mic s
  | .pendingTimeout r => Sys2Proof.Machine.execPendingTimeout r s
  | .registrationReceived p c regId arrival mic => Sys2Proof.Machine.execRegistrationReceived p c regId arrival mic s
  | .rangingWindowEnd p c => Sys2Proof.Machine.execRangingWindowEnd p c s
  | .onuOperatingEntry r start => Sys2Proof.Machine.execOnuOperatingEntry r start s
  | .actArrivalOffset p c => Sys2Proof.Machine.execActArrivalOffset p c s
  | .driftOffsetApply r start => Sys2Proof.Machine.execDriftOffsetApply r start s
  | .driftHoldEnd r => Sys2Proof.Machine.execDriftHoldEnd r s
  | .actLostBurst p c => Sys2Proof.Machine.execActLostBurst p c s
  | .actWrongSource p c => Sys2Proof.Machine.execActWrongSource p c s
  | .lostProbeDue r => Sys2Proof.Machine.execLostProbeDue r s
  | .lostTimeout r => Sys2Proof.Machine.execLostTimeout r s
  | .stepEvaluation r => Sys2Proof.Machine.execStepEvaluation r s
  | .rogueObservationEnd p c => Sys2Proof.Machine.execRogueObservationEnd p c s
  | .onuWriteApply => Sys2Proof.Machine.execOnuWriteApply s
  | .onuDelete => Sys2Proof.Machine.execOnuDelete s
  | .findSerial session serial => Sys2Proof.Machine.execFindSerial session serial s
  | .mapClose => Sys2Proof.Machine.execMapClose s
  | .mapHandover computeNs => Sys2Proof.Machine.execMapHandover computeNs s
  | .mapLate p c => Sys2Proof.Machine.execMapLate p c s
  | .statusReport r words map => Sys2Proof.Machine.execStatusReport r words map s
  | .usageRecord r start => Sys2Proof.Machine.execUsageRecord r start s
  | .hintPost => Sys2Proof.Machine.execHintPost s
  | .actRequestPost p c => Sys2Proof.Machine.execActRequestPost p c s
  | .contextWriteApply => Sys2Proof.Machine.execContextWriteApply s
  | .contextDelete => Sys2Proof.Machine.execContextDelete s
  | .mapCaptureArm => Sys2Proof.Machine.execMapCaptureArm s
  | .finalSetReceived p c => Sys2Proof.Machine.execFinalSetReceived p c s
  | .coeffSetWrite r rate set => Sys2Proof.Machine.execCoeffSetWrite r rate set s
  | .coeffInvalidate r mask => Sys2Proof.Machine.execCoeffInvalidate r mask s
  | .clearRxp r => Sys2Proof.Machine.execClearRxp r s
  | .coeffSnapshot r rate => Sys2Proof.Machine.execCoeffSnapshot r rate s
  | .powerFrameReceived p c seq value parity => Sys2Proof.Machine.execPowerFrameReceived p c seq value parity s
  | .rxpSampleTimeout p c => Sys2Proof.Machine.execRxpSampleTimeout p c s
  | .feederSearchFrame p c => Sys2Proof.Machine.execFeederSearchFrame p c s
  | .feederTrackFrame p c => Sys2Proof.Machine.execFeederTrackFrame p c s
  | .thermalLoopSample p c temp => Sys2Proof.Machine.execThermalLoopSample p c temp s
  | .biasLoopSample p c mpdAvg => Sys2Proof.Machine.execBiasLoopSample p c mpdAvg s
  | .biasLoopResume p c => Sys2Proof.Machine.execBiasLoopResume p c s
  | .extinctionLoopSample p c avg swing => Sys2Proof.Machine.execExtinctionLoopSample p c avg swing s
  | .loopLimitTimeout p c => Sys2Proof.Machine.execLoopLimitTimeout p c s
  | .laserSafetyTrip p c => Sys2Proof.Machine.execLaserSafetyTrip p c s
  | .laserRampComplete p c => Sys2Proof.Machine.execLaserRampComplete p c s
  | .sbResponse p status count data crc stop => Sys2Proof.Machine.execSbResponse p status count data crc stop s
  | .sbTimeout p => Sys2Proof.Machine.execSbTimeout p s
  | .moduleAbsent p => Sys2Proof.Machine.execModuleAbsent p s
  | .moduleDetected p => Sys2Proof.Machine.execModuleDetected p s
  | .moduleReadComplete p modId caps cal0 cal1 => Sys2Proof.Machine.execModuleReadComplete p modId caps cal0 cal1 s
  | .dsFrameBuild p c => Sys2Proof.Machine.execDsFrameBuild p c s
  | .ploamPost p c onu arg => Sys2Proof.Machine.execPloamPost p c onu arg s
  | .keyControlDue r => Sys2Proof.Machine.execKeyControlDue r s
  | .keyReportReceived r => Sys2Proof.Machine.execKeyReportReceived r s
  | .keyExchangeTimeout r => Sys2Proof.Machine.execKeyExchangeTimeout r s
  | .mcastLoad m => Sys2Proof.Machine.execMcastLoad m s
  | .mcastActivate m => Sys2Proof.Machine.execMcastActivate m s
  | .mskLoad m => Sys2Proof.Machine.execMskLoad m s
  | .rekey m => Sys2Proof.Machine.execRekey m s
  | .usPloam p c onu start kind body mic => Sys2Proof.Machine.execUsPloam p c onu start kind body mic s
  | .omciRequest r prio ar tci body desc => Sys2Proof.Machine.execOmciRequest r prio ar tci body desc s
  | .omciTimeout r prio => Sys2Proof.Machine.execOmciTimeout r prio s
  | .omciRx r prio ak tci body mic => Sys2Proof.Machine.execOmciRx r prio ak tci body mic s
  | .usCodeword p c r start outcome xgems => Sys2Proof.Machine.execUsCodeword p c r start outcome xgems s
  | .usXgemFrame p c r start alloc hec id keyIndex lf data => Sys2Proof.Machine.execUsXgemFrame p c r start alloc hec id keyIndex lf data s
  | .reasmTimeout x => Sys2Proof.Machine.execReasmTimeout x s
  | .pmSecondClassify r => Sys2Proof.Machine.execPmSecondClassify r s
  | .pmSecondCommit r => Sys2Proof.Machine.execPmSecondCommit r s
  | .pmBinEnd r day bad => Sys2Proof.Machine.execPmBinEnd r day bad s
  | .clearPm r => Sys2Proof.Machine.execClearPm r s
  | .xgemWriteApply => Sys2Proof.Machine.execXgemWriteApply s
  | .xgemDelete => Sys2Proof.Machine.execXgemDelete s
  | .ingressArrival n link => Sys2Proof.Machine.execIngressArrival n link s
  | .pipelinePass n => Sys2Proof.Machine.execPipelinePass n s
  | .recircPass n => Sys2Proof.Machine.execRecircPass n s
  | .ruleBeatWrite bank r beat data => Sys2Proof.Machine.execRuleBeatWrite bank r beat data s
  | .ruleCommit bank r action prio => Sys2Proof.Machine.execRuleCommit bank r action prio s
  | .ruleInvalidate bank r => Sys2Proof.Machine.execRuleInvalidate bank r s
  | .swap => Sys2Proof.Machine.execSwap s
  | .clsSwapDone => Sys2Proof.Machine.execClsSwapDone s
  | .indirEntryWrite k value => Sys2Proof.Machine.execIndirEntryWrite k value s
  | .promotionComplete => Sys2Proof.Machine.execPromotionComplete s
  | .learnMessage n => Sys2Proof.Machine.execLearnMessage n s
  | .quarantineExpiry form key => Sys2Proof.Machine.execQuarantineExpiry form key s
  | .learnFrameRx f loc key timeNs => Sys2Proof.Machine.execLearnFrameRx f loc key timeNs s
  | .agingPassStart => Sys2Proof.Machine.execAgingPassStart s
  | .agingPassEnd => Sys2Proof.Machine.execAgingPassEnd s
  | .fwdFind => Sys2Proof.Machine.execFwdFind s
  | .fwdAdd => Sys2Proof.Machine.execFwdAdd s
  | .fwdDelete => Sys2Proof.Machine.execFwdDelete s
  | .fwdFlush => Sys2Proof.Machine.execFwdFlush s
  | .fwdFlushComplete => Sys2Proof.Machine.execFwdFlushComplete s
  | .assocCommit r => Sys2Proof.Machine.execAssocCommit r s
  | .assocInvalidate r => Sys2Proof.Machine.execAssocInvalidate r s
  | .enqueueDecision => Sys2Proof.Machine.execEnqueueDecision s
  | .bufAlloc pool reqs frees => Sys2Proof.Machine.execBufAlloc pool reqs frees s
  | .bufHandover req ptr id same => Sys2Proof.Machine.execBufHandover req ptr id same s
  | .bufShare req ptr k id same => Sys2Proof.Machine.execBufShare req ptr k id same s
  | .bufRelease req ptr same => Sys2Proof.Machine.execBufRelease req ptr same s
  | .bufFree req ptr same => Sys2Proof.Machine.execBufFree req ptr same s
  | .pick dir line => Sys2Proof.Machine.execPick dir line s
  | .spillWriteComplete dir q => Sys2Proof.Machine.execSpillWriteComplete dir q s
  | .refillReadComplete dir q => Sys2Proof.Machine.execRefillReadComplete dir q s
  | .launchLate dir q => Sys2Proof.Machine.execLaunchLate dir q s
  | .replayRingExpiry k => Sys2Proof.Machine.execReplayRingExpiry k s
  | .joinGo => Sys2Proof.Machine.execJoinGo s
  | .replayPacket k => Sys2Proof.Machine.execReplayPacket k s
  | .burstCaptureArm => Sys2Proof.Machine.execBurstCaptureArm s
  | .groupEnable g => Sys2Proof.Machine.execGroupEnable g s
  | .groupDisable g => Sys2Proof.Machine.execGroupDisable g s
  | .groupLanesStarted g => Sys2Proof.Machine.execGroupLanesStarted g s
  | .groupTrained g => Sys2Proof.Machine.execGroupTrained g s
  | .uplTrainFail g lane => Sys2Proof.Machine.execUplTrainFail g lane s
  | .groupAligned g => Sys2Proof.Machine.execGroupAligned g s
  | .groupRetry g => Sys2Proof.Machine.execGroupRetry g s
  | .macRxFrame k data fcsOk fecBad => Sys2Proof.Machine.execMacRxFrame k data fcsOk fecBad s
  | .uplLinkDown k lock localFault remoteFault => Sys2Proof.Machine.execUplLinkDown k lock localFault remoteFault s
  | .otnDefectChange e cond => Sys2Proof.Machine.execOtnDefectChange e cond s
  | .ttiMultiframe e tti => Sys2Proof.Machine.execTtiMultiframe e tti s
  | .gmpPeriod k layer crc cm fill => Sys2Proof.Machine.execGmpPeriod k layer crc cm fill s
  | .otnPmSecond e blocks bips beis => Sys2Proof.Machine.execOtnPmSecond e blocks bips beis s
  | .apsReceived j req trib => Sys2Proof.Machine.execApsReceived j req trib s
  | .protHoldoffExpiry j => Sys2Proof.Machine.execProtHoldoffExpiry j s
  | .wtrExpiry j => Sys2Proof.Machine.execWtrExpiry j s
  | .protCmdClear j => Sys2Proof.Machine.execProtCmdClear j s
  | .protCmdLockout j => Sys2Proof.Machine.execProtCmdLockout j s
  | .protCmdForced j => Sys2Proof.Machine.execProtCmdForced j s
  | .protCmdManual j => Sys2Proof.Machine.execProtCmdManual j s
  | .protCmdExercise j => Sys2Proof.Machine.execProtCmdExercise j s
  | .escHoldExpiry => Sys2Proof.Machine.execEscHoldExpiry s
  | .ptpRx k msg tMac => Sys2Proof.Machine.execPtpRx k msg tMac s
  | .ptpAnnounceTimeout k => Sys2Proof.Machine.execPtpAnnounceTimeout k s
  | .servoUpdate => Sys2Proof.Machine.execServoUpdate s
  | .timeStep => Sys2Proof.Machine.execTimeStep s
  | .timeSet t => Sys2Proof.Machine.execTimeSet t s
  | .holdoverSpecExpiry => Sys2Proof.Machine.execHoldoverSpecExpiry s
  | .secondBoundary => Sys2Proof.Machine.execSecondBoundary s
  | .ppsInEdge t => Sys2Proof.Machine.execPpsInEdge t s
  | .timePpsInLost => Sys2Proof.Machine.execTimePpsInLost s
  | .esmcRx k ql => Sys2Proof.Machine.execEsmcRx k ql s
  | .esmcTimeout l => Sys2Proof.Machine.execEsmcTimeout l s
  | .synceWtrExpiry k => Sys2Proof.Machine.execSynceWtrExpiry k s
  | .synceFailHoldoff => Sys2Proof.Machine.execSynceFailHoldoff s
  | .esmcTx k => Sys2Proof.Machine.execEsmcTx k s
  | .beatSend => Sys2Proof.Machine.execBeatSend s
  | .beatRx f role st faults sent applied => Sys2Proof.Machine.execBeatRx f role st faults sent applied s
  | .beatLost => Sys2Proof.Machine.execBeatLost s
  | .hbInLost edge => Sys2Proof.Machine.execHbInLost edge s
  | .hbInPresent edges => Sys2Proof.Machine.execHbInPresent edges s
  | .helloRx f h auth => Sys2Proof.Machine.execHelloRx f h auth s
  | .seekTimeout => Sys2Proof.Machine.execSeekTimeout s
  | .mirrorRx f lazy entries => Sys2Proof.Machine.execMirrorRx f lazy entries s
  | .commitRx f k frames entries crc => Sys2Proof.Machine.execCommitRx f k frames entries crc s
  | .resendRx f k => Sys2Proof.Machine.execResendRx f k s
  | .resyncRx f => Sys2Proof.Machine.execResyncRx f s
  | .feederRx f chans => Sys2Proof.Machine.execFeederRx f chans s
  | .suspectRx f cause => Sys2Proof.Machine.execSuspectRx f cause s
  | .mirrorConfirmTimeout => Sys2Proof.Machine.execMirrorConfirmTimeout s
  | .standbyMapClose => Sys2Proof.Machine.execStandbyMapClose s
  | .mapCompare k peer => Sys2Proof.Machine.execMapCompare k peer s
  | .spanCompare k peerNonWhole peer => Sys2Proof.Machine.execSpanCompare k peerNonWhole peer s
  | .digestMissing span k => Sys2Proof.Machine.execDigestMissing span k s
  | .twinSwitchCmd => Sys2Proof.Machine.execTwinSwitchCmd s
  | .twinForce => Sys2Proof.Machine.execTwinForce s
  | .clearSuspect => Sys2Proof.Machine.execClearSuspect s
  | .twinResyncCmd => Sys2Proof.Machine.execTwinResyncCmd s
  | .legacyTakeover => Sys2Proof.Machine.execLegacyTakeover s
  | .yieldRx f n cause => Sys2Proof.Machine.execYieldRx f n cause s
  | .takenRx f n => Sys2Proof.Machine.execTakenRx f n s
  | .handoverFrame => Sys2Proof.Machine.execHandoverFrame s
  | .legacyDatagram port ip kind seq offset total data => Sys2Proof.Machine.execLegacyDatagram port ip kind seq offset total data s
  | .legacyTimeout => Sys2Proof.Machine.execLegacyTimeout s
  | .hostReset => Sys2Proof.Machine.execHostReset s
  | .coreReset k => Sys2Proof.Machine.execCoreReset k s
  | .dmaTailWrite c tail descs => Sys2Proof.Machine.execDmaTailWrite c tail descs s
  | .dmaEnable c on => Sys2Proof.Machine.execDmaEnable c on s
  | .dmaRestart c => Sys2Proof.Machine.execDmaRestart c s
  | .dmaDescriptorComplete c err a addr => Sys2Proof.Machine.execDmaDescriptorComplete c err a addr s
  | .irqCauseClear src mask => Sys2Proof.Machine.execIrqCauseClear src mask s
  | .mbxSend m reqs => Sys2Proof.Machine.execMbxSend m reqs s
  | .mbxRecv m who => Sys2Proof.Machine.execMbxRecv m who s
  | .mbxDoneRelease m k who same => Sys2Proof.Machine.execMbxDoneRelease m k who same s
  | .mbxDoneReply m k who same => Sys2Proof.Machine.execMbxDoneReply m k who same s
  | .mbxReply m who => Sys2Proof.Machine.execMbxReply m who s
  | .mbxFree m k who same => Sys2Proof.Machine.execMbxFree m k who same s
  | .mbxFlushedRead m who => Sys2Proof.Machine.execMbxFlushedRead m who s
  | .mbxTimeout m k => Sys2Proof.Machine.execMbxTimeout m k s
  | .dblRing d writes => Sys2Proof.Machine.execDblRing d writes s
  | .dblPendRead d who => Sys2Proof.Machine.execDblPendRead d who s
  | .lckAcquire n reqs rels => Sys2Proof.Machine.execLckAcquire n reqs rels s
  | .lckRelease n who => Sys2Proof.Machine.execLckRelease n who s
  | .lckForce who v => Sys2Proof.Machine.execLckForce who v s
  | .tbwWrite off data => Sys2Proof.Machine.execTbwWrite off data s
  | .spdmSessionEnd => Sys2Proof.Machine.execSpdmSessionEnd s
  | .barRegisterWrite sec who off size val descs => Sys2Proof.Machine.execBarRegisterWrite sec who off size val descs s
  | .dictRead q ue => Sys2Proof.Machine.execDictRead q ue s
  | .dictWrite q => Sys2Proof.Machine.execDictWrite q s
  | .dictNext q => Sys2Proof.Machine.execDictNext q s
  | .dictDescribe q => Sys2Proof.Machine.execDictDescribe q s
  | .secureDictRead part q ue => Sys2Proof.Machine.execSecureDictRead part q ue s
  | .secureDictWrite part q => Sys2Proof.Machine.execSecureDictWrite part q s
  | .secureDictNext part q => Sys2Proof.Machine.execSecureDictNext part q s
  | .secureDictDescribe part q => Sys2Proof.Machine.execSecureDictDescribe part q s
  | .dictQueuedWriteApply => Sys2Proof.Machine.execDictQueuedWriteApply s
  | .leaseTake k => Sys2Proof.Machine.execLeaseTake k s
  | .leaseRenew k => Sys2Proof.Machine.execLeaseRenew k s
  | .leaseRelease k => Sys2Proof.Machine.execLeaseRelease k s
  | .dictLeaseLapsed => Sys2Proof.Machine.execDictLeaseLapsed s
  | .txnBegin k => Sys2Proof.Machine.execTxnBegin k s
  | .txnCommit k => Sys2Proof.Machine.execTxnCommit k s
  | .txnCommitApply => Sys2Proof.Machine.execTxnCommitApply s
  | .txnAbort k => Sys2Proof.Machine.execTxnAbort k s
  | .factoryRestore k => Sys2Proof.Machine.execFactoryRestore k s
  | .journalWrite ok fill => Sys2Proof.Machine.execJournalWrite ok fill s
  | .journalBaseWrite ok erases => Sys2Proof.Machine.execJournalBaseWrite ok erases s
  | .calFlush => Sys2Proof.Machine.execCalFlush s
  | .votOpen dip dport ip port data => Sys2Proof.Machine.execVotOpen dip dport ip port data s
  | .votRequest dip dport ip port data ue => Sys2Proof.Machine.execVotRequest dip dport ip port data ue s
  | .votClose dip dport ip port data => Sys2Proof.Machine.execVotClose dip dport ip port data s
  | .votIdleTimeout => Sys2Proof.Machine.execVotIdleTimeout s
  | .sessionClose k n => Sys2Proof.Machine.execSessionClose k n s
  | .mgmtAddrWrite k f v => Sys2Proof.Machine.execMgmtAddrWrite k f v s
  | .imageChunk k data => Sys2Proof.Machine.execImageChunk k data s
  | .imageVerify => Sys2Proof.Machine.execImageVerify s
  | .bootPrefWrite v => Sys2Proof.Machine.execBootPrefWrite v s
  | .imageConfirm => Sys2Proof.Machine.execImageConfirm s
  | .trialTimeout => Sys2Proof.Machine.execTrialTimeout s
  | .rollbackCommit => Sys2Proof.Machine.execRollbackCommit s
  | .lifecycleSecure => Sys2Proof.Machine.execLifecycleSecure s
  | .lifecycleReturn => Sys2Proof.Machine.execLifecycleReturn s
  | .lifecycleRetire => Sys2Proof.Machine.execLifecycleRetire s
  | .debugToken token => Sys2Proof.Machine.execDebugToken token s
  | .debugEnd => Sys2Proof.Machine.execDebugEnd s
  | .debugExpiry => Sys2Proof.Machine.execDebugExpiry s
  | .timeHwmSave => Sys2Proof.Machine.execTimeHwmSave s
  | .spdmGetVersion l => Sys2Proof.Machine.execSpdmGetVersion l s
  | .spdmGetCapabilities l => Sys2Proof.Machine.execSpdmGetCapabilities l s
  | .spdmNegotiateAlgorithms l => Sys2Proof.Machine.execSpdmNegotiateAlgorithms l s
  | .spdmGetDigests l => Sys2Proof.Machine.execSpdmGetDigests l s
  | .spdmGetCertificate l slot offset length => Sys2Proof.Machine.execSpdmGetCertificate l slot offset length s
  | .spdmChallenge l slot nonce => Sys2Proof.Machine.execSpdmChallenge l slot nonce s
  | .spdmGetMeasurements l index sign nonce => Sys2Proof.Machine.execSpdmGetMeasurements l index sign nonce s
  | .spdmKeyExchange l nonce => Sys2Proof.Machine.execSpdmKeyExchange l nonce s
  | .spdmFinish l verified => Sys2Proof.Machine.execSpdmFinish l verified s
  | .spdmHeartbeat l => Sys2Proof.Machine.execSpdmHeartbeat l s
  | .spdmHeartbeatMissed l => Sys2Proof.Machine.execSpdmHeartbeatMissed l s
  | .spdmKeyUpdate l => Sys2Proof.Machine.execSpdmKeyUpdate l s
  | .spdmEndSession l => Sys2Proof.Machine.execSpdmEndSession l s
  | .scrubAccess a addr finding n lane use => Sys2Proof.Machine.execScrubAccess a addr finding n lane use s
  | .scrubWriteback a user => Sys2Proof.Machine.execScrubWriteback a user s
  | .scrubLapEnd a => Sys2Proof.Machine.execScrubLapEnd a s
  | .scrubWake k => Sys2Proof.Machine.execScrubWake k s
  | .injArm hit => Sys2Proof.Machine.execInjArm hit s
  | .counterClear index sub r => Sys2Proof.Machine.execCounterClear index sub r s
  | .pwrThermalWarn die temp since => Sys2Proof.Machine.execPwrThermalWarn die temp since s
  | .thermalTrip die temp since => Sys2Proof.Machine.execThermalTrip die temp since s
  | .bmcAlertRead => Sys2Proof.Machine.execBmcAlertRead s
  | .snowdropPowerOn => Sys2Proof.Machine.execSnowdropPowerOn s
  | .railRetry => Sys2Proof.Machine.execRailRetry s
  | .helloSend => Sys2Proof.Machine.execHelloSend s
  | .ptpMessageTx k kind tMac => Sys2Proof.Machine.execPtpMessageTx k kind tMac s
  | .localFaultExpiry => Sys2Proof.Machine.execLocalFaultExpiry s
  | .lazyRecordSend => Sys2Proof.Machine.execLazyRecordSend s
  | .tapInstruction ir => Sys2Proof.Machine.execTapInstruction ir s
  | .arpNdEchoRx data => Sys2Proof.Machine.execArpNdEchoRx data s
  | .thermalRearm temp => Sys2Proof.Machine.execThermalRearm temp s
  | .tripCoolDown temp => Sys2Proof.Machine.execTripCoolDown temp s
  | .launchTimeReached dir q ready => Sys2Proof.Machine.execLaunchTimeReached dir q ready s
  | .shaperRefill dir isQ n ready => Sys2Proof.Machine.execShaperRefill dir isQ n ready s
  | .pcieL1Entry => Sys2Proof.Machine.execPcieL1Entry s
  | .pcieWake => Sys2Proof.Machine.execPcieWake s

end Sys2Proof.Machine
end

