-- ==== Sys2Proof/Machine/Step.lean ====
section
/-! DEFINITION. One step: the command at the front of the queue, or 1 ns of device time when none waits. -/

namespace Sys2Proof.Machine

/-- The front command acts on the state with the rest of the queue; on an empty queue device time passes.
Log: 3 DESIGN CHOICE. -/
def step (s : State) : Host.Outcome State Fault Refusal :=
  match s.pending with
  | [] => .next s.idle
  | c :: rest => exec c { s with pending := rest }

/-- The command that a word spells goes to the front of the queue. The spec's table gives no command any bits, so no word
spells one.
Log: 11 DEDUCED. -/
def State.withFetchWord (s : State) (nbits w : Nat) : State :=
  match Sys2Proof.decodeTableWord nbits w with
  | some c => { s with pending := c :: s.pending }
  | none => s

end Sys2Proof.Machine
end

