-- ==== Sys2Proof/WellFormed.lean ====
section
/-! DEFINITION. Which commands are well-formed: the operand values that the spec admits. -/

namespace Sys2Proof
open Machine

/-- An ONU record number (R5). -/
def onuRec (r : Nat) : Bool := decide (r < 16384)
/-- Values of 32 and 64 bits, an octet, and an address of 16 octets. -/
def word (v : Nat) : Bool := decide (v < 2 ^ 32)
def long (v : Nat) : Bool := decide (v < 2 ^ 64)
def bytes (l : List Nat) : Bool := l.all (fun b => decide (b < 256))
def ipAddr (v : Nat) : Bool := decide (v < 2 ^ 128)
/-- A dictionary session (R378), the secure partition's among them. -/
def sessionId (k : Nat) : Bool := decide (k ≤ 8) || k == 0xFE
/-- A requester identity of Table 1-7. -/
def requester (i : Nat) : Bool :=
  i == 1 || (decide (0x10 ≤ i) && decide (i ≤ 0x18)) || i == 0x20 || i == 0x30 || (decide (0x40 ≤ i) && decide (i ≤ 0x87)) ||
    (decide (0x90 ≤ i) && decide (i ≤ 0x92)) || i == 0xA0 || i == 0xB0 || i == 0xB1 || (decide (0xC0 ≤ i) && decide (i ≤ 0xC7)) || i == 0xD0 || i == 0xE0
/-- Operations on a buffer, each with its requester. -/
def bufOps (l : List (Nat × BufOp)) : Bool :=
  l.all (fun e => requester e.1 && (match e.2 with
    | .handover id => requester id
    | .share k id => decide (k < 65536) && requester id
    | _ => true))
/-- The header of a received control frame is one that R311 has dropped, or names this type and subtype. -/
def Machine.CtrlIn.names (f : CtrlIn) (kind sub : Nat) : Bool :=
  let b (k : Nat) : Nat := f.hd.getD k 0
  let last := ([0, 2, 0, 2, 7, 0, 0] : List Nat).getD (b 0 % 16) 0
  let known := b 0 / 16 == 1 && decide (1 ≤ b 0 % 16 ∧ b 0 % 16 ≤ 6) && (if last = 0 then b 3 == 0 else decide (1 ≤ b 3 ∧ b 3 ≤ last))
  f.hd.length == 16 && bytes f.hd && word f.crc && (!known || (b 0 == 16 + kind && b 3 == sub))
/-- The fields of a request fit the header of Table 14-3. -/
def request (q : DictReq) : Bool :=
  decide (q.op < 256) && decide (q.flags < 256) && decide (q.index < 65536) && decide (q.sub < 256) && decide (q.rsv < 256) &&
    decide (q.offset < 65536) && word q.rcd && decide (q.length < 65536) && decide (q.token < 65536) && bytes q.data

/-- The command has operands that the spec admits.
Log: 7 DESIGN CHOICE. -/
def Instr.wellFormed : Instr → Bool
  | .powerGood => true
  | .pgAHigh => true
  | .railEnableTimeout _ => true
  | .railFault _ _ => true
  | .sysRst _ => true
  | .pcieFundamentalReset => true
  | .restart => true
  | .snowdropPhaseEnd => true
  | .secureBoot _ _ => true
  | .honeycombRestore _ bad => bad.all (fun k => decide (k < 17))
  | .pllDdrReady sizes => decide (sizes.length = 8) && sizes.all (fun n => decide (n ≤ 256))
  | .pllLockRetry _ => true
  | .waveStart => true
  | .startUpEnd => true
  | .powerCmdFull => true
  | .powerCmdTrim => true
  | .powerCmdSnowdrop => true
  | .pwrLowEntry _ => true
  | .pwrLowExit _ => true
  | .trimSteering => true
  | .trimPipelinesDrained => true
  | .replicaCopyComplete => true
  | .snowdropEntryComplete => true
  | .snowdropWake _ _ => true
  | .pipelineIdleStop _ => true
  | .coreIdleStop _ since => long since
  | .ddrSelfRefreshEntry _ => true
  | .ddrWakeComplete _ => true
  | .chCmdOff _ _ => true
  | .chCmdDark _ _ => true
  | .chCmdLit _ _ => true
  | .chPendingApply _ _ => true
  | .serialiserLocked _ _ => true
  | .warmTimeout _ _ => true
  | .txLossOfLock _ _ => true
  | .ponPllUnlock _ => true
  | .testModeNone _ _ => true
  | .testModePrbsTx _ => true
  | .testModePrbsRx _ => true
  | .testModeLoopback _ => true
  | .noticeIssue _ _ => true
  | .burstNotice _ _ => true
  | .preloadComplete _ => true
  | .burstStart _ _ => true
  | .delimiterDetected _ _ _ _ _ _ => true
  | .guardWindowClose _ _ _ => true
  | .burstEnd _ _ _ _ => true
  | .rxClockStop _ _ => true
  | .burstHeaderCheck _ _ _ found _ => decide (found < 1024)
  | .frameOutcomesComplete _ _ => true
  | .unexpLightJudge _ _ _ => true
  | .quietWindowDue _ _ => true
  | .quietWindowResponse _ _ serial _ _ => serial.all (fun v => decide (v < 2 ^ 64))
  | .pendingTimeout r => onuRec r
  | .registrationReceived _ _ regId _ _ => decide (regId < 2 ^ 288)
  | .rangingWindowEnd _ _ => true
  | .onuOperatingEntry r _ => onuRec r
  | .actArrivalOffset _ _ => true
  | .driftOffsetApply r _ => onuRec r
  | .driftHoldEnd r => onuRec r
  | .actLostBurst _ _ => true
  | .actWrongSource _ _ => true
  | .lostProbeDue r => onuRec r
  | .lostTimeout r => onuRec r
  | .stepEvaluation r => onuRec r
  | .rogueObservationEnd _ _ => true
  | .onuWriteApply => true
  | .onuDelete => true
  | .findSerial session serial => sessionId session && decide (serial < 2 ^ 64)
  | .mapClose => true
  | .mapHandover _ => true
  | .mapLate _ _ => true
  | .statusReport r _ _ => decide (r < 65536)
  | .usageRecord r _ => decide (r < 65536)
  | .hintPost => true
  | .actRequestPost _ _ => true
  | .contextWriteApply => true
  | .contextDelete => true
  | .mapCaptureArm => true
  | .finalSetReceived _ _ => true
  | .coeffSetWrite r _ set => onuRec r && decide (set < 2 ^ 192)
  | .coeffInvalidate r mask => onuRec r && decide (1 ≤ mask) && decide (mask ≤ 15)
  | .clearRxp r => onuRec r
  | .coeffSnapshot r _ => onuRec r
  | .powerFrameReceived _ _ seq value _ => decide (seq < 8) && decide (value < 4096)
  | .rxpSampleTimeout _ _ => true
  | .feederSearchFrame _ _ => true
  | .feederTrackFrame _ _ => true
  | .thermalLoopSample _ _ _ => true
  | .biasLoopSample _ _ _ => true
  | .biasLoopResume _ _ => true
  | .extinctionLoopSample _ _ _ _ => true
  | .loopLimitTimeout _ _ => true
  | .laserSafetyTrip _ _ => true
  | .laserRampComplete _ _ => true
  | .sbResponse _ status count data crc _ => decide (crc < 256) && data.all (fun v => decide (v < 65536)) &&
    (data.isEmpty || (status == 0 && data.length == count.val + 1))
  | .sbTimeout _ => true
  | .moduleAbsent _ => true
  | .moduleDetected _ => true
  | .moduleReadComplete _ modId caps cal0 cal1 => decide (modId < 65536) && decide (caps < 65536) && cal0.all (fun v => decide (v < 65536)) && cal1.all (fun v => decide (v < 65536))
  | .dsFrameBuild _ _ => true
  | .ploamPost _ _ onu _ => decide (onu < 1024)
  | .keyControlDue r => onuRec r
  | .keyReportReceived r => onuRec r
  | .keyExchangeTimeout r => onuRec r
  | .mcastLoad _ => true
  | .mcastActivate _ => true
  | .mskLoad _ => true
  | .rekey _ => true
  | .usPloam _ _ onu _ _ body _ => decide (onu < 1024) && bytes body
  | .omciRequest r _ _ tci body _ => onuRec r && decide (tci < 65536) && bytes body
  | .omciTimeout r _ => onuRec r
  | .omciRx r _ _ tci body _ => onuRec r && decide (tci < 65536) && bytes body
  | .usCodeword _ _ r _ _ _ => onuRec r
  | .usXgemFrame _ _ r _ alloc _ id keyIndex _ data => onuRec r && decide (alloc < 16384) && decide (id < 65536) && decide (keyIndex < 4) && bytes data
  | .reasmTimeout x => decide (x < 262144)
  | .pmSecondClassify r => onuRec r
  | .pmSecondCommit r => onuRec r
  | .pmBinEnd r _ bad => onuRec r && bad.all (fun b => decide (b.2 < 2 ^ 64))
  | .clearPm r => onuRec r
  | .xgemWriteApply => true
  | .xgemDelete => true
  | .ingressArrival _ link => link.all bytes
  | .pipelinePass _ => true
  | .recircPass _ => true
  | .ruleBeatWrite _ r _ data => decide (r < 65536) && decide (data < 2 ^ 256)
  | .ruleCommit _ r action prio => decide (r < 65536) && decide (action < 2 ^ 128) && decide (prio < 65536)
  | .ruleInvalidate _ r => decide (r < 65536)
  | .swap => true
  | .clsSwapDone => true
  | .indirEntryWrite i value => decide (i < 8192) && word value
  | .promotionComplete => true
  | .learnMessage _ => true
  | .quarantineExpiry form key => decide (1 ≤ form) && decide (form ≤ 4) && decide (key < 2 ^ 128)
  | .learnFrameRx f _ key _ => f.names 5 0 && decide (key < 2 ^ 128)
  | .agingPassStart => true
  | .agingPassEnd => true
  | .fwdFind => true
  | .fwdAdd => true
  | .fwdDelete => true
  | .fwdFlush => true
  | .fwdFlushComplete => true
  | .assocCommit r => decide (r < 65536)
  | .assocInvalidate r => decide (r < 65536)
  | .enqueueDecision => true
  | .bufAlloc pool reqs frees => decide (pool < 11) && reqs.all requester && frees.all (fun e => requester e.1 && long e.2)
  | .bufHandover req ptr id same => requester req && long ptr && requester id && bufOps same
  | .bufShare req ptr k id same => requester req && long ptr && decide (k < 65536) && requester id && bufOps same
  | .bufRelease req ptr same => requester req && long ptr && bufOps same
  | .bufFree req ptr same => requester req && long ptr && bufOps same
  | .pick dir line => decide (line < (if dir = 0 then 130 else 34))
  | .spillWriteComplete _ q => decide (q < 262144)
  | .refillReadComplete _ q => decide (q < 262144)
  | .launchLate _ q => decide (q < 262144)
  | .replayRingExpiry k => decide (k < 65536)
  | .joinGo => true
  | .replayPacket i => decide (i < 256)
  | .burstCaptureArm => true
  | .groupEnable _ => true
  | .groupDisable _ => true
  | .groupLanesStarted _ => true
  | .groupTrained _ => true
  | .uplTrainFail _ _ => true
  | .groupAligned _ => true
  | .groupRetry _ => true
  | .macRxFrame _ data _ _ => bytes data
  | .uplLinkDown _ _ _ _ => true
  | .otnDefectChange e cond => cond.fits e && (match cond with
    | .payload pt => decide (pt < 256)
    | _ => true)
  | .ttiMultiframe _ tti => decide (tti < 2 ^ 512)
  | .gmpPeriod _ _ _ _ _ => true
  | .otnPmSecond _ blocks bips beis =>
    bips.all (fun n => decide (1 ≤ n) && decide (n ≤ 8)) && decide (bips.length ≤ blocks) &&
      beis.all (fun n => decide (n < 16)) && decide (beis.length ≤ blocks)
  | .apsReceived _ _ _ => true
  | .protHoldoffExpiry _ => true
  | .wtrExpiry _ => true
  | .protCmdClear _ => true
  | .protCmdLockout _ => true
  | .protCmdForced _ => true
  | .protCmdManual _ => true
  | .protCmdExercise _ => true
  | .escHoldExpiry => true
  | .ptpRx _ msg _ => bytes msg
  | .ptpAnnounceTimeout _ => true
  | .servoUpdate => true
  | .timeStep => true
  | .timeSet t => decide (t < timeMod)
  | .holdoverSpecExpiry => true
  | .secondBoundary => true
  | .ppsInEdge _ => true
  | .timePpsInLost => true
  | .esmcRx _ _ => true
  | .esmcTimeout _ => true
  | .synceWtrExpiry _ => true
  | .synceFailHoldoff => true
  | .esmcTx _ => true
  | .beatSend => true
  | .beatRx f _ _ _ _ _ => f.names 6 0
  | .beatLost => true
  | .hbInLost _ => true
  | .hbInPresent _ => true
  | .helloRx f _ _ => f.names 4 1
  | .seekTimeout => true
  | .mirrorRx f lazy _ => f.names 1 (if lazy then 2 else 1)
  | .commitRx f k _ _ _ => f.names 2 0 && word k
  | .resendRx f k => f.names 4 5 && word k
  | .resyncRx f => f.names 4 6
  | .feederRx f _ => f.names 4 4
  | .suspectRx f _ => f.names 4 7
  | .mirrorConfirmTimeout => true
  | .standbyMapClose => true
  | .mapCompare k _ => word k
  | .spanCompare k _ _ => word k
  | .digestMissing _ k => word k
  | .twinSwitchCmd => true
  | .twinForce => true
  | .clearSuspect => true
  | .twinResyncCmd => true
  | .legacyTakeover => true
  | .yieldRx f n _ => f.names 4 2 && word n
  | .takenRx f n => f.names 4 3 && word n
  | .handoverFrame => true
  | .legacyDatagram port ip _ seq offset total data => decide (port < 65536) && ipAddr ip && word seq && word offset && word total && bytes data
  | .legacyTimeout => true
  | .hostReset => true
  | .coreReset _ => true
  | .dmaTailWrite _ tail _ => word tail
  | .dmaEnable _ _ => true
  | .dmaRestart _ => true
  | .dmaDescriptorComplete _ _ a addr => long addr && decide (a < 19)
  | .irqCauseClear _ mask => word mask
  | .mbxSend _ reqs => reqs.all requester
  | .mbxRecv _ who => requester who
  | .mbxDoneRelease _ _ who same => requester who && same.all (fun e => requester e.1)
  | .mbxDoneReply _ _ who same => requester who && same.all (fun e => requester e.1)
  | .mbxReply _ who => requester who
  | .mbxFree _ _ who same => requester who && same.all (fun e => requester e.1)
  | .mbxFlushedRead _ who => requester who
  | .mbxTimeout _ _ => true
  | .dblRing _ writes => writes.all (fun w => requester w.1 && word w.2)
  | .dblPendRead _ who => requester who
  | .lckAcquire _ reqs rels => reqs.all requester && rels.all requester
  | .lckRelease _ who => requester who
  | .lckForce who v => requester who && word v
  | .tbwWrite off data => decide (off + data.length ≤ 2 ^ 30) && bytes data
  | .spdmSessionEnd => true
  | .barRegisterWrite sec who off _ val _ => requester who && decide (off < (if sec then 4096 else 2 ^ 26)) && long val
  | .dictRead q ue => request q && decide (q.data.length ≤ 40) && ue.all (fun e => decide (e.1 < 19) && long e.2)
  | .dictWrite q => request q && decide (q.data.length ≤ 40)
  | .dictNext q => request q && decide (q.data.length ≤ 40)
  | .dictDescribe q => request q && decide (q.data.length ≤ 40)
  | .secureDictRead _ q ue => request q && decide (q.data.length ≤ 40) && ue.all (fun e => decide (e.1 < 19) && long e.2)
  | .secureDictWrite _ q => request q && decide (q.data.length ≤ 40)
  | .secureDictNext _ q => request q && decide (q.data.length ≤ 40)
  | .secureDictDescribe _ q => request q && decide (q.data.length ≤ 40)
  | .dictQueuedWriteApply => true
  | .leaseTake _ => true
  | .leaseRenew _ => true
  | .leaseRelease _ => true
  | .dictLeaseLapsed => true
  | .txnBegin _ => true
  | .txnCommit _ => true
  | .txnCommitApply => true
  | .txnAbort _ => true
  | .factoryRestore _ => true
  | .journalWrite _ fill => decide (fill ≤ 100)
  | .journalBaseWrite _ _ => true
  | .calFlush => true
  | .votOpen dip dport ip port data => ipAddr dip && decide (dport < 65536) && ipAddr ip && decide (port < 65536) && bytes data
  | .votRequest dip dport ip port data ue => ipAddr dip && decide (dport < 65536) && ue.all (fun e => decide (e.1 < 19) && long e.2) && ipAddr ip && decide (port < 65536) && bytes data
  | .votClose dip dport ip port data => ipAddr dip && decide (dport < 65536) && ipAddr ip && decide (port < 65536) && bytes data
  | .votIdleTimeout => true
  | .sessionClose _ _ => true
  | .mgmtAddrWrite _ _ v => decide (v < 2 ^ 128)
  | .imageChunk i data => word i && decide (data < 2 ^ 8192)
  | .imageVerify => true
  | .bootPrefWrite v => decide (v < 256)
  | .imageConfirm => true
  | .trialTimeout => true
  | .rollbackCommit => true
  | .lifecycleSecure => true
  | .lifecycleReturn => true
  | .lifecycleRetire => true
  | .debugToken token => bytes token
  | .debugEnd => true
  | .debugExpiry => true
  | .timeHwmSave => true
  | .spdmGetVersion _ => true
  | .spdmGetCapabilities _ => true
  | .spdmNegotiateAlgorithms _ => true
  | .spdmGetDigests _ => true
  | .spdmGetCertificate _ slot offset length => decide (slot < 8) && decide (offset < 65536) && decide (length < 65536)
  | .spdmChallenge _ slot nonce => decide (slot < 8) && decide (nonce < 2 ^ 256)
  | .spdmGetMeasurements _ index _ nonce => decide (nonce < 2 ^ 256) && decide (index < 256)
  | .spdmKeyExchange _ nonce => decide (nonce < 2 ^ 256)
  | .spdmFinish _ _ => true
  | .spdmHeartbeat _ => true
  | .spdmHeartbeatMissed _ => true
  | .spdmKeyUpdate _ => true
  | .spdmEndSession _ => true
  | .scrubAccess a addr _ n lane use => long addr && use.fits a && decide (n ≤ 64) && decide (lane < 256)
  | .scrubWriteback _ user => user.all long
  | .scrubLapEnd _ => true
  | .scrubWake _ => true
  | .injArm _ => true
  | .counterClear index sub r => decide (index < 65536) && decide (sub < 256) && word r
  | .pwrThermalWarn _ _ _ => true
  | .thermalTrip _ _ _ => true
  | .bmcAlertRead => true
  | .snowdropPowerOn => true
  | .railRetry => true
  | .helloSend => true
  | .ptpMessageTx _ _ _ => true
  | .localFaultExpiry => true
  | .lazyRecordSend => true
  | .tapInstruction _ => true
  | .arpNdEchoRx data => bytes data
  | .thermalRearm _ => true
  | .tripCoolDown _ => true
  | .launchTimeReached _ q _ => decide (q < 262144)
  | .shaperRefill _ _ n _ => decide (n < 262144)
  | .pcieL1Entry => true
  | .pcieWake => true

end Sys2Proof
end

