-- ==== Sys2Proof/Safety.lean ====
section
/-! DEFINITION. What a safe run is, and the terms in which the statements are made. -/

namespace Sys2Proof.Machine

/-- Every waiting command is well-formed. -/
def State.queueOk (s : State) : Bool := s.pending.all Instr.wellFormed

/-- The object store is canonical: addresses strictly rise, so no object has two values. -/
def State.storeOk (s : State) : Bool := s.od.sorted

/-- Nothing but the value of the listed addresses has changed in the object store. -/
def State.sameBut (s t : State) (l : List Addr) : Prop := ∀ a, a ∉ l → t.od.find? a = s.od.find? a

/-- The objects that raising an event writes: EVT_NEXT_SEQ, EVT_OLDEST_SEQ and the drop counter of DMA channel 11. -/
def eventAddrs : List Addr :=
  [Dic.EVT_NEXT_SEQ.addr 0 0 0, Dic.EVT_OLDEST_SEQ.addr 0 0 0, Dma.EVT_RING_DROP.addr 11 0 0]

/-- The objects that a start itself gives a value: START_CAUSE, START_PHASE, LIFECYCLE, ROLLBACK_MIN, DEBUG_LEVEL, SEED_VALID and
TIME_HWM. -/
def startAddrs : List Addr :=
  [Sta.START_CAUSE.addr 0 0 0, Sta.START_PHASE.addr 0 0 0, Sec.LIFECYCLE.addr 0 0 0, Sec.ROLLBACK_MIN.addr 0 0 0,
   Sec.DEBUG_LEVEL.addr 0 0 0, Tim.SEED_VALID.addr 0 0 0, Sec.TIME_HWM.addr 0 0 0]

/-- An event with this code, source and arguments was raised from `s` on: the record of that number is in the log (R394). -/
def State.raised (s t : State) (code source : Nat) (args : List (Nat × Int)) : Prop :=
  ∃ e, t.log.find? (s.nat Dic.EVT_NEXT_SEQ % 65536) = some e ∧ e.seq = s.nat Dic.EVT_NEXT_SEQ ∧ e.time = s.now ∧
    e.code = code ∧ e.source = source ∧ e.args = args

/-- A counter went up by `n` as its kind says (R14, R16): it wraps, or stops at its greatest value. -/
abbrev State.counted (s t : State) (o : Obj) (n : Nat) (i : Nat := 0) (j : Nat := 0) : Prop :=
  t.get o i j = o.ty.norm (o.plus (s.get o i j) n)

/-- The same for a counter of a record. -/
abbrev State.rcounted (s t : State) (o : Obj) (r n : Nat) (i : Nat := 0) : Prop :=
  t.rget o r i = o.ty.norm (o.plus (s.rget o r i) n)

/-- ONU record `r` exists and is one of channel `p`, `c` (R93). -/
abbrev State.onuAt (s : State) (r p c : Nat) : Prop :=
  s.hasRecord 0x4200 r = true ∧ s.rnat Onu.PORT r = p ∧ s.rnat Onu.CHANNEL r = c

/-- A control frame as the twin unit sends it from `s` (Table 12-2). -/
abbrev State.ctrlOut (s : State) (kind sub : Nat) (payload : List Int)
    (body : List Nat := Config.twinPayload kind sub payload) : Out :=
  let role : Nat := if s.nat Twin.ROLE = 1 then 1 else if s.nat Twin.ROLE = 2 then 2 else 0
  .twin kind ([(sub : Int), (role : Int), s.twin.inc, s.twin.seq, s.frame] ++ payload)
    (ctrlFrame kind sub role s.twin.inc s.twin.seq s.frame body)

/-- The downstream frame that starts now with one idle PLOAM slot (Table 6-1): its map, XGEM frames and idle bytes. -/
abbrev State.dsOf (s : State) (p c : Nat) (map : List (MapEntry × Int)) (xgems : List XgemOut) (idle : Nat) : DsFrame :=
  { k := s.frame, ponId := Config.ponId p c, mapLen := 8 * map.length, ploamCount := 1, map := map, ploams := [s.ploamOut p c {}],
    xgems := xgems, idle := idle, drive := s.txDrive p c }

/-- That frame with its bytes on the line, as the block sends it. -/
abbrev State.dsOut (s : State) (p c : Nat) (map : List (MapEntry × Int)) (xgems : List XgemOut) (idle : Nat) : Out :=
  .dsFrame p c (s.dsOf p c map xgems idle) ((s.dsOf p c map xgems idle).line c)

/-- The message in slot `k` of secure channel `m` is the only one there, posted, of the key message kind, and neither timed out nor stale. -/
abbrev State.keyMessage (s : State) (m k : Nat) (x : Slot) : Prop :=
  (s.mbxCh m).slots = [(k, x)] ∧ x.st = 1 ∧ byteAt x.data 0 < 0x80 ∧ s.mbxExpired m x = false ∧ s.incOf x.sender = x.inc

/-- The security engine has answered a key message in its slot: the result and the target, the rest erased (R169). -/
abbrev State.keyAnswered (t : State) (m k : Nat) (x : Slot) (code : Nat) : Prop :=
  (t.slot m k).st = 3 ∧ (t.slot m k).replier = idSecurity ∧
    (t.slot m k).data = leBytes 4 code ++ leBytes 4 (keyMsg x.data).target ++ List.replicate 48 0

/-- The object that a request names, with its instance, when steps 1 and 2 of R372 find one. -/
abbrev State.names (s : State) (q : DictReq) : Option (Obj × Nat × Nat) := (s.findObj q).toOption

/-- Commands that act without core power: supervision of the rails, wake, cool-down, ALERT and the TAP (R404, R425, R462). -/
def snowdropDomain : Instr → Bool
  | .snowdropPowerOn | .pgAHigh | .powerGood | .railEnableTimeout _ | .railFault _ _ | .railRetry | .pwrLowEntry _ | .pwrLowExit _
  | .snowdropWake _ _ | .tripCoolDown _ | .bmcAlertRead | .tapInstruction _ => true
  | _ => false

/-- Only objects, outputs, the log and the queues of the log's readers differ: what a command that writes objects and raises
events may change. -/
def State.logged (s t : State) : Prop :=
  t = { s with od := t.od, out := t.out, log := t.log, host := t.host, dict := t.dict }

/-- A run of `k` steps that stops at no fault and no refusal. -/
def State.runs (s : State) : Nat → State → Prop
  | 0, t => t = s
  | k + 1, t => ∃ u, step s = .next u ∧ u.runs k t

end Sys2Proof.Machine
end

