-- ==== Sys2Proof/Certificates/Slice0/Obligations.lean ====
section
/-! DEFINITION. The statements about the model, for the provers. -/

open Sys2Proof Sys2Proof.Machine

/-- A step is the command at the front of the queue, and on an empty queue 1 ns passes (the idle step is a design choice, log entry 3). A step with a command at the front is exec of that command on the state with the rest of the queue; with no command waiting the step answers a next state with an empty queue whose device time is 1 ns later, and 0 past the greatest TIME96. -/
def Obligations.StepTakesFront : Prop :=
  (∀ (c : Instr) (s : State) (rest : List Instr), step { s with pending := c :: rest } = exec c { s with pending := rest }) ∧
  (∀ (s : State), s.pending = [] → s.power.coreOn = false → ∃ t, step s = .next t ∧ t.pending = [] ∧ t.now = (if s.now + 1 = 2 ^ 64 * 1000000000 then 0 else s.now + 1) ∧ t.od = s.od ∧ t.out = s.out)

/-- The state after reset: no command waits, no core power, every object reads its default (values the spec does not give are the model's choice, log entry 4). At reset the queue is empty, the core has no power, device time is 0, the object store lists nothing, so every object reads its default, the log and all queues are empty, and both invariants of StoreAndQueue hold. -/
def Obligations.ResetState : Prop :=
  (State.reset.pending = [] ∧ State.reset.power.coreOn = false ∧ State.reset.now = 0 ∧ State.reset.od = [] ∧ State.reset.out = [] ∧ State.reset.log = [] ∧ State.reset.storeOk = true ∧ State.reset.queueOk = true) ∧
  (∀ (o : Obj) (i j r : Nat), State.reset.od.get o i j r = o.default i j r)

/-- Every step keeps the object store canonical and the queue well-formed (the queue is the model's own state). From any state whose object store has strictly rising addresses and whose waiting commands are well-formed, a step answers a state with the same two properties, and the queue has lost exactly its front. -/
def Obligations.StoreAndQueue : Prop :=
  ∀ (s t : State), s.storeOk = true → s.queueOk = true → step s = .next t → t.storeOk = true ∧ t.queueOk = true ∧ t.pending = s.pending.drop 1

/-- Every command answers a next state, and one of the core has no effect without core power (the latter is the model's reading, log entry 5). For every command and every state exec answers a next state, with the queue as it was; with the core rails off, every command but those of the Snowdrop domain leaves the whole state as it was. -/
def Obligations.CommandsComplete : Prop :=
  (∀ (c : Instr) (s : State), ∃ t, exec c s = .next t ∧ t.pending = s.pending) ∧
  (∀ (c : Instr) (s : State), s.power.coreOn = false → snowdropDomain c = false → exec c s = .next s)

/-- Saturating and wrapping counters. Each object that is a counter is saturating or wrapping over the bits of its type: an increase by n stops a saturating counter at 2^w − 1, where it stays, and takes a wrapping one round from 2^w − 1 to 0. -/
def Obligations.CounterArithmetic : Prop :=
  (∀ (s : State) (o : Obj) (i j n : Nat), o ∈ allObjs → o.cnt = .sat → 0 ≤ s.get o i j → s.get o i j ≤ 2 ^ (8 * o.ty.size) - 1 →
  (s.bumpBy o n i j).get o i j = min (s.get o i j + n) (2 ^ (8 * o.ty.size) - 1)) ∧
  (∀ (s : State) (o : Obj) (i j n : Nat), o ∈ allObjs → o.cnt = .wrap → (s.bumpBy o n i j).get o i j = (s.get o i j + n) % 2 ^ (8 * o.ty.size))

/-- The record of an automatically created ONU. When an unknown serial number answers in a quiet window of a port with AUTH_MODE 0 or 1 and the port's block has a free record, the record created for it is the lowest free one of [p·512, p·512 + 512). -/
def Obligations.AutomaticRecord : Prop :=
  ∀ (s : State) (p : Fin 64) (c : Fin 2) (at' mic sn k : Nat) (b : Burst) (zero : Int), s.power.coreOn = true → s.actLive p c = true → (s.ch p c).bursts = [b] → b.started = true →
  b.n.quiet = true → b.n.start ≤ at' → at' < b.n.stop →
  (s.actCh p c).quiets.find? (fun e => e.1 == b.n.start) = some (b.n.start, zero) → sn < 2 ^ 64 → s.micOk p c 1023 (actPloam 1 1023 8 sn) mic = true →
  (s.actCh p c).winSerials = [] → s.serialRec sn = none → s.nat ActCfg.AUTH_MODE p < 2 → (s.records 0x4200).length < 16384 → k < 512 → s.hasRecord 0x4200 (p.val * 512 + k) = false →
  ∃ t, exec (.quietWindowResponse p c (some sn) at' mic) s = .next t ∧
    (∃ r : Nat, p.val * 512 ≤ r ∧ r < p.val * 512 + 512 ∧ s.hasRecord 0x4200 r = false ∧ t.hasRecord 0x4200 r = true ∧ t.rnat Onu.SERIAL r = sn ∧ (∀ x : Nat, p.val * 512 ≤ x → x < r → s.hasRecord 0x4200 x = true))

/-- The supply sequence of the core rails: enables, power good, a rail that is late or fails, and the retry. From a device without core power the enables rise in order and POWER_GOOD starts the device at phase 1 with START_CAUSE 0 and device time from the seconds counter, every object that no fuse holds at its default but those the start itself writes. A rail that is late or fails switches the core rails off for 1 s, and a fault of the Snowdrop rail invalidates the seconds counter and clears THERMAL_TRIPS; ALERT bit 2 comes with every rail that is late or fails (log entry 137). Each of these is shown to answer a next state with its own effect, on conditions on the state and its operands alone: snowdropPowerOn, pgAHigh, powerGood, railEnableTimeout, railFault, railRetry, bmcAlertRead. -/
def Obligations.SupplySequence : Prop :=
  (∀ s : State, s.power.coreOn = false → s.power.enA = false → s.power.retryAt = none → s.power.tripped = false → s.power.st ≠ 3 →
  exec .snowdropPowerOn s = .next { s with out := .pin .pwrEnA 1 :: s.out, power := { s.power with enA := true, enAt := s.now } }) ∧
  (∀ s : State, s.power.enA = true → s.power.enB = false →
  exec .pgAHigh s = .next { s with out := .pin .pwrEnB 1 :: s.out, power := { s.power with enB := true, enAt := s.now + 1000000 } }) ∧
  (∀ s : State, s.power.enB = true → s.power.enAt + 1000000 ≤ s.now → s.power.coreOn = false → s.power.tripped = false → s.power.st ≠ 3 → s.power.trip = none →
  ∃ t, exec .powerGood s = .next t ∧ t.power.coreOn = true ∧ t.nat Sta.START_PHASE = 1 ∧ t.nat Sta.START_CAUSE = 0 ∧
    t.now = (if s.power.snowValid then s.power.snowSecs * 1000000000 else 0) ∧
    (∀ a, keptAtStart a = false → a ∉ eventAddrs → a ∉ startAddrs → t.od.find? a = none) ∧
    t.port = [] ∧ t.onu = [] ∧ t.jpend = [] ∧ t.pending = s.pending) ∧
  (∀ (rail : Fin 10) (s : State), s.power.enA = true → s.power.coreOn = false → s.power.enAt + 50000000 ≤ s.now →
  exec (.railEnableTimeout rail) s = .next { s with
    out := (if s.power.alert = 0 then [Out.pin .alertN 0] else []) ++ [Out.pin .pwrEnA 0, Out.pin .pwrEnB 0] ++ s.out
    power := { s.power with coreOn := false, enA := false, enB := false, retryAt := some (s.now + 1000000000), supply := some rail.val, alert := Nat.lor s.power.alert 4 } }) ∧
  (∀ (rail : Fin 10) (since : Nat) (s : State), s.power.enA = true ∨ rail.val < 2 → rail.val ≠ 0 → since + 10000 ≤ s.now →
  ∃ t, exec (.railFault rail since) s = .next t ∧ t.power.coreOn = false ∧ t.power.enA = false ∧ t.power.enB = false ∧
    t.power.retryAt = some (s.now + 1000000000) ∧ t.power.supply = some rail.val ∧ t.power.alert = Nat.lor s.power.alert 4 ∧
    t.power.snowSecs = s.power.snowSecs ∧ t.power.snowValid = s.power.snowValid ∧ t = { s with out := t.out, power := t.power }) ∧
  (∀ (rail : Fin 10) (since : Nat) (s : State), s.now < since + 10000 → exec (.railFault rail since) s = .next s) ∧
  (∀ (s : State) (since : Nat), since + 10000 ≤ s.now → ∃ t, exec (.railFault 0 since) s = .next t ∧ t.power.coreOn = false ∧ t.power.snowSecs = 0 ∧ t.power.snowValid = false ∧
    t.power.retryAt = some (s.now + 1000000000) ∧ t.journal.cal = s.journal.calFlash.filter (fun e => !(e.1.index == 0xA100 && decide (9 ≤ e.1.sub))) ∧ t.journal.hwm = 0 ∧ t.jpend = [] ∧
    t.nat Sta.THERMAL_TRIPS = 0 ∧ s.sameBut t [Sta.THERMAL_TRIPS.addr 0 0 0] ∧ t.pending = s.pending) ∧
  (∀ (s : State) (u : Nat), s.power.retryAt = some u → u ≤ s.now → s.power.tripped = false →
  exec .railRetry s = .next { s with out := .pin .pwrEnA 1 :: s.out, power := { s.power with enA := true, enAt := s.now, retryAt := none } }) ∧
  (∀ s : State, ∃ t, exec .bmcAlertRead s = .next t ∧ t.power = { s.power with alert := 0 } ∧ t.out.head? = some (.value s.power.alert) ∧
    t = { s with out := t.out, power := t.power })

/-- The starts from outside the supply and the phases that need no other engine. SYS_RST_N of at least 1 µs, a PCIe fundamental reset and RESTART start the device at phase 2 with causes 4, 3 and 2, every object that no fuse holds at its default but those the start writes; phase 1 ends in phase 2 with its time; PLLs not locked in phase 4 show which are and leave the phase. Each of these is shown to answer a next state with its own effect, on conditions on the state and its operands alone: sysRst, pcieFundamentalReset, restart, snowdropPhaseEnd, pllLockRetry. -/
def Obligations.Starts : Prop :=
  (∀ (s : State) (c : Instr) (cause since : Nat), s.power.coreOn = true → s.power.trip = none →
  (c = .sysRst since ∧ since + 1000 ≤ s.now ∧ cause = 4) ∨ (c = .pcieFundamentalReset ∧ cause = 3) →
  ∃ t, exec c s = .next t ∧ t.power.coreOn = true ∧ t.nat Sta.START_PHASE = 2 ∧ t.nat Sta.START_CAUSE = cause ∧
    t.now = s.startTime ∧ t.secu.lifecycle = s.secu.lifecycle ∧ t.pending = s.pending ∧ t.port = [] ∧ t.act = [] ∧ t.jpend = [] ∧
    (∀ a, keptAtStart a = false → a ∉ eventAddrs → a ∉ startAddrs → t.od.find? a = none)) ∧
  (∀ (s : State) (since : Nat), s.power.coreOn = true → s.now < since + 1000 → exec (.sysRst since) s = .next s) ∧
  (∀ s : State, s.power.coreOn = true → s.power.trip = none →
  ∃ t, exec .restart s = .next t ∧ t.power.coreOn = true ∧ t.nat Sta.START_PHASE = 2 ∧ t.nat Sta.START_CAUSE = 2 ∧
    t.journal.calFlash = s.journal.cal ∧ t.jpend = [] ∧ t.pending = s.pending ∧
    (∀ a, keptAtStart a = false → a ∉ eventAddrs → a ∉ startAddrs → t.od.find? a = none)) ∧
  (∀ s : State, s.power.coreOn = true → s.nat Sta.START_PHASE = 1 →
  ∃ t, exec .snowdropPhaseEnd s = .next t ∧ t.nat Sta.START_PHASE = 2 ∧
    t.get Sta.PHASE_END_MS 0 0 = Ty.norm .u32 (((s.now : Int) - s.power.t0) / 1000000).toNat ∧
    s.sameBut t [Sta.START_PHASE.addr 0 0 0, Sta.PHASE_END_MS.addr 0 0 0] ∧ t = { s with od := t.od }) ∧
  (∀ (s : State) (l : Fin 128), s.power.coreOn = true → s.nat Sta.START_PHASE = 4 → s.nat Sta.PHASE_END_MS 0 2 + 10 ≤ s.msT0 →
  ∃ t, exec (.pllLockRetry l) s = .next t ∧ t.nat Pwr.PLL_LOCKED = l.val ∧ t.nat Sta.START_PHASE = 4 ∧
    s.sameBut t [Pwr.PLL_LOCKED.addr 0 0 0] ∧ t = { s with od := t.od })

/-- The power commands, PWR_LOW_N and the steps of Trim entry and Trim exit. POWER_CMD begins the transition that Table 15-2 lists for the current state and answers 0, is refused with 0x0606_0001 elsewhere, and with 0x0605_0001 while a transition runs; PWR_LOW_N begins Trim entry and exit where TRIM_AUTO is 1; steering, drained pipelines and the replica copy carry the transition on. Each of these is shown to answer a next state with its own effect, on conditions on the state and its operands alone: powerCmdTrim, powerCmdFull, powerCmdSnowdrop, pwrLowEntry, pwrLowExit, trimSteering, trimPipelinesDrained, replicaCopyComplete. -/
def Obligations.PowerStates : Prop :=
  (∀ s : State, s.power.coreOn = true → s.nat Pwr.POWER_STATE = 1 → s.power.trans = 0 → s.nat Sec.LIFECYCLE ≠ 3 →
  ∃ t, exec .powerCmdTrim s = .next t ∧ t.power.trans = 1 ∧ t.power.transAt = s.now ∧ t.power.coreOn = true ∧
    t.out = .result 0x2000 2 0 0 :: s.out ∧ t.od = s.od ∧ t = { s with power := t.power, out := t.out }) ∧
  (∀ s : State, s.power.coreOn = true → s.nat Pwr.POWER_STATE = 2 → s.power.trans = 0 → s.nat Sec.LIFECYCLE ≠ 3 → s.power.low = false →
  ∃ t, exec .powerCmdFull s = .next t ∧ t.power.trans = 2 ∧ t.power.transAt = s.now ∧ (t.pipe 2).powered = true ∧
    (t.pipe 7).powered = true ∧ t.out = .result 0x2000 2 0 0 :: s.out ∧ t = { s with power := t.power, out := t.out, pipes := t.pipes }) ∧
  (∀ s : State, s.power.coreOn = true → s.nat Pwr.POWER_STATE = 1 ∨ s.nat Pwr.POWER_STATE = 2 ∨ s.nat Pwr.POWER_STATE = 4 → s.power.trans = 0 →
  ∃ t, exec .powerCmdSnowdrop s = .next t ∧ t.power.trans = 3 ∧ t.power.transAt = s.now ∧ t.power.stage = 0 ∧ t.power.wake = none ∧
    t.out.head? = some (.result 0x2000 2 0 0) ∧ t.pending = s.pending ∧ t.now = s.now) ∧
  (∀ (s : State) (c : Instr), s.power.coreOn = true → s.nat Sec.LIFECYCLE ≠ 3 →
  (c = .powerCmdFull ∧ (s.power.trans ≠ 0 ∨ s.nat Pwr.POWER_STATE ≠ 2)) ∨ (c = .powerCmdTrim ∧ (s.power.trans ≠ 0 ∨ s.nat Pwr.POWER_STATE ≠ 1)) ∨
    (c = .powerCmdSnowdrop ∧ (s.power.trans ≠ 0 ∨ s.nat Pwr.POWER_STATE ∉ [1, 2, 4])) →
  exec c s = .next { s with out := .result 0x2000 2 0 (if s.power.trans ≠ 0 then 0x06050001 else 0x06060001) :: s.out }) ∧
  (∀ (s : State) (since : Nat), since + 10000000 ≤ s.now → s.power.coreOn = true → s.nat Pwr.POWER_STATE = 1 → s.power.trans = 0 → s.flag Pwr.TRIM_AUTO = true → s.nat Sec.LIFECYCLE ≠ 3 →
  exec (.pwrLowEntry since) s = .next { s with power := { s.power with low := true, trans := 1, transAt := s.now, stage := 0, wake := none } }) ∧
  (∀ (s : State) (since : Nat), s.now < since + 10000000 → exec (.pwrLowEntry since) s = .next { s with power := { s.power with low := true } }) ∧
  (∀ (s : State) (since : Nat), since + s.nat Pwr.TRIM_EXIT_S * 1000000000 ≤ s.now → s.power.coreOn = true → s.nat Pwr.POWER_STATE = 2 → s.power.trans = 0 → s.flag Pwr.TRIM_AUTO = true → s.nat Sec.LIFECYCLE ≠ 3 →
  ∃ t, exec (.pwrLowExit since) s = .next t ∧ t.power = { s.power with low := false, trans := 2, transAt := s.now, stage := 0, wake := none } ∧
    (t.pipe 3).powered = true ∧ (t.pipe 6).powered = true ∧ t = { s with power := t.power, pipes := t.pipes }) ∧
  (∀ (s : State) (since : Nat), s.now < since + s.nat Pwr.TRIM_EXIT_S * 1000000000 → exec (.pwrLowExit since) s = .next { s with power := { s.power with low := false } }) ∧
  (∀ s : State, s.power.coreOn = true → s.power.trans = 1 → s.power.trim = false → s.frameOf s.power.transAt.toNat < s.frame →
  (∀ g : Fin 8, ({ s with power := { s.power with trim := true } } : State).trimHeld g = false) →
  exec .trimSteering s = .next { s with power := { s.power with trim := true } }) ∧
  (∀ s : State, s.power.coreOn = true → s.power.trans = 1 → s.power.trim = true →
  (∀ n ∈ trimPipes, (s.pipe n).arriving = [] ∧ (s.pipe n).ingress = [] ∧ (s.pipe n).recirc = []) →
  ∃ t, exec .trimPipelinesDrained s = .next t ∧ t.nat Pwr.POWER_STATE = 2 ∧ t.power.trans = 0 ∧ t.power.drained = true ∧
    (∀ n ∈ trimPipes, (t.pipe n).powered = false ∧ (t.pipe n).clock = false)) ∧
  (∀ s : State, s.power.coreOn = true → s.power.trans = 2 → s.power.commits = [] →
  exec .replicaCopyComplete s = .next { s with power := { s.power with trans := 4, transAt := s.now, commits := [] } })

/-- Snowdrop entry and wake, thermal supervision, and the clock stops. The end of a Snowdrop entry switches the core rails off; a wake source in WAKE_MASK is remembered during an entry; the thermal warning, its re-arming, the trip and its end; stopped clocks and DDR5 channels in self-refresh. Each of these is shown to answer a next state with its own effect, on conditions on the state and its operands alone: snowdropWake, snowdropEntryComplete, pwrThermalWarn, thermalRearm, thermalTrip, tripCoolDown, pcieL1Entry, pcieWake, pipelineIdleStop, coreIdleStop, ddrSelfRefreshEntry, ddrWakeComplete. -/
def Obligations.PowerStatesMore : Prop :=
  (∀ (s : State) (b : Fin 3) (since : Nat), s.wakeOn b = true → b.val ≠ 2 → since + 1000000 ≤ s.now → s.power.coreOn = true → s.power.tripped = false → s.power.trans = 3 → s.power.wake = none →
  exec (.snowdropWake b since) s = .next { s with power := { s.power with wake := some b.val } }) ∧
  (∀ (s : State) (b : Fin 3) (since : Nat), s.wakeOn b = true → b.val ≠ 2 → since + 1000000 ≤ s.now → s.power.coreOn = false → s.power.tripped = false → s.power.st = 3 → s.power.trip = none →
  ∃ t, exec (.snowdropWake b since) s = .next t ∧ t.power.coreOn = true ∧ t.power.enA = true ∧ t.power.enB = true ∧ t.nat Pwr.LAST_WAKE = b.val + 1 ∧
    t.nat Sta.START_PHASE = 2 ∧ t.nat Sta.START_CAUSE = 1 ∧ t.now = s.startTime) ∧
  (∀ (s : State) (since : Nat), s.now < since + 1000000 → exec (.snowdropWake 0 since) s = .next s) ∧
  (∀ s : State, s.power.coreOn = true → s.power.trans = 3 → s.power.wake = none → s.power.stage = 4 → (s.now : Int) - s.power.transAt ≤ 300000000 →
  exec .snowdropEntryComplete s = .next { s with
    out := .pin .pwrEnA 0 :: .pin .pwrEnB 0 :: s.out
    power := { s.power with coreOn := false, enA := false, enB := false, st := 3, trans := 0 } }) ∧
  (∀ (s : State) (die : Fin 3) (temp : Int) (since : Nat), s.power.coreOn = true → s.power.warned = false → since + 1000000000 ≤ s.now → s.get Sta.TJ_WARN_C * 1000 ≤ temp →
  ∃ t, exec (.pwrThermalWarn die temp since) s = .next t ∧ t.power.warned = true ∧ t.power.alert = Nat.lor s.power.alert 1 ∧
    s.raised t 0x2006 0 [(1, 1), (1, (die.val : Int)), (4, temp)] ∧ s.sameBut t eventAddrs) ∧
  (∀ (s : State) (die : Fin 3) (temp : Int) (since : Nat), s.power.coreOn = true → s.now < since + 1000000000 → exec (.pwrThermalWarn die temp since) s = .next s) ∧
  (∀ (s : State) (temp : Int), s.power.coreOn = true → temp < (s.get Sta.TJ_WARN_C - 5) * 1000 →
  exec (.thermalRearm temp) s = .next { s with power := { s.power with warned := false } }) ∧
  (∀ (s : State) (die : Fin 3) (temp : Int) (since : Nat), s.power.coreOn = true → since + 1000000 ≤ s.now → 120000 ≤ temp →
  ∃ t, exec (.thermalTrip die temp since) s = .next t ∧ t.power.coreOn = false ∧ t.power.enA = false ∧ t.power.enB = false ∧ t.power.tripped = true ∧
    t.power.trip = some (die.val, temp) ∧ t.power.st = 3 ∧ t.power.trans = 0 ∧ t.power.alert = Nat.lor s.power.alert 2 ∧
    t = { s with power := t.power, out := t.out }) ∧
  (∀ (s : State) (temp : Int), temp < (s.get Sta.TJ_WARN_C - 10) * 1000 →
  exec (.tripCoolDown temp) s = .next { s with power := { s.power with tripped := false } }) ∧
  (∀ s : State, s.power.coreOn = true → exec .pcieL1Entry s = .next { s with host := { s.host with l1 := true } }) ∧
  (∀ s : State, s.power.coreOn = true → exec .pcieWake s = .next { s with host := { s.host with l1 := false } }) ∧
  (∀ (s : State) (n : Fin 8), s.power.coreOn = true → (s.pipe n).ingress = [] → (s.pipe n).arriving = [] → (s.pipe n).idleAt + 1000 ≤ s.now →
  ∃ t, exec (.pipelineIdleStop n) s = .next t ∧ (t.pipe n).clock = false ∧ (∀ m, m ≠ n.val → t.pipe m = s.pipe m) ∧ t = { s with pipes := t.pipes }) ∧
  (∀ (s : State) (k : Fin 8) (since : Nat), s.power.coreOn = true → since + 100000 ≤ s.now → (∀ u, s.host.coreIrqAt.find? k.val = some u → u < since) →
  ∃ t, exec (.coreIdleStop k since) s = .next t ∧ k.val ∈ t.host.coreOff ∧ (∀ j, j ≠ k.val → (j ∈ t.host.coreOff ↔ j ∈ s.host.coreOff)) ∧
    t = { s with host := { s.host with coreOff := t.host.coreOff } }) ∧
  (∀ (s : State) (k : Fin 8) (since u : Nat), s.power.coreOn = true → s.host.coreIrqAt.find? k.val = some u → since ≤ u → exec (.coreIdleStop k since) s = .next s) ∧
  (∀ (s : State) (k : Fin 8), s.power.coreOn = true → (s.nat Pwr.CH_FITTED).testBit k = true → Tab.find? s.mem.asleep k = none →
  s.ddrHeld k = false → k.val ∉ s.mem.lap → s.mem.access.getD k 0 + 10000000 ≤ s.now →
  exec (.ddrSelfRefreshEntry k) s = .next { s with mem := { s.mem with asleep := Tab.ins s.mem.asleep k s.now } }) ∧
  (∀ (s : State) (k : Fin 8), s.power.coreOn = true → s.ddrHeld k = true ∨ s.now < s.mem.access.getD k 0 + 10000000 →
  exec (.ddrSelfRefreshEntry k) s = .next s) ∧
  (∀ (s : State) (k : Fin 8) (u : Nat), s.power.coreOn = true → Tab.find? s.mem.asleep k = some u → k.val ∈ s.mem.waking →
  ∃ t, exec (.ddrWakeComplete k) s = .next t ∧ Tab.find? t.mem.asleep k = none ∧ Tab.getD t.mem.slept k 0 = Tab.getD s.mem.slept k 0 + (s.now - u) ∧
    k.val ∉ t.mem.waking ∧ t = { s with mem := { s.mem with asleep := t.mem.asleep, slept := t.mem.slept, waking := t.mem.waking, access := t.mem.access } })

/-- The phases of a start: secure boot, restore, PLLs and DDR5, waves and the end of Start-up. Phase 2 runs the preferred slot where it verifies, the other where only that one does, and Recovery where neither does; phase 3 ends with RESTORE_STATUS 4 without a journal and restores every value of a good one; phase 4 ends with the channels found; a wave takes its channels to WARMING; Start-up ends in Full. Each of these is shown to answer a next state with its own effect, on conditions on the state and its operands alone: secureBoot, honeycombRestore, pllDdrReady, waveStart, startUpEnd. -/
def Obligations.StartPhases : Prop :=
  (∀ (s : State) (good0 good1 : Bool) (p : Nat), s.power.coreOn = true → s.nat Sta.START_PHASE = 2 → s.framer = [] → p ≤ 1 →
  ({ s.secu with rec0 := if good0 then s.secu.rec0 else none, rec1 := if good1 then s.secu.rec1 else none } : Secure).pref = p →
  ∃ t, exec (.secureBoot good0 good1) s = .next t ∧ t.nat Sec.BOOT_PREF = p ∧
    t.nat Sec.RUNNING_SLOT = (if slotVerify (s.slotTab p) s.secu.rollback = 0 then p
      else if slotVerify (s.slotTab (1 - p)) s.secu.rollback = 0 then 1 - p else 255) ∧
    t.nat Sta.START_PHASE = (if t.nat Sec.RUNNING_SLOT = 255 then 2 else 3) ∧
    (t.nat Sec.RUNNING_SLOT = 255 → t.nat Pwr.POWER_STATE = 4 ∧ t.dict.ready = true) ∧
    (slotVerify (s.slotTab p) s.secu.rollback = 0 ∧ s.secu.trialNext = true → t.nat Sec.TRIAL = 1) ∧
    (∀ e ∈ t.fr, e.2.key1 = none ∧ e.2.key2 = none)) ∧
  (∀ (s : State) (header : Bool) (bad : List Nat), s.power.coreOn = true → s.nat Sta.START_PHASE = 3 → s.journal.present = false → s.records 0x4200 = [] →
  ∃ t, exec (.honeycombRestore header bad) s = .next t ∧ t.nat Sta.START_PHASE = 4 ∧ t.nat Dic.RESTORE_STATUS = 4 ∧ t.nat Dic.JOURNAL_VERSION = 0 ∧
    (∀ k : Fin 17, t.nat Dic.DOMAIN_RESTORE 0 k = 4) ∧ t.dict.ready = true ∧ t.journal.image = [] ∧ t.jpend = s.jpend ∧ t.onu = s.onu) ∧
  (∀ s : State, s.power.coreOn = true → s.nat Sta.START_PHASE = 3 → s.journal.present = true → s.journal.version = 0x0203 → s.journal.factory = false →
  s.journal.image.sorted = true → s.records 0x4200 = [] → (∀ e ∈ s.journal.image, 0x3000 ≤ e.1.index ∧ e.1.index < 0x4200) →
  ∃ t, exec (.honeycombRestore true []) s = .next t ∧ t.nat Sta.START_PHASE = 4 ∧ t.nat Dic.RESTORE_STATUS = 0 ∧ t.nat Dic.JOURNAL_VERSION = 0x0203 ∧
    (∀ e ∈ s.journal.image, t.od.find? e.1 = some e.2) ∧ t.dict.ready = true ∧ t.journal.image = s.journal.image) ∧
  (∀ (s : State) (sizes : List Nat), s.power.coreOn = true → s.nat Sta.START_PHASE = 4 → (∀ g : Fin 8, s.flag Upl.ENABLE g = false) →
  s.flag Twin.TWIN_ENABLE = false → s.flag Leg.LEGACY_ENABLE = false → (∀ k : Fin 8, sizes.getD k 0 ≤ 256) →
  ∃ t, exec (.pllDdrReady sizes) s = .next t ∧ t.nat Sta.START_PHASE = 5 ∧ t.nat Pwr.PLL_LOCKED = 0x7F ∧
    (∀ k : Fin 8, t.nat Pwr.CH_SIZE_GIB 0 k = sizes.getD k 0) ∧ (∀ k : Fin 8, (t.nat Pwr.CH_FITTED).testBit k = decide (sizes.getD k 0 ≠ 0)) ∧
    t.power.phase5 = s.now) ∧
  (∀ (s : State) (p : Fin 64) (c : Fin 2), s.power.coreOn = true → s.waveDue = true → p.val % 8 = s.power.waves → s.inWave p c = true →
  s.chState p c = 0 → s.moduleMissing p c = false →
  ∃ t, exec .waveStart s = .next t ∧ t.power.waves = s.power.waves + 1 ∧ t.power.waveAt = s.now ∧ t.chState p c = 1 ∧ (t.ch p c).wave = true ∧
    (t.ch p c).warmAt = s.now) ∧
  (∀ s : State, s.power.coreOn = true → s.nat Pwr.POWER_STATE = 0 → 5 ≤ s.nat Sta.START_PHASE → 8 ≤ s.power.waves → s.roleSettled = true →
  s.power.low = false →
  ∃ t, exec .startUpEnd s = .next t ∧ t.nat Pwr.POWER_STATE = 1 ∧
    ((t.nat Sta.START_PHASE = 7 ∧ t.power = s.power) ∨ (t.nat Sta.START_PHASE = 8 ∧ t.power.served = true)) ∧
    s.sameBut t (eventAddrs ++ [Pwr.POWER_STATE.addr 0 0 0, Pwr.TRANSITIONS.addr 0 0 0, Sta.START_PHASE.addr 0 0 0, Sta.PHASE_END_MS.addr 0 4 0,
      Sta.PHASE_END_MS.addr 0 5 0, Sta.PHASE_END_MS.addr 0 6 0, Sta.SERVICE_MS.addr 0 0 0]))

/-- Writes of CH_CMD: what each target does in each channel state, and when it is refused. CH_CMD 0 and 2 wait for the frame boundary where Table 2-3 says so, 3 from DARK enters LIT with the laser on, 0 clears FAULT at once; a non-zero target in FAULT is refused with 0x0606_0001 and nothing else happens, and so is every target of a channel that the twin unit holds (R319). Each of these is shown to answer a next state with its own effect, on conditions on the state and its operands alone: chCmdOff, chCmdDark, chCmdLit. -/
def Obligations.ChannelTargets : Prop :=
  (∀ (s : State) (p : Fin 64) (c : Fin 2), s.power.coreOn = true → s.heldByTwin p c = false → (s.chState p c = 1 ∨ s.chState p c = 2 ∨ s.chState p c = 3) →
  ∃ t, exec (.chCmdOff p c) s = .next t ∧ t.nat Pon.CH_CMD p c = 0 ∧ (t.ch p c).pend = true ∧ t.chState p c = s.chState p c ∧
    t.jpend = Pon.CH_CMD.addr p c 0 :: s.jpend ∧ t.out.head? = some (.result (Pon.CH_CMD.addr p c 0).index (Pon.CH_CMD.addr p c 0).sub 0 0) ∧
    s.sameBut t [Pon.CH_CMD.addr p c 0, Dic.JOURNAL_PENDING.addr 0 0 0] ∧
    t = { s with od := t.od, jpend := t.jpend, out := t.out, port := t.port }) ∧
  (∀ (s : State) (p : Fin 64) (c : Fin 2), s.power.coreOn = true → s.heldByTwin p c = false → s.chState p c = 4 →
  ∃ t, exec (.chCmdOff p c) s = .next t ∧ t.chState p c = 0 ∧ t.nat Pon.FAULT_CAUSE p c = 0 ∧ t.nat Pon.CH_CMD p c = 0 ∧
    (t.ch p c).laser = false ∧ (t.ch p c).squelch = true ∧ (t.ch p c).rxClk = false) ∧
  (∀ (s : State) (p : Fin 64) (c : Fin 2), s.power.coreOn = true → s.heldByTwin p c = false → s.chState p c = 3 → (s.ch p c).testing = false →
  ∃ t, exec (.chCmdDark p c) s = .next t ∧ t.nat Pon.CH_CMD p c = 2 ∧ (t.ch p c).pend = true ∧ t.chState p c = 3 ∧
    s.sameBut t [Pon.CH_CMD.addr p c 0, Dic.JOURNAL_PENDING.addr 0 0 0]) ∧
  (∀ (s : State) (p : Fin 64) (c : Fin 2), s.power.coreOn = true → s.heldByTwin p c = false → s.chState p c = 2 → (s.ch p c).testing = false → s.osbRuns = true →
  ∃ t, exec (.chCmdLit p c) s = .next t ∧ t.nat Pon.CH_CMD p c = 3 ∧ t.chState p c = 3 ∧ (t.ch p c).laser = true ∧ (t.ch p c).ramping = true ∧
    (t.ch p c).rampDone = false ∧ (t.ch p c).litAt = s.now ∧ (t.ch p c).squelch = false ∧ (t.actCh p c).qwNext = s.now ∧ .trg p c 3 (ceilDiv s.now 40 * 40) ∈ t.out) ∧
  (∀ (s : State) (p : Fin 64) (c : Fin 2) (i : Instr), s.power.coreOn = true → s.heldByTwin p c = false → s.chState p c = 4 → (s.ch p c).testing = false →
  i = .chCmdDark p c ∨ i = .chCmdLit p c →
  exec i s = .next { s with out := .result (Pon.CH_CMD.addr p c 0).index (Pon.CH_CMD.addr p c 0).sub 0 0x06060001 :: s.out }) ∧
  (∀ (s : State) (p : Fin 64) (c : Fin 2) (i : Instr), s.power.coreOn = true → s.heldByTwin p c = false → (s.ch p c).testing = true → i = .chCmdDark p c ∨ i = .chCmdLit p c →
  exec i s = .next { s with out := .result (Pon.CH_CMD.addr p c 0).index (Pon.CH_CMD.addr p c 0).sub 0 0x06040002 :: s.out }) ∧
  (∀ (s : State) (p : Fin 64) (c : Fin 2) (i : Instr), s.power.coreOn = true → s.heldByTwin p c = true → i = .chCmdOff p c ∨ i = .chCmdDark p c ∨ i = .chCmdLit p c →
  exec i s = .next { s with out := .result (Pon.CH_CMD.addr p c 0).index (Pon.CH_CMD.addr p c 0).sub 0 0x06060001 :: s.out })

/-- The transitions of a channel that no write makes: the frame boundary, the time-out of WARMING, the faults, and the test modes. At the downstream frame boundary a pending target is entered; WARM_TIMEOUT_S, a transmit loss of lock and an unlocked PLL put a channel in FAULT with causes 4, 1 and 2 and squelch it; a test starts only on an OFF channel. Each of these is shown to answer a next state with its own effect, on conditions on the state and its operands alone: chPendingApply, serialiserLocked, warmTimeout, txLossOfLock, ponPllUnlock, testModePrbsTx, testModePrbsRx, testModeLoopback, testModeNone. -/
def Obligations.ChannelTransitions : Prop :=
  (∀ (s : State) (p : Fin 64) (c : Fin 2), s.power.coreOn = true → (s.ch p c).pend = true → s.chState p c = 3 → s.nat Pon.CH_CMD p c = 2 → s.osbRuns = true →
  ∃ t, exec (.chPendingApply p c) s = .next t ∧ t.chState p c = 2 ∧ (t.ch p c).pend = false ∧ (t.ch p c).laser = false ∧ (t.ch p c).squelch = true ∧
    (∀ r ∈ s.onusOf p c, (t.onuX r).frozen = true) ∧ (t.actCh p c).msgs = [] ∧ .trg p c 2 (s.now - 160) ∈ t.out ∧ s.sameBut t [Pon.STATE.addr p c 0]) ∧
  (∀ (s : State) (p : Fin 64) (c : Fin 2), s.power.coreOn = true → (s.ch p c).pend = true → s.nat Pon.CH_CMD p c = 0 →
  s.chState p c = 1 ∨ s.chState p c = 2 ∨ s.chState p c = 3 →
  ∃ t, exec (.chPendingApply p c) s = .next t ∧ t.chState p c = 0 ∧ t.nat Pon.FAULT_CAUSE p c = 0 ∧ (t.ch p c).pend = false ∧ (t.ch p c).laser = false ∧
    (t.ch p c).rxClk = false ∧ (∀ b ∈ (t.ch p c).bursts, b.ended = true) ∧
    s.counted t Pon.NOTICE_DISCARD ((s.ch p c).bursts.filter (fun b => !b.ended)).length p c) ∧
  (∀ (s : State) (p : Fin 64) (c : Fin 2), s.power.coreOn = true → s.chState p c = 2 ∨ s.chState p c = 3 →
  exec (.serialiserLocked p c) s = .next (s.updCh p c (fun x => { x with serLock := true }))) ∧
  (∀ (s : State) (p : Fin 64) (c : Fin 2), s.power.coreOn = true → s.chState p c = 1 → (s.ch p c).warmAt + s.eff Pon.WARM_TIMEOUT_S p * 1000000000 ≤ s.now →
  ∃ t, exec (.warmTimeout p c) s = .next t ∧ t.chState p c = 4 ∧ t.nat Pon.FAULT_CAUSE p c = 4 ∧ (t.ch p c).squelch = true ∧ (t.ch p c).laser = false ∧
    s.raised t 0x3001 (0x040 + p) [(1, p), (1, c), (1, 4)]) ∧
  (∀ (s : State) (p : Fin 64) (c : Fin 2), s.power.coreOn = true → s.chState p c = 1 ∨ s.chState p c = 2 ∨ s.chState p c = 3 →
  ∃ t, exec (.txLossOfLock p c) s = .next t ∧ t.chState p c = 4 ∧ t.nat Pon.FAULT_CAUSE p c = 1 ∧ (t.ch p c).squelch = true ∧ (t.ch p c).laser = false ∧
    (t.ch p c).rxClk = false ∧ s.raised t 0x3001 (0x040 + p) [(1, p), (1, c), (1, 1)]) ∧
  (∀ (s : State) (die : Fin 2), s.power.coreOn = true →
  ∃ t, exec (.ponPllUnlock die) s = .next t ∧ (t.nat Pwr.PLL_LOCKED).testBit (4 + die) = false ∧
    (∀ (p : Fin 64) (c : Fin 2), p.val / 32 = die.val → s.chState p c = 1 ∨ s.chState p c = 2 ∨ s.chState p c = 3 →
      t.chState p c = 4 ∧ t.nat Pon.FAULT_CAUSE p c = 2 ∧ (t.ch p c).squelch = true) ∧
    (∀ (p : Fin 64) (c : Fin 2), p.val / 32 ≠ die.val ∨ s.chState p c = 0 → t.chState p c = s.chState p c)) ∧
  (∀ (s : State) (p : Fin 64) (i : Instr) (m : Nat), s.power.coreOn = true → s.chState p (s.nat Pon.TEST_CHANNEL p) = 0 →
  (i = .testModePrbsTx p ∧ m = 1) ∨ (i = .testModePrbsRx p ∧ m = 2) ∨ (i = .testModeLoopback p ∧ m = 3) →
  ∃ t, exec i s = .next t ∧ t.nat Pon.TEST_MODE p = m ∧ (t.ch p (s.nat Pon.TEST_CHANNEL p)).rxClk = true ∧
    (t.ch p (s.nat Pon.TEST_CHANNEL p)).laser = false ∧ (t.ch p (s.nat Pon.TEST_CHANNEL p)).testing = true ∧ (t.ch p (s.nat Pon.TEST_CHANNEL p)).txClk = true ∧
    (t.ch p (s.nat Pon.TEST_CHANNEL p)).testSet = (if m = 2 then some (s.nat (if s.nat Pon.TEST_CHANNEL p = 0 then Pon.DEF_50G else Pon.DEF_10G) p) else none) ∧
    t.out = .result (Pon.TEST_MODE.addr p 0 0).index (Pon.TEST_MODE.addr p 0 0).sub 0 0 :: s.out ∧
    s.sameBut t [Pon.TEST_MODE.addr p 0 0] ∧ t = { s with od := t.od, out := t.out, port := t.port }) ∧
  (∀ (s : State) (p : Fin 64) (i : Instr), s.power.coreOn = true → s.chState p (s.nat Pon.TEST_CHANNEL p) ≠ 0 →
  i = .testModePrbsTx p ∨ i = .testModePrbsRx p ∨ i = .testModeLoopback p →
  exec i s = .next { s with out := .result (Pon.TEST_MODE.addr p 0 0).index (Pon.TEST_MODE.addr p 0 0).sub 0 0x06060001 :: s.out }) ∧
  (∀ (s : State) (p : Fin 64) (errors : Nat), s.power.coreOn = true → s.nat Pon.TEST_MODE p = 2 →
  ∃ t, exec (.testModeNone p errors) s = .next t ∧ t.nat Pon.TEST_MODE p = 0 ∧ s.counted t Pon.PRBS_ERRORS errors p ∧
    (∀ c : Fin 2, (t.ch p c).testing = false ∧ ((s.ch p c).testing = true → (t.ch p c).rxClk = false ∧ (t.ch p c).txClk = false)) ∧
    s.sameBut t [Pon.TEST_MODE.addr p 0 0, Pon.PRBS_ERRORS.addr p 0 0])

/-- A burst from its notice to its header check. A notice joins its channel's queue and starts the receive clock, or is discarded and counted; a preload delivers its set; the burst starts from it, or from the default set where it is late; the delimiter, the close of the guard window and the header check decide its outcome and count it; its end frees the slot and stops the clock after 16 ns. Each of these is shown to answer a next state with its own effect, on conditions on the state and its operands alone: noticeIssue, burstNotice, preloadComplete, burstStart, delimiterDetected, guardWindowClose, burstEnd, rxClockStop, burstHeaderCheck. -/
def Obligations.BurstReception : Prop :=
  (∀ (s : State) (p : Fin 64) (c : Fin 2) (n : Notice) (rest : List Notice), s.power.coreOn = true → (s.grantCh p c).toIssue = n :: rest →
  s.twin.takeN = none → (n.start : Int) + s.feeder p c ≤ (s.now : Int) * 1000 + 400000 →
  ∃ t, exec (.noticeIssue p c) s = .next t ∧ (t.grantCh p c).toIssue = rest ∧ (t.ch p c).link = (s.ch p c).link ++ [n] ∧
    t.out = .notice p c n :: s.out ∧ t = { s with grant := t.grant, port := t.port, out := t.out }) ∧
  (∀ (s : State) (p : Fin 64) (c : Fin 2) (n : Notice) (rest : List Notice), s.power.coreOn = true → (s.ch p c).link = n :: rest →
  s.noticeBad p c n = false → n.quiet = false →
  ∃ t, exec (.burstNotice p c) s = .next t ∧ (t.ch p c).link = rest ∧ (t.ch p c).rxClk = true ∧
    (t.ch p c).bursts = assignSlots (s.dfltSets p) ((s.ch p c).bursts ++ [{ n := n }]) ∧ (t.ch p c).starts = (n.start :: (s.ch p c).starts).take 3 ∧
    (t.ch p c).lastEnd = n.stop ∧ t = { s with port := t.port }) ∧
  (∀ (s : State) (p : Fin 64) (c : Fin 2) (n : Notice) (rest : List Notice), s.power.coreOn = true → (s.ch p c).link = n :: rest →
  s.noticeBad p c n = true →
  ∃ t, exec (.burstNotice p c) s = .next t ∧ (t.ch p c).link = rest ∧ (t.ch p c).bursts = (s.ch p c).bursts ∧ s.counted t Pon.NOTICE_DISCARD 1 p c ∧
    s.sameBut t [Pon.NOTICE_DISCARD.addr p c 0] ∧ t = { s with port := t.port, od := t.od }) ∧
  (∀ (s : State) (die : Fin 2) (p : Fin 64) (b : Burst), s.power.coreOn = true → p.val / 32 = die.val →
  arbPick (s.arb.getD die.val 0) (s.preloadPorts die) = some (0x040 + p.val) → (s.ch p 0).bursts = [b] →
  b.slot = true → b.loaded = none → b.ended = false → s.storeWrites die = [] →
  ∃ t, exec (.preloadComplete die) s = .next t ∧ t.arb.getD die.val 0 = 0x040 + p.val + 1 ∧
    (t.ch p 0).bursts = [{ b with loaded := some (s.preloadSet p 0 b).1, fromStore := (s.preloadSet p 0 b).2 }] ∧
    t = { s with arb := t.arb, port := t.port }) ∧
  (∀ (s : State) (p : Fin 64) (c : Fin 2) (b : Burst) (v : Nat), s.power.coreOn = true → (s.ch p c).bursts = [b] → b.started = false → b.ended = false →
  b.n.quiet = false → b.loaded = some v → b.fromStore = true →
  (s.optic p).trgFree ≤ ((b.n.delim + s.feederAt p c b.n.start).toNat + bitsPs b.n.rate 64) / 40000 * 40 - 160 →
  ∃ t, exec (.burstStart p c) s = .next t ∧
    (t.ch p c).bursts = [{ b with started := true, late := false, active := v, front := v % 1024, frozen := s.eff Pon.ADAPT_FREEZE p != 0, ffeStep := s.eff Pon.FFE_STEP p, dfeStep := s.eff Pon.DFE_STEP p, coded := true }] ∧
    (t.optic p).trgFree = ((b.n.delim + s.feederAt p c b.n.start).toNat + bitsPs b.n.rate 64) / 40000 * 40 - 160 + 160 ∧
    t.out = .trg p c 1 (((b.n.delim + s.feederAt p c b.n.start).toNat + bitsPs b.n.rate 64) / 40000 * 40 - 160) :: s.out ∧ t.od = s.od) ∧
  (∀ (s : State) (p : Fin 64) (c : Fin 2) (b : Burst) (v : Nat), s.power.coreOn = true → (s.ch p c).bursts = [b] → b.started = false → b.ended = false →
  b.n.quiet = true → b.loaded = some v →
  ∃ t, exec (.burstStart p c) s = .next t ∧
    (t.ch p c).bursts = [{ b with started := true, late := false, active := v, front := v % 1024, frozen := s.eff Pon.ADAPT_FREEZE p != 0, ffeStep := s.eff Pon.FFE_STEP p, dfeStep := s.eff Pon.DFE_STEP p }] ∧
    (t.actCh p c).winSerials = [] ∧ t = { s with act := t.act, port := t.port }) ∧
  (∀ (s : State) (p : Fin 64) (c : Fin 2) (b : Burst), s.power.coreOn = true → (s.ch p c).bursts = [b] → b.started = false → b.ended = false →
  b.n.quiet = false → b.loaded = none →
  ∃ t, exec (.burstStart p c) s = .next t ∧
    (t.ch p c).bursts.map (fun x => (x.n, x.started, x.late, x.active)) = [(b.n, true, true, s.nat (defSet b.n.rate) p)] ∧
    s.counted t Pon.LATE_PRELOAD 1 p c) ∧
  (∀ (s : State) (p : Fin 64) (c : Fin 2) (at' bitErrors front : Nat) (env : Envelope) (b : Burst), s.power.coreOn = true → bitErrors ≤ 3 → (s.ch p c).bursts = [b] →
  b.started = true → b.ended = false → b.outcome = .pending → b.n.quiet = false → b.delim = none → s.inGuard p c b.n at' = true → s.presence p c b.n env = true →
  ∃ t, exec (.delimiterDetected p c at' bitErrors front env) s = .next t ∧
    (t.ch p c).bursts = [{ b with delim := some (at', bitErrors), front := front % 1024, outcome := .received, offset := (at' : Int) - b.n.delim }] ∧
    (t.ch p c).posts = (s.ch p c).posts ++ [.offset b.n.onu b.n.rate b.n.start ((at' : Int) - b.n.delim)] ∧ (t.ch p c).lolRun = 0 ∧
    (0 < bitErrors → s.counted t Pon.DELIM_CORRECTED 1 p c) ∧ (bitErrors = 0 → t.get Pon.DELIM_CORRECTED p c = s.get Pon.DELIM_CORRECTED p c)) ∧
  (∀ (s : State) (p : Fin 64) (c : Fin 2) (at' bitErrors front : Nat) (env : Envelope) (b : Burst), s.power.coreOn = true → bitErrors ≤ 3 → (s.ch p c).bursts = [b] →
  b.started = true → b.ended = false → b.outcome = .pending → b.n.quiet = false → b.delim = none → s.inGuard p c b.n at' = true → s.presence p c b.n env = false →
  ∃ t, exec (.delimiterDetected p c at' bitErrors front env) s = .next t ∧ (t.ch p c).bursts = [{ b with delim := some (at', bitErrors), front := front % 1024 }] ∧ t = { s with port := t.port }) ∧
  (∀ (s : State) (p : Fin 64) (c : Fin 2) (at' bitErrors front : Nat) (env : Envelope), s.power.coreOn = true → 3 < bitErrors →
  exec (.delimiterDetected p c at' bitErrors front env) s = .next s) ∧
  (∀ (s : State) (p : Fin 64) (c : Fin 2) (env : Envelope) (presence : Bool) (b : Burst), s.power.coreOn = true → (s.ch p c).bursts = [b] →
  b.started = true → b.ended = false → b.outcome = .pending → b.n.quiet = false → s.presence p c b.n env = presence → presence = false ∨ b.delim = none →
  (b.n.delim : Int) + s.feederAt p c b.n.start + s.nat Pon.WINDOW_NS p c * 1000 ≤ (s.now : Int) * 1000 →
  ∃ t, exec (.guardWindowClose p c env) s = .next t ∧
    (t.ch p c).bursts = [{ b with outcome := if presence then .lostNoLock else .lostDark }] ∧
    (t.ch p c).posts = (s.ch p c).posts ++ [.lost b.n.onu b.n.rate b.n.start presence] ∧
    s.counted t Pon.BURSTS_LOST 1 p c ∧ (presence = true → s.counted t Pon.CDR_NO_LOCK 1 p c) ∧ s.counted t CalCnt.REFINE_SKIPPED 1 p) ∧
  (∀ (s : State) (p : Fin 64) (c : Fin 2) (env : Envelope) (at' e : Nat) (b : Burst), s.power.coreOn = true → (s.ch p c).bursts = [b] →
  b.started = true → b.ended = false → b.outcome = .pending → b.n.quiet = false → s.presence p c b.n env = true → b.delim = some (at', e) →
  (b.n.delim : Int) + s.feederAt p c b.n.start + s.nat Pon.WINDOW_NS p c * 1000 ≤ (s.now : Int) * 1000 →
  ∃ t, exec (.guardWindowClose p c env) s = .next t ∧ (t.ch p c).bursts = [{ b with outcome := .received, offset := (at' : Int) - b.n.delim }] ∧
    (t.ch p c).posts = (s.ch p c).posts ++ [.offset b.n.onu b.n.rate b.n.start ((at' : Int) - b.n.delim)]) ∧
  (∀ (s : State) (p : Fin 64) (c : Fin 2) (final eye : Nat) (b : Burst), s.power.coreOn = true → (s.ch p c).bursts = [b] →
  b.started = true → b.ended = false → b.coded = false → b.header = .pending → s.storeWrites (p / 32) = [] →
  ∃ t, exec (.burstEnd p c final eye) s = .next t ∧ t = { s with port := t.port } ∧
    (t.ch p c).bursts = assignSlots (s.dfltSets p) (pruneBursts [{ b with ended := true, endedAt := s.now, eye := eye, final := b.finalSet final }])) ∧
  (∀ (s : State) (p : Fin 64) (c : Fin 2), s.power.coreOn = true → (∀ b ∈ (s.ch p c).bursts, b.ended = true) → (s.ch p c).lastEnd + 16000 ≤ s.now * 1000 → (s.ch p c).testing = false →
  exec (.rxClockStop p c) s = .next (s.updCh p c (fun x => { x with rxClk := false }))) ∧
  (∀ (s : State) (p : Fin 64) (c : Fin 2) (correctable : Bool) (found : Nat) (pw : Bool) (b : Burst), s.power.coreOn = true → (s.ch p c).bursts = [b] →
  b.outcome = .received → b.header = .pending → b.ended = false →
  ∃ t, exec (.burstHeaderCheck p c correctable found pw) s = .next t ∧
    (t.ch p c).bursts = [if correctable = false then { b with header := .uncorrectable, uncorr := true }
      else if found ≠ b.n.onu then { b with header := .wrongSource } else { b with header := .passed }] ∧
    (correctable = false ∨ found = b.n.onu → s.counted t Pon.BURSTS_OK 1 p c ∧
      s.counted t (if b.n.cold then Pon.COLD_BURSTS else Pon.WARM_BURSTS) 1 p c) ∧
    (correctable = true ∧ found ≠ b.n.onu → s.counted t Pon.WRONG_SOURCE 1 p c ∧ s.counted t CalCnt.REFINE_SKIPPED 1 p ∧
      (t.ch p c).posts = (s.ch p c).posts ++ [.wrongSource b.n.onu found b.n.start]))

/-- Loss of signal and unexpected light. A frame all of whose notified bursts were lost dark adds to the run of loss of signal, and LOS_FRAMES of them raise LOS with its event and interrupt; LOS_CLEAR_FRAMES frames with light end it; UNEXP_FRAMES frames with light outside every window raise UNEXP_LIGHT. Each of these is shown to answer a next state with its own effect, on conditions on the state and its operands alone: frameOutcomesComplete, unexpLightJudge. -/
def Obligations.PortDetectors : Prop :=
  (∀ (s : State) (p : Fin 64) (c : Fin 2) (k : Nat) (f : FrameTally) (rest : Tab FrameTally), s.power.coreOn = true → (s.ch p c).frames = (k, f) :: rest →
  k < s.frame → f.notified ≤ f.done → f.notified ≠ 0 → f.dark = f.notified → s.eff Pon.LOS_FRAMES p ≤ (s.ch p c).losRun + 1 → s.flag Pon.LOS p c = false →
  ∃ t, exec (.frameOutcomesComplete p c) s = .next t ∧ t.flag Pon.LOS p c = true ∧ s.counted t Pon.LOS_ENTRIES 1 p c ∧ (t.ch p c).frames = rest ∧
    (t.ch p c).losRun = (s.ch p c).losRun + 1 ∧ (t.ch p c).losClearRun = 0 ∧ t.out.head? = some (.losIrq p c) ∧
    s.raised t 0x3002 (0x040 + p) [(1, p), (1, c), (1, 1)] ∧ s.sameBut t ([Pon.LOS.addr p c 0, Pon.LOS_ENTRIES.addr p c 0] ++ eventAddrs)) ∧
  (∀ (s : State) (p : Fin 64) (c : Fin 2) (k : Nat) (f : FrameTally) (rest : Tab FrameTally), s.power.coreOn = true → (s.ch p c).frames = (k, f) :: rest →
  k < s.frame → f.notified ≤ f.done → f.notified ≠ 0 → f.dark ≠ f.notified → s.eff Pon.LOS_CLEAR_FRAMES p ≤ (s.ch p c).losClearRun + 1 → s.flag Pon.LOS p c = true →
  ∃ t, exec (.frameOutcomesComplete p c) s = .next t ∧ t.flag Pon.LOS p c = false ∧ (t.ch p c).frames = rest ∧
    (t.ch p c).losRun = 0 ∧ (t.ch p c).losClearRun = (s.ch p c).losClearRun + 1 ∧
    s.raised t 0x3002 (0x040 + p) [(1, p), (1, c), (1, 0)] ∧ s.sameBut t (Pon.LOS.addr p c 0 :: eventAddrs)) ∧
  (∀ (s : State) (p : Fin 64) (c : Fin 2) (env : Envelope), s.power.coreOn = true → s.eff Pon.UNEXP_FRAMES p ≤ (s.ch p c).unexpRun + 1 → s.flag Pon.UNEXP_LIGHT p c = false →
  s.flag ActCfg.ROGUE_ISOLATE p = false → (s.ch p c).judged < s.frame →
  unexpLit (s.eff Pon.PRES_THRESH p) (s.frameStart (s.frame - 1) * 1000) (s.frameStart (s.frame - 1) * 1000 + 125000000) (s.ch p c).opens env = true →
  ∃ t, exec (.unexpLightJudge p c env) s = .next t ∧ t.flag Pon.UNEXP_LIGHT p c = true ∧ s.counted t Pon.UNEXP_LIGHT_EVENTS 1 p c ∧
    (t.ch p c).unexpRun = (s.ch p c).unexpRun + 1 ∧ (t.ch p c).unexpClearRun = 0 ∧ (t.actCh p c).scan.light = true ∧
    s.raised t 0x3004 (0x040 + p) [(1, p), (1, c), (1, 1)] ∧
    s.sameBut t ([Pon.UNEXP_LIGHT.addr p c 0, Pon.UNEXP_LIGHT_EVENTS.addr p c 0] ++ eventAddrs)) ∧
  (∀ (s : State) (p : Fin 64) (c : Fin 2) (env : Envelope), s.power.coreOn = true → s.flag Pon.UNEXP_LIGHT p c = true → s.eff Pon.UNEXP_FRAMES p ≤ (s.ch p c).unexpClearRun + 1 →
  (s.ch p c).judged < s.frame →
  unexpLit (s.eff Pon.PRES_THRESH p) (s.frameStart (s.frame - 1) * 1000) (s.frameStart (s.frame - 1) * 1000 + 125000000) (s.ch p c).opens env = false →
  ∃ t, exec (.unexpLightJudge p c env) s = .next t ∧ t.flag Pon.UNEXP_LIGHT p c = false ∧ (t.ch p c).unexpRun = 0 ∧
    s.raised t 0x3004 (0x040 + p) [(1, p), (1, c), (1, 0)] ∧ s.sameBut t (Pon.UNEXP_LIGHT.addr p c 0 :: eventAddrs))

/-- Quiet windows, serial numbers, and ranging. A quiet window becomes due on a LIT channel; a response is garbled, known, or makes a record that goes to ASSIGNED or PENDING; a PENDING record expires; a Registration PLOAM gives the round-trip delay and the EqD or deactivates with causes 8 and 2; a window without one counts as a failed attempt. Each of these is shown to answer a next state with its own effect, on conditions on the state and its operands alone: quietWindowDue, quietWindowResponse, pendingTimeout, registrationReceived, rangingWindowEnd, onuOperatingEntry. -/
def Obligations.Discovery : Prop :=
  (∀ (s : State) (p : Fin 64) (c : Fin 2) (d : Nat), s.power.coreOn = true → s.actLive p c = true → (s.actCh p c).qwNext ≤ s.now →
  (s.actCh p c).scan.running = false → s.qwInterval p c = some d →
  exec (.quietWindowDue p c) s = .next ((s.updAct p c (fun a => { a with qwDue := true, qwNext := s.now + d })).mirrorPost p (.quiet p c))) ∧
  (∀ (s : State) (p : Fin 64) (c : Fin 2) (at' mic sn r : Nat) (b : Burst) (zero : Int), s.power.coreOn = true → s.actLive p c = true → (s.ch p c).bursts = [b] → b.started = true →
  b.n.quiet = true → b.n.start ≤ at' → at' < b.n.stop →
  (s.actCh p c).quiets.find? (fun e => e.1 == b.n.start) = some (b.n.start, zero) → sn < 2 ^ 64 →
  s.micOk p c 1023 (actPloam 1 1023 8 sn) mic = true → (s.actCh p c).winSerials = [] → s.serialRec sn = none →
  s.nat ActCfg.AUTH_MODE p = 0 → s.freeOnuRec p = some r →
  ∃ t, exec (.quietWindowResponse p c (some sn) at' mic) s = .next t ∧ t.onuAt r p c ∧ t.rnat Onu.STATE r = 3 ∧ t.rnat Onu.SERIAL r = sn ∧
    t.rnat Onu.ADMIN r = 2 ∧ t.rnat Onu.ONU_ID r = s.freeOnuId p c ∧ (t.onuX r).attempts = 1 ∧ (t.onuX r).acqAt = at' - zero ∧
    (t.actCh p c).winSerials = [sn] ∧ s.counted t ActSt.SN_ACQUIRED 1 p ∧
    (t.actCh p c).msgs = (s.actCh p c).msgs ++ [{ onu := s.freeOnuId p c, kind := .assignOnuId, arg := sn, at' := s.now }]) ∧
  (∀ (s : State) (p : Fin 64) (c : Fin 2) (at' mic : Nat) (b : Burst) (zero : Int), s.power.coreOn = true → s.actLive p c = true → (s.ch p c).bursts = [b] → b.started = true →
  b.n.quiet = true → b.n.start ≤ at' → at' < b.n.stop →
  (s.actCh p c).quiets.find? (fun e => e.1 == b.n.start) = some (b.n.start, zero) →
  exec (.quietWindowResponse p c none at' mic) s = .next (s.bump ActSt.SN_GARBLED p)) ∧
  (∀ (s : State) (p : Fin 64) (c : Fin 2) (at' mic sn : Nat) (b : Burst) (zero : Int), s.power.coreOn = true → s.actLive p c = true → (s.ch p c).bursts = [b] → b.started = true →
  b.n.quiet = true → b.n.start ≤ at' → at' < b.n.stop →
  (s.actCh p c).quiets.find? (fun e => e.1 == b.n.start) = some (b.n.start, zero) → sn < 2 ^ 64 → s.eff FrCfg.PLOAM_MIC_CHECK p ≠ 0 →
  Config.ploamMic (s.ploamKey p c 1023) (actPloam 1 1023 8 sn) ≠ mic →
  exec (.quietWindowResponse p c (some sn) at' mic) s = .next (s.bump FrSt.PLOAM_MIC_FAIL p c)) ∧
  (∀ (s : State) (r : Nat) (p : Fin 64) (c : Fin 2), s.power.coreOn = true → s.onuAt r p c → s.actLive p c = true → s.rnat Onu.STATE r = 1 →
  (s.onuX r).since + s.nat ActCfg.PENDING_S p * 1000000000 ≤ s.now →
  ∃ t, exec (.pendingTimeout r) s = .next t ∧ t.hasRecord 0x4200 r = false ∧ (∀ k, t.od.find? { index := 0x4200, sub := k, recNo := r } = none) ∧
    s.counted t ActSt.SN_REJECTED 1 p ∧ t.get ActDev.RECORDS = ActDev.RECORDS.ty.norm (s.get ActDev.RECORDS - 1) ∧ Tab.find? t.onu r = none) ∧
  (∀ (s : State) (p : Fin 64) (c : Fin 2) (regId arrival mic r : Nat) (zero : Int), s.power.coreOn = true → s.actLive p c = true → s.rangingRec p c = some (r, zero) → s.onuAt r p c →
  s.openWindow p c arrival ≠ none → s.micOk p c (s.rnat Onu.ONU_ID r) (actPloam 2 (s.rnat Onu.ONU_ID r) 36 (regId % 2 ^ 288)) mic = true →
  s.rget Onu.REG_ID r = 0 ∨ s.rget Onu.REG_ID r = (regId % 2 ^ 288 : Nat) →
  ∃ t, exec (.registrationReceived p c regId arrival mic) s = .next t ∧
    t.rget Onu.RTD_PS r = Onu.RTD_PS.ty.norm ((arrival : Int) - zero - s.appliedEqd r) ∧
    ((arrival : Int) - zero - s.appliedEqd r < s.teqd p → (t.onuX r).rangePhase = 3 ∧
      t.rget Onu.EQD_PS r = Onu.EQD_PS.ty.norm (s.teqd p - ((arrival : Int) - zero - s.appliedEqd r)) ∧
      (t.onuX r).eqdSent = some (eqdRound c (s.teqd p - ((arrival : Int) - zero - s.appliedEqd r)))) ∧
    (s.teqd p ≤ (arrival : Int) - zero - s.appliedEqd r → t.rnat Onu.STATE r = 0 ∧ t.rnat Onu.DEACT_CAUSE r = 2)) ∧
  (∀ (s : State) (p : Fin 64) (c : Fin 2) (regId arrival mic r : Nat) (zero : Int), s.power.coreOn = true → s.actLive p c = true → s.rangingRec p c = some (r, zero) → s.onuAt r p c →
  s.openWindow p c arrival ≠ none → s.micOk p c (s.rnat Onu.ONU_ID r) (actPloam 2 (s.rnat Onu.ONU_ID r) 36 (regId % 2 ^ 288)) mic = true →
  s.rget Onu.REG_ID r ≠ 0 → s.rget Onu.REG_ID r ≠ (regId % 2 ^ 288 : Nat) →
  ∃ t, exec (.registrationReceived p c regId arrival mic) s = .next t ∧ t.rnat Onu.STATE r = 0 ∧ t.rnat Onu.DEACT_CAUSE r = 8 ∧
    (t.actCh p c).msgs = (s.actCh p c).msgs ++ [{ onu := s.rnat Onu.ONU_ID r, kind := .deactivate, arg := 0, at' := s.now }]) ∧
  (∀ (s : State) (p : Fin 64) (c : Fin 2) (r : Nat) (zero : Int), s.power.coreOn = true → s.actLive p c = true → s.rangingRec p c = some (r, zero) → s.onuAt r p c →
  ∃ t, exec (.rangingWindowEnd p c) s = .next t ∧ (t.actCh p c).ranging = (s.actCh p c).ranging.drop 1 ∧ (t.onuX r).awaiting = [] ∧
    ((s.onuX r).attempts < s.nat ActCfg.RANGE_TRIES p → (t.onuX r).attempts = (s.onuX r).attempts + 1 ∧ (t.onuX r).rangePhase = 1 ∧ t.rnat Onu.STATE r = 4) ∧
    (s.nat ActCfg.RANGE_TRIES p ≤ (s.onuX r).attempts → t.rnat Onu.STATE r = 0 ∧ t.rnat Onu.DEACT_CAUSE r = 1 ∧ s.counted t ActSt.RANGE_FAILS 1 p)) ∧
  (∀ (s : State) (r start : Nat) (p : Fin 64), s.power.coreOn = true → s.onuAt r p 1 → s.actLive p 1 = true → start ∈ (s.onuX r).awaiting →
  s.rnat Onu.STATE r = 4 →
  ∃ t, exec (.onuOperatingEntry r start) s = .next t ∧ t.rnat Onu.STATE r = 5 ∧ t.rnat Onu.RATE r = 3 ∧ (t.onuX r).awaiting = [] ∧
    (t.onuX r).rangePhase = 0 ∧ t.get ActSt.ONUS_OPERATING p = ActSt.ONUS_OPERATING.ty.norm (s.get ActSt.ONUS_OPERATING p + 1) ∧
    t.get ActDev.ONUS_OPERATING = ActDev.ONUS_OPERATING.ty.norm (s.get ActDev.ONUS_OPERATING + 1) ∧
    (∀ x, (s.onuX r).heldOffsets.find? start = some x → t.rget Onu.DRIFT_PS r = Onu.DRIFT_PS.ty.norm x))

/-- Drift, rates, lost bursts, rogue ONUs and the observation of an ONU. Arrival offsets are held, then seed or filter DRIFT_PS; holds end by frame number; LOB_BURSTS dark bursts make an ONU LOST, a probe follows every LOST_PROBE_FRAMES and deactivation after LOST_TIMEOUT_S; clean seconds step the rate up with a trial, bad ones down with a holdoff; a wrong source is counted against the ONU found. Each of these is shown to answer a next state with its own effect, on conditions on the state and its operands alone: actArrivalOffset, driftOffsetApply, driftHoldEnd, actLostBurst, actWrongSource, lostProbeDue, lostTimeout, stepEvaluation, rogueObservationEnd, findSerial. -/
def Obligations.OnuSupervision : Prop :=
  (∀ (s : State) (p : Fin 64) (c : Fin 2) (onu rate start r : Nat) (x : Int) (rest : List PortPost), s.power.coreOn = true →
  (s.ch p c).posts = .offset onu rate start x :: rest → s.onuBy p c onu = some r → s.rnat Onu.STATE r ≠ 7 →
  ∃ t, exec (.actArrivalOffset p c) s = .next t ∧ (t.ch p c).posts = rest ∧ (t.onuX r).heldOffsets.find? start = some x ∧ t.od = s.od ∧
    t = { s with port := t.port, onu := t.onu }) ∧
  (∀ (s : State) (r start : Nat) (p : Fin 64) (c : Fin 2) (x0 : Int), s.power.coreOn = true → s.onuAt r p c → s.rnat Onu.STATE r = 5 →
  (s.onuX r).heldOffsets.find? start = some x0 → (s.onuX r).holdUntil = none → s.standby p = false → s.actLive p c = false →
  ∃ t, exec (.driftOffsetApply r start) s = .next t ∧ (t.onuX r).seedNext = false ∧
    t.rget Onu.DRIFT_PS r = Onu.DRIFT_PS.ty.norm (if (s.onuX r).seedNext then x0 - s.feederAt p c start
      else s.rget Onu.DRIFT_PS r + truncDiv (x0 - s.feederAt p c start - s.rget Onu.DRIFT_PS r) (2 ^ s.nat ActCfg.DRIFT_SHIFT p : Nat)) ∧
    s.sameBut t [Onu.DRIFT_PS.addr 0 0 r]) ∧
  (∀ (s : State) (r start : Nat) (p : Fin 64) (c : Fin 2) (x0 : Int), s.power.coreOn = true → s.onuAt r p c → s.rnat Onu.STATE r = 5 →
  (s.onuX r).heldOffsets.find? start = some x0 → (s.onuX r).holdUntil = none → s.standby p = false → s.actLive p c = true →
  s.get ActCfg.DRIFT_ALARM_PS p ≤ ((x0 - s.feederAt p c start).natAbs : Int) → 0 ≤ s.rget Onu.EQD_PS r - (x0 - s.feederAt p c start) →
  s.rget Onu.EQD_PS r - (x0 - s.feederAt p c start) < s.teqd p →
  ∃ t, exec (.driftOffsetApply r start) s = .next t ∧
    t.rget Onu.EQD_PS r = Onu.EQD_PS.ty.norm (s.rget Onu.EQD_PS r - (x0 - s.feederAt p c start)) ∧
    s.rcounted t Onu.EQD_CORR_COUNT r 1 ∧ s.counted t ActSt.EQD_CORRECTIONS 1 p ∧
    (t.onuX r).holdUntil = some (s.frame + s.nat ActCfg.DRIFT_HOLD_FRAMES p) ∧
    s.raised t 0x4006 0x091 (s.onuArgs r ++ [(4, x0 - s.feederAt p c start)])) ∧
  (∀ (s : State) (r k : Nat), s.power.coreOn = true → (s.onuX r).holdUntil = some k → k ≤ s.frame →
  exec (.driftHoldEnd r) s = .next (s.updOnu r (fun x => { x with holdUntil := none, seedNext := true }))) ∧
  (∀ (s : State) (p : Fin 64) (c : Fin 2) (onu rate start r : Nat) (rest : List PortPost), s.power.coreOn = true →
  (s.ch p c).posts = .lost onu rate start false :: rest → s.onuBy p c onu = some r → s.actLive p c = true → s.rnat Onu.STATE r = 5 →
  rate ≠ s.rnat Onu.RATE r → s.nat ActCfg.LOB_BURSTS p ≤ (s.onuX r).darkRun + 1 →
  ∃ t, exec (.actLostBurst p c) s = .next t ∧ (t.ch p c).posts = rest ∧ t.rnat Onu.STATE r = 6 ∧ s.counted t ActSt.LOB_EVENTS 1 p ∧
    s.rcounted t Onu.LOB_COUNT r 1 ∧ (t.onuX r).since = s.now ∧ (t.onuX r).probeMap = some s.frame ∧
    s.raised t 0x4007 0x091 (s.onuArgs r ++ [(4, t.rget Onu.LOB_COUNT r)])) ∧
  (∀ (s : State) (p : Fin 64) (c : Fin 2) (notified found start r : Nat) (rest : List PortPost), s.power.coreOn = true →
  (s.ch p c).posts = .wrongSource notified found start :: rest → s.onuBy p c notified = none → s.onuBy p c found = some r →
  ∃ t, exec (.actWrongSource p c) s = .next t ∧ (t.ch p c).posts = rest ∧ s.rcounted t Onu.ROGUE_COUNT r 1 ∧ (t.onuX r).rogueSec = s.sec ∧
    (t.onuX r).rogueCount = (if (s.onuX r).rogueSec = s.sec then (s.onuX r).rogueCount + 1 else 1) ∧
    ((s.onuX r).rogueSec = s.sec ∧ (s.onuX r).rogueCount = 15 → s.raised t 0x4008 0x091 (s.onuArgs r ++ [(2, t.rget Onu.ROGUE_COUNT r)]))) ∧
  (∀ (s : State) (r j : Nat) (p : Fin 64) (c : Fin 2), s.power.coreOn = true → s.onuAt r p c → s.actLive p c = true → s.rnat Onu.STATE r = 6 →
  (s.onuX r).probeMap = some j → j + s.nat ActCfg.LOST_PROBE_FRAMES p ≤ s.frame →
  ∃ t, exec (.lostProbeDue r) s = .next t ∧ (t.onuX r).probeMap = some s.frame ∧
    (t.actCh p c).posts = (s.actCh p c).posts ++ [.request { kind := .probe, rcd := r, onu := s.rnat Onu.ONU_ID r, rate := discRate c }] ∧
    t = { s with onu := t.onu, act := t.act }) ∧
  (∀ (s : State) (r : Nat) (p : Fin 64) (c : Fin 2), s.power.coreOn = true → s.onuAt r p c → s.actLive p c = true → s.rnat Onu.STATE r = 6 →
  (s.onuX r).since + s.nat ActCfg.LOST_TIMEOUT_S p * 1000000000 ≤ s.now →
  ∃ t, exec (.lostTimeout r) s = .next t ∧ t.rnat Onu.STATE r = 0 ∧ t.rnat Onu.DEACT_CAUSE r = 3 ∧
    (t.actCh p c).msgs = (s.actCh p c).msgs ++ [{ onu := s.rnat Onu.ONU_ID r, kind := .deactivate, arg := 0, at' := s.now }] ∧
    (t.actCh p c).posts = (s.actCh p c).posts ++ [.withdraw r]) ∧
  (∀ (s : State) (r : Nat) (p : Fin 64), s.power.coreOn = true → s.onuAt r p 0 → s.actLive p 0 = true → s.rnat Onu.STATE r = 5 →
  (s.onuX r).evalSec < s.sec → s.outcomesOpen r s.sec = false → s.rnat Onu.RATE r ≤ 3 → s.stepEligible r s.sec = true →
  ∃ t, exec (.stepEvaluation r) s = .next t ∧ t.rget Onu.TRIAL r = 1 ∧ t.rnat Onu.RATE r = s.rnat Onu.RATE r + 1 ∧
    (t.onuX r).trialFrom = s.rnat Onu.RATE r ∧ (t.onuX r).evalSec = s.sec) ∧
  (∀ (s : State) (r : Nat) (p : Fin 64), s.power.coreOn = true → s.onuAt r p 0 → s.actLive p 0 = true → s.rnat Onu.STATE r = 5 →
  (s.onuX r).evalSec < s.sec → s.outcomesOpen r s.sec = false → s.rnat Onu.RATE r ≤ 3 → s.stepEligible r s.sec = false →
  s.stepDownDue r s.sec = true → s.rget Onu.TRIAL r = 0 →
  ∃ t, exec (.stepEvaluation r) s = .next t ∧
    t.rnat Onu.RATE r = s.rnat Onu.RATE r - 1 ∧ t.rget Onu.HOLDOFF_S r = Onu.HOLDOFF_S.ty.norm (s.holdBaseOf r) ∧
    (t.onuX r).holdBase = min 960 (2 * s.holdBaseOf r) ∧ s.counted t ActSt.STEP_DOWNS 1 p ∧ (t.onuX r).evalSec = s.sec) ∧
  (∀ (s : State) (r : Nat) (p : Fin 64), s.power.coreOn = true → s.onuAt r p 0 → s.actLive p 0 = true → s.rnat Onu.STATE r = 5 →
  (s.onuX r).evalSec < s.sec → s.outcomesOpen r s.sec = false → s.rnat Onu.RATE r ≤ 3 → s.stepEligible r s.sec = false →
  s.stepDownDue r s.sec = false →
  ∃ t, exec (.stepEvaluation r) s = .next t ∧
    t.rnat Onu.RATE r = s.rnat Onu.RATE r ∧ (0 < s.rget Onu.HOLDOFF_S r → t.rget Onu.HOLDOFF_S r = Onu.HOLDOFF_S.ty.norm (s.rget Onu.HOLDOFF_S r - 1)) ∧
    (t.onuX r).evalSec = s.sec) ∧
  (∀ (s : State) (p : Fin 64) (c : Fin 2), s.power.coreOn = true → s.actLive p c = true → (s.actCh p c).scan.running = true →
  (s.actCh p c).scan.startFrame + s.nat ActCfg.ISO_FRAMES p ≤ s.frame → (s.actCh p c).scan.light = false →
  s.rnat Onu.STATE (s.actCh p c).scan.cur = 7 → (s.onuX (s.actCh p c).scan.cur).observed = true →
  ∃ t, exec (.rogueObservationEnd p c) s = .next t ∧ t.rnat Onu.DEACT_CAUSE (s.actCh p c).scan.cur = 7 ∧
    t.rnat Onu.STATE (s.actCh p c).scan.cur = 7 ∧ (t.actCh p c).scan = {} ∧ (t.onuX (s.actCh p c).scan.cur).observed = false ∧
    s.raised t 0x400A 0x091 (s.onuArgs (s.actCh p c).scan.cur)) ∧
  (∀ (s : State) (session serial : Nat), s.power.coreOn = true →
  ∃ t, exec (.findSerial session serial) s = .next t ∧ t.findSerial.getD session 0 = serial % 2 ^ 64 ∧
    t.out = .result (ActDev.FIND_SERIAL.addr 0 0 0).index (ActDev.FIND_SERIAL.addr 0 0 0).sub 0 0 :: s.out ∧ t = { s with findSerial := t.findSerial, out := t.out })

/-- The close and the handover of bandwidth maps, and late maps. At B_k − 15 µs every mapped channel that is no standby's closes a map of number k; the handover gives it to the framer with its digest; a map not ready at B_k − 4 µs is sent empty, counted and reported. Each of these is shown to answer a next state with its own effect, on conditions on the state and its operands alone: mapClose, mapHandover, mapLate. -/
def Obligations.MapCycle : Prop :=
  (∀ s : State, s.power.coreOn = true → s.engineOn = true → s.nextMap ≤ s.frameOf (s.now + 15000) → s.frameStart (s.frameOf (s.now + 15000)) ≤ s.now + 15000 →
  ∃ t, exec .mapClose s = .next t ∧ t.nextMap = s.frameOf (s.now + 15000) + 1 ∧ s.counted t GrDev.MAPS_CLOSED 1 ∧ t.hintEn = s.freezeHints.hintEn ∧
    (∀ (p : Fin 64) (c : Fin 2), s.mapped p c = true → s.twinned p = false ∨ (s.twin.nextMap ≤ s.frameOf (s.now + 15000) ∧ s.nat Twin.ROLE ≠ 2) →
      (t.grantCh p c).closed.map (fun m => m.k) = some (s.frameOf (s.now + 15000)))) ∧
  (∀ s : State, s.power.coreOn = true → s.frameOf (s.now + 15000) < s.nextMap ∨ s.engineOn = false → exec .mapClose s = .next s) ∧
  (∀ (s : State) (computeNs : Nat) (p : Fin 64) (c : Fin 2) (m : MapRec), s.power.coreOn = true → (s.grantCh p c).closed = some m →
  ∃ t, exec (.mapHandover computeNs) s = .next t ∧ (t.grantCh p c).closed = none ∧ (t.grantCh p c).handed = some m ∧
    t.nat (byCh c GrSt.DIGEST_C0 GrSt.DIGEST_C1) p = mapDigest (m.entries c) % 2 ^ 32 ∧
    (t.grantCh p c).digests.head? = some (m.k, mapDigest (m.entries c)) ∧
    t.get GrDev.COMPUTE_MAX_NS = GrDev.COMPUTE_MAX_NS.ty.norm (max (s.get GrDev.COMPUTE_MAX_NS) computeNs)) ∧
  (∀ (s : State) (p : Fin 64) (c : Fin 2) (m : MapRec), s.power.coreOn = true → (s.grantCh p c).closed = some m → (s.standby p = false → s.frameStart m.k ≤ s.now + 4000) →
  (s.standby p = true → s.frameStart m.k + 16000 ≤ s.now) →
  ∃ t, exec (.mapLate p c) s = .next t ∧ (t.grantCh p c).closed = none ∧ (t.grantCh p c).handed = some { k := m.k } ∧
    s.counted t GrDev.MAP_LATE 1 ∧ s.raised t 0x5001 0x090 [(1, p), (1, c), (4, m.k)] ∧ (s.twinned p = true → t.mapLateAt = some s.now) ∧
    (s.twinned p = false → t.mapLateAt = s.mapLateAt ∧ s.sameBut t (GrDev.MAP_LATE.addr 0 0 0 :: eventAddrs))) ∧
  (∀ (s : State) (p : Fin 64) (c : Fin 2), s.power.coreOn = true → (s.grantCh p c).closed = none → exec (.mapLate p c) s = .next s)

/-- What reaches the grant engine: reports, usage, hints, and the posts of the activation engine. A report replaces the last one of a good burst and drops the grants it covers, a usage record of a grant replaces the last one; a hint for a context that takes none, or after its map's close, is counted and dropped, any other is kept for its map; requests, withdrawals, rates and EqDs of the activation engine take effect in order; arming captures the next map to close. Each of these is shown to answer a next state with its own effect, on conditions on the state and its operands alone: statusReport, usageRecord, hintPost, actRequestPost, mapCaptureArm. -/
def Obligations.GrantInputs : Prop :=
  (∀ (s : State) (r words map : Nat), s.power.coreOn = true → s.hasRecord 0x5200 r = true → s.rget Ctx.REPORT_MODE r = 0 →
  s.goodIn (s.rnat Ctx.PORT r) (s.rnat Ctx.CHANNEL r) (s.rnat Ctx.ONU_ID r) map = true → (∀ e ∈ (s.ctxX r).report, e.2 ≤ map) →
  ∃ t, exec (.statusReport r words map) s = .next t ∧ (t.ctxX r).report = some (words, map) ∧
    (t.ctxX r).grants = (s.ctxX r).grants.filter (fun g => decide (map < g.1)) ∧ (t.ctxX r).usage = (s.ctxX r).usage ∧ t = { s with ctx := t.ctx }) ∧
  (∀ (s : State) (r start words : Nat) (tm : Bool), s.power.coreOn = true → s.hasRecord 0x5200 r = true →
  (s.ctxX r).grants.find? (fun g => g.1 == s.spanOf (s.rnat Ctx.PORT r) start) = some (s.spanOf (s.rnat Ctx.PORT r) start, words, tm) →
  ∃ t, exec (.usageRecord r start) s = .next t ∧
    (t.ctxX r).usage = some (words, (((s.ctxX r).idle.filter (fun e => e.1 == start)).map (fun e => e.2)).sum) ∧
    (t.ctxX r).idle = (s.ctxX r).idle.filter (fun e => e.1 != start) ∧ (t.ctxX r).report = (s.ctxX r).report ∧
    (s.rget Ctx.REPORT_MODE r = 0 → (t.ctxX r).grants = (s.ctxX r).grants) ∧ t = { s with ctx := t.ctx }) ∧
  (∀ (s : State) (r start : Nat), s.power.coreOn = true →
  s.hasRecord 0x5200 r = false ∨ (s.ctxX r).grants.find? (fun g => g.1 == s.spanOf (s.rnat Ctx.PORT r) start) = none → exec (.usageRecord r start) s = .next s) ∧
  (∀ (s : State) (h : Hint) (rest : List Hint) (p : Fin 64) (c : Fin 2), s.power.coreOn = true → s.hintPosts = h :: rest → s.hasRecord 0x5200 h.ctx = true →
  s.rnat Ctx.PORT h.ctx = p → s.rnat Ctx.CHANNEL h.ctx = c → s.rflag Ctx.HINT_OK h.ctx = true → s.hintEn.getD p 0 ≠ 0 → s.nextMap ≤ s.spanOf p h.tau →
  ∃ t, exec .hintPost s = .next t ∧ t.hintPosts = rest ∧ (t.grantCh p c).hints = (s.grantCh p c).hints ++ [(s.spanOf p h.tau, h)] ∧ t.od = s.od) ∧
  (∀ (s : State) (h : Hint) (rest : List Hint) (p : Fin 64) (c : Fin 2), s.power.coreOn = true → s.hintPosts = h :: rest → s.hasRecord 0x5200 h.ctx = true →
  s.rnat Ctx.PORT h.ctx = p → s.rnat Ctx.CHANNEL h.ctx = c →
  s.rflag Ctx.HINT_OK h.ctx = false ∨ s.hintEn.getD p 0 = 0 ∨ s.spanOf p h.tau < s.nextMap →
  ∃ t, exec .hintPost s = .next t ∧ t.hintPosts = rest ∧ s.counted t GrSt.HINTS_LATE 1 p ∧ s.sameBut t [GrSt.HINTS_LATE.addr p 0 0] ∧
    t = { s with od := t.od, hintPosts := rest }) ∧
  (∀ (s : State) (p : Fin 64) (c : Fin 2) (x : ActPost) (rest : List ActPost), s.power.coreOn = true → (s.actCh p c).posts = x :: rest →
  ∃ t, exec (.actRequestPost p c) s = .next t ∧ (t.actCh p c).posts = rest ∧ t.od = s.od ∧
    (∀ q, x = .request q → (t.grantCh p c).reqs = (s.grantCh p c).reqs ++ [q]) ∧
    (∀ r, x = .withdraw r → (t.grantCh p c).reqs = (s.grantCh p c).reqs.filter (fun q => q.rcd != r)) ∧
    (∀ r v, x = .rate r v → (t.grantCh p c).rates.getD r 0 = v) ∧ (∀ r v, x = .eqd r v → (t.grantCh p c).eqds.getD r 0 = v)) ∧
  (∀ s : State, s.power.coreOn = true →
  ∃ t, exec .mapCaptureArm s = .next t ∧ t.nat MapCap.CAP_ARM = 1 ∧ t.capFrom = (if s.standby (s.nat MapCap.CAP_PORT) then s.twin.nextMap else s.nextMap) ∧ t.out = .result 0x5100 3 0 0 :: s.out ∧
    s.sameBut t [MapCap.CAP_ARM.addr 0 0 0] ∧ t = { s with od := t.od, out := t.out, capFrom := t.capFrom })

/-- Refinement, host writes and snapshots of coefficient sets, and power samples. A good final set with an open eye refines the ONU's set, any other is counted as skipped; a host write is checked, stored and two seconds old; INVALIDATE and CLEAR_RXP do what their tables say; a snapshot puts a valid set in the calibration section; a power frame measures its own window and a missing one is given up after 2 µs. Each of these is shown to answer a next state with its own effect, on conditions on the state and its operands alone: finalSetReceived, coeffSetWrite, coeffInvalidate, clearRxp, coeffSnapshot, powerFrameReceived, rxpSampleTimeout. -/
def Obligations.CoefficientSets : Prop :=
  (∀ (s : State) (p : Fin 64) (c : Fin 2) (onu start v eye r : Nat) (rate : Fin 4) (rxp : Option Int) (rest : List PortPost), s.power.coreOn = true →
  (s.ch p c).posts = .final onu rate start v eye true rxp :: rest → s.onuBy p c onu = some r → s.nat Cal.EYE_MIN_PCT p ≤ eye →
  s.preloadPorts (p / 32) = [] → s.storeQ = [] →
  ∃ t, exec (.finalSetReceived p c) s = .next t ∧ (t.ch p c).posts = rest ∧ t.coefValid r rate = true ∧
    t.rget (coefTime rate) r = (coefTime rate).ty.norm s.now ∧ s.counted t CalCnt.REFINES 1 p ∧
    (s.coefValid r rate = false → t.rget (coefSet rate) r = (coefSet rate).ty.norm v ∧ (t.onuX r).rxpRef.find? rate = rxp)) ∧
  (∀ (s : State) (p : Fin 64) (c : Fin 2) (onu start v eye r : Nat) (rate : Fin 4) (rxp : Option Int) (rest : List PortPost), s.power.coreOn = true →
  (s.ch p c).posts = .final onu rate start v eye true rxp :: rest → s.onuBy p c onu = some r → s.nat Cal.EYE_MIN_PCT p ≤ eye →
  s.preloadPorts (p / 32) ≠ [] →
  exec (.finalSetReceived p c) s = .next { s.updCh p c (fun x => { x with posts := rest }) with
    storeQ := s.storeQ ++ [{ port := p, rcd := r, rate := rate, final := v, rxp := rxp }] }) ∧
  (∀ (s : State) (p : Fin 64) (c : Fin 2) (onu start v eye rate : Nat) (good : Bool) (rxp : Option Int) (rest : List PortPost), s.power.coreOn = true →
  (s.ch p c).posts = .final onu rate start v eye good rxp :: rest → s.onuBy p c onu = none ∨ good = false ∨ eye < s.nat Cal.EYE_MIN_PCT p →
  ∃ t, exec (.finalSetReceived p c) s = .next t ∧ (t.ch p c).posts = rest ∧ s.counted t CalCnt.REFINE_SKIPPED 1 p ∧
    s.sameBut t [CalCnt.REFINE_SKIPPED.addr p 0 0] ∧ t = { s with od := t.od, port := t.port }) ∧
  (∀ (s : State) (r v : Nat) (rate : Fin 4), s.power.coreOn = true → s.coefCheck r rate v = 0 →
  ∃ t, exec (.coeffSetWrite r rate v) s = .next t ∧ t.rget (coefSet rate) r = (coefSet rate).ty.norm v ∧ t.coefValid r rate = true ∧
    t.rget (coefTime rate) r = (coefTime rate).ty.norm ((s.now : Int) - 2000000000) ∧
    t.out = .result ((coefSet rate).addr 0 0 r).index ((coefSet rate).addr 0 0 r).sub r 0 :: s.out ∧
    s.sameBut t [(coefSet rate).addr 0 0 r, (coefTime rate).addr 0 0 r, Coef.VALID.addr 0 0 r]) ∧
  (∀ (s : State) (r v code : Nat) (rate : Fin 4), s.power.coreOn = true → s.coefCheck r rate v = code → code ≠ 0 →
  exec (.coeffSetWrite r rate v) s = .next { s with out := .result ((coefSet rate).addr 0 0 r).index ((coefSet rate).addr 0 0 r).sub r code :: s.out }) ∧
  (∀ (s : State) (r : Nat) (mask : Fin 16), s.power.coreOn = true → s.hasRecord 0x4200 r = true → mask.val ≠ 0 →
  ∃ t, exec (.coeffInvalidate r mask) s = .next t ∧ (∀ k : Fin 4, t.coefValid r k = (s.coefValid r k && !mask.val.testBit k)) ∧
    t.out = .result (Coef.INVALIDATE.addr 0 0 r).index (Coef.INVALIDATE.addr 0 0 r).sub r 0 :: s.out ∧ s.sameBut t [Coef.VALID.addr 0 0 r]) ∧
  (∀ (s : State) (r : Nat), s.power.coreOn = true → s.hasRecord 0x4200 r = true →
  ∃ t, exec (.clearRxp r) s = .next t ∧ t.rget Coef.RXP_LAST r = -32768 ∧ t.rget Coef.RXP_AVG r = -32768 ∧ t.rget Coef.RXP_MIN r = -32768 ∧
    t.rget Coef.RXP_MAX r = -32768 ∧ t.out = .result (Coef.CLEAR_RXP.addr 0 0 r).index (Coef.CLEAR_RXP.addr 0 0 r).sub r 0 :: s.out ∧
    s.sameBut t [Coef.RXP_LAST.addr 0 0 r, Coef.RXP_AVG.addr 0 0 r, Coef.RXP_MIN.addr 0 0 r, Coef.RXP_MAX.addr 0 0 r]) ∧
  (∀ (s : State) (r : Nat) (rate : Fin 4), s.power.coreOn = true → s.hasRecord 0x4200 r = true → s.coefValid r rate = true →
  (∀ u ∈ (s.onuX r).snapAt.find? rate, u + 60000000000 ≤ s.now) →
  ∃ t, exec (.coeffSnapshot r rate) s = .next t ∧ t.journal.cal.find? ((coefSet rate).addr 0 0 r) = some (s.rget (coefSet rate) r) ∧
    t.journal.cal.find? ((coefTime rate).addr 0 0 r) = some (s.rget (coefTime rate) r) ∧ (t.onuX r).snapAt.find? rate = some s.now ∧ t.od = s.od) ∧
  (∀ (s : State) (p : Fin 64) (c : Fin 2) (sq value onu start r : Nat) (par : Fin 2) (rest : List (Nat × Nat × Nat)), s.power.coreOn = true →
  (c.val + (msBits 3 sq).sum + (msBits 12 value).sum + par.val) % 2 = 1 →
  (s.ch p c).samples = (sq, onu, start) :: rest → s.onuBy p c onu = some r → s.rget Coef.RXP_LAST r = -32768 →
  ∃ t, exec (.powerFrameReceived p c sq value par) s = .next t ∧ (t.ch p c).samples = rest ∧ s.counted t Cal.RXP_MEASURED 1 p ∧
    s.counted t Cal.RXP_MISSED 0 p ∧
    t.rget Coef.RXP_LAST r = Coef.RXP_LAST.ty.norm (-4500 + (value % 4096 : Nat) + s.get Cal.RXP_OFS_CDB p) ∧
    t.rget Coef.RXP_AVG r = Coef.RXP_AVG.ty.norm (-4500 + (value % 4096 : Nat) + s.get Cal.RXP_OFS_CDB p)) ∧
  (∀ (s : State) (p : Fin 64) (c : Fin 2) (sq value : Nat) (par : Fin 2), s.power.coreOn = true →
  (c.val + (msBits 3 sq).sum + (msBits 12 value).sum + par.val) % 2 = 0 → exec (.powerFrameReceived p c sq value par) s = .next s) ∧
  (∀ (s : State) (p : Fin 64) (c : Fin 2) (b : Burst), s.power.coreOn = true → (s.ch p c).bursts = [b] → b.waits = true → b.endedAt + 2000 ≤ s.now →
  ∃ t, exec (.rxpSampleTimeout p c) s = .next t ∧ (t.ch p c).bursts = [] ∧
    (t.ch p c).posts = (s.ch p c).posts ++ [.final b.n.onu b.n.rate b.n.start b.final b.eye
      (b.outcome == .received && b.header == .passed && !b.late && !b.frozen) b.rxp] ∧ t = { s with port := t.port })

/-- The feeder search, the thermal, bias and extinction loops, and the laser faults. A search frame with at least half its bursts received sets the offset to the median and tracks; tracking filters it and is lost after 64 dry frames; a thermal sample drives TEC_MA by the stated control law and settles the channel; the bias and extinction samples set BIAS and MOD within their limits; a loop at its limit for 1 s and a safety trip are faults of cause 6. Each of these is shown to answer a next state with its own effect, on conditions on the state and its operands alone: feederSearchFrame, feederTrackFrame, thermalLoopSample, biasLoopSample, biasLoopResume, extinctionLoopSample, loopLimitTimeout, laserSafetyTrip, laserRampComplete. -/
def Obligations.FeederAndLoops : Prop :=
  (∀ (s : State) (p : Fin 64) (c : Fin 2), s.power.coreOn = true → s.feederState p c = 1 ∨ s.feederState p c = 3 → 0 < (s.ch p c).lastFrame.notified →
  (s.ch p c).lastFrame.notified ≤ 2 * (s.ch p c).lastFrame.received →
  ∃ t, exec (.feederSearchFrame p c) s = .next t ∧ t.feederState p c = 2 ∧
    t.feeder p c = Ty.norm .s32 (median (s.ch p c).lastFrame.offsets) ∧
    t.derived 0 (byCh c Cal.RT_CORR_C0_PS Cal.RT_CORR_C1_PS) p 0 0 = some (2 * t.feeder p c + s.get Cal.FEEDER_ASYM_PS p) ∧
    (s.paired = false → t = { s with od := t.od })) ∧
  (∀ (s : State) (p : Fin 64) (c : Fin 2) (n : Nat), s.power.coreOn = true → s.feederState p c = 1 → 2 * (s.ch p c).lastFrame.received < (s.ch p c).lastFrame.notified →
  nextCandidate (fun k => decide (s.feederLow p ≤ candidate (s.loop p c).candBase (s.nat Pon.WINDOW_NS p c) k) &&
    decide (candidate (s.loop p c).candBase (s.nat Pon.WINDOW_NS p c) k < s.get Cal.FEEDER_RANGE_NS p * 1000))
    (240000 / max (s.nat Pon.WINDOW_NS p c) 1 + 2) ((s.loop p c).cand + 1) = some n →
  ∃ t, exec (.feederSearchFrame p c) s = .next t ∧ t.feederState p c = 1 ∧ (t.loop p c).cand = n ∧
    t.feeder p c = Ty.norm .s32 (candidate (s.loop p c).candBase (s.nat Pon.WINDOW_NS p c) n)) ∧
  (∀ (s : State) (p : Fin 64) (c : Fin 2) (d : Int), s.power.coreOn = true → s.feederState p c = 2 → 8 ≤ (s.ch p c).lastFrame.received →
  d = s.feeder p c + truncDiv (median ((s.ch p c).lastFrame.offsets.map (fun x => x - s.feeder p c))) (2 ^ s.nat Cal.FEEDER_SHIFT p : Nat) →
  s.feederLow p ≤ d →
  ∃ t, exec (.feederTrackFrame p c) s = .next t ∧ t.feeder p c = Ty.norm .s32 d ∧ (t.loop p c).dryFrames = 0 ∧ t.feederState p c = 2 ∧
    t.derived 0 (byCh c Cal.RT_CORR_C0_PS Cal.RT_CORR_C1_PS) p 0 0 = some (2 * t.feeder p c + s.get Cal.FEEDER_ASYM_PS p)) ∧
  (∀ (s : State) (p : Fin 64) (c : Fin 2), s.power.coreOn = true → s.feederState p c = 2 → (s.ch p c).lastFrame.received = 0 → 8 ≤ (s.ch p c).lastFrame.notified →
  63 ≤ (s.loop p c).dryFrames →
  ∃ t, exec (.feederTrackFrame p c) s = .next t ∧ t.feederState p c = 3 ∧ (t.loop p c).dryFrames = 0 ∧ (t.loop p c).cand = 0 ∧
    (t.loop p c).candBase = s.feeder p c ∧ s.raised t 0x3404 0x092 [(1, p), (1, c), (4, s.feeder p c)]) ∧
  (∀ (s : State) (p : Fin 64) (c : Fin 2) (temp e u lim : Int), s.power.coreOn = true → s.thermalRuns p c = true → s.get Cal.SETPT_MC p c ≠ 0 →
  e = s.get Cal.SETPT_MC p c - temp → u = s.get Cal.KP p c * e + (s.loop p c).integ → lim = s.get Cal.TEC_LIMIT_MA p c * 65536000 →
  ∃ t, exec (.thermalLoopSample p c temp) s = .next t ∧ t.get Cal.TEMP_MC p c = Cal.TEMP_MC.ty.norm temp ∧
    t.get Cal.TEC_MA p c = Cal.TEC_MA.ty.norm (roundDiv (clampInt u (-lim) lim) 65536000) ∧
    (t.loop p c).integ = (if (u.natAbs : Int) < lim ∨ e.sign ≠ u.sign then clampInt ((s.loop p c).integ + s.get Cal.KI p c * e) (-lim) lim else (s.loop p c).integ) ∧
    (t.loop p c).inBand = (if (e.natAbs : Int) < s.get Cal.SETTLE_MK p c then (s.loop p c).inBand + 1 else 0) ∧
    (s.nat Cal.SETTLE_MS p c + 1 ≤ (t.loop p c).inBand → t.flag Cal.SETTLED p c = true)) ∧
  (∀ (s : State) (p : Fin 64) (c : Fin 2) (mpdAvg : Nat) (b : Int), s.power.coreOn = true → s.chState p c = 3 → (s.ch p c).rampDone = true →
  (s.loop p c).biasHold = false →
  b = clampInt (s.get Cal.BIAS_10UA p c + roundDiv (s.get Cal.KB p c * ((s.orModule Cal.MPD_TARGET_UA p c 3 : Int) - mpdAvg)) 65536)
    (s.get Cal.BIAS_MIN_10UA p c) (s.orModule Cal.BIAS_MAX_10UA p c 1) →
  ∃ t, exec (.biasLoopSample p c mpdAvg) s = .next t ∧ t.get Cal.MPD_UA p c = Cal.MPD_UA.ty.norm mpdAvg ∧ t.get Cal.BIAS_10UA p c = Cal.BIAS_10UA.ty.norm b ∧
    s.sameBut t [Cal.MPD_UA.addr p c 0, Cal.BIAS_10UA.addr p c 0, Cal.SB_CMDS.addr p 0 0]) ∧
  (∀ (s : State) (p : Fin 64) (c : Fin 2), s.power.coreOn = true → (s.loop p c).rampAt + 1000000 ≤ s.now →
  exec (.biasLoopResume p c) s = .next (s.updLoop p c (fun l => { l with biasHold := false }))) ∧
  (∀ (s : State) (p : Fin 64) (c : Fin 2) (avg swing : Nat) (m : Int), s.power.coreOn = true → s.chState p c = 3 →
  (((s.orModule Cal.MPD_TARGET_UA p c 3 : Int) - avg).natAbs : Int) ≤ s.get Cal.MPD_TOL_UA p c →
  m = clampInt (s.get Cal.MOD_10UA p c + roundDiv (s.get Cal.KM p c * ((s.orModule Cal.ER_TARGET_CDB p c 4 : Int) - extinction avg swing)) 65536)
    (s.get Cal.MOD_MIN_10UA p c) (s.orModule Cal.MOD_MAX_10UA p c 2) →
  ∃ t, exec (.extinctionLoopSample p c avg swing) s = .next t ∧ t.get Cal.ER_CDB p c = Cal.ER_CDB.ty.norm (extinction avg swing) ∧
    t.get Cal.MOD_10UA p c = Cal.MOD_10UA.ty.norm m ∧
    s.sameBut t [Cal.ER_CDB.addr p c 0, Cal.MPD_UA.addr p c 0, Cal.MOD_10UA.addr p c 0, Cal.SB_CMDS.addr p 0 0]) ∧
  (∀ (s : State) (p : Fin 64) (c : Fin 2) (u : Nat), s.power.coreOn = true → s.chState p c = 1 ∨ s.chState p c = 2 ∨ s.chState p c = 3 →
  (s.loop p c).biasLimitAt = some u → u + 1000000000 ≤ s.now →
  ∃ t, exec (.loopLimitTimeout p c) s = .next t ∧ t.chState p c = 4 ∧ t.nat Pon.FAULT_CAUSE p c = 6 ∧ t.nat Cal.LOOP_LIMIT p c = 1 ∧
    (t.ch p c).laser = false ∧ s.raised t 0x3001 (0x040 + p) [(1, p), (1, c), (1, 6)]) ∧
  (∀ (s : State) (p : Fin 64) (c : Fin 2), s.power.coreOn = true → s.chState p c = 1 ∨ s.chState p c = 2 ∨ s.chState p c = 3 →
  ∃ t, exec (.laserSafetyTrip p c) s = .next t ∧ t.chState p c = 4 ∧ t.nat Pon.FAULT_CAUSE p c = 6 ∧ t.nat Cal.LOOP_LIMIT p c = 3 ∧
    (t.ch p c).laser = false ∧ s.raised t 0x3001 (0x040 + p) [(1, p), (1, c), (1, 6)]) ∧
  (∀ (s : State) (p : Fin 64) (c : Fin 2), s.power.coreOn = true → (s.ch p c).ramping = true →
  exec (.laserRampComplete p c) s = .next ((s.updCh p c (fun x => { x with ramping := false, rampDone := true })).updLoop p c
    (fun l => { l with biasHold := true, rampAt := s.now })))

/-- The optics sideband: answers, retries, the module's absence and detection. A good answer ends the oldest command; an error or a time-out repeats it up to two times, and three failed commands in a row are a fault of cause 5; an absent or unknown module is a fault of cause 3, a known one is read and written its ramp. Each of these is shown to answer a next state with its own effect, on conditions on the state and its operands alone: sbResponse, sbTimeout, moduleAbsent, moduleDetected, moduleReadComplete. -/
def Obligations.Sideband : Prop :=
  (∀ (s : State) (p : Fin 64) (m : SbCmd) (rest : List SbCmd) (count : Fin 16) (data : List Nat), s.power.coreOn = true → (s.optic p).cmds = m :: rest → (s.optic p).waiting = [] →
  ∃ t, exec (.sbResponse p 0 count data (responseCrc 0 count data) true) s = .next t ∧ (t.optic p).cmds = rest ∧ (t.optic p).failed = 0 ∧ t = { s with optics := t.optics }) ∧
  (∀ (s : State) (p : Fin 64) (status : Fin 4) (count : Fin 16) (data : List Nat) (crc : Nat) (stop : Bool) (m : SbCmd) (rest : List SbCmd), s.power.coreOn = true → (s.optic p).cmds = m :: rest →
  status.val ≠ 0 ∨ crc ≠ responseCrc status count data ∨ stop = false → m.tries < 2 →
  ∃ t, exec (.sbResponse p status count data crc stop) s = .next t ∧ (t.optic p).cmds = { m with tries := m.tries + 1, sentAt := s.now } :: rest ∧
    s.counted t Cal.SB_RETRIES 1 p ∧ (crc ≠ responseCrc status count data → s.counted t Cal.SB_CRC_ERRORS 1 p) ∧
    t.out = .sbFrame p ([0] ++ m.body ++ msBits 8 (crc8 m.body) ++ [1]) :: s.out ∧
    s.sameBut t [Cal.SB_RETRIES.addr p 0 0, Cal.SB_CRC_ERRORS.addr p 0 0]) ∧
  (∀ (s : State) (p : Fin 64) (m : SbCmd) (rest : List SbCmd), s.power.coreOn = true → (s.optic p).cmds = m :: rest → m.tries < 2 →
  m.sentAt + s.nat Cal.SB_TIMEOUT_US p * 1000 ≤ s.now →
  ∃ t, exec (.sbTimeout p) s = .next t ∧ (t.optic p).cmds = { m with tries := m.tries + 1, sentAt := s.now } :: rest ∧
    s.counted t Cal.SB_RETRIES 1 p ∧ s.counted t Cal.SB_TIMEOUTS 1 p ∧ s.sameBut t [Cal.SB_RETRIES.addr p 0 0, Cal.SB_TIMEOUTS.addr p 0 0]) ∧
  (∀ (s : State) (p : Fin 64) (c : Fin 2) (m : SbCmd) (rest : List SbCmd), s.power.coreOn = true → (s.optic p).cmds = m :: rest → 2 ≤ m.tries → 2 ≤ (s.optic p).failed →
  m.sentAt + s.nat Cal.SB_TIMEOUT_US p * 1000 ≤ s.now → s.chState p c = 1 ∨ s.chState p c = 2 ∨ s.chState p c = 3 →
  ∃ t, exec (.sbTimeout p) s = .next t ∧ t.chState p c = 4 ∧ t.nat Pon.FAULT_CAUSE p c = 5 ∧ (t.optic p).failed = 0) ∧
  (∀ (s : State) (p : Fin 64), s.power.coreOn = true →
  ∃ t, exec (.moduleAbsent p) s = .next t ∧ t.nat Pon.MODULE_PRESENT p = 0 ∧ (t.optic p).cmds = [] ∧ (t.optic p).waiting = [] ∧
    (∀ c : Fin 2, s.chState p c = 1 ∨ s.chState p c = 2 ∨ s.chState p c = 3 → t.chState p c = 4 ∧ t.nat Pon.FAULT_CAUSE p c = 3)) ∧
  (∀ (s : State) (p : Fin 64), s.power.coreOn = true → s.osbRuns = true →
  ∃ t, exec (.moduleDetected p) s = .next t ∧ (t.optic p).reading = true ∧
    (t.optic p).cmds = [{ op := 1, addr := 0, count := 2, sentAt := s.now }, { op := 1, addr := 0x80, count := 6, sentAt := s.now }] ∧
    t.out = .sbFrame p ([0] ++ SbCmd.body { op := 1, addr := 0x80, count := 6 } ++ msBits 8 (crc8 (SbCmd.body { op := 1, addr := 0x80, count := 6 })) ++ [1]) ::
      .sbFrame p ([0] ++ SbCmd.body { op := 1, addr := 0, count := 2 } ++ msBits 8 (crc8 (SbCmd.body { op := 1, addr := 0, count := 2 })) ++ [1]) :: s.out ∧ s.sameBut t [Cal.SB_CMDS.addr p 0 0] ∧ t = { s with od := t.od, out := t.out, optics := t.optics }) ∧
  (∀ (s : State) (p : Fin 64) (modId caps : Nat) (cal0 cal1 : List Nat), s.power.coreOn = true → (s.optic p).reading = true → modId % 65536 = 0x4F53 →
  ∃ t, exec (.moduleReadComplete p modId caps cal0 cal1) s = .next t ∧ t.nat Pon.MODULE_PRESENT p = 1 ∧ t.nat Pon.C1_FITTED p = caps % 2 ∧
    t.nat Cal.MODULE_ID p = 0x4F53 ∧ (t.optic p).reading = false ∧ (t.optic p).cal0 = cal0.take 6 ∧ (t.optic p).cal1 = cal1.take 6 ∧
    (t.optic p).fresh0 = true ∧ (t.optic p).fresh1 = true) ∧
  (∀ (s : State) (p : Fin 64) (modId caps : Nat) (cal0 cal1 : List Nat), s.power.coreOn = true → (s.optic p).reading = true → modId % 65536 ≠ 0x4F53 →
  ∃ t, exec (.moduleReadComplete p modId caps cal0 cal1) s = .next t ∧ t.nat Pon.MODULE_PRESENT p = 0 ∧ (t.optic p).reading = false ∧
    s.raised t 0x3406 0x092 [(1, p), (2, modId)] ∧
    (∀ c : Fin 2, s.chState p c = 1 ∨ s.chState p c = 2 ∨ s.chState p c = 3 → t.chState p c = 4 ∧ t.nat Pon.FAULT_CAUSE p c = 3))

/-- Downstream frames and the PLOAM queue. At a frame boundary a sending channel sends one frame with its bandwidth map, the first PLOAM slot filled and the rest idle, and takes its staged packet; a DARK channel sends none; a PLOAM is queued or dropped as the 65th. Each of these is shown to answer a next state with its own effect, on conditions on the state and its operands alone: dsFrameBuild, ploamPost. -/
def Obligations.DownstreamFrames : Prop :=
  (∀ (s : State) (p : Fin 64) (c : Fin 2) (m : MapRec), s.power.coreOn = true → (s.frCh p c).nextFrame ≤ s.frame → s.chState p c = 3 →
  (s.ch p c).serLock = true → (s.ch p c).rampDone = true → s.twin.takeN = none → s.onusOf p c = [] → (s.frCh p c).switch = none → (s.frCh p c).staged = [] →
  (s.frCh p c).ploams = [] → (s.actCh p c).msgs = [] → (s.grantCh p c).handed = some m → m.k = s.frame →
  ∃ t, exec (.dsFrameBuild p c) s = .next t ∧
    t.out.head? = some (s.dsOut p c ((m.placed c).map (fun e => (e.1, if e.2 = 0 then 0 else e.2 - (s.frameStart s.frame * 1000 : Nat)))) []
      (frameData c - 4 - 8 * (m.placed c).length - 48)) ∧
    (t.frCh p c).nextFrame = s.frame + 1 ∧ (t.ch p c).sending = true ∧ s.counted t FrSt.DS_FRAMES 1 p c ∧
    s.counted t FrSt.DS_IDLE_BYTES (frameData c - 4 - 8 * (m.placed c).length - 48) p c ∧
    s.sameBut t [FrSt.DS_FRAMES.addr p c 0, FrSt.DS_IDLE_BYTES.addr p c 0]) ∧
  (∀ (s : State) (p : Fin 64) (c : Fin 2) (q : Pkt), s.power.coreOn = true → (s.frCh p c).nextFrame ≤ s.frame → s.chState p c = 3 →
  (s.ch p c).serLock = true → (s.ch p c).rampDone = true → s.twin.takeN = none → s.onusOf p c = [] → (s.frCh p c).switch = none → (s.frCh p c).staged = [q] →
  (s.frCh p c).sentBytes = 0 → (s.frCh p c).ploams = [] → (s.actCh p c).msgs = [] → (s.grantCh p c).handed = none → q.tag = [] → q.shared = false → q.buf = none →
  s.xgemSends p c q.xgem = true → s.rnat Xg.ENCRYPT q.xgem = 0 → q.data.length ≤ s.eff FrCfg.MAX_SDU p → q.data.length ≤ 20000 →
  ∃ t, exec (.dsFrameBuild p c) s = .next t ∧ (t.frCh p c).staged = [] ∧
    t.out.head? = some (s.dsOut p c [] [xgemOut c s.frame 52 (s.rnat Xg.XGEM_ID q.xgem) (0, 0) q.data true]
      (frameData c - 4 - 48 - 8 - pad4 q.data.length)) ∧
    s.rcounted t Xg.FRAMES_DS q.xgem 1 ∧ s.rcounted t Xg.BYTES_DS q.xgem q.data.length ∧ s.counted t FrSt.DS_XGEM_FRAMES 1 p c) ∧
  (∀ (s : State) (p : Fin 64) (c : Fin 2), s.power.coreOn = true → (s.frCh p c).nextFrame ≤ s.frame → s.chState p c = 2 → (s.ch p c).sending = false →
  ∃ t, exec (.dsFrameBuild p c) s = .next t ∧ t.out = s.out ∧ (t.frCh p c).nextFrame = s.frame + 1 ∧ (t.frCh p c).staged = (s.frCh p c).staged) ∧
  (∀ (s : State) (p : Fin 64) (c : Fin 2) (onu : Nat) (arg : Int), s.power.coreOn = true →
  ∃ t, exec (.ploamPost p c onu arg) s = .next t ∧
    ((s.frCh p c).ploams.length < 64 → (t.frCh p c).ploams = (s.frCh p c).ploams ++ [{ onu := onu, kind := .host, arg := arg, at' := s.now }] ∧
      t.out = .value 0 :: s.out ∧ t.od = s.od) ∧
    (64 ≤ (s.frCh p c).ploams.length → (t.frCh p c).ploams = (s.frCh p c).ploams ∧ s.counted t FrSt.PLOAM_DS_DROP 1 p c ∧
      t.out = .value 0x06050001 :: s.out))

/-- Keys: the exchange with an ONU, and the four key messages. Key_Control opens an exchange; its report installs the key in the slot that is not active, or fails; 100 ms without one fail; MCAST_LOAD, MCAST_ACTIVATE, MSK_LOAD and REKEY take effect and are answered, or answered with the code of their check and nothing else. Each of these is shown to answer a next state with its own effect, on conditions on the state and its operands alone: keyControlDue, keyReportReceived, keyExchangeTimeout, mcastLoad, mcastActivate, mskLoad, rekey. -/
def Obligations.KeyExchange : Prop :=
  (∀ (s : State) (r : Nat) (p : Fin 64) (c : Fin 2), s.power.coreOn = true → s.onuAt r p c → s.rnat Onu.STATE r = 5 → (s.onuF r).exchange = 0 → (s.onuF r).rekey = true →
  (s.frCh p c).ploams.length < 64 →
  ∃ t, exec (.keyControlDue r) s = .next t ∧ (t.onuF r).exchange = 1 ∧ (t.onuF r).rekey = false ∧ (t.onuF r).controlAt = s.now ∧
    (t.frCh p c).ploams = (s.frCh p c).ploams ++ [{ onu := s.rnat Onu.ONU_ID r, kind := .keyControl, at' := s.now }] ∧ t = { s with framer := t.framer, fr := t.fr }) ∧
  (∀ (s : State) (r : Nat) (m : List Nat) (rest : List (List Nat)), s.power.coreOn = true → (s.onuF r).keyReports = m :: rest → (s.onuF r).exchange = 2 →
  s.now < (s.onuF r).controlAt + 100000000 →
  ∃ t, exec (.keyReportReceived r) s = .next t ∧ (t.onuF r).keyReports = rest ∧ (t.onuF r).exchange = 0 ∧
    (∀ k, Config.unwrapKey (Config.kekOf (s.mskFor r)) m = some k → (t.onuF r).keyFails = 0 ∧ s.counted t FrDev.KEY_INSTALLS 1 ∧
      (if s.rnat OnuPm.KEY_ACTIVE r = 1 then (t.onuF r).key2 = some k ∧ (t.onuF r).key1 = (s.onuF r).key1
        else (t.onuF r).key1 = some k ∧ (t.onuF r).key2 = (s.onuF r).key2)) ∧
    (Config.unwrapKey (Config.kekOf (s.mskFor r)) m = none → s.counted t FrDev.KEY_FAILS 1 ∧ (t.onuF r).key1 = (s.onuF r).key1)) ∧
  (∀ (s : State) (r : Nat), s.power.coreOn = true → (s.onuF r).exchange = 2 → (s.onuF r).controlAt + 100000000 ≤ s.now →
  ∃ t, exec (.keyExchangeTimeout r) s = .next t ∧ (t.onuF r).exchange = 0 ∧ s.counted t FrDev.KEY_FAILS 1 ∧
    (t.onuF r).keyFails = (if (s.onuF r).keyFails = 2 then 0 else (s.onuF r).keyFails + 1) ∧
    ((s.onuF r).keyFails = 2 → s.raised t 0x5801 0x020 (s.onuArgs r)) ∧ s.sameBut t (FrDev.KEY_FAILS.addr 0 0 0 :: eventAddrs)) ∧
  (∀ (s : State) (m : Fin 8) (k : Fin 16) (x : Slot), s.power.coreOn = true → s.keyMessage m k x → s.keyCheck x.sender 1 (keyMsg x.data) = 0 →
  (s.frCh ((keyMsg x.data).target / 2) ((keyMsg x.data).target % 2)).active ≠ (keyMsg x.data).slot →
  ∃ t, exec (.mcastLoad m) s = .next t ∧ t.keyAnswered m k x 0 ∧ s.counted t FrDev.KEY_INSTALLS 1 ∧
    (if (keyMsg x.data).slot = 1 then (t.frCh ((keyMsg x.data).target / 2) ((keyMsg x.data).target % 2)).key1 = some (keyMsg x.data).key
      else (t.frCh ((keyMsg x.data).target / 2) ((keyMsg x.data).target % 2)).key2 = some (keyMsg x.data).key) ∧
    s.sameBut t [FrDev.KEY_INSTALLS.addr 0 0 0] ∧ t = { s with od := t.od, out := t.out, fr := t.fr, host := t.host }) ∧
  (∀ (s : State) (m : Fin 8) (k : Fin 16) (x : Slot) (key : Nat), s.power.coreOn = true → s.keyMessage m k x → s.keyCheck x.sender 2 (keyMsg x.data) = 0 →
  (if (keyMsg x.data).slot = 1 then (s.frCh ((keyMsg x.data).target / 2) ((keyMsg x.data).target % 2)).key1
    else (s.frCh ((keyMsg x.data).target / 2) ((keyMsg x.data).target % 2)).key2) = some key →
  ∃ t, exec (.mcastActivate m) s = .next t ∧ t.keyAnswered m k x 0 ∧
    (t.frCh ((keyMsg x.data).target / 2) ((keyMsg x.data).target % 2)).switch = some (s.frame + 1 + (keyMsg x.data).delay, (keyMsg x.data).slot) ∧
    t = { s with out := t.out, fr := t.fr, host := t.host }) ∧
  (∀ (s : State) (m : Fin 8) (k : Fin 16) (x : Slot), s.power.coreOn = true → s.keyMessage m k x → s.keyCheck x.sender 3 (keyMsg x.data) = 0 →
  s.hasRecord 0x4200 (keyMsg x.data).target = true →
  ∃ t, exec (.mskLoad m) s = .next t ∧ t.keyAnswered m k x 0 ∧
    (t.onuF (keyMsg x.data).target).msk = some (keyMsg x.data).key ∧ t = { s with out := t.out, framer := t.framer, host := t.host }) ∧
  (∀ (s : State) (m : Fin 8) (k : Fin 16) (x : Slot), s.power.coreOn = true → s.keyMessage m k x → s.keyCheck x.sender 4 (keyMsg x.data) = 0 →
  s.hasRecord 0x4200 (keyMsg x.data).target = true →
  ∃ t, exec (.rekey m) s = .next t ∧ t.keyAnswered m k x 0 ∧
    (t.onuF (keyMsg x.data).target).rekey = true ∧ t = { s with out := t.out, framer := t.framer, host := t.host }) ∧
  (∀ (s : State) (m : Fin 8) (k : Fin 16) (x : Slot) (op : Nat) (i : Instr), s.power.coreOn = true → s.keyMessage m k x →
  s.keyCheck x.sender op (keyMsg x.data) ≠ 0 → (keyMsg x.data).op = op ∨ (keyMsg x.data).op = 0 ∨ 4 < (keyMsg x.data).op →
  (i = .mcastLoad m ∧ op = 1) ∨ (i = .mcastActivate m ∧ op = 2) ∨ (i = .mskLoad m ∧ op = 3) ∨ (i = .rekey m ∧ op = 4) →
  ∃ t, exec i s = .next t ∧ t.keyAnswered m k x (s.keyCheck x.sender op (keyMsg x.data)) ∧ t = { s with out := t.out, host := t.host })

/-- Upstream PLOAMs and OMCI requests, repetitions and answers. An upstream PLOAM with a bad MIC is counted and dropped, a Key_Report waits for the security engine, others go to the control complex; an OMCI request is sent when it is the first of its priority, repeated after OMCI_TIMEOUT_MS up to OMCI_RETRIES times, then returned; an answer with the outstanding TCI releases the next. Each of these is shown to answer a next state with its own effect, on conditions on the state and its operands alone: usPloam, omciRequest, omciTimeout, omciRx. -/
def Obligations.UpstreamMessages : Prop :=
  (∀ (s : State) (p : Fin 64) (c : Fin 2) (onu start r mic : Nat) (body : List Nat), s.power.coreOn = true → s.onuBy p c onu = some r →
  (start, onu) ∈ (s.ch p c).good →
  ∃ t, exec (.usPloam p c onu start .keyReport body mic) s = .next t ∧
    (s.eff FrCfg.PLOAM_MIC_CHECK p = 0 ∨ Config.ploamMic (s.ploamKey p c onu) body = mic →
      (t.onuF r).keyReports = (s.onuF r).keyReports ++ [body] ∧ t = { s with framer := t.framer }) ∧
    (s.eff FrCfg.PLOAM_MIC_CHECK p ≠ 0 ∧ Config.ploamMic (s.ploamKey p c onu) body ≠ mic →
      s.counted t FrSt.PLOAM_MIC_FAIL 1 p c ∧ t = { s with od := t.od })) ∧
  (∀ (s : State) (p : Fin 64) (c : Fin 2) (onu start mic : Nat) (kind : UsPloam) (body : List Nat), s.power.coreOn = true → (start, onu) ∈ (s.ch p c).good → kind ≠ .keyReport →
  s.eff FrCfg.PLOAM_MIC_CHECK p = 0 →
  exec (.usPloam p c onu start kind body mic) s = .next { s with out := .usPloam p c onu kind (ofBe body) :: s.out }) ∧
  (∀ (s : State) (p : Fin 64) (c : Fin 2) (onu start mic : Nat) (kind : UsPloam) (body : List Nat), s.power.coreOn = true → (start, onu) ∉ (s.ch p c).good →
  exec (.usPloam p c onu start kind body mic) s = .next s) ∧
  (∀ (s : State) (r tci desc x : Nat) (prio : Fin 2) (body : List Nat) (p : Fin 64) (c : Fin 2), s.power.coreOn = true → s.onuAt r p c → s.omccOf r = some x →
  s.rnat Onu.STATE r = 5 → (s.onuF r).omci prio = [] →
  ∃ t, exec (.omciRequest r prio true tci body desc) s = .next t ∧
    (t.onuF r).omci prio = [{ tci := tci, body := body, sent := 1, sentAt := s.now }] ∧
    (t.frCh p c).staged = (s.frCh p c).staged ++ [{ data := body ++ beBytes 4 (Config.omciMic (Config.omciKeyOf (s.mskFor r)) body), srcType := 2, xgem := x, at' := s.now }] ∧
    t.tm.dmaDone = s.tm.dmaDone ++ [(4, desc, 0, 0)] ∧ s.sameBut t [OnuPm.OMCI_PENDING.addr 0 0 r]) ∧
  (∀ (s : State) (r tci desc : Nat) (prio : Fin 2) (ar : Bool) (body : List Nat), s.power.coreOn = true → s.omccOf r = none ∨ s.rnat Onu.STATE r ≠ 5 →
  ∃ t, exec (.omciRequest r prio ar tci body desc) s = .next t ∧
    t.tm.dmaDone = s.tm.dmaDone ++ [(4, desc, 5, if s.omccOf r = none then 0x06040002 else 0x06060001)] ∧
    t = { s with tm := { s.tm with dmaDone := t.tm.dmaDone } }) ∧
  (∀ (s : State) (r : Nat) (prio : Fin 2) (q : OmciReq) (rest : List OmciReq) (p : Fin 64) (c : Fin 2), s.power.coreOn = true → s.onuAt r p c →
  (s.onuF r).omci prio = q :: rest → q.sentAt + s.eff FrCfg.OMCI_TIMEOUT_MS p * 1000000 ≤ s.now →
  ∃ t, exec (.omciTimeout r prio) s = .next t ∧
    (q.sent ≤ s.eff FrCfg.OMCI_RETRIES p → (t.onuF r).omci prio = { q with sent := q.sent + 1, sentAt := s.now } :: rest ∧ s.counted t FrDev.OMCI_RETRANSMITS 1) ∧
    (s.eff FrCfg.OMCI_RETRIES p < q.sent → ((t.onuF r).omci prio).tail = rest.tail ∧ s.counted t FrDev.OMCI_FAILURES 1 ∧
      ((s.omciRx.getD p []).length < 1024 →
        t.omciRx.getD p [] = s.omciRx.getD p [] ++ [{ rcd := r, prio := prio, body := q.body, code := 0x06090001, at' := s.now }]))) ∧
  (∀ (s : State) (r tci mic : Nat) (prio : Fin 2) (ak : Bool) (body : List Nat) (p : Fin 64) (c : Fin 2), s.power.coreOn = true → s.onuAt r p c →
  (s.omciRx.getD p []).length < 1024 →
  ∃ t, exec (.omciRx r prio ak tci body mic) s = .next t ∧
    (Config.omciMic (Config.omciKeyOf (s.mskFor r)) body ≠ mic → s.counted t FrSt.OMCI_MIC_FAIL 1 p c ∧ t = { s with od := t.od }) ∧
    (Config.omciMic (Config.omciKeyOf (s.mskFor r)) body = mic → ak = false ∨ ((s.onuF r).omci prio).head?.map (fun q => q.tci) = some tci →
      t.omciRx.getD p [] = s.omciRx.getD p [] ++ [{ rcd := r, prio := prio, body := body, at' := s.now }]) ∧
    (Config.omciMic (Config.omciKeyOf (s.mskFor r)) body = mic → ak = true → ((s.onuF r).omci prio).head?.map (fun q => q.tci) ≠ some tci →
      s.counted t FrDev.OMCI_DUP 1 ∧ t = { s with od := t.od }))

/-- Upstream codewords and XGEM frames, reassembly, and the per-ONU seconds and bins. Codewords are counted by outcome; an XGEM frame is delivered, kept for reassembly, or counted as unknown, encrypted or with a bad header; a reassembly that takes too long fails; seconds are classified and committed 11 s after their start, ten severe ones make the ONU unavailable, and a bin becomes previous at its end plus 11 s. Each of these is shown to answer a next state with its own effect, on conditions on the state and its operands alone: usCodeword, usXgemFrame, reasmTimeout, pmSecondClassify, pmSecondCommit, pmBinEnd, clearPm. -/
def Obligations.UpstreamFrames : Prop :=
  (∀ (s : State) (p : Fin 64) (c : Fin 2) (r start : Nat) (o : Fin 3) (xgems : List Nat), s.power.coreOn = true → o.val ≠ 2 →
  exec (.usCodeword p c r start o xgems) s = .next (s.bump (if o.val = 0 then FrSt.US_CW_OK else FrSt.US_CW_CORRECTED) p c)) ∧
  (∀ (s : State) (p : Fin 64) (c : Fin 2) (r start x : Nat) (m : Reasm), s.power.coreOn = true → (s.ch p c).bursts = [] → Tab.find? s.reasm x = some m → m.st ≠ 3 →
  ∃ t, exec (.usCodeword p c r start 2 [x]) s = .next t ∧ s.counted t FrSt.US_CW_UNCORR 1 p c ∧ t.reasm.getD x {} = { st := 2 } ∧
    ((t.onuF r).secs.getD (start / 1000 / 1000000000) {}).c = ((s.onuF r).secs.getD (start / 1000 / 1000000000) {}).c + 1 ∧
    s.sameBut t [FrSt.US_CW_UNCORR.addr p c 0] ∧ t = { s with od := t.od, framer := t.framer, reasm := t.reasm }) ∧
  (∀ (s : State) (p : Fin 64) (c : Fin 2) (r start alloc id x : Nat) (data : List Nat), s.power.coreOn = true → (start, s.rnat Onu.ONU_ID r) ∈ (s.ch p c).good → (start, alloc) ∉ (s.ch p c).dead → id ≠ 0xFFFF → s.usXgem p c r id = some x →
  s.reasm.getD x {} = {} → s.reasmOpen < 65536 →
  ∃ t, exec (.usXgemFrame p c r start alloc 0 id 0 false data) s = .next t ∧ t.reasm.getD x {} = { st := 1, data := data, since := s.now } ∧ t = { s with reasm := t.reasm }) ∧
  (∀ (s : State) (p : Fin 64) (c : Fin 2) (r start alloc id x : Nat) (m : Reasm) (data : List Nat), s.power.coreOn = true → (start, s.rnat Onu.ONU_ID r) ∈ (s.ch p c).good → (start, alloc) ∉ (s.ch p c).dead → id ≠ 0xFFFF → s.usXgem p c r id = some x →
  s.reasm.getD x {} = m → m.st = 1 → s.now < m.since + s.eff FrCfg.REASM_TIMEOUT_US p * 1000 → (m.data ++ data).length ≤ s.eff FrCfg.MAX_SDU p → s.rflag Xg.OMCC x = false →
  ∃ t, exec (.usXgemFrame p c r start alloc 0 id 0 true data) s = .next t ∧ t.reasm.getD x {} = {} ∧ s.rcounted t Xg.FRAMES_US x 1 ∧
    s.rcounted t Xg.BYTES_US x (m.data ++ data).length) ∧
  (∀ (s : State) (p : Fin 64) (c : Fin 2) (r start alloc id k : Nat) (lf : Bool) (data : List Nat), s.power.coreOn = true →
  (start, s.rnat Onu.ONU_ID r) ∈ (s.ch p c).good → (start, alloc) ∉ (s.ch p c).dead → id ≠ 0xFFFF →
  (s.usXgem p c r id = none → exec (.usXgemFrame p c r start alloc 0 id k lf data) s = .next (s.bump FrSt.US_XGEM_UNKNOWN p c)) ∧
  (s.usXgem p c r id ≠ none → k ≠ 0 → exec (.usXgemFrame p c r start alloc 0 id k lf data) s = .next (s.bump FrSt.US_ENCRYPTED_DROP p c))) ∧
  (∀ (s : State) (p : Fin 64) (c : Fin 2) (r start alloc id k : Nat) (hec : Fin 3) (lf : Bool) (data : List Nat), s.power.coreOn = true →
  (start, s.rnat Onu.ONU_ID r) ∉ (s.ch p c).good ∨ (start, alloc) ∈ (s.ch p c).dead → exec (.usXgemFrame p c r start alloc hec id k lf data) s = .next s) ∧
  (∀ (s : State) (p : Fin 64) (c : Fin 2) (r start alloc id k : Nat) (lf : Bool) (data : List Nat), s.power.coreOn = true → (start, s.rnat Onu.ONU_ID r) ∈ (s.ch p c).good → (start, alloc) ∉ (s.ch p c).dead → 
  ∃ t, exec (.usXgemFrame p c r start alloc 2 id k lf data) s = .next t ∧ s.counted t FrSt.US_HEC_UNCORR 1 p c ∧ (start, alloc) ∈ (t.ch p c).dead) ∧
  (∀ (s : State) (x : Nat) (m : Reasm) (p : Fin 64) (c : Fin 2), s.power.coreOn = true → s.rnat Xg.PORT x = p → s.rnat Xg.CHANNEL x = c →
  Tab.find? s.reasm x = some m → m.st = 1 → m.since + s.eff FrCfg.REASM_TIMEOUT_US p * 1000 ≤ s.now →
  ∃ t, exec (.reasmTimeout x) s = .next t ∧ t.reasm.getD x {} = { st := 2 } ∧ s.counted t FrSt.US_REASM_FAIL 1 p c ∧ s.rcounted t Xg.REASM_FAIL x 1 ∧
    s.sameBut t [FrSt.US_REASM_FAIL.addr p c 0, Xg.REASM_FAIL.addr 0 0 x]) ∧
  (∀ (s : State) (r k : Nat) (x : SecTally), s.power.coreOn = true → s.hasRecord 0x4200 r = true → (s.onuF r).nextSec = k → (k + 1) * 1000000000 ≤ s.now →
  s.outcomesOpen r (k + 1) = false → (s.onuF r).secs.getD k {} = x → 0 < x.g → 100 * (x.l + x.u) < 15 * x.g → s.rflag OnuPm.UNAVAILABLE r = false →
  ∃ t, exec (.pmSecondClassify r) s = .next t ∧ (t.onuF r).nextSec = k + 1 ∧ (t.onuF r).sesRun = 0 ∧ (t.onuF r).okRun = (s.onuF r).okRun + 1 ∧
    (t.onuF r).classed.getD k {} = { es := decide (1 ≤ x.l) || decide (1 ≤ x.c), ses := false, unav := false, t := x } ∧ t = { s with framer := t.framer }) ∧
  (∀ (s : State) (r k : Nat) (x : SecTally) (p : Fin 64) (c : Fin 2), s.power.coreOn = true → s.onuAt r p c → (s.onuF r).nextSec = k → (k + 1) * 1000000000 ≤ s.now →
  s.outcomesOpen r (k + 1) = false → (s.onuF r).secs.getD k {} = x → 0 < x.g → 15 * x.g ≤ 100 * (x.l + x.u) → s.rflag OnuPm.UNAVAILABLE r = false →
  (s.onuF r).sesRun = 9 →
  ∃ t, exec (.pmSecondClassify r) s = .next t ∧ (t.onuF r).nextSec = k + 1 ∧ t.rflag OnuPm.UNAVAILABLE r = true ∧
    s.raised t 0x5802 (0x040 + p) (s.pmArgs r ++ [(12, (((k - 9) * 1000000000 : Nat) : Int))]) ∧ s.sameBut t (OnuPm.UNAVAILABLE.addr 0 0 r :: eventAddrs)) ∧
  (∀ (s : State) (r k : Nat) (x : SecClass) (rest : Tab SecClass) (p : Fin 64) (c : Fin 2), s.power.coreOn = true → s.onuAt r p c → (s.onuF r).classed = (k, x) :: rest →
  (k + 11) * 1000000000 ≤ s.now → s.rnat OnuPm.BIN15_START r = k / 900 * 900 * 1000000000 → s.rnat OnuPm.BIN24_START r = k / 86400 * 86400 * 1000000000 →
  x.unav = false →
  ∃ t, exec (.pmSecondCommit r) s = .next t ∧ (t.onuF r).classed = rest ∧ s.rcounted t OnuPm.BURSTS_GRANTED r x.t.g ∧ s.rcounted t OnuPm.BURSTS_LOST r x.t.l ∧
    s.rcounted t OnuPm.BURSTS_UNCORR r x.t.u ∧ s.rcounted t OnuPm.CW_UNCORR r x.t.c ∧ (x.es = true → s.rcounted t OnuPm.ES_15M r 1 ∧ s.rcounted t OnuPm.ES_24H r 1) ∧
    (x.ses = true → s.rcounted t OnuPm.SES_15M r 1 ∧ s.rcounted t OnuPm.SES_24H r 1) ∧ t.rget OnuPm.UAS_15M r = s.rget OnuPm.UAS_15M r) ∧
  (∀ (s : State) (r : Nat) (bad : Option (Fin 8 × Nat)), s.power.coreOn = true → s.hasRecord 0x4200 r = true → s.rnat OnuPm.BIN15_START r + 911000000000 ≤ s.now →
  s.rnat OnuPm.BIN15_START r + 900000000000 ≤ (s.onuF r).nextSec * 1000000000 → (s.onuF r).classed = [] → s.eff PmHist.PMH_ENABLE 0 = 0 →
  ∃ t, exec (.pmBinEnd r false bad) s = .next t ∧ t.rget OnuPm.PREV_ES_15M r = OnuPm.PREV_ES_15M.ty.norm (s.rget OnuPm.ES_15M r) ∧
    t.rget OnuPm.PREV_SES_15M r = OnuPm.PREV_SES_15M.ty.norm (s.rget OnuPm.SES_15M r) ∧ t.rget OnuPm.PREV_UAS_15M r = OnuPm.PREV_UAS_15M.ty.norm (s.rget OnuPm.UAS_15M r) ∧
    t.rget OnuPm.ES_15M r = 0 ∧ t.rget OnuPm.SES_15M r = 0 ∧ t.rget OnuPm.UAS_15M r = 0 ∧ (t.onuF r).tcaEs = false ∧ (t.onuF r).bin15 = {} ∧
    t.rget OnuPm.BIN15_START r = OnuPm.BIN15_START.ty.norm (s.rnat OnuPm.BIN15_START r + 900000000000 : Nat)) ∧
  (∀ (s : State) (r : Nat), s.power.coreOn = true → s.hasRecord 0x4200 r = true →
  ∃ t, exec (.clearPm r) s = .next t ∧ t.out = .result (OnuPm.CLEAR_PM.addr 0 0 r).index (OnuPm.CLEAR_PM.addr 0 0 r).sub r 0 :: s.out ∧
    t.rget OnuPm.BURSTS_GRANTED r = 0 ∧ t.rget OnuPm.BURSTS_LOST r = 0 ∧ t.rget OnuPm.ES_15M r = 0 ∧ t.rget OnuPm.PREV_UAS_24H r = 0 ∧
    t.rget OnuPm.UNAVAILABLE r = 0 ∧ (t.onuF r).secs = [] ∧ (t.onuF r).classed = [])

/-- Arrival, passes and recirculation of a packet. A packet of more than 16,384 bytes is counted and dropped, one for which a buffer is found joins the ingress FIFO; the head of the FIFO makes its pass, and without a matching rule takes the bank's default action; a recirculated packet makes its second pass. Each of these is shown to answer a next state with its own effect, on conditions on the state and its operands alone: ingressArrival, pipelinePass, recircPass. -/
def Obligations.PipelinePasses : Prop :=
  (∀ (s : State) (n : Fin 8) (p : Pkt) (k : Nat), s.power.coreOn = true → (s.pipe n).arriving = [p] → p.at' ≤ s.now → p.len ≤ 16384 → s.ingressFull n p = false →
  s.poolFor false p.len = some k → 0 < s.poolFree k → p.desc = none →
  ∃ t, exec (.ingressArrival n none) s = .next t ∧ (t.pipe n).arriving = [] ∧ (s.allocBytes p.srcId false p.len).1 ≠ none ∧
    (t.pipe n).ingress = (s.pipe n).ingress ++ [{ p with buf := (s.allocBytes p.srcId false p.len).1, at' := s.now }] ∧
    (t.pipe n).clock = true ∧ (∀ b ∈ (s.allocBytes p.srcId false p.len).1, t.buf b = (1, p.srcId, 0))) ∧
  (∀ (s : State) (n : Fin 8) (p : Pkt), s.power.coreOn = true → (s.pipe n).arriving = [p] → p.at' ≤ s.now → 16384 < p.len → p.desc = none →
  ∃ t, exec (.ingressArrival n none) s = .next t ∧ (t.pipe n).arriving = [] ∧ (t.pipe n).ingress = (s.pipe n).ingress ∧ s.counted t Tm.TOO_LONG 1 ∧
    s.sameBut t [Tm.TOO_LONG.addr 0 0 0]) ∧
  (∀ (s : State) (n : Fin 8) (d : List Nat) (k : Nat), s.power.coreOn = true → s.paired = true → n.val = s.pipeOfTwin → (s.pipe n).arriving = [] → d.length ≤ 16384 →
  s.ingressFull n { data := d, srcType := 3, srcId := 0x030, at' := s.now } = false → s.poolFor false d.length = some k → 0 < s.poolFree k →
  ∃ t, exec (.ingressArrival n (some d)) s = .next t ∧ (t.pipe n).arriving = [] ∧ (t.pipe n).ingress.length = (s.pipe n).ingress.length + 1 ∧
    (t.pipe n).ingress.getLast?.map (fun q => (q.data, q.srcType, q.srcId, q.buf)) = some (d, 3, 0x030, (s.allocBytes 0x030 false d.length).1)) ∧
  (∀ (s : State) (n : Fin 8) (p : Pkt) (rest : List Pkt), s.power.coreOn = true → s.slotRecirc n = false → (s.pipe n).ingress = p :: rest →
  ∃ t, exec (.pipelinePass n) s = .next t ∧ (t.pipe n).ingress = rest ∧ (t.pipe n).idleAt = s.now ∧ s.counted t Pipe.PACKETS 1 n ∧
    t.arb.getD (arbSlot n) 0 = p.srcId + 1) ∧
  (∀ (s : State) (n : Fin 8) (p : Pkt) (rest : List Pkt), s.power.coreOn = true → s.slotRecirc n = false → (s.pipe n).ingress = p :: rest →
  s.get Cls.ACTIVE_BANK = 0 → s.validRules 0 = [] → (parsePacket s.parseCfg p.data).f.status = 0 → (s.defaultAct 0).mode = 1 → (s.defaultAct 0).learn = false →
  (s.defaultAct 0).tagOp = 0 → (s.defaultAct 0).queueSel = 1 → p.buf = none →
  ∃ t, exec (.pipelinePass n) s = .next t ∧ s.counted t Cls.DEFAULT_HITS_A 1 ∧ t.tm.decisions.length = s.tm.decisions.length + 1 ∧
    t.tm.decisions.getLast?.map (fun d => (d.pkt, d.dir, d.dest)) = some ({ p with tag := [] }, pipeDir n, destOf (pipeDir n) (s.defaultAct 0).dest) ∧
    t.tm.decisions.getLast?.map (fun d => (d.queue, d.cls, d.pipe, d.at')) = some ((s.defaultAct 0).queue, (s.defaultAct 0).cls, n.val, s.now)) ∧
  (∀ (s : State) (n : Fin 8) (r : Recirc) (rest : List Recirc), s.power.coreOn = true → s.slotRecirc n = true → (s.pipe n).recirc = r :: rest →
  ∃ t, exec (.recircPass n) s = .next t ∧ (t.pipe n).recirc = rest ∧ s.counted t Pipe.PASS2 1 n ∧ t.arb.getD (arbSlot n) 0 = 0x080 + n + 1)

/-- The rule banks: shadow beats, commits, the swap and its end, and the indirection tables. Beats 0–4 go into the shadow of an invalid entry, beat 5 commits it with its action and priority when the checks pass, or waits while replicas are copied; a refused write is counted and changes nothing else; SWAP exchanges the banks at once and ends with its event when no packet of the old bank is left. Each of these is shown to answer a next state with its own effect, on conditions on the state and its operands alone: ruleBeatWrite, ruleCommit, ruleInvalidate, swap, clsSwapDone, indirEntryWrite. -/
def Obligations.RuleBanks : Prop :=
  (∀ (s : State) (bank : Fin 2) (r : Nat) (beat : Fin 5) (data : Nat), s.power.coreOn = true → s.draining bank = false → s.rflag Rule.VALID r bank = false →
  s.rnat Rule.KEY r bank < 2 ^ 640 → s.rnat Rule.MASK r bank < 2 ^ 640 →
  ∃ t, exec (.ruleBeatWrite bank r beat data) s = .next t ∧
    t.rnat Rule.KEY r bank + t.rnat Rule.MASK r bank * 2 ^ 640 =
      setBits (s.rnat Rule.KEY r bank + s.rnat Rule.MASK r bank * 2 ^ 640) (256 * beat + 255) (256 * beat) data ∧
    s.sameBut t [Rule.KEY.addr bank 0 r, Rule.MASK.addr bank 0 r] ∧ t = { s with od := t.od }) ∧
  (∀ (s : State) (bank : Fin 2) (r : Nat) (beat : Fin 5) (data : Nat), s.power.coreOn = true → s.draining bank = true ∨ s.rflag Rule.VALID r bank = true →
  exec (.ruleBeatWrite bank r beat data) s = .next (s.bump Cls.RULE_WRITE_REFUSED)) ∧
  (∀ (s : State) (bank : Fin 2) (r action prio : Nat), s.power.coreOn = true → s.power.trans ≠ 2 → s.draining bank = false → s.rflag Rule.VALID r bank = false →
  actCheck (action % 2 ^ 128) = 0 →
  ∃ t, exec (.ruleCommit bank r action prio) s = .next t ∧ t.rnat Rule.ACTION r bank = action % 2 ^ 128 ∧ t.rnat Rule.PRIORITY r bank = prio % 65536 ∧
    t.rflag Rule.VALID r bank = true ∧ s.sameBut t [Rule.ACTION.addr bank 0 r, Rule.PRIORITY.addr bank 0 r, Rule.VALID.addr bank 0 r] ∧ t = { s with od := t.od, mem := t.mem }) ∧
  (∀ (s : State) (bank : Fin 2) (r action prio : Nat), s.power.coreOn = true → s.power.trans = 2 →
  exec (.ruleCommit bank r action prio) s = .next { s with power := { s.power with commits := s.power.commits ++ [(bank.val, r, action % 2 ^ 128 + prio % 65536 * 2 ^ 128 + 2 ^ 255)] } }) ∧
  (∀ (s : State) (bank : Fin 2) (r : Nat), s.power.coreOn = true → s.power.trans ≠ 2 → s.draining bank = false →
  ∃ t, exec (.ruleInvalidate bank r) s = .next t ∧ t.rflag Rule.VALID r bank = false ∧ s.sameBut t [Rule.VALID.addr bank 0 r] ∧ t = { s with od := t.od }) ∧
  (∀ (s : State) (b : Fin 2), s.power.coreOn = true → s.nat Cls.SWAP_STATE = 0 → s.get Cls.ACTIVE_BANK = (b.val : Int) →
  ∃ t, exec .swap s = .next t ∧ t.get Cls.ACTIVE_BANK = 1 - (b.val : Int) ∧ t.nat Cls.SWAP_STATE = 1 ∧ s.counted t Cls.SWAPS 1 ∧
    t.get Cls.LAST_SWAP_AT = Cls.LAST_SWAP_AT.ty.norm s.now ∧ t.out = .result 0x6000 2 0 0 :: s.out ∧
    s.sameBut t [Cls.ACTIVE_BANK.addr 0 0 0, Cls.SWAP_STATE.addr 0 0 0, Cls.SWAPS.addr 0 0 0, Cls.LAST_SWAP_AT.addr 0 0 0, Cls.INFLIGHT_OLD.addr 0 0 0]) ∧
  (∀ s : State, s.power.coreOn = true → s.nat Cls.SWAP_STATE ≠ 0 → exec .swap s = .next { s with out := .result 0x6000 2 0 0x06050001 :: s.out }) ∧
  (∀ s : State, s.power.coreOn = true → s.nat Cls.SWAP_STATE = 1 → s.nat Cls.INFLIGHT_OLD = 0 →
  ∃ t, exec .clsSwapDone s = .next t ∧ t.nat Cls.SWAP_STATE = 0 ∧ t.get Cls.LAST_DONE_AT = Cls.LAST_DONE_AT.ty.norm s.now ∧
    s.raised t 0x6001 0x080 [(1, 1 - s.get Cls.ACTIVE_BANK)] ∧ s.sameBut t ([Cls.SWAP_STATE.addr 0 0 0, Cls.LAST_DONE_AT.addr 0 0 0] ++ eventAddrs)) ∧
  (∀ (s : State) (i value : Nat), s.power.coreOn = true → bits value 30 20 = 0 →
  ∃ t, exec (.indirEntryWrite i value) s = .next t ∧ t.rget IndEnt.ENTRY i = IndEnt.ENTRY.ty.norm value ∧
      t.out = .result 0xA802 1 i 0 :: s.out ∧ s.sameBut t [IndEnt.ENTRY.addr 0 0 i]) ∧
  (∀ (s : State) (i value : Nat), s.power.coreOn = true → bits value 30 20 ≠ 0 →
  exec (.indirEntryWrite i value) s = .next { s with out := .result 0xA802 1 i 0x06040001 :: s.out })

/-- The forwarding tables: promotion, learning, aging, quarantine, and the operations of the host. A promotion moves an entry on chip; a learning message adds an entry or refreshes the one that stands at the same place; aging passes visit each entry; a quarantined entry is removed after QUARANTINE_S; FIND, ADD, DELETE and FLUSH act as R231 says; an associative entry is valid until it is invalidated and no two are equal. Each of these is shown to answer a next state with its own effect, on conditions on the state and its operands alone: promotionComplete, learnMessage, quarantineExpiry, learnFrameRx, agingPassStart, agingPassEnd, fwdFind, fwdAdd, fwdDelete, fwdFlush, fwdFlushComplete, assocCommit, assocInvalidate. -/
def Obligations.ForwardingTable : Prop :=
  (∀ (s : State) (k : Nat × Nat) (rest : List (Nat × Nat)) (i j : Nat), s.power.coreOn = true → s.fwd.promos = k :: rest → s.findWay true k.1 k.2 = some j →
  s.promoteWay k.1 k.2 = some i → Tab.find? s.fwd.ways i = none →
  ∃ t, exec .promotionComplete s = .next t ∧ Tab.find? t.fwd.ways i = some (s.fwd.far.getD j {}) ∧ Tab.find? t.fwd.far j = none ∧ t.fwd.promos = rest ∧
    s.counted t Fwd.PROMOTIONS 1 ∧ s.sameBut t [Fwd.PROMOTIONS.addr 0 0 0, Fwd.ENTRIES_ONCHIP.addr 0 0 0, Fwd.ENTRIES_FAR.addr 0 0 0]) ∧
  (∀ (s : State) (n : Fin 8) (m : Learn) (i : Nat), s.power.coreOn = true → (s.pipe n).learn = [m] → s.homeOf 1 m.key = n.val → s.findEntry 1 m.key = none →
  s.freeWay false (s.candidates false 1 m.key).1 = some i →
  ∃ t, exec (.learnMessage n) s = .next t ∧ (t.pipe n).learn = [] ∧ s.counted t Fwd.LEARN_COMMITS 1 ∧
    Tab.find? t.fwd.ways i = some { form := 1, key := m.key, locType := m.locType, dest := m.loc, fromPeer := m.fromPeer } ∧ t.fwd.far = s.fwd.far) ∧
  (∀ (s : State) (n : Fin 8) (m : Learn) (i : Nat) (e : FwdEnt), s.power.coreOn = true → (s.pipe n).learn = [m] → s.homeOf 1 m.key = n.val →
  s.findEntry 1 m.key = some (false, i, e) → e.static = false → e.quar = false → e.locType = m.locType → e.dest = m.loc →
  ∃ t, exec (.learnMessage n) s = .next t ∧ (t.pipe n).learn = [] ∧ Tab.find? t.fwd.ways i = some { e with aged := false, hit := true, cand := none } ∧
    s.sameBut t [Fwd.ENTRIES_ONCHIP.addr 0 0 0]) ∧
  (∀ (s : State) (n : Fin 8) (m : Learn), s.power.coreOn = true → (s.pipe n).learn = [m] → s.homeOf 1 m.key ≠ n.val → (s.pipe (s.nextStation n)).learn.length < 256 →
  s.nextStation n ≠ n.val →
  ∃ t, exec (.learnMessage n) s = .next t ∧ (t.pipe n).learn = [] ∧ (t.pipe (s.nextStation n)).learn.length = (s.pipe (s.nextStation n)).learn.length + 1 ∧
    (t.pipe (s.nextStation n)).learn.getLast?.map (fun x => (x.key, x.loc, x.src, x.ring, x.at')) = some (m.key, m.loc, m.src, true, s.now) ∧ t = { s with pipes := t.pipes }) ∧
  (∀ (s : State) (form key i : Nat) (e : FwdEnt), s.power.coreOn = true → s.findEntry form key = some (false, i, e) → e.quar = true → e.quarUntil ≤ s.now →
  ∃ t, exec (.quarantineExpiry form key) s = .next t ∧ Tab.find? t.fwd.ways i = none ∧ t.fwd.far = s.fwd.far ∧ s.sameBut t [Fwd.ENTRIES_ONCHIP.addr 0 0 0]) ∧
  (∀ (s : State) (f : CtrlIn) (loc key timeNs : Nat), s.power.coreOn = true → s.flag Twin.TWIN_ENABLE = true →
  f.good 5 0 (beBytes 32 (Learn.word { src := 0x030, locType := 0, loc := loc % 2 ^ 20, fromPeer := true, timeNs := timeNs % 2 ^ 32, key := key % 2 ^ 128, hash := homeHash 1 (key % 2 ^ 128) })) = true →
  (s.pipe (s.homeOf 1 (key % 2 ^ 128))).learn.length < 256 →
  ∃ t, exec (.learnFrameRx f loc key timeNs) s = .next t ∧ (t.pipe (s.homeOf 1 (key % 2 ^ 128))).learn = (s.pipe (s.homeOf 1 (key % 2 ^ 128))).learn ++
    [{ src := 0x030, locType := 0, loc := loc % 2 ^ 20, fromPeer := true, timeNs := timeNs % 2 ^ 32, key := key % 2 ^ 128, at' := s.now, hash := homeHash 1 (key % 2 ^ 128) }] ∧ t = { s with pipes := t.pipes }) ∧
  (∀ (s : State) (f : CtrlIn) (loc key timeNs : Nat), s.power.coreOn = true → s.flag Twin.TWIN_ENABLE = true →
  f.good 5 0 (beBytes 32 (Learn.word { src := 0x030, locType := 0, loc := loc % 2 ^ 20, fromPeer := true, timeNs := timeNs % 2 ^ 32, key := key % 2 ^ 128, hash := homeHash 1 (key % 2 ^ 128) })) = false →
  exec (.learnFrameRx f loc key timeNs) s = .next (s.bump TwinCnt.CTRL_BAD)) ∧
  (∀ s : State, s.power.coreOn = true → s.fwd.passDue ≤ s.now → s.fwd.passing = false → s.inTrim = true →
  ∃ t, exec .agingPassStart s = .next t ∧ t.fwd.passing = true ∧ t.fwd.passAt = s.now ∧ t.fwd.passDue = s.fwd.passDue + s.nat Fwd.AGE_PERIOD_S * 1000000000 ∧
    t.fwd.ways = s.fwd.ways.filterMap (fun e => (visit e.2).map (fun x => (e.1, x))) ∧ t.fwd.far = s.fwd.far ∧
    s.counted t Fwd.AGED_OUT (s.fwd.ways.length - t.fwd.ways.length)) ∧
  (∀ s : State, s.power.coreOn = true → s.fwd.passing = true →
  ∃ t, exec .agingPassEnd s = .next t ∧ t.fwd.passing = false ∧ t.get Fwd.LAST_PASS_MS = Fwd.LAST_PASS_MS.ty.norm ((s.now - s.fwd.passAt) / 1000000 : Nat) ∧
    (s.fwd.passDue ≤ s.now → s.counted t Fwd.AGE_LATE 1) ∧ t.fwd.ways = s.fwd.ways ∧ t.fwd.far = s.fwd.far ∧
    s.sameBut t [Fwd.LAST_PASS_MS.addr 0 0 0, Fwd.AGE_LATE.addr 0 0 0]) ∧
  (∀ (s : State) (far : Bool) (i : Nat) (e : FwdEnt), s.power.coreOn = true → s.findEntry (s.nat FwdOp.OP_FORM) (s.nat FwdOp.OP_KEY) = some (far, i, e) →
  ∃ t, exec .fwdFind s = .next t ∧ t.nat FwdOp.OP_FOUND = (if far then 2 else 1) ∧ t.get FwdOp.OP_FLAGS = FwdOp.OP_FLAGS.ty.norm e.flags ∧
    t.get FwdOp.OP_LOC_TYPE = FwdOp.OP_LOC_TYPE.ty.norm e.locType ∧ t.get FwdOp.OP_DEST = FwdOp.OP_DEST.ty.norm e.dest ∧
    t.flag FwdOp.OP_STATIC = e.static ∧ t.out = .result 0x7100 6 0 0 :: s.out ∧ t.fwd = s.fwd) ∧
  (∀ (s : State) (i : Nat), s.power.coreOn = true → s.findEntry (s.nat FwdOp.OP_FORM) (s.nat FwdOp.OP_KEY) = none →
  (s.pipe (s.homeOf (s.nat FwdOp.OP_FORM) (s.nat FwdOp.OP_KEY))).learn = [] →
  s.freeWay false (s.candidates false (s.nat FwdOp.OP_FORM) (s.nat FwdOp.OP_KEY)).1 = some i →
  ∃ t, exec .fwdAdd s = .next t ∧ Tab.find? t.fwd.ways i = some { form := s.nat FwdOp.OP_FORM, key := s.nat FwdOp.OP_KEY, locType := s.nat FwdOp.OP_LOC_TYPE, dest := s.nat FwdOp.OP_DEST, static := s.flag FwdOp.OP_STATIC } ∧
    t.out = .result 0x7100 6 0 0 :: s.out ∧ s.sameBut t [Fwd.ENTRIES_ONCHIP.addr 0 0 0]) ∧
  (∀ (s : State) (x : Bool × Nat × FwdEnt), s.power.coreOn = true → s.findEntry (s.nat FwdOp.OP_FORM) (s.nat FwdOp.OP_KEY) = some x →
  (s.pipe (s.homeOf (s.nat FwdOp.OP_FORM) (s.nat FwdOp.OP_KEY))).learn = [] →
  ∃ t, exec .fwdAdd s = .next t ∧ t.out = .result 0x7100 6 0 0x06070002 :: s.out ∧
    t.arb.getD (120 + s.homeOf (s.nat FwdOp.OP_FORM) (s.nat FwdOp.OP_KEY)) 0 = 0x001 + 1 ∧ t = { s with out := t.out, arb := t.arb }) ∧
  (∀ (s : State) (i : Nat) (e : FwdEnt), s.power.coreOn = true → s.findEntry (s.nat FwdOp.OP_FORM) (s.nat FwdOp.OP_KEY) = some (false, i, e) →
  (s.pipe (s.homeOf (s.nat FwdOp.OP_FORM) (s.nat FwdOp.OP_KEY))).learn = [] →
  ∃ t, exec .fwdDelete s = .next t ∧ Tab.find? t.fwd.ways i = none ∧ t.fwd.far = s.fwd.far ∧ t.out = .result 0x7100 6 0 0 :: s.out ∧
    s.sameBut t [Fwd.ENTRIES_ONCHIP.addr 0 0 0]) ∧
  (∀ s : State, s.power.coreOn = true →
  (s.fwd.flush = none → exec .fwdFlush s = .next { s with out := .result 0x7100 6 0 0 :: s.out, fwd := { s.fwd with flush := some (s.nat FwdOp.OP_LOC_TYPE, s.nat FwdOp.OP_DEST) } }) ∧
  (s.fwd.flush ≠ none → exec .fwdFlush s = .next { s with out := .result 0x7100 6 0 0x06050001 :: s.out })) ∧
  (∀ (s : State) (lt d : Nat), s.power.coreOn = true → s.fwd.flush = some (lt, d) →
  ∃ t, exec .fwdFlushComplete s = .next t ∧ t.fwd.flush = none ∧ t.fwd.ways = s.fwd.ways.filter (fun e => e.2.static || e.2.locType != lt || e.2.dest != d) ∧
    t.fwd.far = s.fwd.far.filter (fun e => e.2.static || e.2.locType != lt || e.2.dest != d) ∧
    t.get Fwd.ENTRIES_ONCHIP = Fwd.ENTRIES_ONCHIP.ty.norm t.fwd.ways.length ∧ s.sameBut t [Fwd.ENTRIES_ONCHIP.addr 0 0 0, Fwd.ENTRIES_FAR.addr 0 0 0]) ∧
  (∀ (s : State) (r : Nat), s.power.coreOn = true →
  (∀ e ∈ s.od, e.1.index = 0xA600 → e.1.sub = 6 → e.2 = 1 → e.1.recNo ≠ r →
    s.rget Assoc.FORM e.1.recNo ≠ s.rget Assoc.FORM r ∨ s.rget Assoc.KEY e.1.recNo ≠ s.rget Assoc.KEY r) →
  ∃ t, exec (.assocCommit r) s = .next t ∧ t.rflag Assoc.VALID r = true ∧ t.out = .result (Assoc.VALID.addr 0 0 r).index (Assoc.VALID.addr 0 0 r).sub r 0 :: s.out ∧
    s.sameBut t [Assoc.VALID.addr 0 0 r]) ∧
  (∀ (s : State) (r : Nat), s.power.coreOn = true →
  ∃ t, exec (.assocInvalidate r) s = .next t ∧ t.rflag Assoc.VALID r = false ∧ t.out = .result (Assoc.VALID.addr 0 0 r).index (Assoc.VALID.addr 0 0 r).sub r 0 :: s.out ∧
    s.sameBut t [Assoc.VALID.addr 0 0 r])

/-- Decisions become queued packets; a line takes the head that pick chooses. A decision with a queue that has room appends its packet to that queue, one without a queue is counted and dropped, and one that would reach the queue's limit is dropped in the counter of its colour; PICK moves the chosen head on; deep writes and reads complete; a launch time that is reached and shapers that refill let a waiting line take a packet, and one that is late drops it. Each of these is shown to answer a next state with its own effect, on conditions on the state and its operands alone: enqueueDecision, pick, spillWriteComplete, refillReadComplete, launchLate, launchTimeReached, shaperRefill. -/
def Obligations.TrafficManager : Prop :=
  (∀ (s : State) (d : Decision) (rest : List Decision) (m : Fin 32) (q : Nat), s.power.coreOn = true → s.tm.decisions = d :: rest → d.policer = 0 → d.hint = false →
  d.dir = 1 → d.flood = none → d.dest = .member m → d.queueSel = 0 → d.queue = q → s.hasRecord 0xB001 q = true → s.queueLine 1 q = some m.val → s.rflag Queue.ADMIN q 1 = true →
  s.launchOf 1 q d.pkt = none → s.inTrim = true → qBytes (s.queue 1 q) + d.pkt.len < s.dropMax 1 q d.colour →
  ∃ t, exec .enqueueDecision s = .next t ∧ t.tm.decisions = rest ∧
    t.queue 1 q = s.queue 1 q ++ [{ pkt := d.pkt, colour := d.colour, cls := d.cls, dest := .member m, admitted := s.now }] ∧
    s.rcounted t Queue.ENQ_PACKETS q 1 1 ∧ s.rcounted t Queue.ENQ_BYTES q d.pkt.len 1 ∧
    s.sameBut t [Queue.ENQ_PACKETS.addr 1 0 q, Queue.ENQ_BYTES.addr 1 0 q]) ∧
  (∀ (s : State) (d : Decision) (rest : List Decision), s.power.coreOn = true → s.tm.decisions = d :: rest → d.policer = 0 → d.hint = false →
  d.dir = 1 → d.flood = none → d.queueSel = 0 → s.hasRecord 0xB001 d.queue = false → d.pkt.buf = none →
  ∃ t, exec .enqueueDecision s = .next t ∧ t.tm.decisions = rest ∧ t.tm.queues = s.tm.queues ∧ s.counted t Tm.NO_QUEUE 1 ∧ s.sameBut t [Tm.NO_QUEUE.addr 0 0 0]) ∧
  (∀ (s : State) (d : Decision) (rest : List Decision) (m : Fin 32) (q : Nat), s.power.coreOn = true → s.tm.decisions = d :: rest → d.policer = 0 → d.hint = false →
  d.dir = 1 → d.flood = none → d.dest = .member m → d.queueSel = 0 → d.queue = q → s.hasRecord 0xB001 q = true → s.queueLine 1 q = some m.val → s.rflag Queue.ADMIN q 1 = true →
  s.launchOf 1 q d.pkt = none → s.dropMax 1 q d.colour ≤ qBytes (s.queue 1 q) + d.pkt.len → d.pkt.buf = none →
  ∃ t, exec .enqueueDecision s = .next t ∧ t.tm.decisions = rest ∧ t.tm.queues = s.tm.queues ∧ s.rcounted t (dropCnt d.colour) q 1 1 ∧ s.sameBut t [(dropCnt d.colour).addr 1 0 q]) ∧
  (∀ (s : State) (m : Fin 32) (q : Nat) (x : QPkt) (rest : List QPkt), s.power.coreOn = true → s.lineTakes 1 m = true → (State.pick 1 5 m s).1 = some q → s.queue 1 q = x :: rest →
  s.rnat DropP.REFILL_AT (s.rnat Queue.PROFILE q 1) = 0 →
  ∃ t, exec (.pick 1 m) s = .next t ∧ t.queue 1 q = rest ∧ (∀ k, k ≠ q → q < 262144 → k < 262144 → t.queue 1 k = s.queue 1 k) ∧ t.tm.decisions = s.tm.decisions) ∧
  (∀ (s : State) (dir : Fin 2) (n : Nat), s.power.coreOn = true → s.lineTakes dir n = false → exec (.pick dir n) s = .next s) ∧
  (∀ (s u : State) (dir : Fin 2) (n q : Nat) (x : QPkt), s.power.coreOn = true → s.lineTakes dir n = true → (State.pick dir 5 n s).1 = some q →
  (State.pick dir 5 n s).2.dequeue dir q = (some x, u) →
  exec (.pick dir n) s = .next { u.lineSend dir n x with pending := s.pending }) ∧
  (∀ (s : State) (dir : Fin 2) (q : Nat) (x : QPkt) (p : Nat), s.power.coreOn = true → (s.queue dir q).find? (fun y => y.writing) = some x → s.deepReady x = true → x.chip = some p → x.pkt.shared = false →
  s.bufCheck .free idTm p = 0 → s.rnat DropP.REFILL_AT (s.rnat Queue.PROFILE q dir) = 0 →
  ∃ t, exec (.spillWriteComplete dir q) s = .next t ∧ t.tm.staging = s.tm.staging - x.pkt.len ∧ t.buf p = (0, 0, 0) ∧
    t.queue dir q = updQ (fun y => y.writing) (fun y => { y with writing := false, chip := none, pkt := { y.pkt with shared := false } }) (s.queue dir q)) ∧
  (∀ (s : State) (dir : Fin 2) (q k : Nat) (x : QPkt), s.power.coreOn = true → (s.queue dir q).find? (fun y => y.reading && !y.writing) = some x → x.pkt.buf = none → s.deepReady x = true →
  s.poolFor false x.pkt.len = some k → 0 < s.poolFree k → s.rnat DropP.REFILL_AT (s.rnat Queue.PROFILE q dir) = 0 →
  ∃ t, exec (.refillReadComplete dir q) s = .next t ∧ (s.allocBytes idTm false x.pkt.len).1 ≠ none ∧ (∀ b ∈ (s.allocBytes idTm false x.pkt.len).1, t.buf b = (1, idTm, 0)) ∧
    t.queue dir q = updQ (fun y => y.reading && !y.writing) (fun y => { y with deep := false, reading := false, pkt := { y.pkt with buf := (s.allocBytes idTm false x.pkt.len).1 } }) (s.queue dir q) ∧
    s.counted t Tm.REFILLED 1) ∧
  (∀ (s : State) (dir : Fin 2) (q : Nat) (x : QPkt) (rest : List QPkt), s.power.coreOn = true → s.queue dir q = x :: rest → s.rflag Queue.LAUNCH q dir = true →
  s.windowAt dir q x + s.nat Tm.LAUNCH_LATE_NS * 65536 ≤ s.now * 65536 → s.rnat DropP.REFILL_AT (s.rnat Queue.PROFILE q dir) = 0 →
  ∃ t, exec (.launchLate dir q) s = .next t ∧ s.counted t Tm.LAUNCH_LATE 1 ∧ s.rcounted t Queue.DROP_OTHER q 1 dir ∧ t.queue dir q = rest) ∧
  (∀ (s : State) (dir : Fin 2) (q n : Nat), s.power.coreOn = true → s.rflag Queue.LAUNCH q dir = true → s.headReady dir q = true → s.queueLine dir q = some n →
  ∃ t, exec (.launchTimeReached dir q true) s = .next t ∧ t = { s.lineTake dir n with pending := s.pending }) ∧
  (∀ (s : State) (dir : Fin 2) (q : Nat), s.power.coreOn = true → s.hasRecord (0xB000 + dir) q = true → (s.tm.queueSh.getD (qKey dir q) {}).set = true →
  ∃ t, exec (.shaperRefill dir true q false) s = .next t ∧ (t.tm.queueSh.getD (qKey dir q) {}).at' = s.now ∧
    (t.tm.queueSh.getD (qKey dir q) {}).c = min ((s.rnat Queue.CBS_BYTES q dir : Int) * 8000000)
      ((s.tm.queueSh.getD (qKey dir q) {}).c + (s.now - (s.tm.queueSh.getD (qKey dir q) {}).at') * s.rnat Queue.CIR_KBPS q dir) ∧
    (t.tm.queueSh.getD (qKey dir q) {}).p = min ((s.rnat Queue.PBS_BYTES q dir : Int) * 8000000)
      ((s.tm.queueSh.getD (qKey dir q) {}).p + (s.now - (s.tm.queueSh.getD (qKey dir q) {}).at') * s.rnat Queue.PIR_KBPS q dir)) ∧
  (∀ (s : State) (dir : Fin 2) (isQ : Bool) (n l : Nat), s.power.coreOn = true →
  (if isQ then s.hasRecord (0xB000 + dir) n = true else s.nodeExists dir n = true ∧ nodeLevel dir n ≠ 1) →
  (s.setShaper isQ dir n (s.shaper isQ dir n)).eligible dir false (isQ, n) = true →
  (if isQ then s.queueLine dir n else (s.nodePath dir 4 n).getLast?) = some l →
  ∃ t, exec (.shaperRefill dir isQ n true) s = .next t ∧ t = { (s.setShaper isQ dir n (s.shaper isQ dir n)).lineTake dir l with pending := s.pending })

/-- PICK chooses only a queue whose head can be sent. Whatever line node PICK starts from, the queue it chooses has a head that is on chip and, where LAUNCH is 1, inside its launch window. -/
def Obligations.PickChoice : Prop :=
  ∀ (s : State) (dir f n q : Nat), (State.pick dir f n s).1 = some q → s.headReady dir q = true

/-- The five buffer operations and their rejection. ALLOC gives the requester a buffer with COUNT 1, or counts a failure; HANDOVER, SHARE, RELEASE and FREE write COUNT, OWNER and LAST_OWNER as Table 9-3 says; a rejected operation leaves every buffer, counts its reason and raises BUF_REJECT. Each of these is shown to answer a next state with its own effect, on conditions on the state and its operands alone: bufAlloc, bufHandover, bufShare, bufRelease, bufFree. -/
def Obligations.BufferOwnership : Prop :=
  (∀ (s : State) (pool q : Nat), s.power.coreOn = true → 0 < s.poolFree pool →
  ∃ t, exec (.bufAlloc pool [q] []) s = .next t ∧ (s.alloc q pool).1 ≠ none ∧ (∀ p ∈ (s.alloc q pool).1, t.buf p = (1, q, 0)) ∧
    t.out = .bufAlloc q pool (s.alloc q pool).1 :: s.out ∧ t.arb.getD (200 + pool) 0 = q + 1 ∧
    s.sameBut t [Pool.FREE.addr pool 0 0, Pool.LOW_WATER.addr pool 0 0]) ∧
  (∀ (s : State) (pool q : Nat), s.power.coreOn = true → s.poolFree pool = 0 → (∀ k, nextPool pool = some k → s.flag Pool.SPILL_UP k = false) →
  ∃ t, exec (.bufAlloc pool [q] []) s = .next t ∧ t.tm = s.tm ∧ t.out = .bufAlloc q pool none :: s.out ∧ s.counted t Pool.ALLOC_FAIL 1 pool ∧
    s.sameBut t [Pool.ALLOC_FAIL.addr pool 0 0]) ∧
  (∀ (s : State) (req p id : Nat), s.power.coreOn = true → s.bufCheck (.handover id) req p = 0 →
  ∃ t, exec (.bufHandover req p id []) s = .next t ∧ t.buf p = (1, id, (s.buf p).2.2) ∧ (∀ y, y ≠ p → t.buf y = s.buf y) ∧ t.od = s.od) ∧
  (∀ (s : State) (req p k id : Nat), s.power.coreOn = true → s.bufCheck (.share k id) req p = 0 →
  ∃ t, exec (.bufShare req p k id []) s = .next t ∧ t.buf p = (k, id, id) ∧ 2 ≤ k ∧ k ≤ 4096 ∧ (∀ y, y ≠ p → t.buf y = s.buf y) ∧ t.od = s.od) ∧
  (∀ (s : State) (q p : Nat), s.power.coreOn = true → s.bufCheck .release q p = 0 → (s.buf p).2.2 ≠ idRepl →
  ∃ t, exec (.bufRelease q p []) s = .next t ∧ t.buf p = ((s.buf p).1 - 1, (s.buf p).2.1, (s.buf p).2.2) ∧ (∀ y, y ≠ p → t.buf y = s.buf y) ∧
    ((s.buf p).1 ≠ 2 → t.out = s.out ∧ t.od = s.od) ∧ ((s.buf p).1 = 2 → t.out.head? = some (.bufNotice (s.buf p).2.2 p)) ∧
    ((s.buf p).1 = 2 → (s.buf p).2.2 = 0x001 ∨ (0x010 ≤ (s.buf p).2.2 ∧ (s.buf p).2.2 ≤ 0x018) →
      s.raised t (Config.holderEvent (s.buf p).2.2 p).1 idTm (Config.holderEvent (s.buf p).2.2 p).2) ∧
    ((s.buf p).1 = 2 → (s.buf p).2.2 ≠ 0x001 → (s.buf p).2.2 < 0x010 ∨ 0x018 < (s.buf p).2.2 → t.out = .bufNotice (s.buf p).2.2 p :: s.out ∧ t.od = s.od)) ∧
  (∀ (s : State) (a b p : Nat), s.power.coreOn = true → a ≠ b → s.bufCheck .release a p = 0 → s.bufCheck .release b p = 0 → 3 ≤ (s.buf p).1 → (s.buf p).2.2 ≠ idRepl →
  ∃ t, exec (.bufRelease a p [(b, .release)]) s = .next t ∧ t.buf p = ((s.buf p).1 - 2, (s.buf p).2.1, (s.buf p).2.2) ∧
    exec (.bufRelease b p [(a, .release)]) s = .next t ∧ (∀ y, y ≠ p → t.buf y = s.buf y)) ∧
  (∀ (s : State) (q p : Nat), s.power.coreOn = true → s.bufCheck .free q p = 0 →
  ∃ t, exec (.bufFree q p []) s = .next t ∧ t.buf p = (0, 0, 0) ∧ (∀ y, y ≠ p → t.buf y = s.buf y) ∧
    (∀ k, ptrPool p = some k → s.sameBut t [Pool.FREE.addr k.1 0 0, Pool.LOW_WATER.addr k.1 0 0])) ∧
  (∀ (s : State) (op : BufOp) (q p : Nat) (c : Instr), s.power.coreOn = true → s.bufCheck op q p ≠ 0 →
  c = (match op with | .handover id => .bufHandover q p id [] | .share k id => .bufShare q p k id [] | .release => .bufRelease q p [] | .free => .bufFree q p []) →
  ∃ t, exec c s = .next t ∧ t.tm = s.tm ∧ s.counted t Own.REJECT 1 0 (s.bufCheck op q p - 1) ∧
    s.sameBut t (Own.REJECT.addr 0 (s.bufCheck op q p - 1) 0 :: eventAddrs) ∧
    s.raised t 0x7801 idTm [a16 q, a8 op.code, a64 p, a8 (s.bufCheck op q p), aTime s.now])

/-- Replay rings, replays and the arming of burst capture. A ring keeps exactly the items of its window; JOIN_GO starts a replay of the window of an enabled channel and is refused in Trim and for a channel that is off; a replay enqueues its next packet when it is due and skips one that has left the ring; CAP_ARM 1 starts with an empty store, and is refused in Trim and without a capture window. Each of these is shown to answer a next state with its own effect, on conditions on the state and its operands alone: replayRingExpiry, joinGo, replayPacket, burstCaptureArm. -/
def Obligations.ReplayAndCapture : Prop :=
  (∀ (s : State) (k : Nat), s.power.coreOn = true →
  ∃ t, exec (.replayRingExpiry k) s = .next t ∧
    (t.tm.rings.getD k {}).items = (s.tm.rings.getD k {}).items.filter (fun e => decide (s.now ≤ e.2.1 + s.rnat Chan.WINDOW_MS k * 1000000)) ∧
    t.rget Chan.STORED_BYTES k = Chan.STORED_BYTES.ty.norm (t.tm.rings.getD k {}).bytes ∧ s.sameBut t [Chan.STORED_BYTES.addr 0 0 k]) ∧
  (∀ (s : State) (q : Nat), s.power.coreOn = true → s.inTrim = false → s.rflag Chan.ENABLE (s.nat Join.JOIN_CHANNEL) = true →
  (s.serviceOf (s.nat Join.JOIN_XGEM)).bind (fun svc => s.queueAt 0 svc (s.nat Join.JOIN_QINDEX)) = some q → s.tm.replays.length < 256 →
  (∃ e ∈ (s.tm.rings.getD (s.nat Join.JOIN_CHANNEL) {}).items, s.now ≤ e.2.1 + s.rnat Chan.WINDOW_MS (s.nat Join.JOIN_CHANNEL) * 1000000 ∧ e.2.1 < s.now) →
  ∃ t, exec .joinGo s = .next t ∧ t.tm.replays.dropLast = s.tm.replays ∧
    t.tm.replays.getLast?.map (fun r => (r.ch, r.q, r.xgem, r.kbps, r.due)) = some (s.nat Join.JOIN_CHANNEL, q, s.nat Join.JOIN_XGEM, s.nat Join.JOIN_KBPS, s.now) ∧
    t.tm.replays.getLast?.map (fun r => r.items) = some (((s.tm.rings.getD (s.nat Join.JOIN_CHANNEL) {}).items.filter (fun e =>
      decide (s.now ≤ e.2.1 + s.rnat Chan.WINDOW_MS (s.nat Join.JOIN_CHANNEL) * 1000000) && decide (e.2.1 < s.now))).map (fun e => e.1)) ∧
    t.get Join.REPLAYS_RUNNING = s.tm.replays.length + 1 ∧ t.out = .result Join.JOIN_GO.index Join.JOIN_GO.sub 0 0 :: s.out ∧
    s.sameBut t [Join.REPLAYS_RUNNING.addr 0 0 0]) ∧
  (∀ (s : State), s.power.coreOn = true → s.inTrim = true ∨ s.rflag Chan.ENABLE (s.nat Join.JOIN_CHANNEL) = false →
  exec .joinGo s = .next (s.result Join.JOIN_GO 0 (if s.inTrim then 0x06060001 else 0x06040002))) ∧
  (∀ (s : State) (i : Nat) (r : Replay) (id : Nat) (rest : List Nat), s.power.coreOn = true → s.tm.replays[i]? = some r → r.items = id :: rest → r.due ≤ s.now →
  (∀ e, (s.tm.rings.getD r.ch {}).items.find? id = some e → e.1 + s.rnat Chan.WINDOW_MS r.ch * 1000000 < s.now) →
  ∃ t, exec (.replayPacket i) s = .next t ∧ s.counted t Join.REPLAY_SKIP 1 ∧
    t.tm.replays = (if rest = [] then s.tm.replays.eraseIdx i else s.tm.replays.set i { r with items := rest }) ∧
    t.get Join.REPLAYS_RUNNING = Join.REPLAYS_RUNNING.ty.norm t.tm.replays.length ∧ s.sameBut t [Join.REPLAY_SKIP.addr 0 0 0, Join.REPLAYS_RUNNING.addr 0 0 0, Chan.STORED_BYTES.addr 0 0 r.ch]) ∧
  (∀ (s : State) (i : Nat) (r : Replay) (id k : Nat) (rest : List Nat) (e : Nat × List Nat), s.power.coreOn = true → s.tm.replays[i]? = some r → r.items = id :: rest → r.due ≤ s.now →
  (s.tm.rings.getD r.ch {}).items.find? id = some e → s.now ≤ e.1 + s.rnat Chan.WINDOW_MS r.ch * 1000000 → s.hasRecord 0xB000 r.q = true → s.rflag Queue.ADMIN r.q = true → s.poolFor false e.2.length = some k → 0 < s.poolFree k →
  s.queueLine 0 r.q = some 129 → s.inTrim = true → qBytes (s.queue 0 r.q) + e.2.length < s.dropMax 0 r.q 0 →
  ∃ t, exec (.replayPacket i) s = .next t ∧ ((t.queue 0 r.q).map (fun x => x.pkt.data)) = ((s.queue 0 r.q).map (fun x => x.pkt.data)) ++ [e.2] ∧
    t.tm.replays = (if rest = [] then s.tm.replays.eraseIdx i else s.tm.replays.set i { r with items := rest, due := r.due + e.2.length * 8000000 / max 1 r.kbps })) ∧
  (∀ (s : State), s.power.coreOn = true → s.inTrim = false → s.nat DdrReg.ACTIVE_SIZE_MIB 2 ≠ 0 → s.flag BCap.CAP_ARM = false →
  ∃ t, exec .burstCaptureArm s = .next t ∧ t.tm.cap = [] ∧ t.tm.capTrig = false ∧ t.get BCap.CAP_COUNT = 0 ∧ t.get BCap.CAP_ARM = 1 ∧
    t.out = .result BCap.CAP_ARM.index BCap.CAP_ARM.sub 0 0 :: s.out ∧ s.sameBut t [BCap.CAP_COUNT.addr 0 0 0, BCap.CAP_ARM.addr 0 0 0]) ∧
  (∀ (s : State), s.power.coreOn = true → s.inTrim = true ∨ s.nat DdrReg.ACTIVE_SIZE_MIB 2 = 0 →
  exec .burstCaptureArm s = .next (s.result BCap.CAP_ARM 0 (if s.inTrim then 0x06060001 else 0x06040002)))

/-- The states of an uplink group. ENABLE 1 takes a group with a MODE to STARTING and is refused without one; ENABLE 0 disables it at once with its links down; the lanes' start, training, alignment, a training that fails and the retry 1 s later move the group as Table 10-2 says. Each of these is shown to answer a next state with its own effect, on conditions on the state and its operands alone: groupEnable, groupDisable, groupLanesStarted, groupTrained, uplTrainFail, groupAligned, groupRetry. -/
def Obligations.UplinkGroups : Prop :=
  (∀ (s : State) (g : Fin 8), s.power.coreOn = true → s.partner g = false → s.nat Upl.MODE g ≠ 0 → s.flag Upl.ENABLE g = false → s.trimHeld g = false →
  ∃ t, exec (.groupEnable g) s = .next t ∧ t.get Upl.ENABLE g = 1 ∧ t.get Upl.STATE g = 1 ∧ (t.uplG g).since = s.now ∧ (t.uplG g).enabledAt = s.now ∧
    t.out = .result (0x8000 + g) 2 0 0 :: s.out ∧ t.jpend = Upl.ENABLE.addr g 0 0 :: s.jpend ∧
    s.sameBut t [Upl.ENABLE.addr g 0 0, Upl.STATE.addr g 0 0, Dic.JOURNAL_PENDING.addr 0 0 0]) ∧
  (∀ (s : State) (g : Fin 8), s.power.coreOn = true → s.partner g = true ∨ s.nat Upl.MODE g = 0 →
  exec (.groupEnable g) s = .next (s.result Upl.ENABLE 0 (if s.partner g then 0x06060001 else 0x06040002) g)) ∧
  (∀ (s : State) (g : Fin 8), s.power.coreOn = true → s.partner g = false →
  ∃ t, exec (.groupDisable g) s = .next t ∧ t.get Upl.ENABLE g = 0 ∧ t.nat Upl.STATE g = 0 ∧
    (∀ m : Fin 4, t.get Mac.LINK (4 * g + m) = 0 ∧ t.get Mac.FAULT (4 * g + m) = 0) ∧ t.out.head? = some (.result (0x8000 + g) 2 0 0)) ∧
  (∀ (s : State) (g : Fin 8), s.power.coreOn = true → s.nat Upl.STATE g = 1 →
  ∃ t, exec (.groupLanesStarted g) s = .next t ∧ t.get Upl.STATE g = (if s.flag Upl.TRAIN g = true ∧ s.nat Upl.MODE g ≠ 5 then 2 else 3) ∧
    (t.nat Pwr.PLL_LOCKED).testBit 2 = true ∧ (t.uplG g).since = s.now ∧ .uplink .squelch g 0 ∈ t.out ∧
    (∀ l ∈ s.groupLanes g, s.laneStart l (s.flag Upl.TRAIN g && s.nat Upl.MODE g != 5) ∈ t.out) ∧
    s.sameBut t [Upl.STATE.addr g 0 0, Pwr.PLL_LOCKED.addr 0 0 0]) ∧
  (∀ (s : State) (g : Fin 8), s.power.coreOn = true → s.nat Upl.STATE g = 2 → s.now < (s.uplG g).since + s.nat Upl.TRAIN_TIMEOUT_MS g * 1000000 →
  ∃ t, exec (.groupTrained g) s = .next t ∧ t.get Upl.STATE g = 3 ∧ (t.uplG g).since = s.now ∧ s.sameBut t [Upl.STATE.addr g 0 0] ∧ t = { s with od := t.od, upl := t.upl }) ∧
  (∀ (s : State) (g : Fin 8) (lane : Fin 32), s.power.coreOn = true → s.nat Upl.STATE g = 2 → (s.uplG g).since + s.nat Upl.TRAIN_TIMEOUT_MS g * 1000000 ≤ s.now →
  ∃ t, exec (.uplTrainFail g lane) s = .next t ∧ t.get Upl.STATE g = 5 ∧ s.counted t Upl.TRAIN_FAILS 1 g ∧ (t.uplG g).since = s.now ∧
    s.sameBut t (Upl.STATE.addr g 0 0 :: Upl.TRAIN_FAILS.addr g 0 0 :: eventAddrs) ∧ s.raised t 0x8001 (0x0C0 + g) [a8 g, a8 lane]) ∧
  (∀ (s : State) (g : Fin 8), s.power.coreOn = true → s.nat Upl.STATE g = 3 →
  ∃ t, exec (.groupAligned g) s = .next t ∧ t.get Upl.STATE g = 4 ∧ (t.uplG g).since = s.now ∧
    t.get Upl.UP_TIME_MS g = Upl.UP_TIME_MS.ty.norm ((s.now - (s.uplG g).enabledAt) / 1000000 : Nat)) ∧
  (∀ (s : State) (g : Fin 8), s.power.coreOn = true → s.nat Upl.STATE g = 5 → (s.uplG g).since + 1000000000 ≤ s.now →
  ∃ t, exec (.groupRetry g) s = .next t ∧ t.get Upl.STATE g = 1 ∧ (t.uplG g).since = s.now ∧ s.sameBut t [Upl.STATE.addr g 0 0] ∧ t = { s with od := t.od, upl := t.upl }) ∧
  (∀ (s : State) (g : Fin 8), s.power.coreOn = true → s.nat Upl.STATE g = 5 → s.now < (s.uplG g).since + 1000000000 → exec (.groupRetry g) s = .next s)

/-- Frames and line conditions at an uplink MAC. A frame below 64 bytes, above MAX_FRAME, with a wrong FCS or of a MAC control type adds 1 to its one counter and changes nothing else; a good frame is counted with its bytes and, where no other unit takes it, arrives at its group's pipeline; the line conditions of a member set LINK and FAULT. Each of these is shown to answer a next state with its own effect, on conditions on the state and its operands alone: macRxFrame, uplLinkDown. -/
def Obligations.UplinkMac : Prop :=
  (∀ (s : State) (i : Fin 32) (data d : List Nat) (fb : Bool), s.power.coreOn = true → s.tribUp i = true → fb = false ∨ s.flag Upl.FEC_ERR_IND (i / 4) = false → 60 ≤ data.length → data.length + 4 ≤ s.nat Mac.MAX_FRAME i →
  beAt data 12 2 ≠ 0x8808 → s.protProtect i = none → s.tribOf i = i.val → s.timeTakes i data = false → (s.recovery data).1 = some d →
  ∃ t, exec (.macRxFrame i data true fb) s = .next t ∧ s.counted t Mac.RX_FRAMES 1 i ∧ s.counted t Mac.RX_BYTES (data.length + 4) i ∧
    ((t.pipe (s.pipeOfGroup (i / 4))).arriving).map (fun p => (p.data, p.srcType, p.srcLoc, p.srcId, p.at')) =
      ((s.pipe (s.pipeOfGroup (i / 4))).arriving).map (fun p => (p.data, p.srcType, p.srcLoc, p.srcId, p.at')) ++ [(d, (0 : Nat), i.val, 0x0C0 + i.val / 4, s.now)]) ∧
  (∀ (s : State) (i : Fin 32) (data : List Nat) (ok fb : Bool) (o : Obj), s.power.coreOn = true → s.tribUp i = true →
  o = (if data.length < 60 then Mac.RX_UNDERSIZE else if s.nat Mac.MAX_FRAME i < data.length + 4 then Mac.RX_OVERSIZE else if ok = true ∧ ¬(fb = true ∧ s.flag Upl.FEC_ERR_IND (i / 4) = true) then Mac.RX_CONTROL else Mac.RX_FCS) →
  data.length < 60 ∨ s.nat Mac.MAX_FRAME i < data.length + 4 ∨ ok = false ∨ (fb = true ∧ s.flag Upl.FEC_ERR_IND (i / 4) = true) ∨ beAt data 12 2 = 0x8808 →
  ∃ t, exec (.macRxFrame i data ok fb) s = .next t ∧ s.counted t o 1 i ∧ t = { s with od := t.od } ∧ s.sameBut t [o.addr i 0 0]) ∧
  (∀ (s : State) (i : Fin 32) (lock lf rf : Bool), s.power.coreOn = true → s.memberUp i = true → s.protWorking i = none → s.protProtect i = none → s.nat Upl.MODE (i / 4) ≠ 5 →
  ∃ t, exec (.uplLinkDown i lock lf rf) s = .next t ∧ t.macX i = { lock := lock, localFault := lf, remoteFault := rf } ∧
    t.get Mac.LINK i = (if lock = true ∧ lf = false ∧ rf = false then 1 else 0) ∧
    t.get Mac.FAULT i = (if lock = false ∨ lf = true then 1 else if rf = true then 2 else 0) ∧
    (s.flag Mac.LINK i = true → t.flag Mac.LINK i = false → s.counted t Mac.LINK_DOWNS 1 i))

/-- Defects, traces, GMP periods and seconds of the OTN layers. A defect that the line declares or clears is a bit of DEFECTS; three equal traces in a row are accepted; an OPU4 GMP period with a good CRC-8 and Cm 188 or 189 is accepted and any other counts in CM_REJECT, the third in a row with an event; a second is classified once it has passed. Each of these is shown to answer a next state with its own effect, on conditions on the state and its operands alone: otnDefectChange, ttiMultiframe, gmpPeriod, otnPmSecond. -/
def Obligations.OtnLayers : Prop :=
  (∀ (s : State) (e : Fin 40) (cond : OtnCond), s.power.coreOn = true → s.otnOn e = true → cond.fits e = true →
  ∃ t, exec (.otnDefectChange e cond) s = .next t ∧
    (t.nat Otn.DEFECTS (otnI e) (otnJ e)).testBit (((s.otnX e).see s.now cond).bit cond).1 = (((s.otnX e).see s.now cond).bit cond).2 ∧
    (∀ k : Fin 13, k.val ≠ (((s.otnX e).see s.now cond).bit cond).1 →
      (t.nat Otn.DEFECTS (otnI e) (otnJ e)).testBit k = (s.nat Otn.DEFECTS (otnI e) (otnJ e)).testBit k) ∧
    (e.val < 8 → (((s.otnX e).see s.now cond).bit cond).1 ≤ 6 → (((s.otnX e).see s.now cond).bit cond).2 = true →
      (t.nat Otn.DEFECTS (otnI e) (otnJ e)).testBit 13 = true)) ∧
  (∀ (s : State) (e : Fin 40) (lane : Fin 4) (x : LineCond), s.power.coreOn = true → s.otnOn e = true → e.val < 8 → (s.otnX e).los = [(lane.val, x)] →
  x.bad = true → x.dfct = false →
  ∃ t, exec (.otnDefectChange e (.transitions lane false)) s = .next t ∧ (t.nat Otn.DEFECTS (otnI e) (otnJ e)).testBit 0 = decide (x.since + 10000 ≤ s.now)) ∧
  (∀ (s : State) (e : Fin 40), s.power.coreOn = true → s.otnOn e = true → e.val < 8 → (s.otnX e).fas.miss = 4 → (s.otnX e).lof.bad = false →
  ∃ t, exec (.otnDefectChange e (.fas false)) s = .next t ∧ (t.otnX e).fas.miss = 5 ∧ (t.otnX e).lof.bad = true ∧ (t.otnX e).lof.since = s.now) ∧
  (∀ (s : State) (e : Fin 40) (tti : Nat), s.power.coreOn = true → s.otnOn e = true → tti < 2 ^ 512 → (s.otnX e).tti = tti → 2 ≤ (s.otnX e).ttiRun →
  ∃ t, exec (.ttiMultiframe e tti) s = .next t ∧ t.nat Otn.ACC_TTI (otnI e) (otnJ e) = tti ∧ (t.otnX e).ttiRun = (s.otnX e).ttiRun + 1 ∧
    .trace e (s.txTrace e) ∈ t.out) ∧
  (∀ (s : State) (e : Fin 40) (tti : Nat), s.power.coreOn = true → s.otnOn e = true → tti < 2 ^ 512 → (s.otnX e).tti ≠ tti →
  ∃ t, exec (.ttiMultiframe e tti) s = .next t ∧ t.od = s.od ∧ (t.otnX e).tti = tti ∧ (t.otnX e).ttiRun = 1 ∧ t.out = .trace e (s.txTrace e) :: s.out) ∧
  (∀ (s : State) (i : Fin 32) (cm fill : Nat), s.power.coreOn = true → s.otnOn (8 + i) = true → cm = 188 ∨ cm = 189 →
  ∃ t, exec (.gmpPeriod i 0 true cm fill) s = .next t ∧ .gmp i 0 (Config.gmpBytes 0 (Config.gmpCm 0 fill) ++ [0, 0, 0]) ∈ t.out ∧ t.nat Otn.CM_LAST i 1 = cm ∧ (t.otnX (8 + i)).rej0 = 0 ∧ (t.otnX (8 + i)).acc0 = (s.otnX (8 + i)).acc0 + 1 ∧
    (t.otnX (8 + i)).fail0 = ((s.otnX (8 + i)).fail0 && decide ((s.otnX (8 + i)).acc0 < 2))) ∧
  (∀ (s : State) (i : Fin 32) (ok : Bool) (cm fill : Nat), s.power.coreOn = true → s.otnOn (8 + i) = true → ok = false ∨ (cm ≠ 188 ∧ cm ≠ 189) →
  ∃ t, exec (.gmpPeriod i 0 ok cm fill) s = .next t ∧ .gmp i 0 (Config.gmpBytes 0 (Config.gmpCm 0 fill) ++ [0, 0, 0]) ∈ t.out ∧ s.counted t Otn.CM_REJECT 1 i 1 ∧ (t.otnX (8 + i)).acc0 = 0 ∧ (t.otnX (8 + i)).rej0 = (s.otnX (8 + i)).rej0 + 1 ∧
    ((s.otnX (8 + i)).rej0 = 2 → (t.otnX (8 + i)).fail0 = true)) ∧
  (∀ (s : State) (e : Fin 40) (blocks ne fe : Nat) (bips beis : List Nat), s.power.coreOn = true → s.otnOn e = true →
  ne = bips.length → fe = (beis.filter (fun n => n != 0)).length → ((s.otnX e).nextSec + 1) * 1000000000 ≤ s.now → (s.otnX e).nextSec < 10 →
  (s.otnX e).sfSince = none → (s.otnX e).sfPast = [] → (s.otnX e).bdiSince = none → (s.otnX e).bdiPast = [] →
  ∃ t, exec (.otnPmSecond e blocks bips beis) s = .next t ∧ (∀ n ∈ bips, .uplink .bei e n ∈ t.out) ∧ (t.otnX e).nextSec = (s.otnX e).nextSec + 1 ∧
    ((t.otnX e).secs.find? (s.otnX e).nextSec).map (fun r => (r.nEs, r.nSes, r.nBb)) = some (decide (0 < ne), decide (0 < ne ∧ 15 * blocks ≤ 100 * ne), ne) ∧
    ((t.otnX e).secs.find? (s.otnX e).nextSec).map (fun r => (r.fEs, r.fSes, r.fBb)) = some (decide (0 < fe), decide (0 < fe ∧ 15 * blocks ≤ 100 * fe), fe)) ∧
  (∀ (s : State) (e : Fin 40) (blocks : Nat) (bips beis : List Nat), s.power.coreOn = true → s.now < ((s.otnX e).nextSec + 1) * 1000000000 → exec (.otnPmSecond e blocks bips beis) s = .next s)

/-- Commands, far-end requests, timers and the selector of a protection group; escalation. A COMMAND sets or clears the local requests; REQUEST is the highest of Table 10-8 and SELECTED the tributary that it selects; a far-end request that does not fit adds 1 to APS_MISMATCH with its event; a defect becomes a request after the hold-off time; a WTR that has elapsed ends; the capacity that has been low for ESC_HOLD_MS escalates. Each of these is shown to answer a next state with its own effect, on conditions on the state and its operands alone: protCmdClear, protCmdLockout, protCmdForced, protCmdManual, protCmdExercise, apsReceived, protHoldoffExpiry, wtrExpiry, escHoldExpiry. -/
def Obligations.LinearProtection : Prop :=
  (∀ (s : State) (j : Fin 16) (v : Fin 5) (c : Instr), s.power.coreOn = true → s.nat Prot.TYPE j = 0 →
  c = (match v with | 0 => .protCmdClear j | 1 => .protCmdLockout j | 2 => .protCmdForced j | 3 => .protCmdManual j | 4 => .protCmdExercise j) →
  ∃ t, exec c s = .next t ∧
    ((t.protX j).lo, (t.protX j).fs, (t.protX j).ms, (t.protX j).exer) =
      (match v with
       | 0 => (false, false, false, false)
       | 1 => (true, (s.protX j).fs, (s.protX j).ms, (s.protX j).exer)
       | 2 => ((s.protX j).lo, true, (s.protX j).ms, (s.protX j).exer)
       | 3 => ((s.protX j).lo, (s.protX j).fs, true, (s.protX j).exer)
       | 4 => ((s.protX j).lo, (s.protX j).fs, (s.protX j).ms, true)) ∧
    t.nat Prot.REQUEST j = (t.protX j).request ∧
    t.nat Prot.SELECTED j = selects (t.protX j).request (s.flag Prot.REVERTIVE j) (s.nat Prot.SELECTED j) ∧
    t.out.head? = some (.result (0x80C0 + j) 8 0 0)) ∧
  (∀ (s : State) (j : Fin 16) (req : Fin 10) (trib : Fin 2), s.power.coreOn = true → s.nat Prot.TYPE j = 1 →
  trib.val = selects req (s.flag Prot.REVERTIVE j) (s.nat Prot.SELECTED j) →
  ∃ t, exec (.apsReceived j req trib) s = .next t ∧ (t.protX j).far = req ∧ t.nat Prot.REQUEST j = max (t.protX j).request req ∧
    t.get Prot.APS_MISMATCH j = s.get Prot.APS_MISMATCH j) ∧
  (∀ (s : State) (j : Fin 16) (req : Fin 10) (trib : Fin 2), s.power.coreOn = true → s.nat Prot.TYPE j = 0 → req.val ≠ 0 →
  ∃ t, exec (.apsReceived j req trib) s = .next t ∧ (t.protX j).far = 0 ∧ s.counted t Prot.APS_MISMATCH 1 j ∧
    s.raised t 0x8007 (0x0C0 + s.nat Prot.WORKING j % 32 / 4) [a8 j, a8 req]) ∧
  (∀ (s : State) (j : Fin 16) (at' : Nat), s.power.coreOn = true → s.nat Prot.WORKING j < 32 → s.nat Prot.PROTECT j < 32 →
  s.nat Prot.TYPE j = 0 → s.sf (8 + s.nat Prot.WORKING j) = true → (s.protX j).sfW = some at' → at' + s.nat Prot.HOLDOFF_MS j * 1000000 ≤ s.now →
  ∃ t, exec (.protHoldoffExpiry j) s = .next t ∧ (t.protX j).rSfW = true ∧ 6 ≤ t.nat Prot.REQUEST j ∧
    t.nat Prot.SELECTED j = selects (t.nat Prot.REQUEST j) (s.flag Prot.REVERTIVE j) (s.nat Prot.SELECTED j)) ∧
  (∀ (s : State) (j : Fin 16) (at' : Nat), s.power.coreOn = true → (s.protX j).wtr = some at' → at' + s.nat Prot.WTR_S j * 1000000000 ≤ s.now → s.nat Prot.TYPE j = 0 →
  ∃ t, exec (.wtrExpiry j) s = .next t ∧ t.protX j = { s.protX j with wtr := none } ∧ t.nat Prot.REQUEST j = (t.protX j).request ∧
    t.nat Prot.SELECTED j = selects (t.nat Prot.REQUEST j) (s.flag Prot.REVERTIVE j) (s.nat Prot.SELECTED j)) ∧
  (∀ (s : State) (at' : Nat), s.power.coreOn = true → s.flag Esc.ESC_ENABLE = true → s.flag Esc.ESC_ACTIVE = false → s.upl.escLow = some at' →
  at' + s.nat Esc.ESC_HOLD_MS * 1000000 ≤ s.now →
  ∃ t, exec .escHoldExpiry s = .next t ∧ t.get Esc.ESC_ACTIVE = 1 ∧ s.counted t Esc.ESCALATIONS 1 ∧ (t.nat Twin.LOCAL_FAULTS).testBit 2 = true ∧
    s.raised t 0x8009 0x0C0 [a8 1, a16 (s.get Esc.CAPACITY_GBPS)]) ∧
  (∀ (s : State) (at' : Nat), s.power.coreOn = true → s.flag Esc.ESC_ACTIVE = true → s.upl.escOk = some at' → at' + s.nat Esc.ESC_HOLD_MS * 1000000 ≤ s.now →
  ∃ t, exec .escHoldExpiry s = .next t ∧ t.get Esc.ESC_ACTIVE = 0 ∧ (t.nat Twin.LOCAL_FAULTS).testBit 2 = false ∧ t.log = s.log ∧
    s.sameBut t [Esc.ESC_ACTIVE.addr 0 0 0, Twin.LOCAL_FAULTS.addr 0 0 0])

/-- PTP messages, their time stamps and the loss of a master. A message that fails the profile checks counts in PTP_RX_BAD; a one-step Sync of the followed master gives the offset t2 − t1 − mean path delay − asymmetry; a Delay_Req at a MASTER port is answered with its corrected time stamp; masters whose Announce messages are 375 ms old are dropped; Announce, Sync and Delay_Req go out when they are due. Stamps are TS112, 1/65,536 ns; 125 and 8192 turn them and a ps into one unit. Each of these is shown to answer a next state with its own effect, on conditions on the state and its operands alone: ptpRx, ptpAnnounceTimeout, ptpMessageTx. -/
def Obligations.PtpMessages : Prop :=
  (∀ (s : State) (k : Fin 33) (msg : List Nat) (tMac : Nat), s.power.coreOn = true → s.ptpOn k = true → s.ptpOk (ptpMsg msg) = true → (ptpMsg msg).kind = 0 →
  (ptpMsg msg).twoStep = false → s.ptpParent k (ptpMsg msg).src = true → s.nat PtpPort.PORT_STATE k = 5 → s.nat Tim.TIME_SOURCE = 0 → s.nat Tim.SERVO_STATE = 2 →
  ∃ t, exec (.ptpRx k msg tMac) s = .next t ∧ s.counted t PtpPort.PTP_RX 1 k ∧
    t.time.theta = some (roundDiv ((tMac * 125 - ((s.ptpLat k).1 + s.get PtpPort.RX_ADJ_PS k) * 8192) - ((ptpMsg msg).stamp + (ptpMsg msg).corr) -
      (s.get PtpPort.MEAN_PATH_PS k + s.get PtpPort.DELAY_ASYM_PS k) * 8192) 8192) ∧
    t.out = s.out ∧ s.sameBut t [PtpPort.PTP_RX.addr k 0 0]) ∧
  (∀ (s : State) (k : Fin 33) (msg : List Nat) (tMac : Nat), s.power.coreOn = true → s.ptpOn k = true → s.ptpOk (ptpMsg msg) = false →
  exec (.ptpRx k msg tMac) s = .next (s.bump PtpPort.PTP_RX_BAD k)) ∧
  (∀ (s : State) (k : Fin 33) (msg : List Nat) (tMac : Nat), s.power.coreOn = true → s.ptpOn k = true → s.ptpOk (ptpMsg msg) = true → (ptpMsg msg).kind = 1 →
  s.nat PtpPort.PORT_STATE k = 3 →
  ∃ t, exec (.ptpRx k msg tMac) s = .next t ∧ s.counted t PtpPort.PTP_RX 1 k ∧ s.counted t PtpPort.PTP_TX 1 k ∧
    t.out = .time 3 k [(s.ptpDmac k : Int), (ptpMsg msg).seq, (ptpMsg msg).src, roundDiv (tMac * 125 - ((s.ptpLat k).1 + s.get PtpPort.RX_ADJ_PS k) * 8192) 125,
      roundDiv (ptpMsg msg).corr 125] :: s.out) ∧
  (∀ (s : State) (k : Fin 33) (a : Ann), s.power.coreOn = true → s.ptpOn k = true → (s.ptpX k).since + 375000000 ≤ s.now → s.nat PtpPort.PORT_STATE k ≠ 0 →
  a ∈ (s.ptpX k).masters → a.at' + 375000000 ≤ s.now →
  ∃ t, exec (.ptpAnnounceTimeout k) s = .next t ∧ (t.ptpX k).masters = (s.ptpX k).masters.filter (fun b => decide (s.now < b.at' + 375000000))) ∧
  (∀ (s : State) (k : Fin 33) (tMac : Nat), s.power.coreOn = true → s.ptpOn k = true → s.nat PtpPort.PORT_STATE k = 3 →
  (∀ l, (s.ptpX k).syncAt = some l → l + 62500000 ≤ s.now) →
  ∃ t, exec (.ptpMessageTx k .sync tMac) s = .next t ∧ s.counted t PtpPort.PTP_TX 1 k ∧ (t.ptpX k).syncAt = some s.now ∧
    t.out = .time 2 k [(s.ptpDmac k : Int), roundDiv (tMac * 125 + ((s.ptpLat k).2 + s.get PtpPort.TX_ADJ_PS k) * 8192) 125] :: s.out ∧ s.sameBut t [PtpPort.PTP_TX.addr k 0 0]) ∧
  (∀ (s : State) (k : Fin 33) (tMac : Nat), s.power.coreOn = true → s.ptpOn k = true → s.nat PtpPort.PORT_STATE k = 3 →
  (∀ l, (s.ptpX k).annAt = some l → l + 125000000 ≤ s.now) →
  ∃ t, exec (.ptpMessageTx k .announce tMac) s = .next t ∧ s.counted t PtpPort.PTP_TX 1 k ∧ (t.ptpX k).annAt = some s.now ∧
    t.out = .time 1 k [(s.ptpDmac k : Int), s.nat Ptp.DOMAIN, s.clockClass, s.get Ptp.PRIORITY2, if s.time.follow = none then Config.clockIdentity else s.time.gm,
      if s.time.follow = none then 0 else s.get Ptp.STEPS_REMOVED + 1, s.get Tim.UTC_OFFSET_S] :: s.out) ∧
  (∀ (s : State) (k : Fin 33) (tMac : Nat), s.power.coreOn = true → s.ptpOn k = true → s.nat PtpPort.PORT_STATE k = 4 ∨ s.nat PtpPort.PORT_STATE k = 5 →
  (∀ l, (s.ptpX k).reqAt = some l → l + 62500000 ≤ s.now) →
  ∃ t, exec (.ptpMessageTx k .delayReq tMac) s = .next t ∧ s.counted t PtpPort.PTP_TX 1 k ∧ (t.ptpX k).seq = ((s.ptpX k).seq + 1) % 65536 ∧
    (t.ptpX k).req = some (((s.ptpX k).seq + 1) % 65536, tMac * 125 + ((s.ptpLat k).2 + s.get PtpPort.TX_ADJ_PS k) * 8192))

/-- The servo, steps, seconds and the pulse input. An offset at or above STEP_THRESH_NS asks for a step while the servo acquires; 16 updates below LOCK_NS lock it; TIME_SET is taken in FREE alone, and the time changes at a frame boundary after the request, counted in STEPS and TOD_SEQ; a second boundary counts UPTIME_S; PPS_IN becomes valid at the third edge in a row and invalid with its event after three seconds without one. Each of these is shown to answer a next state with its own effect, on conditions on the state and its operands alone: servoUpdate, timeSet, timeStep, holdoverSpecExpiry, secondBoundary, ppsInEdge, timePpsInLost. -/
def Obligations.DeviceTime : Prop :=
  (∀ (s : State) (th : Int), s.power.coreOn = true → s.time.theta = some th → s.nat Tim.SERVO_STATE = 1 → s.nat Tim.STEP_THRESH_NS * 1000 ≤ th.natAbs →
  ∃ t, exec .servoUpdate s = .next t ∧ t.time.theta = none ∧ t.time.stepBy = some th ∧ t.time.stepIn = s.frame ∧ t.get Tim.OFFSET_PS = Tim.OFFSET_PS.ty.norm th ∧
    t.now = s.now ∧ s.sameBut t [Tim.OFFSET_PS.addr 0 0 0]) ∧
  (∀ (s : State) (th : Int), s.power.coreOn = true → s.time.theta = some th → s.nat Tim.SERVO_STATE = 1 → th.natAbs < s.nat Tim.STEP_THRESH_NS * 1000 →
  th.natAbs < s.nat Tim.LOCK_NS * 1000 → s.time.inRun = 15 →
  ∃ t, exec .servoUpdate s = .next t ∧ t.get Tim.SERVO_STATE = 2 ∧ t.time.everLocked = true ∧ t.time.lossAt = none ∧ s.raised t 0x8803 idTime [a8 2, a8 1]) ∧
  (∀ (s : State) (n : Nat), s.power.coreOn = true → s.nat Tim.SERVO_STATE = 0 →
  ∃ t, exec (.timeSet n) s = .next t ∧ t.time.setTo = some (n % timeMod) ∧ t.time.stepIn = s.frame ∧ t.now = s.now ∧ t.od = s.od ∧ t.out = .result 0x8800 2 0 0 :: s.out) ∧
  (∀ (s : State) (n : Nat), s.power.coreOn = true → s.nat Tim.SERVO_STATE ≠ 0 → exec (.timeSet n) s = .next (s.result Tim.TIME_SET 0 0x06060001)) ∧
  (∀ (s : State) (n : Nat), s.power.coreOn = true → s.time.setTo = some n → s.time.stepIn < s.frame →
  ∃ t, exec .timeStep s = .next t ∧ t.now = n ∧ t.time.setTo = none ∧ t.time.stepBy = none ∧ t.time.lastSec = n / 1000000000 ∧ s.counted t Tim.STEPS 1 ∧ s.counted t Tim.TOD_SEQ 1 ∧
    (t.log.find? (s.nat Dic.EVT_NEXT_SEQ % 65536)).map (fun e => (e.time, e.code, e.source, e.args)) = some (n, 0x8801, idTime, [a64 (((s.now : Int) - n) * 1000)])) ∧
  (∀ (s : State), s.power.coreOn = true → s.frame ≤ s.time.stepIn → exec .timeStep s = .next s) ∧
  (∀ (s : State) (l : Nat), s.power.coreOn = true → s.nat Tim.SERVO_STATE = 3 → s.time.lossAt = some l → l + s.nat Tim.HOLDOVER_SPEC_S * 1000000000 ≤ s.now →
  ∃ t, exec .holdoverSpecExpiry s = .next t ∧ t.get Tim.SERVO_STATE = 4 ∧ t.clockClass = 165 ∧ s.raised t 0x8803 idTime [a8 4, a8 3]) ∧
  (∀ (s : State), s.power.coreOn = true → s.time.lastSec < s.sec → s.nat Pwr.POWER_STATE = 1 →
  ∃ t, exec .secondBoundary s = .next t ∧ t.time.lastSec = s.sec ∧ t.power.snowSecs = s.sec ∧ t.power.snowValid = true ∧ s.counted t Dic.UPTIME_S 1 ∧ t.now = s.now) ∧
  (∀ (s : State), s.power.coreOn = true → s.sec ≤ s.time.lastSec → exec .secondBoundary s = .next s) ∧
  (∀ (s : State) (p n : Nat) (d : Int), s.power.coreOn = true → ((p / 250 * 250 : Nat) : Int) - s.get Pin.PPS_IN_DELAY_PS = n * 1000000000000 + d → -1000000000 ≤ d → d < 1000000000 →
  s.flag Pin.PPS_IN_VALID = true → s.nat Tim.TIME_SOURCE = 1 → s.nat Tim.SERVO_STATE = 2 →
  ∃ t, exec (.ppsInEdge p) s = .next t ∧ t.time.theta = some d ∧ t.time.ppsLast = n ∧ t.od = s.od) ∧
  (∀ (s : State) (p n : Nat) (d : Int), s.power.coreOn = true → ((p / 250 * 250 : Nat) : Int) - s.get Pin.PPS_IN_DELAY_PS = n * 1000000000000 + d → -1000000000 ≤ d → d < 1000000000 →
  s.time.ppsLast + 1 = n → s.nat Tim.TIME_SOURCE = 0 →
  ∃ t, exec (.ppsInEdge p) s = .next t ∧ t.time.ppsRun = s.time.ppsRun + 1 ∧ (2 ≤ s.time.ppsRun → t.flag Pin.PPS_IN_VALID = true) ∧
    (s.time.ppsRun < 2 → t.get Pin.PPS_IN_VALID = s.get Pin.PPS_IN_VALID) ∧ s.sameBut t [Pin.PPS_IN_VALID.addr 0 0 0]) ∧
  (∀ (s : State), s.power.coreOn = true → s.flag Pin.PPS_IN_VALID = true → (s.time.ppsLast + 3) * 1000000000 + 1000000 ≤ s.now → s.nat Tim.TIME_SOURCE = 0 →
  ∃ t, exec .timePpsInLost s = .next t ∧ t.get Pin.PPS_IN_VALID = 0 ∧ t.time.ppsRun = 0 ∧ s.sameBut t (Pin.PPS_IN_VALID.addr 0 0 0 :: eventAddrs) ∧ s.raised t 0x8805 idTime [])

/-- Quality levels and the selection of a synchronous Ethernet source. An ESMC message gives the lanes of its member its QL; 5 s without one a lane's QL is QL-FAILED; a source that has been valid for WTR_S enters the selection; 300 ms after the failure of the selected source the best remaining one is selected; ESMC goes out once per second with the QL of the selection, DNU towards the selected source. Each of these is shown to answer a next state with its own effect, on conditions on the state and its operands alone: esmcRx, esmcTimeout, synceWtrExpiry, synceFailHoldoff, esmcTx. -/
def Obligations.SynchronousEthernet : Prop :=
  (∀ (s : State) (i : Fin 32) (ql : Fin 16) (l : Nat), s.power.coreOn = true → s.nat Upl.MODE (i / 4) ≠ 5 → i.val % 4 ∈ modeMembers (s.nat Upl.MODE (i / 4)) → s.flag Mac.LINK i = true →
  l ∈ lanesOf (s.nat Upl.MODE (i / 4)) (i / 4) (i % 4) →
  ∃ t, exec (.esmcRx i ql) s = .next t ∧ (t.syncX l).ql = some ql.val ∧ (t.syncX l).esmcAt = s.now) ∧
  (∀ (s : State) (l : Fin 32), s.power.coreOn = true → (s.syncX l).ql ≠ none → (s.syncX l).esmcAt + 5000000000 ≤ s.now →
  ∃ t, exec (.esmcTimeout l) s = .next t ∧ (t.syncX l).ql = none ∧ t.get SySrc.VALID l = 0 ∧ t.get SySrc.QL_IN l = 15 ∧ (t.syncX l).validAt = none) ∧
  (∀ (s : State) (k : Fin 37) (a : Nat), s.power.coreOn = true → (s.syncX k).validAt = some a → a + s.nat SyE.WTR_S * 1000000000 ≤ s.now → s.srcQl k ≠ none →
  ∃ t, exec (.synceWtrExpiry k) s = .next t ∧ (t.syncX k).ready = true ∧ t.get SySrc.VALID k = 1) ∧
  (∀ (s : State) (a : Nat), s.power.coreOn = true → s.time.failAt = some a → a + 300000000 ≤ s.now →
  ∃ t, exec .synceFailHoldoff s = .next t ∧ t.time.failAt = none ∧ t.nat SyE.SELECTED = (s.updSync (s.nat SyE.SELECTED) (fun x => { x with ready := false })).syncBest) ∧
  (∀ (s : State) (i : Fin 32), s.power.coreOn = true → s.nat Upl.MODE (i / 4) ≠ 5 → i.val % 4 ∈ modeMembers (s.nat Upl.MODE (i / 4)) → s.flag Mac.LINK i = true →
  (∀ e, s.time.esmc.find? i = some e → e.1 + 1000000000 ≤ s.now) →
  ∃ t, exec (.esmcTx i) s = .next t ∧ t.od = s.od ∧
    t.out = .time 4 i [if s.nat SyE.SELECTED ∈ lanesOf (s.nat Upl.MODE (i / 4)) (i / 4) (i % 4) then 15 else (s.nat SyE.QL_OUT : Int)] :: s.out)

/-- Frames of the twin link, the heartbeat and pairing. A damaged control frame adds 1 to CTRL_BAD and does nothing else; BEATs go out every BEAT_US and carry role, state, faults and group numbers; a lost BEAT with HB_IN present takes the link down; a HELLO that fails a pairing check leaves SEEKING for INCOMPATIBLE with its event, and one that passes elects this chip active or standby by R316; a seek without peer ends in ALONE. Each of these is shown to answer a next state with its own effect, on conditions on the state and its operands alone: beatSend, beatRx, beatLost, hbInLost, hbInPresent, helloRx, seekTimeout, helloSend, localFaultExpiry. -/
def Obligations.TwinLink : Prop :=
  (∀ (s : State), s.power.coreOn = true → s.flag Twin.TWIN_ENABLE = true → 3 ≤ s.nat Twin.STATE → s.nat Twin.STATE < 9 → s.nat Twin.STATE ≠ 5 ∨ s.twin.peerState ≠ 4 ∨ s.nat Twin.PEER_FAULTS ≠ 0 →
  (∀ l, s.twin.beatSent = some l → l + s.nat Twin.BEAT_US * 1000 ≤ s.now) →
  ∃ t, exec .beatSend s = .next t ∧ t.twin.beatSent = some s.now ∧
    t.out = s.ctrlOut 6 0 [s.get Twin.ROLE, s.get Twin.STATE, t.get Twin.LOCAL_FAULTS, (s.twin.sent : Int), (s.twin.applied.getD 0 : Nat)] :: s.out ∧
    s.sameBut t [Twin.LOCAL_FAULTS.addr 0 0 0]) ∧
  (∀ (s : State) (f : CtrlIn) (c : Instr) (a b d e g k : Nat) (h : Hello) (x : Bool) (es : List MirEntry) (ch : List (Nat × Int × Int)), s.power.coreOn = true → s.flag Twin.TWIN_ENABLE = true →
  (c, false) ∈ ([(.beatRx f a b d e g, f.good 6 0 (Config.twinPayload 6 0 [(a : Int), b, d, e, g])), (.helloRx f h x, f.good 4 1 (Config.twinPayload 4 1 h.fields)),
    (.mirrorRx f x es, f.good 1 (if x then 2 else 1) (mirrorBytes (if x then 2 else 1) es)), (.commitRx f k a b d, f.good 2 0 (Config.twinPayload 2 0 [(k : Int), a, b, d])),
    (.resendRx f k, f.good 4 5 (Config.twinPayload 4 5 [(k : Int)])), (.resyncRx f, f.good 4 6 (Config.twinPayload 4 6 [])),
    (.feederRx f ch, f.good 4 4 (Config.twinPayload 4 4 (feederFields ch))), (.suspectRx f k, f.good 4 7 (Config.twinPayload 4 7 [(k : Int)])),
    (.yieldRx f k a, f.good 4 2 (Config.twinPayload 4 2 [(k : Int), a])), (.takenRx f k, f.good 4 3 (Config.twinPayload 4 3 [(k : Int)]))] : List (Instr × Bool)) →
  exec c s = .next (s.bump TwinCnt.CTRL_BAD)) ∧
  (∀ (s : State) (f : CtrlIn) (role st faults sent applied : Nat), s.power.coreOn = true → s.flag Twin.TWIN_ENABLE = true →
  f.good 6 0 (Config.twinPayload 6 0 [(role : Int), st, faults, sent, applied]) = true → s.nat Twin.STATE = 4 → (∀ k, s.twin.applied = some k → sent ≤ k + 64) →
  ∃ t, exec (.beatRx f role st faults sent applied) s = .next t ∧ t.twin.beatAt = some s.now ∧ t.twin.peerState = st ∧ t.twin.peerSent = sent ∧ t.twin.peerApplied = applied ∧
    t.get Twin.PEER_FAULTS = Twin.PEER_FAULTS.ty.norm faults ∧ t.out = s.out ∧
    (s.twin.epoch = none → s.sameBut t [Twin.PEER_FAULTS.addr 0 0 0]) ∧ s.sameBut t [Twin.PEER_FAULTS.addr 0 0 0, Tim.FRAME_EPOCH.addr 0 0 0] ∧
    ((s.twinChannels.all (fun pc => s.chState pc.1 pc.2 != 3)) = true → t.twin.epoch = none ∧ t.get Tim.FRAME_EPOCH = (s.twin.epoch.map Tim.FRAME_EPOCH.ty.norm).getD (s.get Tim.FRAME_EPOCH))) ∧
  (∀ (s : State) (f : CtrlIn) (role st faults sent applied k : Nat), s.power.coreOn = true → s.flag Twin.TWIN_ENABLE = true →
  f.good 6 0 (Config.twinPayload 6 0 [(role : Int), st, faults, sent, applied]) = true → s.nat Twin.STATE = 4 → s.twin.applied = some k → k + 64 < sent →
  ∃ t, exec (.beatRx f role st faults sent applied) s = .next t ∧ t.get Twin.STATE = 3 ∧ t.twin.applied = none ∧ s.counted t TwinCnt.RESYNCS 1 ∧ t.out = s.ctrlOut 4 6 [] :: s.out) ∧
  (∀ (s : State) (f : CtrlIn) (st faults sent applied : Nat) (e : Nat × Nat × Reply), s.power.coreOn = true → s.flag Twin.TWIN_ENABLE = true →
  f.good 6 0 (Config.twinPayload 6 0 [2, (st : Int), faults, sent, applied]) = true → s.nat Twin.STATE = 5 → s.nat Twin.LOCAL_FAULTS = 0 → s.twin.confirm = [e] →
  ∃ t, exec (.beatRx f 2 st faults sent applied) s = .next t ∧ t.twin.confirm = (if e.1 ≤ applied then [] else [e]) ∧ t.twin.peerApplied = applied) ∧
  (∀ (s : State), s.power.coreOn = true → s.paired = true → s.beatGone = true → s.twin.hb = true →
  ∃ t, exec .beatLost s = .next t ∧ t.get Twin.STATE = (if s.nat Twin.STATE = 5 then 6 else 8) ∧ s.counted t TwinCnt.BEAT_LOSSES 1 ∧
    s.sameBut t ([Twin.STATE.addr 0 0 0, Twin.ROLE.addr 0 0 0, TwinCnt.BEAT_LOSSES.addr 0 0 0] ++ eventAddrs) ∧
    s.raised t 0x8C06 idPeer [a8 (if s.nat Twin.STATE = 5 then 6 else 8)]) ∧
  (∀ (s : State) (edge : Nat), s.power.coreOn = true → edge + 4000 ≤ s.now → s.paired = false ∨ s.beatGone = false →
  exec (.hbInLost edge) s = .next { s with twin := { s.twin with hb := false, hbLostAt := if s.twin.hb then s.now else s.twin.hbLostAt } }) ∧
  (∀ (s : State) (edge : Nat), s.power.coreOn = true → edge + 4000 ≤ s.now → s.nat Twin.STATE = 4 → s.beatGone = true →
  ∃ t, exec (.hbInLost edge) s = .next t ∧ t.get Twin.STATE = 6 ∧ t.get Twin.ROLE = 1 ∧ s.counted t TwinCnt.SWITCHES 1 ∧ t.get Twin.LAST_SWITCH_CAUSE = 5) ∧
  (∀ (s : State) (edge : Nat), s.power.coreOn = true → s.now < edge + 4000 → exec (.hbInLost edge) s = .next s) ∧
  (∀ (s : State) (edges : List Nat), s.power.coreOn = true → 8 ≤ edges.length → (∀ e ∈ edges.zip edges.tail, e.2 < e.1 ∧ e.1 < e.2 + 4000) → s.now < edges.headD 0 + 4000 →
  exec (.hbInPresent edges) s = .next { s with twin := { s.twin with hb := true } }) ∧
  (∀ (s : State) (edges : List Nat), s.power.coreOn = true → edges.length < 8 ∨ (∃ e ∈ edges.zip edges.tail, e.2 + 4000 ≤ e.1) ∨ edges.headD 0 + 4000 ≤ s.now →
  exec (.hbInPresent edges) s = .next s) ∧
  (∀ (s : State) (f : CtrlIn) (h : Hello) (auth : Bool), s.power.coreOn = true → s.flag Twin.TWIN_ENABLE = true → f.good 4 1 (Config.twinPayload 4 1 h.fields) = true →
  s.nat Twin.STATE = 1 → s.pairCheck h auth = 0 →
  ∃ t, exec (.helloRx f h auth) s = .next t ∧ t.get Twin.STATE = (if electActive s.helloOf h then 5 else 3) ∧ t.get Twin.ROLE = (if electActive s.helloOf h then 1 else 2) ∧
    t.get Twin.PREV_ROLE = (if electActive s.helloOf h then 1 else 2) ∧ t.get Twin.PEER_SERIAL = Twin.PEER_SERIAL.ty.norm h.serial ∧ t.twin.beatAt = some s.now) ∧
  (∀ (s : State) (f : CtrlIn) (h : Hello) (auth : Bool), s.power.coreOn = true → s.flag Twin.TWIN_ENABLE = true → f.good 4 1 (Config.twinPayload 4 1 h.fields) = true →
  s.nat Twin.STATE = 1 → s.pairCheck h auth ≠ 0 →
  ∃ t, exec (.helloRx f h auth) s = .next t ∧ t.get Twin.STATE = 2 ∧ t.get Twin.ROLE = 0 ∧ t.get Twin.PREV_ROLE = s.get Twin.PREV_ROLE ∧
    s.raised t 0x8C01 idPeer [a8 (s.pairCheck h auth)]) ∧
  (∀ (s : State), s.power.coreOn = true → s.nat Twin.STATE = 1 → s.twin.hb = false → s.twin.since + s.nat Twin.SEEK_S * 1000000000 ≤ s.now →
  s.twin.hbLostAt + s.nat Twin.SEEK_S * 1000000000 ≤ s.now →
  ∃ t, exec .seekTimeout s = .next t ∧ t.get Twin.STATE = 6 ∧ t.get Twin.ROLE = 1) ∧
  (∀ (s : State), s.power.coreOn = true → s.flag Twin.TWIN_ENABLE = true → s.nat Twin.STATE = 1 ∨ s.nat Twin.STATE = 6 ∨ s.nat Twin.STATE = 8 →
  (∀ l, s.twin.helloAt = some l → l + 1000000 ≤ s.now) →
  ∃ t, exec .helloSend s = .next t ∧ t.twin.helloAt = some s.now ∧ t.twin.seq = (s.twin.seq + 1) % 2 ^ 32 ∧ t.out.tail = s.out ∧ t.od = s.od) ∧
  (∀ (s : State), s.power.coreOn = true → (∀ a, s.mapLateAt = some a → a + 1000000000 ≤ s.now) → s.nat Twin.STATE ≠ 5 ∨ s.twin.peerState ≠ 4 ∨ s.nat Twin.PEER_FAULTS ≠ 0 →
  ∃ t, exec .localFaultExpiry s = .next t ∧ (t.nat Twin.LOCAL_FAULTS).testBit 1 = false ∧ (t.nat Twin.LOCAL_FAULTS).testBit 5 = s.flag Twin.HOST_FAULT ∧
    s.sameBut t [Twin.LOCAL_FAULTS.addr 0 0 0] ∧ t = { s with od := t.od })

/-- The mirror stream on both chips. Entries of MIRROR frames wait for their COMMIT; an intact next group is applied as one unit, a damaged one is discarded and asked for again; a kept group is sent again; RESYNC makes an active send a bulk copy; a reply that has waited 1 ms for the standby returns and is counted; lazy records leave once in LAZY_MS; SUSPECT makes a standby SUSPECT. Each of these is shown to answer a next state with its own effect, on conditions on the state and its operands alone: mirrorRx, commitRx, resendRx, resyncRx, feederRx, suspectRx, mirrorConfirmTimeout, lazyRecordSend. -/
def Obligations.MirrorStream : Prop :=
  (∀ (s : State) (f : CtrlIn) (es : List MirEntry), s.power.coreOn = true → s.flag Twin.TWIN_ENABLE = true → f.good 1 1 (mirrorBytes 1 es) = true → s.nat Twin.STATE = 3 ∨ s.nat Twin.STATE = 4 ∨ s.nat Twin.STATE = 7 →
  exec (.mirrorRx f false es) s = .next { s with twin := { s.twin with held := s.twin.held ++ es, frames := s.twin.frames + 1 } }) ∧
  (∀ (s : State) (f : CtrlIn) (k crc : Nat), s.power.coreOn = true → s.flag Twin.TWIN_ENABLE = true →
  f.good 2 0 (Config.twinPayload 2 0 [((k + 1 : Nat) : Int), s.twin.frames, (s.twin.held.length : Nat), crc]) = true → crc32 (mirrorBytes 1 s.twin.held) = crc →
  s.nat Twin.STATE = 4 → s.twin.applied = some k → s.twin.waiting = [] →
  k + 1 < s.twin.nextMap ∨ s.now < s.frameStart s.twin.nextMap + 5000 →
  ∃ t, exec (.commitRx f (k + 1) s.twin.frames s.twin.held.length crc) s = .next t ∧ t.twin.applied = some (k + 1) ∧ t.twin.held = [] ∧ t.twin.frames = 0 ∧
    t.get Twin.LAST_GROUP_APPLIED = Twin.LAST_GROUP_APPLIED.ty.norm (k + 1 : Nat) ∧ (s.twin.held = [] → s.counted t TwinCnt.GROUPS_APPLIED 1)) ∧
  (∀ (s : State) (f : CtrlIn) (k frames n crc : Nat), s.power.coreOn = true → s.flag Twin.TWIN_ENABLE = true →
  f.good 2 0 (Config.twinPayload 2 0 [(k : Int), frames, n, crc]) = true → s.nat Twin.STATE = 4 → (∀ a, s.twin.applied = some a → k = a + 1) →
  frames ≠ s.twin.frames ∨ n ≠ s.twin.held.length ∨ crc ≠ crc32 (mirrorBytes 1 s.twin.held) →
  ∃ t, exec (.commitRx f k frames n crc) s = .next t ∧ t.twin.applied = s.twin.applied ∧ t.twin.held = [] ∧ s.counted t TwinCnt.GROUPS_DISCARDED 1 ∧
    t.out = s.ctrlOut 4 5 [(k : Int)] :: s.out ∧ s.sameBut t [TwinCnt.GROUPS_DISCARDED.addr 0 0 0]) ∧
  (∀ (s : State) (f : CtrlIn) (a crc : Nat), s.power.coreOn = true → s.flag Twin.TWIN_ENABLE = true →
  f.good 2 0 (Config.twinPayload 2 0 [((a + 2 : Nat) : Int), s.twin.frames, (s.twin.held.length : Nat), crc]) = true → crc32 (mirrorBytes 1 s.twin.held) = crc →
  s.nat Twin.STATE = 4 → s.twin.applied = some a → s.twin.waiting = [] → s.twin.asked = [] →
  ∃ t, exec (.commitRx f (a + 2) s.twin.frames s.twin.held.length crc) s = .next t ∧ t.twin.applied = some a ∧ t.twin.held = [] ∧ t.twin.waiting = [(a + 2, s.twin.held)] ∧
    t.twin.asked = [a + 1] ∧ s.counted t TwinCnt.GROUPS_DISCARDED 1 ∧ t.out = s.ctrlOut 4 5 [((a + 1 : Nat) : Int)] :: s.out ∧ s.sameBut t [TwinCnt.GROUPS_DISCARDED.addr 0 0 0]) ∧
  (∀ (s : State) (f : CtrlIn) (k : Nat) (l : List MirEntry), s.power.coreOn = true → s.flag Twin.TWIN_ENABLE = true → f.good 4 5 (Config.twinPayload 4 5 [(k : Int)]) = true →
  s.twin.kept.find? k = some l → l ≠ [] →
  ∃ t, exec (.resendRx f k) s = .next t ∧ t.od = s.od ∧ t.out.tail = .mirror false k (s.wrapMirror l) :: s.ctrlOut 1 1 [] (mirrorBytes 1 (s.wrapMirror l)) :: s.out ∧ t.twin.seq = ((s.twin.seq + 1) % 2 ^ 32 + 1) % 2 ^ 32) ∧
  (∀ (s : State) (f : CtrlIn), s.power.coreOn = true → s.flag Twin.TWIN_ENABLE = true → f.good 4 6 (Config.twinPayload 4 6 []) = true → s.nat Twin.STATE = 5 →
  exec (.resyncRx f) s = .next { s with twin := { s.twin with mirrored := [], bulk := true } }) ∧
  (∀ (s : State) (f : CtrlIn), s.power.coreOn = true → s.flag Twin.TWIN_ENABLE = true → f.good 4 6 (Config.twinPayload 4 6 []) = true → s.nat Twin.STATE = 3 → s.twin.spanSeen = true →
  (s.get Tim.OFFSET_PS).natAbs < s.nat Twin.TIME_MAX_NS * 1000 → s.nat Twin.SUSPECT_CAUSE = 0 →
  ∃ t, exec (.resyncRx f) s = .next t ∧ t.get Twin.STATE = 4 ∧ t.get Twin.ROLE = 2 ∧ s.sameBut t [Twin.STATE.addr 0 0 0, Twin.ROLE.addr 0 0 0]) ∧
  (∀ (s : State) (f : CtrlIn) (c : Nat) (d r : Int), s.power.coreOn = true → s.flag Twin.TWIN_ENABLE = true → f.good 4 4 (Config.twinPayload 4 4 (feederFields [(c, d, r)])) = true →
  exec (.feederRx f [(c, d, r)]) s = .next { s with twin := { s.twin with peerFeeder := s.twin.peerFeeder.ins c (d, r) } }) ∧
  (∀ (s : State) (f : CtrlIn) (cause : Nat), s.power.coreOn = true → s.flag Twin.TWIN_ENABLE = true → f.good 4 7 (Config.twinPayload 4 7 [(cause : Int)]) = true →
  s.nat Twin.STATE = 3 ∨ s.nat Twin.STATE = 4 →
  ∃ t, exec (.suspectRx f cause) s = .next t ∧ t.get Twin.STATE = 7 ∧ t.get Twin.ROLE = 2 ∧ t.get Twin.SUSPECT_CAUSE = (cause % 4 : Nat) ∧ s.raised t 0x8C02 idPeer [a8 (cause % 4 : Nat)]) ∧
  (∀ (s : State) (e : Nat × Nat × Reply) (rest : List (Nat × Nat × Reply)), s.power.coreOn = true → s.twin.confirm = e :: rest → e.2.1 + 1000000 ≤ s.now →
  ∃ t, exec .mirrorConfirmTimeout s = .next t ∧ t.twin.confirm = rest ∧ s.counted t TwinCnt.MIRROR_UNCONFIRMED 1) ∧
  (∀ (s : State) (e : Nat × Nat × Reply) (rest : List (Nat × Nat × Reply)), s.power.coreOn = true → s.twin.confirm = e :: rest → s.now < e.2.1 + 1000000 →
  exec .mirrorConfirmTimeout s = .next s) ∧
  (∀ (s : State), s.power.coreOn = true → s.nat Twin.STATE = 5 → s.twin.lazyAt + s.nat Twin.LAZY_MS * 1000000 ≤ s.now →
  ∃ t, exec .lazyRecordSend s = .next t ∧ t.twin.lazyAt = s.now ∧ t.od = s.od ∧ t.out = .mirror true 0 s.lazyRecords :: s.ctrlOut 1 2 [] (mirrorBytes 2 s.lazyRecords) :: s.out)

/-- The standby's maps and the comparison of digests. The standby closes its next map once it has the group or 5 µs after the boundary; equal digests change nothing, and one that differs without an excuse on a standby without faults makes it SUSPECT; a span set without streams on both sides is done at its comparison; a set that has not come within 1 ms counts in DIGEST_MISSING. Each of these is shown to answer a next state with its own effect, on conditions on the state and its operands alone: standbyMapClose, mapCompare, spanCompare, digestMissing. -/
def Obligations.TwinComparison : Prop :=
  (∀ (s : State), s.power.coreOn = true → s.nat Twin.ROLE = 2 → s.nat Twin.STATE ≠ 9 → s.twin.byHand = false ∨ s.twin.nextMap < s.twin.takeN.getD 0 →
  s.frameStart s.twin.nextMap + 5000 ≤ s.now →
  ∃ t, exec .standbyMapClose s = .next t ∧ t.twin.nextMap = s.twin.nextMap + 1 ∧
    (s.twin.applied = none → t.twin.lateMaps = (s.twin.nextMap :: s.twin.lateMaps).take 64)) ∧
  (∀ (s : State) (k : Nat) (peer : List Nat), s.power.coreOn = true → s.nat Twin.STATE = 4 ∨ s.nat Twin.STATE = 7 → s.frameStart k + 40000 ≤ s.now → k ∉ s.twin.mapsDone →
  (∀ pc ∈ s.twinChannels, ∀ e ∈ (s.grantCh pc.1 pc.2).digests, e.1 = k → e.2 = peer.getD (chKey pc.1 pc.2) 0) →
  exec (.mapCompare k peer) s = .next { s with twin := { s.twin with mapsDone := (k :: s.twin.mapsDone).take 64 } }) ∧
  (∀ (s : State) (k : Nat) (peer : List Nat) (pc : Nat × Nat) (d : Nat), s.power.coreOn = true → s.nat Twin.STATE = 4 → s.nat Twin.ROLE = 2 → s.nat Twin.LOCAL_FAULTS = 0 → s.nat Twin.PEER_FAULTS = 0 →
  s.frameStart k + 40000 ≤ s.now → k ∉ s.twin.mapsDone → k ∉ s.twin.lateMaps → pc ∈ s.twinChannels → (s.grantCh pc.1 pc.2).digests.find? (fun e => e.1 == k) = some (k, d) →
  d ≠ peer.getD (chKey pc.1 pc.2) 0 → s.excusedBy pc.1 pc.2 k = false →
  ∃ t, exec (.mapCompare k peer) s = .next t ∧ t.get Twin.STATE = 7 ∧ t.get Twin.SUSPECT_CAUSE = 1 ∧ k ∈ t.twin.mapsDone ∧ s.raised t 0x8C02 idPeer [a8 1]) ∧
  (∀ (s : State) (k : Nat), s.power.coreOn = true → s.nat Twin.STATE = 4 → s.twin.spansDone.find? k = none → s.spanEntries k = [] →
  ∃ t, exec (.spanCompare k [] []) s = .next t ∧ t.twin.spansDone.find? k = some s.now ∧ t.twin.spanSeen = true ∧ t.twin.settled = true ∧ t.od = s.od ∧ t.out = s.out) ∧
  (∀ (s : State) (k a : Nat), s.power.coreOn = true → s.paired = true → s.twin.spansDone.find? k = none → s.twin.setAt.find? (2 * k + 1) = some a → a + 1000000 ≤ s.now →
  exec (.digestMissing true k) s = .next (State.bump { s with twin := { s.twin with spansDone := s.twin.spansDone.ins k s.now } } TwinCnt.DIGEST_MISSING))

/-- Commands of the twin unit, hand-over and take-over. SWITCH on an active with an eligible standby starts a hand-over 130 µs ahead; FORCE on a chip whose link is down takes over; CLEAR_SUSPECT returns to STANDBY; RESYNC on a standby asks for a bulk copy; a command that does not fit the state is refused; a YIELD makes the standby the active of its frame, TAKEN makes an active a standby, and the old active is STANDBY from the hand-over frame. Each of these is shown to answer a next state with its own effect, on conditions on the state and its operands alone: twinSwitchCmd, twinForce, clearSuspect, twinResyncCmd, yieldRx, takenRx, handoverFrame. -/
def Obligations.SwitchOvers : Prop :=
  (∀ (s : State), s.power.coreOn = true → s.nat Twin.STATE = 5 → s.twin.peerState = 4 → s.nat Twin.PEER_FAULTS = 0 → s.twin.yieldN = none →
  ∃ t, exec .twinSwitchCmd s = .next t ∧ t.twin.yieldN = some (s.frameAfter (s.now + 130000)) ∧ s.counted t TwinCnt.SWITCHES 1 ∧ t.get Twin.LAST_SWITCH_CAUSE = 3 ∧
    t.get Twin.LAST_GAP_US = 0 ∧ t.get Twin.STATE = s.get Twin.STATE ∧ t.out.head? = some (.result 0x8C00 14 0 0) ∧ s.raised t 0x8C04 idPeer [a8 3, a8 2]) ∧
  (∀ (s : State), s.power.coreOn = true → (s.nat Twin.STATE = 5 → s.twin.peerState ≠ 4 ∨ s.nat Twin.PEER_FAULTS ≠ 0) → (s.nat Twin.STATE = 4 → s.nat Twin.LOCAL_FAULTS ≠ 0) →
  exec .twinSwitchCmd s = .next (s.result Twin.COMMAND 0 0x06060001)) ∧
  (∀ (s : State), s.power.coreOn = true → s.nat Twin.STATE = 8 →
  ∃ t, exec .twinForce s = .next t ∧ t.get Twin.STATE = 6 ∧ t.get Twin.ROLE = 1 ∧ t.get Twin.LAST_SWITCH_CAUSE = 4 ∧ s.counted t TwinCnt.SWITCHES 1 ∧
    t.out.head? = some (.result 0x8C00 14 0 0)) ∧
  (∀ (s : State), s.power.coreOn = true → s.nat Twin.STATE < 4 ∨ s.nat Twin.STATE = 6 ∨ s.nat Twin.STATE = 9 → exec .twinForce s = .next (s.result Twin.COMMAND 0 0x06060001)) ∧
  (∀ (s : State), s.power.coreOn = true → s.nat Twin.STATE = 7 →
  ∃ t, exec .clearSuspect s = .next t ∧ t.get Twin.STATE = 4 ∧ t.get Twin.SUSPECT_CAUSE = 0 ∧ t.out = .result 0x8C00 14 0 0 :: s.out ∧
    s.sameBut t [Twin.STATE.addr 0 0 0, Twin.ROLE.addr 0 0 0, Twin.SUSPECT_CAUSE.addr 0 0 0]) ∧
  (∀ (s : State), s.power.coreOn = true → s.nat Twin.STATE = 3 ∨ s.nat Twin.STATE = 4 ∨ s.nat Twin.STATE = 7 →
  ∃ t, exec .twinResyncCmd s = .next t ∧ t.get Twin.STATE = 3 ∧ t.twin.applied = none ∧ t.twin.held = [] ∧ s.counted t TwinCnt.RESYNCS 1 ∧
    t.out = .result 0x8C00 14 0 0 :: s.ctrlOut 4 6 [] :: s.out) ∧
  (∀ (s : State) (f : CtrlIn) (n cause : Nat), s.power.coreOn = true → s.flag Twin.TWIN_ENABLE = true → f.good 4 2 (Config.twinPayload 4 2 [(n : Int), cause]) = true →
  s.nat Twin.STATE = 4 ∨ s.nat Twin.STATE = 7 →
  ∃ t, exec (.yieldRx f n cause) s = .next t ∧ t.get Twin.STATE = s.get Twin.STATE ∧ t.get Twin.ROLE = s.get Twin.ROLE ∧ t.twin.takeN = some n ∧ t.twin.byHand = true ∧
    s.counted t TwinCnt.SWITCHES 1 ∧ t.get Twin.LAST_SWITCH_CAUSE = (cause % 6 : Nat) ∧ t.get Twin.LAST_GAP_US = 0) ∧
  (∀ (s : State) (f : CtrlIn) (n : Nat), s.power.coreOn = true → s.flag Twin.TWIN_ENABLE = true → f.good 4 3 (Config.twinPayload 4 3 [(n : Int)]) = true →
  s.nat Twin.ROLE = 1 ∨ s.nat Twin.STATE = 8 →
  ∃ t, exec (.takenRx f n) s = .next t ∧ t.get Twin.STATE = 3 ∧ t.get Twin.ROLE = 2 ∧ t.twin.beatAt = some s.now ∧ n ≤ t.twin.nextMap ∧ t.twin.applied = none) ∧
  (∀ (s : State) (n : Nat), s.power.coreOn = true → s.twin.yieldN = some n → n ≤ s.frame →
  ∃ t, exec .handoverFrame s = .next t ∧ t.get Twin.STATE = 4 ∧ t.get Twin.ROLE = 2 ∧ t.twin.applied = some n ∧ t.twin.nextMap = n + 1 ∧ t.twin.yieldN = none) ∧
  (∀ (s : State) (n : Nat), s.power.coreOn = true → s.twin.yieldN = none → s.twin.takeN = some n → s.twin.byHand = true → n ≤ s.frame →
  ∃ t, exec .handoverFrame s = .next t ∧ t.get Twin.STATE = 5 ∧ t.get Twin.ROLE = 1 ∧ t.get Twin.SUSPECT_CAUSE = 0 ∧ t.twin.takeN = some n ∧ t.twin.byHand = false ∧ t.twin.bulk = true) ∧
  (∀ (s : State) (n : Nat), s.power.coreOn = true → s.twin.yieldN = none → s.twin.takeN = some n → s.frame < n → exec .handoverFrame s = .next s)

/-- Snapshots and the loss of a GZ3216. A heartbeat is timed, a piece of a new snapshot starts its slot, a datagram of another address does nothing; COMMAND 5 and a heartbeat that is missing for LEGACY_TIMEOUT_MS take the PONs over. Each of these is shown to answer a next state with its own effect, on conditions on the state and its operands alone: legacyDatagram, legacyTimeout, legacyTakeover. -/
def Obligations.LegacyPairing : Prop :=
  (∀ (s : State) (port ip seq ofs total : Nat) (data : List Nat), s.power.coreOn = true → s.flag Leg.LEGACY_ENABLE = true → s.nat Leg.LEGACY_UDP_PORT = port → s.nat Leg.LEGACY_PEER_IP = ip →
  exec (.legacyDatagram port ip 1 seq ofs total data) s = .next { s with twin := { s.twin with legBeat := some s.now } }) ∧
  (∀ (s : State) (port ip seq ofs total : Nat) (data : List Nat), s.power.coreOn = true → s.flag Leg.LEGACY_ENABLE = true → s.nat Leg.LEGACY_UDP_PORT = port → s.nat Leg.LEGACY_PEER_IP = ip → total ≤ 8388608 →
  s.nat Leg.SLOT0_STATE = 0 → s.nat Leg.SLOT1_STATE ≠ 1 →
  ∃ t, exec (.legacyDatagram port ip 2 seq ofs total data) s = .next t ∧ t.get Leg.SLOT0_STATE = 1 ∧ t.get Leg.SLOT0_SEQ = Leg.SLOT0_SEQ.ty.norm seq ∧
    t.twin.slot0 = { seq := seq, total := total, pieces := [(ofs, data)] } ∧ s.sameBut t [Leg.SLOT0_STATE.addr 0 0 0, Leg.SLOT0_SEQ.addr 0 0 0]) ∧
  (∀ (s : State) (port ip kind seq ofs total : Nat) (data : List Nat), s.power.coreOn = true →
  s.flag Leg.LEGACY_ENABLE = false ∨ port ≠ s.nat Leg.LEGACY_UDP_PORT ∨ ip ≠ s.nat Leg.LEGACY_PEER_IP →
  exec (.legacyDatagram port ip kind seq ofs total data) s = .next s) ∧
  (∀ (s : State) (l : Nat), s.power.coreOn = true → s.nat Twin.STATE = 9 → s.twin.legBeat = some l → l + s.nat Leg.LEGACY_TIMEOUT_MS * 1000000 ≤ s.now →
  ∃ t, exec .legacyTimeout s = .next t ∧ t.get Twin.STATE = 6 ∧ t.get Twin.ROLE = 1 ∧ t.twin.legBeat = none) ∧
  (∀ (s : State), s.power.coreOn = true → s.nat Twin.STATE = 9 →
  ∃ t, exec .legacyTakeover s = .next t ∧ t.get Twin.STATE = 6 ∧ t.get Twin.ROLE = 1 ∧ t.out.head? = some (.result 0x8C00 14 0 0)) ∧
  (∀ (s : State), s.power.coreOn = true → s.nat Twin.STATE ≠ 9 → exec .legacyTakeover s = .next (s.result Twin.COMMAND 0 0x06060001))

/-- A reset of the host function and of a control core. A host reset counts in HOST_RESETS and HOST_INC, stops every DMA channel, masks every vector, releases the host's locks, clears its doorbells and ends its secured session; a core reset raises the core's incarnation and releases its locks; the end of a secured session alone raises SPDM_SESSION and sets its cause bit. Each of these is shown to answer a next state with its own effect, on conditions on the state and its operands alone: hostReset, coreReset, spdmSessionEnd. -/
def Obligations.HostResets : Prop :=
  (∀ (s : State), s.power.coreOn = true →
  ∃ t, exec .hostReset s = .next t ∧ s.counted t Hst.HOST_RESETS 1 ∧ s.counted t Hst.HOST_INC 1 ∧ t.host.msix = [] ∧ t.host.pba = [] ∧ t.flag Hst.SEC_SESSION = false ∧
    (∀ c : Fin 16, (t.dmaCh c).enable = false) ∧ (∀ n, (t.lock n).1 ≠ idHost) ∧ (∀ d, s.dblTarget d = idHost → (t.host.dbl.getD d (0, 0)).1 = 0)) ∧
  (∀ (s : State) (k : Fin 8), s.power.coreOn = true →
  ∃ t, exec (.coreReset k) s = .next t ∧ t.host.incs.getD k 0 = (s.host.incs.getD k 0 + 1) % 256 ∧ (∀ n, (t.lock n).1 ≠ idCore k) ∧
    (∀ d, s.dblTarget d = idCore k → (t.host.dbl.getD d (0, 0)).1 = 0) ∧ t.get Hst.HOST_RESETS = s.get Hst.HOST_RESETS) ∧
  (∀ (s : State), s.power.coreOn = true → s.flag Hst.SEC_SESSION = true →
  ∃ t, exec .spdmSessionEnd s = .next t ∧ t.get Hst.SEC_SESSION = 0 ∧ t.host.secSel = 0 ∧ t.host.cause.testBit 2 = true ∧
    (∀ m : Fin 8, ∀ k : Fin 16, (t.slot m k).sender = idHost → (t.slot m k).st = 0) ∧ s.raised t 0x9407 idSecurity [a8 0, a8 0]) ∧
  (∀ (s : State), s.power.coreOn = true → s.flag Hst.SEC_SESSION = false → exec .spdmSessionEnd s = .next s)

/-- DMA rings and interrupt causes. A DMA_TAIL outside the ring is discarded and counted, a valid one gives the descriptors to the device, and on a running transmit channel the packet leaves for its pipeline; reserved channels stay off; RESTART clears HALTED; a transmit descriptor completes with its status, and a record of the event log is written to channel 11; a write of 1 clears a cause bit. Each of these is shown to answer a next state with its own effect, on conditions on the state and its operands alone: dmaTailWrite, dmaEnable, dmaRestart, dmaDescriptorComplete, irqCauseClear. -/
def Obligations.DmaChannels : Prop :=
  (∀ (s : State) (c : Fin 16) (tail : Nat) (ds : List Desc), s.power.coreOn = true → 5 ≤ c.val → tail < (s.dmaCh c).size →
  (s.dmaCh c).owned + (tail + (s.dmaCh c).size - (s.dmaCh c).tail) % (s.dmaCh c).size < (s.dmaCh c).size →
  ∃ t, exec (.dmaTailWrite c tail ds) s = .next t ∧ (t.dmaCh c).tail = tail ∧ (t.dmaCh c).head = (s.dmaCh c).head ∧ t.od = s.od ∧ t.out = s.out ∧
    ((s.dmaCh c).tail < (s.dmaCh c).size → tail ≠ (s.dmaCh c).tail → (t.dmaCh c).descs.getD (s.dmaCh c).tail {} = ds.getD 0 {})) ∧
  (∀ (s : State) (c : Fin 16) (tail : Nat) (ds : List Desc), s.power.coreOn = true → (s.dmaCh c).size ≤ tail →
  ∃ t, exec (.dmaTailWrite c tail ds) s = .next t ∧ s.counted t Hst.HOST_BAD_ACCESS 1 ∧ t.dmaCh c = s.dmaCh c ∧ t.host.cause.testBit 1 = true ∧ s.sameBut t [Hst.HOST_BAD_ACCESS.addr 0 0 0]) ∧
  (∀ (s : State) (c : Fin 4) (x : Desc), s.power.coreOn = true → (s.dmaCh c).enable = true → (s.dmaCh c).halted = false → (s.dmaCh c).busy = false → 2 ≤ (s.dmaCh c).size →
  (s.dmaCh c).tail = (s.dmaCh c).head → (s.dmaCh c).head < (s.dmaCh c).size → x.bad c = false → x.lenOk c = true → x.ctrl.testBit 2 = false →
  ∃ t, exec (.dmaTailWrite ⟨c, by omega⟩ (((s.dmaCh c).tail + 1) % (s.dmaCh c).size) [x]) s = .next t ∧ (t.dmaCh c).busy = true ∧
    ((t.pipe (pipeOfDma (bits x.ctrl 3 3))).arriving).map (fun p => (p.data, p.desc)) =
      ((s.pipe (pipeOfDma (bits x.ctrl 3 3))).arriving).map (fun p => (p.data, p.desc)) ++ [((x.data ++ List.replicate x.len 0).take x.len, some (c.val, (s.dmaCh c).head))]) ∧
  (∀ (s : State) (c : Fin 16) (on : Bool), s.power.coreOn = true → 8 ≤ c.val → c.val < 12 →
  ∃ t, exec (.dmaEnable c on) s = .next t ∧ t.dmaCh c = { s.dmaCh c with enable := on } ∧ t.od = s.od ∧ t.out = s.out) ∧
  (∀ (s : State) (c : Fin 16) (on : Bool), s.power.coreOn = true → (5 ≤ c.val ∧ c.val < 8) ∨ 12 ≤ c.val → exec (.dmaEnable c on) s = .next s) ∧
  (∀ (s : State) (c : Fin 16), s.power.coreOn = true → 5 ≤ c.val →
  ∃ t, exec (.dmaRestart c) s = .next t ∧ t.dmaCh c = { s.dmaCh c with halted := false, haltCause := 0 } ∧ t.od = s.od ∧ t.out = s.out) ∧
  (∀ (s : State) (c : Fin 5) (y : Nat × Nat × Nat × Nat) (a addr : Nat), s.power.coreOn = true → (s.dmaCh c).halted = false → (s.dmaCh c).busy = true →
  s.tm.dmaDone.find? (fun e => e.1 == c.val && e.2.1 == (s.dmaCh c).head) = some y → y.2.2.1 ≠ 1 → (s.dmaCh c).desc.ctrl.testBit 1 = false →
  (s.dmaCh c).tail = ((s.dmaCh c).head + 1) % (s.dmaCh c).size →
  ∃ t, exec (.dmaDescriptorComplete ⟨c, by omega⟩ 0 a addr) s = .next t ∧ (t.dmaCh c).head = (s.dmaCh c).tail ∧ (t.dmaCh c).busy = false ∧
    t.out = .dma c (s.dmaCh c).head y.2.2.1 (s.dmaCh c).desc.len (s.dmaCh c).desc.aux y.2.2.2 0 [] :: s.out ∧ s.counted t Dma.DESCRIPTORS 1 c ∧
    s.sameBut t [Dma.DESCRIPTORS.addr c 0 0]) ∧
  (∀ (s : State) (q : Nat) (rest : List Nat) (e : EvRec) (a addr : Nat), s.power.coreOn = true → 0 < s.dmaFree 11 → s.host.evts = q :: rest → s.log.find? (q % 65536) = some e →
  (s.dmaCh 11).desc.bad 11 = false → (e.bytes false).length ≤ (s.dmaCh 11).desc.len → (s.dmaCh 11).desc.ctrl.testBit 1 = false →
  ∃ t, exec (.dmaDescriptorComplete 11 0 a addr) s = .next t ∧ t.host.evts = rest ∧ s.counted t Dma.DESCRIPTORS 1 11 ∧
    t.out = .dma 11 (s.dmaCh 11).head 0 (e.bytes false).length 0 0 e.time (e.bytes false) :: s.out ∧ s.sameBut t [Dma.DESCRIPTORS.addr 11 0 0]) ∧
  (∀ (s : State) (c : Fin 16) (mask : Nat), s.power.coreOn = true →
  ∃ t, exec (.irqCauseClear ⟨c, by omega⟩ mask) s = .next t ∧ t.dmaCh c = { s.dmaCh c with irq := (s.dmaCh c).irq - Nat.land (s.dmaCh c).irq mask } ∧ t.od = s.od) ∧
  (∀ (s : State) (k : Fin 3) (mask : Nat), s.power.coreOn = true →
  ∃ t, exec (.irqCauseClear ⟨112 + k, by omega⟩ mask) s = .next t ∧ t.host.cause = s.host.cause - Nat.land s.host.cause mask ∧ t.od = s.od)

/-- Mailbox slots from post to reply. A post of a permitted sender takes the lowest free slot and counts in POSTS, one without a free slot counts in MBX_FULL and reads 0xFF, and one of another requester counts in MBX_REFUSED and reads 0xFE; the receiver takes the oldest, releases it or answers it; the sender reads and frees its reply; a window that ends makes a timed-out reply. Each of these is shown to answer a next state with its own effect, on conditions on the state and its operands alone: mbxSend, mbxRecv, mbxDoneRelease, mbxDoneReply, mbxReply, mbxFree, mbxFlushedRead, mbxTimeout. -/
def Obligations.Mailboxes : Prop :=
  (∀ (s : State) (m : Fin 64) (w k : Nat), s.power.coreOn = true → (∀ j : Fin 16, s.mbxExpired m (s.slot m j) = false) → s.mbxPermits m w = true → s.mbxHidden m w = false →
  bits (ofLe ((s.view m w).bytes.take 8)) 37 32 ≤ 56 → s.freeIn m = some k →
  ∃ t, exec (.mbxSend m [w]) s = .next t ∧ t.out.head? = some (.read w k) ∧ s.counted t Mbx.POSTS 1 m ∧ (t.slot m k).st = 1 ∧ (t.slot m k).sender = w ∧ (t.slot m k).inc = s.incOf w ∧
    (t.slot m k).length = bits (ofLe ((s.view m w).bytes.take 8)) 37 32 ∧ (t.slot m k).data = (s.view m w).bytes.drop 8 ∧ t.arb.getD (300 + m) 0 = w + 1 ∧
    s.sameBut t [Mbx.POSTS.addr m 0 0]) ∧
  (∀ (s : State) (m : Fin 64) (w : Nat), s.power.coreOn = true → (∀ j : Fin 16, s.mbxExpired m (s.slot m j) = false) → s.mbxPermits m w = false → s.mbxHidden m w = false →
  ∃ t, exec (.mbxSend m [w]) s = .next t ∧ t.out = .read w 0xFE :: s.out ∧ s.counted t Mbx.MBX_REFUSED 1 m ∧ t.host = s.host ∧ s.sameBut t [Mbx.MBX_REFUSED.addr m 0 0]) ∧
  (∀ (s : State) (m : Fin 64) (w : Nat), s.power.coreOn = true → (∀ j : Fin 16, s.mbxExpired m (s.slot m j) = false) → s.mbxPermits m w = true → s.mbxHidden m w = false →
  bits (ofLe ((s.view m w).bytes.take 8)) 37 32 ≤ 56 → s.freeIn m = none →
  ∃ t, exec (.mbxSend m [w]) s = .next t ∧ t.out = .read w 0xFF :: s.out ∧ s.counted t Mbx.MBX_FULL 1 m ∧ t.host = s.host ∧ s.sameBut t [Mbx.MBX_FULL.addr m 0 0]) ∧
  (∀ (s : State) (m : Fin 64) (w : Nat) (c : Instr), s.power.coreOn = true → (∀ j : Fin 16, s.mbxExpired m (s.slot m j) = false) → s.mbxHidden m w = true →
  c ∈ [.mbxSend m [w], .mbxRecv m w, .mbxReply m w, .mbxFlushedRead m w] → exec c s = .next (s.emit (.read w 0))) ∧
  (∀ (s : State) (m : Fin 64) (k : Nat), s.power.coreOn = true → (∀ j : Fin 16, s.mbxExpired m (s.slot m j) = false) → s.mbxOldest m (fun x => x.st == 1) = some k →
  ∃ t, exec (.mbxRecv m (s.mbxReceiver m)) s = .next t ∧ t.out = .read (s.mbxReceiver m) k :: s.out ∧ t.slot m k = { s.slot m k with st := 2 } ∧ t.od = s.od) ∧
  (∀ (s : State) (m : Fin 64) (w : Nat), s.power.coreOn = true → (∀ j : Fin 16, s.mbxExpired m (s.slot m j) = false) → s.mbxHidden m w = false → w ≠ s.mbxReceiver m →
  exec (.mbxRecv m w) s = .next (s.emit (.read w 0xFE))) ∧
  (∀ (s : State) (m : Fin 64) (k : Fin 16), s.power.coreOn = true → (∀ j : Fin 16, s.mbxExpired m (s.slot m j) = false) → (s.slot m k).st = 2 → (s.slot m k).want = false →
  ∃ t, exec (.mbxDoneRelease m k (s.mbxReceiver m) []) s = .next t ∧ (t.slot m k).st = 0 ∧ t.od = s.od) ∧
  (∀ (s : State) (m : Fin 64) (k : Fin 16) (w : Nat), s.power.coreOn = true → (∀ j : Fin 16, s.mbxExpired m (s.slot m j) = false) → s.mbxHidden m w = false →
  w ≠ s.mbxReceiver m ∨ ((s.slot m k).st ≠ 2 ∧ (s.mbxCh m).late.contains k = false) ∨ ((s.slot m k).st = 2 ∧ (s.slot m k).want = true) →
  ∃ t, exec (.mbxDoneRelease m k w []) s = .next t ∧ s.counted t Mbx.MBX_BAD_OP 1 m ∧ t.slot m k = s.slot m k ∧ t.out = s.out ∧ s.sameBut t [Mbx.MBX_BAD_OP.addr m 0 0]) ∧
  (∀ (s : State) (m : Fin 64) (k : Fin 16), s.power.coreOn = true → (∀ j : Fin 16, s.mbxExpired m (s.slot m j) = false) → (s.slot m k).st ≠ 2 → (s.mbxCh m).late.contains k = true →
  ∃ t, exec (.mbxDoneRelease m k (s.mbxReceiver m) []) s = .next t ∧ s.counted t Mbx.MBX_LATE_DONE 1 m ∧ t.slot m k = s.slot m k ∧ t.out = s.out ∧
    s.sameBut t [Mbx.MBX_LATE_DONE.addr m 0 0]) ∧
  (∀ (s : State) (m : Fin 64) (k : Fin 16) (e : Nat × MbxOp), s.power.coreOn = true → (∀ j : Fin 16, s.mbxExpired m (s.slot m j) = false) → (s.slot m k).st = 2 → (s.slot m k).want = false →
  s.mbxHidden m e.1 = false → e.1 ≠ s.mbxReceiver m → (s.slot m k).sender ≠ e.1 →
  ∃ t, exec (.mbxDoneRelease m k (s.mbxReceiver m) [e]) s = .next t ∧ (t.slot m k).st = 0 ∧ s.counted t Mbx.MBX_BAD_OP 1 m ∧ s.sameBut t [Mbx.MBX_BAD_OP.addr m 0 0]) ∧
  (∀ (s : State) (m : Fin 64) (k : Fin 16), s.power.coreOn = true → (∀ j : Fin 16, s.mbxExpired m (s.slot m j) = false) → (s.slot m k).st = 2 → s.stale (s.slot m k) = false →
  bits (ofLe ((s.view m (s.mbxReceiver m)).bytes.take 8)) 37 32 ≤ 56 →
  ∃ t, exec (.mbxDoneReply m k (s.mbxReceiver m) []) s = .next t ∧ (t.slot m k).st = 3 ∧ (t.slot m k).kind = 1 ∧ (t.slot m k).replier = s.mbxReceiver m ∧
    (t.slot m k).sender = (s.slot m k).sender ∧ (t.view m (s.slot m k).sender).cause.testBit 1 = true ∧ t.od = s.od) ∧
  (∀ (s : State) (m : Fin 64) (k : Fin 16) (w : Nat) (c : Instr), s.power.coreOn = true → (∀ j : Fin 16, s.mbxExpired m (s.slot m j) = false) → s.mbxHidden m w = true →
  c ∈ [.mbxDoneRelease m k w [], .mbxDoneReply m k w [], .mbxFree m k w []] →
  ∃ t, exec c s = .next t ∧ s.counted t Hst.HOST_BAD_ACCESS 1 ∧ t.slot m k = s.slot m k ∧ t.host.cause.testBit 1 = true ∧ s.sameBut t [Hst.HOST_BAD_ACCESS.addr 0 0 0]) ∧
  (∀ (s : State) (m : Fin 64) (w k : Nat), s.power.coreOn = true → (∀ j : Fin 16, s.mbxExpired m (s.slot m j) = false) → s.mbxHidden m w = false →
  s.mbxOldest m (fun x => x.st == 3 && x.sender == w && x.inc == s.incOf w) = some k → exec (.mbxReply m w) s = .next (s.emit (.read w k))) ∧
  (∀ (s : State) (m : Fin 64) (k : Fin 16) (w : Nat), s.power.coreOn = true → (∀ j : Fin 16, s.mbxExpired m (s.slot m j) = false) → s.mbxHidden m w = false →
  ∃ t, exec (.mbxFree m k w []) s = .next t ∧ ((s.slot m k).st = 3 ∧ (s.slot m k).sender = w ∧ (s.slot m k).inc = s.incOf w → (t.slot m k).st = 0 ∧ t.od = s.od) ∧
    ((s.slot m k).st ≠ 3 ∨ (s.slot m k).sender ≠ w ∨ (s.slot m k).inc ≠ s.incOf w → t.slot m k = s.slot m k ∧ s.counted t Mbx.MBX_BAD_OP 1 m ∧ s.sameBut t [Mbx.MBX_BAD_OP.addr m 0 0])) ∧
  (∀ (s : State) (m : Fin 64) (w : Nat), s.power.coreOn = true → s.mbxHidden m w = false →
  ∃ t, exec (.mbxFlushedRead m w) s = .next t ∧ t.out = .read w (s.view m w).flushed :: s.out ∧ t.view m w = { s.view m w with flushed := 0 } ∧ t.od = s.od) ∧
  (∀ (s : State) (m : Fin 64) (k : Fin 16), s.power.coreOn = true → s.mbxExpired m (s.slot m k) = true → s.stale (s.slot m k) = false →
  ∃ t, exec (.mbxTimeout m k) s = .next t ∧ (t.slot m k).st = 3 ∧ (t.slot m k).kind = 2 ∧ (t.slot m k).length = 0 ∧ (t.view m (s.slot m k).sender).cause.testBit 4 = true ∧
    s.counted t Mbx.MBX_TIMEOUTS 1 m ∧ s.sameBut t [Mbx.MBX_TIMEOUTS.addr m 0 0])

/-- Doorbells and hardware locks. A ring ORs its bits into the pending word and records the ringer; a read by the target clears the word, another's does not; a free lock goes to its reader with 0 and LOCK_GRANTS, a held one answers its owner; a release by the owner frees it, another's counts with its event and leaves it; LCK_FORCE is the host's alone. Each of these is shown to answer a next state with its own effect, on conditions on the state and its operands alone: dblRing, dblPendRead, lckAcquire, lckRelease, lckForce. -/
def Obligations.DoorbellsAndLocks : Prop :=
  (∀ (s : State) (d : Fin 256) (w v : Nat), s.power.coreOn = true → v ≠ 0 →
  ∃ t, exec (.dblRing d [(w, v)]) s = .next t ∧ t.host.dbl.getD d (0, 0) = (Nat.lor (s.host.dbl.getD d (0, 0)).1 (v % 2 ^ 32), w) ∧ t.arb.getD (400 + d) 0 = w + 1 ∧ t.od = s.od) ∧
  (∀ (s : State) (d : Fin 256) (w : Nat), s.power.coreOn = true → (s.dblTarget d = w → ∀ x, s.host.dblClk.find? d = some x → x.1 ≠ s.now) →
  ∃ t, exec (.dblPendRead d w) s = .next t ∧ t.out = .read w (s.host.dbl.getD d (0, 0)).1 :: s.out ∧
    (t.host.dbl.getD d (0, 0)).1 = (if s.dblTarget d = w then 0 else (s.host.dbl.getD d (0, 0)).1) ∧ t.od = s.od) ∧
  (∀ (s : State) (d : Fin 256) (old r l : Nat), s.power.coreOn = true → s.host.dblClk.find? d = some (s.now, old, r) → s.host.dbl.find? d = some (Nat.lor old r, l) →
  ∃ t, exec (.dblPendRead d (s.dblTarget d)) s = .next t ∧ t.out = .read (s.dblTarget d) old :: s.out ∧ t.host.dbl.getD d (0, 0) = (r, l) ∧ t.od = s.od) ∧
  (∀ (s : State) (n : Fin 128) (w : Nat), s.power.coreOn = true → (s.lock n).1 = 0 → w ≠ 0 →
  ∃ t, exec (.lckAcquire n [w] []) s = .next t ∧ t.lock n = (w, s.incOf w) ∧ t.out = .read w 0 :: s.out ∧ s.counted t Lck.LOCK_GRANTS 1 ∧ t.arb.getD (700 + n) 0 = w + 1 ∧
    s.sameBut t [Lck.LOCK_GRANTS.addr 0 0 0]) ∧
  (∀ (s : State) (n : Fin 128) (w : Nat), s.power.coreOn = true → (s.lock n).1 ≠ 0 →
  ∃ t, exec (.lckAcquire n [w] []) s = .next t ∧ t.out = .read w ((s.lock n).1 + (s.lock n).2 * 4096) :: s.out ∧ t.lock n = s.lock n ∧ t.od = s.od) ∧
  (∀ (s : State) (n : Fin 128) (v w : Nat), s.power.coreOn = true → (s.lock n).1 = 0 → s.arb.getD (700 + n) 0 = 0 → 0 < v → v < w →
  ∃ t, exec (.lckAcquire n [w, v] []) s = .next t ∧ t.lock n = (v, s.incOf v) ∧ t.out = .read w (v + s.incOf v * 4096) :: .read v 0 :: s.out ∧ s.counted t Lck.LOCK_GRANTS 1 ∧
    s.counted t Lck.LOCK_CONTENDED 1) ∧
  (∀ (s : State) (n : Fin 128) (w : Nat), s.power.coreOn = true → (s.lock n).1 ≠ 0 → w ≠ 0 →
  ∃ t, exec (.lckAcquire n [w] [(s.lock n).1]) s = .next t ∧ t.lock n = (w, s.incOf w) ∧ t.out = .read w 0 :: s.out ∧ s.counted t Lck.LOCK_GRANTS 1) ∧
  (∀ (s : State) (n : Fin 128), s.power.coreOn = true → (s.lock n).1 ≠ 0 →
  ∃ t, exec (.lckRelease n (s.lock n).1) s = .next t ∧ t.lock n = (0, 0) ∧ t.od = s.od ∧ t.out = s.out) ∧
  (∀ (s : State) (n : Fin 128) (w : Nat), s.power.coreOn = true → (s.lock n).1 ≠ w ∨ (s.lock n).1 = 0 →
  ∃ t, exec (.lckRelease n w) s = .next t ∧ t.lock n = s.lock n ∧ s.counted t Lck.LOCK_BAD_RELEASE 1 ∧ t.host.cause.testBit 0 = true ∧
    s.sameBut t (Lck.LOCK_BAD_RELEASE.addr 0 0 0 :: eventAddrs) ∧ s.raised t 0x9001 w [a16 w, a8 n, a16 (s.lock n).1]) ∧
  (∀ (s : State) (v : Nat), s.power.coreOn = true → (s.lock (v % 128)).1 ≠ 0 →
  ∃ t, exec (.lckForce 1 v) s = .next t ∧ t.lock (v % 128) = (0, 0) ∧ s.counted t Lck.LOCK_FORCED 1 ∧ s.raised t 0x9003 1 [a8 (v % 128 : Nat), a16 (s.lock (v % 128)).1]) ∧
  (∀ (s : State) (w v : Nat), s.power.coreOn = true → w ≠ 1 →
  ∃ t, exec (.lckForce w v) s = .next t ∧ s.counted t Hst.HOST_BAD_ACCESS 1 ∧ t.lock (v % 128) = s.lock (v % 128) ∧ s.sameBut t [Hst.HOST_BAD_ACCESS.addr 0 0 0])

/-- Writes through the BARs. A write through BAR2 that the dictionary is not ready for is refused as rcState with its event and its cause bit, one to a reserved range counts once in TBW_BAD_ADDR, and a whole indirection entry under the host's lease is written and counts in TBW_WRITES; a BAR0 write of another size than 4 or 8, or not aligned to its size, is discarded and counted, one of IRQ_MAP is stored, and BAR4 takes nothing without a secured session. Each of these is shown to answer a next state with its own effect, on conditions on the state and its operands alone: tbwWrite, barRegisterWrite. -/
def Obligations.HostWindows : Prop :=
  (∀ (s : State) (k : Fin 8192) (b0 b1 b2 b3 : Fin 256), s.power.coreOn = true → s.dict.ready = true → s.nat Pwr.POWER_STATE = 1 → s.nat Sec.LIFECYCLE < 3 → s.nat Dic.OWNER = 0 →
  s.now < s.nat Dic.LEASE_END → b2 < 16 → b3.val = 0 →
  ∃ t, exec (.tbwWrite (0x02200000 + 4 * k) [b0, b1, b2, b3]) s = .next t ∧ t.rnat IndEnt.ENTRY k = b0.val + 256 * b1.val + 65536 * b2.val ∧ s.counted t Tbw.TBW_WRITES 1 ∧ t.get Tbw.TBW_REFUSED = s.get Tbw.TBW_REFUSED) ∧
  (∀ (s : State) (data : List Nat) (a : Nat), s.power.coreOn = true → s.nat Dic.OWNER = 255 → 0x02218000 ≤ a → a + data.length ≤ 0x02400000 → data ≠ [] →
  exec (.tbwWrite a data) s = .next (s.bump Tbw.TBW_BAD_ADDR)) ∧
  (∀ (s : State) (k : Nat), s.power.coreOn = true → s.nat Dic.OWNER = 255 → s.dict.ready = false → k < 0x10000 → s.host.tbwMs ≠ s.now / 1000000 + 1 →
  ∃ t, exec (.tbwWrite (0x02000000 + 32 * k) [1]) s = .next t ∧ s.counted t Tbw.TBW_REFUSED 1 ∧ t.host.cause.testBit 1 = true ∧ t.host.tbwMs = s.now / 1000000 + 1 ∧
    s.sameBut t (Tbw.TBW_REFUSED.addr 0 0 0 :: eventAddrs) ∧ s.raised t 0x9004 1 [a32 (0x02000000 + 32 * k : Nat), a32 0x06060001]) ∧
  (∀ (s : State) (w i v : Nat) (ds : List Desc), s.power.coreOn = true → i < 115 → v < 2 ^ 32 →
  ∃ t, exec (.barRegisterWrite false w (0x1000 + 4 * i) 4 v ds) s = .next t ∧ t.host.irqMap.getD i 0 = v % 256 + v / 2 ^ 31 * 2 ^ 31 ∧ t.od = s.od ∧ t.out = s.out) ∧
  (∀ (s : State) (w off size v : Nat) (ds : List Desc), s.power.coreOn = true → (size ≠ 4 ∧ size ≠ 8) ∨ off % size ≠ 0 →
  ∃ t, exec (.barRegisterWrite false w off size v ds) s = .next t ∧ s.counted t Hst.HOST_BAD_ACCESS 1 ∧ t.host.cause.testBit 1 = true ∧ s.sameBut t [Hst.HOST_BAD_ACCESS.addr 0 0 0]) ∧
  (∀ (s : State) (w off size v : Nat) (ds : List Desc), s.power.coreOn = true → s.flag Hst.SEC_SESSION = false → exec (.barRegisterWrite true w off size v ds) s = .next s)

/-- Requests of the host at the dictionary. A READ snapshots and returns the value; a WRITE of an owner's plain object stores it and answers 0, one without the lease or to a read-only object stores nothing; NEXT returns the next record; DESCRIBE the class of an object; a malformed request answers 0x0604_0001; RWS objects take secure requests alone; before the dictionary is ready nothing answers. Each of these is shown to answer a next state with its own effect, on conditions on the state and its operands alone: dictRead, secureDictRead, dictWrite, secureDictWrite, dictNext, secureDictNext, dictDescribe, secureDictDescribe. -/
def Obligations.DictionaryRequests : Prop :=
  (∀ (s u : State) (q : DictReq) (c : Instr) (o : Obj) (i j : Nat), s.power.coreOn = true → s.dict.ready = true → s.nat Dic.OWNER = 255 → s.flag Hst.SEC_SESSION = true → q.want = true →
  u = s.bump Dic.REQUESTS → c ∈ [.dictRead q none, .secureDictRead false q none] → malformed 0 { q with op := 1 } = false → q.index < 0xF000 → q.offset = 0 →
  u.names { q with op := 1 } = some (o, i, j) → u.recordOk 0 o { q with op := 1 } = true → (u.derived 0 o i j (recOf o q)).isNone = true → measured o = false → u.counting o i = false →
  ∃ t, exec c s = .next t ∧ t.od = u.od ∧ (t.sess 0).snap = some (q.index, q.sub, q.rcd, encodeVal o.ty false (u.od.get o i j (recOf o q))) ∧
    t.out = .reply { replyTo 0 { q with op := 1 } with total := (encodeVal o.ty false (u.od.get o i j (recOf o q))).length, data := (encodeVal o.ty false (u.od.get o i j (recOf o q))).take (if q.length = 0 then 40 else q.length) } :: s.out) ∧
  (∀ (s : State) (a b : Fin 256), s.power.coreOn = true → s.dict.ready = true → s.nat Dic.OWNER = 0 → s.now < s.nat Dic.LEASE_END → s.nat Pwr.POWER_STATE = 1 → s.nat Sec.LIFECYCLE = 1 → s.nat Twin.ROLE ≠ 2 → s.nat Twin.STATE ≠ 5 →
  (s.sess 0).aborted = false → (s.sess 0).asm = none → (s.sess 0).txn = false → b < 8 →
  ∃ t, exec (.dictWrite { index := 0x7830, sub := 1, length := 2, data := [a, b] }) s = .next t ∧ t.nat Join.JOIN_CHANNEL = a.val + 256 * b.val ∧ s.counted t Dic.REQUESTS 1 ∧
    t.out = .reply (replyTo 0 { op := 2, index := 0x7830, sub := 1, length := 2, data := [a, b] }) :: s.out ∧
    s.sameBut t [Join.JOIN_CHANNEL.addr 0 0 0, Dic.REQUESTS.addr 0 0 0]) ∧
  (∀ (s : State) (q : DictReq) (o : Obj) (i j k : Nat), s.power.coreOn = true → s.dict.ready = true → s.nat Dic.OWNER = 255 → q.want = true → (s.sess 0).aborted = false → (s.sess 0).asm = none →
  malformed 0 { q with op := 2 } = false → q.offset = 0 → q.flags = 0 → s.names { q with op := 2 } = some (o, i, j) → s.recordOk 0 o { q with op := 2 } = true →
  k = (if accessCode o i false ≠ 0 then accessCode o i false else if s.lifeRefuses o (decodeVal o.ty false (q.data.take q.length)) then 0x06020003 else 0x06050002) → noLeaseNeeded o = false →
  ∃ t, exec (.dictWrite q) s = .next t ∧ s.counted t Dic.REQUESTS 1 ∧ t.out = .reply { replyTo 0 { q with op := 2 } with code := k } :: s.out ∧ s.sameBut t [Dic.REQUESTS.addr 0 0 0]) ∧
  (∀ (s : State) (key : List (Fin 256)), s.power.coreOn = true → s.dict.ready = true → s.nat Dic.OWNER = 0 → s.now < s.nat Dic.LEASE_END → s.nat Pwr.POWER_STATE = 1 → s.nat Sec.LIFECYCLE = 1 → s.nat Twin.ROLE ≠ 2 → s.nat Twin.STATE ≠ 5 →
  (s.sess 0).aborted = false → (s.sess 0).asm = none → (s.sess 0).txn = false → key.length = 32 → s.flag Hst.SEC_SESSION = true →
  ∃ t, exec (.secureDictWrite false { index := 0x1050, sub := 7, length := 32, data := key.map (fun x => x.val) }) s = .next t ∧ t.nat Dic.MGMT_KEY = ofLe (key.map (fun x => x.val)) ∧
    s.counted t Dic.REQUESTS 1) ∧
  (∀ (s : State) (q : DictReq) (c : Instr), s.power.coreOn = true → s.dict.ready = true → s.nat Dic.OWNER = 255 → s.flag Hst.SEC_SESSION = true → q.want = true → s.nat Pwr.POWER_STATE = 1 →
  c ∈ [.dictNext q, .secureDictNext false q] → malformed 0 { q with op := 3 } = false → q.index = 0x4200 → q.sub = 8 →
  ∃ t, exec c s = .next t ∧ s.counted t Dic.REQUESTS 1 ∧ s.sameBut t [Dic.REQUESTS.addr 0 0 0] ∧
    t.out = .reply { replyTo 0 { q with op := 3 } with rcd := (lowestFrom q.rcd (s.records 0x4200)).getD 0xFFFFFFFF } :: s.out) ∧
  (∀ (s : State) (q : DictReq) (c : Instr), s.power.coreOn = true → s.dict.ready = true → s.nat Dic.OWNER = 255 → s.flag Hst.SEC_SESSION = true → q.want = true → s.nat Pwr.POWER_STATE = 1 →
  c ∈ [.dictDescribe q, .secureDictDescribe false q] → malformed 0 { q with op := 4 } = false → q.index = 0x7830 → q.sub = 4 → q.rcd = 0xFFFFFFFF →
  ∃ t, exec c s = .next t ∧ s.counted t Dic.REQUESTS 1 ∧ s.sameBut t [Dic.REQUESTS.addr 0 0 0] ∧
    t.out = .reply { replyTo 0 { q with op := 4 } with total := 12, data := [4, 3, 4, 0, 0, 0, 0, 0, 0, 0, 0, 0] } :: s.out) ∧
  (∀ (s : State) (q : DictReq) (op : Nat) (c : Instr), s.power.coreOn = true → s.dict.ready = true → s.nat Dic.OWNER = 255 → q.want = true →
  (op, c) ∈ [(1, .dictRead q none), (2, .dictWrite q), (3, .dictNext q), (4, .dictDescribe q)] → malformed 0 { q with op := op } = true →
  ∃ t, exec c s = .next t ∧ s.counted t Dic.REQUESTS 1 ∧ t.out = .reply { replyTo 0 { q with op := op } with code := 0x06040001 } :: s.out ∧ s.sameBut t [Dic.REQUESTS.addr 0 0 0]) ∧
  (∀ (s : State) (q : DictReq) (c : Instr), s.power.coreOn = true → s.dict.ready = false → c ∈ [.dictRead q none, .dictWrite q, .dictNext q, .dictDescribe q] → exec c s = .next s)

/-- The lease, transactions and factory restore. A free lease goes to its taker for LEASE_PERIOD_S with its event and a held one is refused to others; its owner renews and releases it, and it lapses at LEASE_END with its event; a transaction of the owner opens, waits for the next boundary at its commit, applies all members or none, and ends at its abort; FACTORY_RESTORE leaves the current values. Each of these is shown to answer a next state with its own effect, on conditions on the state and its operands alone: leaseTake, leaseRenew, leaseRelease, dictLeaseLapsed, txnBegin, txnCommit, txnAbort, txnCommitApply, factoryRestore. -/
def Obligations.LeaseAndTransactions : Prop :=
  (∀ (s : State), s.power.coreOn = true → s.dict.ready = true → s.nat Dic.OWNER = 255 → (s.sess 0).aborted = false → (s.sess 0).asm = none →
  ∃ t, exec (.leaseTake 0) s = .next t ∧ t.nat Dic.OWNER = 0 ∧ t.get Dic.LEASE_END = Dic.LEASE_END.ty.norm (s.now + s.nat Dic.LEASE_PERIOD_S * 1000000000 : Nat) ∧
    s.counted t Dic.LEASE_TAKES 1 ∧ s.counted t Dic.REQUESTS 1 ∧ s.raised t 0x1001 idDict [a8 0, aTime (t.get Dic.LEASE_END)]) ∧
  (∀ (s : State), s.power.coreOn = true → s.dict.ready = true → s.nat Dic.OWNER ≠ 255 → s.nat Dic.OWNER ≠ 0 → s.now < s.nat Dic.LEASE_END → (s.sess 0).aborted = false → (s.sess 0).asm = none →
  ∃ t, exec (.leaseTake 0) s = .next t ∧ s.counted t Dic.REQUESTS 1 ∧ s.sameBut t [Dic.REQUESTS.addr 0 0 0] ∧
    (t.out.head?.map (fun o => match o with | .reply r => r.code | _ => 0)) = some 0x06050002) ∧
  (∀ (s : State), s.power.coreOn = true → s.dict.ready = true → s.nat Dic.OWNER = 0 → s.now < s.nat Dic.LEASE_END → (s.sess 0).aborted = false → (s.sess 0).asm = none →
  ∃ t, exec (.leaseRenew 0) s = .next t ∧ t.get Dic.LEASE_END = Dic.LEASE_END.ty.norm (s.now + s.nat Dic.LEASE_PERIOD_S * 1000000000 : Nat) ∧ s.counted t Dic.REQUESTS 1 ∧
    s.sameBut t [Dic.LEASE_END.addr 0 0 0, Dic.REQUESTS.addr 0 0 0]) ∧
  (∀ (s : State), s.power.coreOn = true → s.dict.ready = true → s.nat Dic.OWNER = 0 → s.now < s.nat Dic.LEASE_END → (s.sess 0).aborted = false → (s.sess 0).asm = none →
  ∃ t, exec (.leaseRelease 0) s = .next t ∧ t.nat Dic.OWNER = 255 ∧ (t.sess 0).txn = false ∧ t.get Dic.LEASE_LAPSES = s.get Dic.LEASE_LAPSES ∧ s.counted t Dic.REQUESTS 1) ∧
  (∀ (s : State), s.power.coreOn = true → s.dict.ready = true → s.nat Dic.OWNER ≠ 255 → s.nat Dic.LEASE_END ≤ s.now → s.dict.commits = [] →
  ∃ t, exec .dictLeaseLapsed s = .next t ∧ t.nat Dic.OWNER = 255 ∧ s.counted t Dic.LEASE_LAPSES 1 ∧ (t.sess (s.nat Dic.OWNER)).txn = false ∧ s.raised t 0x1002 idDict [a8 (s.nat Dic.OWNER)]) ∧
  (∀ (s : State), s.power.coreOn = true → s.dict.ready = true → s.nat Dic.OWNER = 0 → s.now < s.nat Dic.LEASE_END → s.nat Pwr.POWER_STATE = 1 → s.nat Sec.LIFECYCLE = 1 → (s.sess 0).aborted = false → (s.sess 0).asm = none →
  (s.sess 0).txn = false → s.dict.commits = [] →
  ∃ t, exec (.txnBegin 0) s = .next t ∧ (t.sess 0).txn = true ∧ (t.sess 0).members = [] ∧ s.counted t Dic.REQUESTS 1 ∧ s.sameBut t [Dic.REQUESTS.addr 0 0 0]) ∧
  (∀ (s : State), s.power.coreOn = true → s.dict.ready = true → s.nat Dic.OWNER = 0 → s.now < s.nat Dic.LEASE_END → s.nat Pwr.POWER_STATE = 1 → s.nat Sec.LIFECYCLE = 1 → (s.sess 0).aborted = false → (s.sess 0).asm = none →
  (s.sess 0).txn = true →
  ∃ t, exec (.txnCommit 0) s = .next t ∧ (t.sess 0).txn = false ∧ t.out = s.out ∧ s.sameBut t [Dic.REQUESTS.addr 0 0 0] ∧
    t.dict.commits.map (fun c => (c.frame, c.members)) = s.dict.commits.map (fun c => (c.frame, c.members)) ++ [(s.frame + 1, (s.sess 0).members)]) ∧
  (∀ (s : State), s.power.coreOn = true → s.dict.ready = true → s.nat Dic.OWNER = 0 → s.now < s.nat Dic.LEASE_END → s.nat Pwr.POWER_STATE = 1 → s.nat Sec.LIFECYCLE = 1 → (s.sess 0).aborted = false → (s.sess 0).asm = none →
  (s.sess 0).txn = true →
  ∃ t, exec (.txnAbort 0) s = .next t ∧ (t.sess 0).txn = false ∧ (t.sess 0).members = [] ∧ (t.sess 0).aborted = false ∧ s.sameBut t [Dic.REQUESTS.addr 0 0 0]) ∧
  (∀ (s : State) (c : Commit), s.power.coreOn = true → s.dueCommit = some c → c.reply.session = 0 → c.reply.want = true → s.nat Twin.STATE ≠ 5 → c.members ≠ [] →
  ({ s with dict := { s.dict with commits := s.dict.commits.erase c } }.writeAll c.members).1 ≠ 0 →
  ∃ t, exec .txnCommitApply s = .next t ∧ t.od = s.od ∧ t.tm = s.tm ∧ t.dict.commits = s.dict.commits.erase c ∧
    (t.sess 0).failCode = ({ s with dict := { s.dict with commits := s.dict.commits.erase c } }.writeAll c.members).1) ∧
  (∀ (s : State) (c : Commit) (a b : Fin 2048), s.power.coreOn = true → s.dueCommit = some c → c.reply.session = 0 → c.reply.want = true → s.nat Twin.STATE ≠ 5 → s.nat Twin.ROLE ≠ 2 →
  c.members = [{ index := 0x7830, sub := 1, value := a }, { index := 0x7830, sub := 4, value := b + 1000 }] →
  ∃ t, exec .txnCommitApply s = .next t ∧ t.nat Join.JOIN_CHANNEL = a ∧ t.nat Join.JOIN_KBPS = b + 1000 ∧ t.dict.commits = s.dict.commits.erase c ∧
    t.out = .reply { c.reply with code := 0 } :: s.out ∧ s.sameBut t [Join.JOIN_CHANNEL.addr 0 0 0, Join.JOIN_KBPS.addr 0 0 0]) ∧
  (∀ (s : State), s.power.coreOn = true → s.dict.ready = true → s.nat Dic.OWNER = 0 → s.now < s.nat Dic.LEASE_END → s.nat Pwr.POWER_STATE = 1 → s.nat Sec.LIFECYCLE = 1 → (s.sess 0).aborted = false → (s.sess 0).asm = none →
  (s.sess 0).txn = false →
  ∃ t, exec (.factoryRestore 0) s = .next t ∧ t.journal.image = [] ∧ t.journal.factory = true ∧ t.jpend = [] ∧ t.get Dic.JOURNAL_PENDING = 0 ∧
    s.sameBut t [Dic.JOURNAL_PENDING.addr 0 0 0, Dic.REQUESTS.addr 0 0 0])

/-- Writes of ONU, context and XGEM records at their boundary. At its boundary the oldest queued write is made, its value stands in the record and its session has the answer 0; a DELETE removes a record that is out of use and is refused with 0x0606_0001 while the record is in use. Each of these is shown to answer a next state with its own effect, on conditions on the state and its operands alone: contextWriteApply, dictQueuedWriteApply, contextDelete, xgemWriteApply, xgemDelete, onuWriteApply, onuDelete. -/
def Obligations.QueuedWrites : Prop :=
  (∀ (s : State) (r : Nat) (v : Fin 8) (w : Wr) (c : Instr), s.power.coreOn = true → s.dict.commits = [] → s.dict.queue = [w] → w.frame ≤ s.frame → c ∈ [.contextWriteApply, .dictQueuedWriteApply] → s.flag Twin.TWIN_ENABLE = false →
  w.index = 0x5200 → w.sub = 10 → w.rcd = r → w.value = (v.val : Int) → w.reply.session = 0 → w.reply.want = true → s.hasRecord 0x5200 r = true →
  ∃ t, exec c s = .next t ∧ t.rget Ctx.PRIORITY r = v.val ∧ t.dict.queue = [] ∧ t.out = .reply { w.reply with code := 0 } :: s.out ∧
    s.sameBut t [Ctx.PRIORITY.addr 0 0 r, Dic.JOURNAL_PENDING.addr 0 0 0]) ∧
  (∀ (s : State) (r : Nat) (w : Wr) (rest : List Wr), s.power.coreOn = true → s.dict.commits = [] → s.dict.queue = w :: rest → w.frame ≤ s.frame → s.flag Twin.TWIN_ENABLE = false →
  w.index = 0x5200 → w.sub = 255 → w.rcd = r → w.reply.session = 0 → w.reply.want = true → s.hasRecord 0x5200 r = true →
  ∃ t, exec .contextDelete s = .next t ∧ t.hasRecord 0x5200 r = s.rflag Ctx.ADMIN r ∧ t.dict.queue = rest ∧
    t.out = .reply { w.reply with code := if s.rflag Ctx.ADMIN r then 0x06060001 else 0 } :: s.out) ∧
  (∀ (s : State) (r : Nat) (w : Wr) (rest : List Wr), s.power.coreOn = true → s.dict.commits = [] → s.dict.queue = w :: rest → w.frame ≤ s.frame → s.flag Twin.TWIN_ENABLE = false →
  w.index = 0xA400 → w.sub = 5 → w.rcd = r → w.value = 1 → w.reply.session = 0 → w.reply.want = true → s.hasRecord 0xA400 r = true → s.rnat Xg.ENCRYPT r = 0 → s.rnat Xg.ONU_ID r < 1023 → s.rflag Xg.OMCC r = false →
  ∃ t, exec .xgemWriteApply s = .next t ∧ t.rget Xg.ADMIN r = 1 ∧ t.dict.queue = rest ∧ t.out = .reply { w.reply with code := 0 } :: s.out ∧
    s.sameBut t [Xg.ADMIN.addr 0 0 r, Dic.JOURNAL_PENDING.addr 0 0 0]) ∧
  (∀ (s : State) (r : Nat) (w : Wr) (rest : List Wr), s.power.coreOn = true → s.dict.commits = [] → s.dict.queue = w :: rest → w.frame ≤ s.frame → s.flag Twin.TWIN_ENABLE = false →
  w.index = 0xA400 → w.sub = 255 → w.rcd = r → w.reply.session = 0 → w.reply.want = true → s.hasRecord 0xA400 r = true →
  ∃ t, exec .xgemDelete s = .next t ∧ t.hasRecord 0xA400 r = s.rflag Xg.ADMIN r ∧ t.dict.queue = rest ∧
    t.out = .reply { w.reply with code := if s.rflag Xg.ADMIN r then 0x06060001 else 0 } :: s.out) ∧
  (∀ (s : State) (r : Nat) (v : Fin 4) (w : Wr) (rest : List Wr), s.power.coreOn = true → s.dict.commits = [] → s.dict.queue = w :: rest → w.frame ≤ s.frame → s.flag Twin.TWIN_ENABLE = false →
  w.index = 0x4200 → w.sub = 7 → w.rcd = r → w.value = (v.val : Int) → w.reply.session = 0 → w.reply.want = true → s.hasRecord 0x4200 r = true → s.rnat Onu.PORT r = r / 512 → s.rnat Onu.CHANNEL r = 0 → s.rnat Onu.STATE r = 1 →
  ∃ t, exec .onuWriteApply s = .next t ∧ t.dict.queue = rest ∧ t.rget Onu.RATE_MAX r = (if v.val = 3 then s.rget Onu.RATE_MAX r else (v.val : Int)) ∧
    t.out = .reply { w.reply with code := if v.val = 3 then 0x06040002 else 0 } :: s.out) ∧
  (∀ (s : State) (r : Nat) (w : Wr) (rest : List Wr), s.power.coreOn = true → s.dict.commits = [] → s.dict.queue = w :: rest → w.frame ≤ s.frame → s.flag Twin.TWIN_ENABLE = false →
  w.index = 0x4200 → w.sub = 255 → w.rcd = r → w.reply.session = 0 → w.reply.want = true → s.hasRecord 0x4200 r = true → s.rnat Onu.STATE r ≠ onuEmpty → s.rnat Onu.STATE r ≠ onuDisabled →
  ∃ t, exec .onuDelete s = .next t ∧ t.od = s.od ∧ t.dict.queue = rest ∧ t.out = .reply { w.reply with code := 0x06060001 } :: s.out) ∧
  (∀ (s : State) (r : Nat) (w : Wr) (rest : List Wr), s.power.coreOn = true → s.dict.commits = [] → s.dict.queue = w :: rest → w.frame ≤ s.frame → s.flag Twin.TWIN_ENABLE = false →
  w.index = 0x4200 → w.sub = 255 → w.rcd = r → w.reply.session = 0 → w.reply.want = true → s.hasRecord 0x4200 r = true → s.rnat Onu.STATE r = onuEmpty ∨ s.rnat Onu.STATE r = onuDisabled →
  ∃ t, exec .onuDelete s = .next t ∧ t.hasRecord 0x4200 r = false ∧ t.dict.queue = rest ∧ t.out.head? = some (.reply { w.reply with code := 0 }))

/-- The journal of retained values. A journal write takes every pending value into the retained image and clears JOURNAL_PENDING, and a failed one counts, raises DICT_JOURNAL_FAIL and leaves the values pending; past 75 % fill a new base starts the log afresh, with the wear event at 90 %; the calibration section is copied when its period has passed and not before. Each of these is shown to answer a next state with its own effect, on conditions on the state and its operands alone: journalWrite, journalBaseWrite, calFlush. -/
def Obligations.RetainedJournal : Prop :=
  (∀ (s : State) (fill : Nat), s.power.coreOn = true → s.jpend ≠ [] → (∀ a, a ∈ s.jpend → a.sub ≠ 0) →
  ∃ t, exec (.journalWrite true fill) s = .next t ∧ t.jpend = [] ∧ t.nat Dic.JOURNAL_PENDING = 0 ∧ t.journal.fill = fill ∧ t.journal.present = true ∧
    (∀ a, a ∈ s.jpend → t.journal.image.find? a = s.od.find? a) ∧ t.out = s.out ∧ s.sameBut t [Dic.JOURNAL_PENDING.addr 0 0 0]) ∧
  (∀ (s : State) (fill : Nat), s.power.coreOn = true → s.jpend ≠ [] →
  ∃ t, exec (.journalWrite false fill) s = .next t ∧ t.jpend = s.jpend ∧ t.journal = s.journal ∧ s.counted t Dic.JOURNAL_FAILS 1 ∧
    s.sameBut t (Dic.JOURNAL_FAILS.addr 0 0 0 :: eventAddrs) ∧ s.raised t 0x1004 idDict [a32 (s.get Dic.JOURNAL_PENDING)]) ∧
  (∀ (s : State) (erases : Nat), s.power.coreOn = true → 75 < s.journal.fill → erases ≤ 100000 → s.journal.wearRaised = false →
  ∃ t, exec (.journalBaseWrite true erases) s = .next t ∧ t.journal.fill = 0 ∧ t.jpend = [] ∧ t.nat Pwr.JOURNAL_WEAR_PCT = erases * 100 / 100000 ∧ t.journal.wearRaised = decide (90000 ≤ erases) ∧
    (90000 ≤ erases → s.raised t 0x2005 0 [a8 (erases * 100 / 100000 : Nat)])) ∧
  (∀ (s : State) (ok : Bool) (erases : Nat), s.power.coreOn = true → s.journal.fill ≤ 75 → exec (.journalBaseWrite ok erases) s = .next s) ∧
  (∀ (s : State), s.power.coreOn = true →
  ∃ t, exec .calFlush s = .next t ∧ t = { s with journal := t.journal } ∧
    (s.journal.calAt + s.nat Pwr.CAL_FLUSH_H * 3600 * 1000000000 ≤ s.now → t.journal = { s.journal with calFlash := s.journal.cal, calAt := s.now }) ∧
    (s.now < s.journal.calAt + s.nat Pwr.CAL_FLUSH_H * 3600 * 1000000000 → t = s))

/-- Volold Object Transport. An OPEN is refused while MGMT_KEY is zero or 8 sessions are open and opens a free session of the sender else; a datagram whose AUTH fails is dropped and counted; a new request is processed once, a lower SEQ dropped and a repeated one answered from the kept reply; CLOSE, VOT_IDLE_S, a write of CLOSE and a change of the addressing each close sessions, with the lease released. Each of these is shown to answer a next state with its own effect, on conditions on the state and its operands alone: votOpen, votRequest, votClose, votIdleTimeout, sessionClose, mgmtAddrWrite, arpNdEchoRx. -/
def Obligations.ObjectTransport : Prop :=
  (∀ (s : State) (dip dport ip port : Nat) (data : List Nat), s.power.coreOn = true → s.dict.ready = true → s.nat Dic.IP_ADDR ≠ 0 → dip = s.nat Dic.IP_ADDR → dport = s.nat Dic.VOT_UDP_PORT → s.nat Dic.OWNER = 255 →
  (∀ n : Fin 9, (s.sess n).isOpen = true → s.now < (s.sess n).seen + s.nat Dic.VOT_IDLE_S * 1000000000) → ({ ip := ip, port := port, dip := dip, dport := dport, data := data } : Vot).good = true → byteAt data 3 = 1 → s.nat Dic.MGMT_KEY = 0 →
  ∃ t, exec (.votOpen dip dport ip port data) s = .next t ∧ (t.out.head?.map (fun o => match o with | .datagram a b _ _ body x y _ => (a, b, body, x, y) | _ => (0, 0, [], 0, 0))) = some (7, 0, [6, 2, 0, 3], ip, port) ∧ t.od = s.od ∧ t.dict = s.dict) ∧
  (∀ (s : State) (dip dport ip port : Nat) (data : List Nat), s.power.coreOn = true → s.dict.ready = true → s.nat Dic.IP_ADDR ≠ 0 → dip = s.nat Dic.IP_ADDR → dport = s.nat Dic.VOT_UDP_PORT → s.nat Dic.OWNER = 255 →
  (∀ n : Fin 9, (s.sess n).isOpen = true → s.now < (s.sess n).seen + s.nat Dic.VOT_IDLE_S * 1000000000) → ({ ip := ip, port := port, dip := dip, dport := dport, data := data } : Vot).good = true → byteAt data 3 = 1 → s.nat Dic.MGMT_KEY ≠ 0 → ip < 2 ^ 128 → port < 65536 →
  ∃ t, exec (.votOpen dip dport ip port data) s = .next t ∧
    (({ ip := ip, port := port, dip := dip, dport := dport, data := data } : Vot).verifies (s.nat Dic.MGMT_KEY) = false → s.counted t Dic.VOT_AUTH_FAIL 1 ∧ t.dict.sess.map (fun e => (e.1, e.2.isOpen)) = s.dict.sess.map (fun e => (e.1, e.2.isOpen))) ∧
    (({ ip := ip, port := port, dip := dip, dport := dport, data := data } : Vot).verifies (s.nat Dic.MGMT_KEY) = true → beAt data 6 2 = 16 → 8 ≤ s.nat Dic.SESSIONS_OPEN →
      (t.out.head?.map (fun o => match o with | .datagram a b _ _ body .. => (a, b, body) | _ => (0, 0, []))) = some (7, 0, [6, 5, 0, 1])) ∧
    (({ ip := ip, port := port, dip := dip, dport := dport, data := data } : Vot).verifies (s.nat Dic.MGMT_KEY) = true → beAt data 6 2 = 16 → s.nat Dic.SESSIONS_OPEN < 8 → (s.sess 8).isOpen = false →
      ∃ k : Fin 9, 1 ≤ k.val ∧ (s.sess k).isOpen = false ∧ (t.sess k).isOpen = true ∧ t.get Sess.PEER_IP (k - 1) = Sess.PEER_IP.ty.norm ip ∧ t.get Sess.PEER_PORT (k - 1) = Sess.PEER_PORT.ty.norm port ∧
        s.counted t Dic.SESSIONS_OPEN 1 ∧ (t.out.head?.map (fun o => match o with | .datagram a b _ _ _ x y _ => (a, b, x, y) | _ => (0, 0, 0, 0))) = some (2, k.val, ip, port))) ∧
  (∀ (s : State) (dip dport ip port : Nat) (data : List Nat) (ue : Option (Nat × Nat)) (c : Instr), s.power.coreOn = true →
  s.dict.ready = false ∨ s.nat Dic.IP_ADDR = 0 ∨ dip ≠ s.nat Dic.IP_ADDR ∨ dport ≠ s.nat Dic.VOT_UDP_PORT →
  c ∈ [.votOpen dip dport ip port data, .votRequest dip dport ip port data ue, .votClose dip dport ip port data] → exec c s = .next s) ∧
  (∀ (s : State) (dip dport ip port k : Nat) (data : List Nat) (ue : Option (Nat × Nat)), s.power.coreOn = true → s.dict.ready = true → s.nat Dic.IP_ADDR ≠ 0 → dip = s.nat Dic.IP_ADDR → dport = s.nat Dic.VOT_UDP_PORT → s.nat Dic.OWNER = 255 →
  (∀ n : Fin 9, (s.sess n).isOpen = true → s.now < (s.sess n).seen + s.nat Dic.VOT_IDLE_S * 1000000000) → ({ ip := ip, port := port, dip := dip, dport := dport, data := data } : Vot).good = true → byteAt data 3 = 3 → byteAt data 4 = k → 1 ≤ k → k ≤ 8 →
  ∃ t, exec (.votRequest dip dport ip port data ue) s = .next t ∧
    ((s.sess k).isOpen = false ∨ ({ ip := ip, port := port, dip := dip, dport := dport, data := data } : Vot).verifies (s.sess k).key = false → s.counted t Dic.VOT_AUTH_FAIL 1 ∧ t.get Dic.REQUESTS = s.get Dic.REQUESTS) ∧
    ((s.sess k).isOpen = true → ({ ip := ip, port := port, dip := dip, dport := dport, data := data } : Vot).verifies (s.sess k).key = true → 16 ≤ beAt data 6 2 → (s.sess k).heard = true → beAt data 8 4 < s.nat Sess.LAST_SEQ (k - 1) →
      s.counted t Dic.VOT_DROPPED 1 ∧ t.get Dic.REQUESTS = s.get Dic.REQUESTS ∧ t.out = s.out) ∧
    ((s.sess k).isOpen = true → ({ ip := ip, port := port, dip := dip, dport := dport, data := data } : Vot).verifies (s.sess k).key = true → 16 ≤ beAt data 6 2 → (s.sess k).heard = true → beAt data 8 4 = s.nat Sess.LAST_SEQ (k - 1) → (s.sess k).kept ≠ [] →
      t.get Dic.REQUESTS = s.get Dic.REQUESTS ∧ (t.out.head?.map (fun o => match o with | .datagram a b q _ body .. => (a, b, q, body) | _ => (0, 0, 0, []))) = some (4, k, beAt data 8 4, (s.sess k).kept)) ∧
    ((s.sess k).isOpen = true → ({ ip := ip, port := port, dip := dip, dport := dport, data := data } : Vot).verifies (s.sess k).key = true → 16 ≤ beAt data 6 2 → (s.sess k).heard = false ∨ s.nat Sess.LAST_SEQ (k - 1) < beAt data 8 4 →
      t = (((s.updSess k (fun x => { x with seen := s.now })).put Sess.LAST_SEQ (beAt data 8 4) (k - 1)).updSess k (fun x => { x with heard := true, kept := [] })).request k false (reqOf ({ ip := ip, port := port, dip := dip, dport := dport, data := data } : Vot).body (beAt data 8 4)) ue)) ∧
  (∀ (s : State) (dip dport ip port k : Nat) (data : List Nat), s.power.coreOn = true → s.dict.ready = true → s.nat Dic.IP_ADDR ≠ 0 → dip = s.nat Dic.IP_ADDR → dport = s.nat Dic.VOT_UDP_PORT → s.nat Dic.OWNER = 255 ∨ s.now < s.nat Dic.LEASE_END →
  (∀ n : Fin 9, (s.sess n).isOpen = true → s.now < (s.sess n).seen + s.nat Dic.VOT_IDLE_S * 1000000000) → ({ ip := ip, port := port, dip := dip, dport := dport, data := data } : Vot).good = true → byteAt data 3 = 6 → byteAt data 4 = k → 1 ≤ k → k ≤ 8 →
  (s.sess k).isOpen = true → 0 < s.nat Dic.SESSIONS_OPEN → s.nat Dic.SESSIONS_OPEN ≤ 8 →
  ∃ t, exec (.votClose dip dport ip port data) s = .next t ∧ (({ ip := ip, port := port, dip := dip, dport := dport, data := data } : Vot).verifies (s.sess k).key = false → s.counted t Dic.VOT_AUTH_FAIL 1 ∧ (t.sess k).isOpen = true) ∧
    (({ ip := ip, port := port, dip := dip, dport := dport, data := data } : Vot).verifies (s.sess k).key = true → (t.sess k).isOpen = false ∧ t.nat Dic.SESSIONS_OPEN = s.nat Dic.SESSIONS_OPEN - 1 ∧ t.nat Sess.PEER_IP (k - 1) = 0 ∧ t.nat Sess.LAST_SEQ (k - 1) = 0 ∧
      t.nat Dic.OWNER = (if s.nat Dic.OWNER = k then 255 else s.nat Dic.OWNER))) ∧
  (∀ (s : State) (k : Fin 8), s.power.coreOn = true → s.dict.ready = true → (s.sess (k + 1)).isOpen = true →
  ∃ t, exec .votIdleTimeout s = .next t ∧ (t.sess (k + 1)).isOpen = decide (s.now < (s.sess (k + 1)).seen + s.nat Dic.VOT_IDLE_S * 1000000000)) ∧
  (∀ (s : State) (i : Fin 8), s.power.coreOn = true → s.dict.ready = true → s.nat Dic.OWNER = 0 → s.now < s.nat Dic.LEASE_END → s.nat Pwr.POWER_STATE = 1 → s.nat Sec.LIFECYCLE = 1 →
  (s.sess 0).aborted = false → (s.sess 0).asm = none → (s.sess 0).txn = false →
  ∃ t, exec (.sessionClose 0 i) s = .next t ∧ (t.sess (i + 1)).isOpen = false ∧ s.counted t Dic.REQUESTS 1 ∧ t.nat Dic.OWNER = 0) ∧
  (∀ (s : State) (v : Nat), s.power.coreOn = true → s.dict.ready = true → s.nat Dic.OWNER = 0 → s.now < s.nat Dic.LEASE_END → s.nat Pwr.POWER_STATE = 1 → s.nat Sec.LIFECYCLE = 1 → s.nat Twin.ROLE ≠ 2 → s.nat Twin.STATE ≠ 5 →
  (s.sess 0).aborted = false → (s.sess 0).asm = none → (s.sess 0).txn = false → 1024 ≤ v → v ≤ 65535 →
  ∃ t, exec (.mgmtAddrWrite 0 4 v) s = .next t ∧ t.nat Dic.VOT_UDP_PORT = v ∧ s.counted t Dic.REQUESTS 1 ∧
    (s.nat Dic.VOT_UDP_PORT ≠ v → ∀ k : Fin 8, (t.sess (k + 1)).isOpen = false) ∧ (s.nat Dic.VOT_UDP_PORT = v → ∀ k : Fin 8, (t.sess (k + 1)).isOpen = (s.sess (k + 1)).isOpen)) ∧
  (∀ (s : State) (dst src sha spa tha ip : List (Fin 256)), s.power.coreOn = true → dst.length = 6 → src.length = 6 → sha.length = 6 → spa.length = 4 → tha.length = 6 → ip.length = 4 →
  s.nat Dic.IP_ADDR = ofLe (List.replicate 10 0 ++ [255, 255] ++ ip.map (fun x => x.val)) →
  ∃ t, exec (.arpNdEchoRx (dst.map (fun x => x.val) ++ src.map (fun x => x.val) ++ [8, 6, 0, 1, 8, 0, 6, 4, 0, 1] ++ sha.map (fun x => x.val) ++ spa.map (fun x => x.val) ++ tha.map (fun x => x.val) ++ ip.map (fun x => x.val))) s = .next t ∧
    t = ({ s with out := .mgmt (sha.map (fun x => x.val) ++ macBytes ++ [8, 6, 0, 1, 8, 0, 6, 4, 0, 2] ++ macBytes ++ ip.map (fun x => x.val) ++ sha.map (fun x => x.val) ++ spa.map (fun x => x.val)) :: s.out })) ∧
  (∀ (s : State) (data : List Nat), s.power.coreOn = true → s.nat Dic.IP_ADDR = 0 → exec (.arpNdEchoRx data) s = .next s)

/-- Firmware images, trial and rollback. A chunk goes into the slot that is not running, whose first chunk erases it; IMAGE_VERIFY sets INACTIVE_STATE by the first check that fails; BOOT_PREF takes the running slot or a valid other one, which asks for a trial, and refuses any other; IMAGE_CONFIRM ends a trial and TRIAL_S without it restarts from the other slot; ROLLBACK_COMMIT raises ROLLBACK_MIN to the running image's index but not in a trial. Each of these is shown to answer a next state with its own effect, on conditions on the state and its operands alone: imageChunk, imageVerify, bootPrefWrite, imageConfirm, trialTimeout, rollbackCommit. -/
def Obligations.FirmwareImages : Prop :=
  (∀ (s : State) (i : Fin 32768) (v : Fin 4294967296), s.power.coreOn = true →
  ∃ t, exec (.imageChunk i v) s = .next t ∧ t.nat Sec.INACTIVE_STATE = 1 ∧ (t.slotTab s.inactive).find? i = some v.val ∧ t.slotTab (1 - s.inactive) = s.slotTab (1 - s.inactive) ∧
    (s.nat Sec.INACTIVE_STATE ≠ 1 → t.slotTab s.inactive = [(i.val, v.val)]) ∧ t.out = .result 0x9402 1 i 0 :: s.out ∧ s.sameBut t [Sec.INACTIVE_STATE.addr 0 0 0, Sec.SLOT_A_VERSION.addr 0 0 0, Sec.SLOT_B_VERSION.addr 0 0 0, Sec.SLOT_A_ROLLBACK.addr 0 0 0, Sec.SLOT_B_ROLLBACK.addr 0 0 0]) ∧
  (∀ (s : State), s.power.coreOn = true →
  ∃ t, exec .imageVerify s = .next t ∧ t.nat Sec.INACTIVE_STATE = (if slotVerify (s.slotTab s.inactive) s.secu.rollback = 0 then 2 else if slotVerify (s.slotTab s.inactive) s.secu.rollback = 4 then 4 else 3) ∧
    t.secu = s.secu ∧ t.out = .result 0x9401 12 0 0 :: s.out ∧ (headerOk (chunkBytes (s.slotTab s.inactive) 0) = false → t.nat Sec.INACTIVE_STATE = 3)) ∧
  (∀ (s : State) (v : Nat), s.power.coreOn = true → v ≤ 1 → s.nat Sec.RUNNING_SLOT ≤ 1 → v ≠ s.nat Sec.RUNNING_SLOT → s.nat Sec.INACTIVE_STATE = 2 →
  ∃ t, exec (.bootPrefWrite v) s = .next t ∧ t.nat Sec.BOOT_PREF = v ∧ t.secu.pref = v ∧ t.secu.trialNext = true ∧ t.out = .result 0x9401 2 0 0 :: s.out ∧ s.sameBut t [Sec.BOOT_PREF.addr 0 0 0]) ∧
  (∀ (s : State) (v : Nat), s.power.coreOn = true → v ≤ 1 → s.nat Sec.RUNNING_SLOT ≤ 1 → v ≠ s.nat Sec.RUNNING_SLOT → s.nat Sec.INACTIVE_STATE ≠ 2 →
  ∃ t, exec (.bootPrefWrite v) s = .next t ∧ t = { s with out := .result 0x9401 2 0 0x06040002 :: s.out }) ∧
  (∀ (s : State), s.power.coreOn = true →
  ∃ t, exec .imageConfirm s = .next t ∧ t.nat Sec.TRIAL = 0 ∧ t.out = .result 0x9401 10 0 0 :: s.out ∧ (s.flag Sec.TRIAL = true → t.secu = { s.secu with trialNext := false }) ∧ s.sameBut t [Sec.TRIAL.addr 0 0 0]) ∧
  (∀ (s : State), s.power.coreOn = true → s.flag Sec.TRIAL = true → s.nat Sec.RUNNING_SLOT ≤ 1 → s.power.trip = none → s.power.t0 + (s.nat Sec.TRIAL_S * 1000000000 : Nat) ≤ (s.now : Int) →
  ∃ t, exec .trialTimeout s = .next t ∧ t.nat Sta.START_PHASE = 2 ∧ t.nat Sta.START_CAUSE = 2 ∧ t.secu.failed = some (s.nat Sec.RUNNING_SLOT) ∧ t.secu.pref = 1 - s.nat Sec.RUNNING_SLOT ∧ t.secu.trialNext = false ∧
    t.secu.slotA = s.secu.slotA ∧ t.secu.slotB = s.secu.slotB) ∧
  (∀ (s : State), s.power.coreOn = true → s.flag Sec.TRIAL = false ∨ (s.now : Int) < s.power.t0 + (s.nat Sec.TRIAL_S * 1000000000 : Nat) → exec .trialTimeout s = .next s) ∧
  (∀ (s : State), s.power.coreOn = true → s.flag Sec.TRIAL = false → s.nat Sec.RUNNING_SLOT ≤ 1 → s.secu.rollback < s.runningIndex → s.runningIndex ≤ 63 →
  ∃ t, exec .rollbackCommit s = .next t ∧ t.secu.rollback = s.runningIndex ∧ t.nat Sec.ROLLBACK_MIN = s.runningIndex ∧ s.raised t 0x9406 idSecurity [a8 s.runningIndex] ∧
    (s.nat Sec.RUNNING_SLOT = 0 → s.nat Sec.INACTIVE_STATE = 2 → s.nat Sec.SLOT_B_ROLLBACK < s.runningIndex → t.nat Sec.INACTIVE_STATE = 4)) ∧
  (∀ (s : State), s.power.coreOn = true → s.flag Sec.TRIAL = true → ∃ t, exec .rollbackCommit s = .next t ∧ t = { s with out := .result 0x9401 8 0 0x06060001 :: s.out }) ∧
  (∀ (s : State), s.power.coreOn = true → s.flag Sec.TRIAL = false → s.runningIndex ≤ s.secu.rollback → ∃ t, exec .rollbackCommit s = .next t ∧ t = { s with out := .result 0x9401 8 0 0 :: s.out })

/-- Lifecycle transitions, debug tokens and the TAP. A listed transition sets the state in the fuses with its event, erases what Table 15-10 says and ends the secured session, and any other is refused; a token that passes the checks sets the level and its expiry, one that fails the first check is refused with reason 1; DEBUG_END and EXPIRY lower the level with an event; TIME_HWM is saved once per hour; the TAP offers an instruction or selects BYPASS. Each of these is shown to answer a next state with its own effect, on conditions on the state and its operands alone: lifecycleSecure, lifecycleReturn, lifecycleRetire, debugToken, debugEnd, debugExpiry, timeHwmSave, tapInstruction. -/
def Obligations.LifecycleAndDebug : Prop :=
  (∀ (s : State), s.power.coreOn = true → s.secu.lifecycle = 0 →
  ∃ t, exec .lifecycleSecure s = .next t ∧ t.secu.lifecycle = 1 ∧ t.nat Sec.LIFECYCLE = 1 ∧ t.nat Sec.DEBUG_LEVEL = 0 ∧ t.flag Hst.SEC_SESSION = false ∧ s.counted t Sec.KEYSTORE_ERASES 1 ∧ t.journal = s.journal ∧
    t.secu.idGone = s.secu.idGone ∧ (t.out.head? = some (.result 0x9400 2 0 0)) ∧ s.raised t 0x9404 idSecurity [a8 1]) ∧
  (∀ (s : State), s.power.coreOn = true → s.secu.lifecycle ≤ 1 → s.secu.returnOk = true →
  ∃ t, exec .lifecycleReturn s = .next t ∧ t.secu.lifecycle = 2 ∧ t.nat Sec.LIFECYCLE = 2 ∧ t.journal.image = [] ∧ t.journal.mgmtKey = 0 ∧ t.nat Dic.MGMT_KEY = 0 ∧ t.nat Sec.OWNER_DEBUG_KEY = 0 ∧ t.jpend = [] ∧
    s.counted t Sec.KEYSTORE_ERASES 1 ∧ t.secu.idGone = s.secu.idGone ∧ s.raised t 0x9404 idSecurity [a8 2]) ∧
  (∀ (s : State), s.power.coreOn = true → s.secu.lifecycle ≠ 3 →
  ∃ t, exec .lifecycleRetire s = .next t ∧ t.secu.lifecycle = 3 ∧ t.nat Sec.LIFECYCLE = 3 ∧ t.journal.image = [] ∧ t.nat Dic.MGMT_KEY = 0 ∧ t.nat Sec.DEBUG_LEVEL = 0 ∧ t.secu.idGone = true ∧ s.counted t Sec.KEYSTORE_ERASES 1 ∧
    s.raised t 0x9404 idSecurity [a8 3]) ∧
  (∀ (s : State) (c : Instr), s.power.coreOn = true → (c = .lifecycleSecure ∧ s.secu.lifecycle ≠ 0) ∨ (c = .lifecycleReturn ∧ (1 < s.secu.lifecycle ∨ s.secu.returnOk = false)) ∨ (c = .lifecycleRetire ∧ s.secu.lifecycle = 3) →
  ∃ t, exec c s = .next t ∧ t = { s with out := .result 0x9400 2 0 0x06060001 :: s.out }) ∧
  (∀ (s : State) (token : List Nat), s.power.coreOn = true → token.length = 576 →
  ∃ t, exec (.debugToken token) s = .next t ∧
    (s.tokenCheck token = 0 → t.nat Sec.DEBUG_LEVEL = byteAt token 5 % 256 ∧ t.get Sec.DEBUG_EXPIRY = Sec.DEBUG_EXPIRY.ty.norm (hdrField token 32 8) ∧ t.secu.returnOk = (s.secu.returnOk || byteAt token 6 == 1) ∧
      s.raised t 0x9402 idSecurity [a8 (byteAt token 5), a8 (byteAt token 7), a64 (hdrField token 32 8)] ∧ t.out.head? = some (.result 0x9400 4 0 0)) ∧
    (s.tokenCheck token ≠ 0 → t.secu = s.secu ∧ s.sameBut t eventAddrs ∧ s.raised t 0x9403 idSecurity [a8 (s.tokenCheck token)])) ∧
  (∀ (s : State) (token : List Nat), s.power.coreOn = true → ofBe (token.take 4) ≠ 0x564F4454 ∨ byteAt token 4 ≠ 1 ∨ byteAt token 5 = 0 ∨ 2 < byteAt token 5 ∨ 1 < byteAt token 6 ∨ 1 < byteAt token 7 →
  ∃ t, exec (.debugToken token) s = .next t ∧ t.secu = s.secu ∧ t.out.head? = some (.result 0x9400 4 0 0x06040001) ∧ s.raised t 0x9403 idSecurity [a8 1] ∧ s.sameBut t eventAddrs) ∧
  (∀ (s : State), s.power.coreOn = true →
  ∃ t, exec .debugEnd s = .next t ∧ t.nat Sec.DEBUG_LEVEL = 0 ∧ t.nat Sec.DEBUG_EXPIRY = 0 ∧ t.out.head? = some (.result 0x9400 6 0 0) ∧ (s.nat Sec.DEBUG_LEVEL ≠ 0 → t.nat Cro.CROCUS_ENABLE = 0) ∧
    (s.nat Sec.DEBUG_LEVEL ≠ 0 → s.raised t 0x9405 idSecurity [a8 (s.nat Sec.DEBUG_LEVEL), a8 2])) ∧
  (∀ (s : State), s.power.coreOn = true → s.nat Sec.DEBUG_EXPIRY ≠ 0 → s.nat Sec.DEBUG_EXPIRY ≤ max (s.nat Sec.TIME_HWM) s.sec → s.nat Sec.DEBUG_LEVEL ≠ 0 →
  ∃ t, exec .debugExpiry s = .next t ∧ t.nat Sec.DEBUG_LEVEL = 0 ∧ t.nat Sec.DEBUG_EXPIRY = 0 ∧ s.raised t 0x9405 idSecurity [a8 (s.nat Sec.DEBUG_LEVEL), a8 1]) ∧
  (∀ (s : State), s.power.coreOn = true → s.nat Sec.DEBUG_EXPIRY = 0 ∨ max (s.nat Sec.TIME_HWM) s.sec < s.nat Sec.DEBUG_EXPIRY → exec .debugExpiry s = .next s) ∧
  (∀ (s : State), s.power.coreOn = true → s.journal.hwmAt + 3600000000000 ≤ s.now → s.sec < 18446744073709551616 → s.nat Sec.TIME_HWM < 18446744073709551616 →
  ∃ t, exec .timeHwmSave s = .next t ∧ t.nat Sec.TIME_HWM = max (s.nat Sec.TIME_HWM) s.sec ∧ t.journal = { s.journal with hwm := t.nat Sec.TIME_HWM, hwmAt := s.now } ∧ t.out = s.out ∧ s.sameBut t [Sec.TIME_HWM.addr 0 0 0]) ∧
  (∀ (s : State) (ir : Fin 6),
  ∃ t, exec (.tapInstruction ir) s = .next t ∧ t.od = s.od ∧ t.secu = { s.secu with tap := t.secu.tap } ∧ t.out = .tap t.secu.tap :: s.out ∧
    (ir.val = 0 ∨ ir.val = 5 → t.secu.tap = 0) ∧ (ir.val = 1 ∨ ir.val = 2 → t.secu.tap = ir.val) ∧
    (ir.val = 3 → s.secu.lifecycle = 1 ∨ s.secu.lifecycle = 3 → t.secu.tap = 0) ∧ (ir.val = 4 → s.nat Sec.DEBUG_LEVEL ≠ 2 → t.secu.tap = 0) ∧
    (ir.val = 4 → s.nat Sec.DEBUG_LEVEL = 2 → s.power.coreOn = true → t.secu.tap = 4))

/-- SPDM over DOE and over the twin link (which requests the order of DSP0274 admits is the model's reading). On each link GET_VERSION, GET_CAPABILITIES and NEGOTIATE_ALGORITHMS are answered in turn; digests, certificates, challenges and measurements are answered after that; KEY_EXCHANGE and a verified FINISH open one session, over DOE with the secured session of the host; HEARTBEAT keeps it; END_SESSION and a missed heartbeat end it, with the event. Each of these is shown to answer a next state with its own effect, on conditions on the state and its operands alone: spdmGetVersion, spdmGetCapabilities, spdmNegotiateAlgorithms, spdmGetDigests, spdmGetCertificate, spdmChallenge, spdmGetMeasurements, spdmKeyExchange, spdmFinish, spdmHeartbeat, spdmHeartbeatMissed, spdmKeyUpdate, spdmEndSession. -/
def Obligations.SpdmSessions : Prop :=
  (∀ (s : State), s.power.coreOn = true →
  ∃ t, exec (.spdmGetVersion 0) s = .next t ∧ t.out = .spdm 0x04 (Config.spdmBody 0x04 [0x12]) :: s.out ∧ t.secu = { s.secu with spdmHost := if s.secu.spdmHost = 5 then 5 else 1 } ∧ t.od = s.od) ∧
  (∀ (s : State), s.power.coreOn = true → s.secu.spdmHost = 1 →
  ∃ t, exec (.spdmGetCapabilities 0) s = .next t ∧ t.out = .spdm 0x61 (Config.spdmBody 0x61 [0]) :: s.out ∧ t.secu = { s.secu with spdmHost := 2 } ∧ t.od = s.od) ∧
  (∀ (s : State), s.power.coreOn = true → s.secu.spdmTwin = 2 →
  ∃ t, exec (.spdmNegotiateAlgorithms 1) s = .next t ∧ t.out = .spdm 0x63 (Config.spdmBody 0x63 [1]) :: s.out ∧ t.secu = { s.secu with spdmTwin := 3 } ∧ t.od = s.od) ∧
  (∀ (s : State) (l : Fin 2), s.power.coreOn = true → 3 ≤ s.spdm l →
  ∃ t, exec (.spdmGetDigests l) s = .next t ∧ t = { s with out := .spdm 0x01 (Config.spdmBody 0x01 [Config.sha512 Config.certChain, Config.sha512 s.ownerChain]) :: s.out }) ∧
  (∀ (s : State) (l : Fin 2) (slot offset length : Nat), s.power.coreOn = true → 3 ≤ s.spdm l →
  ∃ t, exec (.spdmGetCertificate l slot offset length) s = .next t ∧
    t = { s with out := .spdm 0x02 (Config.spdmBody 0x02 (slot :: ((s.chain slot).length - offset - (((s.chain slot).drop offset).take length).length) :: ((s.chain slot).drop offset).take length)) :: s.out }) ∧
  (∀ (s : State) (l : Fin 2) (slot nonce : Nat), s.power.coreOn = true → 3 ≤ s.spdm l → s.secu.idGone = false →
  ∃ t, exec (.spdmChallenge l slot nonce) s = .next t ∧
    t.out = .spdm 0x03 (Config.spdmBody 0x03 [slot, nonce, Config.sha512 (s.chain slot), Config.pssSign Config.identityKey [slot, nonce, Config.sha512 (s.chain slot)]]) :: s.out ∧ t.od = s.od ∧ t.secu = s.secu) ∧
  (∀ (s : State) (l : Fin 2) (index nonce : Nat), s.power.coreOn = true → 3 ≤ s.spdm l → 1 ≤ index → index ≤ 5 →
  ∃ t, exec (.spdmGetMeasurements l index false nonce) s = .next t ∧ t.out = .spdm 0x60 (Config.spdmBody 0x60 [s.measurement index]) :: s.out ∧ t.od = s.od ∧ t.secu = s.secu ∧
    (index = 3 → s.measurement index = s.nat Sec.LIFECYCLE + s.nat Sec.DEBUG_LEVEL * 256 + s.nat Sec.TRIAL * 65536) ∧ (index = 4 → s.measurement index = s.nat Sec.ROLLBACK_MIN)) ∧
  (∀ (s : State) (l : Fin 2) (nonce : Nat), s.power.coreOn = true → 3 ≤ s.spdm l → s.spdm l ≠ 5 → s.secu.idGone = false →
  ∃ t, exec (.spdmKeyExchange l nonce) s = .next t ∧ t.spdm l = 4 ∧ t.spdm (1 - l.val) = s.spdm (1 - l.val) ∧ t.od = s.od ∧ t.out = .spdm 0x64 (Config.spdmBody 0x64 [nonce, Config.pssSign Config.identityKey [nonce]]) :: s.out) ∧
  (∀ (s : State) (l : Fin 2) (nonce : Nat), s.power.coreOn = true → s.spdm l = 5 →
  ∃ t, exec (.spdmKeyExchange l nonce) s = .next t ∧ t = { s with out := .spdm 0x7F (Config.spdmBody 0x7F [10]) :: s.out }) ∧
  (∀ (s : State), s.power.coreOn = true → s.secu.spdmHost = 4 →
  ∃ t, exec (.spdmFinish 0 true) s = .next t ∧ t.secu = { s.secu with spdmHost := 5, beatHost := s.now } ∧ t.flag Hst.SEC_SESSION = true ∧ s.counted t Sec.SPDM_SESSIONS 1 ∧ s.raised t 0x9407 idSecurity [a8 1, a8 0] ∧
    t.out.head? = some (.spdm 0x65 (Config.spdmBody 0x65 []))) ∧
  (∀ (s : State), s.power.coreOn = true → s.secu.spdmTwin = 5 →
  ∃ t, exec (.spdmHeartbeat 1) s = .next t ∧ t.secu = { s.secu with beatTwin := s.now } ∧ t.out = .spdm 0x68 (Config.spdmBody 0x68 []) :: s.out ∧ t.od = s.od) ∧
  (∀ (s : State), s.power.coreOn = true → s.secu.spdmHost = 5 → s.secu.beatHost + 60000000000 ≤ s.now → s.flag Hst.SEC_SESSION = true →
  ∃ t, exec (.spdmHeartbeatMissed 0) s = .next t ∧ t.secu.spdmHost = 3 ∧ t.flag Hst.SEC_SESSION = false ∧ s.raised t 0x9407 idSecurity [a8 0, a8 0]) ∧
  (∀ (s : State) (l : Fin 2), s.power.coreOn = true → s.spdm l ≠ 5 ∨ s.now < (if l.val = 0 then s.secu.beatHost else s.secu.beatTwin) + 60000000000 → exec (.spdmHeartbeatMissed l) s = .next s) ∧
  (∀ (s : State) (l : Fin 2), s.power.coreOn = true → s.spdm l = 5 →
  ∃ t, exec (.spdmKeyUpdate l) s = .next t ∧ t = { s with out := .spdm 0x69 (Config.spdmBody 0x69 []) :: s.out }) ∧
  (∀ (s : State), s.power.coreOn = true → s.secu.spdmTwin = 5 →
  ∃ t, exec (.spdmEndSession 1) s = .next t ∧ t.secu.spdmTwin = 3 ∧ t.secu.spdmHost = s.secu.spdmHost ∧ t.get Hst.SEC_SESSION = s.get Hst.SEC_SESSION ∧ s.raised t 0x9407 idSecurity [a8 0, a8 1] ∧
    t.out.head? = some (.spdm 0x6C (Config.spdmBody 0x6C []))) ∧
  (∀ (s : State) (l : Fin 2) (c : Instr), s.power.coreOn = true → s.spdm l = 0 → c ∈ [.spdmGetCapabilities l, .spdmNegotiateAlgorithms l, .spdmGetDigests l, .spdmChallenge l 0 0, .spdmGetMeasurements l 0 false 0, .spdmKeyExchange l 0, .spdmFinish l true, .spdmHeartbeat l, .spdmKeyUpdate l, .spdmEndSession l] →
  ∃ t, exec c s = .next t ∧ t = { s with out := .spdm 0x7F (Config.spdmBody 0x7F [4]) :: s.out })

/-- Scrubbing and uncorrectable reads. The scrubber visits an array in ascending order. A correctable error is counted and, found by the scrubber, waits for its write-back, which makes the location whole; an uncorrectable one counts in UE_COUNT and UE_TOTAL with its address, time and event, and drops the packet or invalidates the rule that it hit; a disabled scrubber reads nothing; the end of a lap reports its time and sets or clears the alarm; a channel in self-refresh for SCRUB_WAKE_H hours is asked to wake for a lap. Each of these is shown to answer a next state with its own effect, on conditions on the state and its operands alone: scrubAccess, scrubWriteback, scrubLapEnd, scrubWake. -/
def Obligations.MemoryIntegrity : Prop :=
  (∀ (s : State) (a : Fin 10) (addr n lane : Nat), s.power.coreOn = true → a.val ≠ 2 → a.val ≠ 7 → s.flag MemA.SCRUB_ENABLE a = true → s.storedError a addr false = 0 → 1 ≤ n → 2 ≤ s.nat Mem.CE_REPEAT_LIMIT → s.mem.repeats.find? a = none →
  s.mem.visit.getD a 0 ≤ addr → (a.val, addr, s.now, false) ∉ s.mem.fixed →
  ∃ t, exec (.scrubAccess ⟨a.val, by omega⟩ addr 1 n lane .scrub) s = .next t ∧ s.counted t MemA.CE_COUNT n a ∧ s.counted t Mem.CE_TOTAL n ∧ t.mem.back.find? a = some addr ∧ t.mem.visit.find? a = some (addr + 1) ∧ t.out = s.out ∧
    s.sameBut t [MemA.CE_COUNT.addr a 0 0, Mem.CE_TOTAL.addr 0 0 0]) ∧
  (∀ (s : State) (a : Fin 19) (addr n lane : Nat) (finding : Fin 3), s.power.coreOn = true → addr < s.mem.visit.getD a 0 → exec (.scrubAccess a addr finding n lane .scrub) s = .next s) ∧
  (∀ (s : State) (a : Fin 19) (addr n lane : Nat) (finding : Fin 3), s.power.coreOn = true → s.flag MemA.SCRUB_ENABLE a = false → exec (.scrubAccess a addr finding n lane .scrub) s = .next s) ∧
  (∀ (s : State) (addr n lane q : Nat) (dir : Fin 2), s.power.coreOn = true → s.queue dir q = [] → s.mem.ueSec.find? 0 = none →
  ∃ t, exec (.scrubAccess 0 addr 2 n lane (.packet dir q)) s = .next t ∧ s.counted t MemA.UE_COUNT 1 0 ∧ s.counted t Mem.UE_TOTAL 1 ∧ t.get MemA.LAST_UE_ADDR 0 = MemA.LAST_UE_ADDR.ty.norm addr ∧
    t.get MemA.LAST_UE_AT 0 = MemA.LAST_UE_AT.ty.norm s.now ∧ s.raised t 0x9801 idTm [a8 (0 : Nat), a64 addr, a8 (5 : Nat)]) ∧
  (∀ (s : State) (addr n lane r : Nat) (bank : Fin 2), s.power.coreOn = true → s.mem.ueSec.find? 8 = none → r < 4096 →
  ∃ t, exec (.scrubAccess 8 addr 2 n lane (.rule bank r)) s = .next t ∧ t.rnat Rule.VALID r bank = 0 ∧ t.rnat Rule.KEY r bank = 0 ∧ s.counted t MemA.UE_COUNT 1 8 ∧ s.counted t Mem.UE_TOTAL 1 ∧
    (∃ n, ∃ e, t.log.find? n = some e ∧ e.code = 0x9803 ∧ e.args = [a8 (8 : Nat), a16 (0xA800 + bank.val : Nat), a32 r])) ∧
  (∀ (s : State) (a : Fin 19) (addr : Nat), s.power.coreOn = true → s.mem.back.find? a = some addr →
  ∃ t, exec (.scrubWriteback a none) s = .next t ∧ t = { s with mem := t.mem } ∧ t.mem.back.find? a = none ∧ (∀ p, t.storedError a addr p = 0) ∧ t.mem.repeats = s.mem.repeats) ∧
  (∀ (s : State) (a : Fin 19), s.power.coreOn = true → s.mem.back.find? a = none → exec (.scrubWriteback a none) s = .next s) ∧
  (∀ (s : State) (a : Fin 19) (addr : Nat), s.power.coreOn = true →
  ∃ t, exec (.scrubWriteback a (some addr)) s = .next t ∧ t = { s with mem := t.mem } ∧ t.mem.back.find? a = (if s.mem.back.find? a = some addr then none else s.mem.back.find? a) ∧
    (∀ p, t.storedError a addr p = 0) ∧ (∀ x p, x ≠ addr → t.storedError a x p = s.storedError a x p) ∧ t.mem.repeats = s.mem.repeats) ∧
  (∀ (s : State) (a : Fin 19) (ms : Nat), s.power.coreOn = true → a.val ≠ 2 → s.mayScrub a = true → s.lapMs a = ms → ms < 4294967296 → s.nat MemA.LAP_MAX_MS a < 4294967296 →
  ∃ t, exec (.scrubLapEnd a) s = .next t ∧ t.mem.lapAt.find? a = some s.now ∧ (11 ≤ a.val → t.mem.slept.find? (a - 11) = none) ∧ t.nat MemA.LAP_MS a = ms ∧ t.nat MemA.LAP_MAX_MS a = max ms (s.nat MemA.LAP_MAX_MS a) ∧
    t.flag MemA.LAP_ALARM a = decide (s.nat MemA.LAP_LIMIT_S a * 1000 < ms) ∧ (s.nat MemA.LAP_LIMIT_S a * 1000 < ms → s.raised t 0x9805 idScrub [a8 a.val, a32 ms])) ∧
  (∀ (s : State) (a : Fin 19), s.power.coreOn = true → a.val = 2 ∨ s.mayScrub a = false → exec (.scrubLapEnd a) s = .next s) ∧
  (∀ (s : State) (k : Fin 8) (since : Nat), s.power.coreOn = true → s.mem.asleep.find? k = some since → since ≤ s.now → s.flag MemA.SCRUB_ENABLE (k + 11) = true → s.nat Mem.SCRUB_WAKE_H ≠ 0 →
  ∃ t, exec (.scrubWake k) s = .next t ∧
    (s.nat Mem.SCRUB_WAKE_H * 3600 * 1000000000 ≤ s.mem.slept.getD k 0 + (s.now - since) → k.val ∈ t.mem.lap ∧ t.mem.access.find? k = some s.now ∧
      (since < s.now → k.val ∈ t.mem.waking ∧ t.mem.asleep = s.mem.asleep) ∧ t = { s with mem := t.mem }) ∧
    (s.mem.slept.getD k 0 + (s.now - since) < s.nat Mem.SCRUB_WAKE_H * 3600 * 1000000000 → t = s))

/-- Error injection and the clearing of counters. INJ_ARM 1 is taken at debug level Full or in Factory and refused else; the next write to the armed address is stored with its errors and clears INJ_ARM; a CLEAR sets the counters listed with it to 0 and no other object. Each of these is shown to answer a next state with its own effect, on conditions on the state and its operands alone: injArm, counterClear. -/
def Obligations.InjectionAndClears : Prop :=
  (∀ (s : State), s.power.coreOn = true → s.nat Twin.ROLE ≠ 2 → s.nat Sec.DEBUG_LEVEL ≠ 2 → s.nat Sec.LIFECYCLE ≠ 0 →
  ∃ t, exec (.injArm false) s = .next t ∧ t = { s with out := .result 0x9801 4 0 0x06020003 :: s.out }) ∧
  (∀ (s : State), s.power.coreOn = true → s.nat Twin.ROLE ≠ 2 → s.nat Sec.DEBUG_LEVEL = 2 → s.flag Inj.INJ_ARM = false →
  ∃ t, exec (.injArm false) s = .next t ∧ t.flag Inj.INJ_ARM = true ∧ t.out = .result 0x9801 4 0 0 :: s.out ∧ t.mem = s.mem ∧ s.sameBut t [Inj.INJ_ARM.addr 0 0 0]) ∧
  (∀ (s : State), s.power.coreOn = true → s.flag Inj.INJ_ARM = true →
  ∃ t, exec (.injArm true) s = .next t ∧ t.flag Inj.INJ_ARM = false ∧ t.storedError (s.nat Inj.INJ_ARRAY) (s.nat Inj.INJ_ADDR) false = s.nat Inj.INJ_BITS ∧ t.out = s.out ∧ s.sameBut t [Inj.INJ_ARM.addr 0 0 0]) ∧
  (∀ (s : State), s.power.coreOn = true → s.nat Twin.ROLE ≠ 2 →
  ∃ t, exec (.counterClear 0x9800 0xFF 0) s = .next t ∧ t.nat Mem.CE_TOTAL = 0 ∧ t.nat Mem.UE_TOTAL = 0 ∧ t.nat Mem.UE_PKT_DROP = 0 ∧ t.out = .result 0x9800 0xFF 0 0 :: s.out ∧
    s.sameBut t [Mem.CE_TOTAL.addr 0 0 0, Mem.UE_TOTAL.addr 0 0 0, Mem.UE_PKT_DROP.addr 0 0 0])
end

