-- ==== Sys2Proof/Laws/State.lean ====
section
/-! SUPPORT. What each named operation leaves alone: one lemma per field per operation, true by rfl. -/

namespace Sys2Proof.Machine

variable (s : State)

@[simp] theorem State.put_pending (o : Obj) (v : Int) (i j : Nat) : (s.put o v i j).pending = s.pending := rfl
@[simp] theorem State.put_now (o : Obj) (v : Int) (i j : Nat) : (s.put o v i j).now = s.now := rfl
@[simp] theorem State.put_out (o : Obj) (v : Int) (i j : Nat) : (s.put o v i j).out = s.out := rfl
@[simp] theorem State.put_drawn (o : Obj) (v : Int) (i j : Nat) : (s.put o v i j).drawn = s.drawn := rfl
@[simp] theorem State.put_log (o : Obj) (v : Int) (i j : Nat) : (s.put o v i j).log = s.log := rfl
@[simp] theorem State.put_port (o : Obj) (v : Int) (i j : Nat) : (s.put o v i j).port = s.port := rfl
@[simp] theorem State.put_onu (o : Obj) (v : Int) (i j : Nat) : (s.put o v i j).onu = s.onu := rfl
@[simp] theorem State.put_framer (o : Obj) (v : Int) (i j : Nat) : (s.put o v i j).framer = s.framer := rfl
@[simp] theorem State.put_jpend (o : Obj) (v : Int) (i j : Nat) : (s.put o v i j).jpend = s.jpend := rfl
@[simp] theorem State.put_nonWhole (o : Obj) (v : Int) (i j : Nat) : (s.put o v i j).nonWhole = s.nonWhole := rfl
@[simp] theorem State.put_mapLateAt (o : Obj) (v : Int) (i j : Nat) : (s.put o v i j).mapLateAt = s.mapLateAt := rfl
@[simp] theorem State.put_memUeAt (o : Obj) (v : Int) (i j : Nat) : (s.put o v i j).memUeAt = s.memUeAt := rfl
@[simp] theorem State.put_act (o : Obj) (v : Int) (i j : Nat) : (s.put o v i j).act = s.act := rfl
@[simp] theorem State.put_grant (o : Obj) (v : Int) (i j : Nat) : (s.put o v i j).grant = s.grant := rfl
@[simp] theorem State.put_ctx (o : Obj) (v : Int) (i j : Nat) : (s.put o v i j).ctx = s.ctx := rfl
@[simp] theorem State.put_optics (o : Obj) (v : Int) (i j : Nat) : (s.put o v i j).optics = s.optics := rfl
@[simp] theorem State.put_loops (o : Obj) (v : Int) (i j : Nat) : (s.put o v i j).loops = s.loops := rfl
@[simp] theorem State.put_storeQ (o : Obj) (v : Int) (i j : Nat) : (s.put o v i j).storeQ = s.storeQ := rfl
@[simp] theorem State.put_nextMap (o : Obj) (v : Int) (i j : Nat) : (s.put o v i j).nextMap = s.nextMap := rfl
@[simp] theorem State.put_arb (o : Obj) (v : Int) (i j : Nat) : (s.put o v i j).arb = s.arb := rfl
@[simp] theorem State.put_hintEn (o : Obj) (v : Int) (i j : Nat) : (s.put o v i j).hintEn = s.hintEn := rfl
@[simp] theorem State.put_capFrom (o : Obj) (v : Int) (i j : Nat) : (s.put o v i j).capFrom = s.capFrom := rfl
@[simp] theorem State.put_warmPeer (o : Obj) (v : Int) (i j : Nat) : (s.put o v i j).warmPeer = s.warmPeer := rfl
@[simp] theorem State.put_computeLog (o : Obj) (v : Int) (i j : Nat) : (s.put o v i j).computeLog = s.computeLog := rfl
@[simp] theorem State.put_findSerial (o : Obj) (v : Int) (i j : Nat) : (s.put o v i j).findSerial = s.findSerial := rfl
@[simp] theorem State.put_hintPosts (o : Obj) (v : Int) (i j : Nat) : (s.put o v i j).hintPosts = s.hintPosts := rfl
@[simp] theorem State.put_fr (o : Obj) (v : Int) (i j : Nat) : (s.put o v i j).fr = s.fr := rfl
@[simp] theorem State.put_reasm (o : Obj) (v : Int) (i j : Nat) : (s.put o v i j).reasm = s.reasm := rfl
@[simp] theorem State.put_lag (o : Obj) (v : Int) (i j : Nat) : (s.put o v i j).lag = s.lag := rfl
@[simp] theorem State.put_omciRx (o : Obj) (v : Int) (i j : Nat) : (s.put o v i j).omciRx = s.omciRx := rfl
@[simp] theorem State.put_pipes (o : Obj) (v : Int) (i j : Nat) : (s.put o v i j).pipes = s.pipes := rfl
@[simp] theorem State.put_fwd (o : Obj) (v : Int) (i j : Nat) : (s.put o v i j).fwd = s.fwd := rfl
@[simp] theorem State.put_tm (o : Obj) (v : Int) (i j : Nat) : (s.put o v i j).tm = s.tm := rfl
@[simp] theorem State.put_upl (o : Obj) (v : Int) (i j : Nat) : (s.put o v i j).upl = s.upl := rfl
@[simp] theorem State.put_time (o : Obj) (v : Int) (i j : Nat) : (s.put o v i j).time = s.time := rfl
@[simp] theorem State.put_twin (o : Obj) (v : Int) (i j : Nat) : (s.put o v i j).twin = s.twin := rfl
@[simp] theorem State.put_power (o : Obj) (v : Int) (i j : Nat) : (s.put o v i j).power = s.power := rfl
@[simp] theorem State.put_host (o : Obj) (v : Int) (i j : Nat) : (s.put o v i j).host = s.host := rfl
@[simp] theorem State.put_dict (o : Obj) (v : Int) (i j : Nat) : (s.put o v i j).dict = s.dict := rfl
@[simp] theorem State.put_journal (o : Obj) (v : Int) (i j : Nat) : (s.put o v i j).journal = s.journal := rfl
@[simp] theorem State.put_secu (o : Obj) (v : Int) (i j : Nat) : (s.put o v i j).secu = s.secu := rfl
@[simp] theorem State.put_mem (o : Obj) (v : Int) (i j : Nat) : (s.put o v i j).mem = s.mem := rfl

@[simp] theorem State.rput_pending (o : Obj) (r : Nat) (v : Int) (i : Nat) : (s.rput o r v i).pending = s.pending := rfl
@[simp] theorem State.rput_now (o : Obj) (r : Nat) (v : Int) (i : Nat) : (s.rput o r v i).now = s.now := rfl
@[simp] theorem State.rput_out (o : Obj) (r : Nat) (v : Int) (i : Nat) : (s.rput o r v i).out = s.out := rfl
@[simp] theorem State.rput_drawn (o : Obj) (r : Nat) (v : Int) (i : Nat) : (s.rput o r v i).drawn = s.drawn := rfl
@[simp] theorem State.rput_log (o : Obj) (r : Nat) (v : Int) (i : Nat) : (s.rput o r v i).log = s.log := rfl
@[simp] theorem State.rput_port (o : Obj) (r : Nat) (v : Int) (i : Nat) : (s.rput o r v i).port = s.port := rfl
@[simp] theorem State.rput_onu (o : Obj) (r : Nat) (v : Int) (i : Nat) : (s.rput o r v i).onu = s.onu := rfl
@[simp] theorem State.rput_framer (o : Obj) (r : Nat) (v : Int) (i : Nat) : (s.rput o r v i).framer = s.framer := rfl
@[simp] theorem State.rput_jpend (o : Obj) (r : Nat) (v : Int) (i : Nat) : (s.rput o r v i).jpend = s.jpend := rfl
@[simp] theorem State.rput_nonWhole (o : Obj) (r : Nat) (v : Int) (i : Nat) : (s.rput o r v i).nonWhole = s.nonWhole := rfl
@[simp] theorem State.rput_mapLateAt (o : Obj) (r : Nat) (v : Int) (i : Nat) : (s.rput o r v i).mapLateAt = s.mapLateAt := rfl
@[simp] theorem State.rput_memUeAt (o : Obj) (r : Nat) (v : Int) (i : Nat) : (s.rput o r v i).memUeAt = s.memUeAt := rfl
@[simp] theorem State.rput_act (o : Obj) (r : Nat) (v : Int) (i : Nat) : (s.rput o r v i).act = s.act := rfl
@[simp] theorem State.rput_grant (o : Obj) (r : Nat) (v : Int) (i : Nat) : (s.rput o r v i).grant = s.grant := rfl
@[simp] theorem State.rput_ctx (o : Obj) (r : Nat) (v : Int) (i : Nat) : (s.rput o r v i).ctx = s.ctx := rfl
@[simp] theorem State.rput_optics (o : Obj) (r : Nat) (v : Int) (i : Nat) : (s.rput o r v i).optics = s.optics := rfl
@[simp] theorem State.rput_loops (o : Obj) (r : Nat) (v : Int) (i : Nat) : (s.rput o r v i).loops = s.loops := rfl
@[simp] theorem State.rput_storeQ (o : Obj) (r : Nat) (v : Int) (i : Nat) : (s.rput o r v i).storeQ = s.storeQ := rfl
@[simp] theorem State.rput_nextMap (o : Obj) (r : Nat) (v : Int) (i : Nat) : (s.rput o r v i).nextMap = s.nextMap := rfl
@[simp] theorem State.rput_arb (o : Obj) (r : Nat) (v : Int) (i : Nat) : (s.rput o r v i).arb = s.arb := rfl
@[simp] theorem State.rput_hintEn (o : Obj) (r : Nat) (v : Int) (i : Nat) : (s.rput o r v i).hintEn = s.hintEn := rfl
@[simp] theorem State.rput_capFrom (o : Obj) (r : Nat) (v : Int) (i : Nat) : (s.rput o r v i).capFrom = s.capFrom := rfl
@[simp] theorem State.rput_warmPeer (o : Obj) (r : Nat) (v : Int) (i : Nat) : (s.rput o r v i).warmPeer = s.warmPeer := rfl
@[simp] theorem State.rput_computeLog (o : Obj) (r : Nat) (v : Int) (i : Nat) : (s.rput o r v i).computeLog = s.computeLog := rfl
@[simp] theorem State.rput_findSerial (o : Obj) (r : Nat) (v : Int) (i : Nat) : (s.rput o r v i).findSerial = s.findSerial := rfl
@[simp] theorem State.rput_hintPosts (o : Obj) (r : Nat) (v : Int) (i : Nat) : (s.rput o r v i).hintPosts = s.hintPosts := rfl
@[simp] theorem State.rput_fr (o : Obj) (r : Nat) (v : Int) (i : Nat) : (s.rput o r v i).fr = s.fr := rfl
@[simp] theorem State.rput_reasm (o : Obj) (r : Nat) (v : Int) (i : Nat) : (s.rput o r v i).reasm = s.reasm := rfl
@[simp] theorem State.rput_lag (o : Obj) (r : Nat) (v : Int) (i : Nat) : (s.rput o r v i).lag = s.lag := rfl
@[simp] theorem State.rput_omciRx (o : Obj) (r : Nat) (v : Int) (i : Nat) : (s.rput o r v i).omciRx = s.omciRx := rfl
@[simp] theorem State.rput_pipes (o : Obj) (r : Nat) (v : Int) (i : Nat) : (s.rput o r v i).pipes = s.pipes := rfl
@[simp] theorem State.rput_fwd (o : Obj) (r : Nat) (v : Int) (i : Nat) : (s.rput o r v i).fwd = s.fwd := rfl
@[simp] theorem State.rput_tm (o : Obj) (r : Nat) (v : Int) (i : Nat) : (s.rput o r v i).tm = s.tm := rfl
@[simp] theorem State.rput_upl (o : Obj) (r : Nat) (v : Int) (i : Nat) : (s.rput o r v i).upl = s.upl := rfl
@[simp] theorem State.rput_time (o : Obj) (r : Nat) (v : Int) (i : Nat) : (s.rput o r v i).time = s.time := rfl
@[simp] theorem State.rput_twin (o : Obj) (r : Nat) (v : Int) (i : Nat) : (s.rput o r v i).twin = s.twin := rfl
@[simp] theorem State.rput_power (o : Obj) (r : Nat) (v : Int) (i : Nat) : (s.rput o r v i).power = s.power := rfl
@[simp] theorem State.rput_host (o : Obj) (r : Nat) (v : Int) (i : Nat) : (s.rput o r v i).host = s.host := rfl
@[simp] theorem State.rput_dict (o : Obj) (r : Nat) (v : Int) (i : Nat) : (s.rput o r v i).dict = s.dict := rfl
@[simp] theorem State.rput_journal (o : Obj) (r : Nat) (v : Int) (i : Nat) : (s.rput o r v i).journal = s.journal := rfl
@[simp] theorem State.rput_secu (o : Obj) (r : Nat) (v : Int) (i : Nat) : (s.rput o r v i).secu = s.secu := rfl
@[simp] theorem State.rput_mem (o : Obj) (r : Nat) (v : Int) (i : Nat) : (s.rput o r v i).mem = s.mem := rfl

@[simp] theorem State.bumpBy_pending (o : Obj) (n i j : Nat) : (s.bumpBy o n i j).pending = s.pending := rfl
@[simp] theorem State.bumpBy_now (o : Obj) (n i j : Nat) : (s.bumpBy o n i j).now = s.now := rfl
@[simp] theorem State.bumpBy_out (o : Obj) (n i j : Nat) : (s.bumpBy o n i j).out = s.out := rfl
@[simp] theorem State.bumpBy_drawn (o : Obj) (n i j : Nat) : (s.bumpBy o n i j).drawn = s.drawn := rfl
@[simp] theorem State.bumpBy_log (o : Obj) (n i j : Nat) : (s.bumpBy o n i j).log = s.log := rfl
@[simp] theorem State.bumpBy_port (o : Obj) (n i j : Nat) : (s.bumpBy o n i j).port = s.port := rfl
@[simp] theorem State.bumpBy_onu (o : Obj) (n i j : Nat) : (s.bumpBy o n i j).onu = s.onu := rfl
@[simp] theorem State.bumpBy_framer (o : Obj) (n i j : Nat) : (s.bumpBy o n i j).framer = s.framer := rfl
@[simp] theorem State.bumpBy_jpend (o : Obj) (n i j : Nat) : (s.bumpBy o n i j).jpend = s.jpend := rfl
@[simp] theorem State.bumpBy_nonWhole (o : Obj) (n i j : Nat) : (s.bumpBy o n i j).nonWhole = s.nonWhole := rfl
@[simp] theorem State.bumpBy_mapLateAt (o : Obj) (n i j : Nat) : (s.bumpBy o n i j).mapLateAt = s.mapLateAt := rfl
@[simp] theorem State.bumpBy_memUeAt (o : Obj) (n i j : Nat) : (s.bumpBy o n i j).memUeAt = s.memUeAt := rfl
@[simp] theorem State.bumpBy_act (o : Obj) (n i j : Nat) : (s.bumpBy o n i j).act = s.act := rfl
@[simp] theorem State.bumpBy_grant (o : Obj) (n i j : Nat) : (s.bumpBy o n i j).grant = s.grant := rfl
@[simp] theorem State.bumpBy_ctx (o : Obj) (n i j : Nat) : (s.bumpBy o n i j).ctx = s.ctx := rfl
@[simp] theorem State.bumpBy_optics (o : Obj) (n i j : Nat) : (s.bumpBy o n i j).optics = s.optics := rfl
@[simp] theorem State.bumpBy_loops (o : Obj) (n i j : Nat) : (s.bumpBy o n i j).loops = s.loops := rfl
@[simp] theorem State.bumpBy_storeQ (o : Obj) (n i j : Nat) : (s.bumpBy o n i j).storeQ = s.storeQ := rfl
@[simp] theorem State.bumpBy_nextMap (o : Obj) (n i j : Nat) : (s.bumpBy o n i j).nextMap = s.nextMap := rfl
@[simp] theorem State.bumpBy_arb (o : Obj) (n i j : Nat) : (s.bumpBy o n i j).arb = s.arb := rfl
@[simp] theorem State.bumpBy_hintEn (o : Obj) (n i j : Nat) : (s.bumpBy o n i j).hintEn = s.hintEn := rfl
@[simp] theorem State.bumpBy_capFrom (o : Obj) (n i j : Nat) : (s.bumpBy o n i j).capFrom = s.capFrom := rfl
@[simp] theorem State.bumpBy_warmPeer (o : Obj) (n i j : Nat) : (s.bumpBy o n i j).warmPeer = s.warmPeer := rfl
@[simp] theorem State.bumpBy_computeLog (o : Obj) (n i j : Nat) : (s.bumpBy o n i j).computeLog = s.computeLog := rfl
@[simp] theorem State.bumpBy_findSerial (o : Obj) (n i j : Nat) : (s.bumpBy o n i j).findSerial = s.findSerial := rfl
@[simp] theorem State.bumpBy_hintPosts (o : Obj) (n i j : Nat) : (s.bumpBy o n i j).hintPosts = s.hintPosts := rfl
@[simp] theorem State.bumpBy_fr (o : Obj) (n i j : Nat) : (s.bumpBy o n i j).fr = s.fr := rfl
@[simp] theorem State.bumpBy_reasm (o : Obj) (n i j : Nat) : (s.bumpBy o n i j).reasm = s.reasm := rfl
@[simp] theorem State.bumpBy_lag (o : Obj) (n i j : Nat) : (s.bumpBy o n i j).lag = s.lag := rfl
@[simp] theorem State.bumpBy_omciRx (o : Obj) (n i j : Nat) : (s.bumpBy o n i j).omciRx = s.omciRx := rfl
@[simp] theorem State.bumpBy_pipes (o : Obj) (n i j : Nat) : (s.bumpBy o n i j).pipes = s.pipes := rfl
@[simp] theorem State.bumpBy_fwd (o : Obj) (n i j : Nat) : (s.bumpBy o n i j).fwd = s.fwd := rfl
@[simp] theorem State.bumpBy_tm (o : Obj) (n i j : Nat) : (s.bumpBy o n i j).tm = s.tm := rfl
@[simp] theorem State.bumpBy_upl (o : Obj) (n i j : Nat) : (s.bumpBy o n i j).upl = s.upl := rfl
@[simp] theorem State.bumpBy_time (o : Obj) (n i j : Nat) : (s.bumpBy o n i j).time = s.time := rfl
@[simp] theorem State.bumpBy_twin (o : Obj) (n i j : Nat) : (s.bumpBy o n i j).twin = s.twin := rfl
@[simp] theorem State.bumpBy_power (o : Obj) (n i j : Nat) : (s.bumpBy o n i j).power = s.power := rfl
@[simp] theorem State.bumpBy_host (o : Obj) (n i j : Nat) : (s.bumpBy o n i j).host = s.host := rfl
@[simp] theorem State.bumpBy_dict (o : Obj) (n i j : Nat) : (s.bumpBy o n i j).dict = s.dict := rfl
@[simp] theorem State.bumpBy_journal (o : Obj) (n i j : Nat) : (s.bumpBy o n i j).journal = s.journal := rfl
@[simp] theorem State.bumpBy_secu (o : Obj) (n i j : Nat) : (s.bumpBy o n i j).secu = s.secu := rfl
@[simp] theorem State.bumpBy_mem (o : Obj) (n i j : Nat) : (s.bumpBy o n i j).mem = s.mem := rfl

@[simp] theorem State.bump_pending (o : Obj) (i j : Nat) : (s.bump o i j).pending = s.pending := rfl
@[simp] theorem State.bump_now (o : Obj) (i j : Nat) : (s.bump o i j).now = s.now := rfl
@[simp] theorem State.bump_out (o : Obj) (i j : Nat) : (s.bump o i j).out = s.out := rfl
@[simp] theorem State.bump_drawn (o : Obj) (i j : Nat) : (s.bump o i j).drawn = s.drawn := rfl
@[simp] theorem State.bump_log (o : Obj) (i j : Nat) : (s.bump o i j).log = s.log := rfl
@[simp] theorem State.bump_port (o : Obj) (i j : Nat) : (s.bump o i j).port = s.port := rfl
@[simp] theorem State.bump_onu (o : Obj) (i j : Nat) : (s.bump o i j).onu = s.onu := rfl
@[simp] theorem State.bump_framer (o : Obj) (i j : Nat) : (s.bump o i j).framer = s.framer := rfl
@[simp] theorem State.bump_jpend (o : Obj) (i j : Nat) : (s.bump o i j).jpend = s.jpend := rfl
@[simp] theorem State.bump_nonWhole (o : Obj) (i j : Nat) : (s.bump o i j).nonWhole = s.nonWhole := rfl
@[simp] theorem State.bump_mapLateAt (o : Obj) (i j : Nat) : (s.bump o i j).mapLateAt = s.mapLateAt := rfl
@[simp] theorem State.bump_memUeAt (o : Obj) (i j : Nat) : (s.bump o i j).memUeAt = s.memUeAt := rfl
@[simp] theorem State.bump_act (o : Obj) (i j : Nat) : (s.bump o i j).act = s.act := rfl
@[simp] theorem State.bump_grant (o : Obj) (i j : Nat) : (s.bump o i j).grant = s.grant := rfl
@[simp] theorem State.bump_ctx (o : Obj) (i j : Nat) : (s.bump o i j).ctx = s.ctx := rfl
@[simp] theorem State.bump_optics (o : Obj) (i j : Nat) : (s.bump o i j).optics = s.optics := rfl
@[simp] theorem State.bump_loops (o : Obj) (i j : Nat) : (s.bump o i j).loops = s.loops := rfl
@[simp] theorem State.bump_storeQ (o : Obj) (i j : Nat) : (s.bump o i j).storeQ = s.storeQ := rfl
@[simp] theorem State.bump_nextMap (o : Obj) (i j : Nat) : (s.bump o i j).nextMap = s.nextMap := rfl
@[simp] theorem State.bump_arb (o : Obj) (i j : Nat) : (s.bump o i j).arb = s.arb := rfl
@[simp] theorem State.bump_hintEn (o : Obj) (i j : Nat) : (s.bump o i j).hintEn = s.hintEn := rfl
@[simp] theorem State.bump_capFrom (o : Obj) (i j : Nat) : (s.bump o i j).capFrom = s.capFrom := rfl
@[simp] theorem State.bump_warmPeer (o : Obj) (i j : Nat) : (s.bump o i j).warmPeer = s.warmPeer := rfl
@[simp] theorem State.bump_computeLog (o : Obj) (i j : Nat) : (s.bump o i j).computeLog = s.computeLog := rfl
@[simp] theorem State.bump_findSerial (o : Obj) (i j : Nat) : (s.bump o i j).findSerial = s.findSerial := rfl
@[simp] theorem State.bump_hintPosts (o : Obj) (i j : Nat) : (s.bump o i j).hintPosts = s.hintPosts := rfl
@[simp] theorem State.bump_fr (o : Obj) (i j : Nat) : (s.bump o i j).fr = s.fr := rfl
@[simp] theorem State.bump_reasm (o : Obj) (i j : Nat) : (s.bump o i j).reasm = s.reasm := rfl
@[simp] theorem State.bump_lag (o : Obj) (i j : Nat) : (s.bump o i j).lag = s.lag := rfl
@[simp] theorem State.bump_omciRx (o : Obj) (i j : Nat) : (s.bump o i j).omciRx = s.omciRx := rfl
@[simp] theorem State.bump_pipes (o : Obj) (i j : Nat) : (s.bump o i j).pipes = s.pipes := rfl
@[simp] theorem State.bump_fwd (o : Obj) (i j : Nat) : (s.bump o i j).fwd = s.fwd := rfl
@[simp] theorem State.bump_tm (o : Obj) (i j : Nat) : (s.bump o i j).tm = s.tm := rfl
@[simp] theorem State.bump_upl (o : Obj) (i j : Nat) : (s.bump o i j).upl = s.upl := rfl
@[simp] theorem State.bump_time (o : Obj) (i j : Nat) : (s.bump o i j).time = s.time := rfl
@[simp] theorem State.bump_twin (o : Obj) (i j : Nat) : (s.bump o i j).twin = s.twin := rfl
@[simp] theorem State.bump_power (o : Obj) (i j : Nat) : (s.bump o i j).power = s.power := rfl
@[simp] theorem State.bump_host (o : Obj) (i j : Nat) : (s.bump o i j).host = s.host := rfl
@[simp] theorem State.bump_dict (o : Obj) (i j : Nat) : (s.bump o i j).dict = s.dict := rfl
@[simp] theorem State.bump_journal (o : Obj) (i j : Nat) : (s.bump o i j).journal = s.journal := rfl
@[simp] theorem State.bump_secu (o : Obj) (i j : Nat) : (s.bump o i j).secu = s.secu := rfl
@[simp] theorem State.bump_mem (o : Obj) (i j : Nat) : (s.bump o i j).mem = s.mem := rfl

@[simp] theorem State.rbumpBy_pending (o : Obj) (r n i : Nat) : (s.rbumpBy o r n i).pending = s.pending := rfl
@[simp] theorem State.rbumpBy_now (o : Obj) (r n i : Nat) : (s.rbumpBy o r n i).now = s.now := rfl
@[simp] theorem State.rbumpBy_out (o : Obj) (r n i : Nat) : (s.rbumpBy o r n i).out = s.out := rfl
@[simp] theorem State.rbumpBy_drawn (o : Obj) (r n i : Nat) : (s.rbumpBy o r n i).drawn = s.drawn := rfl
@[simp] theorem State.rbumpBy_log (o : Obj) (r n i : Nat) : (s.rbumpBy o r n i).log = s.log := rfl
@[simp] theorem State.rbumpBy_port (o : Obj) (r n i : Nat) : (s.rbumpBy o r n i).port = s.port := rfl
@[simp] theorem State.rbumpBy_onu (o : Obj) (r n i : Nat) : (s.rbumpBy o r n i).onu = s.onu := rfl
@[simp] theorem State.rbumpBy_framer (o : Obj) (r n i : Nat) : (s.rbumpBy o r n i).framer = s.framer := rfl
@[simp] theorem State.rbumpBy_jpend (o : Obj) (r n i : Nat) : (s.rbumpBy o r n i).jpend = s.jpend := rfl
@[simp] theorem State.rbumpBy_nonWhole (o : Obj) (r n i : Nat) : (s.rbumpBy o r n i).nonWhole = s.nonWhole := rfl
@[simp] theorem State.rbumpBy_mapLateAt (o : Obj) (r n i : Nat) : (s.rbumpBy o r n i).mapLateAt = s.mapLateAt := rfl
@[simp] theorem State.rbumpBy_memUeAt (o : Obj) (r n i : Nat) : (s.rbumpBy o r n i).memUeAt = s.memUeAt := rfl
@[simp] theorem State.rbumpBy_act (o : Obj) (r n i : Nat) : (s.rbumpBy o r n i).act = s.act := rfl
@[simp] theorem State.rbumpBy_grant (o : Obj) (r n i : Nat) : (s.rbumpBy o r n i).grant = s.grant := rfl
@[simp] theorem State.rbumpBy_ctx (o : Obj) (r n i : Nat) : (s.rbumpBy o r n i).ctx = s.ctx := rfl
@[simp] theorem State.rbumpBy_optics (o : Obj) (r n i : Nat) : (s.rbumpBy o r n i).optics = s.optics := rfl
@[simp] theorem State.rbumpBy_loops (o : Obj) (r n i : Nat) : (s.rbumpBy o r n i).loops = s.loops := rfl
@[simp] theorem State.rbumpBy_storeQ (o : Obj) (r n i : Nat) : (s.rbumpBy o r n i).storeQ = s.storeQ := rfl
@[simp] theorem State.rbumpBy_nextMap (o : Obj) (r n i : Nat) : (s.rbumpBy o r n i).nextMap = s.nextMap := rfl
@[simp] theorem State.rbumpBy_arb (o : Obj) (r n i : Nat) : (s.rbumpBy o r n i).arb = s.arb := rfl
@[simp] theorem State.rbumpBy_hintEn (o : Obj) (r n i : Nat) : (s.rbumpBy o r n i).hintEn = s.hintEn := rfl
@[simp] theorem State.rbumpBy_capFrom (o : Obj) (r n i : Nat) : (s.rbumpBy o r n i).capFrom = s.capFrom := rfl
@[simp] theorem State.rbumpBy_warmPeer (o : Obj) (r n i : Nat) : (s.rbumpBy o r n i).warmPeer = s.warmPeer := rfl
@[simp] theorem State.rbumpBy_computeLog (o : Obj) (r n i : Nat) : (s.rbumpBy o r n i).computeLog = s.computeLog := rfl
@[simp] theorem State.rbumpBy_findSerial (o : Obj) (r n i : Nat) : (s.rbumpBy o r n i).findSerial = s.findSerial := rfl
@[simp] theorem State.rbumpBy_hintPosts (o : Obj) (r n i : Nat) : (s.rbumpBy o r n i).hintPosts = s.hintPosts := rfl
@[simp] theorem State.rbumpBy_fr (o : Obj) (r n i : Nat) : (s.rbumpBy o r n i).fr = s.fr := rfl
@[simp] theorem State.rbumpBy_reasm (o : Obj) (r n i : Nat) : (s.rbumpBy o r n i).reasm = s.reasm := rfl
@[simp] theorem State.rbumpBy_lag (o : Obj) (r n i : Nat) : (s.rbumpBy o r n i).lag = s.lag := rfl
@[simp] theorem State.rbumpBy_omciRx (o : Obj) (r n i : Nat) : (s.rbumpBy o r n i).omciRx = s.omciRx := rfl
@[simp] theorem State.rbumpBy_pipes (o : Obj) (r n i : Nat) : (s.rbumpBy o r n i).pipes = s.pipes := rfl
@[simp] theorem State.rbumpBy_fwd (o : Obj) (r n i : Nat) : (s.rbumpBy o r n i).fwd = s.fwd := rfl
@[simp] theorem State.rbumpBy_tm (o : Obj) (r n i : Nat) : (s.rbumpBy o r n i).tm = s.tm := rfl
@[simp] theorem State.rbumpBy_upl (o : Obj) (r n i : Nat) : (s.rbumpBy o r n i).upl = s.upl := rfl
@[simp] theorem State.rbumpBy_time (o : Obj) (r n i : Nat) : (s.rbumpBy o r n i).time = s.time := rfl
@[simp] theorem State.rbumpBy_twin (o : Obj) (r n i : Nat) : (s.rbumpBy o r n i).twin = s.twin := rfl
@[simp] theorem State.rbumpBy_power (o : Obj) (r n i : Nat) : (s.rbumpBy o r n i).power = s.power := rfl
@[simp] theorem State.rbumpBy_host (o : Obj) (r n i : Nat) : (s.rbumpBy o r n i).host = s.host := rfl
@[simp] theorem State.rbumpBy_dict (o : Obj) (r n i : Nat) : (s.rbumpBy o r n i).dict = s.dict := rfl
@[simp] theorem State.rbumpBy_journal (o : Obj) (r n i : Nat) : (s.rbumpBy o r n i).journal = s.journal := rfl
@[simp] theorem State.rbumpBy_secu (o : Obj) (r n i : Nat) : (s.rbumpBy o r n i).secu = s.secu := rfl
@[simp] theorem State.rbumpBy_mem (o : Obj) (r n i : Nat) : (s.rbumpBy o r n i).mem = s.mem := rfl

@[simp] theorem State.rbump_pending (o : Obj) (r i : Nat) : (s.rbump o r i).pending = s.pending := rfl
@[simp] theorem State.rbump_now (o : Obj) (r i : Nat) : (s.rbump o r i).now = s.now := rfl
@[simp] theorem State.rbump_out (o : Obj) (r i : Nat) : (s.rbump o r i).out = s.out := rfl
@[simp] theorem State.rbump_drawn (o : Obj) (r i : Nat) : (s.rbump o r i).drawn = s.drawn := rfl
@[simp] theorem State.rbump_log (o : Obj) (r i : Nat) : (s.rbump o r i).log = s.log := rfl
@[simp] theorem State.rbump_port (o : Obj) (r i : Nat) : (s.rbump o r i).port = s.port := rfl
@[simp] theorem State.rbump_onu (o : Obj) (r i : Nat) : (s.rbump o r i).onu = s.onu := rfl
@[simp] theorem State.rbump_framer (o : Obj) (r i : Nat) : (s.rbump o r i).framer = s.framer := rfl
@[simp] theorem State.rbump_jpend (o : Obj) (r i : Nat) : (s.rbump o r i).jpend = s.jpend := rfl
@[simp] theorem State.rbump_nonWhole (o : Obj) (r i : Nat) : (s.rbump o r i).nonWhole = s.nonWhole := rfl
@[simp] theorem State.rbump_mapLateAt (o : Obj) (r i : Nat) : (s.rbump o r i).mapLateAt = s.mapLateAt := rfl
@[simp] theorem State.rbump_memUeAt (o : Obj) (r i : Nat) : (s.rbump o r i).memUeAt = s.memUeAt := rfl
@[simp] theorem State.rbump_act (o : Obj) (r i : Nat) : (s.rbump o r i).act = s.act := rfl
@[simp] theorem State.rbump_grant (o : Obj) (r i : Nat) : (s.rbump o r i).grant = s.grant := rfl
@[simp] theorem State.rbump_ctx (o : Obj) (r i : Nat) : (s.rbump o r i).ctx = s.ctx := rfl
@[simp] theorem State.rbump_optics (o : Obj) (r i : Nat) : (s.rbump o r i).optics = s.optics := rfl
@[simp] theorem State.rbump_loops (o : Obj) (r i : Nat) : (s.rbump o r i).loops = s.loops := rfl
@[simp] theorem State.rbump_storeQ (o : Obj) (r i : Nat) : (s.rbump o r i).storeQ = s.storeQ := rfl
@[simp] theorem State.rbump_nextMap (o : Obj) (r i : Nat) : (s.rbump o r i).nextMap = s.nextMap := rfl
@[simp] theorem State.rbump_arb (o : Obj) (r i : Nat) : (s.rbump o r i).arb = s.arb := rfl
@[simp] theorem State.rbump_hintEn (o : Obj) (r i : Nat) : (s.rbump o r i).hintEn = s.hintEn := rfl
@[simp] theorem State.rbump_capFrom (o : Obj) (r i : Nat) : (s.rbump o r i).capFrom = s.capFrom := rfl
@[simp] theorem State.rbump_warmPeer (o : Obj) (r i : Nat) : (s.rbump o r i).warmPeer = s.warmPeer := rfl
@[simp] theorem State.rbump_computeLog (o : Obj) (r i : Nat) : (s.rbump o r i).computeLog = s.computeLog := rfl
@[simp] theorem State.rbump_findSerial (o : Obj) (r i : Nat) : (s.rbump o r i).findSerial = s.findSerial := rfl
@[simp] theorem State.rbump_hintPosts (o : Obj) (r i : Nat) : (s.rbump o r i).hintPosts = s.hintPosts := rfl
@[simp] theorem State.rbump_fr (o : Obj) (r i : Nat) : (s.rbump o r i).fr = s.fr := rfl
@[simp] theorem State.rbump_reasm (o : Obj) (r i : Nat) : (s.rbump o r i).reasm = s.reasm := rfl
@[simp] theorem State.rbump_lag (o : Obj) (r i : Nat) : (s.rbump o r i).lag = s.lag := rfl
@[simp] theorem State.rbump_omciRx (o : Obj) (r i : Nat) : (s.rbump o r i).omciRx = s.omciRx := rfl
@[simp] theorem State.rbump_pipes (o : Obj) (r i : Nat) : (s.rbump o r i).pipes = s.pipes := rfl
@[simp] theorem State.rbump_fwd (o : Obj) (r i : Nat) : (s.rbump o r i).fwd = s.fwd := rfl
@[simp] theorem State.rbump_tm (o : Obj) (r i : Nat) : (s.rbump o r i).tm = s.tm := rfl
@[simp] theorem State.rbump_upl (o : Obj) (r i : Nat) : (s.rbump o r i).upl = s.upl := rfl
@[simp] theorem State.rbump_time (o : Obj) (r i : Nat) : (s.rbump o r i).time = s.time := rfl
@[simp] theorem State.rbump_twin (o : Obj) (r i : Nat) : (s.rbump o r i).twin = s.twin := rfl
@[simp] theorem State.rbump_power (o : Obj) (r i : Nat) : (s.rbump o r i).power = s.power := rfl
@[simp] theorem State.rbump_host (o : Obj) (r i : Nat) : (s.rbump o r i).host = s.host := rfl
@[simp] theorem State.rbump_dict (o : Obj) (r i : Nat) : (s.rbump o r i).dict = s.dict := rfl
@[simp] theorem State.rbump_journal (o : Obj) (r i : Nat) : (s.rbump o r i).journal = s.journal := rfl
@[simp] theorem State.rbump_secu (o : Obj) (r i : Nat) : (s.rbump o r i).secu = s.secu := rfl
@[simp] theorem State.rbump_mem (o : Obj) (r i : Nat) : (s.rbump o r i).mem = s.mem := rfl

@[simp] theorem State.emit_pending (x : Out) : (s.emit x).pending = s.pending := rfl
@[simp] theorem State.emit_now (x : Out) : (s.emit x).now = s.now := rfl
@[simp] theorem State.emit_od (x : Out) : (s.emit x).od = s.od := rfl
@[simp] theorem State.emit_drawn (x : Out) : (s.emit x).drawn = s.drawn := rfl
@[simp] theorem State.emit_log (x : Out) : (s.emit x).log = s.log := rfl
@[simp] theorem State.emit_port (x : Out) : (s.emit x).port = s.port := rfl
@[simp] theorem State.emit_onu (x : Out) : (s.emit x).onu = s.onu := rfl
@[simp] theorem State.emit_framer (x : Out) : (s.emit x).framer = s.framer := rfl
@[simp] theorem State.emit_jpend (x : Out) : (s.emit x).jpend = s.jpend := rfl
@[simp] theorem State.emit_nonWhole (x : Out) : (s.emit x).nonWhole = s.nonWhole := rfl
@[simp] theorem State.emit_mapLateAt (x : Out) : (s.emit x).mapLateAt = s.mapLateAt := rfl
@[simp] theorem State.emit_memUeAt (x : Out) : (s.emit x).memUeAt = s.memUeAt := rfl
@[simp] theorem State.emit_act (x : Out) : (s.emit x).act = s.act := rfl
@[simp] theorem State.emit_grant (x : Out) : (s.emit x).grant = s.grant := rfl
@[simp] theorem State.emit_ctx (x : Out) : (s.emit x).ctx = s.ctx := rfl
@[simp] theorem State.emit_optics (x : Out) : (s.emit x).optics = s.optics := rfl
@[simp] theorem State.emit_loops (x : Out) : (s.emit x).loops = s.loops := rfl
@[simp] theorem State.emit_storeQ (x : Out) : (s.emit x).storeQ = s.storeQ := rfl
@[simp] theorem State.emit_nextMap (x : Out) : (s.emit x).nextMap = s.nextMap := rfl
@[simp] theorem State.emit_arb (x : Out) : (s.emit x).arb = s.arb := rfl
@[simp] theorem State.emit_hintEn (x : Out) : (s.emit x).hintEn = s.hintEn := rfl
@[simp] theorem State.emit_capFrom (x : Out) : (s.emit x).capFrom = s.capFrom := rfl
@[simp] theorem State.emit_warmPeer (x : Out) : (s.emit x).warmPeer = s.warmPeer := rfl
@[simp] theorem State.emit_computeLog (x : Out) : (s.emit x).computeLog = s.computeLog := rfl
@[simp] theorem State.emit_findSerial (x : Out) : (s.emit x).findSerial = s.findSerial := rfl
@[simp] theorem State.emit_hintPosts (x : Out) : (s.emit x).hintPosts = s.hintPosts := rfl
@[simp] theorem State.emit_fr (x : Out) : (s.emit x).fr = s.fr := rfl
@[simp] theorem State.emit_reasm (x : Out) : (s.emit x).reasm = s.reasm := rfl
@[simp] theorem State.emit_lag (x : Out) : (s.emit x).lag = s.lag := rfl
@[simp] theorem State.emit_omciRx (x : Out) : (s.emit x).omciRx = s.omciRx := rfl
@[simp] theorem State.emit_pipes (x : Out) : (s.emit x).pipes = s.pipes := rfl
@[simp] theorem State.emit_fwd (x : Out) : (s.emit x).fwd = s.fwd := rfl
@[simp] theorem State.emit_tm (x : Out) : (s.emit x).tm = s.tm := rfl
@[simp] theorem State.emit_upl (x : Out) : (s.emit x).upl = s.upl := rfl
@[simp] theorem State.emit_time (x : Out) : (s.emit x).time = s.time := rfl
@[simp] theorem State.emit_twin (x : Out) : (s.emit x).twin = s.twin := rfl
@[simp] theorem State.emit_power (x : Out) : (s.emit x).power = s.power := rfl
@[simp] theorem State.emit_host (x : Out) : (s.emit x).host = s.host := rfl
@[simp] theorem State.emit_dict (x : Out) : (s.emit x).dict = s.dict := rfl
@[simp] theorem State.emit_journal (x : Out) : (s.emit x).journal = s.journal := rfl
@[simp] theorem State.emit_secu (x : Out) : (s.emit x).secu = s.secu := rfl
@[simp] theorem State.emit_mem (x : Out) : (s.emit x).mem = s.mem := rfl

@[simp] theorem State.result_pending (o : Obj) (r code i j : Nat) : (s.result o r code i j).pending = s.pending := rfl
@[simp] theorem State.result_now (o : Obj) (r code i j : Nat) : (s.result o r code i j).now = s.now := rfl
@[simp] theorem State.result_od (o : Obj) (r code i j : Nat) : (s.result o r code i j).od = s.od := rfl
@[simp] theorem State.result_drawn (o : Obj) (r code i j : Nat) : (s.result o r code i j).drawn = s.drawn := rfl
@[simp] theorem State.result_log (o : Obj) (r code i j : Nat) : (s.result o r code i j).log = s.log := rfl
@[simp] theorem State.result_port (o : Obj) (r code i j : Nat) : (s.result o r code i j).port = s.port := rfl
@[simp] theorem State.result_onu (o : Obj) (r code i j : Nat) : (s.result o r code i j).onu = s.onu := rfl
@[simp] theorem State.result_framer (o : Obj) (r code i j : Nat) : (s.result o r code i j).framer = s.framer := rfl
@[simp] theorem State.result_jpend (o : Obj) (r code i j : Nat) : (s.result o r code i j).jpend = s.jpend := rfl
@[simp] theorem State.result_nonWhole (o : Obj) (r code i j : Nat) : (s.result o r code i j).nonWhole = s.nonWhole := rfl
@[simp] theorem State.result_mapLateAt (o : Obj) (r code i j : Nat) : (s.result o r code i j).mapLateAt = s.mapLateAt := rfl
@[simp] theorem State.result_memUeAt (o : Obj) (r code i j : Nat) : (s.result o r code i j).memUeAt = s.memUeAt := rfl
@[simp] theorem State.result_act (o : Obj) (r code i j : Nat) : (s.result o r code i j).act = s.act := rfl
@[simp] theorem State.result_grant (o : Obj) (r code i j : Nat) : (s.result o r code i j).grant = s.grant := rfl
@[simp] theorem State.result_ctx (o : Obj) (r code i j : Nat) : (s.result o r code i j).ctx = s.ctx := rfl
@[simp] theorem State.result_optics (o : Obj) (r code i j : Nat) : (s.result o r code i j).optics = s.optics := rfl
@[simp] theorem State.result_loops (o : Obj) (r code i j : Nat) : (s.result o r code i j).loops = s.loops := rfl
@[simp] theorem State.result_storeQ (o : Obj) (r code i j : Nat) : (s.result o r code i j).storeQ = s.storeQ := rfl
@[simp] theorem State.result_nextMap (o : Obj) (r code i j : Nat) : (s.result o r code i j).nextMap = s.nextMap := rfl
@[simp] theorem State.result_arb (o : Obj) (r code i j : Nat) : (s.result o r code i j).arb = s.arb := rfl
@[simp] theorem State.result_hintEn (o : Obj) (r code i j : Nat) : (s.result o r code i j).hintEn = s.hintEn := rfl
@[simp] theorem State.result_capFrom (o : Obj) (r code i j : Nat) : (s.result o r code i j).capFrom = s.capFrom := rfl
@[simp] theorem State.result_warmPeer (o : Obj) (r code i j : Nat) : (s.result o r code i j).warmPeer = s.warmPeer := rfl
@[simp] theorem State.result_computeLog (o : Obj) (r code i j : Nat) : (s.result o r code i j).computeLog = s.computeLog := rfl
@[simp] theorem State.result_findSerial (o : Obj) (r code i j : Nat) : (s.result o r code i j).findSerial = s.findSerial := rfl
@[simp] theorem State.result_hintPosts (o : Obj) (r code i j : Nat) : (s.result o r code i j).hintPosts = s.hintPosts := rfl
@[simp] theorem State.result_fr (o : Obj) (r code i j : Nat) : (s.result o r code i j).fr = s.fr := rfl
@[simp] theorem State.result_reasm (o : Obj) (r code i j : Nat) : (s.result o r code i j).reasm = s.reasm := rfl
@[simp] theorem State.result_lag (o : Obj) (r code i j : Nat) : (s.result o r code i j).lag = s.lag := rfl
@[simp] theorem State.result_omciRx (o : Obj) (r code i j : Nat) : (s.result o r code i j).omciRx = s.omciRx := rfl
@[simp] theorem State.result_pipes (o : Obj) (r code i j : Nat) : (s.result o r code i j).pipes = s.pipes := rfl
@[simp] theorem State.result_fwd (o : Obj) (r code i j : Nat) : (s.result o r code i j).fwd = s.fwd := rfl
@[simp] theorem State.result_tm (o : Obj) (r code i j : Nat) : (s.result o r code i j).tm = s.tm := rfl
@[simp] theorem State.result_upl (o : Obj) (r code i j : Nat) : (s.result o r code i j).upl = s.upl := rfl
@[simp] theorem State.result_time (o : Obj) (r code i j : Nat) : (s.result o r code i j).time = s.time := rfl
@[simp] theorem State.result_twin (o : Obj) (r code i j : Nat) : (s.result o r code i j).twin = s.twin := rfl
@[simp] theorem State.result_power (o : Obj) (r code i j : Nat) : (s.result o r code i j).power = s.power := rfl
@[simp] theorem State.result_host (o : Obj) (r code i j : Nat) : (s.result o r code i j).host = s.host := rfl
@[simp] theorem State.result_dict (o : Obj) (r code i j : Nat) : (s.result o r code i j).dict = s.dict := rfl
@[simp] theorem State.result_journal (o : Obj) (r code i j : Nat) : (s.result o r code i j).journal = s.journal := rfl
@[simp] theorem State.result_secu (o : Obj) (r code i j : Nat) : (s.result o r code i j).secu = s.secu := rfl
@[simp] theorem State.result_mem (o : Obj) (r code i j : Nat) : (s.result o r code i j).mem = s.mem := rfl

@[simp] theorem State.votSend_pending (kind k seq : Nat) (body : List Nat) : (s.votSend kind k seq body).pending = s.pending := rfl
@[simp] theorem State.votSend_now (kind k seq : Nat) (body : List Nat) : (s.votSend kind k seq body).now = s.now := rfl
@[simp] theorem State.votSend_od (kind k seq : Nat) (body : List Nat) : (s.votSend kind k seq body).od = s.od := rfl
@[simp] theorem State.votSend_drawn (kind k seq : Nat) (body : List Nat) : (s.votSend kind k seq body).drawn = s.drawn := rfl
@[simp] theorem State.votSend_log (kind k seq : Nat) (body : List Nat) : (s.votSend kind k seq body).log = s.log := rfl
@[simp] theorem State.votSend_port (kind k seq : Nat) (body : List Nat) : (s.votSend kind k seq body).port = s.port := rfl
@[simp] theorem State.votSend_onu (kind k seq : Nat) (body : List Nat) : (s.votSend kind k seq body).onu = s.onu := rfl
@[simp] theorem State.votSend_framer (kind k seq : Nat) (body : List Nat) : (s.votSend kind k seq body).framer = s.framer := rfl
@[simp] theorem State.votSend_jpend (kind k seq : Nat) (body : List Nat) : (s.votSend kind k seq body).jpend = s.jpend := rfl
@[simp] theorem State.votSend_nonWhole (kind k seq : Nat) (body : List Nat) : (s.votSend kind k seq body).nonWhole = s.nonWhole := rfl
@[simp] theorem State.votSend_mapLateAt (kind k seq : Nat) (body : List Nat) : (s.votSend kind k seq body).mapLateAt = s.mapLateAt := rfl
@[simp] theorem State.votSend_memUeAt (kind k seq : Nat) (body : List Nat) : (s.votSend kind k seq body).memUeAt = s.memUeAt := rfl
@[simp] theorem State.votSend_act (kind k seq : Nat) (body : List Nat) : (s.votSend kind k seq body).act = s.act := rfl
@[simp] theorem State.votSend_grant (kind k seq : Nat) (body : List Nat) : (s.votSend kind k seq body).grant = s.grant := rfl
@[simp] theorem State.votSend_ctx (kind k seq : Nat) (body : List Nat) : (s.votSend kind k seq body).ctx = s.ctx := rfl
@[simp] theorem State.votSend_optics (kind k seq : Nat) (body : List Nat) : (s.votSend kind k seq body).optics = s.optics := rfl
@[simp] theorem State.votSend_loops (kind k seq : Nat) (body : List Nat) : (s.votSend kind k seq body).loops = s.loops := rfl
@[simp] theorem State.votSend_storeQ (kind k seq : Nat) (body : List Nat) : (s.votSend kind k seq body).storeQ = s.storeQ := rfl
@[simp] theorem State.votSend_nextMap (kind k seq : Nat) (body : List Nat) : (s.votSend kind k seq body).nextMap = s.nextMap := rfl
@[simp] theorem State.votSend_arb (kind k seq : Nat) (body : List Nat) : (s.votSend kind k seq body).arb = s.arb := rfl
@[simp] theorem State.votSend_hintEn (kind k seq : Nat) (body : List Nat) : (s.votSend kind k seq body).hintEn = s.hintEn := rfl
@[simp] theorem State.votSend_capFrom (kind k seq : Nat) (body : List Nat) : (s.votSend kind k seq body).capFrom = s.capFrom := rfl
@[simp] theorem State.votSend_warmPeer (kind k seq : Nat) (body : List Nat) : (s.votSend kind k seq body).warmPeer = s.warmPeer := rfl
@[simp] theorem State.votSend_computeLog (kind k seq : Nat) (body : List Nat) : (s.votSend kind k seq body).computeLog = s.computeLog := rfl
@[simp] theorem State.votSend_findSerial (kind k seq : Nat) (body : List Nat) : (s.votSend kind k seq body).findSerial = s.findSerial := rfl
@[simp] theorem State.votSend_hintPosts (kind k seq : Nat) (body : List Nat) : (s.votSend kind k seq body).hintPosts = s.hintPosts := rfl
@[simp] theorem State.votSend_fr (kind k seq : Nat) (body : List Nat) : (s.votSend kind k seq body).fr = s.fr := rfl
@[simp] theorem State.votSend_reasm (kind k seq : Nat) (body : List Nat) : (s.votSend kind k seq body).reasm = s.reasm := rfl
@[simp] theorem State.votSend_lag (kind k seq : Nat) (body : List Nat) : (s.votSend kind k seq body).lag = s.lag := rfl
@[simp] theorem State.votSend_omciRx (kind k seq : Nat) (body : List Nat) : (s.votSend kind k seq body).omciRx = s.omciRx := rfl
@[simp] theorem State.votSend_pipes (kind k seq : Nat) (body : List Nat) : (s.votSend kind k seq body).pipes = s.pipes := rfl
@[simp] theorem State.votSend_fwd (kind k seq : Nat) (body : List Nat) : (s.votSend kind k seq body).fwd = s.fwd := rfl
@[simp] theorem State.votSend_tm (kind k seq : Nat) (body : List Nat) : (s.votSend kind k seq body).tm = s.tm := rfl
@[simp] theorem State.votSend_upl (kind k seq : Nat) (body : List Nat) : (s.votSend kind k seq body).upl = s.upl := rfl
@[simp] theorem State.votSend_time (kind k seq : Nat) (body : List Nat) : (s.votSend kind k seq body).time = s.time := rfl
@[simp] theorem State.votSend_twin (kind k seq : Nat) (body : List Nat) : (s.votSend kind k seq body).twin = s.twin := rfl
@[simp] theorem State.votSend_power (kind k seq : Nat) (body : List Nat) : (s.votSend kind k seq body).power = s.power := rfl
@[simp] theorem State.votSend_host (kind k seq : Nat) (body : List Nat) : (s.votSend kind k seq body).host = s.host := rfl
@[simp] theorem State.votSend_dict (kind k seq : Nat) (body : List Nat) : (s.votSend kind k seq body).dict = s.dict := rfl
@[simp] theorem State.votSend_journal (kind k seq : Nat) (body : List Nat) : (s.votSend kind k seq body).journal = s.journal := rfl
@[simp] theorem State.votSend_secu (kind k seq : Nat) (body : List Nat) : (s.votSend kind k seq body).secu = s.secu := rfl
@[simp] theorem State.votSend_mem (kind k seq : Nat) (body : List Nat) : (s.votSend kind k seq body).mem = s.mem := rfl

@[simp] theorem State.draw_pending : (s.draw.2).pending = s.pending := rfl
@[simp] theorem State.draw_now : (s.draw.2).now = s.now := rfl
@[simp] theorem State.draw_od : (s.draw.2).od = s.od := rfl
@[simp] theorem State.draw_out : (s.draw.2).out = s.out := rfl
@[simp] theorem State.draw_log : (s.draw.2).log = s.log := rfl
@[simp] theorem State.draw_port : (s.draw.2).port = s.port := rfl
@[simp] theorem State.draw_onu : (s.draw.2).onu = s.onu := rfl
@[simp] theorem State.draw_framer : (s.draw.2).framer = s.framer := rfl
@[simp] theorem State.draw_jpend : (s.draw.2).jpend = s.jpend := rfl
@[simp] theorem State.draw_nonWhole : (s.draw.2).nonWhole = s.nonWhole := rfl
@[simp] theorem State.draw_mapLateAt : (s.draw.2).mapLateAt = s.mapLateAt := rfl
@[simp] theorem State.draw_memUeAt : (s.draw.2).memUeAt = s.memUeAt := rfl
@[simp] theorem State.draw_act : (s.draw.2).act = s.act := rfl
@[simp] theorem State.draw_grant : (s.draw.2).grant = s.grant := rfl
@[simp] theorem State.draw_ctx : (s.draw.2).ctx = s.ctx := rfl
@[simp] theorem State.draw_optics : (s.draw.2).optics = s.optics := rfl
@[simp] theorem State.draw_loops : (s.draw.2).loops = s.loops := rfl
@[simp] theorem State.draw_storeQ : (s.draw.2).storeQ = s.storeQ := rfl
@[simp] theorem State.draw_nextMap : (s.draw.2).nextMap = s.nextMap := rfl
@[simp] theorem State.draw_arb : (s.draw.2).arb = s.arb := rfl
@[simp] theorem State.draw_hintEn : (s.draw.2).hintEn = s.hintEn := rfl
@[simp] theorem State.draw_capFrom : (s.draw.2).capFrom = s.capFrom := rfl
@[simp] theorem State.draw_warmPeer : (s.draw.2).warmPeer = s.warmPeer := rfl
@[simp] theorem State.draw_computeLog : (s.draw.2).computeLog = s.computeLog := rfl
@[simp] theorem State.draw_findSerial : (s.draw.2).findSerial = s.findSerial := rfl
@[simp] theorem State.draw_hintPosts : (s.draw.2).hintPosts = s.hintPosts := rfl
@[simp] theorem State.draw_fr : (s.draw.2).fr = s.fr := rfl
@[simp] theorem State.draw_reasm : (s.draw.2).reasm = s.reasm := rfl
@[simp] theorem State.draw_lag : (s.draw.2).lag = s.lag := rfl
@[simp] theorem State.draw_omciRx : (s.draw.2).omciRx = s.omciRx := rfl
@[simp] theorem State.draw_pipes : (s.draw.2).pipes = s.pipes := rfl
@[simp] theorem State.draw_fwd : (s.draw.2).fwd = s.fwd := rfl
@[simp] theorem State.draw_tm : (s.draw.2).tm = s.tm := rfl
@[simp] theorem State.draw_upl : (s.draw.2).upl = s.upl := rfl
@[simp] theorem State.draw_time : (s.draw.2).time = s.time := rfl
@[simp] theorem State.draw_twin : (s.draw.2).twin = s.twin := rfl
@[simp] theorem State.draw_power : (s.draw.2).power = s.power := rfl
@[simp] theorem State.draw_host : (s.draw.2).host = s.host := rfl
@[simp] theorem State.draw_dict : (s.draw.2).dict = s.dict := rfl
@[simp] theorem State.draw_journal : (s.draw.2).journal = s.journal := rfl
@[simp] theorem State.draw_secu : (s.draw.2).secu = s.secu := rfl
@[simp] theorem State.draw_mem : (s.draw.2).mem = s.mem := rfl

@[simp] theorem State.granted_pending (a q : Nat) : (s.granted a q).pending = s.pending := rfl
@[simp] theorem State.granted_now (a q : Nat) : (s.granted a q).now = s.now := rfl
@[simp] theorem State.granted_od (a q : Nat) : (s.granted a q).od = s.od := rfl
@[simp] theorem State.granted_out (a q : Nat) : (s.granted a q).out = s.out := rfl
@[simp] theorem State.granted_drawn (a q : Nat) : (s.granted a q).drawn = s.drawn := rfl
@[simp] theorem State.granted_log (a q : Nat) : (s.granted a q).log = s.log := rfl
@[simp] theorem State.granted_port (a q : Nat) : (s.granted a q).port = s.port := rfl
@[simp] theorem State.granted_onu (a q : Nat) : (s.granted a q).onu = s.onu := rfl
@[simp] theorem State.granted_framer (a q : Nat) : (s.granted a q).framer = s.framer := rfl
@[simp] theorem State.granted_jpend (a q : Nat) : (s.granted a q).jpend = s.jpend := rfl
@[simp] theorem State.granted_nonWhole (a q : Nat) : (s.granted a q).nonWhole = s.nonWhole := rfl
@[simp] theorem State.granted_mapLateAt (a q : Nat) : (s.granted a q).mapLateAt = s.mapLateAt := rfl
@[simp] theorem State.granted_memUeAt (a q : Nat) : (s.granted a q).memUeAt = s.memUeAt := rfl
@[simp] theorem State.granted_act (a q : Nat) : (s.granted a q).act = s.act := rfl
@[simp] theorem State.granted_grant (a q : Nat) : (s.granted a q).grant = s.grant := rfl
@[simp] theorem State.granted_ctx (a q : Nat) : (s.granted a q).ctx = s.ctx := rfl
@[simp] theorem State.granted_optics (a q : Nat) : (s.granted a q).optics = s.optics := rfl
@[simp] theorem State.granted_loops (a q : Nat) : (s.granted a q).loops = s.loops := rfl
@[simp] theorem State.granted_storeQ (a q : Nat) : (s.granted a q).storeQ = s.storeQ := rfl
@[simp] theorem State.granted_nextMap (a q : Nat) : (s.granted a q).nextMap = s.nextMap := rfl
@[simp] theorem State.granted_hintEn (a q : Nat) : (s.granted a q).hintEn = s.hintEn := rfl
@[simp] theorem State.granted_capFrom (a q : Nat) : (s.granted a q).capFrom = s.capFrom := rfl
@[simp] theorem State.granted_warmPeer (a q : Nat) : (s.granted a q).warmPeer = s.warmPeer := rfl
@[simp] theorem State.granted_computeLog (a q : Nat) : (s.granted a q).computeLog = s.computeLog := rfl
@[simp] theorem State.granted_findSerial (a q : Nat) : (s.granted a q).findSerial = s.findSerial := rfl
@[simp] theorem State.granted_hintPosts (a q : Nat) : (s.granted a q).hintPosts = s.hintPosts := rfl
@[simp] theorem State.granted_fr (a q : Nat) : (s.granted a q).fr = s.fr := rfl
@[simp] theorem State.granted_reasm (a q : Nat) : (s.granted a q).reasm = s.reasm := rfl
@[simp] theorem State.granted_lag (a q : Nat) : (s.granted a q).lag = s.lag := rfl
@[simp] theorem State.granted_omciRx (a q : Nat) : (s.granted a q).omciRx = s.omciRx := rfl
@[simp] theorem State.granted_pipes (a q : Nat) : (s.granted a q).pipes = s.pipes := rfl
@[simp] theorem State.granted_fwd (a q : Nat) : (s.granted a q).fwd = s.fwd := rfl
@[simp] theorem State.granted_tm (a q : Nat) : (s.granted a q).tm = s.tm := rfl
@[simp] theorem State.granted_upl (a q : Nat) : (s.granted a q).upl = s.upl := rfl
@[simp] theorem State.granted_time (a q : Nat) : (s.granted a q).time = s.time := rfl
@[simp] theorem State.granted_twin (a q : Nat) : (s.granted a q).twin = s.twin := rfl
@[simp] theorem State.granted_power (a q : Nat) : (s.granted a q).power = s.power := rfl
@[simp] theorem State.granted_host (a q : Nat) : (s.granted a q).host = s.host := rfl
@[simp] theorem State.granted_dict (a q : Nat) : (s.granted a q).dict = s.dict := rfl
@[simp] theorem State.granted_journal (a q : Nat) : (s.granted a q).journal = s.journal := rfl
@[simp] theorem State.granted_secu (a q : Nat) : (s.granted a q).secu = s.secu := rfl
@[simp] theorem State.granted_mem (a q : Nat) : (s.granted a q).mem = s.mem := rfl

@[simp] theorem State.dropRecord_pending (index r : Nat) : (s.dropRecord index r).pending = s.pending := rfl
@[simp] theorem State.dropRecord_now (index r : Nat) : (s.dropRecord index r).now = s.now := rfl
@[simp] theorem State.dropRecord_out (index r : Nat) : (s.dropRecord index r).out = s.out := rfl
@[simp] theorem State.dropRecord_drawn (index r : Nat) : (s.dropRecord index r).drawn = s.drawn := rfl
@[simp] theorem State.dropRecord_log (index r : Nat) : (s.dropRecord index r).log = s.log := rfl
@[simp] theorem State.dropRecord_port (index r : Nat) : (s.dropRecord index r).port = s.port := rfl
@[simp] theorem State.dropRecord_onu (index r : Nat) : (s.dropRecord index r).onu = s.onu := rfl
@[simp] theorem State.dropRecord_framer (index r : Nat) : (s.dropRecord index r).framer = s.framer := rfl
@[simp] theorem State.dropRecord_jpend (index r : Nat) : (s.dropRecord index r).jpend = s.jpend := rfl
@[simp] theorem State.dropRecord_nonWhole (index r : Nat) : (s.dropRecord index r).nonWhole = s.nonWhole := rfl
@[simp] theorem State.dropRecord_mapLateAt (index r : Nat) : (s.dropRecord index r).mapLateAt = s.mapLateAt := rfl
@[simp] theorem State.dropRecord_memUeAt (index r : Nat) : (s.dropRecord index r).memUeAt = s.memUeAt := rfl
@[simp] theorem State.dropRecord_act (index r : Nat) : (s.dropRecord index r).act = s.act := rfl
@[simp] theorem State.dropRecord_grant (index r : Nat) : (s.dropRecord index r).grant = s.grant := rfl
@[simp] theorem State.dropRecord_ctx (index r : Nat) : (s.dropRecord index r).ctx = s.ctx := rfl
@[simp] theorem State.dropRecord_optics (index r : Nat) : (s.dropRecord index r).optics = s.optics := rfl
@[simp] theorem State.dropRecord_loops (index r : Nat) : (s.dropRecord index r).loops = s.loops := rfl
@[simp] theorem State.dropRecord_storeQ (index r : Nat) : (s.dropRecord index r).storeQ = s.storeQ := rfl
@[simp] theorem State.dropRecord_nextMap (index r : Nat) : (s.dropRecord index r).nextMap = s.nextMap := rfl
@[simp] theorem State.dropRecord_arb (index r : Nat) : (s.dropRecord index r).arb = s.arb := rfl
@[simp] theorem State.dropRecord_hintEn (index r : Nat) : (s.dropRecord index r).hintEn = s.hintEn := rfl
@[simp] theorem State.dropRecord_capFrom (index r : Nat) : (s.dropRecord index r).capFrom = s.capFrom := rfl
@[simp] theorem State.dropRecord_warmPeer (index r : Nat) : (s.dropRecord index r).warmPeer = s.warmPeer := rfl
@[simp] theorem State.dropRecord_computeLog (index r : Nat) : (s.dropRecord index r).computeLog = s.computeLog := rfl
@[simp] theorem State.dropRecord_findSerial (index r : Nat) : (s.dropRecord index r).findSerial = s.findSerial := rfl
@[simp] theorem State.dropRecord_hintPosts (index r : Nat) : (s.dropRecord index r).hintPosts = s.hintPosts := rfl
@[simp] theorem State.dropRecord_fr (index r : Nat) : (s.dropRecord index r).fr = s.fr := rfl
@[simp] theorem State.dropRecord_reasm (index r : Nat) : (s.dropRecord index r).reasm = s.reasm := rfl
@[simp] theorem State.dropRecord_lag (index r : Nat) : (s.dropRecord index r).lag = s.lag := rfl
@[simp] theorem State.dropRecord_omciRx (index r : Nat) : (s.dropRecord index r).omciRx = s.omciRx := rfl
@[simp] theorem State.dropRecord_pipes (index r : Nat) : (s.dropRecord index r).pipes = s.pipes := rfl
@[simp] theorem State.dropRecord_fwd (index r : Nat) : (s.dropRecord index r).fwd = s.fwd := rfl
@[simp] theorem State.dropRecord_tm (index r : Nat) : (s.dropRecord index r).tm = s.tm := rfl
@[simp] theorem State.dropRecord_upl (index r : Nat) : (s.dropRecord index r).upl = s.upl := rfl
@[simp] theorem State.dropRecord_time (index r : Nat) : (s.dropRecord index r).time = s.time := rfl
@[simp] theorem State.dropRecord_twin (index r : Nat) : (s.dropRecord index r).twin = s.twin := rfl
@[simp] theorem State.dropRecord_power (index r : Nat) : (s.dropRecord index r).power = s.power := rfl
@[simp] theorem State.dropRecord_host (index r : Nat) : (s.dropRecord index r).host = s.host := rfl
@[simp] theorem State.dropRecord_dict (index r : Nat) : (s.dropRecord index r).dict = s.dict := rfl
@[simp] theorem State.dropRecord_journal (index r : Nat) : (s.dropRecord index r).journal = s.journal := rfl
@[simp] theorem State.dropRecord_secu (index r : Nat) : (s.dropRecord index r).secu = s.secu := rfl
@[simp] theorem State.dropRecord_mem (index r : Nat) : (s.dropRecord index r).mem = s.mem := rfl

@[simp] theorem State.markNew_pending (index r : Nat) : (s.markNew index r).pending = s.pending := rfl
@[simp] theorem State.markNew_now (index r : Nat) : (s.markNew index r).now = s.now := rfl
@[simp] theorem State.markNew_out (index r : Nat) : (s.markNew index r).out = s.out := rfl
@[simp] theorem State.markNew_drawn (index r : Nat) : (s.markNew index r).drawn = s.drawn := rfl
@[simp] theorem State.markNew_log (index r : Nat) : (s.markNew index r).log = s.log := rfl
@[simp] theorem State.markNew_port (index r : Nat) : (s.markNew index r).port = s.port := rfl
@[simp] theorem State.markNew_onu (index r : Nat) : (s.markNew index r).onu = s.onu := rfl
@[simp] theorem State.markNew_framer (index r : Nat) : (s.markNew index r).framer = s.framer := rfl
@[simp] theorem State.markNew_nonWhole (index r : Nat) : (s.markNew index r).nonWhole = s.nonWhole := rfl
@[simp] theorem State.markNew_mapLateAt (index r : Nat) : (s.markNew index r).mapLateAt = s.mapLateAt := rfl
@[simp] theorem State.markNew_memUeAt (index r : Nat) : (s.markNew index r).memUeAt = s.memUeAt := rfl
@[simp] theorem State.markNew_act (index r : Nat) : (s.markNew index r).act = s.act := rfl
@[simp] theorem State.markNew_grant (index r : Nat) : (s.markNew index r).grant = s.grant := rfl
@[simp] theorem State.markNew_ctx (index r : Nat) : (s.markNew index r).ctx = s.ctx := rfl
@[simp] theorem State.markNew_optics (index r : Nat) : (s.markNew index r).optics = s.optics := rfl
@[simp] theorem State.markNew_loops (index r : Nat) : (s.markNew index r).loops = s.loops := rfl
@[simp] theorem State.markNew_storeQ (index r : Nat) : (s.markNew index r).storeQ = s.storeQ := rfl
@[simp] theorem State.markNew_nextMap (index r : Nat) : (s.markNew index r).nextMap = s.nextMap := rfl
@[simp] theorem State.markNew_arb (index r : Nat) : (s.markNew index r).arb = s.arb := rfl
@[simp] theorem State.markNew_hintEn (index r : Nat) : (s.markNew index r).hintEn = s.hintEn := rfl
@[simp] theorem State.markNew_capFrom (index r : Nat) : (s.markNew index r).capFrom = s.capFrom := rfl
@[simp] theorem State.markNew_warmPeer (index r : Nat) : (s.markNew index r).warmPeer = s.warmPeer := rfl
@[simp] theorem State.markNew_computeLog (index r : Nat) : (s.markNew index r).computeLog = s.computeLog := rfl
@[simp] theorem State.markNew_findSerial (index r : Nat) : (s.markNew index r).findSerial = s.findSerial := rfl
@[simp] theorem State.markNew_hintPosts (index r : Nat) : (s.markNew index r).hintPosts = s.hintPosts := rfl
@[simp] theorem State.markNew_fr (index r : Nat) : (s.markNew index r).fr = s.fr := rfl
@[simp] theorem State.markNew_reasm (index r : Nat) : (s.markNew index r).reasm = s.reasm := rfl
@[simp] theorem State.markNew_lag (index r : Nat) : (s.markNew index r).lag = s.lag := rfl
@[simp] theorem State.markNew_omciRx (index r : Nat) : (s.markNew index r).omciRx = s.omciRx := rfl
@[simp] theorem State.markNew_pipes (index r : Nat) : (s.markNew index r).pipes = s.pipes := rfl
@[simp] theorem State.markNew_fwd (index r : Nat) : (s.markNew index r).fwd = s.fwd := rfl
@[simp] theorem State.markNew_tm (index r : Nat) : (s.markNew index r).tm = s.tm := rfl
@[simp] theorem State.markNew_upl (index r : Nat) : (s.markNew index r).upl = s.upl := rfl
@[simp] theorem State.markNew_time (index r : Nat) : (s.markNew index r).time = s.time := rfl
@[simp] theorem State.markNew_twin (index r : Nat) : (s.markNew index r).twin = s.twin := rfl
@[simp] theorem State.markNew_power (index r : Nat) : (s.markNew index r).power = s.power := rfl
@[simp] theorem State.markNew_host (index r : Nat) : (s.markNew index r).host = s.host := rfl
@[simp] theorem State.markNew_dict (index r : Nat) : (s.markNew index r).dict = s.dict := rfl
@[simp] theorem State.markNew_journal (index r : Nat) : (s.markNew index r).journal = s.journal := rfl
@[simp] theorem State.markNew_secu (index r : Nat) : (s.markNew index r).secu = s.secu := rfl
@[simp] theorem State.markNew_mem (index r : Nat) : (s.markNew index r).mem = s.mem := rfl

@[simp] theorem State.markGone_pending (index r : Nat) : (s.markGone index r).pending = s.pending := rfl
@[simp] theorem State.markGone_now (index r : Nat) : (s.markGone index r).now = s.now := rfl
@[simp] theorem State.markGone_out (index r : Nat) : (s.markGone index r).out = s.out := rfl
@[simp] theorem State.markGone_drawn (index r : Nat) : (s.markGone index r).drawn = s.drawn := rfl
@[simp] theorem State.markGone_log (index r : Nat) : (s.markGone index r).log = s.log := rfl
@[simp] theorem State.markGone_port (index r : Nat) : (s.markGone index r).port = s.port := rfl
@[simp] theorem State.markGone_onu (index r : Nat) : (s.markGone index r).onu = s.onu := rfl
@[simp] theorem State.markGone_framer (index r : Nat) : (s.markGone index r).framer = s.framer := rfl
@[simp] theorem State.markGone_nonWhole (index r : Nat) : (s.markGone index r).nonWhole = s.nonWhole := rfl
@[simp] theorem State.markGone_mapLateAt (index r : Nat) : (s.markGone index r).mapLateAt = s.mapLateAt := rfl
@[simp] theorem State.markGone_memUeAt (index r : Nat) : (s.markGone index r).memUeAt = s.memUeAt := rfl
@[simp] theorem State.markGone_act (index r : Nat) : (s.markGone index r).act = s.act := rfl
@[simp] theorem State.markGone_grant (index r : Nat) : (s.markGone index r).grant = s.grant := rfl
@[simp] theorem State.markGone_ctx (index r : Nat) : (s.markGone index r).ctx = s.ctx := rfl
@[simp] theorem State.markGone_optics (index r : Nat) : (s.markGone index r).optics = s.optics := rfl
@[simp] theorem State.markGone_loops (index r : Nat) : (s.markGone index r).loops = s.loops := rfl
@[simp] theorem State.markGone_storeQ (index r : Nat) : (s.markGone index r).storeQ = s.storeQ := rfl
@[simp] theorem State.markGone_nextMap (index r : Nat) : (s.markGone index r).nextMap = s.nextMap := rfl
@[simp] theorem State.markGone_arb (index r : Nat) : (s.markGone index r).arb = s.arb := rfl
@[simp] theorem State.markGone_hintEn (index r : Nat) : (s.markGone index r).hintEn = s.hintEn := rfl
@[simp] theorem State.markGone_capFrom (index r : Nat) : (s.markGone index r).capFrom = s.capFrom := rfl
@[simp] theorem State.markGone_warmPeer (index r : Nat) : (s.markGone index r).warmPeer = s.warmPeer := rfl
@[simp] theorem State.markGone_computeLog (index r : Nat) : (s.markGone index r).computeLog = s.computeLog := rfl
@[simp] theorem State.markGone_findSerial (index r : Nat) : (s.markGone index r).findSerial = s.findSerial := rfl
@[simp] theorem State.markGone_hintPosts (index r : Nat) : (s.markGone index r).hintPosts = s.hintPosts := rfl
@[simp] theorem State.markGone_fr (index r : Nat) : (s.markGone index r).fr = s.fr := rfl
@[simp] theorem State.markGone_reasm (index r : Nat) : (s.markGone index r).reasm = s.reasm := rfl
@[simp] theorem State.markGone_lag (index r : Nat) : (s.markGone index r).lag = s.lag := rfl
@[simp] theorem State.markGone_omciRx (index r : Nat) : (s.markGone index r).omciRx = s.omciRx := rfl
@[simp] theorem State.markGone_pipes (index r : Nat) : (s.markGone index r).pipes = s.pipes := rfl
@[simp] theorem State.markGone_fwd (index r : Nat) : (s.markGone index r).fwd = s.fwd := rfl
@[simp] theorem State.markGone_tm (index r : Nat) : (s.markGone index r).tm = s.tm := rfl
@[simp] theorem State.markGone_upl (index r : Nat) : (s.markGone index r).upl = s.upl := rfl
@[simp] theorem State.markGone_time (index r : Nat) : (s.markGone index r).time = s.time := rfl
@[simp] theorem State.markGone_twin (index r : Nat) : (s.markGone index r).twin = s.twin := rfl
@[simp] theorem State.markGone_power (index r : Nat) : (s.markGone index r).power = s.power := rfl
@[simp] theorem State.markGone_host (index r : Nat) : (s.markGone index r).host = s.host := rfl
@[simp] theorem State.markGone_dict (index r : Nat) : (s.markGone index r).dict = s.dict := rfl
@[simp] theorem State.markGone_journal (index r : Nat) : (s.markGone index r).journal = s.journal := rfl
@[simp] theorem State.markGone_secu (index r : Nat) : (s.markGone index r).secu = s.secu := rfl
@[simp] theorem State.markGone_mem (index r : Nat) : (s.markGone index r).mem = s.mem := rfl

end Sys2Proof.Machine
end

