-- ==== Sys2Proof/Laws/Store.lean ====
section
/-! SUPPORT. Laws of the object store: reading after writing, what a write leaves alone, and its canonical order. -/

namespace Sys2Proof.Machine

theorem Addr.lt_irrefl (a : Addr) : a.lt a = false := by simp [Addr.lt]

theorem Addr.lt_trans {a b c : Addr} (h : a.lt b = true) (h' : b.lt c = true) : a.lt c = true := by
  simp only [Addr.lt] at *
  split at h <;> split at h' <;> (try split at h) <;> (try split at h') <;> simp_all <;> (repeat' split) <;> omega

theorem Addr.lt_of_not {a b : Addr} (h : ¬ a.lt b = true) (hne : b ≠ a) : b.lt a = true := by
  obtain ⟨ai, as, ar⟩ := a
  obtain ⟨bi, bs, br⟩ := b
  simp only [Addr.lt] at h ⊢
  by_cases hi : ai = bi
  · by_cases hr : ar = br
    · have hs : bs ≠ as := fun e => hne (by rw [hi, hr, e])
      simp_all; omega
    · simp [hi, hr] at h
      simp [hi, Ne.symm hr]; omega
  · simp [hi] at h
    simp [Ne.symm hi]; omega

@[simp] theorem Store.find?_ins_self (m : Store) (a : Addr) (v : Int) : (m.ins a v).find? a = some v := by
  induction m with
  | nil => simp [Store.ins, Store.find?]
  | cons e m ih =>
    unfold Store.ins
    split
    · simp [Store.find?]
    · split
      · simp [Store.find?]
      · simp [Store.find?, *]

theorem Store.find?_ins_other (m : Store) (a b : Addr) (v : Int) (h : b ≠ a) : (m.ins a v).find? b = m.find? b := by
  induction m with
  | nil => simp [Store.ins, Store.find?, Ne.symm h]
  | cons e m ih =>
    unfold Store.ins
    split
    · rename_i hk; simp [Store.find?, Ne.symm h, hk]
    · split
      · simp [Store.find?, Ne.symm h]
      · simp [Store.find?, ih]

@[simp] theorem Store.find?_del_self (m : Store) (a : Addr) : (m.del a).find? a = none := by
  induction m with
  | nil => rfl
  | cons e m ih =>
    unfold Store.del
    split
    · exact ih
    · simp [Store.find?, *]

theorem Store.find?_del_other (m : Store) (a b : Addr) (h : b ≠ a) : (m.del a).find? b = m.find? b := by
  induction m with
  | nil => rfl
  | cons e m ih =>
    unfold Store.del
    split
    · rename_i hk; simp [Store.find?, ih, hk, Ne.symm h]
    · simp [Store.find?, ih]

/-- A value written is the value read: as the type reduces it. -/
@[simp] theorem Store.get_put_self (m : Store) (o : Obj) (i j r : Nat) (v : Int) :
    (m.put o i j r v).get o i j r = o.ty.norm v := by
  unfold Store.put Store.get
  split
  · simp [*]
  · simp

/-- A write of one object leaves what is listed elsewhere. -/
theorem Store.find?_put_other (m : Store) (o : Obj) (i j r : Nat) (v : Int) (b : Addr) (h : b ≠ o.addr i j r) :
    (m.put o i j r v).find? b = m.find? b := by
  unfold Store.put
  split
  · exact Store.find?_del_other _ _ _ h
  · exact Store.find?_ins_other _ _ _ _ h

theorem Store.get_put_other (m : Store) (o o' : Obj) (i j r i' j' r' : Nat) (v : Int)
    (h : o'.addr i' j' r' ≠ o.addr i j r) : (m.put o i j r v).get o' i' j' r' = m.get o' i' j' r' := by
  simp [Store.get, Store.find?_put_other _ _ _ _ _ _ _ h]

/-- What is read of an object is what is listed at its address. -/
theorem Store.get_congr {m m' : Store} {o : Obj} {i j r : Nat} (h : m'.find? (o.addr i j r) = m.find? (o.addr i j r)) :
    m'.get o i j r = m.get o i j r := by
  simp [Store.get, h]

/-- The canonical order is pairwise. -/
theorem Store.sorted_iff (m : Store) : m.sorted = true ↔ List.Pairwise (fun a b => a.1.lt b.1 = true) m := by
  induction m with
  | nil => simp [Store.sorted]
  | cons e m ih =>
    cases m with
    | nil => simp [Store.sorted]
    | cons e' m =>
      simp only [Store.sorted, Bool.and_eq_true, ih, List.pairwise_cons, List.mem_cons, forall_eq_or_imp]
      constructor
      · rintro ⟨h, h', h''⟩
        exact ⟨⟨h, fun x hx => Addr.lt_trans h (h' x hx)⟩, h', h''⟩
      · rintro ⟨⟨h, -⟩, h'⟩
        exact ⟨h, h'⟩

theorem Store.mem_ins {m : Store} {a : Addr} {v : Int} {e : Addr × Int} (h : e ∈ m.ins a v) : e = (a, v) ∨ e ∈ m := by
  induction m with
  | nil => simpa [Store.ins] using h
  | cons b m ih =>
    unfold Store.ins at h
    split at h
    · rcases List.mem_cons.mp h with h | h
      · exact .inl h
      · exact .inr (List.mem_cons_of_mem _ h)
    · split at h
      · rcases List.mem_cons.mp h with h | h
        · exact .inl h
        · exact .inr h
      · rcases List.mem_cons.mp h with h | h
        · exact .inr (h ▸ List.mem_cons_self)
        · exact (ih h).imp id (List.mem_cons_of_mem _)

theorem Store.sorted_ins {m : Store} (a : Addr) (v : Int) (h : m.sorted = true) : (m.ins a v).sorted = true := by
  rw [Store.sorted_iff] at h ⊢
  induction m with
  | nil => simp [Store.ins]
  | cons e m ih =>
    rw [List.pairwise_cons] at h
    unfold Store.ins
    split
    · rename_i hk; subst hk
      exact List.pairwise_cons.mpr ⟨h.1, h.2⟩
    · rename_i hne
      split
      · rename_i hlt
        refine List.pairwise_cons.mpr ⟨fun x hx => ?_, List.pairwise_cons.mpr h⟩
        rcases List.mem_cons.mp hx with hx | hx
        · subst hx; exact hlt
        · exact Addr.lt_trans hlt (h.1 x hx)
      · rename_i hge
        refine List.pairwise_cons.mpr ⟨fun x hx => ?_, ih h.2⟩
        rcases Store.mem_ins hx with hx | hx
        · subst hx; exact Addr.lt_of_not hge hne
        · exact h.1 x hx

theorem Store.del_eq_filter (m : Store) (a : Addr) : m.del a = List.filter (fun e => decide (e.1 ≠ a)) m := by
  induction m with
  | nil => rfl
  | cons e m ih =>
    unfold Store.del
    split
    · rename_i h; simp [h, ih]
    · rename_i h; simp [List.filter_cons, h, ih]

theorem Store.sorted_filter {m : Store} (p : Addr × Int → Bool) (h : m.sorted = true) :
    Store.sorted (List.filter p m) = true := by
  rw [Store.sorted_iff] at h ⊢
  exact h.filter _

theorem Store.sorted_del {m : Store} (a : Addr) (h : m.sorted = true) : (m.del a).sorted = true := by
  rw [Store.del_eq_filter]
  exact Store.sorted_filter _ h

theorem Store.sorted_put {m : Store} (o : Obj) (i j r : Nat) (v : Int) (h : m.sorted = true) :
    (m.put o i j r v).sorted = true := by
  unfold Store.put
  split
  · exact Store.sorted_del _ h
  · exact Store.sorted_ins _ _ h

/-- A filter that keeps an address keeps what is listed there. -/
theorem Store.find?_filter (m : Store) (p : Addr → Bool) (a : Addr) (h : p a = true) :
    Store.find? (List.filter (fun e => p e.1) m) a = m.find? a := by
  induction m with
  | nil => rfl
  | cons e m ih =>
    obtain ⟨b, w⟩ := e
    by_cases hb : p b = true
    · simp [hb, Store.find?, ih]
    · have : b ≠ a := fun e => hb (e ▸ h)
      simp [hb, Store.find?, ih, this]

/-- A filter that drops an address leaves nothing listed there. -/
theorem Store.find?_filter_none (m : Store) (p : Addr → Bool) (a : Addr) (h : p a = false) :
    Store.find? (List.filter (fun e => p e.1) m) a = none := by
  induction m with
  | nil => rfl
  | cons e m ih =>
    obtain ⟨b, w⟩ := e
    by_cases hb : p b = true
    · have : b ≠ a := fun e => by simp [e, h] at hb
      simp [hb, Store.find?, ih, this]
    · simp [hb, ih]

end Sys2Proof.Machine
end

