-- ==== Sys2Proof/Laws/Tab.lean ====
section
/-! SUPPORT. Laws of the sparse tables: reading after writing, and the order of the keys. -/

namespace Sys2Proof.Machine

variable {α : Type}

@[simp] theorem Tab.find?_ins_self (t : Tab α) (k : Nat) (a : α) : Tab.find? (Tab.ins t k a) k = some a := by
  induction t with
  | nil => simp [Tab.ins, Tab.find?]
  | cons e t ih =>
    obtain ⟨k', b⟩ := e
    unfold Tab.ins
    split
    · simp [Tab.find?]
    · split
      · simp [Tab.find?]
      · simp [Tab.find?, *]

theorem Tab.find?_ins_other (t : Tab α) (k n : Nat) (a : α) (h : n ≠ k) :
    Tab.find? (Tab.ins t k a) n = Tab.find? t n := by
  induction t with
  | nil => simp [Tab.ins, Tab.find?, Ne.symm h]
  | cons e t ih =>
    obtain ⟨k', b⟩ := e
    unfold Tab.ins
    split
    · rename_i hk; subst hk; simp [Tab.find?, Ne.symm h]
    · split
      · simp [Tab.find?, Ne.symm h]
      · simp [Tab.find?, ih]

@[simp] theorem Tab.getD_ins_self (t : Tab α) (k : Nat) (a d : α) : Tab.getD (Tab.ins t k a) k d = a := by
  simp [Tab.getD]

theorem Tab.getD_ins_other (t : Tab α) (k n : Nat) (a d : α) (h : n ≠ k) :
    Tab.getD (Tab.ins t k a) n d = Tab.getD t n d := by
  simp [Tab.getD, Tab.find?_ins_other t k n a h]

@[simp] theorem Tab.getD_upd_self (t : Tab α) (k : Nat) (d e : α) (f : α → α) :
    Tab.getD (Tab.upd t k d f) k e = f (Tab.getD t k d) := by
  simp [Tab.upd]

theorem Tab.getD_upd_other (t : Tab α) (k n : Nat) (d e : α) (f : α → α) (h : n ≠ k) :
    Tab.getD (Tab.upd t k d f) n e = Tab.getD t n e := by
  simp [Tab.upd, Tab.getD_ins_other _ _ _ _ _ h]

@[simp] theorem Tab.find?_del_self (t : Tab α) (k : Nat) : Tab.find? (Tab.del t k) k = none := by
  induction t with
  | nil => rfl
  | cons e t ih =>
    unfold Tab.del at ih ⊢
    by_cases h : e.1 = k
    · simpa [List.filter_cons, h] using ih
    · obtain ⟨k', b⟩ := e
      simp only at h
      simp [List.filter_cons, h, Tab.find?, ih]

theorem Tab.find?_del_other (t : Tab α) (k n : Nat) (h : n ≠ k) :
    Tab.find? (Tab.del t k) n = Tab.find? t n := by
  induction t with
  | nil => rfl
  | cons e t ih =>
    unfold Tab.del at ih ⊢
    obtain ⟨k', b⟩ := e
    by_cases hk : k' = k
    · subst hk; simpa [List.filter_cons, Tab.find?, Ne.symm h] using ih
    · simp [List.filter_cons, hk, Tab.find?, ih]

@[simp] theorem Tab.getD_del_self (t : Tab α) (k : Nat) (d : α) : Tab.getD (Tab.del t k) k d = d := by
  simp [Tab.getD]

theorem Tab.getD_del_other (t : Tab α) (k n : Nat) (d : α) (h : n ≠ k) :
    Tab.getD (Tab.del t k) n d = Tab.getD t n d := by
  simp [Tab.getD, Tab.find?_del_other t k n h]

/-- A sorted table is a list whose keys rise pairwise. -/
theorem Tab.sorted_iff (t : Tab α) : Tab.sorted t = true ↔ List.Pairwise (fun a b => a.1 < b.1) t := by
  induction t with
  | nil => simp [Tab.sorted]
  | cons e t ih =>
    cases t with
    | nil => simp [Tab.sorted]
    | cons e' t =>
      obtain ⟨k, a⟩ := e
      obtain ⟨k', b⟩ := e'
      simp only [Tab.sorted, Bool.and_eq_true, decide_eq_true_eq, ih, List.pairwise_cons, List.mem_cons,
        forall_eq_or_imp]
      constructor
      · rintro ⟨h, h', h''⟩
        exact ⟨⟨h, fun x hx => Nat.lt_trans h (h' x hx)⟩, h', h''⟩
      · rintro ⟨⟨h, -⟩, h'⟩
        exact ⟨h, h'⟩

theorem Tab.mem_ins {t : Tab α} {k : Nat} {a : α} {e : Nat × α} (h : e ∈ Tab.ins t k a) : e = (k, a) ∨ e ∈ t := by
  induction t with
  | nil => simpa [Tab.ins] using h
  | cons b t ih =>
    obtain ⟨k', b⟩ := b
    unfold Tab.ins at h
    split at h
    · rcases List.mem_cons.mp h with h | h
      · exact .inl h
      · exact .inr (List.mem_cons_of_mem _ h)
    · split at h
      · rcases List.mem_cons.mp h with h | h
        · exact .inl h
        · exact .inr h
      · rcases List.mem_cons.mp h with h | h
        · exact .inr (h ▸ List.mem_cons_self)
        · exact (ih h).imp id (List.mem_cons_of_mem _)

theorem Tab.sorted_ins {t : Tab α} (k : Nat) (a : α) (h : Tab.sorted t = true) : Tab.sorted (Tab.ins t k a) = true := by
  rw [Tab.sorted_iff] at h ⊢
  induction t with
  | nil => simp [Tab.ins]
  | cons e t ih =>
    obtain ⟨k', b⟩ := e
    rw [List.pairwise_cons] at h
    unfold Tab.ins
    split
    · rename_i hk; subst hk
      exact List.pairwise_cons.mpr ⟨h.1, h.2⟩
    · split
      · rename_i _ hlt
        refine List.pairwise_cons.mpr ⟨fun x hx => ?_, List.pairwise_cons.mpr h⟩
        rcases List.mem_cons.mp hx with hx | hx
        · subst hx; exact hlt
        · exact Nat.lt_trans hlt (h.1 x hx)
      · rename_i hne hge
        refine List.pairwise_cons.mpr ⟨fun x hx => ?_, ih h.2⟩
        rcases Tab.mem_ins hx with hx | hx
        · subst hx; simp only; omega
        · exact h.1 x hx

theorem Tab.sorted_del {t : Tab α} (k : Nat) (h : Tab.sorted t = true) : Tab.sorted (Tab.del t k) = true := by
  rw [Tab.sorted_iff] at h ⊢
  exact h.filter _

end Sys2Proof.Machine
end

