-- ==== Sys2Proof/Laws/Ops.lean ====
section
/-! SUPPORT. Laws of the named operations: what each one writes, reads and leaves alone. -/

namespace Sys2Proof.Machine

/-! The gate of core power. -/

theorem always_next (s : State) (f : State → State) : always s f = .next { f s with pending := s.pending } := rfl

theorem live_on {s : State} (f : State → State) (h : s.power.coreOn = true) :
    live s f = .next { f s with pending := s.pending } := by
  simp [live, always, h]

theorem live_off {s : State} (f : State → State) (h : s.power.coreOn = false) : live s f = .next s := by
  simp [live, always, h]

/-- Whatever a command does, the commands that wait behind it still wait. -/
theorem live_pending {s t : State} {f : State → State} (h : live s f = .next t) : t.pending = s.pending := by
  simp only [live, always, Host.Outcome.next.injEq] at h
  rw [← h]

theorem always_pending {s t : State} {f : State → State} (h : always s f = .next t) : t.pending = s.pending := by
  simp only [always, Host.Outcome.next.injEq] at h
  rw [← h]

/-! Objects. -/

@[simp] theorem State.put_get_self (s : State) (o : Obj) (v : Int) (i j : Nat) :
    (s.put o v i j).get o i j = o.ty.norm v := Store.get_put_self _ _ _ _ _ _

@[simp] theorem State.rput_rget_self (s : State) (o : Obj) (r : Nat) (v : Int) (i : Nat) :
    (s.rput o r v i).rget o r i = o.ty.norm v := Store.get_put_self _ _ _ _ _ _

@[simp] theorem State.put_nat_self (s : State) (o : Obj) (v : Int) (i j : Nat) :
    (s.put o v i j).nat o i j = (o.ty.norm v).toNat := by simp [State.nat]

theorem State.put_find (s : State) (o : Obj) (v : Int) (i j : Nat) (a : Addr) (h : a ≠ o.addr i j 0) :
    (s.put o v i j).od.find? a = s.od.find? a := Store.find?_put_other _ _ _ _ _ _ _ h

theorem State.rput_find (s : State) (o : Obj) (r : Nat) (v : Int) (i : Nat) (a : Addr) (h : a ≠ o.addr i 0 r) :
    (s.rput o r v i).od.find? a = s.od.find? a := Store.find?_put_other _ _ _ _ _ _ _ h

theorem State.put_get_other (s : State) (o o' : Obj) (v : Int) (i j i' j' : Nat) (h : o'.addr i' j' 0 ≠ o.addr i j 0) :
    (s.put o v i j).get o' i' j' = s.get o' i' j' := Store.get_put_other _ _ _ _ _ _ _ _ _ _ h

theorem State.put_rget_other (s : State) (o o' : Obj) (v : Int) (i j r i' : Nat) (h : o'.addr i' 0 r ≠ o.addr i j 0) :
    (s.put o v i j).rget o' r i' = s.rget o' r i' := Store.get_put_other _ _ _ _ _ _ _ _ _ _ h

theorem State.rput_get_other (s : State) (o o' : Obj) (r : Nat) (v : Int) (i i' j' : Nat) (h : o'.addr i' j' 0 ≠ o.addr i 0 r) :
    (s.rput o r v i).get o' i' j' = s.get o' i' j' := Store.get_put_other _ _ _ _ _ _ _ _ _ _ h

theorem State.rput_rget_other (s : State) (o o' : Obj) (r : Nat) (v : Int) (i r' i' : Nat) (h : o'.addr i' 0 r' ≠ o.addr i 0 r) :
    (s.rput o r v i).rget o' r' i' = s.rget o' r' i' := Store.get_put_other _ _ _ _ _ _ _ _ _ _ h

/-- An object reads the same wherever its address lists the same. -/
theorem State.get_congr {s t : State} {o : Obj} {i j : Nat} (h : t.od.find? (o.addr i j 0) = s.od.find? (o.addr i j 0)) :
    t.get o i j = s.get o i j := Store.get_congr h

theorem State.rget_congr {s t : State} {o : Obj} {r i : Nat} (h : t.od.find? (o.addr i 0 r) = s.od.find? (o.addr i 0 r)) :
    t.rget o r i = s.rget o r i := Store.get_congr h

@[simp] theorem State.bumpBy_get_self (s : State) (o : Obj) (n i j : Nat) :
    (s.bumpBy o n i j).get o i j = o.ty.norm (o.plus (s.get o i j) n) := Store.get_put_self _ _ _ _ _ _

@[simp] theorem State.bump_get_self (s : State) (o : Obj) (i j : Nat) :
    (s.bump o i j).get o i j = o.ty.norm (o.plus (s.get o i j) 1) := Store.get_put_self _ _ _ _ _ _

@[simp] theorem State.rbumpBy_rget_self (s : State) (o : Obj) (r n i : Nat) :
    (s.rbumpBy o r n i).rget o r i = o.ty.norm (o.plus (s.rget o r i) n) := Store.get_put_self _ _ _ _ _ _

@[simp] theorem State.rbump_rget_self (s : State) (o : Obj) (r i : Nat) :
    (s.rbump o r i).rget o r i = o.ty.norm (o.plus (s.rget o r i) 1) := Store.get_put_self _ _ _ _ _ _

theorem State.bumpBy_find (s : State) (o : Obj) (n i j : Nat) (a : Addr) (h : a ≠ o.addr i j 0) :
    (s.bumpBy o n i j).od.find? a = s.od.find? a := State.put_find _ _ _ _ _ _ h

theorem State.bump_find (s : State) (o : Obj) (i j : Nat) (a : Addr) (h : a ≠ o.addr i j 0) :
    (s.bump o i j).od.find? a = s.od.find? a := State.put_find _ _ _ _ _ _ h

theorem State.rbumpBy_find (s : State) (o : Obj) (r n i : Nat) (a : Addr) (h : a ≠ o.addr i 0 r) :
    (s.rbumpBy o r n i).od.find? a = s.od.find? a := State.rput_find _ _ _ _ _ _ h

theorem State.rbump_find (s : State) (o : Obj) (r i : Nat) (a : Addr) (h : a ≠ o.addr i 0 r) :
    (s.rbump o r i).od.find? a = s.od.find? a := State.rput_find _ _ _ _ _ _ h

/-- A record dropped leaves every other record and every other table. -/
theorem State.dropRecord_find (s : State) (index r : Nat) (a : Addr) (h : ¬ (a.index = index ∧ a.recNo = r)) :
    (s.dropRecord index r).od.find? a = s.od.find? a :=
  Store.find?_filter s.od (fun a => !(a.index == index && a.recNo == r)) a (by
    simp only [Bool.not_eq_true', Bool.and_eq_false_iff, beq_eq_false_iff_ne]
    by_cases h1 : a.index = index
    · exact .inr fun h2 => h ⟨h1, h2⟩
    · exact .inl h1)

/-! The event log. -/

/-- A fold keeps what its body keeps. -/
theorem foldl_keep {α σ β : Type} (g : σ → β) (f : σ → α → σ) (h : ∀ s a, g (f s a) = g s) (l : List α) (s : σ) :
    g (l.foldl f s) = g s := by
  induction l generalizing s with
  | nil => rfl
  | cons a l ih => rw [List.foldl_cons, ih, h]

/-- Delivering a record to its readers writes the drop counter alone in the object store. -/
theorem State.deliver_find (s : State) (e : EvRec) (a : Addr) (h : a ∉ eventAddrs) :
    (s.deliver e).od.find? a = s.od.find? a := by
  have h3 : a ≠ Dma.EVT_RING_DROP.addr 11 0 0 := fun e => h (by simp [eventAddrs, e])
  unfold State.deliver
  simp only
  rw [foldl_keep (fun s : State => s.od.find? a)]
  · repeat' split
    · rfl
    · rfl
    · exact State.put_find _ _ _ _ _ _ h3
  · intro s i
    split <;> rfl

/-- Raising an event writes the objects of the event log alone. -/
theorem State.event_find (s : State) (code source : Nat) (args : List (Nat × Int)) (a : Addr) (h : a ∉ eventAddrs) :
    (s.event code source args).od.find? a = s.od.find? a := by
  have h1 : a ≠ Dic.EVT_NEXT_SEQ.addr 0 0 0 := fun e => h (by simp [eventAddrs, e])
  have h2 : a ≠ Dic.EVT_OLDEST_SEQ.addr 0 0 0 := fun e => h (by simp [eventAddrs, e])
  unfold State.event
  simp only
  rw [State.deliver_find _ _ _ h, State.emit_od]
  split
  · rw [State.put_find _ _ _ _ _ _ h2, State.put_find _ _ _ _ _ _ h1]
  · rw [State.put_find _ _ _ _ _ _ h1]

theorem State.event_get (s : State) (code source : Nat) (args : List (Nat × Int)) (o : Obj) (i j : Nat)
    (h : o.addr i j 0 ∉ eventAddrs) : (s.event code source args).get o i j = s.get o i j :=
  State.get_congr (State.event_find _ _ _ _ _ h)

theorem State.event_rget (s : State) (code source : Nat) (args : List (Nat × Int)) (o : Obj) (r i : Nat)
    (h : o.addr i 0 r ∉ eventAddrs) : (s.event code source args).rget o r i = s.rget o r i :=
  State.rget_congr (State.event_find _ _ _ _ _ h)

end Sys2Proof.Machine
end

