-- ==== Sys2Proof/Laws/CanonBase.lean ====
section
/-! SUPPORT. Which shapes of a definition keep the object store canonical (its addresses strictly rising). -/

namespace Sys2Proof.Machine

/-- The object store of `s` is canonical. -/
def State.Canon (s : State) : Prop := s.od.sorted = true

/-- The next state of an outcome, if there is one, is canonical. -/
def Res.Canon (r : Res) : Prop := ∀ t, r = .next t → t.Canon

theorem State.Canon.od {s : State} (h : s.Canon) : s.od.sorted = true := h

theorem Canon.of_od {s : State} (h : s.od.sorted = true) : s.Canon := h

theorem Canon.ite {c : Prop} [Decidable c] {a b : State} (ha : a.Canon) (hb : b.Canon) :
    State.Canon (if c then a else b) := by split <;> assumption

theorem Canon.ite2 {α : Type} {c : Prop} [Decidable c] {a b : α × State} (ha : a.2.Canon) (hb : b.2.Canon) :
    State.Canon (if c then a else b).2 := by split <;> assumption

theorem Canon.ite3 {α β : Type} {c : Prop} [Decidable c] {a b : α × β × State} (ha : a.2.2.Canon) (hb : b.2.2.Canon) :
    State.Canon (if c then a else b).2.2 := by split <;> assumption

theorem Canon.iteF {α : Type} {c : Prop} [Decidable c] {a b : State × α} (ha : a.1.Canon) (hb : b.1.Canon) :
    State.Canon (if c then a else b).1 := by split <;> assumption

theorem Canon.iteR {c : Prop} [Decidable c] {a b : Res} (ha : Res.Canon a) (hb : Res.Canon b) :
    Res.Canon (if c then a else b) := by split <;> assumption

theorem Canon.iteO {c : Prop} [Decidable c] {a b : Option State} (ha : ∀ y, a = some y → State.Canon y)
    (hb : ∀ y, b = some y → State.Canon y) : ∀ y, (if c then a else b) = some y → State.Canon y := by split <;> assumption

theorem Canon.iteOP {α : Type} {c : Prop} [Decidable c] {a b : Option (α × State)} (ha : ∀ y, a = some y → State.Canon y.2)
    (hb : ∀ y, b = some y → State.Canon y.2) : ∀ y, (if c then a else b) = some y → State.Canon y.2 := by
  split <;> assumption

theorem Canon.foldl {α : Type} {f : State → α → State} {l : List α} {s : State}
    (hf : ∀ s a, State.Canon s → (f s a).Canon) (h : s.Canon) : (l.foldl f s).Canon := by
  induction l generalizing s with
  | nil => exact h
  | cons a l ih => exact ih (hf _ _ h)

theorem Canon.foldl2 {α β : Type} {f : β × State → α → β × State} {l : List α} {s : β × State}
    (hf : ∀ s a, State.Canon s.2 → (f s a).2.Canon) (h : s.2.Canon) : (l.foldl f s).2.Canon := by
  induction l generalizing s with
  | nil => exact h
  | cons a l ih => exact ih (hf _ _ h)

theorem Canon.foldlF {α β : Type} {f : State × β → α → State × β} {l : List α} {s : State × β}
    (hf : ∀ s a, State.Canon s.1 → (f s a).1.Canon) (h : s.1.Canon) : (l.foldl f s).1.Canon := by
  induction l generalizing s with
  | nil => exact h
  | cons a l ih => exact ih (hf _ _ h)

theorem Canon.of_snd {α : Type} {x : α × State} {a : α} {t : State} (e : x = (a, t)) (h : x.2.Canon) : t.Canon := by
  rw [e] at h; exact h

theorem Canon.of_thd {α β : Type} {x : α × β × State} {a : α} {b : β} {t : State} (e : x = (a, b, t)) (h : x.2.2.Canon) :
    t.Canon := by
  rw [e] at h; exact h

theorem Canon.of_fst {α : Type} {x : State × α} {a : α} {t : State} (e : x = (t, a)) (h : x.1.Canon) : t.Canon := by
  rw [e] at h; exact h

theorem Canon.of_some {x : Option State} {t : State} (e : x = some t) (h : ∀ y, x = some y → y.Canon) : t.Canon := h t e

theorem Canon.of_some2 {α : Type} {x : Option (α × State)} {a : α} {t : State} (e : x = some (a, t))
    (h : ∀ y, x = some y → y.2.Canon) : t.Canon := h _ e

theorem Canon.pair {α : Type} {a : α} {t : State} (h : t.Canon) : State.Canon (a, t).2 := h

theorem Canon.pair3 {α β : Type} {a : α} {b : β} {t : State} (h : t.Canon) : State.Canon (a, b, t).2.2 := h

theorem Canon.fstI {α : Type} {a : α} {t : State} (h : t.Canon) : State.Canon (t, a).1 := h

theorem Canon.someI {t : State} (h : t.Canon) : ∀ y, some t = some y → State.Canon y := by
  intro y hy
  rw [Option.some.injEq] at hy
  exact hy ▸ h

theorem Canon.someP {α : Type} {p : α × State} (h : p.2.Canon) : ∀ y, some p = some y → State.Canon y.2 := by
  intro y hy
  rw [Option.some.injEq] at hy
  exact hy ▸ h

theorem Store.sorted_foldl_ins (l : List (Addr × Int)) (m : Store) (h : m.sorted = true) :
    Store.sorted (l.foldl (fun m e => m.ins e.1 e.2) m) = true := by
  induction l generalizing m with
  | nil => exact h
  | cons e l ih => exact ih _ (Store.sorted_ins _ _ h)

theorem Canon.mk_iff {x0 : List Instr} {x1 : Nat} {x2 : Store} {x3 : List Out} {x4 : Nat} {x5 : Tab EvRec} {x6 : Tab PortCh} {x7 : Tab OnuX} {x8 : Tab OnuF} {x9 : List Addr} {x10 : List (Nat × Nat × Nat)} {x11 : Option Nat} {x12 : Option Nat} {x13 : Tab ActCh} {x14 : Tab GrantCh} {x15 : Tab CtxX} {x16 : Tab Optics} {x17 : Tab Loops} {x18 : List StoreWrite} {x19 : Nat} {x20 : Tab Nat} {x21 : Tab Nat} {x22 : Nat} {x23 : Tab Nat} {x24 : List (Nat × Nat)} {x25 : Tab Nat} {x26 : List Hint} {x27 : Tab FramerCh} {x28 : Tab Reasm} {x29 : List (Addr × Int × Nat)} {x30 : Tab (List OmciMsg)} {x31 : Tab Pipeline} {x32 : FwdUnit} {x33 : Traffic} {x34 : Uplinks} {x35 : TimeX} {x36 : TwinX} {x37 : Power} {x38 : HostIf} {x39 : DictX} {x40 : Journal} {x41 : Secure} {x42 : MemX} :
    State.Canon (State.mk x0 x1 x2 x3 x4 x5 x6 x7 x8 x9 x10 x11 x12 x13 x14 x15 x16 x17 x18 x19 x20 x21 x22 x23 x24 x25 x26 x27 x28 x29 x30 x31 x32 x33 x34 x35 x36 x37 x38 x39 x40 x41 x42) ↔ x2.sorted = true := Iff.rfl

theorem live_canon (s : State) (f : State → State) (h : s.Canon) (hf : ∀ s, State.Canon s → (f s).Canon) :
    Res.Canon (live s f) := by
  intro t ht
  simp only [live, always, Host.Outcome.next.injEq] at ht
  rw [← ht]
  exact Canon.mk_iff.mpr (Canon.ite (hf _ h) h).od

theorem always_canon (s : State) (f : State → State) (h : s.Canon) (hf : ∀ s, State.Canon s → (f s).Canon) :
    Res.Canon (always s f) := by
  intro t ht
  simp only [always, Host.Outcome.next.injEq] at ht
  rw [← ht]
  exact Canon.mk_iff.mpr (hf _ h).od

theorem next_canon {s : State} (h : s.Canon) : Res.Canon (.next s) := by
  intro t ht
  rw [Host.Outcome.next.injEq] at ht
  rw [← ht]
  exact h

end Sys2Proof.Machine
end

