-- ==== Sys2Proof/Laws/CanonOps.lean ====
section
/-! SUPPORT. The definitions of Ops keep the object store canonical. -/

namespace Sys2Proof.Machine

theorem State.put_canon (s : State) (o : Obj) (v : Int) (i : Nat) (j : Nat) (h0 : State.Canon (s)) :
    State.Canon (State.put s o v i j) := by
  unfold State.put
  refine Canon.mk_iff.mpr ?_
  refine Store.sorted_put _ _ _ _ _ ?_
  refine State.Canon.od ?_
  exact h0

theorem State.emit_canon (s : State) (o : Out) (h0 : State.Canon (s)) :
    State.Canon (State.emit s o) := by
  unfold State.emit
  refine Canon.mk_iff.mpr ?_
  refine State.Canon.od ?_
  exact h0

theorem State.votSend_canon (s : State) (kind : Nat) (k : Nat) (seq : Nat) (body : List Nat) (h0 : State.Canon (s)) :
    State.Canon (State.votSend s kind k seq body) := by
  unfold State.votSend
  refine State.emit_canon _ _ ?_
  exact h0

theorem State.deliver_canon (s : State) (e : EvRec) (h0 : State.Canon (s)) :
    State.Canon (State.deliver s e) := by
  unfold State.deliver
  extract_lets -merge x0 x1
  have hx1 : State.Canon (x1) := by
    refine Canon.ite ?_ ?_
    · exact h0
    · refine Canon.ite ?_ ?_
      · refine Canon.mk_iff.mpr ?_
        refine State.Canon.od ?_
        exact h0
      · refine State.put_canon _ _ _ _ _ ?_
        exact h0
  refine Canon.foldl ?_ ?_
  · intro _ _ g2
    extract_lets -merge x3 x4 x5
    refine Canon.ite ?_ ?_
    · refine State.votSend_canon _ _ _ _ _ ?_
      refine Canon.mk_iff.mpr ?_
      refine State.Canon.od ?_
      exact g2
    · exact g2
  · exact hx1

theorem State.event_canon (s : State) (code : Nat) (source : Nat) (args : List (Nat × Int)) (h0 : State.Canon (s)) :
    State.Canon (State.event s code source args) := by
  unfold State.event
  extract_lets -merge x0 x1 x2 x3
  have hx1 : State.Canon (x1) := by
    refine Canon.mk_iff.mpr ?_
    refine State.Canon.od ?_
    exact h0
  have hx2 : State.Canon (x2) := by
    refine State.put_canon _ _ _ _ _ ?_
    exact hx1
  have hx3 : State.Canon (x3) := by
    refine Canon.ite ?_ ?_
    · refine State.put_canon _ _ _ _ _ ?_
      exact hx2
    · exact hx2
  refine State.deliver_canon _ _ ?_
  refine State.emit_canon _ _ ?_
  exact hx3

theorem State.bumpBy_canon (s : State) (o : Obj) (n : Nat) (i : Nat) (j : Nat) (h0 : State.Canon (s)) :
    State.Canon (State.bumpBy s o n i j) := by
  unfold State.bumpBy
  refine State.put_canon _ _ _ _ _ ?_
  exact h0

theorem State.bump_canon (s : State) (o : Obj) (i : Nat) (j : Nat) (h0 : State.Canon (s)) :
    State.Canon (State.bump s o i j) := by
  unfold State.bump
  refine State.bumpBy_canon _ _ _ _ _ ?_
  exact h0

theorem State.granted_canon (s : State) (a : Nat) (q : Nat) (h0 : State.Canon (s)) :
    State.Canon (State.granted s a q) := by
  unfold State.granted
  refine Canon.mk_iff.mpr ?_
  refine State.Canon.od ?_
  exact h0

theorem State.servedClock_canon (s : State) (a : Nat) (reqs : List Nat) (h0 : State.Canon (s)) :
    State.Canon (State.servedClock s a reqs) := by
  unfold State.servedClock
  split
  · refine State.granted_canon _ _ _ ?_
    exact h0
  · exact h0

theorem State.rput_canon (s : State) (o : Obj) (r : Nat) (v : Int) (i : Nat) (h0 : State.Canon (s)) :
    State.Canon (State.rput s o r v i) := by
  unfold State.rput
  refine Canon.mk_iff.mpr ?_
  refine Store.sorted_put _ _ _ _ _ ?_
  refine State.Canon.od ?_
  exact h0

theorem State.rbumpBy_canon (s : State) (o : Obj) (r : Nat) (n : Nat) (i : Nat) (h0 : State.Canon (s)) :
    State.Canon (State.rbumpBy s o r n i) := by
  unfold State.rbumpBy
  refine State.rput_canon _ _ _ _ _ ?_
  exact h0

theorem State.rbump_canon (s : State) (o : Obj) (r : Nat) (i : Nat) (h0 : State.Canon (s)) :
    State.Canon (State.rbump s o r i) := by
  unfold State.rbump
  refine State.rbumpBy_canon _ _ _ _ _ ?_
  exact h0

theorem State.dropRecord_canon (s : State) (index : Nat) (r : Nat) (h0 : State.Canon (s)) :
    State.Canon (State.dropRecord s index r) := by
  unfold State.dropRecord
  refine Canon.mk_iff.mpr ?_
  refine Store.sorted_filter _ ?_
  refine State.Canon.od ?_
  exact h0

theorem State.draw_canon (s : State) (h0 : State.Canon (s)) :
    State.Canon (State.draw s).2 := by
  unfold State.draw
  refine Canon.pair ?_
  refine Canon.mk_iff.mpr ?_
  refine State.Canon.od ?_
  exact h0

theorem State.result_canon (s : State) (o : Obj) (r : Nat) (code : Nat) (i : Nat) (j : Nat) (h0 : State.Canon (s)) :
    State.Canon (State.result s o r code i j) := by
  unfold State.result
  refine State.emit_canon _ _ ?_
  exact h0

theorem State.markNew_canon (s : State) (index : Nat) (r : Nat) (h0 : State.Canon (s)) :
    State.Canon (State.markNew s index r) := by
  unfold State.markNew
  extract_lets -merge x0
  have hx0 : State.Canon (x0) := by
    refine State.rput_canon _ _ _ _ _ ?_
    exact h0
  refine Canon.mk_iff.mpr ?_
  refine State.Canon.od ?_
  exact hx0

theorem State.markGone_canon (s : State) (index : Nat) (r : Nat) (h0 : State.Canon (s)) :
    State.Canon (State.markGone s index r) := by
  unfold State.markGone
  extract_lets -merge x0 x1
  have hx1 : State.Canon (x1) := by
    refine State.dropRecord_canon _ _ _ ?_
    exact h0
  refine Canon.mk_iff.mpr ?_
  refine State.Canon.od ?_
  exact hx1

theorem State.grantedAt_canon (s : State) (a : Nat) (q : Nat) (t : Nat) (h0 : State.Canon (s)) :
    State.Canon (State.grantedAt s a q t) := by
  unfold State.grantedAt
  extract_lets -merge x0
  have hx0 : State.Canon (x0) := by
    refine State.granted_canon _ _ _ ?_
    exact h0
  refine Canon.ite ?_ ?_
  · exact h0
  · refine Canon.mk_iff.mpr ?_
    refine State.Canon.od ?_
    exact hx0

end Sys2Proof.Machine
end

