-- ==== Sys2Proof/Laws/CanonDdrOps.lean ====
section
/-! SUPPORT. The definitions of DdrOps keep the object store canonical. -/

namespace Sys2Proof.Machine

theorem State.ddrRequest_canon (s : State) (k : Nat) (h0 : State.Canon (s)) :
    State.Canon (State.ddrRequest s k) := by
  unfold State.ddrRequest
  extract_lets -merge x0 x1
  refine Canon.mk_iff.mpr ?_
  refine State.Canon.od ?_
  exact h0

theorem State.ddrAccess_canon (s : State) (j : Nat) (key : Nat) (h0 : State.Canon (s)) :
    State.Canon (State.ddrAccess s j key) := by
  unfold State.ddrAccess
  split
  · refine State.ddrRequest_canon _ _ ?_
    exact h0
  · exact h0

theorem State.ddrAwake_canon (s : State) (k : Nat) (h0 : State.Canon (s)) :
    State.Canon (State.ddrAwake s k) := by
  unfold State.ddrAwake
  extract_lets -merge x0
  split
  · refine Canon.mk_iff.mpr ?_
    refine State.Canon.od ?_
    exact h0
  · exact h0

theorem State.ddrSleep_canon (s : State) (k : Nat) (h0 : State.Canon (s)) :
    State.Canon (State.ddrSleep s k) := by
  unfold State.ddrSleep
  extract_lets -merge x0
  refine Canon.ite ?_ ?_
  · refine Canon.mk_iff.mpr ?_
    refine State.Canon.od ?_
    exact h0
  · exact h0

end Sys2Proof.Machine
end

