-- ==== Sys2Proof/Laws/CanonShared.lean ====
section
/-! SUPPORT. The definitions of Shared keep the object store canonical. -/

namespace Sys2Proof.Machine

theorem State.updFr_canon (s : State) (p : Nat) (c : Nat) (f : FramerCh → FramerCh) (h0 : State.Canon (s)) :
    State.Canon (State.updFr s p c f) := by
  unfold State.updFr
  refine Canon.mk_iff.mpr ?_
  refine State.Canon.od ?_
  exact h0

theorem State.rputK_canon (s : State) (o : Obj) (r : Nat) (v : Int) (h0 : State.Canon (s)) :
    State.Canon (State.rputK s o r v) := by
  unfold State.rputK
  extract_lets -merge x0
  have hx0 : State.Canon (x0) := by
    refine State.rput_canon _ _ _ _ _ ?_
    exact h0
  refine State.bump_canon _ _ _ _ ?_
  refine Canon.mk_iff.mpr ?_
  refine State.Canon.od ?_
  exact hx0

theorem State.updOnuF_canon (s : State) (r : Nat) (f : OnuF → OnuF) (h0 : State.Canon (s)) :
    State.Canon (State.updOnuF s r f) := by
  unfold State.updOnuF
  refine Canon.mk_iff.mpr ?_
  refine State.Canon.od ?_
  exact h0

theorem State.updAct_canon (s : State) (p : Nat) (c : Nat) (f : ActCh → ActCh) (h0 : State.Canon (s)) :
    State.Canon (State.updAct s p c f) := by
  unfold State.updAct
  refine Canon.mk_iff.mpr ?_
  refine State.Canon.od ?_
  exact h0

theorem State.actSend_canon (s : State) (p : Nat) (c : Nat) (onu : Nat) (kind : PloamKind) (arg : Int) (h0 : State.Canon (s)) :
    State.Canon (State.actSend s p c onu kind arg) := by
  unfold State.actSend
  refine State.updAct_canon _ _ _ _ ?_
  exact h0

theorem State.keysGone_canon (s : State) (r : Nat) (h0 : State.Canon (s)) :
    State.Canon (State.keysGone s r) := by
  unfold State.keysGone
  extract_lets -merge x0
  have hx0 : State.Canon (x0) := by
    refine State.updOnuF_canon _ _ _ ?_
    exact h0
  refine State.rput_canon _ _ _ _ _ ?_
  refine State.rput_canon _ _ _ _ _ ?_
  exact hx0

theorem State.keyEntry_canon (s : State) (r : Nat) (h0 : State.Canon (s)) :
    State.Canon (State.keyEntry s r) := by
  unfold State.keyEntry
  extract_lets -merge x0
  refine State.updOnuF_canon _ _ _ ?_
  exact h0

theorem State.toOmciRx_canon (s : State) (m : OmciMsg) (h0 : State.Canon (s)) :
    State.Canon (State.toOmciRx s m) := by
  unfold State.toOmciRx
  extract_lets -merge x0 x1
  refine Canon.ite ?_ ?_
  · refine State.bump_canon _ _ _ _ ?_
    exact h0
  · refine Canon.mk_iff.mpr ?_
    refine State.Canon.od ?_
    exact h0

theorem State.omciCount_canon (s : State) (r : Nat) (h0 : State.Canon (s)) :
    State.Canon (State.omciCount s r) := by
  unfold State.omciCount
  extract_lets -merge x0
  refine State.rput_canon _ _ _ _ _ ?_
  exact h0

theorem State.omciReturn_canon (s : State) (r : Nat) (h0 : State.Canon (s)) :
    State.Canon (State.omciReturn s r) := by
  unfold State.omciReturn
  extract_lets -merge x0 x1 x2
  have hx1 : ∀ y0 y1 y2, State.Canon (y1) → State.Canon (x1 y0 y1 y2) := by
    intro _ _ _ g3
    unfold x1
    refine State.toOmciRx_canon _ _ ?_
    exact g3
  have hx2 : State.Canon (x2) := by
    refine Canon.foldl ?_ ?_
    · intro _ _ g4
      refine hx1 _ _ _ ?_
      exact g4
    · refine Canon.foldl ?_ ?_
      · intro _ _ g5
        refine hx1 _ _ _ ?_
        exact g5
      · exact h0
  refine State.omciCount_canon _ _ ?_
  refine State.updOnuF_canon _ _ _ ?_
  exact hx2

theorem State.updOnu_canon (s : State) (r : Nat) (f : OnuX → OnuX) (h0 : State.Canon (s)) :
    State.Canon (State.updOnu s r f) := by
  unfold State.updOnu
  refine Canon.mk_iff.mpr ?_
  refine State.Canon.od ?_
  exact h0

theorem State.setOnu_canon (s : State) (r : Nat) (st : Nat) (h0 : State.Canon (s)) :
    State.Canon (State.setOnu s r st) := by
  unfold State.setOnu
  extract_lets -merge x0 x1 x2 x3 x4 x5 x6 x7 x8 x9
  have hx2 : State.Canon (x2) := by
    refine State.rput_canon _ _ _ _ _ ?_
    exact h0
  have hx3 : State.Canon (x3) := by
    refine Canon.ite ?_ ?_
    · exact hx2
    · refine State.rput_canon _ _ _ _ _ ?_
      exact hx2
  have hx4 : State.Canon (x4) := by
    refine Canon.ite ?_ ?_
    · refine State.keysGone_canon _ _ ?_
      exact hx3
    · exact hx3
  have hx5 : State.Canon (x5) := by
    refine State.put_canon _ _ _ _ _ ?_
    exact hx4
  have hx6 : State.Canon (x6) := by
    refine State.put_canon _ _ _ _ _ ?_
    exact hx4
  have hx7 : State.Canon (x7) := by
    refine State.put_canon _ _ _ _ _ ?_
    exact hx6
  have hx8 : State.Canon (x8) := by
    refine State.rputK_canon _ _ _ _ ?_
    exact hx7
  have hx9 : State.Canon (x9) := by
    refine State.rput_canon _ _ _ _ _ ?_
    exact hx8
  refine Canon.ite ?_ ?_
  · refine State.keyEntry_canon _ _ ?_
    refine State.put_canon _ _ _ _ _ ?_
    exact hx5
  · refine Canon.ite ?_ ?_
    · refine State.omciReturn_canon _ _ ?_
      refine State.updOnu_canon _ _ _ ?_
      exact hx9
    · exact hx4

theorem State.actPost_canon (s : State) (p : Nat) (c : Nat) (a3 : ActPost) (h0 : State.Canon (s)) :
    State.Canon (State.actPost s p c a3) := by
  unfold State.actPost
  refine State.updAct_canon _ _ _ _ ?_
  exact h0

theorem State.onuToEmpty_canon (s : State) (r : Nat) (cause : Nat) (h0 : State.Canon (s)) :
    State.Canon (State.onuToEmpty s r cause) := by
  unfold State.onuToEmpty
  extract_lets -merge x0 x1 x2 x3 x4
  have hx2 : State.Canon (x2) := by
    refine State.setOnu_canon _ _ _ ?_
    exact h0
  have hx3 : State.Canon (x3) := by
    refine State.rput_canon _ _ _ _ _ ?_
    exact hx2
  have hx4 : State.Canon (x4) := by
    refine State.updOnu_canon _ _ _ ?_
    exact hx3
  refine State.actPost_canon _ _ _ _ ?_
  exact hx4

theorem State.setTwin_canon (s : State) (f : TwinX → TwinX) (h0 : State.Canon (s)) :
    State.Canon (State.setTwin s f) := by
  unfold State.setTwin
  refine Canon.mk_iff.mpr ?_
  refine State.Canon.od ?_
  exact h0

theorem State.ctrlBytes_canon (s : State) (kind : Nat) (sub : Nat) (payload : List Int) (body : List Nat) (h0 : State.Canon (s)) :
    State.Canon (State.ctrlBytes s kind sub payload body) := by
  unfold State.ctrlBytes
  extract_lets -merge x0 x1 x2
  have hx2 : State.Canon (x2) := by
    refine State.emit_canon _ _ ?_
    exact h0
  refine State.setTwin_canon _ _ ?_
  exact hx2

theorem State.ctrl_canon (s : State) (kind : Nat) (sub : Nat) (payload : List Int) (h0 : State.Canon (s)) :
    State.Canon (State.ctrl s kind sub payload) := by
  unfold State.ctrl
  refine State.ctrlBytes_canon _ _ _ _ _ ?_
  exact h0

theorem State.sendReply_canon (s : State) (r : Reply) (h0 : State.Canon (s)) :
    State.Canon (State.sendReply s r) := by
  unfold State.sendReply
  extract_lets -merge x0 x1 x2 x3
  refine Canon.ite ?_ ?_
  · refine Canon.ite ?_ ?_
    · refine State.votSend_canon _ _ _ _ _ ?_
      refine Canon.mk_iff.mpr ?_
      refine State.Canon.od ?_
      exact h0
    · exact h0
  · refine Canon.ite ?_ ?_
    · refine State.emit_canon _ _ ?_
      exact h0
    · refine Canon.ite ?_ ?_
      · refine State.event_canon _ _ _ _ ?_
        exact h0
      · exact h0

theorem State.putK_canon (s : State) (o : Obj) (v : Int) (i : Nat) (j : Nat) (h0 : State.Canon (s)) :
    State.Canon (State.putK s o v i j) := by
  unfold State.putK
  extract_lets -merge x0
  have hx0 : State.Canon (x0) := by
    refine State.put_canon _ _ _ _ _ ?_
    exact h0
  refine State.bump_canon _ _ _ _ ?_
  refine Canon.mk_iff.mpr ?_
  refine State.Canon.od ?_
  exact hx0

theorem State.updCh_canon (s : State) (p : Nat) (c : Nat) (f : PortCh → PortCh) (h0 : State.Canon (s)) :
    State.Canon (State.updCh s p c f) := by
  unfold State.updCh
  refine Canon.mk_iff.mpr ?_
  refine State.Canon.od ?_
  exact h0

theorem State.updLoop_canon (s : State) (p : Nat) (c : Nat) (f : Loops → Loops) (h0 : State.Canon (s)) :
    State.Canon (State.updLoop s p c f) := by
  unfold State.updLoop
  refine Canon.mk_iff.mpr ?_
  refine State.Canon.od ?_
  exact h0

theorem State.updOptic_canon (s : State) (p : Nat) (f : Optics → Optics) (h0 : State.Canon (s)) :
    State.Canon (State.updOptic s p f) := by
  unfold State.updOptic
  refine Canon.mk_iff.mpr ?_
  refine State.Canon.od ?_
  exact h0

theorem State.switched_canon (s : State) (cause : Nat) (role : Nat) (gapUs : Nat) (h0 : State.Canon (s)) :
    State.Canon (State.switched s cause role gapUs) := by
  unfold State.switched
  extract_lets -merge x0
  have hx0 : State.Canon (x0) := by
    refine State.put_canon _ _ _ _ _ ?_
    refine State.put_canon _ _ _ _ _ ?_
    refine State.bump_canon _ _ _ _ ?_
    exact h0
  refine State.event_canon _ _ _ _ ?_
  refine State.put_canon _ _ _ _ _ ?_
  exact hx0

theorem State.handOverTo_canon (s : State) (cause : Nat) (h0 : State.Canon (s)) :
    State.Canon (State.handOverTo s cause) := by
  unfold State.handOverTo
  extract_lets -merge x0 x1
  have hx1 : State.Canon (x1) := by
    refine State.ctrl_canon _ _ _ _ ?_
    exact h0
  refine Canon.ite ?_ ?_
  · exact h0
  · refine State.switched_canon _ _ _ _ ?_
    refine State.setTwin_canon _ _ ?_
    exact hx1

theorem State.faultSwitch_canon (s : State) (h0 : State.Canon (s)) :
    State.Canon (State.faultSwitch s) := by
  unfold State.faultSwitch
  refine Canon.ite ?_ ?_
  · refine State.handOverTo_canon _ _ ?_
    exact h0
  · exact h0

theorem State.refreshFaults_canon (s : State) (h0 : State.Canon (s)) :
    State.Canon (State.refreshFaults s) := by
  unfold State.refreshFaults
  extract_lets -merge x0 x1 x2
  refine State.faultSwitch_canon _ ?_
  refine State.put_canon _ _ _ _ _ ?_
  exact h0

theorem State.deactivate_canon (s : State) (r : Nat) (cause : Nat) (h0 : State.Canon (s)) :
    State.Canon (State.deactivate s r cause) := by
  unfold State.deactivate
  extract_lets -merge x0
  have hx0 : State.Canon (x0) := by
    refine State.actSend_canon _ _ _ _ _ _ ?_
    exact h0
  refine State.onuToEmpty_canon _ _ _ ?_
  exact hx0

theorem State.mirrorPost_canon (s : State) (p : Nat) (e : MirEntry) (h0 : State.Canon (s)) :
    State.Canon (State.mirrorPost s p e) := by
  unfold State.mirrorPost
  refine Canon.ite ?_ ?_
  · refine State.setTwin_canon _ _ ?_
    exact h0
  · exact h0

theorem State.updGrant_canon (s : State) (p : Nat) (c : Nat) (f : GrantCh → GrantCh) (h0 : State.Canon (s)) :
    State.Canon (State.updGrant s p c f) := by
  unfold State.updGrant
  refine Canon.mk_iff.mpr ?_
  refine State.Canon.od ?_
  exact h0

theorem State.pmAdd_canon (s : State) (r : Nat) (startPs : Nat) (f : SecTally → SecTally) (h0 : State.Canon (s)) :
    State.Canon (State.pmAdd s r startPs f) := by
  unfold State.pmAdd
  refine State.updOnuF_canon _ _ _ ?_
  exact h0

theorem State.updCtx_canon (s : State) (r : Nat) (f : CtxX → CtxX) (h0 : State.Canon (s)) :
    State.Canon (State.updCtx s r f) := by
  unfold State.updCtx
  refine Canon.mk_iff.mpr ?_
  refine State.Canon.od ?_
  exact h0

theorem State.nonWholeBurst_canon (s : State) (p : Nat) (c : Nat) (onu : Nat) (startPs : Nat) (h0 : State.Canon (s)) :
    State.Canon (State.nonWholeBurst s p c onu startPs) := by
  unfold State.nonWholeBurst
  extract_lets -merge x0 x1 x2 x3
  refine Canon.ite ?_ ?_
  · refine Canon.mk_iff.mpr ?_
    refine State.Canon.od ?_
    exact h0
  · exact h0

theorem ctrlRx_canon (f : CtrlIn) (kind : Nat) (sub : Nat) (body : List Nat) (s : State) (g : State → State) (h4 : State.Canon (s)) (h5 : ∀ y0, State.Canon (y0) → State.Canon (g y0)) :
    Res.Canon (ctrlRx f kind sub body s g) := by
  unfold ctrlRx
  refine live_canon _ _ ?_ ?_
  · exact h4
  · intro _ g0
    refine Canon.ite ?_ ?_
    · exact g0
    · refine Canon.ite ?_ ?_
      · refine h5 _ ?_
        exact g0
      · refine State.bump_canon _ _ _ _ ?_
        exact g0

end Sys2Proof.Machine
end

