-- ==== Sys2Proof/Laws/CanonActOps.lean ====
section
/-! SUPPORT. The definitions of ActOps keep the object store canonical. -/

namespace Sys2Proof.Machine

theorem State.clearPm_canon (s : State) (r : Nat) (h0 : State.Canon (s)) :
    State.Canon (State.clearPm s r) := by
  unfold State.clearPm
  extract_lets -merge x0 x1 x2 x3
  have hx0 : State.Canon (x0) := by
    refine Canon.foldl ?_ ?_
    · intro _ _ g4
      refine State.rput_canon _ _ _ _ _ ?_
      exact g4
    · exact h0
  have hx2 : State.Canon (x2) := by
    refine State.rput_canon _ _ _ _ _ ?_
    exact hx0
  have hx3 : State.Canon (x3) := by
    refine State.rput_canon _ _ _ _ _ ?_
    exact hx2
  refine State.updOnuF_canon _ _ _ ?_
  exact hx3

theorem State.assign_canon (s : State) (r : Nat) (a2 : Int) (h0 : State.Canon (s)) :
    State.Canon (State.assign s r a2) := by
  unfold State.assign
  extract_lets -merge x0 x1 x2 x3 x4
  have hx2 : State.Canon (x2) := by
    refine State.actPost_canon _ _ _ _ ?_
    exact h0
  have hx3 : State.Canon (x3) := by
    refine State.setOnu_canon _ _ _ ?_
    exact hx2
  have hx4 : State.Canon (x4) := by
    refine State.updOnu_canon _ _ _ ?_
    exact hx3
  refine State.actSend_canon _ _ _ _ _ _ ?_
  exact hx4

theorem State.clearCoef_canon (s : State) (r : Nat) (h0 : State.Canon (s)) :
    State.Canon (State.clearCoef s r) := by
  unfold State.clearCoef
  extract_lets -merge x0 x1 x2 x3 x4
  have hx0 : State.Canon (x0) := by
    refine State.dropRecord_canon _ _ _ ?_
    exact h0
  have hx2 : State.Canon (x2) := by
    refine State.updOnu_canon _ _ _ ?_
    exact hx0
  refine Canon.mk_iff.mpr ?_
  refine State.Canon.od ?_
  exact hx2

theorem State.showLol_canon (s : State) (r : Nat) (h0 : State.Canon (s)) :
    State.Canon (State.showLol s r) := by
  unfold State.showLol
  refine State.rput_canon _ _ _ _ _ ?_
  exact h0

theorem State.setRate_canon (s : State) (r : Nat) (rate : Nat) (h0 : State.Canon (s)) :
    State.Canon (State.setRate s r rate) := by
  unfold State.setRate
  extract_lets -merge x0 x1 x2
  have hx0 : State.Canon (x0) := by
    refine State.rput_canon _ _ _ _ _ ?_
    exact h0
  have hx1 : State.Canon (x1) := by
    refine Canon.ite ?_ ?_
    · refine State.rputK_canon _ _ _ _ ?_
      exact hx0
    · exact hx0
  have hx2 : State.Canon (x2) := by
    refine State.showLol_canon _ _ ?_
    refine State.updOnu_canon _ _ _ ?_
    exact hx1
  refine State.actPost_canon _ _ _ _ ?_
  exact hx2

theorem State.requestRanging_canon (s : State) (r : Nat) (lenUs : Nat) (first : Nat) (h0 : State.Canon (s)) :
    State.Canon (State.requestRanging s r lenUs first) := by
  unfold State.requestRanging
  extract_lets -merge x0 x1 x2
  have hx2 : State.Canon (x2) := by
    refine State.updOnu_canon _ _ _ ?_
    exact h0
  refine State.actPost_canon _ _ _ _ ?_
  exact hx2

theorem State.actSent_canon (s : State) (p : Nat) (c : Nat) (k : Nat) (m : Ploam) (h0 : State.Canon (s)) :
    State.Canon (State.actSent s p c k m) := by
  unfold State.actSent
  split
  · exact h0
  · extract_lets -merge x0
    have hx0 : State.Canon (x0) := by
      refine State.updOnu_canon _ _ _ ?_
      exact h0
    split
    · refine Canon.ite ?_ ?_
      · refine State.requestRanging_canon _ _ _ _ ?_
        refine State.updOnu_canon _ _ _ ?_
        exact h0
      · exact h0
    · refine Canon.ite ?_ ?_
      · refine State.actPost_canon _ _ _ _ ?_
        exact hx0
      · exact hx0
    · exact h0

theorem State.storeGrant_canon (s : State) (p : Nat) (h0 : State.Canon (s)) :
    State.Canon (State.storeGrant s p) := by
  unfold State.storeGrant
  refine State.granted_canon _ _ _ ?_
  exact h0

theorem State.setValid_canon (s : State) (r : Nat) (rate : Nat) (b : Bool) (h0 : State.Canon (s)) :
    State.Canon (State.setValid s r rate b) := by
  unfold State.setValid
  extract_lets -merge x0
  refine State.rput_canon _ _ _ _ _ ?_
  exact h0

theorem State.refine_canon (s : State) (p : Nat) (r : Nat) (rate : Nat) (final : Nat) (rxp : Option Int) (h0 : State.Canon (s)) :
    State.Canon (State.refine s p r rate final rxp) := by
  unfold State.refine
  extract_lets -merge x0 x1 x2 x3 x4
  have hx2 : ∀ y0, State.Canon (y0) → State.Canon (x2 y0) := by
    intro _ g5
    unfold x2
    refine State.updOnu_canon _ _ _ ?_
    exact g5
  have hx3 : State.Canon (x3) := by
    refine State.rput_canon _ _ _ _ _ ?_
    exact h0
  have hx4 : State.Canon (x4) := by
    refine Canon.ite ?_ ?_
    · refine hx2 _ ?_
      refine State.rput_canon _ _ _ _ _ ?_
      exact h0
    · refine Canon.ite ?_ ?_
      · refine hx2 _ ?_
        exact hx3
      · exact hx3
  refine State.storeGrant_canon _ _ ?_
  refine State.rput_canon _ _ _ _ _ ?_
  refine State.setValid_canon _ _ _ _ ?_
  exact hx4

theorem State.storeWrite_canon (s : State) (die : Nat) (h0 : State.Canon (s)) :
    State.Canon (State.storeWrite s die) := by
  unfold State.storeWrite
  split
  · exact h0
  · extract_lets -merge x0
    have hx0 : State.Canon (x0) := by
      refine Canon.mk_iff.mpr ?_
      refine State.Canon.od ?_
      exact h0
    refine State.bump_canon _ _ _ _ ?_
    refine State.refine_canon _ _ _ _ _ _ ?_
    exact hx0

theorem State.storeDrain_canon (s : State) (die : Nat) (h0 : State.Canon (s)) :
    State.Canon (State.storeDrain s die) := by
  unfold State.storeDrain
  refine Canon.ite ?_ ?_
  · refine Canon.foldl ?_ ?_
    · intro _ _ g0
      refine State.storeWrite_canon _ _ ?_
      exact g0
    · exact h0
  · exact h0

theorem State.channelDown_canon (s : State) (p : Nat) (c : Nat) (h0 : State.Canon (s)) :
    State.Canon (State.channelDown s p c) := by
  unfold State.channelDown
  extract_lets -merge x0
  have hx0 : State.Canon (x0) := by
    refine Canon.foldl ?_ ?_
    · intro _ _ g1
      extract_lets -merge x2
      refine Canon.ite ?_ ?_
      · exact g1
      · refine State.onuToEmpty_canon _ _ _ ?_
        exact g1
    · exact h0
  refine State.updAct_canon _ _ _ _ ?_
  exact hx0

theorem State.enterFast_canon (s : State) (p : Nat) (c : Nat) (h0 : State.Canon (s)) :
    State.Canon (State.enterFast s p c) := by
  unfold State.enterFast
  refine Canon.foldl ?_ ?_
  · intro _ _ g0
    refine Canon.ite ?_ ?_
    · refine State.updOnu_canon _ _ _ ?_
      refine State.setOnu_canon _ _ _ ?_
      exact g0
    · exact g0
  · exact h0

theorem State.failAttempt_canon (s : State) (r : Nat) (h0 : State.Canon (s)) :
    State.Canon (State.failAttempt s r) := by
  unfold State.failAttempt
  extract_lets -merge x0 x1 x2
  have hx1 : State.Canon (x1) := by
    refine State.updOnu_canon _ _ _ ?_
    exact h0
  have hx2 : State.Canon (x2) := by
    refine State.updOnu_canon _ _ _ ?_
    exact hx1
  refine Canon.ite ?_ ?_
  · refine State.deactivate_canon _ _ _ ?_
    refine State.bump_canon _ _ _ _ ?_
    exact hx1
  · refine State.requestRanging_canon _ _ _ _ ?_
    exact hx2

theorem State.resumeOnus_canon (s : State) (p : Nat) (c : Nat) (h0 : State.Canon (s)) :
    State.Canon (State.resumeOnus s p c) := by
  unfold State.resumeOnus
  refine Canon.foldl ?_ ?_
  · intro _ _ g0
    extract_lets -merge x1
    refine Canon.ite ?_ ?_
    · exact g0
    · refine Canon.ite ?_ ?_
      · refine State.failAttempt_canon _ _ ?_
        exact g0
      · refine Canon.ite ?_ ?_
        · refine State.actSend_canon _ _ _ _ _ _ ?_
          exact g0
        · exact g0
  · exact h0

theorem State.litEntry_canon (s : State) (p : Nat) (c : Nat) (fromWarming : Bool) (h0 : State.Canon (s)) :
    State.Canon (State.litEntry s p c fromWarming) := by
  unfold State.litEntry
  extract_lets -merge x0 x1 x2
  have hx0 : State.Canon (x0) := by
    refine Canon.ite ?_ ?_
    · refine Canon.foldl ?_ ?_
      · intro _ _ g3
        extract_lets -merge x4
        refine Canon.ite ?_ ?_
        · refine State.onuToEmpty_canon _ _ _ ?_
          exact g3
        · exact g3
      · exact h0
    · exact h0
  have hx1 : State.Canon (x1) := by
    refine Canon.foldl ?_ ?_
    · intro _ _ g5
      refine State.updOnu_canon _ _ _ ?_
      exact g5
    · exact hx0
  have hx2 : State.Canon (x2) := by
    refine Canon.ite ?_ ?_
    · refine State.enterFast_canon _ _ _ ?_
      exact hx1
    · refine State.resumeOnus_canon _ _ _ ?_
      exact hx1
  refine State.updAct_canon _ _ _ _ ?_
  exact hx2

theorem State.freezeOnus_canon (s : State) (p : Nat) (c : Nat) (h0 : State.Canon (s)) :
    State.Canon (State.freezeOnus s p c) := by
  unfold State.freezeOnus
  extract_lets -merge x0
  have hx0 : State.Canon (x0) := by
    refine Canon.foldl ?_ ?_
    · intro _ _ g1
      refine State.updOnu_canon _ _ _ ?_
      exact g1
    · exact h0
  refine State.updAct_canon _ _ _ _ ?_
  exact hx0

theorem State.createOnu_canon (s : State) (r : Nat) (p : Nat) (c : Nat) (onu : Nat) (serial : Nat) (admin : Nat) (h0 : State.Canon (s)) :
    State.Canon (State.createOnu s r p c onu serial admin) := by
  unfold State.createOnu
  extract_lets -merge x0 x1 x2 x3 x4 x5 x6
  have hx0 : State.Canon (x0) := by
    refine State.markNew_canon _ _ _ ?_
    exact h0
  have hx1 : State.Canon (x1) := by
    refine State.rputK_canon _ _ _ _ ?_
    exact hx0
  have hx2 : State.Canon (x2) := by
    refine State.rputK_canon _ _ _ _ ?_
    exact hx1
  have hx3 : State.Canon (x3) := by
    refine State.rputK_canon _ _ _ _ ?_
    exact hx2
  have hx4 : State.Canon (x4) := by
    refine State.rputK_canon _ _ _ _ ?_
    exact hx3
  have hx5 : State.Canon (x5) := by
    refine State.rputK_canon _ _ _ _ ?_
    exact hx4
  have hx6 : State.Canon (x6) := by
    refine Canon.ite ?_ ?_
    · refine State.rput_canon _ _ _ _ _ ?_
      refine State.rputK_canon _ _ _ _ ?_
      exact hx5
    · exact hx5
  refine State.clearPm_canon _ _ ?_
  refine State.put_canon _ _ _ _ _ ?_
  exact hx6

theorem State.removeOnu_canon (s : State) (r : Nat) (h0 : State.Canon (s)) :
    State.Canon (State.removeOnu s r) := by
  unfold State.removeOnu
  extract_lets -merge x0 x1 x2
  have hx0 : State.Canon (x0) := by
    refine State.actPost_canon _ _ _ _ ?_
    exact h0
  have hx1 : State.Canon (x1) := by
    refine State.dropRecord_canon _ _ _ ?_
    refine State.dropRecord_canon _ _ _ ?_
    refine State.clearCoef_canon _ _ ?_
    exact hx0
  have hx2 : State.Canon (x2) := by
    refine State.markGone_canon _ _ _ ?_
    refine Canon.mk_iff.mpr ?_
    refine State.Canon.od ?_
    exact hx1
  refine State.put_canon _ _ _ _ _ ?_
  exact hx2

theorem State.holdoff_canon (s : State) (r : Nat) (h0 : State.Canon (s)) :
    State.Canon (State.holdoff s r) := by
  unfold State.holdoff
  extract_lets -merge x0 x1
  have hx1 : State.Canon (x1) := by
    refine State.rput_canon _ _ _ _ _ ?_
    exact h0
  refine State.updOnu_canon _ _ _ ?_
  exact hx1

theorem State.failTrial_canon (s : State) (r : Nat) (h0 : State.Canon (s)) :
    State.Canon (State.failTrial s r) := by
  unfold State.failTrial
  extract_lets -merge x0 x1
  have hx1 : State.Canon (x1) := by
    refine State.rput_canon _ _ _ _ _ ?_
    exact h0
  refine State.holdoff_canon _ _ ?_
  refine State.setRate_canon _ _ _ ?_
  exact hx1

theorem State.passTrial_canon (s : State) (r : Nat) (h0 : State.Canon (s)) :
    State.Canon (State.passTrial s r) := by
  unfold State.passTrial
  extract_lets -merge x0 x1 x2
  have hx1 : State.Canon (x1) := by
    refine State.rput_canon _ _ _ _ _ ?_
    exact h0
  have hx2 : State.Canon (x2) := by
    refine State.bump_canon _ _ _ _ ?_
    exact hx1
  refine State.updOnu_canon _ _ _ ?_
  exact hx2

theorem State.trialCount_canon (s : State) (r : Nat) (rate : Nat) (startPs : Nat) (seen : Nat) (bad : Nat) (h0 : State.Canon (s)) :
    State.Canon (State.trialCount s r rate startPs seen bad) := by
  unfold State.trialCount
  extract_lets -merge x0 x1 x2
  have hx1 : State.Canon (x1) := by
    refine State.updOnu_canon _ _ _ ?_
    exact h0
  refine Canon.ite ?_ ?_
  · refine Canon.ite ?_ ?_
    · refine State.failTrial_canon _ _ ?_
      exact hx1
    · refine Canon.ite ?_ ?_
      · refine State.passTrial_canon _ _ ?_
        exact hx1
      · exact hx1
  · exact h0

theorem State.stepTally_canon (s : State) (r : Nat) (startPs : Nat) (granted : Nat) (bad : Nat) (h0 : State.Canon (s)) :
    State.Canon (State.stepTally s r startPs granted bad) := by
  unfold State.stepTally
  extract_lets -merge x0
  refine State.updOnu_canon _ _ _ ?_
  exact h0

theorem State.shiftPhases_canon (s : State) (r : Nat) (dec : Int) (h0 : State.Canon (s)) :
    State.Canon (State.shiftPhases s r dec) := by
  unfold State.shiftPhases
  extract_lets -merge x0
  refine Canon.ite ?_ ?_
  · exact h0
  · refine Canon.foldl ?_ ?_
    · intro _ _ g1
      extract_lets -merge x2 x3 x4 x5
      have hx5 : State.Canon (x5) := by
        refine State.storeGrant_canon _ _ ?_
        refine State.rput_canon _ _ _ _ _ ?_
        exact g1
      refine Canon.ite ?_ ?_
      · refine State.bump_canon _ _ _ _ ?_
        exact hx5
      · exact g1
    · exact h0

theorem State.sendEqd_canon (s : State) (r : Nat) (eqd : Int) (h0 : State.Canon (s)) :
    State.Canon (State.sendEqd s r eqd) := by
  unfold State.sendEqd
  extract_lets -merge x0 x1 x2 x3 x4 x5 x6 x7
  have hx4 : State.Canon (x4) := by
    refine State.rputK_canon _ _ _ _ ?_
    exact h0
  have hx5 : State.Canon (x5) := by
    refine State.actSend_canon _ _ _ _ _ _ ?_
    exact hx4
  have hx6 : State.Canon (x6) := by
    refine State.actPost_canon _ _ _ _ ?_
    exact hx5
  have hx7 : State.Canon (x7) := by
    refine State.updOnu_canon _ _ _ ?_
    exact hx6
  clear_value x2
  split
  · refine State.shiftPhases_canon _ _ _ ?_
    exact hx7
  · exact hx7

theorem State.correctDrift_canon (s : State) (r : Nat) (corr : Int) (h0 : State.Canon (s)) :
    State.Canon (State.correctDrift s r corr) := by
  unfold State.correctDrift
  extract_lets -merge x0 x1 x2 x3
  have hx2 : State.Canon (x2) := by
    refine State.sendEqd_canon _ _ _ ?_
    exact h0
  have hx3 : State.Canon (x3) := by
    refine State.bump_canon _ _ _ _ ?_
    refine State.rbump_canon _ _ _ _ ?_
    exact hx2
  refine Canon.ite ?_ ?_
  · refine State.deactivate_canon _ _ _ ?_
    exact h0
  · refine State.updOnu_canon _ _ _ ?_
    exact hx3

theorem State.driftJudge_canon (s : State) (r : Nat) (a2 : Int) (f : Int) (h0 : State.Canon (s)) :
    State.Canon (State.driftJudge s r a2 f) := by
  unfold State.driftJudge
  extract_lets -merge x0
  refine Canon.ite ?_ ?_
  · refine State.correctDrift_canon _ _ _ ?_
    refine State.event_canon _ _ _ _ ?_
    exact h0
  · refine Canon.ite ?_ ?_
    · refine State.correctDrift_canon _ _ _ ?_
      exact h0
    · exact h0

theorem State.startTrial_canon (s : State) (r : Nat) (rate : Nat) (h0 : State.Canon (s)) :
    State.Canon (State.startTrial s r rate) := by
  unfold State.startTrial
  extract_lets -merge x0 x1
  have hx0 : State.Canon (x0) := by
    refine State.updOnu_canon _ _ _ ?_
    exact h0
  have hx1 : State.Canon (x1) := by
    refine State.rput_canon _ _ _ _ _ ?_
    exact hx0
  refine State.setRate_canon _ _ _ ?_
  exact hx1

theorem State.enterOperating_canon (s : State) (r : Nat) (a2 : Option Int) (h0 : State.Canon (s)) :
    State.Canon (State.enterOperating s r a2) := by
  unfold State.enterOperating
  extract_lets -merge x0 x1 x2 x3 x4 x5 x6
  have hx3 : State.Canon (x3) := by
    refine State.setOnu_canon _ _ _ ?_
    exact h0
  have hx4 : State.Canon (x4) := by
    refine State.updOnu_canon _ _ _ ?_
    exact hx3
  have hx5 : State.Canon (x5) := by
    refine State.setRate_canon _ _ _ ?_
    refine State.actPost_canon _ _ _ _ ?_
    exact hx4
  have hx6 : State.Canon (x6) := by
    refine Canon.ite ?_ ?_
    · refine State.startTrial_canon _ _ _ ?_
      exact hx5
    · exact hx5
  split
  · refine State.driftJudge_canon _ _ _ _ ?_
    refine State.rput_canon _ _ _ _ _ ?_
    exact hx6
  · exact hx6

theorem State.rerange_canon (s : State) (r : Nat) (h0 : State.Canon (s)) :
    State.Canon (State.rerange s r) := by
  unfold State.rerange
  extract_lets -merge x0 x1 x2
  have hx0 : State.Canon (x0) := by
    refine State.actPost_canon _ _ _ _ ?_
    exact h0
  have hx1 : State.Canon (x1) := by
    refine State.setOnu_canon _ _ _ ?_
    exact hx0
  have hx2 : State.Canon (x2) := by
    refine State.updOnu_canon _ _ _ ?_
    exact hx1
  refine State.requestRanging_canon _ _ _ _ ?_
  exact hx2

end Sys2Proof.Machine
end

