-- ==== Sys2Proof/Laws/CanonBufOps.lean ====
section
/-! SUPPORT. The definitions of BufOps keep the object store canonical. -/

namespace Sys2Proof.Machine

theorem State.bufReject_canon (s : State) (op : BufOp) (req : Nat) (p : Nat) (why : Nat) (h0 : State.Canon (s)) :
    State.Canon (State.bufReject s op req p why) := by
  unfold State.bufReject
  refine State.event_canon _ _ _ _ ?_
  refine State.bump_canon _ _ _ _ ?_
  exact h0

theorem State.setBuf_canon (s : State) (p : Nat) (b : Nat × Nat × Nat) (h0 : State.Canon (s)) :
    State.Canon (State.setBuf s p b) := by
  unfold State.setBuf
  extract_lets -merge x0
  refine Canon.mk_iff.mpr ?_
  refine State.Canon.od ?_
  exact h0

theorem State.lowWater_canon (s : State) (k : Nat) (h0 : State.Canon (s)) :
    State.Canon (State.lowWater s k) := by
  unfold State.lowWater
  extract_lets -merge x0 x1
  have hx1 : State.Canon (x1) := by
    refine State.put_canon _ _ _ _ _ ?_
    exact h0
  refine Canon.ite ?_ ?_
  · refine State.put_canon _ _ _ _ _ ?_
    exact hx1
  · exact hx1

theorem State.lastNotice_canon (s : State) (id : Nat) (p : Nat) (h0 : State.Canon (s)) :
    State.Canon (State.lastNotice s id p) := by
  unfold State.lastNotice
  refine Canon.ite ?_ ?_
  · refine State.event_canon _ _ _ _ ?_
    exact h0
  · exact h0

theorem State.bufOp_canon (s : State) (op : BufOp) (req : Nat) (p : Nat) (h0 : State.Canon (s)) :
    State.Canon (State.bufOp s op req p).2 := by
  unfold State.bufOp
  extract_lets -merge x0 x1 x2
  have hx2 : State.Canon (x2) := by
    refine State.setBuf_canon _ _ _ ?_
    exact h0
  refine Canon.ite2 ?_ ?_
  · refine Canon.pair ?_
    refine State.bufReject_canon _ _ _ _ _ ?_
    exact h0
  · split
    · refine Canon.pair ?_
      refine State.setBuf_canon _ _ _ ?_
      exact h0
    · refine Canon.pair ?_
      refine State.setBuf_canon _ _ _ ?_
      exact h0
    · refine Canon.ite2 ?_ ?_
      · refine Canon.ite2 ?_ ?_
        · refine Canon.pair ?_
          refine State.lowWater_canon _ _ ?_
          refine State.setBuf_canon _ _ _ ?_
          exact hx2
        · refine Canon.pair ?_
          refine State.emit_canon _ _ ?_
          refine State.lastNotice_canon _ _ _ ?_
          exact hx2
      · refine Canon.pair ?_
        exact hx2
    · refine Canon.pair ?_
      refine State.lowWater_canon _ _ ?_
      refine State.setBuf_canon _ _ _ ?_
      exact h0

theorem State.bufClock_canon (s : State) (p : Nat) (ops : List (Nat × BufOp)) (h0 : State.Canon (s)) :
    State.Canon (State.bufClock s p ops) := by
  unfold State.bufClock
  extract_lets -merge x0 x1
  refine Canon.foldl ?_ ?_
  · intro _ _ g2
    refine State.bufOp_canon _ _ _ _ ?_
    exact g2
  · refine State.servedClock_canon _ _ _ ?_
    exact h0

theorem State.bufAct_canon (s : State) (req : Nat) (p : Nat) (op : BufOp) (h0 : State.Canon (s)) :
    State.Canon (State.bufAct s req p op) := by
  unfold State.bufAct
  refine State.bufClock_canon _ _ _ ?_
  exact h0

theorem State.bufDrop_canon (s : State) (req : Nat) (shared : Bool) (a3 : Option Nat) (h0 : State.Canon (s)) :
    State.Canon (State.bufDrop s req shared a3) := by
  unfold State.bufDrop
  split
  · refine State.bufAct_canon _ _ _ _ ?_
    exact h0
  · exact h0

theorem State.take_canon (s : State) (req : Nat) (k : Nat) (h0 : State.Canon (s)) :
    State.Canon (State.take s req k).2 := by
  unfold State.take
  split
  · have g0 := Canon.of_snd (by assumption) (by
      refine State.draw_canon _ ?_
      exact h0
      )
    extract_lets -merge x1 x2
    refine Canon.pair ?_
    refine State.lowWater_canon _ _ ?_
    refine State.setBuf_canon _ _ _ ?_
    exact g0

theorem State.allocIn_canon (req n k : Nat) (up : Bool) (s : State) (h0 : State.Canon s) :
    State.Canon (State.allocIn req n k up s).2 := by
  induction n generalizing k up s with
  | zero => exact State.bump_canon _ _ _ _ h0
  | succ n ih =>
    unfold State.allocIn
    dsimp only
    split
    · have h := State.take_canon (s.granted (arbPool k) req) req k (State.granted_canon _ _ _ h0)
      refine Canon.pair (Canon.ite (State.bump_canon _ _ _ _ h) h)
    · have h := State.granted_canon s (arbPool k) req h0
      unfold State.spillUp
      split
      · exact Canon.ite2 (ih _ _ _ h) (State.bump_canon _ _ _ _ h)
      · exact State.bump_canon _ _ _ _ h

theorem State.alloc_canon (s : State) (req : Nat) (k : Nat) (h0 : State.Canon (s)) :
    State.Canon (State.alloc s req k).2 := by
  unfold State.alloc
  refine State.allocIn_canon _ _ _ _ _ ?_
  exact h0

theorem State.allocBytes_canon (s : State) (req : Nat) (deep : Bool) (n : Nat) (h0 : State.Canon (s)) :
    State.Canon (State.allocBytes s req deep n).2 := by
  unfold State.allocBytes
  split
  · refine State.alloc_canon _ _ _ ?_
    exact h0
  · refine Canon.pair ?_
    exact h0

theorem State.spillUp_canon (s : State) (k : Nat) (next : Nat → State → Option Nat × State) (h0 : State.Canon (s)) (h2 : ∀ y0 y1, State.Canon (y1) → State.Canon (next y0 y1).2) :
    State.Canon (State.spillUp s k next).2 := by
  unfold State.spillUp
  split
  · refine Canon.ite2 ?_ ?_
    · refine h2 _ _ ?_
      exact h0
    · refine Canon.pair ?_
      refine State.bump_canon _ _ _ _ ?_
      exact h0
  · refine Canon.pair ?_
    refine State.bump_canon _ _ _ _ ?_
    exact h0

theorem State.bufTo_canon (s : State) (req : Nat) (id : Nat) (a3 : Option Nat) (h0 : State.Canon (s)) :
    State.Canon (State.bufTo s req id a3) := by
  unfold State.bufTo
  split
  · refine State.bufAct_canon _ _ _ _ ?_
    exact h0
  · exact h0

end Sys2Proof.Machine
end

