-- ==== Sys2Proof/Laws/CanonPortOps.lean ====
section
/-! SUPPORT. The definitions of PortOps keep the object store canonical. -/

namespace Sys2Proof.Machine

theorem State.discardNotices_canon (s : State) (p : Nat) (c : Nat) (n : Nat) (h0 : State.Canon (s)) :
    State.Canon (State.discardNotices s p c n) := by
  unfold State.discardNotices
  refine State.bumpBy_canon _ _ _ _ _ ?_
  exact h0

theorem State.laserCodeAt_canon (s : State) (p : Nat) (c : Nat) (code : Nat) (start : Nat) (h0 : State.Canon (s)) :
    State.Canon (State.laserCodeAt s p c code start) := by
  unfold State.laserCodeAt
  refine Canon.ite ?_ ?_
  · refine State.emit_canon _ _ ?_
    refine State.updOptic_canon _ _ _ ?_
    exact h0
  · exact h0

theorem State.laserCode_canon (s : State) (p : Nat) (c : Nat) (code : Nat) (h0 : State.Canon (s)) :
    State.Canon (State.laserCode s p c code) := by
  unfold State.laserCode
  refine State.laserCodeAt_canon _ _ _ _ _ ?_
  exact h0

theorem State.sbFrame_canon (s : State) (p : Nat) (m : SbCmd) (h0 : State.Canon (s)) :
    State.Canon (State.sbFrame s p m) := by
  unfold State.sbFrame
  refine State.emit_canon _ _ ?_
  exact h0

theorem State.sbSend_canon (s : State) (p : Nat) (m : SbCmd) (h0 : State.Canon (s)) :
    State.Canon (State.sbSend s p m) := by
  unfold State.sbSend
  extract_lets -merge x0 x1
  refine Canon.ite ?_ ?_
  · exact h0
  · refine Canon.ite ?_ ?_
    · refine State.bump_canon _ _ _ _ ?_
      refine State.sbFrame_canon _ _ _ ?_
      refine State.updOptic_canon _ _ _ ?_
      exact h0
    · refine State.updOptic_canon _ _ _ ?_
      exact h0

theorem State.sbWrite_canon (s : State) (p : Nat) (c : Nat) (reg : Nat) (v : Int) (h0 : State.Canon (s)) :
    State.Canon (State.sbWrite s p c reg v) := by
  unfold State.sbWrite
  refine State.sbSend_canon _ _ _ ?_
  exact h0

theorem State.shutChannel_canon (s : State) (p : Nat) (c : Nat) (h0 : State.Canon (s)) :
    State.Canon (State.shutChannel s p c) := by
  unfold State.shutChannel
  extract_lets -merge x0 x1 x2 x3 x4 x5 x6
  have hx1 : State.Canon (x1) := by
    refine State.discardNotices_canon _ _ _ _ ?_
    exact h0
  have hx2 : State.Canon (x2) := by
    refine State.updCh_canon _ _ _ _ ?_
    exact hx1
  have hx3 : State.Canon (x3) := by
    refine State.laserCode_canon _ _ _ _ ?_
    exact hx2
  have hx4 : State.Canon (x4) := by
    refine State.updLoop_canon _ _ _ _ ?_
    exact hx3
  have hx5 : State.Canon (x5) := by
    refine State.sbWrite_canon _ _ _ _ _ ?_
    refine State.put_canon _ _ _ _ _ ?_
    exact hx4
  have hx6 : State.Canon (x6) := by
    refine State.put_canon _ _ _ _ _ ?_
    exact hx5
  refine State.storeDrain_canon _ _ ?_
  refine State.put_canon _ _ _ _ _ ?_
  exact hx6

theorem State.enterFault_canon (s : State) (p : Nat) (c : Nat) (cause : Nat) (h0 : State.Canon (s)) :
    State.Canon (State.enterFault s p c cause) := by
  unfold State.enterFault
  extract_lets -merge x0 x1 x2 x3 x4
  have hx1 : State.Canon (x1) := by
    refine State.put_canon _ _ _ _ _ ?_
    exact h0
  have hx2 : State.Canon (x2) := by
    refine State.put_canon _ _ _ _ _ ?_
    exact hx1
  have hx3 : State.Canon (x3) := by
    refine State.shutChannel_canon _ _ _ ?_
    exact hx2
  have hx4 : State.Canon (x4) := by
    refine State.event_canon _ _ _ _ ?_
    exact hx3
  refine Canon.ite ?_ ?_
  · refine State.refreshFaults_canon _ ?_
    refine Canon.ite ?_ ?_
    · refine State.channelDown_canon _ _ _ ?_
      exact hx4
    · exact hx4
  · exact h0

theorem State.enterWarming_canon (s : State) (p : Nat) (c : Nat) (h0 : State.Canon (s)) :
    State.Canon (State.enterWarming s p c) := by
  unfold State.enterWarming
  extract_lets -merge x0 x1 x2 x3
  have hx0 : State.Canon (x0) := by
    refine State.put_canon _ _ _ _ _ ?_
    exact h0
  have hx1 : State.Canon (x1) := by
    refine State.updCh_canon _ _ _ _ ?_
    exact hx0
  have hx2 : State.Canon (x2) := by
    refine State.updLoop_canon _ _ _ _ ?_
    exact hx1
  have hx3 : State.Canon (x3) := by
    refine State.put_canon _ _ _ _ _ ?_
    exact hx2
  refine Canon.ite ?_ ?_
  · refine State.enterFault_canon _ _ _ _ ?_
    exact hx3
  · exact hx3

theorem State.laserOn_canon (s : State) (p : Nat) (c : Nat) (h0 : State.Canon (s)) :
    State.Canon (State.laserOn s p c) := by
  unfold State.laserOn
  extract_lets -merge x0 x1 x2 x3 x4
  have hx1 : State.Canon (x1) := by
    refine State.sbWrite_canon _ _ _ _ _ ?_
    refine State.put_canon _ _ _ _ _ ?_
    exact h0
  have hx2 : State.Canon (x2) := by
    refine State.sbWrite_canon _ _ _ _ _ ?_
    refine State.put_canon _ _ _ _ _ ?_
    exact hx1
  have hx3 : State.Canon (x3) := by
    refine Canon.ite ?_ ?_
    · refine State.updOptic_canon _ _ _ ?_
      exact hx2
    · exact h0
  have hx4 : State.Canon (x4) := by
    refine State.updCh_canon _ _ _ _ ?_
    exact hx3
  refine State.laserCode_canon _ _ _ _ ?_
  exact hx4

theorem State.enterLit_canon (s : State) (p : Nat) (c : Nat) (h0 : State.Canon (s)) :
    State.Canon (State.enterLit s p c) := by
  unfold State.enterLit
  extract_lets -merge x0 x1 x2 x3
  have hx1 : State.Canon (x1) := by
    refine State.put_canon _ _ _ _ _ ?_
    exact h0
  have hx2 : State.Canon (x2) := by
    refine State.updCh_canon _ _ _ _ ?_
    exact hx1
  have hx3 : State.Canon (x3) := by
    refine State.laserOn_canon _ _ _ ?_
    exact hx2
  refine State.litEntry_canon _ _ _ _ ?_
  exact hx3

theorem State.enterDark_canon (s : State) (p : Nat) (c : Nat) (h0 : State.Canon (s)) :
    State.Canon (State.enterDark s p c) := by
  unfold State.enterDark
  extract_lets -merge x0 x1 x2 x3
  have hx1 : State.Canon (x1) := by
    refine State.put_canon _ _ _ _ _ ?_
    exact h0
  have hx2 : State.Canon (x2) := by
    refine State.updCh_canon _ _ _ _ ?_
    exact hx1
  have hx3 : State.Canon (x3) := by
    refine State.updLoop_canon _ _ _ _ ?_
    exact hx2
  refine Canon.ite ?_ ?_
  · refine State.freezeOnus_canon _ _ _ ?_
    refine State.laserCodeAt_canon _ _ _ _ _ ?_
    exact hx3
  · exact hx3

theorem State.leaveWarming_canon (s : State) (p : Nat) (c : Nat) (h0 : State.Canon (s)) :
    State.Canon (State.leaveWarming s p c) := by
  unfold State.leaveWarming
  refine Canon.ite ?_ ?_
  · split
    · refine State.enterLit_canon _ _ _ ?_
      exact h0
    · refine State.enterDark_canon _ _ _ ?_
      exact h0
    · exact h0
  · exact h0

theorem State.enterOff_canon (s : State) (p : Nat) (c : Nat) (h0 : State.Canon (s)) :
    State.Canon (State.enterOff s p c) := by
  unfold State.enterOff
  extract_lets -merge x0 x1 x2 x3 x4
  have hx1 : State.Canon (x1) := by
    refine State.put_canon _ _ _ _ _ ?_
    exact h0
  have hx2 : State.Canon (x2) := by
    refine State.put_canon _ _ _ _ _ ?_
    exact hx1
  have hx3 : State.Canon (x3) := by
    refine State.shutChannel_canon _ _ _ ?_
    exact hx2
  have hx4 : State.Canon (x4) := by
    refine State.put_canon _ _ _ _ _ ?_
    exact hx3
  refine State.refreshFaults_canon _ ?_
  refine Canon.ite ?_ ?_
  · refine State.channelDown_canon _ _ _ ?_
    exact hx4
  · exact hx4

theorem State.chCmdApply_canon (s : State) (p : Nat) (c : Nat) (v : Nat) (h0 : State.Canon (s)) :
    State.Canon (State.chCmdApply s p c v) := by
  unfold State.chCmdApply
  extract_lets -merge x0 x1
  have hx0 : State.Canon (x0) := by
    refine State.putK_canon _ _ _ _ _ ?_
    exact h0
  refine Canon.ite ?_ ?_
  · refine Canon.ite ?_ ?_
    · refine State.enterWarming_canon _ _ _ ?_
      exact hx0
    · exact hx0
  · refine Canon.ite ?_ ?_
    · refine Canon.ite ?_ ?_
      · refine State.updCh_canon _ _ _ _ ?_
        exact hx0
      · refine Canon.ite ?_ ?_
        · refine State.leaveWarming_canon _ _ _ ?_
          exact hx0
        · exact hx0
    · refine Canon.ite ?_ ?_
      · refine Canon.ite ?_ ?_
        · refine State.enterLit_canon _ _ _ ?_
          exact hx0
        · refine Canon.ite ?_ ?_
          · refine State.updCh_canon _ _ _ _ ?_
            exact hx0
          · exact hx0
      · refine Canon.ite ?_ ?_
        · refine Canon.ite ?_ ?_
          · exact hx0
          · refine State.updCh_canon _ _ _ _ ?_
            exact hx0
        · refine Canon.ite ?_ ?_
          · refine State.enterOff_canon _ _ _ ?_
            exact hx0
          · exact hx0

theorem State.chCmd_canon (s : State) (p : Nat) (c : Nat) (v : Nat) (h0 : State.Canon (s)) :
    State.Canon (State.chCmd s p c v) := by
  unfold State.chCmd
  split
  · refine State.result_canon _ _ _ _ _ _ ?_
    refine State.chCmdApply_canon _ _ _ _ ?_
    exact h0
  · refine State.result_canon _ _ _ _ _ _ ?_
    exact h0

theorem State.pendingApply_canon (s : State) (p : Nat) (c : Nat) (h0 : State.Canon (s)) :
    State.Canon (State.pendingApply s p c) := by
  unfold State.pendingApply
  extract_lets -merge x0 x1 x2
  have hx0 : State.Canon (x0) := by
    refine State.updCh_canon _ _ _ _ ?_
    exact h0
  refine Canon.ite ?_ ?_
  · refine Canon.ite ?_ ?_
    · refine State.enterOff_canon _ _ _ ?_
      exact hx0
    · refine Canon.ite ?_ ?_
      · refine State.enterDark_canon _ _ _ ?_
        exact hx0
      · exact hx0
  · exact h0

theorem State.sbRead_canon (s : State) (p : Nat) (c : Nat) (reg : Nat) (n : Nat) (h0 : State.Canon (s)) :
    State.Canon (State.sbRead s p c reg n) := by
  unfold State.sbRead
  refine State.sbSend_canon _ _ _ ?_
  exact h0

end Sys2Proof.Machine
end

