-- ==== Sys2Proof/Laws/CanonBurstOps.lean ====
section
/-! SUPPORT. The definitions of BurstOps keep the object store canonical. -/

namespace Sys2Proof.Machine

theorem State.updBurst_canon (s : State) (p : Nat) (c : Nat) (start : Nat) (f : Burst → Burst) (h0 : State.Canon (s)) :
    State.Canon (State.updBurst s p c start f) := by
  unfold State.updBurst
  refine State.updCh_canon _ _ _ _ ?_
  exact h0

theorem State.lolReceived_canon (s : State) (p : Nat) (c : Nat) (h0 : State.Canon (s)) :
    State.Canon (State.lolReceived s p c) := by
  unfold State.lolReceived
  extract_lets -merge x0
  have hx0 : State.Canon (x0) := by
    refine State.updCh_canon _ _ _ _ ?_
    exact h0
  refine Canon.ite ?_ ?_
  · refine State.event_canon _ _ _ _ ?_
    refine State.put_canon _ _ _ _ _ ?_
    exact hx0
  · exact hx0

theorem State.tallyOutcome_canon (s : State) (p : Nat) (c : Nat) (b : Burst) (o : BurstOutcome) (a5 : Int) (h0 : State.Canon (s)) :
    State.Canon (State.tallyOutcome s p c b o a5) := by
  unfold State.tallyOutcome
  refine State.updCh_canon _ _ _ _ ?_
  exact h0

theorem State.lolStale_canon (s : State) (p : Nat) (r : Nat) (b : Burst) (noLock : Bool) (h0 : State.Canon (s)) :
    State.Canon (State.lolStale s p r b noLock) := by
  unfold State.lolStale
  extract_lets -merge x0 x1
  have hx1 : State.Canon (x1) := by
    refine State.updOnu_canon _ _ _ ?_
    exact h0
  refine Canon.ite ?_ ?_
  · refine Canon.ite ?_ ?_
    · refine State.bump_canon _ _ _ _ ?_
      refine State.setValid_canon _ _ _ _ ?_
      exact hx1
    · exact hx1
  · refine State.updOnu_canon _ _ _ ?_
    exact h0

theorem State.flushWrong_canon (s : State) (p : Nat) (c : Nat) (h0 : State.Canon (s)) :
    State.Canon (State.flushWrong s p c) := by
  unfold State.flushWrong
  extract_lets -merge x0
  refine Canon.ite ?_ ?_
  · refine State.event_canon _ _ _ _ ?_
    refine State.updCh_canon _ _ _ _ ?_
    exact h0
  · exact h0

theorem State.grantLost_canon (s : State) (p : Nat) (c : Nat) (onu : Nat) (startPs : Nat) (h0 : State.Canon (s)) :
    State.Canon (State.grantLost s p c onu startPs) := by
  unfold State.grantLost
  extract_lets -merge x0
  refine Canon.foldl ?_ ?_
  · intro _ _ g1
    refine State.updCtx_canon _ _ _ ?_
    exact g1
  · exact h0

theorem State.lolLost_canon (s : State) (p : Nat) (c : Nat) (h0 : State.Canon (s)) :
    State.Canon (State.lolLost s p c) := by
  unfold State.lolLost
  extract_lets -merge x0 x1
  have hx1 : State.Canon (x1) := by
    refine State.updCh_canon _ _ _ _ ?_
    exact h0
  refine Canon.ite ?_ ?_
  · refine State.event_canon _ _ _ _ ?_
    refine State.put_canon _ _ _ _ _ ?_
    exact hx1
  · exact hx1

theorem State.sendFinal_canon (s : State) (p : Nat) (c : Nat) (b : Burst) (h0 : State.Canon (s)) :
    State.Canon (State.sendFinal s p c b) := by
  unfold State.sendFinal
  extract_lets -merge x0 x1
  have hx1 : State.Canon (x1) := by
    refine State.updCh_canon _ _ _ _ ?_
    exact h0
  exact hx1

end Sys2Proof.Machine
end

