-- ==== Sys2Proof/Laws/CanonCaptureOps.lean ====
section
/-! SUPPORT. The definitions of CaptureOps keep the object store canonical. -/

namespace Sys2Proof.Machine

theorem State.capStore_canon (s : State) (a1 : CapBurst) (h0 : State.Canon (s)) :
    State.Canon (State.capStore s a1) := by
  unfold State.capStore
  extract_lets -merge x0 x1 x2 x3 x4 x5 x6 x7 x8 x9 x10
  have hx10 : State.Canon (x10) := by
    refine State.ddrAccess_canon _ _ _ ?_
    refine Canon.mk_iff.mpr ?_
    refine State.Canon.od ?_
    exact h0
  refine Canon.ite ?_ ?_
  · refine State.put_canon _ _ _ _ _ ?_
    refine State.put_canon _ _ _ _ _ ?_
    exact hx10
  · exact hx10

theorem State.captureOutcome_canon (s : State) (p : Nat) (c : Nat) (b : Burst) (kind : Nat) (h0 : State.Canon (s)) :
    State.Canon (State.captureOutcome s p c b kind) := by
  unfold State.captureOutcome
  extract_lets -merge x0 x1 x2 x3 x4 x5 x6 x7 x8
  have hx4 : State.Canon (x4) := by
    refine Canon.mk_iff.mpr ?_
    refine State.Canon.od ?_
    exact h0
  refine Canon.ite ?_ ?_
  · refine Canon.ite ?_ ?_
    · refine Canon.ite ?_ ?_
      · refine State.put_canon _ _ _ _ _ ?_
        refine State.put_canon _ _ _ _ _ ?_
        exact hx4
      · exact hx4
    · refine State.capStore_canon _ _ ?_
      refine Canon.mk_iff.mpr ?_
      refine State.Canon.od ?_
      exact h0
  · exact h0

end Sys2Proof.Machine
end

