-- ==== Sys2Proof/Laws/CanonTmOps.lean ====
section
/-! SUPPORT. The definitions of TmOps keep the object store canonical. -/

namespace Sys2Proof.Machine

theorem State.setShaper_canon (s : State) (isQ : Bool) (dir : Nat) (n : Nat) (sh : Shaper) (h0 : State.Canon (s)) :
    State.Canon (State.setShaper s isQ dir n sh) := by
  unfold State.setShaper
  extract_lets -merge x0 x1
  refine Canon.ite ?_ ?_
  · refine Canon.mk_iff.mpr ?_
    refine State.Canon.od ?_
    exact h0
  · refine Canon.mk_iff.mpr ?_
    refine State.Canon.od ?_
    exact h0

theorem State.setQueue_canon (s : State) (dir : Nat) (q : Nat) (l : List QPkt) (h0 : State.Canon (s)) :
    State.Canon (State.setQueue s dir q l) := by
  unfold State.setQueue
  extract_lets -merge x0
  refine Canon.mk_iff.mpr ?_
  refine State.Canon.od ?_
  exact h0

theorem State.spill_canon (s : State) (dir : Nat) (q : Nat) (a3 : QPkt) (h0 : State.Canon (s)) :
    State.Canon (State.spill s dir q a3).2 := by
  unfold State.spill
  extract_lets -merge x0 x1
  split
  · have g2 := Canon.of_snd (by assumption) (by
      refine State.allocBytes_canon _ _ _ _ ?_
      exact h0
      )
    extract_lets -merge x3 x4 x5 x6
    have hx4 : State.Canon (x4) := by
      refine Canon.mk_iff.mpr ?_
      refine State.Canon.od ?_
      exact g2
    have hx6 : State.Canon (x6) := by
      refine State.bufAct_canon _ _ _ _ ?_
      exact g2
    refine Canon.ite2 ?_ ?_
    · refine Canon.pair ?_
      refine State.ddrAccess_canon _ _ _ ?_
      refine State.bump_canon _ _ _ _ ?_
      refine State.setQueue_canon _ _ _ _ ?_
      exact hx4
    · refine Canon.pair ?_
      refine State.bufDrop_canon _ _ _ _ ?_
      refine State.rbump_canon _ _ _ _ ?_
      refine State.bump_canon _ _ _ _ ?_
      exact hx6
  · have g7 := Canon.of_snd (by assumption) (by
      refine State.allocBytes_canon _ _ _ _ ?_
      exact h0
      )
    refine Canon.pair ?_
    refine State.bufDrop_canon _ _ _ _ ?_
    refine State.rbump_canon _ _ _ _ ?_
    refine State.bump_canon _ _ _ _ ?_
    exact g7

theorem State.accept_canon (s : State) (dir : Nat) (q : Nat) (a3 : QPkt) (h0 : State.Canon (s)) :
    State.Canon (State.accept s dir q a3).2 := by
  unfold State.accept
  extract_lets -merge x0 x1 x2 x3 x4 x5 x6
  have hx4 : State.Canon (x4) := by
    refine State.rbumpBy_canon _ _ _ _ _ ?_
    refine State.rbump_canon _ _ _ _ ?_
    exact h0
  refine Canon.ite2 ?_ ?_
  · refine Canon.pair ?_
    refine State.bufDrop_canon _ _ _ _ ?_
    refine State.bump_canon _ _ _ _ ?_
    exact h0
  · refine Canon.ite2 ?_ ?_
    · refine Canon.pair ?_
      refine State.bufDrop_canon _ _ _ _ ?_
      refine State.rbump_canon _ _ _ _ ?_
      refine State.bump_canon _ _ _ _ ?_
      exact h0
    · refine Canon.ite2 ?_ ?_
      · refine Canon.pair ?_
        refine State.bufDrop_canon _ _ _ _ ?_
        refine State.rbump_canon _ _ _ _ ?_
        exact h0
      · refine Canon.ite2 ?_ ?_
        · refine State.spill_canon _ _ _ _ ?_
          exact hx4
        · refine Canon.pair ?_
          refine State.setQueue_canon _ _ _ _ ?_
          exact hx4

theorem State.findQueue_canon (s : State) (dir : Nat) (d : Dest) (sel : Nat) (queue : Nat) (cls : Nat) (h0 : State.Canon (s)) :
    State.Canon (State.findQueue s dir d sel queue cls).2 := by
  unfold State.findQueue
  split
  · refine Canon.pair ?_
    refine State.bump_canon _ _ _ _ ?_
    exact h0
  · extract_lets -merge x0
    refine Canon.ite2 ?_ ?_
    · refine Canon.pair ?_
      refine State.bump_canon _ _ _ _ ?_
      exact h0
    · refine Canon.ite2 ?_ ?_
      · refine Canon.pair ?_
        refine State.bump_canon _ _ _ _ ?_
        exact h0
      · refine Canon.ite2 ?_ ?_
        · refine Canon.pair ?_
          refine State.bump_canon _ _ _ _ ?_
          exact h0
        · refine Canon.ite2 ?_ ?_
          · refine Canon.pair ?_
            refine State.rbump_canon _ _ _ _ ?_
            exact h0
          · refine Canon.pair ?_
            exact h0

theorem State.debit_canon (s : State) (dir : Nat) (q : Nat) (n : Nat) (h0 : State.Canon (s)) :
    State.Canon (State.debit s dir q n) := by
  unfold State.debit
  extract_lets -merge x0 x1 x2 x3 x4
  have hx3 : ∀ y0 y1 y2 y3, State.Canon (y0) → State.Canon (x3 y0 y1 y2 y3) := by
    intro _ _ _ _ g5
    unfold x3
    extract_lets -merge x6
    refine State.setShaper_canon _ _ _ _ _ ?_
    exact g5
  have hx4 : State.Canon (x4) := by
    refine hx3 _ _ _ _ ?_
    exact h0
  refine Canon.foldl ?_ ?_
  · intro _ _ g7
    extract_lets -merge x8
    have hx8 : State.Canon (x8) := by
      refine State.rbumpBy_canon _ _ _ _ _ ?_
      refine State.rbump_canon _ _ _ _ ?_
      exact g7
    refine Canon.ite ?_ ?_
    · exact hx8
    · refine hx3 _ _ _ _ ?_
      exact hx8
  · exact hx4

theorem State.spillAccess_canon (s : State) (a1 : Option Nat) (h0 : State.Canon (s)) :
    State.Canon (State.spillAccess s a1) := by
  unfold State.spillAccess
  split
  · refine State.ddrAccess_canon _ _ _ ?_
    exact h0
  · exact h0

theorem State.refill_canon (s : State) (dir : Nat) (q : Nat) (h0 : State.Canon (s)) :
    State.Canon (State.refill s dir q) := by
  unfold State.refill
  extract_lets -merge x0 x1 x2
  refine Canon.ite ?_ ?_
  · refine Canon.foldl ?_ ?_
    · intro _ _ g3
      refine State.spillAccess_canon _ _ ?_
      exact g3
    · refine State.setQueue_canon _ _ _ _ ?_
      exact h0
  · exact h0

theorem State.dequeue_canon (s : State) (dir : Nat) (q : Nat) (h0 : State.Canon (s)) :
    State.Canon (State.dequeue s dir q).2 := by
  unfold State.dequeue
  split
  · refine Canon.pair ?_
    exact h0
  · extract_lets -merge x0 x1
    have hx0 : State.Canon (x0) := by
      refine State.setQueue_canon _ _ _ _ ?_
      exact h0
    have hx1 : State.Canon (x1) := by
      refine State.debit_canon _ _ _ _ ?_
      exact hx0
    refine Canon.pair ?_
    refine State.refill_canon _ _ _ ?_
    exact hx1

theorem State.leaveQueue_canon (s : State) (dir : Nat) (q : Nat) (a3 : QPkt) (rest : List QPkt) (h0 : State.Canon (s)) :
    State.Canon (State.leaveQueue s dir q a3 rest) := by
  unfold State.leaveQueue
  extract_lets -merge x0 x1 x2 x3 x4
  have hx0 : State.Canon (x0) := by
    refine State.setQueue_canon _ _ _ _ ?_
    exact h0
  have hx1 : State.Canon (x1) := by
    refine State.bufDrop_canon _ _ _ _ ?_
    exact hx0
  have hx2 : State.Canon (x2) := by
    unfold x2
    split
    · extract_lets -merge x5 x6
      have hx5 : State.Canon (x5) := by
        refine State.bufDrop_canon _ _ _ _ ?_
        exact hx1
      refine Canon.mk_iff.mpr ?_
      refine State.Canon.od ?_
      exact hx5
    · exact hx1
  have hx4 : State.Canon (x4) := by
    refine Canon.ite ?_ ?_
    · refine State.setShaper_canon _ _ _ _ _ ?_
      exact hx2
    · exact hx2
  refine State.refill_canon _ _ _ ?_
  refine Canon.foldl ?_ ?_
  · intro _ _ g7
    extract_lets -merge x8
    refine Canon.ite ?_ ?_
    · refine State.setShaper_canon _ _ _ _ _ ?_
      exact g7
    · exact g7
  · exact hx4

theorem State.dropQueued_canon (s : State) (dir : Nat) (q : Nat) (a3 : QPkt) (rest : List QPkt) (h0 : State.Canon (s)) :
    State.Canon (State.dropQueued s dir q a3 rest) := by
  unfold State.dropQueued
  refine State.leaveQueue_canon _ _ _ _ _ ?_
  refine State.rbump_canon _ _ _ _ ?_
  exact h0

theorem State.dwrr_canon (s : State) (dir n prio : Nat) (l : List (Bool × Nat)) (f : Nat) (h0 : State.Canon s) :
    State.Canon (State.dwrr s dir n prio l f).2 := by
  induction f generalizing s with
  | zero => exact h0
  | succ f ih =>
    unfold State.dwrr
    extract_lets k ptr
    split
    · exact h0
    · extract_lets sh
      split
      · exact Canon.mk_iff.mpr h0.od
      · exact ih _ (Canon.mk_iff.mpr (State.setShaper_canon _ _ _ _ _ h0).od)

theorem State.pickAmong_canon (dir n prio : Nat) (sub : Nat → State → Option Nat × State) (f : Nat) (l : List (Bool × Nat))
    (s : State) (h3 : ∀ y0 y1, State.Canon y1 → State.Canon (sub y0 y1).2) (h0 : State.Canon s) :
    State.Canon (State.pickAmong dir n prio sub f l s).2 := by
  induction f generalizing l s with
  | zero => exact h0
  | succ f ih =>
    unfold State.pickAmong
    have hd := State.dwrr_canon s dir n prio l (24 * (l.length + 1)) h0
    split
    · exact Canon.of_snd (by assumption) hd
    · have h := Canon.of_snd (by assumption) hd
      split
      · exact h
      · split
        · exact Canon.of_snd (by assumption) (h3 _ _ h)
        · exact ih _ _ (Canon.of_snd (by assumption) (h3 _ _ h))

theorem State.pickPasses_canon (dir n : Nat) (sub : Nat → State → Option Nat × State) (l : List (Bool × Nat)) (s : State)
    (h2 : ∀ y0 y1, State.Canon y1 → State.Canon (sub y0 y1).2) (h0 : State.Canon s) :
    State.Canon (State.pickPasses dir n sub l s).2 := by
  induction l generalizing s with
  | nil => exact h0
  | cons e t ih =>
    unfold State.pickPasses
    extract_lets l
    have h := State.pickAmong_canon dir n e.2 sub (l.length + 1) l s h2 h0
    split
    · exact Canon.of_snd (by assumption) h
    · exact ih _ (Canon.of_snd (by assumption) h)

theorem State.pick_canon (dir f n : Nat) (s : State) (h3 : State.Canon s) : State.Canon (State.pick dir f n s).2 := by
  induction f generalizing n s with
  | zero => exact h3
  | succ f ih =>
    unfold State.pick
    exact State.pickPasses_canon _ _ _ _ _ (fun _ _ h => ih _ _ h) h3

theorem State.police_canon (s : State) (i : Nat) (n : Nat) (colour : Nat) (h0 : State.Canon (s)) :
    State.Canon (State.police s i n colour).2 := by
  unfold State.police
  extract_lets -merge x0 x1 x2 x3 x4 x5 x6 x7 x8 x9 x10
  have hx10 : State.Canon (x10) := by
    refine Canon.mk_iff.mpr ?_
    refine State.Canon.od ?_
    exact h0
  refine Canon.ite2 ?_ ?_
  · refine Canon.pair ?_
    exact h0
  · refine Canon.pair ?_
    refine State.rbump_canon _ _ _ _ ?_
    exact hx10

end Sys2Proof.Machine
end

