-- ==== Sys2Proof/Laws/CanonFwdOps.lean ====
section
/-! SUPPORT. The definitions of FwdOps keep the object store canonical. -/

namespace Sys2Proof.Machine

theorem State.setWays_canon (s : State) (far : Bool) (t : Tab FwdEnt) (h0 : State.Canon (s)) :
    State.Canon (State.setWays s far t) := by
  unfold State.setWays
  extract_lets -merge x0 x1 x2
  have hx2 : State.Canon (x2) := by
    refine Canon.ite ?_ ?_
    · refine Canon.mk_iff.mpr ?_
      refine State.Canon.od ?_
      exact h0
    · refine Canon.mk_iff.mpr ?_
      refine State.Canon.od ?_
      exact h0
  refine Canon.ite ?_ ?_
  · refine State.put_canon _ _ _ _ _ ?_
    exact hx2
  · refine State.put_canon _ _ _ _ _ ?_
    exact hx2

theorem State.putWay_canon (s : State) (far : Bool) (i : Nat) (e : FwdEnt) (h0 : State.Canon (s)) :
    State.Canon (State.putWay s far i e) := by
  unfold State.putWay
  refine State.setWays_canon _ _ _ ?_
  exact h0

theorem State.delWay_canon (s : State) (far : Bool) (i : Nat) (h0 : State.Canon (s)) :
    State.Canon (State.delWay s far i) := by
  unfold State.delWay
  refine State.setWays_canon _ _ _ ?_
  exact h0

theorem State.cuckooMoves_canon (s : State) (far : Bool) (l : List Nat) (h0 : State.Canon s) :
    State.Canon (State.cuckooMoves s far l) := by
  induction l generalizing s with
  | nil => exact h0
  | cons i t ih =>
    unfold State.cuckooMoves
    extract_lets e
    split
    · exact ih _ (State.delWay_canon _ _ _ (State.putWay_canon _ _ _ _ h0))
    · exact ih _ h0

theorem State.insertIn_canon (s : State) (far : Bool) (e : FwdEnt) (h0 : State.Canon s) :
    ∀ y, (State.insertIn s far e) = some y → State.Canon y := by
  unfold State.insertIn
  split
  · intro _ h; cases h
  · dsimp only
    split
    · exact Canon.someI (State.putWay_canon _ _ _ _ h0)
    · split
      · intro _ h; cases h
      · intro y hy
        obtain ⟨i, -, rfl⟩ := Option.map_eq_some_iff.mp hy
        exact State.putWay_canon _ _ _ _ (State.cuckooMoves_canon _ _ _ h0)

theorem State.markFar_canon (s : State) (form : Nat) (key : Nat) (h0 : State.Canon (s)) :
    State.Canon (State.markFar s form key) := by
  unfold State.markFar
  extract_lets -merge x0 x1
  refine Canon.mk_iff.mpr ?_
  refine State.Canon.od ?_
  exact h0

theorem State.insert_canon (s : State) (e : FwdEnt) (h0 : State.Canon (s)) :
    State.Canon (State.insert s e).2 := by
  unfold State.insert
  extract_lets -merge x0
  split
  · have g1 := Canon.of_some (by assumption) (by
      refine State.insertIn_canon _ _ _ ?_
      exact h0
      )
    refine Canon.pair ?_
    exact g1
  · split
    · have g2 := Canon.of_some (by assumption) (by
        refine Canon.iteO ?_ ?_
        · refine State.insertIn_canon _ _ _ ?_
          exact h0
        · intro _ hn; cases hn
        )
      refine Canon.pair ?_
      refine State.markFar_canon _ _ _ ?_
      exact g2
    · refine Canon.ite2 ?_ ?_
      · refine Canon.pair ?_
        exact h0
      · refine Canon.pair ?_
        refine State.event_canon _ _ _ _ ?_
        refine Canon.mk_iff.mpr ?_
        refine State.Canon.od ?_
        exact h0

theorem State.assocHits_canon (s : State) (keys : List (Nat × Nat)) (h0 : State.Canon (s)) :
    State.Canon (State.assocHits s keys) := by
  unfold State.assocHits
  extract_lets -merge x0 x1
  refine Canon.mk_iff.mpr ?_
  refine State.Canon.od ?_
  exact h0

theorem State.setHit_canon (s : State) (form : Nat) (key : Nat) (h0 : State.Canon (s)) :
    State.Canon (State.setHit s form key) := by
  unfold State.setHit
  split
  · extract_lets -merge x0
    refine State.setWays_canon _ _ _ ?_
    exact h0
  · exact h0

theorem State.startPromotions_canon (s : State) (l : List (Nat × Nat)) (h0 : State.Canon (s)) :
    State.Canon (State.startPromotions s l) := by
  unfold State.startPromotions
  extract_lets -merge x0 x1
  refine Canon.ite ?_ ?_
  · exact h0
  · refine Canon.ite ?_ ?_
    · refine State.bump_canon _ _ _ _ ?_
      exact h0
    · refine Canon.mk_iff.mpr ?_
      refine State.Canon.od ?_
      exact h0

theorem State.lookup_canon (s : State) (f : KeyF) (cls : Nat) (h0 : State.Canon (s)) :
    State.Canon (State.lookup s f cls).2 := by
  unfold State.lookup
  extract_lets -merge x0 x1 x2 x3 x4 x5
  have hx2 : State.Canon (x2) := by
    refine Canon.foldl ?_ ?_
    · intro _ _ g6
      refine State.setHit_canon _ _ _ ?_
      exact g6
    · exact h0
  have hx4 : ∀ y0 y1 y2 y3, State.Canon (y0) → State.Canon (x4 y0 y1 y2 y3).2 := by
    intro _ _ _ _ g7
    unfold x4
    refine Canon.ite2 ?_ ?_
    · refine Canon.pair ?_
      exact g7
    · refine Canon.ite2 ?_ ?_
      · refine Canon.pair ?_
        exact g7
      · refine Canon.pair ?_
        refine State.bump_canon _ _ _ _ ?_
        exact g7
  split
  · refine hx4 _ _ _ _ ?_
    refine State.rbump_canon _ _ _ _ ?_
    refine State.assocHits_canon _ _ ?_
    exact hx2
  · clear_value x1
    split
    · extract_lets -merge x8
      refine hx4 _ _ _ _ ?_
      exact hx2
    · refine Canon.ite2 ?_ ?_
      · refine Canon.pair ?_
        refine State.bump_canon _ _ _ _ ?_
        exact hx2
      · refine Canon.pair ?_
        refine State.startPromotions_canon _ _ ?_
        refine State.bump_canon _ _ _ _ ?_
        exact hx2

theorem State.quarEnd_canon (s : State) (key : Nat) (h0 : State.Canon (s)) :
    State.Canon (State.quarEnd s key) := by
  unfold State.quarEnd
  split
  · refine Canon.ite ?_ ?_
    · refine State.delWay_canon _ _ _ ?_
      exact h0
    · exact h0
  · exact h0

theorem State.learnTwin_canon (s : State) (e : FwdEnt) (m : Learn) (h0 : State.Canon (s)) :
    State.Canon (State.learnTwin s e m) := by
  unfold State.learnTwin
  refine Canon.ite ?_ ?_
  · refine State.ctrlBytes_canon _ _ _ _ _ ?_
    exact h0
  · exact h0

theorem State.putEntry_canon (s : State) (far : Bool) (i : Nat) (e : FwdEnt) (h0 : State.Canon (s)) :
    State.Canon (State.putEntry s far i e) := by
  unfold State.putEntry
  refine State.setWays_canon _ _ _ ?_
  exact h0

theorem State.learn_canon (s : State) (m : Learn) (h0 : State.Canon (s)) :
    State.Canon (State.learn s m) := by
  unfold State.learn
  extract_lets -merge x0 x1
  have hx0 : State.Canon (x0) := by
    refine State.quarEnd_canon _ _ ?_
    exact h0
  split
  · split
    · have g2 := Canon.of_snd (by assumption) (by
        refine State.insert_canon _ _ ?_
        exact hx0
        )
      refine State.learnTwin_canon _ _ _ ?_
      refine State.bump_canon _ _ _ _ ?_
      exact g2
    · have g3 := Canon.of_snd (by assumption) (by
        refine State.insert_canon _ _ ?_
        exact hx0
        )
      refine State.bump_canon _ _ _ _ ?_
      exact g3
  · extract_lets -merge x4 x5 x6 x7 x8 x9
    have hx9 : State.Canon (x9) := by
      refine State.learnTwin_canon _ _ _ ?_
      refine State.bump_canon _ _ _ _ ?_
      refine State.putEntry_canon _ _ _ _ ?_
      exact hx0
    refine Canon.ite ?_ ?_
    · refine Canon.ite ?_ ?_
      · exact hx0
      · refine State.bump_canon _ _ _ _ ?_
        exact hx0
    · refine Canon.ite ?_ ?_
      · refine State.bump_canon _ _ _ _ ?_
        exact hx0
      · refine Canon.ite ?_ ?_
        · refine State.putEntry_canon _ _ _ _ ?_
          exact hx0
        · clear_value x5
          split
          · refine State.bump_canon _ _ _ _ ?_
            refine State.putEntry_canon _ _ _ _ ?_
            exact hx0
          · refine Canon.ite ?_ ?_
            · refine State.bump_canon _ _ _ _ ?_
              exact hx0
            · refine Canon.ite ?_ ?_
              · refine State.event_canon _ _ _ _ ?_
                refine State.bump_canon _ _ _ _ ?_
                exact hx9
              · exact hx9

theorem State.homeTurn_canon (s : State) (n : Nat) (host : Bool) (h0 : State.Canon (s)) :
    State.Canon (State.homeTurn s n host).2 := by
  unfold State.homeTurn
  extract_lets -merge x0
  split
  · refine Canon.pair ?_
    exact h0
  · refine Canon.pair ?_
    refine State.learn_canon _ _ ?_
    refine State.granted_canon _ _ _ ?_
    refine Canon.mk_iff.mpr ?_
    refine State.Canon.od ?_
    exact h0

theorem State.hostTurns_canon (n f : Nat) (s : State) (h0 : State.Canon s) : State.Canon (State.hostTurns n f s) := by
  induction f generalizing s with
  | zero => exact h0
  | succ f ih =>
    unfold State.hostTurns
    have h := State.homeTurn_canon s n true h0
    split <;> rename_i e <;> rw [e] at h
    · exact ih _ h
    · exact h

theorem State.hostTurn_canon (s : State) (form : Nat) (key : Nat) (h0 : State.Canon (s)) :
    State.Canon (State.hostTurn s form key) := by
  unfold State.hostTurn
  extract_lets -merge x0
  refine State.granted_canon _ _ _ ?_
  refine State.hostTurns_canon _ _ _ ?_
  exact h0

theorem State.sendLearn_canon (s : State) (n : Nat) (m : Learn) (h0 : State.Canon (s)) :
    State.Canon (State.sendLearn s n m) := by
  unfold State.sendLearn
  extract_lets -merge x0
  refine Canon.ite ?_ ?_
  · refine State.bump_canon _ _ _ _ ?_
    exact h0
  · refine Canon.mk_iff.mpr ?_
    refine State.Canon.od ?_
    exact h0

theorem State.probe_canon (s : State) (p : Pkt) (f : KeyF) (n : Nat) (h0 : State.Canon (s)) :
    State.Canon (State.probe s p f n) := by
  unfold State.probe
  extract_lets -merge x0
  split
  · exact h0
  · extract_lets -merge x1
    split
    · refine State.sendLearn_canon _ _ _ ?_
      exact h0
    · extract_lets -merge x2 x3 x4
      have hx4 : State.Canon (x4) := by
        refine Canon.ite ?_ ?_
        · refine State.setHit_canon _ _ _ ?_
          exact h0
        · exact h0
      refine Canon.ite ?_ ?_
      · refine State.sendLearn_canon _ _ _ ?_
        exact hx4
      · exact hx4

theorem State.recomputeFar_canon (s : State) (h0 : State.Canon (s)) :
    State.Canon (State.recomputeFar s) := by
  unfold State.recomputeFar
  extract_lets -merge x0
  refine Canon.foldl ?_ ?_
  · intro _ _ g1
    refine State.markFar_canon _ _ _ ?_
    exact g1
  · refine Canon.mk_iff.mpr ?_
    refine State.Canon.od ?_
    exact h0

theorem State.ringHop_canon (s : State) (n : Nat) (h0 : State.Canon (s)) :
    State.Canon (State.ringHop s n) := by
  unfold State.ringHop
  extract_lets -merge x0
  split
  · exact h0
  · refine State.sendLearn_canon _ _ _ ?_
    refine Canon.mk_iff.mpr ?_
    refine State.Canon.od ?_
    exact h0

end Sys2Proof.Machine
end

