-- ==== Sys2Proof/Laws/CanonPipeOps.lean ====
section
/-! SUPPORT. The definitions of PipeOps keep the object store canonical. -/

namespace Sys2Proof.Machine

theorem State.updPipe_canon (s : State) (n : Nat) (f : Pipeline → Pipeline) (h0 : State.Canon (s)) :
    State.Canon (State.updPipe s n f) := by
  unfold State.updPipe
  refine Canon.mk_iff.mpr ?_
  refine State.Canon.od ?_
  exact h0

theorem State.inflight_canon (s : State) (h0 : State.Canon (s)) :
    State.Canon (State.inflight s) := by
  unfold State.inflight
  extract_lets -merge x0 x1
  refine State.put_canon _ _ _ _ _ ?_
  exact h0

theorem State.noteCommit_canon (s : State) (index : Nat) (r : Nat) (h0 : State.Canon (s)) :
    State.Canon (State.noteCommit s index r) := by
  unfold State.noteCommit
  extract_lets -merge x0
  refine Canon.mk_iff.mpr ?_
  refine State.Canon.od ?_
  exact h0

theorem State.beat5Now_canon (s : State) (bank : Nat) (r : Nat) (w : Nat) (h0 : State.Canon (s)) :
    State.Canon (State.beat5Now s bank r w).2 := by
  unfold State.beat5Now
  extract_lets -merge x0 x1
  have hx1 : State.Canon (x1) := by
    refine State.rput_canon _ _ _ _ _ ?_
    refine State.rput_canon _ _ _ _ _ ?_
    refine State.rput_canon _ _ _ _ _ ?_
    exact h0
  refine Canon.ite2 ?_ ?_
  · refine Canon.pair ?_
    refine State.bump_canon _ _ _ _ ?_
    exact h0
  · refine Canon.ite2 ?_ ?_
    · refine Canon.ite2 ?_ ?_
      · refine Canon.pair ?_
        exact h0
      · refine Canon.pair ?_
        refine State.noteCommit_canon _ _ _ ?_
        exact hx1
    · refine Canon.pair ?_
      refine State.rput_canon _ _ _ _ _ ?_
      exact h0

theorem State.beat5_canon (s : State) (bank : Nat) (r : Nat) (w : Nat) (h0 : State.Canon (s)) :
    State.Canon (State.beat5 s bank r w).2 := by
  unfold State.beat5
  extract_lets -merge x0
  refine Canon.ite2 ?_ ?_
  · refine Canon.pair ?_
    refine Canon.mk_iff.mpr ?_
    refine State.Canon.od ?_
    exact h0
  · refine State.beat5Now_canon _ _ _ _ ?_
    exact h0

theorem State.arrive_canon (s : State) (n : Nat) (p : Pkt) (h0 : State.Canon (s)) :
    State.Canon (State.arrive s n p) := by
  unfold State.arrive
  refine State.updPipe_canon _ _ _ ?_
  exact h0

theorem State.decide'_canon (s : State) (q : Pass) (a : Act) (d : Dest) (flood : Option Nat) (queue : Nat) (h0 : State.Canon (s)) :
    State.Canon (State.decide' s q a d flood queue) := by
  unfold State.decide'
  extract_lets -merge x0 x1 x2
  have hx0 : State.Canon (x0) := by
    refine State.bufTo_canon _ _ _ _ ?_
    exact h0
  have hx1 : State.Canon (x1).2 := by
    refine State.draw_canon _ ?_
    exact hx0
  split
  · have g3 := Canon.of_snd (by assumption) (by
      refine Canon.ite2 ?_ ?_
      · refine Canon.pair ?_
        exact hx1
      · refine Canon.pair ?_
        exact hx0
      )
    extract_lets -merge x4 x5 x6
    refine Canon.mk_iff.mpr ?_
    refine State.Canon.od ?_
    exact g3

theorem State.pipeDrop_canon (s : State) (q : Pass) (h0 : State.Canon (s)) :
    State.Canon (State.pipeDrop s q) := by
  unfold State.pipeDrop
  refine State.bufDrop_canon _ _ _ _ ?_
  exact h0

theorem State.trap_canon (s : State) (q : Pass) (reason : Nat) (rule : Bool) (h0 : State.Canon (s)) :
    State.Canon (State.trap s q reason rule) := by
  unfold State.trap
  extract_lets -merge x0 x1 x2
  have hx1 : State.Canon (x1) := by
    refine State.bufTo_canon _ _ _ _ ?_
    exact h0
  refine Canon.mk_iff.mpr ?_
  refine State.Canon.od ?_
  exact hx1

theorem State.trapCopy_canon (s : State) (q : Pass) (reason : Nat) (h0 : State.Canon (s)) :
    State.Canon (State.trapCopy s q reason) := by
  unfold State.trapCopy
  extract_lets -merge x0 x1 x2
  refine Canon.mk_iff.mpr ?_
  refine State.Canon.od ?_
  exact h0

theorem State.emitAct_canon (s : State) (q : Pass) (a : Act) (v : Nat) (look : Answer) (h0 : State.Canon (s)) :
    State.Canon (State.emitAct s q a v look) := by
  unfold State.emitAct
  extract_lets -merge x0 x1 x2 x3 x4
  have hx2 : State.Canon (x2) := by
    refine Canon.ite ?_ ?_
    · refine State.trapCopy_canon _ _ _ ?_
      exact h0
    · exact h0
  split
  · refine State.pipeDrop_canon _ _ ?_
    exact h0
  · refine State.trap_canon _ _ _ _ ?_
    exact h0
  · refine State.decide'_canon _ _ _ _ _ _ ?_
    exact h0
  · refine State.decide'_canon _ _ _ _ _ _ ?_
    exact h0
  · split
    · refine State.decide'_canon _ _ _ _ _ _ ?_
      exact hx2
    · split
      · refine State.pipeDrop_canon _ _ ?_
        exact hx2
      · refine State.decide'_canon _ _ _ _ _ _ ?_
        exact hx2
      · refine State.decide'_canon _ _ _ _ _ _ ?_
        exact hx2
      · refine State.trap_canon _ _ _ _ ?_
        exact hx2

theorem State.useDefault_canon (s : State) (q : Pass) (h0 : State.Canon (s)) :
    State.Canon (State.useDefault s q) := by
  unfold State.useDefault
  extract_lets -merge x0 x1
  have hx1 : State.Canon (x1) := by
    refine State.bump_canon _ _ _ _ ?_
    exact h0
  refine Canon.ite ?_ ?_
  · split
    · have g2 := Canon.of_snd (by assumption) (by
        refine State.lookup_canon _ _ _ ?_
        exact hx1
        )
      refine State.emitAct_canon _ _ _ _ _ ?_
      exact g2
  · refine State.emitAct_canon _ _ _ _ _ ?_
    exact hx1

theorem State.exception_canon (s : State) (q : Pass) (code : Nat) (subtype : Nat) (count : Bool) (h0 : State.Canon (s)) :
    State.Canon (State.exception s q code subtype count) := by
  unfold State.exception
  extract_lets -merge x0
  have hx0 : State.Canon (x0) := by
    refine Canon.ite ?_ ?_
    · refine State.bump_canon _ _ _ _ ?_
      exact h0
    · exact h0
  split
  · refine State.useDefault_canon _ _ ?_
    exact hx0
  · refine State.pipeDrop_canon _ _ ?_
    exact hx0
  · refine State.trap_canon _ _ _ _ ?_
    exact hx0

theorem State.wakePipe_canon (s : State) (n : Nat) (h0 : State.Canon (s)) :
    State.Canon (State.wakePipe s n) := by
  unfold State.wakePipe
  extract_lets -merge x0 x1 x2
  have hx2 : State.Canon (x2) := by
    refine Canon.ite ?_ ?_
    · refine State.bump_canon _ _ _ _ ?_
      exact h0
    · exact h0
  refine State.updPipe_canon _ _ _ ?_
  exact hx2

theorem State.ingress_canon (s : State) (n : Nat) (h0 : State.Canon (s)) :
    State.Canon (State.ingress s n) := by
  unfold State.ingress
  extract_lets -merge x0 x1 x2 x3
  clear_value x2
  split
  · exact h0
  · extract_lets -merge x4 x5
    have hx4 : State.Canon (x4) := by
      refine State.grantedAt_canon _ _ _ _ ?_
      refine State.updPipe_canon _ _ _ ?_
      exact h0
    have hx5 : ∀ y0 y1, State.Canon (y0) → State.Canon (x5 y0 y1) := by
      intro _ _ g6
      unfold x5
      extract_lets -merge x7
      split
      · refine Canon.mk_iff.mpr ?_
        refine State.Canon.od ?_
        exact g6
      · exact g6
    refine Canon.ite ?_ ?_
    · refine hx5 _ _ ?_
      refine State.bump_canon _ _ _ _ ?_
      exact hx4
    · refine Canon.ite ?_ ?_
      · refine State.bump_canon _ _ _ _ ?_
        exact hx4
      · split
        · have g8 := Canon.of_snd (by assumption) (by
            refine State.allocBytes_canon _ _ _ _ ?_
            exact hx4
            )
          refine Canon.ite ?_ ?_
          · refine hx5 _ _ ?_
            exact g8
          · refine State.bump_canon _ _ _ _ ?_
            exact g8
        · have g9 := Canon.of_snd (by assumption) (by
            refine State.allocBytes_canon _ _ _ _ ?_
            exact hx4
            )
          extract_lets -merge x10 x11
          have hx10 : State.Canon (x10) := by
            refine State.wakePipe_canon _ _ ?_
            exact g9
          have hx11 : State.Canon (x11) := by
            refine State.updPipe_canon _ _ _ ?_
            exact hx10
          refine hx5 _ _ ?_
          exact hx11

theorem State.recirculate_canon (s : State) (q : Pass) (a : Act) (h0 : State.Canon (s)) :
    State.Canon (State.recirculate s q a) := by
  unfold State.recirculate
  extract_lets -merge x0 x1
  refine State.updPipe_canon _ _ _ ?_
  exact h0

theorem State.resolve_canon (s : State) (q : Pass) (win : Option Nat) (look : Answer) (h0 : State.Canon (s)) :
    State.Canon (State.resolve s q win look) := by
  unfold State.resolve
  extract_lets -merge x0 x1 x2
  have hx1 : State.Canon (x1) := by
    refine Canon.ite ?_ ?_
    · exact h0
    · refine State.bump_canon _ _ _ _ ?_
      exact h0
  refine Canon.ite ?_ ?_
  · refine State.exception_canon _ _ _ _ _ ?_
    exact hx1
  · split
    · refine State.useDefault_canon _ _ ?_
      exact hx1
    · extract_lets -merge x3 x4 x5
      refine Canon.ite ?_ ?_
      · refine Canon.ite ?_ ?_
        · refine State.exception_canon _ _ _ _ _ ?_
          exact hx1
        · refine Canon.ite ?_ ?_
          · refine State.exception_canon _ _ _ _ _ ?_
            exact hx1
          · refine State.recirculate_canon _ _ _ ?_
            exact hx1
      · refine Canon.ite ?_ ?_
        · refine Canon.ite ?_ ?_
          · refine State.exception_canon _ _ _ _ _ ?_
            exact hx1
          · refine State.emitAct_canon _ _ _ _ _ ?_
            exact hx1
        · refine State.emitAct_canon _ _ _ _ _ ?_
          exact hx1

theorem State.pass_canon (s : State) (n : Nat) (pkt : Pkt) (bank : Nat) (second : Option Recirc) (h0 : State.Canon (s)) :
    State.Canon (State.pass s n pkt bank second) := by
  unfold State.pass
  extract_lets -merge x0 x1 x2 x3 x4 x5 x6 x7 x8
  have hx5 : State.Canon (x5) := by
    refine State.put_canon _ _ _ _ _ ?_
    exact h0
  have hx7 : State.Canon (x7) := by
    unfold x7
    clear_value x6
    split
    · refine State.rbumpBy_canon _ _ _ _ _ ?_
      refine State.rbump_canon _ _ _ _ ?_
      exact hx5
    · exact hx5
  split
  · have g9 := Canon.of_snd (by assumption) (by
      refine Canon.ite2 ?_ ?_
      · refine State.lookup_canon _ _ _ ?_
        exact hx7
      · refine Canon.pair ?_
        exact hx7
      )
    extract_lets -merge x10
    have hx10 : State.Canon (x10) := by
      refine Canon.ite ?_ ?_
      · refine State.probe_canon _ _ _ _ ?_
        exact g9
      · exact g9
    refine State.inflight_canon _ ?_
    refine State.resolve_canon _ _ _ _ ?_
    exact hx10

theorem State.ruleBeat_canon (s : State) (bank : Nat) (r : Nat) (beat : Nat) (w : Nat) (h0 : State.Canon (s)) :
    State.Canon (State.ruleBeat s bank r beat w).2 := by
  unfold State.ruleBeat
  extract_lets -merge x0 x1
  refine Canon.ite2 ?_ ?_
  · refine Canon.pair ?_
    refine State.bump_canon _ _ _ _ ?_
    exact h0
  · refine Canon.ite2 ?_ ?_
    · refine Canon.pair ?_
      refine State.bump_canon _ _ _ _ ?_
      exact h0
    · refine Canon.pair ?_
      refine State.rput_canon _ _ _ _ _ ?_
      refine State.rput_canon _ _ _ _ _ ?_
      exact h0

theorem State.twinData_canon (s : State) (n : Nat) (link : Option (List Nat)) (h0 : State.Canon (s)) :
    State.Canon (State.twinData s n link) := by
  unfold State.twinData
  split
  · refine Canon.ite ?_ ?_
    · refine State.arrive_canon _ _ _ ?_
      exact h0
    · exact h0
  · exact h0

end Sys2Proof.Machine
end

