-- ==== Sys2Proof/Laws/CanonHostOps.lean ====
section
/-! SUPPORT. The definitions of HostOps keep the object store canonical. -/

namespace Sys2Proof.Machine

theorem State.setHost_canon (s : State) (f : HostIf → HostIf) (h0 : State.Canon (s)) :
    State.Canon (State.setHost s f) := by
  unfold State.setHost
  refine Canon.mk_iff.mpr ?_
  refine State.Canon.od ?_
  exact h0

theorem State.sendMsix_canon (s : State) (src : Nat) (h0 : State.Canon (s)) :
    State.Canon (State.sendMsix s src) := by
  unfold State.sendMsix
  extract_lets -merge x0 x1 x2
  refine Canon.ite ?_ ?_
  · refine Canon.ite ?_ ?_
    · refine State.setHost_canon _ _ ?_
      exact h0
    · refine State.emit_canon _ _ ?_
      exact h0
  · exact h0

theorem State.irqStep_canon (s : State) (src : Nat) (f : State → State) (h0 : State.Canon (s)) (h2 : ∀ y0, State.Canon (y0) → State.Canon (f y0)) :
    State.Canon (State.irqStep s src f) := by
  unfold State.irqStep
  refine Canon.ite ?_ ?_
  · refine State.sendMsix_canon _ _ ?_
    refine h2 _ ?_
    exact h0
  · refine h2 _ ?_
    exact h0

theorem State.updMbx_canon (s : State) (m : Nat) (f : MbxCh → MbxCh) (h0 : State.Canon (s)) :
    State.Canon (State.updMbx s m f) := by
  unfold State.updMbx
  refine State.setHost_canon _ _ ?_
  exact h0

theorem State.setSlot_canon (s : State) (m : Nat) (k : Nat) (a3 : Slot) (h0 : State.Canon (s)) :
    State.Canon (State.setSlot s m k a3) := by
  unfold State.setSlot
  refine State.updMbx_canon _ _ _ ?_
  exact h0

theorem State.updView_canon (s : State) (m : Nat) (who : Nat) (f : View → View) (h0 : State.Canon (s)) :
    State.Canon (State.updView s m who f) := by
  unfold State.updView
  refine State.updMbx_canon _ _ _ ?_
  exact h0

theorem State.coreIrq_canon (s : State) (k : Nat) (src : Nat) (h0 : State.Canon (s)) :
    State.Canon (State.coreIrq s k src) := by
  unfold State.coreIrq
  refine State.emit_canon _ _ ?_
  refine State.setHost_canon _ _ ?_
  exact h0

theorem State.mbxCause_canon (s : State) (m : Nat) (who : Nat) (b : Nat) (h0 : State.Canon (s)) :
    State.Canon (State.mbxCause s m who b) := by
  unfold State.mbxCause
  extract_lets -merge x0 x1
  have hx0 : ∀ y0, State.Canon (y0) → State.Canon (x0 y0) := by
    intro _ g2
    unfold x0
    refine State.updView_canon _ _ _ _ ?_
    exact g2
  refine Canon.ite ?_ ?_
  · refine State.irqStep_canon _ _ _ ?_ ?_
    · exact h0
    · exact hx0
  · split
    · refine Canon.ite ?_ ?_
      · refine State.coreIrq_canon _ _ _ ?_
        refine hx0 _ ?_
        exact h0
      · refine hx0 _ ?_
        exact h0
    · refine hx0 _ ?_
      exact h0

theorem State.freeSlot_canon (s : State) (m : Nat) (k : Nat) (h0 : State.Canon (s)) :
    State.Canon (State.freeSlot s m k) := by
  unfold State.freeSlot
  extract_lets -merge x0
  have hx0 : State.Canon (x0) := by
    refine State.setSlot_canon _ _ _ _ ?_
    exact h0
  refine Canon.ite ?_ ?_
  · refine Canon.foldl ?_ ?_
    · intro _ _ g1
      refine State.mbxCause_canon _ _ _ _ ?_
      exact g1
    · exact hx0
  · exact hx0

theorem State.hostCause_canon (s : State) (b : Nat) (h0 : State.Canon (s)) :
    State.Canon (State.hostCause s b) := by
  unfold State.hostCause
  refine State.irqStep_canon _ _ _ ?_ ?_
  · exact h0
  · intro _ g0
    refine State.setHost_canon _ _ ?_
    exact g0

theorem State.sessionEnd_canon (s : State) (h0 : State.Canon (s)) :
    State.Canon (State.sessionEnd s) := by
  unfold State.sessionEnd
  extract_lets -merge x0 x1 x2 x3
  have hx0 : State.Canon (x0) := by
    refine State.setHost_canon _ _ ?_
    refine State.put_canon _ _ _ _ _ ?_
    exact h0
  have hx1 : State.Canon (x1) := by
    refine Canon.foldl ?_ ?_
    · intro _ _ g4
      refine Canon.foldl ?_ ?_
      · intro _ _ g5
        refine Canon.ite ?_ ?_
        · refine State.freeSlot_canon _ _ _ ?_
          refine State.bump_canon _ _ _ _ ?_
          exact g5
        · exact g5
      · exact g4
    · exact hx0
  have hx3 : State.Canon (x3) := by
    refine Canon.mk_iff.mpr ?_
    refine State.Canon.od ?_
    exact hx1
  refine Canon.ite ?_ ?_
  · refine State.hostCause_canon _ _ ?_
    refine State.event_canon _ _ _ _ ?_
    exact hx3
  · exact h0

theorem State.badAccess_canon (s : State) (h0 : State.Canon (s)) :
    State.Canon (State.badAccess s) := by
  unfold State.badAccess
  refine State.hostCause_canon _ _ ?_
  refine State.bump_canon _ _ _ _ ?_
  exact h0

theorem State.updDma_canon (s : State) (c : Nat) (f : DmaCh → DmaCh) (h0 : State.Canon (s)) :
    State.Canon (State.updDma s c f) := by
  unfold State.updDma
  refine State.setHost_canon _ _ ?_
  exact h0

theorem State.dmaHalt_canon (s : State) (c : Nat) (cause : Nat) (h0 : State.Canon (s)) :
    State.Canon (State.dmaHalt s c cause) := by
  unfold State.dmaHalt
  extract_lets -merge x0
  have hx0 : State.Canon (x0) := by
    refine State.irqStep_canon _ _ _ ?_ ?_
    · exact h0
    · intro _ g1
      refine State.updDma_canon _ _ _ ?_
      exact g1
  refine State.bump_canon _ _ _ _ ?_
  exact hx0

theorem State.dmaPost_canon (s : State) (c : Nat) (k : Nat) (st : Nat) (res : Nat) (h0 : State.Canon (s)) :
    State.Canon (State.dmaPost s c k st res) := by
  unfold State.dmaPost
  extract_lets -merge x0
  refine Canon.mk_iff.mpr ?_
  refine State.Canon.od ?_
  exact h0

theorem State.dmaKick_canon (s : State) (c : Nat) (h0 : State.Canon (s)) :
    State.Canon (State.dmaKick s c) := by
  unfold State.dmaKick
  extract_lets -merge x0 x1 x2 x3
  have hx2 : State.Canon (x2) := by
    refine State.updDma_canon _ _ _ ?_
    exact h0
  refine Canon.ite ?_ ?_
  · exact h0
  · refine Canon.ite ?_ ?_
    · refine State.dmaHalt_canon _ _ _ ?_
      exact h0
    · refine Canon.ite ?_ ?_
      · refine State.dmaPost_canon _ _ _ _ _ ?_
        exact hx2
      · refine Canon.ite ?_ ?_
        · exact hx2
        · refine State.arrive_canon _ _ _ ?_
          exact hx2

theorem State.mbxExpire_canon (s : State) (m : Nat) (k : Nat) (h0 : State.Canon (s)) :
    State.Canon (State.mbxExpire s m k) := by
  unfold State.mbxExpire
  extract_lets -merge x0 x1 x2 x3
  have hx1 : State.Canon (x1) := by
    refine State.updMbx_canon _ _ _ ?_
    refine State.bump_canon _ _ _ _ ?_
    exact h0
  have hx3 : State.Canon (x3) := by
    refine State.setSlot_canon _ _ _ _ ?_
    exact hx1
  refine Canon.ite ?_ ?_
  · refine Canon.ite ?_ ?_
    · refine State.freeSlot_canon _ _ _ ?_
      refine State.bump_canon _ _ _ _ ?_
      exact hx1
    · refine State.mbxCause_canon _ _ _ _ ?_
      refine State.updMbx_canon _ _ _ ?_
      exact hx3
  · exact h0

theorem State.mbxSweep_canon (s : State) (m : Nat) (h0 : State.Canon (s)) :
    State.Canon (State.mbxSweep s m) := by
  unfold State.mbxSweep
  refine Canon.foldl ?_ ?_
  · intro _ _ g0
    refine State.mbxExpire_canon _ _ _ ?_
    exact g0
  · exact h0

theorem State.mbxBadDone_canon (s : State) (m : Nat) (k : Nat) (who : Nat) (h0 : State.Canon (s)) :
    State.Canon (State.mbxBadDone s m k who) := by
  unfold State.mbxBadDone
  refine Canon.ite ?_ ?_
  · refine State.bump_canon _ _ _ _ ?_
    exact h0
  · refine State.bump_canon _ _ _ _ ?_
    exact h0

theorem State.setLock_canon (s : State) (n : Nat) (o : Nat × Nat) (h0 : State.Canon (s)) :
    State.Canon (State.setLock s n o) := by
  unfold State.setLock
  refine State.setHost_canon _ _ ?_
  exact h0

theorem State.msixUnmask_canon (s : State) (v : Nat) (h0 : State.Canon (s)) :
    State.Canon (State.msixUnmask s v) := by
  unfold State.msixUnmask
  extract_lets -merge x0
  refine Canon.ite ?_ ?_
  · refine State.emit_canon _ _ ?_
    refine State.setHost_canon _ _ ?_
    exact h0
  · exact h0

theorem State.dblReset_canon (s : State) (id : Nat) (h0 : State.Canon (s)) :
    State.Canon (State.dblReset s id) := by
  unfold State.dblReset
  refine State.setHost_canon _ _ ?_
  exact h0

theorem State.dmaComplete_canon (s : State) (c : Nat) (st : Nat) (len : Nat) (aux : Nat) (res : Nat) (time : Nat) (data : List Nat) (h0 : State.Canon (s)) :
    State.Canon (State.dmaComplete s c st len aux res time data) := by
  unfold State.dmaComplete
  extract_lets -merge x0 x1 x2 x3 x4 x5
  have hx1 : State.Canon (x1) := by
    refine State.emit_canon _ _ ?_
    exact h0
  have hx2 : State.Canon (x2) := by
    refine State.updDma_canon _ _ _ ?_
    exact hx1
  have hx3 : State.Canon (x3) := by
    refine State.bump_canon _ _ _ _ ?_
    exact hx2
  have hx5 : State.Canon (x5) := by
    refine Canon.mk_iff.mpr ?_
    refine State.Canon.od ?_
    exact hx3
  refine Canon.ite ?_ ?_
  · refine State.irqStep_canon _ _ _ ?_ ?_
    · exact hx5
    · intro _ g6
      refine State.updDma_canon _ _ _ ?_
      exact g6
  · exact hx5

theorem State.dmaDiscard_canon (s : State) (c : Nat) (k : Nat) (h0 : State.Canon (s)) :
    State.Canon (State.dmaDiscard s c k) := by
  unfold State.dmaDiscard
  refine Canon.mk_iff.mpr ?_
  refine State.Canon.od ?_
  exact h0

theorem State.dmaAbandon_canon (s : State) (c : Nat) (h0 : State.Canon (s)) :
    State.Canon (State.dmaAbandon s c) := by
  unfold State.dmaAbandon
  extract_lets -merge x0 x1
  have hx1 : State.Canon (x1) := by
    refine Canon.ite ?_ ?_
    · refine State.dmaComplete_canon _ _ _ _ _ _ _ _ ?_
      refine State.dmaDiscard_canon _ _ _ ?_
      exact h0
    · exact h0
  refine State.updDma_canon _ _ _ ?_
  exact hx1

theorem State.dmaFreed_canon (s : State) (a1 : Option Pkt) (h0 : State.Canon (s)) :
    State.Canon (State.dmaFreed s a1) := by
  unfold State.dmaFreed
  split
  · refine State.bufDrop_canon _ _ _ _ ?_
    exact h0
  · exact h0

theorem State.dmaItem_canon (s : State) (c : Nat) (h0 : State.Canon (s)) :
    ∀ y, (State.dmaItem s c) = some y → State.Canon y.2 := by
  unfold State.dmaItem
  extract_lets -merge x0
  refine Canon.iteOP ?_ ?_
  · split
    · refine Canon.someP ?_
      refine Canon.pair ?_
      refine Canon.mk_iff.mpr ?_
      refine State.Canon.od ?_
      exact h0
    · intro _ hn; cases hn
  · refine Canon.iteOP ?_ ?_
    · split
      · intro _ hn; cases hn
      · split
        · refine Canon.someP ?_
          refine Canon.pair ?_
          refine Canon.mk_iff.mpr ?_
          refine State.Canon.od ?_
          exact h0
        · intro _ hn; cases hn
    · refine Canon.iteOP ?_ ?_
      · split
        · extract_lets -merge x1
          have hx1 : State.Canon (x1) := by
            refine State.setHost_canon _ _ ?_
            exact h0
          split
          · refine Canon.someP ?_
            refine Canon.pair ?_
            exact hx1
          · intro _ hn; cases hn
        · intro _ hn; cases hn
      · intro _ hn; cases hn

theorem State.lockReset_canon (s : State) (ids : List Nat) (h0 : State.Canon (s)) :
    State.Canon (State.lockReset s ids) := by
  unfold State.lockReset
  refine Canon.foldl ?_ ?_
  · intro _ _ g0
    extract_lets -merge x1
    have hx1 : State.Canon (x1) := by
      refine State.bump_canon _ _ _ _ ?_
      refine State.setLock_canon _ _ _ ?_
      exact g0
    refine Canon.ite ?_ ?_
    · refine State.hostCause_canon _ _ ?_
      refine State.event_canon _ _ _ _ ?_
      exact hx1
    · exact g0
  · exact h0

theorem State.mbxLoseReceiver_canon (s : State) (m : Nat) (h0 : State.Canon (s)) :
    State.Canon (State.mbxLoseReceiver s m) := by
  unfold State.mbxLoseReceiver
  extract_lets -merge x0
  have hx0 : State.Canon (x0) := by
    refine State.updMbx_canon _ _ _ ?_
    exact h0
  refine Canon.foldl ?_ ?_
  · intro _ _ g1
    extract_lets -merge x2 x3
    have hx3 : State.Canon (x3) := by
      refine State.updView_canon _ _ _ _ ?_
      exact g1
    refine Canon.ite ?_ ?_
    · refine State.freeSlot_canon _ _ _ ?_
      refine State.mbxCause_canon _ _ _ _ ?_
      refine State.bump_canon _ _ _ _ ?_
      exact hx3
    · exact g1
  · exact hx0

theorem State.mbxLoseSender_canon (s : State) (m : Nat) (who : Nat) (h0 : State.Canon (s)) :
    State.Canon (State.mbxLoseSender s m who) := by
  unfold State.mbxLoseSender
  refine Canon.foldl ?_ ?_
  · intro _ _ g0
    extract_lets -merge x1
    refine Canon.ite ?_ ?_
    · refine State.freeSlot_canon _ _ _ ?_
      refine State.bump_canon _ _ _ _ ?_
      exact g0
    · exact g0
  · exact h0

theorem State.mbxPost_canon (s : State) (m : Nat) (who : Nat) (h0 : State.Canon (s)) :
    State.Canon (State.mbxPost s m who).2 := by
  unfold State.mbxPost
  extract_lets -merge x0 x1 x2 x3 x4
  refine Canon.ite2 ?_ ?_
  · refine Canon.pair ?_
    refine State.bump_canon _ _ _ _ ?_
    exact h0
  · refine Canon.ite2 ?_ ?_
    · refine Canon.pair ?_
      refine State.bump_canon _ _ _ _ ?_
      exact h0
    · split
      · refine Canon.pair ?_
        refine State.bump_canon _ _ _ _ ?_
        exact h0
      · extract_lets -merge x5
        have hx5 : State.Canon (x5) := by
          refine State.updMbx_canon _ _ _ ?_
          refine State.setSlot_canon _ _ _ _ ?_
          exact h0
        refine Canon.pair ?_
        refine State.mbxCause_canon _ _ _ _ ?_
        refine State.bump_canon _ _ _ _ ?_
        exact hx5

theorem State.mbxReset_canon (s : State) (ids : List Nat) (h0 : State.Canon (s)) :
    State.Canon (State.mbxReset s ids) := by
  unfold State.mbxReset
  refine Canon.foldl ?_ ?_
  · intro _ _ g0
    extract_lets -merge x1
    have hx1 : State.Canon (x1) := by
      refine Canon.ite ?_ ?_
      · refine State.mbxLoseReceiver_canon _ _ ?_
        exact g0
      · exact g0
    refine Canon.foldl ?_ ?_
    · intro _ _ g2
      refine State.mbxLoseSender_canon _ _ _ ?_
      exact g2
    · exact hx1
  · exact h0

end Sys2Proof.Machine
end

