-- ==== Sys2Proof/Laws/CanonObjFind.lean ====
section
/-! SUPPORT. The definitions of ObjFind keep the object store canonical. -/

namespace Sys2Proof.Machine

theorem State.place_canon (s : State) (a : Addr) (v : Int) (h0 : State.Canon (s)) :
    State.Canon (State.place s a v) := by
  unfold State.place
  split
  · refine Canon.mk_iff.mpr ?_
    refine Store.sorted_put _ _ _ _ _ ?_
    refine State.Canon.od ?_
    exact h0
  · refine Canon.mk_iff.mpr ?_
    split
    · refine Store.sorted_del _ ?_
      refine State.Canon.od ?_
      exact h0
    · refine Store.sorted_ins _ _ ?_
      refine State.Canon.od ?_
      exact h0

end Sys2Proof.Machine
end

