-- ==== Sys2Proof/Laws/CanonLeaseOps.lean ====
section
/-! SUPPORT. The definitions of LeaseOps keep the object store canonical. -/

namespace Sys2Proof.Machine

theorem State.setDict_canon (s : State) (f : DictX → DictX) (h0 : State.Canon (s)) :
    State.Canon (State.setDict s f) := by
  unfold State.setDict
  refine Canon.mk_iff.mpr ?_
  refine State.Canon.od ?_
  exact h0

theorem State.updSess_canon (s : State) (k : Nat) (f : DictSess → DictSess) (h0 : State.Canon (s)) :
    State.Canon (State.updSess s k f) := by
  unfold State.updSess
  refine State.setDict_canon _ _ ?_
  exact h0

theorem State.leaseExtend_canon (s : State) (h0 : State.Canon (s)) :
    State.Canon (State.leaseExtend s) := by
  unfold State.leaseExtend
  refine State.put_canon _ _ _ _ _ ?_
  exact h0

theorem State.txnDrop_canon (s : State) (k : Nat) (requested : Bool) (h0 : State.Canon (s)) :
    State.Canon (State.txnDrop s k requested) := by
  unfold State.txnDrop
  extract_lets -merge x0 x1 x2 x3
  have hx1 : State.Canon (x1) := by
    refine State.setDict_canon _ _ ?_
    exact h0
  have hx2 : State.Canon (x2) := by
    refine Canon.foldl ?_ ?_
    · intro _ _ g4
      extract_lets -merge x5
      refine State.sendReply_canon _ _ ?_
      exact g4
    · exact hx1
  have hx3 : State.Canon (x3) := by
    refine Canon.ite ?_ ?_
    · refine State.updSess_canon _ _ _ ?_
      exact hx2
    · exact hx2
  exact hx3

theorem State.leaseFree_canon (s : State) (requested : Bool) (h0 : State.Canon (s)) :
    State.Canon (State.leaseFree s requested) := by
  unfold State.leaseFree
  extract_lets -merge x0
  refine Canon.ite ?_ ?_
  · exact h0
  · refine State.txnDrop_canon _ _ _ ?_
    refine State.put_canon _ _ _ _ _ ?_
    refine State.put_canon _ _ _ _ _ ?_
    exact h0

theorem State.leaseCmd_canon (s : State) (k : Nat) (cmd : Nat) (h0 : State.Canon (s)) :
    State.Canon (State.leaseCmd s k cmd).2 := by
  unfold State.leaseCmd
  extract_lets -merge x0 x1
  have hx1 : State.Canon (x1) := by
    refine State.leaseExtend_canon _ ?_
    refine State.bump_canon _ _ _ _ ?_
    refine State.put_canon _ _ _ _ _ ?_
    exact h0
  refine Canon.ite2 ?_ ?_
  · refine Canon.ite2 ?_ ?_
    · refine Canon.pair ?_
      refine State.leaseExtend_canon _ ?_
      exact h0
    · refine Canon.ite2 ?_ ?_
      · refine Canon.pair ?_
        refine State.event_canon _ _ _ _ ?_
        exact hx1
      · refine Canon.pair ?_
        exact h0
  · refine Canon.ite2 ?_ ?_
    · refine Canon.pair ?_
      exact h0
    · refine Canon.ite2 ?_ ?_
      · refine Canon.pair ?_
        refine State.leaseExtend_canon _ ?_
        exact h0
      · refine Canon.pair ?_
        refine State.leaseFree_canon _ _ ?_
        exact h0

theorem State.sessClear_canon (s : State) (k : Nat) (h0 : State.Canon (s)) :
    State.Canon (State.sessClear s k) := by
  unfold State.sessClear
  refine Canon.foldl ?_ ?_
  · intro _ _ g0
    refine State.put_canon _ _ _ _ _ ?_
    exact g0
  · exact h0

theorem State.sessClose_canon (s : State) (k : Nat) (h0 : State.Canon (s)) :
    State.Canon (State.sessClose s k) := by
  unfold State.sessClose
  extract_lets -merge x0 x1 x2 x3
  have hx0 : State.Canon (x0) := by
    refine Canon.ite ?_ ?_
    · refine State.leaseFree_canon _ _ ?_
      exact h0
    · refine State.txnDrop_canon _ _ _ ?_
      exact h0
  have hx1 : State.Canon (x1) := by
    refine State.sessClear_canon _ _ ?_
    exact hx0
  have hx2 : State.Canon (x2) := by
    refine Canon.mk_iff.mpr ?_
    refine State.Canon.od ?_
    exact hx1
  have hx3 : State.Canon (x3) := by
    refine State.setDict_canon _ _ ?_
    exact hx2
  refine Canon.ite ?_ ?_
  · refine State.put_canon _ _ _ _ _ ?_
    exact hx3
  · exact h0

theorem State.sessCloseAll_canon (s : State) (h0 : State.Canon (s)) :
    State.Canon (State.sessCloseAll s) := by
  unfold State.sessCloseAll
  refine Canon.foldl ?_ ?_
  · intro _ _ g0
    refine State.sessClose_canon _ _ ?_
    exact g0
  · exact h0

theorem State.leaseSweep_canon (s : State) (h0 : State.Canon (s)) :
    State.Canon (State.leaseSweep s) := by
  unfold State.leaseSweep
  extract_lets -merge x0
  refine Canon.ite ?_ ?_
  · refine State.event_canon _ _ _ _ ?_
    refine State.bump_canon _ _ _ _ ?_
    refine State.leaseFree_canon _ _ ?_
    exact h0
  · exact h0

theorem State.leaseHostReset_canon (s : State) (h0 : State.Canon (s)) :
    State.Canon (State.leaseHostReset s) := by
  unfold State.leaseHostReset
  extract_lets -merge x0
  have hx0 : State.Canon (x0) := by
    refine State.leaseSweep_canon _ ?_
    exact h0
  refine Canon.ite ?_ ?_
  · refine State.leaseFree_canon _ _ ?_
    exact hx0
  · refine State.txnDrop_canon _ _ _ ?_
    exact hx0

end Sys2Proof.Machine
end

