-- ==== Sys2Proof/Laws/CanonMemOps.lean ====
section
/-! SUPPORT. The definitions of MemOps keep the object store canonical. -/

namespace Sys2Proof.Machine

theorem State.setMem_canon (s : State) (f : MemX → MemX) (h0 : State.Canon (s)) :
    State.Canon (State.setMem s f) := by
  unfold State.setMem
  refine Canon.mk_iff.mpr ?_
  refine State.Canon.od ?_
  exact h0

theorem State.memRepeat_canon (s : State) (a : Nat) (addr : Nat) (lane : Nat) (h0 : State.Canon (s)) :
    State.Canon (State.memRepeat s a addr lane) := by
  unfold State.memRepeat
  extract_lets -merge x0 x1 x2 x3 x4 x5
  have hx5 : State.Canon (x5) := by
    refine State.setMem_canon _ _ ?_
    exact h0
  refine Canon.ite ?_ ?_
  · refine State.event_canon _ _ _ _ ?_
    exact hx5
  · exact hx5

theorem State.memCe_canon (s : State) (a : Nat) (n : Nat) (h0 : State.Canon (s)) :
    State.Canon (State.memCe s a n) := by
  unfold State.memCe
  refine State.bumpBy_canon _ _ _ _ _ ?_
  refine State.bumpBy_canon _ _ _ _ _ ?_
  exact h0

theorem State.memUe_canon (s : State) (a : Nat) (addr : Nat) (code : Nat) (who : Nat) (h0 : State.Canon (s)) :
    State.Canon (State.memUe s a addr code who) := by
  unfold State.memUe
  extract_lets -merge x0 x1 x2 x3 x4
  have hx0 : State.Canon (x0) := by
    refine State.bump_canon _ _ _ _ ?_
    refine State.bump_canon _ _ _ _ ?_
    exact h0
  have hx1 : State.Canon (x1) := by
    refine State.put_canon _ _ _ _ _ ?_
    refine State.put_canon _ _ _ _ _ ?_
    exact hx0
  have hx3 : State.Canon (x3) := by
    refine State.setMem_canon _ _ ?_
    exact hx1
  have hx4 : State.Canon (x4) := by
    refine Canon.ite ?_ ?_
    · refine State.event_canon _ _ _ _ ?_
      exact hx3
    · exact hx3
  refine Canon.ite ?_ ?_
  · refine State.refreshFaults_canon _ ?_
    refine Canon.mk_iff.mpr ?_
    refine State.Canon.od ?_
    exact hx4
  · exact hx4

end Sys2Proof.Machine
end

