-- ==== Sys2Proof/Laws/CanonFamHost.lean ====
section
/-! SUPPORT. The definitions of FamHost keep the object store canonical. -/

namespace Sys2Proof.Machine

theorem State.causeW1c_canon (s : State) (src : Nat) (mask : Nat) (h0 : State.Canon (s)) :
    State.Canon (State.causeW1c s src mask) := by
  unfold State.causeW1c
  extract_lets -merge x0
  refine Canon.ite ?_ ?_
  · refine State.updDma_canon _ _ _ ?_
    exact h0
  · refine Canon.ite ?_ ?_
    · refine State.updView_canon _ _ _ _ ?_
      exact h0
    · refine Canon.ite ?_ ?_
      · refine State.setHost_canon _ _ ?_
        exact h0
      · exact h0

theorem State.dmaTail_canon (s : State) (c : Nat) (tail : Nat) (descs : List Desc) (h0 : State.Canon (s)) :
    State.Canon (State.dmaTail s c tail descs) := by
  unfold State.dmaTail
  extract_lets -merge x0 x1 x2
  refine Canon.ite ?_ ?_
  · refine State.badAccess_canon _ ?_
    exact h0
  · refine Canon.ite ?_ ?_
    · refine State.badAccess_canon _ ?_
      exact h0
    · refine State.dmaKick_canon _ _ ?_
      refine State.updDma_canon _ _ _ ?_
      exact h0

theorem State.dmaEnable_canon (s : State) (c : Nat) (on : Bool) (h0 : State.Canon (s)) :
    State.Canon (State.dmaEnable s c on) := by
  unfold State.dmaEnable
  refine Canon.ite ?_ ?_
  · exact h0
  · refine State.dmaKick_canon _ _ ?_
    refine State.updDma_canon _ _ _ ?_
    exact h0

theorem State.dmaRestart_canon (s : State) (c : Nat) (h0 : State.Canon (s)) :
    State.Canon (State.dmaRestart s c) := by
  unfold State.dmaRestart
  refine State.dmaKick_canon _ _ ?_
  refine State.updDma_canon _ _ _ ?_
  exact h0

theorem State.causeClear_canon (s : State) (src : Nat) (mask : Nat) (h0 : State.Canon (s)) :
    State.Canon (State.causeClear s src mask) := by
  unfold State.causeClear
  extract_lets -merge x0
  have hx0 : State.Canon (x0) := by
    refine State.causeW1c_canon _ _ _ ?_
    exact h0
  refine Canon.ite ?_ ?_
  · refine State.sendMsix_canon _ _ ?_
    exact hx0
  · exact hx0

theorem State.mbxRelease_canon (s : State) (m : Nat) (k : Nat) (who : Nat) (h0 : State.Canon (s)) :
    State.Canon (State.mbxRelease s m k who) := by
  unfold State.mbxRelease
  extract_lets -merge x0
  refine Canon.ite ?_ ?_
  · refine Canon.ite ?_ ?_
    · refine State.bump_canon _ _ _ _ ?_
      exact h0
    · refine State.freeSlot_canon _ _ _ ?_
      exact h0
  · refine State.mbxBadDone_canon _ _ _ _ ?_
    exact h0

theorem State.mbxAnswer_canon (s : State) (m : Nat) (k : Nat) (who : Nat) (h0 : State.Canon (s)) :
    State.Canon (State.mbxAnswer s m k who) := by
  unfold State.mbxAnswer
  extract_lets -merge x0 x1 x2 x3
  have hx3 : State.Canon (x3) := by
    refine State.setSlot_canon _ _ _ _ ?_
    exact h0
  refine Canon.ite ?_ ?_
  · refine Canon.ite ?_ ?_
    · refine State.bump_canon _ _ _ _ ?_
      exact h0
    · refine Canon.ite ?_ ?_
      · refine State.freeSlot_canon _ _ _ ?_
        refine State.bump_canon _ _ _ _ ?_
        exact h0
      · refine State.mbxCause_canon _ _ _ _ ?_
        refine State.updMbx_canon _ _ _ ?_
        exact hx3
  · refine State.mbxBadDone_canon _ _ _ _ ?_
    exact h0

theorem State.mbxFreed_canon (s : State) (m : Nat) (k : Nat) (who : Nat) (h0 : State.Canon (s)) :
    State.Canon (State.mbxFreed s m k who) := by
  unfold State.mbxFreed
  extract_lets -merge x0
  refine Canon.ite ?_ ?_
  · refine State.freeSlot_canon _ _ _ ?_
    exact h0
  · refine State.bump_canon _ _ _ _ ?_
    exact h0

theorem State.mbxOp_canon (s : State) (m : Nat) (k : Nat) (e : Nat × MbxOp) (h0 : State.Canon (s)) :
    State.Canon (State.mbxOp s m k e) := by
  unfold State.mbxOp
  refine Canon.ite ?_ ?_
  · refine State.badAccess_canon _ ?_
    exact h0
  · split
    · refine State.mbxRelease_canon _ _ _ _ ?_
      exact h0
    · refine State.mbxAnswer_canon _ _ _ _ ?_
      exact h0
    · refine State.mbxFreed_canon _ _ _ _ ?_
      exact h0

theorem State.mbxClock_canon (s : State) (m : Nat) (k : Nat) (ops : List (Nat × MbxOp)) (h0 : State.Canon (s)) :
    State.Canon (State.mbxClock s m k ops) := by
  unfold State.mbxClock
  extract_lets -merge x0 x1 x2
  have hx0 : State.Canon (x0) := by
    refine State.mbxSweep_canon _ _ ?_
    exact h0
  refine Canon.foldl ?_ ?_
  · intro _ _ g3
    refine State.mbxOp_canon _ _ _ _ ?_
    exact g3
  · refine State.servedClock_canon _ _ _ ?_
    exact hx0

theorem State.dblRing_canon (s : State) (d : Nat) (writes : List (Nat × Nat)) (h0 : State.Canon (s)) :
    State.Canon (State.dblRing s d writes) := by
  unfold State.dblRing
  extract_lets -merge x0 x1 x2 x3 x4
  split
  · exact h0
  · extract_lets -merge x5 x6
    have hx5 : ∀ y0, State.Canon (y0) → State.Canon (x5 y0) := by
      intro _ g7
      unfold x5
      refine State.setHost_canon _ _ ?_
      exact g7
    have hx6 : State.Canon (x6) := by
      refine Canon.ite ?_ ?_
      · refine State.irqStep_canon _ _ _ ?_ ?_
        · exact h0
        · exact hx5
      · refine State.coreIrq_canon _ _ _ ?_
        refine hx5 _ ?_
        exact h0
    refine State.servedClock_canon _ _ _ ?_
    exact hx6

theorem State.lockRelease_canon (s : State) (n : Nat) (who : Nat) (h0 : State.Canon (s)) :
    State.Canon (State.lockRelease s n who) := by
  unfold State.lockRelease
  extract_lets -merge x0
  refine Canon.ite ?_ ?_
  · refine State.setLock_canon _ _ _ ?_
    exact h0
  · refine State.hostCause_canon _ _ ?_
    refine State.event_canon _ _ _ _ ?_
    refine State.bump_canon _ _ _ _ ?_
    exact h0

theorem State.lockForce_canon (s : State) (who : Nat) (v : Nat) (h0 : State.Canon (s)) :
    State.Canon (State.lockForce s who v) := by
  unfold State.lockForce
  extract_lets -merge x0 x1
  refine Canon.ite ?_ ?_
  · refine State.badAccess_canon _ ?_
    exact h0
  · refine Canon.ite ?_ ?_
    · exact h0
    · refine State.hostCause_canon _ _ ?_
      refine State.event_canon _ _ _ _ ?_
      refine State.bump_canon _ _ _ _ ?_
      refine State.setLock_canon _ _ _ ?_
      exact h0

theorem execHostReset_canon (s : State) (h0 : State.Canon (s)) :
    Res.Canon (execHostReset s) := by
  unfold execHostReset
  refine live_canon _ _ ?_ ?_
  · exact h0
  · intro _ g0
    extract_lets -merge x1 x2 x3 x4 x5 x6
    have hx1 : State.Canon (x1) := by
      refine Canon.foldl ?_ ?_
      · intro _ _ g7
        refine State.dmaAbandon_canon _ _ ?_
        exact g7
      · exact g0
    have hx2 : State.Canon (x2) := by
      refine State.dblReset_canon _ _ ?_
      refine State.lockReset_canon _ _ ?_
      refine State.mbxReset_canon _ _ ?_
      exact hx1
    have hx3 : State.Canon (x3) := by
      refine State.leaseHostReset_canon _ ?_
      refine State.sessionEnd_canon _ ?_
      exact hx2
    have hx4 : State.Canon (x4) := by
      refine State.setHost_canon _ _ ?_
      exact hx3
    have hx6 : State.Canon (x6) := by
      refine Canon.mk_iff.mpr ?_
      refine State.Canon.od ?_
      exact hx4
    refine State.bump_canon _ _ _ _ ?_
    refine State.bump_canon _ _ _ _ ?_
    exact hx6

theorem execCoreReset_canon (k : Fin 8) (s : State) (h1 : State.Canon (s)) :
    Res.Canon (execCoreReset k s) := by
  unfold execCoreReset
  extract_lets -merge x0
  refine live_canon _ _ ?_ ?_
  · exact h1
  · intro _ g1
    extract_lets -merge x2
    have hx2 : State.Canon (x2) := by
      refine Canon.foldl ?_ ?_
      · intro _ _ g3
        refine State.dblReset_canon _ _ ?_
        exact g3
      · refine State.lockReset_canon _ _ ?_
        refine State.mbxReset_canon _ _ ?_
        exact g1
    refine State.setHost_canon _ _ ?_
    exact hx2

theorem execDmaTailWrite_canon (c : Fin 16) (tail : Nat) (descs : List Desc) (s : State) (h3 : State.Canon (s)) :
    Res.Canon (execDmaTailWrite c tail descs s) := by
  unfold execDmaTailWrite
  refine live_canon _ _ ?_ ?_
  · exact h3
  · intro _ g0
    refine State.dmaTail_canon _ _ _ _ ?_
    exact g0

theorem execDmaEnable_canon (c : Fin 16) (on : Bool) (s : State) (h2 : State.Canon (s)) :
    Res.Canon (execDmaEnable c on s) := by
  unfold execDmaEnable
  refine live_canon _ _ ?_ ?_
  · exact h2
  · intro _ g0
    refine State.dmaEnable_canon _ _ _ ?_
    exact g0

theorem execDmaRestart_canon (c : Fin 16) (s : State) (h1 : State.Canon (s)) :
    Res.Canon (execDmaRestart c s) := by
  unfold execDmaRestart
  refine live_canon _ _ ?_ ?_
  · exact h1
  · intro _ g0
    refine State.dmaRestart_canon _ _ ?_
    exact g0

theorem execDmaDescriptorComplete_canon (c : Fin 16) (err : Fin 5) (a : Nat) (addr : Nat) (s : State) (h4 : State.Canon (s)) :
    Res.Canon (execDmaDescriptorComplete c err a addr s) := by
  unfold execDmaDescriptorComplete
  refine live_canon _ _ ?_ ?_
  · exact h4
  · intro _ g0
    extract_lets -merge x1 x2
    refine Canon.ite ?_ ?_
    · exact g0
    · refine Canon.ite ?_ ?_
      · refine Canon.ite ?_ ?_
        · exact g0
        · refine Canon.ite ?_ ?_
          · refine State.dmaHalt_canon _ _ _ ?_
            refine State.dmaDiscard_canon _ _ _ ?_
            exact g0
          · refine Canon.ite ?_ ?_
            · refine State.dmaHalt_canon _ _ _ ?_
              refine State.dmaDiscard_canon _ _ _ ?_
              refine State.memUe_canon _ _ _ _ _ ?_
              exact g0
            · refine Canon.ite ?_ ?_
              · refine State.dmaKick_canon _ _ ?_
                refine State.dmaComplete_canon _ _ _ _ _ _ _ _ ?_
                refine State.dmaDiscard_canon _ _ _ ?_
                exact g0
              · refine Canon.ite ?_ ?_
                · refine State.dmaKick_canon _ _ ?_
                  refine State.dmaComplete_canon _ _ _ _ _ _ _ _ ?_
                  refine State.dmaDiscard_canon _ _ _ ?_
                  refine State.memUe_canon _ _ _ _ _ ?_
                  exact g0
                · split
                  · exact g0
                  · extract_lets -merge x3
                    have hx3 : State.Canon (x3) := by
                      refine Canon.ite ?_ ?_
                      · refine State.bump_canon _ _ _ _ ?_
                        exact g0
                      · exact g0
                    refine State.dmaKick_canon _ _ ?_
                    refine State.dmaComplete_canon _ _ _ _ _ _ _ _ ?_
                    exact hx3
      · refine Canon.ite ?_ ?_
        · exact g0
        · refine Canon.ite ?_ ?_
          · refine State.dmaHalt_canon _ _ _ ?_
            exact g0
          · refine Canon.ite ?_ ?_
            · refine State.dmaHalt_canon _ _ _ ?_
              refine State.memUe_canon _ _ _ _ _ ?_
              exact g0
            · refine Canon.ite ?_ ?_
              · refine State.dmaHalt_canon _ _ _ ?_
                exact g0
              · split
                · exact g0
                · have g4 := Canon.of_some2 (by assumption) (by
                    refine State.dmaItem_canon _ _ ?_
                    exact g0
                    )
                  extract_lets -merge x5
                  have hx5 : State.Canon (x5) := by
                    refine State.dmaFreed_canon _ _ ?_
                    exact g4
                  refine Canon.ite ?_ ?_
                  · refine State.dmaComplete_canon _ _ _ _ _ _ _ _ ?_
                    exact hx5
                  · refine Canon.ite ?_ ?_
                    · refine State.dmaComplete_canon _ _ _ _ _ _ _ _ ?_
                      refine State.memUe_canon _ _ _ _ _ ?_
                      exact hx5
                    · refine Canon.ite ?_ ?_
                      · refine State.dmaComplete_canon _ _ _ _ _ _ _ _ ?_
                        refine State.bump_canon _ _ _ _ ?_
                        exact hx5
                      · refine State.dmaComplete_canon _ _ _ _ _ _ _ _ ?_
                        exact hx5

theorem execIrqCauseClear_canon (src : Fin 115) (mask : Nat) (s : State) (h2 : State.Canon (s)) :
    Res.Canon (execIrqCauseClear src mask s) := by
  unfold execIrqCauseClear
  refine live_canon _ _ ?_ ?_
  · exact h2
  · intro _ g0
    refine Canon.ite ?_ ?_
    · refine State.causeClear_canon _ _ _ ?_
      exact g0
    · refine Canon.ite ?_ ?_
      · exact g0
      · refine Canon.foldl ?_ ?_
        · intro _ _ g1
          refine Canon.ite ?_ ?_
          · refine State.sendMsix_canon _ _ ?_
            exact g1
          · exact g1
        · refine State.causeW1c_canon _ _ _ ?_
          exact g0

theorem execMbxSend_canon (m : Fin 64) (reqs : List Nat) (s : State) (h2 : State.Canon (s)) :
    Res.Canon (execMbxSend m reqs s) := by
  unfold execMbxSend
  refine live_canon _ _ ?_ ?_
  · exact h2
  · intro _ g0
    extract_lets -merge x1 x2 x3
    have hx1 : State.Canon (x1) := by
      refine State.mbxSweep_canon _ _ ?_
      exact g0
    have hx3 : State.Canon (x3) := by
      refine Canon.foldl ?_ ?_
      · intro _ _ g4
        refine Canon.ite ?_ ?_
        · refine State.emit_canon _ _ ?_
          exact g4
        · split
          · have g5 := Canon.of_snd (by assumption) (by
              refine State.mbxPost_canon _ _ _ ?_
              exact g4
              )
            refine State.emit_canon _ _ ?_
            exact g5
      · exact hx1
    refine State.servedClock_canon _ _ _ ?_
    exact hx3

theorem execMbxRecv_canon (m : Fin 64) (who : Nat) (s : State) (h2 : State.Canon (s)) :
    Res.Canon (execMbxRecv m who s) := by
  unfold execMbxRecv
  refine live_canon _ _ ?_ ?_
  · exact h2
  · intro _ g0
    extract_lets -merge x1
    have hx1 : State.Canon (x1) := by
      refine State.mbxSweep_canon _ _ ?_
      exact g0
    refine Canon.ite ?_ ?_
    · refine State.emit_canon _ _ ?_
      exact hx1
    · refine Canon.ite ?_ ?_
      · refine State.emit_canon _ _ ?_
        exact hx1
      · split
        · refine State.emit_canon _ _ ?_
          exact hx1
        · extract_lets -merge x2 x3
          have hx2 : State.Canon (x2) := by
            refine State.updMbx_canon _ _ _ ?_
            exact hx1
          refine State.emit_canon _ _ ?_
          refine State.setSlot_canon _ _ _ _ ?_
          exact hx2

theorem execMbxDoneRelease_canon (m : Fin 64) (k : Fin 16) (who : Nat) (same : List (Nat × MbxOp)) (s : State) (h4 : State.Canon (s)) :
    Res.Canon (execMbxDoneRelease m k who same s) := by
  unfold execMbxDoneRelease
  refine live_canon _ _ ?_ ?_
  · exact h4
  · intro _ g0
    refine State.mbxClock_canon _ _ _ _ ?_
    exact g0

theorem execMbxDoneReply_canon (m : Fin 64) (k : Fin 16) (who : Nat) (same : List (Nat × MbxOp)) (s : State) (h4 : State.Canon (s)) :
    Res.Canon (execMbxDoneReply m k who same s) := by
  unfold execMbxDoneReply
  refine live_canon _ _ ?_ ?_
  · exact h4
  · intro _ g0
    refine State.mbxClock_canon _ _ _ _ ?_
    exact g0

theorem execMbxReply_canon (m : Fin 64) (who : Nat) (s : State) (h2 : State.Canon (s)) :
    Res.Canon (execMbxReply m who s) := by
  unfold execMbxReply
  refine live_canon _ _ ?_ ?_
  · exact h2
  · intro _ g0
    extract_lets -merge x1
    have hx1 : State.Canon (x1) := by
      refine State.mbxSweep_canon _ _ ?_
      exact g0
    refine Canon.ite ?_ ?_
    · refine State.emit_canon _ _ ?_
      exact hx1
    · split
      · refine State.emit_canon _ _ ?_
        exact hx1
      · refine State.emit_canon _ _ ?_
        exact hx1

theorem execMbxFree_canon (m : Fin 64) (k : Fin 16) (who : Nat) (same : List (Nat × MbxOp)) (s : State) (h4 : State.Canon (s)) :
    Res.Canon (execMbxFree m k who same s) := by
  unfold execMbxFree
  refine live_canon _ _ ?_ ?_
  · exact h4
  · intro _ g0
    refine State.mbxClock_canon _ _ _ _ ?_
    exact g0

theorem execMbxFlushedRead_canon (m : Fin 64) (who : Nat) (s : State) (h2 : State.Canon (s)) :
    Res.Canon (execMbxFlushedRead m who s) := by
  unfold execMbxFlushedRead
  refine live_canon _ _ ?_ ?_
  · exact h2
  · intro _ g0
    refine Canon.ite ?_ ?_
    · refine State.emit_canon _ _ ?_
      exact g0
    · refine State.emit_canon _ _ ?_
      refine State.updView_canon _ _ _ _ ?_
      exact g0

theorem execMbxTimeout_canon (m : Fin 64) (k : Fin 16) (s : State) (h2 : State.Canon (s)) :
    Res.Canon (execMbxTimeout m k s) := by
  unfold execMbxTimeout
  refine live_canon _ _ ?_ ?_
  · exact h2
  · intro _ g0
    refine State.mbxExpire_canon _ _ _ ?_
    exact g0

theorem execDblRing_canon (d : Fin 256) (writes : List (Nat × Nat)) (s : State) (h2 : State.Canon (s)) :
    Res.Canon (execDblRing d writes s) := by
  unfold execDblRing
  refine live_canon _ _ ?_ ?_
  · exact h2
  · intro _ g0
    refine State.dblRing_canon _ _ _ ?_
    exact g0

theorem execDblPendRead_canon (d : Fin 256) (who : Nat) (s : State) (h2 : State.Canon (s)) :
    Res.Canon (execDblPendRead d who s) := by
  unfold execDblPendRead
  refine live_canon _ _ ?_ ?_
  · exact h2
  · intro _ g0
    extract_lets -merge x1
    split
    · refine Canon.ite ?_ ?_
      · refine State.emit_canon _ _ ?_
        refine State.setHost_canon _ _ ?_
        exact g0
      · refine State.emit_canon _ _ ?_
        exact g0

theorem execLckAcquire_canon (n : Fin 128) (reqs : List Nat) (rels : List Nat) (s : State) (h3 : State.Canon (s)) :
    Res.Canon (execLckAcquire n reqs rels s) := by
  unfold execLckAcquire
  refine live_canon _ _ ?_ ?_
  · exact h3
  · intro _ g0
    extract_lets -merge x1 x2 x3
    have hx1 : State.Canon (x1) := by
      refine Canon.foldl ?_ ?_
      · intro _ _ g4
        refine State.lockRelease_canon _ _ _ ?_
        exact g4
      · exact g0
    have hx3 : State.Canon (x3) := by
      refine State.servedClock_canon _ _ _ ?_
      exact hx1
    split
    · exact hx1
    · extract_lets -merge x5
      have hx5 : State.Canon (x5) := by
        refine State.emit_canon _ _ ?_
        refine State.bump_canon _ _ _ _ ?_
        refine State.setLock_canon _ _ _ ?_
        exact hx3
      refine Canon.ite ?_ ?_
      · refine Canon.foldl ?_ ?_
        · intro _ _ g6
          refine State.emit_canon _ _ ?_
          exact g6
        · exact hx3
      · refine Canon.foldl ?_ ?_
        · intro _ _ g7
          refine State.emit_canon _ _ ?_
          refine State.bump_canon _ _ _ _ ?_
          exact g7
        · exact hx5

theorem execLckRelease_canon (n : Fin 128) (who : Nat) (s : State) (h2 : State.Canon (s)) :
    Res.Canon (execLckRelease n who s) := by
  unfold execLckRelease
  refine live_canon _ _ ?_ ?_
  · exact h2
  · intro _ g0
    refine State.lockRelease_canon _ _ _ ?_
    exact g0

theorem execLckForce_canon (who : Nat) (v : Nat) (s : State) (h2 : State.Canon (s)) :
    Res.Canon (execLckForce who v s) := by
  unfold execLckForce
  refine live_canon _ _ ?_ ?_
  · exact h2
  · intro _ g0
    refine State.lockForce_canon _ _ _ ?_
    exact g0

theorem execSpdmSessionEnd_canon (s : State) (h0 : State.Canon (s)) :
    Res.Canon (execSpdmSessionEnd s) := by
  unfold execSpdmSessionEnd
  refine live_canon _ _ ?_ ?_
  · exact h0
  · intro _ g0
    refine State.sessionEnd_canon _ ?_
    exact g0

end Sys2Proof.Machine
end

