-- ==== Sys2Proof/Laws/CanonFamPort.lean ====
section
/-! SUPPORT. The definitions of FamPort keep the object store canonical. -/

namespace Sys2Proof.Machine

theorem State.testStop_canon (s : State) (p : Nat) (h0 : State.Canon (s)) :
    State.Canon (State.testStop s p) := by
  unfold State.testStop
  refine Canon.foldl ?_ ?_
  · intro _ _ g0
    refine Canon.ite ?_ ?_
    · refine State.updCh_canon _ _ _ _ ?_
      exact g0
    · exact g0
  · exact h0

theorem execTestModeNone_canon (p : Fin 64) (errors : Nat) (s : State) (h2 : State.Canon (s)) :
    Res.Canon (execTestModeNone p errors s) := by
  unfold execTestModeNone
  refine live_canon _ _ ?_ ?_
  · exact h2
  · intro _ g0
    extract_lets -merge x1
    have hx1 : State.Canon (x1) := by
      refine Canon.ite ?_ ?_
      · refine State.bumpBy_canon _ _ _ _ _ ?_
        exact g0
      · exact g0
    refine State.result_canon _ _ _ _ _ _ ?_
    refine State.put_canon _ _ _ _ _ ?_
    refine State.testStop_canon _ _ ?_
    exact hx1

theorem State.testMode_canon (s : State) (p : Nat) (mode : Nat) (h0 : State.Canon (s)) :
    State.Canon (State.testMode s p mode) := by
  unfold State.testMode
  extract_lets -merge x0 x1 x2 x3
  have hx1 : State.Canon (x1) := by
    refine State.put_canon _ _ _ _ _ ?_
    refine State.testStop_canon _ _ ?_
    exact h0
  have hx3 : State.Canon (x3) := by
    refine State.updCh_canon _ _ _ _ ?_
    exact hx1
  refine Canon.ite ?_ ?_
  · refine State.result_canon _ _ _ _ _ _ ?_
    exact hx3
  · refine State.result_canon _ _ _ _ _ _ ?_
    exact h0

theorem State.burstDone_canon (s : State) (p : Nat) (c : Nat) (b : Burst) (h0 : State.Canon (s)) :
    State.Canon (State.burstDone s p c b) := by
  unfold State.burstDone
  extract_lets -merge x0
  refine Canon.ite ?_ ?_
  · exact h0
  · split
    · exact h0
    · refine Canon.ite ?_ ?_
      · exact h0
      · refine State.trialCount_canon _ _ _ _ _ _ ?_
        refine State.stepTally_canon _ _ _ _ _ ?_
        exact h0

theorem State.burstReceived_canon (s : State) (p : Nat) (c : Nat) (b : Burst) (a4 : Nat) (bitErrors : Nat) (h0 : State.Canon (s)) :
    State.Canon (State.burstReceived s p c b a4 bitErrors) := by
  unfold State.burstReceived
  extract_lets -merge x0 x1 x2 x3 x4 x5
  have hx1 : State.Canon (x1) := by
    refine State.updBurst_canon _ _ _ _ _ ?_
    exact h0
  have hx2 : State.Canon (x2) := by
    refine Canon.ite ?_ ?_
    · refine State.bump_canon _ _ _ _ ?_
      exact hx1
    · exact hx1
  have hx3 : State.Canon (x3) := by
    refine State.lolReceived_canon _ _ _ ?_
    exact hx2
  have hx4 : State.Canon (x4) := by
    refine State.tallyOutcome_canon _ _ _ _ _ _ ?_
    exact hx3
  have hx5 : State.Canon (x5) := by
    refine State.updCh_canon _ _ _ _ ?_
    exact hx4
  split
  · refine State.showLol_canon _ _ ?_
    refine State.lolStale_canon _ _ _ _ _ ?_
    refine State.pmAdd_canon _ _ _ _ ?_
    exact hx5
  · exact hx5

theorem State.closeCode_canon (s : State) (p : Nat) (c : Nat) (b : Burst) (h0 : State.Canon (s)) :
    State.Canon (State.closeCode s p c b) := by
  unfold State.closeCode
  extract_lets -merge x0 x1 x2 x3 x4 x5 x6
  have hx2 : State.Canon (x2) := by
    refine State.updOptic_canon _ _ _ ?_
    exact h0
  have hx4 : State.Canon (x4) := by
    refine State.bumpBy_canon _ _ _ _ _ ?_
    exact hx2
  have hx5 : State.Canon (x5) := by
    refine State.updCh_canon _ _ _ _ ?_
    exact hx4
  have hx6 : State.Canon (x6) := by
    refine State.updBurst_canon _ _ _ _ _ ?_
    exact hx5
  refine State.emit_canon _ _ ?_
  exact hx6

theorem State.countReceived_canon (s : State) (p : Nat) (c : Nat) (b : Burst) (h0 : State.Canon (s)) :
    State.Canon (State.countReceived s p c b) := by
  unfold State.countReceived
  extract_lets -merge x0
  have hx0 : State.Canon (x0) := by
    refine State.bump_canon _ _ _ _ ?_
    exact h0
  refine Canon.ite ?_ ?_
  · refine State.bump_canon _ _ _ _ ?_
    exact hx0
  · refine State.bump_canon _ _ _ _ ?_
    exact hx0

theorem State.onuReceived_canon (s : State) (r : Nat) (h0 : State.Canon (s)) :
    State.Canon (State.onuReceived s r) := by
  unfold State.onuReceived
  refine Canon.ite ?_ ?_
  · exact h0
  · refine State.updOnu_canon _ _ _ ?_
    exact h0

theorem State.openCode_canon (s : State) (p : Nat) (c : Nat) (b : Burst) (h0 : State.Canon (s)) :
    State.Canon (State.openCode s p c b) := by
  unfold State.openCode
  extract_lets -merge x0 x1 x2 x3
  have hx3 : State.Canon (x3) := by
    refine State.updOptic_canon _ _ _ ?_
    exact h0
  refine Canon.ite ?_ ?_
  · refine State.bump_canon _ _ _ _ ?_
    exact h0
  · refine State.emit_canon _ _ ?_
    refine State.updBurst_canon _ _ _ _ _ ?_
    exact hx3

theorem State.preloadServe_canon (s : State) (die : Nat) (q : Nat) (h0 : State.Canon (s)) :
    State.Canon (State.preloadServe s die q) := by
  unfold State.preloadServe
  extract_lets -merge x0 x1 x2
  have hx0 : State.Canon (x0) := by
    refine State.granted_canon _ _ _ ?_
    exact h0
  split
  · exact hx0
  · split
    · refine State.updCh_canon _ _ _ _ ?_
      exact hx0

theorem State.scanNext_canon (s : State) (p : Nat) (c : Nat) (h0 : State.Canon (s)) :
    State.Canon (State.scanNext s p c) := by
  unfold State.scanNext
  extract_lets -merge x0 x1
  have hx1 : State.Canon (x1) := by
    refine State.updAct_canon _ _ _ _ ?_
    exact h0
  split
  · refine State.event_canon _ _ _ _ ?_
    exact hx1
  · extract_lets -merge x2 x3 x4 x5
    have hx2 : State.Canon (x2) := by
      refine State.updOnu_canon _ _ _ ?_
      exact h0
    have hx3 : State.Canon (x3) := by
      refine State.actSend_canon _ _ _ _ _ _ ?_
      exact hx2
    have hx4 : State.Canon (x4) := by
      refine State.setOnu_canon _ _ _ ?_
      exact hx3
    have hx5 : State.Canon (x5) := by
      refine State.actPost_canon _ _ _ _ ?_
      exact hx4
    refine State.updAct_canon _ _ _ _ ?_
    exact hx5

theorem State.scanStart_canon (s : State) (p : Nat) (c : Nat) (h0 : State.Canon (s)) :
    State.Canon (State.scanStart s p c) := by
  unfold State.scanStart
  extract_lets -merge x0 x1 x2 x3
  have hx1 : State.Canon (x1) := by
    refine State.event_canon _ _ _ _ ?_
    exact h0
  have hx2 : State.Canon (x2) := by
    refine State.bump_canon _ _ _ _ ?_
    exact hx1
  have hx3 : State.Canon (x3) := by
    refine State.updAct_canon _ _ _ _ ?_
    exact hx2
  refine Canon.ite ?_ ?_
  · exact h0
  · refine State.scanNext_canon _ _ _ ?_
    exact hx3

theorem State.unexpTaken_canon (s : State) (p : Nat) (c : Nat) (h0 : State.Canon (s)) :
    State.Canon (State.unexpTaken s p c) := by
  unfold State.unexpTaken
  extract_lets -merge x0
  have hx0 : State.Canon (x0) := by
    refine State.updCh_canon _ _ _ _ ?_
    exact h0
  refine Canon.ite ?_ ?_
  · refine State.scanStart_canon _ _ _ ?_
    exact hx0
  · exact hx0

theorem execChCmdOff_canon (p : Fin 64) (c : Fin 2) (s : State) (h2 : State.Canon (s)) :
    Res.Canon (execChCmdOff p c s) := by
  unfold execChCmdOff
  refine live_canon _ _ ?_ ?_
  · exact h2
  · intro _ g0
    refine State.chCmd_canon _ _ _ _ ?_
    exact g0

theorem execChCmdDark_canon (p : Fin 64) (c : Fin 2) (s : State) (h2 : State.Canon (s)) :
    Res.Canon (execChCmdDark p c s) := by
  unfold execChCmdDark
  refine live_canon _ _ ?_ ?_
  · exact h2
  · intro _ g0
    refine State.chCmd_canon _ _ _ _ ?_
    exact g0

theorem execChCmdLit_canon (p : Fin 64) (c : Fin 2) (s : State) (h2 : State.Canon (s)) :
    Res.Canon (execChCmdLit p c s) := by
  unfold execChCmdLit
  refine live_canon _ _ ?_ ?_
  · exact h2
  · intro _ g0
    refine State.chCmd_canon _ _ _ _ ?_
    exact g0

theorem execChPendingApply_canon (p : Fin 64) (c : Fin 2) (s : State) (h2 : State.Canon (s)) :
    Res.Canon (execChPendingApply p c s) := by
  unfold execChPendingApply
  refine live_canon _ _ ?_ ?_
  · exact h2
  · intro _ g0
    refine State.pendingApply_canon _ _ _ ?_
    exact g0

theorem execSerialiserLocked_canon (p : Fin 64) (c : Fin 2) (s : State) (h2 : State.Canon (s)) :
    Res.Canon (execSerialiserLocked p c s) := by
  unfold execSerialiserLocked
  refine live_canon _ _ ?_ ?_
  · exact h2
  · intro _ g0
    refine Canon.ite ?_ ?_
    · refine State.updCh_canon _ _ _ _ ?_
      exact g0
    · exact g0

theorem execWarmTimeout_canon (p : Fin 64) (c : Fin 2) (s : State) (h2 : State.Canon (s)) :
    Res.Canon (execWarmTimeout p c s) := by
  unfold execWarmTimeout
  refine live_canon _ _ ?_ ?_
  · exact h2
  · intro _ g0
    refine Canon.ite ?_ ?_
    · refine State.enterFault_canon _ _ _ _ ?_
      exact g0
    · exact g0

theorem execTxLossOfLock_canon (p : Fin 64) (c : Fin 2) (s : State) (h2 : State.Canon (s)) :
    Res.Canon (execTxLossOfLock p c s) := by
  unfold execTxLossOfLock
  refine live_canon _ _ ?_ ?_
  · exact h2
  · intro _ g0
    refine State.enterFault_canon _ _ _ _ ?_
    exact g0

theorem execPonPllUnlock_canon (die : Fin 2) (s : State) (h1 : State.Canon (s)) :
    Res.Canon (execPonPllUnlock die s) := by
  unfold execPonPllUnlock
  extract_lets -merge x0
  refine live_canon _ _ ?_ ?_
  · exact h1
  · intro _ g1
    extract_lets -merge x2 x3
    have hx3 : State.Canon (x3) := by
      refine Canon.ite ?_ ?_
      · refine State.bump_canon _ _ _ _ ?_
        refine State.put_canon _ _ _ _ _ ?_
        exact g1
      · exact g1
    refine Canon.foldl ?_ ?_
    · intro _ _ g4
      refine State.enterFault_canon _ _ _ _ ?_
      refine State.enterFault_canon _ _ _ _ ?_
      exact g4
    · exact hx3

theorem execTestModePrbsTx_canon (p : Fin 64) (s : State) (h1 : State.Canon (s)) :
    Res.Canon (execTestModePrbsTx p s) := by
  unfold execTestModePrbsTx
  refine live_canon _ _ ?_ ?_
  · exact h1
  · intro _ g0
    refine State.testMode_canon _ _ _ ?_
    exact g0

theorem execTestModePrbsRx_canon (p : Fin 64) (s : State) (h1 : State.Canon (s)) :
    Res.Canon (execTestModePrbsRx p s) := by
  unfold execTestModePrbsRx
  refine live_canon _ _ ?_ ?_
  · exact h1
  · intro _ g0
    refine State.testMode_canon _ _ _ ?_
    exact g0

theorem execTestModeLoopback_canon (p : Fin 64) (s : State) (h1 : State.Canon (s)) :
    Res.Canon (execTestModeLoopback p s) := by
  unfold execTestModeLoopback
  refine live_canon _ _ ?_ ?_
  · exact h1
  · intro _ g0
    refine State.testMode_canon _ _ _ ?_
    exact g0

theorem execBurstNotice_canon (p : Fin 64) (c : Fin 2) (s : State) (h2 : State.Canon (s)) :
    Res.Canon (execBurstNotice p c s) := by
  unfold execBurstNotice
  refine live_canon _ _ ?_ ?_
  · exact h2
  · intro _ g0
    split
    · exact g0
    · extract_lets -merge x1 x2 x3
      have hx1 : State.Canon (x1) := by
        refine State.updCh_canon _ _ _ _ ?_
        exact g0
      refine Canon.ite ?_ ?_
      · refine State.bump_canon _ _ _ _ ?_
        exact hx1
      · refine State.updCh_canon _ _ _ _ ?_
        exact hx1

theorem execPreloadComplete_canon (die : Fin 2) (s : State) (h1 : State.Canon (s)) :
    Res.Canon (execPreloadComplete die s) := by
  unfold execPreloadComplete
  refine live_canon _ _ ?_ ?_
  · exact h1
  · intro _ g0
    extract_lets -merge x1 x2
    have hx2 : State.Canon (x2) := by
      refine Canon.ite ?_ ?_
      · refine State.storeWrite_canon _ _ ?_
        exact g0
      · exact g0
    split
    · exact hx2
    · refine State.storeDrain_canon _ _ ?_
      refine State.preloadServe_canon _ _ _ ?_
      exact hx2

theorem execBurstStart_canon (p : Fin 64) (c : Fin 2) (s : State) (h2 : State.Canon (s)) :
    Res.Canon (execBurstStart p c s) := by
  unfold execBurstStart
  refine live_canon _ _ ?_ ?_
  · exact h2
  · intro _ g0
    split
    · exact g0
    · extract_lets -merge x1 x2 x3 x4 x5
      have hx3 : State.Canon (x3) := by
        refine State.updCh_canon _ _ _ _ ?_
        exact g0
      have hx4 : State.Canon (x4) := by
        refine Canon.ite ?_ ?_
        · refine State.updAct_canon _ _ _ _ ?_
          exact hx3
        · exact hx3
      have hx5 : State.Canon (x5) := by
        refine Canon.ite ?_ ?_
        · refine State.bump_canon _ _ _ _ ?_
          exact hx4
        · refine Canon.ite ?_ ?_
          · refine State.bump_canon _ _ _ _ ?_
            exact hx4
          · exact hx4
      refine Canon.ite ?_ ?_
      · exact hx5
      · refine State.openCode_canon _ _ _ _ ?_
        exact hx5

theorem execDelimiterDetected_canon (p : Fin 64) (c : Fin 2) (a2 : Nat) (bitErrors : Nat) (front : Nat) (env : Envelope) (s : State) (h6 : State.Canon (s)) :
    Res.Canon (execDelimiterDetected p c a2 bitErrors front env s) := by
  unfold execDelimiterDetected
  refine live_canon _ _ ?_ ?_
  · exact h6
  · intro _ g0
    refine Canon.ite ?_ ?_
    · exact g0
    · split
      · extract_lets -merge x1
        have hx1 : State.Canon (x1) := by
          refine State.updBurst_canon _ _ _ _ _ ?_
          exact g0
        refine Canon.ite ?_ ?_
        · refine State.burstReceived_canon _ _ _ _ _ _ ?_
          exact hx1
        · exact hx1
      · refine Canon.ite ?_ ?_
        · refine State.emit_canon _ _ ?_
          exact g0
        · exact g0

theorem execGuardWindowClose_canon (p : Fin 64) (c : Fin 2) (env : Envelope) (s : State) (h3 : State.Canon (s)) :
    Res.Canon (execGuardWindowClose p c env s) := by
  unfold execGuardWindowClose
  refine live_canon _ _ ?_ ?_
  · exact h3
  · intro _ g0
    split
    · exact g0
    · extract_lets -merge x1 x2 x3 x4 x5 x6 x7 x8 x9 x10 x11 x12
      have hx4 : State.Canon (x4) := by
        refine State.updBurst_canon _ _ _ _ _ ?_
        exact g0
      have hx5 : State.Canon (x5) := by
        refine State.bump_canon _ _ _ _ ?_
        exact hx4
      have hx6 : State.Canon (x6) := by
        refine Canon.ite ?_ ?_
        · refine State.lolLost_canon _ _ _ ?_
          refine State.bump_canon _ _ _ _ ?_
          exact hx5
        · exact hx5
      have hx7 : State.Canon (x7) := by
        refine State.bump_canon _ _ _ _ ?_
        exact hx6
      have hx8 : State.Canon (x8) := by
        refine State.tallyOutcome_canon _ _ _ _ _ _ ?_
        exact hx7
      have hx9 : State.Canon (x9) := by
        refine State.updCh_canon _ _ _ _ ?_
        exact hx8
      have hx10 : State.Canon (x10) := by
        refine State.nonWholeBurst_canon _ _ _ _ _ ?_
        exact hx9
      have hx11 : State.Canon (x11) := by
        refine State.grantLost_canon _ _ _ _ _ ?_
        exact hx10
      have hx12 : State.Canon (x12) := by
        refine State.captureOutcome_canon _ _ _ _ _ ?_
        exact hx11
      refine Canon.ite ?_ ?_
      · exact g0
      · refine Canon.ite ?_ ?_
        · refine State.burstReceived_canon _ _ _ _ _ _ ?_
          exact g0
        · split
          · refine State.showLol_canon _ _ ?_
            refine State.lolStale_canon _ _ _ _ _ ?_
            refine State.pmAdd_canon _ _ _ _ ?_
            exact hx12
          · exact hx12

theorem execBurstEnd_canon (p : Fin 64) (c : Fin 2) (final : Nat) (eye : Nat) (s : State) (h4 : State.Canon (s)) :
    Res.Canon (execBurstEnd p c final eye s) := by
  unfold execBurstEnd
  refine live_canon _ _ ?_ ?_
  · exact h4
  · intro _ g0
    split
    · exact g0
    · extract_lets -merge x1 x2 x3 x4
      have hx2 : State.Canon (x2) := by
        refine Canon.ite ?_ ?_
        · refine State.closeCode_canon _ _ _ _ ?_
          exact g0
        · exact g0
      have hx3 : State.Canon (x3) := by
        refine State.burstDone_canon _ _ _ _ ?_
        exact hx2
      have hx4 : State.Canon (x4) := by
        refine State.updCh_canon _ _ _ _ ?_
        exact hx3
      refine State.storeDrain_canon _ _ ?_
      exact hx4

theorem execRxClockStop_canon (p : Fin 64) (c : Fin 2) (s : State) (h2 : State.Canon (s)) :
    Res.Canon (execRxClockStop p c s) := by
  unfold execRxClockStop
  refine live_canon _ _ ?_ ?_
  · exact h2
  · intro _ g0
    extract_lets -merge x1
    refine Canon.ite ?_ ?_
    · refine State.updCh_canon _ _ _ _ ?_
      exact g0
    · exact g0

theorem execBurstHeaderCheck_canon (p : Fin 64) (c : Fin 2) (correctable : Bool) (found : Nat) (ploamWaiting : Bool) (s : State) (h5 : State.Canon (s)) :
    Res.Canon (execBurstHeaderCheck p c correctable found ploamWaiting s) := by
  unfold execBurstHeaderCheck
  refine live_canon _ _ ?_ ?_
  · exact h5
  · intro _ g0
    split
    · exact g0
    · extract_lets -merge x1 x2 x3 x4 x5 x6 x7 x8 x9 x10 x11 x12 x13 x14 x15 x16 x17
      have hx2 : State.Canon (x2) := by
        refine State.updBurst_canon _ _ _ _ _ ?_
        exact g0
      have hx3 : State.Canon (x3) := by
        refine State.countReceived_canon _ _ _ _ ?_
        exact hx2
      have hx4 : State.Canon (x4) := by
        refine State.nonWholeBurst_canon _ _ _ _ _ ?_
        exact hx3
      have hx5 : State.Canon (x5) := by
        refine State.captureOutcome_canon _ _ _ _ _ ?_
        exact hx4
      have hx6 : State.Canon (x6) := by
        refine State.updBurst_canon _ _ _ _ _ ?_
        exact g0
      have hx7 : State.Canon (x7) := by
        refine State.flushWrong_canon _ _ _ ?_
        exact hx6
      have hx8 : State.Canon (x8) := by
        refine State.bump_canon _ _ _ _ ?_
        exact hx7
      have hx9 : State.Canon (x9) := by
        refine State.updCh_canon _ _ _ _ ?_
        exact hx8
      have hx10 : State.Canon (x10) := by
        refine State.bump_canon _ _ _ _ ?_
        exact hx9
      have hx11 : State.Canon (x11) := by
        refine State.nonWholeBurst_canon _ _ _ _ _ ?_
        exact hx10
      have hx12 : State.Canon (x12) := by
        refine State.grantLost_canon _ _ _ _ _ ?_
        exact hx11
      have hx13 : State.Canon (x13) := by
        refine State.captureOutcome_canon _ _ _ _ _ ?_
        exact hx12
      have hx14 : State.Canon (x14) := by
        refine State.updBurst_canon _ _ _ _ _ ?_
        exact g0
      have hx15 : State.Canon (x15) := by
        refine State.updCh_canon _ _ _ _ ?_
        exact hx14
      have hx16 : State.Canon (x16) := by
        refine State.countReceived_canon _ _ _ _ ?_
        exact hx15
      have hx17 : State.Canon (x17) := by
        refine State.captureOutcome_canon _ _ _ _ _ ?_
        exact hx16
      refine Canon.ite ?_ ?_
      · clear_value x1
        split
        · exact hx5
        · extract_lets -merge x18 x19
          have hx18 : State.Canon (x18) := by
            refine State.pmAdd_canon _ _ _ _ ?_
            exact hx5
          have hx19 : State.Canon (x19) := by
            refine State.updOnu_canon _ _ _ ?_
            exact hx18
          refine State.burstDone_canon _ _ _ _ ?_
          refine State.onuReceived_canon _ _ ?_
          exact hx19
      · refine Canon.ite ?_ ?_
        · clear_value x1
          split
          · exact hx13
          · refine State.burstDone_canon _ _ _ _ ?_
            refine State.pmAdd_canon _ _ _ _ ?_
            exact hx13
        · clear_value x1
          split
          · exact hx17
          · extract_lets -merge x20 x21
            have hx20 : State.Canon (x20) := by
              refine State.onuReceived_canon _ _ ?_
              exact hx17
            have hx21 : State.Canon (x21) := by
              refine State.updOnu_canon _ _ _ ?_
              exact hx20
            refine State.burstDone_canon _ _ _ _ ?_
            exact hx21

theorem execFrameOutcomesComplete_canon (p : Fin 64) (c : Fin 2) (s : State) (h2 : State.Canon (s)) :
    Res.Canon (execFrameOutcomesComplete p c s) := by
  unfold execFrameOutcomesComplete
  refine live_canon _ _ ?_ ?_
  · exact h2
  · intro _ g0
    split
    · exact g0
    · extract_lets -merge x1 x2 x3 x4 x5 x6
      have hx1 : State.Canon (x1) := by
        refine State.updCh_canon _ _ _ _ ?_
        exact g0
      have hx3 : State.Canon (x3) := by
        refine State.updCh_canon _ _ _ _ ?_
        exact hx1
      have hx4 : State.Canon (x4) := by
        refine State.bump_canon _ _ _ _ ?_
        refine State.put_canon _ _ _ _ _ ?_
        exact hx3
      have hx6 : State.Canon (x6) := by
        refine State.updCh_canon _ _ _ _ ?_
        exact hx1
      refine Canon.ite ?_ ?_
      · exact g0
      · refine Canon.ite ?_ ?_
        · exact hx1
        · refine Canon.ite ?_ ?_
          · refine Canon.ite ?_ ?_
            · refine State.emit_canon _ _ ?_
              refine State.event_canon _ _ _ _ ?_
              exact hx4
            · exact hx3
          · refine Canon.ite ?_ ?_
            · refine State.event_canon _ _ _ _ ?_
              refine State.put_canon _ _ _ _ _ ?_
              exact hx6
            · exact hx6

theorem execUnexpLightJudge_canon (p : Fin 64) (c : Fin 2) (env : Envelope) (s : State) (h3 : State.Canon (s)) :
    Res.Canon (execUnexpLightJudge p c env s) := by
  unfold execUnexpLightJudge
  refine live_canon _ _ ?_ ?_
  · exact h3
  · intro _ g0
    extract_lets -merge x1 x2 x3 x4 x5 x6 x7 x8 x9 x10
    have hx5 : State.Canon (x5) := by
      refine State.updCh_canon _ _ _ _ ?_
      exact g0
    have hx6 : State.Canon (x6) := by
      refine State.bump_canon _ _ _ _ ?_
      exact hx5
    have hx7 : State.Canon (x7) := by
      refine State.updCh_canon _ _ _ _ ?_
      exact hx6
    have hx8 : State.Canon (x8) := by
      refine State.updAct_canon _ _ _ _ ?_
      exact hx7
    have hx9 : State.Canon (x9) := by
      refine State.event_canon _ _ _ _ ?_
      refine State.put_canon _ _ _ _ _ ?_
      exact hx8
    have hx10 : State.Canon (x10) := by
      refine State.updCh_canon _ _ _ _ ?_
      exact hx5
    refine Canon.ite ?_ ?_
    · exact hx5
    · refine Canon.ite ?_ ?_
      · refine Canon.ite ?_ ?_
        · refine State.unexpTaken_canon _ _ _ ?_
          refine State.updCh_canon _ _ _ _ ?_
          exact hx9
        · exact hx8
      · refine Canon.ite ?_ ?_
        · refine State.event_canon _ _ _ _ ?_
          refine State.put_canon _ _ _ _ _ ?_
          exact hx10
        · exact hx10

end Sys2Proof.Machine
end

