-- ==== Sys2Proof/Laws/CanonTwinOps.lean ====
section
/-! SUPPORT. The definitions of TwinOps keep the object store canonical. -/

namespace Sys2Proof.Machine

theorem State.sendFeeder_canon (s : State) (h0 : State.Canon (s)) :
    State.Canon (State.sendFeeder s) := by
  unfold State.sendFeeder
  refine Canon.ite ?_ ?_
  · refine State.ctrl_canon _ _ _ _ ?_
    exact h0
  · exact h0

theorem State.sendMirror_canon (s : State) (k : Nat) (l : List MirEntry) (h0 : State.Canon (s)) :
    State.Canon (State.sendMirror s k l) := by
  unfold State.sendMirror
  extract_lets -merge x0
  refine State.emit_canon _ _ ?_
  refine State.ctrlBytes_canon _ _ _ _ _ ?_
  exact h0

theorem State.sendCommit_canon (s : State) (k : Nat) (l : List MirEntry) (h0 : State.Canon (s)) :
    State.Canon (State.sendCommit s k l) := by
  unfold State.sendCommit
  refine State.ctrl_canon _ _ _ _ ?_
  exact h0

theorem State.commitGroup_canon (s : State) (k : Nat) (h0 : State.Canon (s)) :
    State.Canon (State.commitGroup s k) := by
  unfold State.commitGroup
  extract_lets -merge x0 x1 x2 x3 x4
  have hx2 : State.Canon (x2) := by
    refine Canon.ite ?_ ?_
    · exact h0
    · refine State.sendMirror_canon _ _ _ ?_
      exact h0
  have hx3 : State.Canon (x3) := by
    refine State.sendCommit_canon _ _ _ ?_
    exact hx2
  have hx4 : State.Canon (x4) := by
    refine Canon.ite ?_ ?_
    · refine State.ctrl_canon _ _ _ _ ?_
      exact hx3
    · exact hx3
  refine Canon.ite ?_ ?_
  · exact h0
  · refine State.setTwin_canon _ _ ?_
    exact hx4

theorem State.countOperating_canon (s : State) (h0 : State.Canon (s)) :
    State.Canon (State.countOperating s) := by
  unfold State.countOperating
  extract_lets -merge x0 x1
  have hx1 : State.Canon (x1) := by
    refine Canon.foldl ?_ ?_
    · intro _ _ g2
      refine Canon.ite ?_ ?_
      · refine State.put_canon _ _ _ _ _ ?_
        exact g2
      · exact g2
    · exact h0
  refine State.put_canon _ _ _ _ _ ?_
  refine State.put_canon _ _ _ _ _ ?_
  exact hx1

theorem State.mirrorApply_canon (s : State) (e : MirEntry) (h0 : State.Canon (s)) :
    State.Canon (State.mirrorApply s e) := by
  unfold State.mirrorApply
  split
  · refine State.place_canon _ _ _ ?_
    exact h0
  · refine Canon.mk_iff.mpr ?_
    refine State.Canon.od ?_
    exact h0
  · refine State.updGrant_canon _ _ _ _ ?_
    exact h0
  · refine State.updGrant_canon _ _ _ _ ?_
    exact h0
  · refine State.updGrant_canon _ _ _ _ ?_
    exact h0
  · refine State.updAct_canon _ _ _ _ ?_
    exact h0
  · refine State.updOnuF_canon _ _ _ ?_
    exact h0
  · refine State.updFr_canon _ _ _ _ ?_
    exact h0

theorem State.groupApply_canon (s : State) (k : Nat) (l : List MirEntry) (h0 : State.Canon (s)) :
    State.Canon (State.groupApply s k l) := by
  unfold State.groupApply
  extract_lets -merge x0 x1 x2 x3 x4
  have hx0 : State.Canon (x0) := by
    refine State.countOperating_canon _ ?_
    refine Canon.foldl ?_ ?_
    · intro _ _ g5
      refine State.mirrorApply_canon _ _ ?_
      exact g5
    · exact h0
  have hx1 : State.Canon (x1) := by
    refine State.bump_canon _ _ _ _ ?_
    refine State.put_canon _ _ _ _ _ ?_
    exact hx0
  have hx4 : State.Canon (x4) := by
    refine Canon.mk_iff.mpr ?_
    refine State.Canon.od ?_
    exact hx1
  refine State.setTwin_canon _ _ ?_
  exact hx4

theorem State.groupsFollow_canon (s : State) (n : Nat) (h0 : State.Canon s) : State.Canon (State.groupsFollow s n) := by
  induction n generalizing s with
  | zero => exact h0
  | succ n ih =>
    unfold State.groupsFollow
    split
    · exact h0
    · split
      · exact ih _ (State.groupApply_canon _ _ _ h0)
      · exact h0

theorem State.setSent_canon (s : State) (n : Nat) (h0 : State.Canon (s)) :
    State.Canon (State.setSent s n) := by
  unfold State.setSent
  refine State.setTwin_canon _ _ ?_
  exact h0

theorem State.sendMapSet_canon (s : State) (k : Nat) (h0 : State.Canon (s)) :
    State.Canon (State.sendMapSet s k) := by
  unfold State.sendMapSet
  extract_lets -merge x0
  refine Canon.ite ?_ ?_
  · exact h0
  · refine State.setSent_canon _ _ ?_
    refine State.ctrlBytes_canon _ _ _ _ _ ?_
    exact h0

theorem State.sendSpanSet_canon (s : State) (k : Nat) (h0 : State.Canon (s)) :
    State.Canon (State.sendSpanSet s k) := by
  unfold State.sendSpanSet
  extract_lets -merge x0
  refine State.setSent_canon _ _ ?_
  refine State.ctrlBytes_canon _ _ _ _ _ ?_
  exact h0

theorem State.sendSpanSets_canon (s : State) (n : Nat) (h0 : State.Canon s) : State.Canon (State.sendSpanSets s n) := by
  induction n generalizing s with
  | zero => exact h0
  | succ n ih =>
    unfold State.sendSpanSets
    extract_lets k done
    split
    · exact ih _ (State.setTwin_canon _ _ (State.sendSpanSet_canon _ _ h0))
    · exact h0

theorem State.streamNumber_canon (s : State) (p : Nat) (a2 : Nat) (startPs : Nat) (data : List Nat) (h0 : State.Canon (s)) :
    State.Canon (State.streamNumber s p a2 startPs data).2.2 := by
  unfold State.streamNumber
  extract_lets -merge x0 x1 x2 x3 x4 x5 x6 x7 x8 x9 x10
  have hx2 : State.Canon (x2) := by
    refine State.rput_canon _ _ _ _ _ ?_
    exact h0
  have hx5 : State.Canon (x5) := by
    refine State.setTwin_canon _ _ ?_
    exact hx2
  have hx10 : State.Canon (x10) := by
    refine State.setTwin_canon _ _ ?_
    exact hx5
  refine Canon.ite3 ?_ ?_
  · refine Canon.pair3 ?_
    exact hx5
  · refine Canon.ite3 ?_ ?_
    · refine Canon.pair3 ?_
      refine State.bump_canon _ _ _ _ ?_
      exact hx10
    · refine Canon.pair3 ?_
      exact hx10

end Sys2Proof.Machine
end

