-- ==== Sys2Proof/Laws/CanonFramerOps.lean ====
section
/-! SUPPORT. The definitions of FramerOps keep the object store canonical. -/

namespace Sys2Proof.Machine

theorem State.unstage_canon (s : State) (p : Nat) (c : Nat) (q : Pkt) (h0 : State.Canon (s)) :
    State.Canon (State.unstage s p c q) := by
  unfold State.unstage
  refine State.bufDrop_canon _ _ _ _ ?_
  refine State.updFr_canon _ _ _ _ ?_
  exact h0

theorem Fill.step_canon (w : Fill) (p c k : Nat) (h0 : State.Canon w.s) :
    ∀ y, w.step p c k = some y → State.Canon y.s := by
  intro y hy
  unfold Fill.step at hy
  dsimp only at hy
  split at hy
  · cases hy
  · split at hy
    · cases hy; exact State.unstage_canon _ _ _ _ (State.bump_canon _ _ _ _ h0)
    · split at hy
      · cases hy; exact State.unstage_canon _ _ _ _ (State.bump_canon _ _ _ _ h0)
      · split at hy
        · cases hy; exact State.unstage_canon _ _ _ _ (State.bump_canon _ _ _ _ h0)
        · split at hy
          · cases hy
            exact State.unstage_canon _ _ _ _ (State.bump_canon _ _ _ _
              (State.rbumpBy_canon _ _ _ _ _ (State.rbump_canon _ _ _ _ h0)))
          · split at hy
            · cases hy; exact State.updFr_canon _ _ _ _ (State.bump_canon _ _ _ _ h0)
            · cases hy

theorem Fill.run_canon (p c k n : Nat) (w : Fill) (h4 : State.Canon w.s) : State.Canon (Fill.run p c k n w).s := by
  induction n generalizing w with
  | zero => exact h4
  | succ n ih =>
    unfold Fill.run
    split
    · exact h4
    · split
      · exact ih _ (Fill.step_canon _ _ _ _ h4 _ (by assumption))
      · exact h4

theorem State.historyPut_canon (s : State) (h : Nat) (objs : List Obj) (vals : List Int) (h0 : State.Canon (s)) :
    State.Canon (State.historyPut s h objs vals) := by
  unfold State.historyPut
  extract_lets -merge x0
  have hx0 : State.Canon (x0) := by
    refine State.ddrAccess_canon _ _ _ ?_
    exact h0
  refine Canon.foldl ?_ ?_
  · intro _ _ g1
    refine State.rput_canon _ _ _ _ _ ?_
    exact g1
  · exact hx0

theorem State.historyFlush_canon (s : State) (h0 : State.Canon (s)) :
    State.Canon (State.historyFlush s) := by
  unfold State.historyFlush
  refine Canon.foldl ?_ ?_
  · intro _ _ g0
    extract_lets -merge x1
    have hx1 : State.Canon (x1) := by
      refine Canon.foldl ?_ ?_
      · intro _ _ g2
        refine State.historyPut_canon _ _ _ _ ?_
        exact g2
      · exact g0
    refine Canon.ite ?_ ?_
    · exact hx1
    · refine State.updOnuF_canon _ _ _ ?_
      exact hx1
  · exact h0

theorem State.installKey_canon (s : State) (r : Nat) (key : Nat) (h0 : State.Canon (s)) :
    State.Canon (State.installKey s r key) := by
  unfold State.installKey
  extract_lets -merge x0 x1 x2 x3 x4 x5 x6
  have hx4 : State.Canon (x4) := by
    refine State.updOnuF_canon _ _ _ ?_
    exact h0
  have hx6 : State.Canon (x6) := by
    refine State.rput_canon _ _ _ _ _ ?_
    exact hx4
  refine State.bump_canon _ _ _ _ ?_
  exact hx6

theorem State.keyFail_canon (s : State) (r : Nat) (h0 : State.Canon (s)) :
    State.Canon (State.keyFail s r) := by
  unfold State.keyFail
  extract_lets -merge x0 x1 x2
  have hx0 : State.Canon (x0) := by
    refine State.bump_canon _ _ _ _ ?_
    exact h0
  have hx2 : State.Canon (x2) := by
    refine State.updOnuF_canon _ _ _ ?_
    exact hx0
  refine Canon.ite ?_ ?_
  · refine State.event_canon _ _ _ _ ?_
    exact hx2
  · exact hx2

theorem State.latchKeys_canon (s : State) (p : Nat) (c : Nat) (k : Nat) (h0 : State.Canon (s)) :
    State.Canon (State.latchKeys s p c k) := by
  unfold State.latchKeys
  extract_lets -merge x0
  have hx0 : State.Canon (x0) := by
    refine Canon.foldl ?_ ?_
    · intro _ _ g1
      extract_lets -merge x2
      have hx2 : State.Canon (x2) := by
        refine State.updOnuF_canon _ _ _ ?_
        exact g1
      split
      · refine Canon.ite ?_ ?_
        · refine State.rput_canon _ _ _ _ _ ?_
          refine State.rbump_canon _ _ _ _ ?_
          refine State.rput_canon _ _ _ _ _ ?_
          exact hx2
        · exact g1
      · exact g1
    · exact h0
  split
  · refine Canon.ite ?_ ?_
    · refine State.updFr_canon _ _ _ _ ?_
      exact hx0
    · exact hx0
  · exact hx0

theorem State.omciSend_canon (s : State) (r : Nat) (body : List Nat) (h0 : State.Canon (s)) :
    State.Canon (State.omciSend s r body) := by
  unfold State.omciSend
  extract_lets -merge x0
  split
  · exact h0
  · extract_lets -merge x1
    refine State.updFr_canon _ _ _ _ ?_
    exact h0

theorem State.omciNext_canon (s : State) (r : Nat) (prio : Nat) (h0 : State.Canon (s)) :
    State.Canon (State.omciNext s r prio) := by
  unfold State.omciNext
  split
  · exact h0
  · refine State.omciSend_canon _ _ _ ?_
    refine State.updOnuF_canon _ _ _ ?_
    exact h0

theorem State.omciPop_canon (s : State) (r : Nat) (prio : Nat) (h0 : State.Canon (s)) :
    State.Canon (State.omciPop s r prio) := by
  unfold State.omciPop
  extract_lets -merge x0
  have hx0 : State.Canon (x0) := by
    refine State.updOnuF_canon _ _ _ ?_
    exact h0
  refine State.omciCount_canon _ _ ?_
  refine State.omciNext_canon _ _ _ ?_
  exact hx0

theorem State.ploamPost_canon (s : State) (p : Nat) (c : Nat) (m : Ploam) (h0 : State.Canon (s)) :
    State.Canon (State.ploamPost s p c m).2 := by
  unfold State.ploamPost
  refine Canon.ite2 ?_ ?_
  · refine Canon.pair ?_
    refine State.bump_canon _ _ _ _ ?_
    exact h0
  · refine Canon.pair ?_
    refine State.updFr_canon _ _ _ _ ?_
    exact h0

theorem State.reasmFail_canon (s : State) (p : Nat) (c : Nat) (a3 : Nat) (st : Nat) (h0 : State.Canon (s)) :
    State.Canon (State.reasmFail s p c a3 st) := by
  unfold State.reasmFail
  extract_lets -merge x0
  have hx0 : State.Canon (x0) := by
    refine State.rbump_canon _ _ _ _ ?_
    refine State.bump_canon _ _ _ _ ?_
    exact h0
  refine Canon.mk_iff.mpr ?_
  refine State.Canon.od ?_
  exact hx0

theorem State.reasmExpire_canon (s : State) (p : Nat) (c : Nat) (a3 : Nat) (h0 : State.Canon (s)) :
    State.Canon (State.reasmExpire s p c a3) := by
  unfold State.reasmExpire
  extract_lets -merge x0
  refine Canon.ite ?_ ?_
  · refine State.reasmFail_canon _ _ _ _ _ ?_
    exact h0
  · exact h0

theorem State.usPacket_canon (s : State) (p : Nat) (c : Nat) (r : Nat) (a4 : Nat) (start : Nat) (data : List Nat) (h0 : State.Canon (s)) :
    State.Canon (State.usPacket s p c r a4 start data) := by
  unfold State.usPacket
  extract_lets -merge x0 x1
  have hx0 : State.Canon (x0) := by
    refine State.rbumpBy_canon _ _ _ _ _ ?_
    refine State.rbump_canon _ _ _ _ ?_
    exact h0
  refine Canon.ite ?_ ?_
  · refine State.bump_canon _ _ _ _ ?_
    exact h0
  · refine Canon.ite ?_ ?_
    · exact hx0
    · refine Canon.ite ?_ ?_
      · split
        · have g2 := Canon.of_thd (by assumption) (by
            refine State.streamNumber_canon _ _ _ _ _ ?_
            exact hx0
            )
          exact g2
        · have g3 := Canon.of_thd (by assumption) (by
            refine State.streamNumber_canon _ _ _ _ _ ?_
            exact hx0
            )
          refine State.arrive_canon _ _ _ ?_
          exact g3
      · refine Canon.ite ?_ ?_
        · refine State.bump_canon _ _ _ _ ?_
          exact hx0
        · refine State.arrive_canon _ _ _ ?_
          exact hx0

end Sys2Proof.Machine
end

