-- ==== Sys2Proof/Laws/CanonTimeOps.lean ====
section
/-! SUPPORT. The definitions of TimeOps keep the object store canonical. -/

namespace Sys2Proof.Machine

theorem State.setTime_canon (s : State) (f : TimeX → TimeX) (h0 : State.Canon (s)) :
    State.Canon (State.setTime s f) := by
  unfold State.setTime
  refine Canon.mk_iff.mpr ?_
  refine State.Canon.od ?_
  exact h0

theorem State.updSync_canon (s : State) (k : Nat) (f : SyncX → SyncX) (h0 : State.Canon (s)) :
    State.Canon (State.updSync s k f) := by
  unfold State.updSync
  refine State.setTime_canon _ _ ?_
  exact h0

theorem State.setFreq_canon (s : State) (v : Int) (h0 : State.Canon (s)) :
    State.Canon (State.setFreq s v) := by
  unfold State.setFreq
  extract_lets -merge x0 x1
  refine State.setTime_canon _ _ ?_
  exact h0

theorem State.holdRate_canon (s : State) (h0 : State.Canon (s)) :
    State.Canon (State.holdRate s) := by
  unfold State.holdRate
  extract_lets -merge x0 x1 x2
  refine Canon.ite ?_ ?_
  · split
    · have g3 := Canon.of_snd (by assumption) (by
        refine State.draw_canon _ ?_
        exact h0
        )
      refine State.setFreq_canon _ _ ?_
      exact g3
  · refine Canon.ite ?_ ?_
    · refine State.setFreq_canon _ _ ?_
      exact h0
    · exact h0

theorem State.syncSelect_canon (s : State) (k : Nat) (h0 : State.Canon (s)) :
    State.Canon (State.syncSelect s k) := by
  unfold State.syncSelect
  extract_lets -merge x0 x1 x2
  have hx0 : State.Canon (x0) := by
    refine State.bump_canon _ _ _ _ ?_
    refine State.put_canon _ _ _ _ _ ?_
    exact h0
  have hx1 : State.Canon (x1) := by
    refine State.put_canon _ _ _ _ _ ?_
    exact hx0
  have hx2 : State.Canon (x2) := by
    refine State.event_canon _ _ _ _ ?_
    exact hx1
  refine Canon.ite ?_ ?_
  · refine State.put_canon _ _ _ _ _ ?_
    exact h0
  · refine Canon.ite ?_ ?_
    · refine State.holdRate_canon _ ?_
      exact hx2
    · exact hx2

theorem State.syncRefresh_canon (s : State) (h0 : State.Canon (s)) :
    State.Canon (State.syncRefresh s) := by
  unfold State.syncRefresh
  extract_lets -merge x0 x1 x2 x3 x4 x5 x6
  have hx1 : State.Canon (x1) := by
    refine Canon.foldl ?_ ?_
    · intro _ _ g7
      extract_lets -merge x8 x9 x10 x11 x12
      have hx12 : State.Canon (x12) := by
        refine State.updSync_canon _ _ _ ?_
        exact g7
      refine State.put_canon _ _ _ _ _ ?_
      refine State.put_canon _ _ _ _ _ ?_
      exact hx12
    · exact h0
  have hx4 : State.Canon (x4) := by
    refine Canon.ite ?_ ?_
    · refine State.emit_canon _ _ ?_
      exact hx1
    · exact hx1
  have hx5 : State.Canon (x5) := by
    refine Canon.ite ?_ ?_
    · refine State.emit_canon _ _ ?_
      exact hx4
    · exact hx4
  have hx6 : State.Canon (x6) := by
    refine State.setTime_canon _ _ ?_
    exact hx5
  refine Canon.ite ?_ ?_
  · refine State.put_canon _ _ _ _ _ ?_
    refine State.setTime_canon _ _ ?_
    exact hx6
  · refine State.syncSelect_canon _ _ ?_
    refine State.setTime_canon _ _ ?_
    exact hx6

theorem State.updPtp_canon (s : State) (k : Nat) (f : PtpX → PtpX) (h0 : State.Canon (s)) :
    State.Canon (State.updPtp s k f) := by
  unfold State.updPtp
  refine State.setTime_canon _ _ ?_
  exact h0

theorem State.setServo_canon (s : State) (st : Nat) (h0 : State.Canon (s)) :
    State.Canon (State.setServo s st) := by
  unfold State.setServo
  extract_lets -merge x0 x1 x2 x3
  have hx1 : State.Canon (x1) := by
    refine State.event_canon _ _ _ _ ?_
    refine State.put_canon _ _ _ _ _ ?_
    exact h0
  have hx2 : State.Canon (x2) := by
    refine State.setTime_canon _ _ ?_
    exact hx1
  have hx3 : State.Canon (x3) := by
    refine Canon.ite ?_ ?_
    · refine State.emit_canon _ _ ?_
      exact hx2
    · exact hx2
  refine Canon.ite ?_ ?_
  · exact h0
  · refine Canon.ite ?_ ?_
    · refine State.holdRate_canon _ ?_
      exact hx3
    · exact hx3

theorem State.sourceLost_canon (s : State) (h0 : State.Canon (s)) :
    State.Canon (State.sourceLost s) := by
  unfold State.sourceLost
  extract_lets -merge x0
  have hx0 : State.Canon (x0) := by
    refine State.setTime_canon _ _ ?_
    exact h0
  split
  · refine Canon.ite ?_ ?_
    · refine State.setServo_canon _ _ ?_
      exact hx0
    · refine State.setServo_canon _ _ ?_
      exact hx0
  · refine State.setServo_canon _ _ ?_
    exact hx0
  · exact hx0

theorem State.bmca_canon (s : State) (h0 : State.Canon (s)) :
    State.Canon (State.bmca s) := by
  unfold State.bmca
  extract_lets -merge x0 x1 x2 x3 x4 x5 x6 x7 x8 x9
  have hx4 : State.Canon (x4) := by
    refine Canon.foldl ?_ ?_
    · intro _ _ g10
      extract_lets -merge x11
      have hx11 : State.Canon (x11) := by
        refine Canon.ite ?_ ?_
        · refine State.updPtp_canon _ _ _ ?_
          exact g10
        · exact g10
      refine State.put_canon _ _ _ _ _ ?_
      exact hx11
    · exact h0
  have hx5 : State.Canon (x5) := by
    refine Canon.ite ?_ ?_
    · refine State.sourceLost_canon _ ?_
      exact hx4
    · exact hx4
  have hx8 : State.Canon (x8) := by
    refine State.put_canon _ _ _ _ _ ?_
    refine State.put_canon _ _ _ _ _ ?_
    refine State.put_canon _ _ _ _ _ ?_
    exact hx5
  have hx9 : State.Canon (x9) := by
    refine State.setTime_canon _ _ ?_
    exact hx8
  refine Canon.ite ?_ ?_
  · refine State.event_canon _ _ _ _ ?_
    exact hx9
  · exact hx9

theorem State.linkChanged_canon (s : State) (h0 : State.Canon (s)) :
    State.Canon (State.linkChanged s) := by
  unfold State.linkChanged
  refine State.syncRefresh_canon _ ?_
  refine State.bmca_canon _ ?_
  exact h0

theorem State.sourceValid_canon (s : State) (h0 : State.Canon (s)) :
    State.Canon (State.sourceValid s) := by
  unfold State.sourceValid
  split
  · refine State.setServo_canon _ _ ?_
    exact h0
  · refine State.setServo_canon _ _ ?_
    exact h0
  · refine State.setServo_canon _ _ ?_
    exact h0
  · exact h0

theorem State.ptpMeasure_canon (s : State) (k : Nat) (t1 : Int) (t2 : Int) (h0 : State.Canon (s)) :
    State.Canon (State.ptpMeasure s k t1 t2) := by
  unfold State.ptpMeasure
  extract_lets -merge x0 x1 x2 x3
  have hx0 : State.Canon (x0) := by
    refine State.updPtp_canon _ _ _ ?_
    exact h0
  have hx2 : State.Canon (x2) := by
    refine Canon.ite ?_ ?_
    · refine State.put_canon _ _ _ _ _ ?_
      exact hx0
    · exact hx0
  have hx3 : State.Canon (x3) := by
    refine State.sourceValid_canon _ ?_
    exact hx2
  refine Canon.ite ?_ ?_
  · exact hx0
  · refine Canon.ite ?_ ?_
    · refine State.setTime_canon _ _ ?_
      exact hx3
    · exact hx2

theorem State.servoSet_canon (s : State) (th : Int) (h0 : State.Canon (s)) :
    State.Canon (State.servoSet s th) := by
  unfold State.servoSet
  extract_lets -merge x0 x1 x2
  refine State.setFreq_canon _ _ ?_
  refine Canon.mk_iff.mpr ?_
  refine State.Canon.od ?_
  exact h0

theorem State.todAll_canon (s : State) (h0 : State.Canon (s)) :
    State.Canon (State.todAll s) := by
  unfold State.todAll
  refine Canon.foldl ?_ ?_
  · intro _ _ g0
    extract_lets -merge x1
    refine State.put_canon _ _ _ _ _ ?_
    refine State.put_canon _ _ _ _ _ ?_
    exact g0
  · exact h0

theorem State.stepTo_canon (s : State) (t : Nat) (theta : Int) (h0 : State.Canon (s)) :
    State.Canon (State.stepTo s t theta) := by
  unfold State.stepTo
  extract_lets -merge x0 x1 x2 x3 x4 x5 x6 x7 x8
  have hx3 : State.Canon (x3) := by
    refine Canon.ite ?_ ?_
    · refine State.put_canon _ _ _ _ _ ?_
      exact h0
    · exact h0
  have hx5 : State.Canon (x5) := by
    refine Canon.mk_iff.mpr ?_
    refine State.Canon.od ?_
    exact hx3
  have hx6 : State.Canon (x6) := by
    refine State.put_canon _ _ _ _ _ ?_
    refine Canon.mk_iff.mpr ?_
    refine State.Canon.od ?_
    exact hx5
  have hx7 : State.Canon (x7) := by
    refine State.setTime_canon _ _ ?_
    exact hx6
  have hx8 : State.Canon (x8) := by
    refine State.event_canon _ _ _ _ ?_
    refine State.bump_canon _ _ _ _ ?_
    exact hx7
  refine State.todAll_canon _ ?_
  refine State.bump_canon _ _ _ _ ?_
  exact hx8

end Sys2Proof.Machine
end

