-- ==== Sys2Proof/Laws/CanonUplOps.lean ====
section
/-! SUPPORT. The definitions of UplOps keep the object store canonical. -/

namespace Sys2Proof.Machine

theorem State.updMac_canon (s : State) (i : Nat) (f : MacX → MacX) (h0 : State.Canon (s)) :
    State.Canon (State.updMac s i f) := by
  unfold State.updMac
  extract_lets -merge x0
  refine Canon.mk_iff.mpr ?_
  refine State.Canon.od ?_
  exact h0

theorem State.refreshCap_canon (s : State) (h0 : State.Canon (s)) :
    State.Canon (State.refreshCap s) := by
  unfold State.refreshCap
  extract_lets -merge x0 x1 x2 x3
  have hx1 : State.Canon (x1) := by
    refine State.put_canon _ _ _ _ _ ?_
    exact h0
  refine Canon.ite ?_ ?_
  · refine Canon.mk_iff.mpr ?_
    refine State.Canon.od ?_
    exact hx1
  · refine Canon.mk_iff.mpr ?_
    refine State.Canon.od ?_
    exact hx1

theorem State.refreshLink_canon (s : State) (i : Nat) (h0 : State.Canon (s)) :
    State.Canon (State.refreshLink s i) := by
  unfold State.refreshLink
  extract_lets -merge x0 x1 x2 x3 x4 x5 x6 x7
  have hx4 : State.Canon (x4) := by
    refine Canon.ite ?_ ?_
    · refine State.emit_canon _ _ ?_
      exact h0
    · refine Canon.ite ?_ ?_
      · refine State.emit_canon _ _ ?_
        exact h0
      · exact h0
  have hx5 : State.Canon (x5) := by
    refine State.put_canon _ _ _ _ _ ?_
    refine State.put_canon _ _ _ _ _ ?_
    exact hx4
  have hx6 : State.Canon (x6) := by
    refine Canon.ite ?_ ?_
    · refine State.event_canon _ _ _ _ ?_
      refine State.bump_canon _ _ _ _ ?_
      exact hx5
    · exact hx5
  have hx7 : State.Canon (x7) := by
    refine State.refreshCap_canon _ ?_
    exact hx6
  refine Canon.ite ?_ ?_
  · exact hx7
  · refine State.linkChanged_canon _ ?_
    exact hx7

theorem State.groupLinks_canon (s : State) (g : Nat) (h0 : State.Canon (s)) :
    State.Canon (State.groupLinks s g) := by
  unfold State.groupLinks
  refine Canon.foldl ?_ ?_
  · intro _ _ g0
    refine State.refreshLink_canon _ _ ?_
    exact g0
  · exact h0

theorem State.groupStop_canon (s : State) (g : Nat) (h0 : State.Canon (s)) :
    State.Canon (State.groupStop s g) := by
  unfold State.groupStop
  extract_lets -merge x0 x1
  have hx0 : State.Canon (x0) := by
    refine Canon.ite ?_ ?_
    · exact h0
    · refine State.emit_canon _ _ ?_
      refine State.put_canon _ _ _ _ _ ?_
      exact h0
  have hx1 : State.Canon (x1) := by
    refine Canon.foldl ?_ ?_
    · intro _ _ g2
      refine State.updMac_canon _ _ _ ?_
      exact g2
    · exact hx0
  refine State.groupLinks_canon _ _ ?_
  exact hx1

theorem State.updUplG_canon (s : State) (g : Nat) (f : UplG → UplG) (h0 : State.Canon (s)) :
    State.Canon (State.updUplG s g f) := by
  unfold State.updUplG
  extract_lets -merge x0
  refine Canon.mk_iff.mpr ?_
  refine State.Canon.od ?_
  exact h0

theorem State.updOtn_canon (s : State) (e : Nat) (f : OtnX → OtnX) (h0 : State.Canon (s)) :
    State.Canon (State.updOtn s e f) := by
  unfold State.updOtn
  extract_lets -merge x0
  refine Canon.mk_iff.mpr ?_
  refine State.Canon.od ?_
  exact h0

theorem State.groupStart_canon (s : State) (g : Nat) (h0 : State.Canon (s)) :
    State.Canon (State.groupStart s g) := by
  unfold State.groupStart
  extract_lets -merge x0 x1
  have hx0 : State.Canon (x0) := by
    refine State.updUplG_canon _ _ _ ?_
    refine State.put_canon _ _ _ _ _ ?_
    exact h0
  refine Canon.foldl ?_ ?_
  · intro _ _ g2
    refine State.updOtn_canon _ _ _ ?_
    exact g2
  · exact hx0

theorem State.groupEnable_canon (s : State) (g : Nat) (on : Bool) (h0 : State.Canon (s)) :
    State.Canon (State.groupEnable s g on).2 := by
  unfold State.groupEnable
  extract_lets -merge x0 x1
  have hx1 : State.Canon (x1) := by
    refine State.putK_canon _ _ _ _ _ ?_
    exact h0
  refine Canon.ite2 ?_ ?_
  · refine Canon.pair ?_
    exact h0
  · refine Canon.ite2 ?_ ?_
    · refine Canon.pair ?_
      exact h0
    · refine Canon.ite2 ?_ ?_
      · refine Canon.pair ?_
        refine State.groupStop_canon _ _ ?_
        exact hx1
      · refine Canon.ite2 ?_ ?_
        · refine Canon.pair ?_
          exact hx1
        · refine Canon.pair ?_
          refine State.groupStart_canon _ _ ?_
          exact hx1

theorem State.setDefect_canon (s : State) (e : Nat) (bit : Nat) (v : Bool) (h0 : State.Canon (s)) :
    State.Canon (State.setDefect s e bit v) := by
  unfold State.setDefect
  refine State.put_canon _ _ _ _ _ ?_
  exact h0

theorem State.refreshMember_canon (s : State) (i : Nat) (h0 : State.Canon (s)) :
    State.Canon (State.refreshMember s i) := by
  unfold State.refreshMember
  extract_lets -merge x0
  have hx0 : State.Canon (x0) := by
    refine State.refreshLink_canon _ _ ?_
    exact h0
  split
  · refine State.refreshLink_canon _ _ ?_
    exact hx0
  · exact hx0

theorem State.updProt_canon (s : State) (j : Nat) (f : ProtX → ProtX) (h0 : State.Canon (s)) :
    State.Canon (State.updProt s j f) := by
  unfold State.updProt
  extract_lets -merge x0
  refine Canon.mk_iff.mpr ?_
  refine State.Canon.od ?_
  exact h0

theorem State.protArbitrate_canon (s : State) (j : Nat) (h0 : State.Canon (s)) :
    State.Canon (State.protArbitrate s j) := by
  unfold State.protArbitrate
  extract_lets -merge x0 x1 x2 x3 x4 x5
  have hx0 : State.Canon (x0) := by
    refine Canon.ite ?_ ?_
    · refine State.updProt_canon _ _ _ ?_
      exact h0
    · exact h0
  have hx2 : State.Canon (x2) := by
    refine Canon.ite ?_ ?_
    · refine State.emit_canon _ _ ?_
      exact hx0
    · exact hx0
  have hx3 : State.Canon (x3) := by
    refine State.put_canon _ _ _ _ _ ?_
    exact hx2
  refine Canon.ite ?_ ?_
  · exact hx3
  · split
    · have g6 := Canon.of_snd (by assumption) (by
        refine State.draw_canon _ ?_
        exact hx3
        )
      extract_lets -merge x7 x8 x9 x10
      have hx7 : State.Canon (x7) := by
        refine State.bump_canon _ _ _ _ ?_
        refine State.put_canon _ _ _ _ _ ?_
        exact g6
      have hx8 : State.Canon (x8) := by
        refine State.put_canon _ _ _ _ _ ?_
        exact hx7
      have hx10 : State.Canon (x10) := by
        refine State.event_canon _ _ _ _ ?_
        exact hx8
      refine State.refreshLink_canon _ _ ?_
      exact hx10

theorem State.protRefresh_canon (s : State) (j : Nat) (h0 : State.Canon (s)) :
    State.Canon (State.protRefresh s j) := by
  unfold State.protRefresh
  extract_lets -merge x0 x1 x2 x3 x4 x5 x6 x7 x8
  refine Canon.ite ?_ ?_
  · refine State.protArbitrate_canon _ _ ?_
    exact h0
  · refine State.protArbitrate_canon _ _ ?_
    refine State.updProt_canon _ _ _ ?_
    exact h0

theorem State.protOf_canon (s : State) (i : Nat) (h0 : State.Canon (s)) :
    State.Canon (State.protOf s i) := by
  unfold State.protOf
  split
  · refine State.protRefresh_canon _ _ ?_
    exact h0
  · exact h0

theorem State.refreshSf1_canon (s : State) (e : Nat) (h0 : State.Canon (s)) :
    State.Canon (State.refreshSf1 s e) := by
  unfold State.refreshSf1
  extract_lets -merge x0 x1 x2
  have hx1 : State.Canon (x1) := by
    refine State.emit_canon _ _ ?_
    refine State.setDefect_canon _ _ _ _ ?_
    exact h0
  have hx2 : State.Canon (x2) := by
    refine State.updOtn_canon _ _ _ ?_
    exact hx1
  refine Canon.ite ?_ ?_
  · exact h0
  · refine Canon.ite ?_ ?_
    · exact hx2
    · refine State.refreshMember_canon _ _ ?_
      refine State.protOf_canon _ _ ?_
      exact hx2

theorem State.refreshSf_canon (s : State) (e : Nat) (h0 : State.Canon (s)) :
    State.Canon (State.refreshSf s e) := by
  unfold State.refreshSf
  extract_lets -merge x0
  have hx0 : State.Canon (x0) := by
    refine State.refreshSf1_canon _ _ ?_
    exact h0
  refine Canon.ite ?_ ?_
  · refine Canon.foldl ?_ ?_
    · intro _ _ g1
      refine State.refreshSf1_canon _ _ ?_
      exact g1
    · exact hx0
  · exact hx0

theorem State.timEval_canon (s : State) (e : Nat) (h0 : State.Canon (s)) :
    State.Canon (State.timEval s e) := by
  unfold State.timEval
  extract_lets -merge x0 x1 x2 x3
  have hx2 : State.Canon (x2) := by
    refine State.setDefect_canon _ _ _ _ ?_
    exact h0
  have hx3 : State.Canon (x3) := by
    refine Canon.ite ?_ ?_
    · refine State.event_canon _ _ _ _ ?_
      exact hx2
    · exact hx2
  refine State.refreshSf_canon _ _ ?_
  exact hx3

theorem State.otnRoll_canon (s : State) (e : Nat) (k : Nat) (len : Nat) (start : Obj) (cur : List Obj) (prev : List Obj) (h0 : State.Canon (s)) :
    State.Canon (State.otnRoll s e k len start cur prev) := by
  unfold State.otnRoll
  extract_lets -merge x0 x1 x2 x3 x4
  have hx3 : State.Canon (x3) := by
    refine Canon.foldl ?_ ?_
    · intro _ _ g5
      refine State.put_canon _ _ _ _ _ ?_
      refine State.put_canon _ _ _ _ _ ?_
      exact g5
    · exact h0
  have hx4 : State.Canon (x4) := by
    refine State.put_canon _ _ _ _ _ ?_
    exact hx3
  refine Canon.ite ?_ ?_
  · exact h0
  · refine Canon.ite ?_ ?_
    · refine State.updOtn_canon _ _ _ ?_
      exact hx4
    · exact hx4

theorem State.otnTca_canon (s : State) (e : Nat) (code : Nat) (th : Obj) (cnt : Obj) (done : Bool) (h0 : State.Canon (s)) :
    State.Canon (State.otnTca s e code th cnt done).2 := by
  unfold State.otnTca
  extract_lets -merge x0
  refine Canon.ite2 ?_ ?_
  · refine Canon.pair ?_
    exact h0
  · refine Canon.pair ?_
    refine State.event_canon _ _ _ _ ?_
    exact h0

theorem State.otnCommit_canon (s : State) (e : Nat) (k : Nat) (h0 : State.Canon (s)) :
    State.Canon (State.otnCommit s e k) := by
  unfold State.otnCommit
  extract_lets -merge x0 x1
  have hx0 : State.Canon (x0) := by
    refine State.otnRoll_canon _ _ _ _ _ _ _ ?_
    exact h0
  have hx1 : State.Canon (x1) := by
    refine State.otnRoll_canon _ _ _ _ _ _ _ ?_
    exact hx0
  split
  · exact h0
  · extract_lets -merge x2 x3 x4
    have hx3 : State.Canon (x3) := by
      refine Canon.foldl ?_ ?_
      · intro _ _ g5
        refine State.bumpBy_canon _ _ _ _ _ ?_
        exact g5
      · exact hx1
    have hx4 : State.Canon (x4) := by
      refine Canon.foldl ?_ ?_
      · intro _ _ g6
        refine State.bumpBy_canon _ _ _ _ _ ?_
        exact g6
      · exact hx3
    split
    · have g7 := Canon.of_snd (by assumption) (by
        refine State.otnTca_canon _ _ _ _ _ _ ?_
        exact hx4
        )
      split
      · have g8 := Canon.of_snd (by assumption) (by
          refine State.otnTca_canon _ _ _ _ _ _ ?_
          exact g7
          )
        refine State.updOtn_canon _ _ _ ?_
        exact g8

theorem State.recover_canon (s : State) (r : Nat) (seq : Nat) (h0 : State.Canon (s)) :
    State.Canon (State.recover s r seq).2 := by
  unfold State.recover
  extract_lets -merge x0 x1 x2 x3 x4 x5 x6 x7 x8 x9
  have hx1 : ∀ y0 y1, State.Canon (y0) → State.Canon (x1 y0 y1) := by
    intro _ _ g10
    unfold x1
    extract_lets -merge x11
    refine Canon.mk_iff.mpr ?_
    refine State.Canon.od ?_
    exact g10
  have hx2 : ∀ y0, State.Canon (y0) → State.Canon (x2 y0).2 := by
    intro _ g12
    unfold x2
    refine Canon.pair ?_
    refine State.rbump_canon _ _ _ _ ?_
    exact g12
  have hx4 : State.Canon (x4) := by
    refine Canon.ite ?_ ?_
    · refine State.rbump_canon _ _ _ _ ?_
      exact h0
    · exact h0
  have hx7 : State.Canon (x7) := by
    refine State.rbumpBy_canon _ _ _ _ _ ?_
    exact hx4
  have hx8 : State.Canon (x8) := by
    refine hx1 _ _ ?_
    refine State.rput_canon _ _ _ _ _ ?_
    exact hx7
  refine Canon.ite2 ?_ ?_
  · refine hx2 _ ?_
    refine hx1 _ _ ?_
    refine State.rput_canon _ _ _ _ _ ?_
    exact hx4
  · refine Canon.ite2 ?_ ?_
    · refine Canon.pair ?_
      refine State.rbump_canon _ _ _ _ ?_
      exact hx4
    · refine Canon.ite2 ?_ ?_
      · refine hx2 _ ?_
        refine Canon.ite ?_ ?_
        · refine State.rbump_canon _ _ _ _ ?_
          exact hx8
        · exact hx8
      · refine Canon.ite2 ?_ ?_
        · refine Canon.pair ?_
          refine State.rbump_canon _ _ _ _ ?_
          exact hx4
        · refine hx2 _ ?_
          refine hx1 _ _ ?_
          refine State.rbump_canon _ _ _ _ ?_
          exact hx4

theorem State.recovery_canon (s : State) (d : List Nat) (h0 : State.Canon (s)) :
    State.Canon (State.recovery s d).2 := by
  unfold State.recovery
  extract_lets -merge x0
  split
  · split
    · refine Canon.pair ?_
      exact h0
    · refine Canon.ite2 ?_ ?_
      · refine Canon.pair ?_
        refine State.rbump_canon _ _ _ _ ?_
        exact h0
      · split
        · have g1 := Canon.of_snd (by assumption) (by
            refine State.recover_canon _ _ _ ?_
            exact h0
            )
          refine Canon.pair ?_
          exact g1
        · have g2 := Canon.of_snd (by assumption) (by
            refine State.recover_canon _ _ _ ?_
            exact h0
            )
          refine Canon.pair ?_
          exact g2

end Sys2Proof.Machine
end

