-- ==== Sys2Proof/Laws/CanonPowerOps.lean ====
section
/-! SUPPORT. The definitions of PowerOps keep the object store canonical. -/

namespace Sys2Proof.Machine

theorem State.setPower_canon (s : State) (f : Power → Power) (h0 : State.Canon (s)) :
    State.Canon (State.setPower s f) := by
  unfold State.setPower
  refine Canon.mk_iff.mpr ?_
  refine State.Canon.od ?_
  exact h0

theorem State.alertSet_canon (s : State) (b : Nat) (h0 : State.Canon (s)) :
    State.Canon (State.alertSet s b) := by
  unfold State.alertSet
  extract_lets -merge x0
  have hx0 : State.Canon (x0) := by
    refine Canon.ite ?_ ?_
    · refine State.emit_canon _ _ ?_
      exact h0
    · exact h0
  refine State.setPower_canon _ _ ?_
  exact hx0

theorem State.setJournal_canon (s : State) (f : Journal → Journal) (h0 : State.Canon (s)) :
    State.Canon (State.setJournal s f) := by
  unfold State.setJournal
  refine Canon.mk_iff.mpr ?_
  refine State.Canon.od ?_
  exact h0

theorem State.setSecu_canon (s : State) (f : Secure → Secure) (h0 : State.Canon (s)) :
    State.Canon (State.setSecu s f) := by
  unfold State.setSecu
  refine Canon.mk_iff.mpr ?_
  refine State.Canon.od ?_
  exact h0

theorem State.eraseKeys_canon (s : State) (h0 : State.Canon (s)) :
    State.Canon (State.eraseKeys s) := by
  unfold State.eraseKeys
  extract_lets -merge x0 x1
  have hx0 : State.Canon (x0) := by
    refine Canon.foldl ?_ ?_
    · intro _ _ g2
      extract_lets -merge x3
      refine State.updOnuF_canon _ _ _ ?_
      refine State.keysGone_canon _ _ ?_
      exact g2
    · exact h0
  have hx1 : State.Canon (x1) := by
    refine Canon.mk_iff.mpr ?_
    refine State.Canon.od ?_
    exact hx0
  refine State.bump_canon _ _ _ _ ?_
  refine State.setSecu_canon _ _ ?_
  exact hx1

theorem State.debugTo_canon (s : State) (level : Nat) (expiry : Nat) (h0 : State.Canon (s)) :
    State.Canon (State.debugTo s level expiry) := by
  unfold State.debugTo
  extract_lets -merge x0 x1 x2
  have hx1 : State.Canon (x1) := by
    refine State.put_canon _ _ _ _ _ ?_
    refine State.put_canon _ _ _ _ _ ?_
    exact h0
  have hx2 : State.Canon (x2) := by
    refine Canon.ite ?_ ?_
    · refine State.put_canon _ _ _ _ _ ?_
      exact hx1
    · exact hx1
  refine Canon.ite ?_ ?_
  · refine State.eraseKeys_canon _ ?_
    exact hx2
  · exact hx2

theorem State.debugEnd_canon (s : State) (level : Nat) (cause : Nat) (h0 : State.Canon (s)) :
    State.Canon (State.debugEnd s level cause) := by
  unfold State.debugEnd
  extract_lets -merge x0 x1
  have hx1 : State.Canon (x1) := by
    refine State.debugTo_canon _ _ _ ?_
    exact h0
  refine Canon.ite ?_ ?_
  · exact hx1
  · refine State.event_canon _ _ _ _ ?_
    exact hx1

theorem State.transBegin_canon (s : State) (t : Nat) (h0 : State.Canon (s)) :
    State.Canon (State.transBegin s t) := by
  unfold State.transBegin
  extract_lets -merge x0
  have hx0 : State.Canon (x0) := by
    refine State.setPower_canon _ _ ?_
    exact h0
  refine Canon.ite ?_ ?_
  · refine Canon.foldl ?_ ?_
    · intro _ _ g1
      refine State.updPipe_canon _ _ _ ?_
      exact g1
    · exact hx0
  · refine Canon.ite ?_ ?_
    · refine State.debugEnd_canon _ _ _ ?_
      refine State.eraseKeys_canon _ ?_
      exact hx0
    · exact hx0

theorem State.powerCmd_canon (s : State) (v : Nat) (h0 : State.Canon (s)) :
    State.Canon (State.powerCmd s v) := by
  unfold State.powerCmd
  extract_lets -merge x0
  refine Canon.ite ?_ ?_
  · refine State.result_canon _ _ _ _ _ _ ?_
    refine State.transBegin_canon _ _ ?_
    exact h0
  · refine State.result_canon _ _ _ _ _ _ ?_
    exact h0

theorem State.calFlush_canon (s : State) (h0 : State.Canon (s)) :
    State.Canon (State.calFlush s) := by
  unfold State.calFlush
  refine State.setJournal_canon _ _ ?_
  exact h0

theorem State.startEvents_canon (f : State) (w : Power) (h0 : State.Canon (f)) :
    State.Canon (State.startEvents f w) := by
  unfold State.startEvents
  extract_lets -merge x0
  have hx0 : State.Canon (x0) := by
    unfold x0
    split
    · refine State.event_canon _ _ _ _ ?_
      exact h0
    · exact h0
  split
  · refine State.event_canon _ _ _ _ ?_
    refine State.bump_canon _ _ _ _ ?_
    exact hx0
  · exact hx0

theorem State.startObjects_canon (f : State) (s : State) (cause : Nat) (phase : Nat) (h0 : State.Canon (f)) (h1 : State.Canon (s)) :
    State.Canon (State.startObjects f s cause phase) := by
  unfold State.startObjects
  refine State.put_canon _ _ _ _ _ ?_
  refine State.put_canon _ _ _ _ _ ?_
  refine State.put_canon _ _ _ _ _ ?_
  refine State.put_canon _ _ _ _ _ ?_
  refine State.put_canon _ _ _ _ _ ?_
  refine State.put_canon _ _ _ _ _ ?_
  refine State.put_canon _ _ _ _ _ ?_
  exact h0

theorem State.startBase_canon (s : State) (h0 : State.Canon (s)) :
    State.Canon (State.startBase s) := by
  unfold State.startBase
  extract_lets -merge x0 x1 x2
  refine Canon.mk_iff.mpr ?_
  refine Store.sorted_filter _ ?_
  refine State.Canon.od ?_
  exact h0

theorem State.freshStart_canon (s : State) (cause : Nat) (phase : Nat) (h0 : State.Canon (s)) :
    State.Canon (State.freshStart s cause phase) := by
  unfold State.freshStart
  refine State.startEvents_canon _ _ ?_
  refine State.startObjects_canon _ _ _ _ ?_ ?_
  · refine State.startBase_canon _ ?_
    exact h0
  · exact h0

theorem State.journalFold_canon (s : State) (h0 : State.Canon (s)) :
    State.Canon (State.journalFold s) := by
  unfold State.journalFold
  extract_lets -merge x0 x1
  have hx1 : State.Canon (x1) := by
    refine State.setJournal_canon _ _ ?_
    exact h0
  refine State.put_canon _ _ _ _ _ ?_
  refine Canon.mk_iff.mpr ?_
  refine State.Canon.od ?_
  exact hx1

theorem State.start_canon (s : State) (cause : Nat) (phase : Nat) (h0 : State.Canon (s)) :
    State.Canon (State.start s cause phase) := by
  unfold State.start
  split
  · refine State.freshStart_canon _ _ _ ?_
    refine State.journalFold_canon _ ?_
    exact h0
  · split
    · have g0 := Canon.of_snd (by assumption) (by
        refine State.draw_canon _ ?_
        exact h0
        )
      refine Canon.ite ?_ ?_
      · refine State.freshStart_canon _ _ _ ?_
        refine State.journalFold_canon _ ?_
        exact g0
      · refine State.freshStart_canon _ _ _ ?_
        refine Canon.mk_iff.mpr ?_
        refine State.Canon.od ?_
        exact g0

theorem State.dropLearn_canon (s : State) (h0 : State.Canon (s)) :
    State.Canon (State.dropLearn s) := by
  unfold State.dropLearn
  extract_lets -merge x0 x1
  have hx1 : State.Canon (x1) := by
    refine Canon.mk_iff.mpr ?_
    refine State.Canon.od ?_
    exact h0
  refine State.bumpBy_canon _ _ _ _ _ ?_
  exact hx1

theorem State.powerTo_canon (s : State) (st : Nat) (h0 : State.Canon (s)) :
    State.Canon (State.powerTo s st) := by
  unfold State.powerTo
  extract_lets -merge x0
  have hx0 : State.Canon (x0) := by
    refine State.bump_canon _ _ _ _ ?_
    refine State.put_canon _ _ _ _ _ ?_
    exact h0
  split
  · have g1 := Canon.of_snd (by assumption) (by
      refine State.draw_canon _ ?_
      exact hx0
      )
    refine State.event_canon _ _ _ _ ?_
    exact g1

theorem State.enterFull_canon (s : State) (h0 : State.Canon (s)) :
    State.Canon (State.enterFull s) := by
  unfold State.enterFull
  extract_lets -merge x0 x1 x2
  have hx1 : State.Canon (x1) := by
    refine State.setPower_canon _ _ ?_
    exact h0
  have hx2 : State.Canon (x2) := by
    refine State.dropLearn_canon _ ?_
    refine Canon.foldl ?_ ?_
    · intro _ _ g3
      refine State.groupStart_canon _ _ ?_
      exact g3
    · exact hx1
  refine State.historyFlush_canon _ ?_
  refine State.powerTo_canon _ _ ?_
  exact hx2

theorem State.enterTrim_canon (s : State) (h0 : State.Canon (s)) :
    State.Canon (State.enterTrim s) := by
  unfold State.enterTrim
  extract_lets -merge x0 x1
  have hx0 : State.Canon (x0) := by
    refine State.dropLearn_canon _ ?_
    refine State.setPower_canon _ _ ?_
    exact h0
  have hx1 : State.Canon (x1) := by
    refine Canon.foldl ?_ ?_
    · intro _ _ g2
      refine State.updPipe_canon _ _ _ ?_
      exact g2
    · exact hx0
  refine State.powerTo_canon _ _ ?_
  exact hx1

theorem State.hwmSave_canon (s : State) (h0 : State.Canon (s)) :
    State.Canon (State.hwmSave s) := by
  unfold State.hwmSave
  extract_lets -merge x0
  refine State.setJournal_canon _ _ ?_
  refine State.put_canon _ _ _ _ _ ?_
  exact h0

theorem State.lasersOff_canon (s : State) (h0 : State.Canon (s)) :
    State.Canon (State.lasersOff s) := by
  unfold State.lasersOff
  extract_lets -merge x0
  refine Canon.foldl ?_ ?_
  · intro _ _ g1
    extract_lets -merge x2
    have hx2 : State.Canon (x2) := by
      refine Canon.ite ?_ ?_
      · exact g1
      · refine State.sbWrite_canon _ _ _ _ _ ?_
        refine State.put_canon _ _ _ _ _ ?_
        exact g1
    refine Canon.ite ?_ ?_
    · refine State.updCh_canon _ _ _ _ ?_
      refine State.laserCode_canon _ _ _ _ ?_
      exact hx2
    · exact hx2
  · exact h0

theorem State.snowStages_canon (s : State) (k : Nat) (h0 : State.Canon (s)) :
    State.Canon (State.snowStages s k) := by
  unfold State.snowStages
  extract_lets -merge x0 x1 x2 x3 x4
  have hx1 : State.Canon (x1) := by
    refine Canon.ite ?_ ?_
    · refine State.lasersOff_canon _ ?_
      exact h0
    · exact h0
  have hx2 : State.Canon (x2) := by
    refine Canon.ite ?_ ?_
    · refine State.emit_canon _ _ ?_
      exact hx1
    · exact hx1
  have hx3 : State.Canon (x3) := by
    refine Canon.ite ?_ ?_
    · refine State.hwmSave_canon _ ?_
      refine State.calFlush_canon _ ?_
      refine State.journalFold_canon _ ?_
      exact hx2
    · exact hx2
  have hx4 : State.Canon (x4) := by
    refine Canon.ite ?_ ?_
    · refine Canon.foldl ?_ ?_
      · intro _ _ g5
        refine State.dmaAbandon_canon _ _ ?_
        exact g5
      · exact hx3
    · exact hx3
  refine State.setPower_canon _ _ ?_
  exact hx4

theorem State.phaseEnd_canon (s : State) (n : Nat) (next : Nat) (h0 : State.Canon (s)) :
    State.Canon (State.phaseEnd s n next) := by
  unfold State.phaseEnd
  refine State.put_canon _ _ _ _ _ ?_
  refine State.put_canon _ _ _ _ _ ?_
  exact h0

theorem State.serviceCheck_canon (s : State) (h0 : State.Canon (s)) :
    State.Canon (State.serviceCheck s) := by
  unfold State.serviceCheck
  extract_lets -merge x0 x1 x2 x3 x4 x5
  have hx5 : State.Canon (x5) := by
    refine State.setPower_canon _ _ ?_
    refine State.phaseEnd_canon _ _ _ ?_
    refine State.put_canon _ _ _ _ _ ?_
    exact h0
  refine Canon.ite ?_ ?_
  · exact h0
  · refine Canon.ite ?_ ?_
    · refine State.alertSet_canon _ _ ?_
      refine State.event_canon _ _ _ _ ?_
      exact hx5
    · exact h0

theorem State.tick_canon (s : State) (h0 : State.Canon (s)) :
    State.Canon (State.tick s) := by
  unfold State.tick
  extract_lets -merge x0 x1 x2 x3 x4 x5
  have hx2 : State.Canon (x2) := by
    refine Canon.mk_iff.mpr ?_
    refine State.Canon.od ?_
    exact h0
  have hx3 : State.Canon (x3) := by
    refine Canon.ite ?_ ?_
    · refine State.setPower_canon _ _ ?_
      exact hx2
    · exact hx2
  have hx5 : State.Canon (x5) := by
    refine Canon.ite ?_ ?_
    · refine State.enterFull_canon _ ?_
      exact hx3
    · refine Canon.ite ?_ ?_
      · refine State.snowStages_canon _ _ ?_
        exact hx3
      · exact hx3
  refine Canon.ite ?_ ?_
  · exact hx3
  · refine Canon.ite ?_ ?_
    · refine State.serviceCheck_canon _ ?_
      exact hx5
    · exact hx5

theorem State.wave_canon (s : State) (w : Nat) (h0 : State.Canon (s)) :
    State.Canon (State.wave s w).2 := by
  unfold State.wave
  extract_lets -merge x0 x1 x2 x3 x4 x5
  have hx2 : State.Canon (x2) := by
    refine Canon.foldl ?_ ?_
    · intro _ _ g6
      extract_lets -merge x7
      have hx7 : State.Canon (x7) := by
        refine State.updCh_canon _ _ _ _ ?_
        exact g6
      refine Canon.ite ?_ ?_
      · refine State.enterWarming_canon _ _ _ ?_
        exact hx7
      · exact hx7
    · exact h0
  have hx3 : State.Canon (x3) := by
    refine State.put_canon _ _ _ _ _ ?_
    exact hx2
  refine Canon.pair ?_
  refine Canon.mk_iff.mpr ?_
  refine State.Canon.od ?_
  exact hx3

theorem State.nextWaves_canon (s : State) (n : Nat) (h0 : State.Canon s) : State.Canon (State.nextWaves s n) := by
  induction n generalizing s with
  | zero => exact h0
  | succ n ih =>
    unfold State.nextWaves
    split
    · exact h0
    · have h := State.wave_canon s s.power.waves h0
      split
      · exact Canon.of_snd (by assumption) h
      · exact ih _ (Canon.of_snd (by assumption) h)

theorem State.railsOff_canon (s : State) (h0 : State.Canon (s)) :
    State.Canon (State.railsOff s) := by
  unfold State.railsOff
  refine State.setPower_canon _ _ ?_
  refine State.emit_canon _ _ ?_
  refine State.emit_canon _ _ ?_
  exact h0

theorem State.snowLost_canon (s : State) (h0 : State.Canon (s)) :
    State.Canon (State.snowLost s) := by
  unfold State.snowLost
  extract_lets -merge x0 x1 x2
  have hx0 : State.Canon (x0) := by
    refine State.setPower_canon _ _ ?_
    exact h0
  have hx2 : State.Canon (x2) := by
    refine State.setJournal_canon _ _ ?_
    exact hx0
  refine State.put_canon _ _ _ _ _ ?_
  refine Canon.mk_iff.mpr ?_
  refine State.Canon.od ?_
  exact hx2

theorem State.steerTrim_canon (s : State) (h0 : State.Canon (s)) :
    State.Canon (State.steerTrim s) := by
  unfold State.steerTrim
  extract_lets -merge x0
  have hx0 : State.Canon (x0) := by
    refine State.setPower_canon _ _ ?_
    exact h0
  refine Canon.foldl ?_ ?_
  · intro _ _ g1
    refine Canon.ite ?_ ?_
    · refine State.groupStop_canon _ _ ?_
      exact g1
    · exact g1
  · exact hx0

theorem State.wakeUp_canon (s : State) (b : Nat) (h0 : State.Canon (s)) :
    State.Canon (State.wakeUp s b) := by
  unfold State.wakeUp
  extract_lets -merge x0
  have hx0 : State.Canon (x0) := by
    refine State.setPower_canon _ _ ?_
    refine State.emit_canon _ _ ?_
    refine State.emit_canon _ _ ?_
    exact h0
  refine State.event_canon _ _ _ _ ?_
  refine State.put_canon _ _ _ _ _ ?_
  refine State.start_canon _ _ _ ?_
  exact hx0

end Sys2Proof.Machine
end

