-- ==== Sys2Proof/Laws/CanonFamAct.lean ====
section
/-! SUPPORT. The definitions of FamAct keep the object store canonical. -/

namespace Sys2Proof.Machine

theorem State.knownSerial_canon (s : State) (p : Nat) (c : Nat) (r : Nat) (serial : Nat) (a5 : Int) (h0 : State.Canon (s)) :
    State.Canon (State.knownSerial s p c r serial a5) := by
  unfold State.knownSerial
  extract_lets -merge x0
  refine Canon.ite ?_ ?_
  · refine State.event_canon _ _ _ _ ?_
    refine State.bump_canon _ _ _ _ ?_
    exact h0
  · refine Canon.ite ?_ ?_
    · refine State.event_canon _ _ _ _ ?_
      refine State.bump_canon _ _ _ _ ?_
      exact h0
    · refine Canon.ite ?_ ?_
      · exact h0
      · refine Canon.ite ?_ ?_
        · refine State.bump_canon _ _ _ _ ?_
          exact h0
        · refine Canon.ite ?_ ?_
          · refine Canon.ite ?_ ?_
            · refine State.event_canon _ _ _ _ ?_
              refine State.bump_canon _ _ _ _ ?_
              exact h0
            · refine State.assign_canon _ _ _ ?_
              refine State.onuToEmpty_canon _ _ _ ?_
              exact h0
          · refine State.assign_canon _ _ _ ?_
            exact h0

theorem State.lossOfBurst_canon (s : State) (r : Nat) (h0 : State.Canon (s)) :
    State.Canon (State.lossOfBurst s r) := by
  unfold State.lossOfBurst
  extract_lets -merge x0 x1 x2
  have hx0 : State.Canon (x0) := by
    refine State.setOnu_canon _ _ _ ?_
    exact h0
  have hx1 : State.Canon (x1) := by
    refine State.updOnu_canon _ _ _ ?_
    exact hx0
  have hx2 : State.Canon (x2) := by
    refine State.rbump_canon _ _ _ _ ?_
    refine State.bump_canon _ _ _ _ ?_
    exact hx1
  refine State.event_canon _ _ _ _ ?_
  exact hx2

theorem State.newSerial_canon (s : State) (p : Nat) (c : Nat) (serial : Nat) (a4 : Int) (h0 : State.Canon (s)) :
    State.Canon (State.newSerial s p c serial a4) := by
  unfold State.newSerial
  extract_lets -merge x0
  refine Canon.ite ?_ ?_
  · refine State.bump_canon _ _ _ _ ?_
    exact h0
  · split
    · refine State.event_canon _ _ _ _ ?_
      refine State.bump_canon _ _ _ _ ?_
      exact h0
    · extract_lets -merge x1 x2
      have hx1 : State.Canon (x1) := by
        refine State.setOnu_canon _ _ _ ?_
        refine State.createOnu_canon _ _ _ _ _ _ _ ?_
        exact h0
      have hx2 : State.Canon (x2) := by
        refine State.updOnu_canon _ _ _ ?_
        exact hx1
      refine Canon.ite ?_ ?_
      · refine State.assign_canon _ _ _ ?_
        refine State.createOnu_canon _ _ _ _ _ _ _ ?_
        exact h0
      · refine State.event_canon _ _ _ _ ?_
        exact hx2

theorem State.stepDown_canon (s : State) (r : Nat) (h0 : State.Canon (s)) :
    State.Canon (State.stepDown s r) := by
  unfold State.stepDown
  extract_lets -merge x0
  have hx0 : State.Canon (x0) := by
    refine State.setRate_canon _ _ _ ?_
    exact h0
  refine State.bump_canon _ _ _ _ ?_
  refine State.holdoff_canon _ _ ?_
  exact hx0

theorem State.operatingLost_canon (s : State) (r : Nat) (rate : Nat) (start : Nat) (noLock : Bool) (h0 : State.Canon (s)) :
    State.Canon (State.operatingLost s r rate start noLock) := by
  unfold State.operatingLost
  extract_lets -merge x0 x1 x2 x3 x4 x5 x6 x7
  have hx1 : State.Canon (x1) := by
    refine State.trialCount_canon _ _ _ _ _ _ ?_
    exact h0
  have hx5 : State.Canon (x5) := by
    refine State.updOnu_canon _ _ _ ?_
    exact hx1
  have hx7 : State.Canon (x7) := by
    refine State.updOnu_canon _ _ _ ?_
    exact hx1
  refine Canon.ite ?_ ?_
  · refine Canon.ite ?_ ?_
    · refine Canon.ite ?_ ?_
      · refine State.failTrial_canon _ _ ?_
        exact hx5
      · refine Canon.ite ?_ ?_
        · refine State.rerange_canon _ _ ?_
          exact hx5
        · refine State.stepDown_canon _ _ ?_
          exact hx5
    · exact hx5
  · refine Canon.ite ?_ ?_
    · refine State.lossOfBurst_canon _ _ ?_
      exact hx7
    · exact hx7

theorem State.probeLost_canon (s : State) (r : Nat) (start : Nat) (noLock : Bool) (h0 : State.Canon (s)) :
    State.Canon (State.probeLost s r start noLock) := by
  unfold State.probeLost
  extract_lets -merge x0 x1
  have hx1 : State.Canon (x1) := by
    refine State.updOnu_canon _ _ _ ?_
    exact h0
  refine Canon.ite ?_ ?_
  · refine State.failAttempt_canon _ _ ?_
    exact hx1
  · refine Canon.ite ?_ ?_
    · refine State.rerange_canon _ _ ?_
      exact hx1
    · refine Canon.ite ?_ ?_
      · refine State.onuToEmpty_canon _ _ _ ?_
        exact hx1
      · exact hx1

theorem State.rogueReport_canon (s : State) (r : Nat) (h0 : State.Canon (s)) :
    State.Canon (State.rogueReport s r) := by
  unfold State.rogueReport
  extract_lets -merge x0 x1 x2
  have hx0 : State.Canon (x0) := by
    refine State.rbump_canon _ _ _ _ ?_
    exact h0
  have hx2 : State.Canon (x2) := by
    refine State.updOnu_canon _ _ _ ?_
    exact hx0
  refine Canon.ite ?_ ?_
  · refine State.event_canon _ _ _ _ ?_
    exact hx2
  · exact hx2

theorem State.takePortPost_canon (s : State) (p : Nat) (c : Nat) (f : PortPost → Bool) (h0 : State.Canon (s)) :
    State.Canon (State.takePortPost s p c f).2 := by
  unfold State.takePortPost
  split
  · refine Canon.pair ?_
    refine State.updCh_canon _ _ _ _ ?_
    exact h0

theorem execQuietWindowDue_canon (p : Fin 64) (c : Fin 2) (s : State) (h2 : State.Canon (s)) :
    Res.Canon (execQuietWindowDue p c s) := by
  unfold execQuietWindowDue
  refine live_canon _ _ ?_ ?_
  · exact h2
  · intro _ g0
    refine Canon.ite ?_ ?_
    · split
      · refine State.mirrorPost_canon _ _ _ ?_
        refine State.updAct_canon _ _ _ _ ?_
        exact g0
      · exact g0
    · exact g0

theorem execQuietWindowResponse_canon (p : Fin 64) (c : Fin 2) (serial : Option Nat) (a3 : Nat) (mic : Nat) (s : State) (h5 : State.Canon (s)) :
    Res.Canon (execQuietWindowResponse p c serial a3 mic s) := by
  unfold execQuietWindowResponse
  refine live_canon _ _ ?_ ?_
  · exact h5
  · intro _ g0
    split
    · exact g0
    · refine Canon.ite ?_ ?_
      · exact g0
      · split
        · refine State.bump_canon _ _ _ _ ?_
          exact g0
        · extract_lets -merge x1 x2 x3
          have hx2 : State.Canon (x2) := by
            refine State.updAct_canon _ _ _ _ ?_
            exact g0
          have hx3 : State.Canon (x3) := by
            refine State.bump_canon _ _ _ _ ?_
            exact hx2
          refine Canon.ite ?_ ?_
          · refine State.bump_canon _ _ _ _ ?_
            exact g0
          · refine Canon.ite ?_ ?_
            · exact g0
            · split
              · refine State.newSerial_canon _ _ _ _ _ ?_
                exact hx3
              · refine State.knownSerial_canon _ _ _ _ _ _ ?_
                exact hx3

theorem execPendingTimeout_canon (r : Nat) (s : State) (h1 : State.Canon (s)) :
    Res.Canon (execPendingTimeout r s) := by
  unfold execPendingTimeout
  refine live_canon _ _ ?_ ?_
  · exact h1
  · intro _ g0
    extract_lets -merge x1
    refine Canon.ite ?_ ?_
    · refine State.bump_canon _ _ _ _ ?_
      refine State.removeOnu_canon _ _ ?_
      exact g0
    · exact g0

theorem execRegistrationReceived_canon (p : Fin 64) (c : Fin 2) (regId : Nat) (arrival : Nat) (mic : Nat) (s : State) (h5 : State.Canon (s)) :
    Res.Canon (execRegistrationReceived p c regId arrival mic s) := by
  unfold execRegistrationReceived
  refine live_canon _ _ ?_ ?_
  · exact h5
  · intro _ g0
    split
    · exact g0
    · extract_lets -merge x1 x2
      have hx2 : State.Canon (x2) := by
        refine State.rput_canon _ _ _ _ _ ?_
        exact g0
      refine Canon.ite ?_ ?_
      · exact g0
      · refine Canon.ite ?_ ?_
        · refine State.bump_canon _ _ _ _ ?_
          exact g0
        · refine Canon.ite ?_ ?_
          · refine State.deactivate_canon _ _ _ ?_
            exact g0
          · refine Canon.ite ?_ ?_
            · refine State.deactivate_canon _ _ _ ?_
              exact hx2
            · refine State.sendEqd_canon _ _ _ ?_
              refine State.updOnu_canon _ _ _ ?_
              exact hx2

theorem execRangingWindowEnd_canon (p : Fin 64) (c : Fin 2) (s : State) (h2 : State.Canon (s)) :
    Res.Canon (execRangingWindowEnd p c s) := by
  unfold execRangingWindowEnd
  refine live_canon _ _ ?_ ?_
  · exact h2
  · intro _ g0
    extract_lets -merge x1 x2
    have hx2 : State.Canon (x2) := by
      refine State.updAct_canon _ _ _ _ ?_
      exact g0
    clear_value x1
    split
    · refine Canon.ite ?_ ?_
      · refine State.failAttempt_canon _ _ ?_
        exact hx2
      · exact hx2
    · exact hx2

theorem execOnuOperatingEntry_canon (r : Nat) (start : Nat) (s : State) (h2 : State.Canon (s)) :
    Res.Canon (execOnuOperatingEntry r start s) := by
  unfold execOnuOperatingEntry
  refine live_canon _ _ ?_ ?_
  · exact h2
  · intro _ g0
    extract_lets -merge x1 x2 x3
    have hx3 : State.Canon (x3) := by
      refine State.updOnu_canon _ _ _ ?_
      exact g0
    refine Canon.ite ?_ ?_
    · refine State.serviceCheck_canon _ ?_
      refine State.enterOperating_canon _ _ _ ?_
      exact hx3
    · exact g0

theorem execActArrivalOffset_canon (p : Fin 64) (c : Fin 2) (s : State) (h2 : State.Canon (s)) :
    Res.Canon (execActArrivalOffset p c s) := by
  unfold execActArrivalOffset
  refine live_canon _ _ ?_ ?_
  · exact h2
  · intro _ g0
    split
    · have g1 := Canon.of_snd (by assumption) (by
        refine State.takePortPost_canon _ _ _ _ ?_
        exact g0
        )
      split
      · refine Canon.ite ?_ ?_
        · exact g1
        · refine State.updOnu_canon _ _ _ ?_
          exact g1
      · exact g1
    · have g2 := Canon.of_snd (by assumption) (by
        refine State.takePortPost_canon _ _ _ _ ?_
        exact g0
        )
      exact g2

theorem execDriftOffsetApply_canon (r : Nat) (start : Nat) (s : State) (h2 : State.Canon (s)) :
    Res.Canon (execDriftOffsetApply r start s) := by
  unfold execDriftOffsetApply
  refine live_canon _ _ ?_ ?_
  · exact h2
  · intro _ g0
    extract_lets -merge x1 x2 x3 x4 x5
    have hx3 : State.Canon (x3) := by
      refine State.updOnu_canon _ _ _ ?_
      exact g0
    split
    · exact g0
    · extract_lets -merge x6 x7 x8
      have hx8 : State.Canon (x8) := by
        refine State.updOnu_canon _ _ _ ?_
        refine State.rput_canon _ _ _ _ _ ?_
        exact hx3
      refine Canon.ite ?_ ?_
      · exact hx3
      · refine Canon.ite ?_ ?_
        · exact hx3
        · refine Canon.ite ?_ ?_
          · refine State.driftJudge_canon _ _ _ _ ?_
            exact hx8
          · exact hx8

theorem execDriftHoldEnd_canon (r : Nat) (s : State) (h1 : State.Canon (s)) :
    Res.Canon (execDriftHoldEnd r s) := by
  unfold execDriftHoldEnd
  refine live_canon _ _ ?_ ?_
  · exact h1
  · intro _ g0
    split
    · refine Canon.ite ?_ ?_
      · refine State.updOnu_canon _ _ _ ?_
        exact g0
      · exact g0
    · exact g0

theorem execActLostBurst_canon (p : Fin 64) (c : Fin 2) (s : State) (h2 : State.Canon (s)) :
    Res.Canon (execActLostBurst p c s) := by
  unfold execActLostBurst
  refine live_canon _ _ ?_ ?_
  · exact h2
  · intro _ g0
    split
    · have g1 := Canon.of_snd (by assumption) (by
        refine State.takePortPost_canon _ _ _ _ ?_
        exact g0
        )
      split
      · extract_lets -merge x2
        have hx2 : State.Canon (x2) := by
          refine Canon.ite ?_ ?_
          · exact g1
          · refine State.stepTally_canon _ _ _ _ _ ?_
            exact g1
        refine Canon.ite ?_ ?_
        · exact hx2
        · refine Canon.ite ?_ ?_
          · refine State.operatingLost_canon _ _ _ _ _ ?_
            exact hx2
          · refine Canon.ite ?_ ?_
            · refine State.probeLost_canon _ _ _ _ ?_
              exact hx2
            · exact hx2
      · exact g1
    · have g3 := Canon.of_snd (by assumption) (by
        refine State.takePortPost_canon _ _ _ _ ?_
        exact g0
        )
      exact g3

theorem execActWrongSource_canon (p : Fin 64) (c : Fin 2) (s : State) (h2 : State.Canon (s)) :
    Res.Canon (execActWrongSource p c s) := by
  unfold execActWrongSource
  refine live_canon _ _ ?_ ?_
  · exact h2
  · intro _ g0
    split
    · have g1 := Canon.of_snd (by assumption) (by
        refine State.takePortPost_canon _ _ _ _ ?_
        exact g0
        )
      extract_lets -merge x2
      have hx2 : State.Canon (x2) := by
        unfold x2
        split
        · extract_lets -merge x3
          have hx3 : State.Canon (x3) := by
            refine State.updOnu_canon _ _ _ ?_
            exact g1
          refine Canon.ite ?_ ?_
          · refine State.probeLost_canon _ _ _ _ ?_
            exact hx3
          · exact hx3
        · exact g1
      split
      · refine State.rogueReport_canon _ _ ?_
        exact hx2
      · exact hx2
    · have g4 := Canon.of_snd (by assumption) (by
        refine State.takePortPost_canon _ _ _ _ ?_
        exact g0
        )
      exact g4

theorem execLostProbeDue_canon (r : Nat) (s : State) (h1 : State.Canon (s)) :
    Res.Canon (execLostProbeDue r s) := by
  unfold execLostProbeDue
  refine live_canon _ _ ?_ ?_
  · exact h1
  · intro _ g0
    extract_lets -merge x1 x2 x3 x4
    have hx4 : State.Canon (x4) := by
      refine State.updOnu_canon _ _ _ ?_
      exact g0
    refine Canon.ite ?_ ?_
    · refine State.actPost_canon _ _ _ _ ?_
      exact hx4
    · exact g0

theorem execLostTimeout_canon (r : Nat) (s : State) (h1 : State.Canon (s)) :
    Res.Canon (execLostTimeout r s) := by
  unfold execLostTimeout
  refine live_canon _ _ ?_ ?_
  · exact h1
  · intro _ g0
    refine Canon.ite ?_ ?_
    · refine State.deactivate_canon _ _ _ ?_
      exact g0
    · exact g0

theorem execStepEvaluation_canon (r : Nat) (s : State) (h1 : State.Canon (s)) :
    Res.Canon (execStepEvaluation r s) := by
  unfold execStepEvaluation
  refine live_canon _ _ ?_ ?_
  · exact h1
  · intro _ g0
    extract_lets -merge x1 x2 x3 x4 x5 x6 x7 x8
    have hx7 : State.Canon (x7) := by
      refine Canon.ite ?_ ?_
      · refine State.startTrial_canon _ _ _ ?_
        exact g0
      · refine Canon.ite ?_ ?_
        · refine Canon.ite ?_ ?_
          · refine State.failTrial_canon _ _ ?_
            exact g0
          · refine State.stepDown_canon _ _ ?_
            exact g0
        · exact g0
    have hx8 : State.Canon (x8) := by
      refine Canon.ite ?_ ?_
      · refine State.rput_canon _ _ _ _ _ ?_
        exact hx7
      · exact hx7
    refine Canon.ite ?_ ?_
    · exact g0
    · refine State.updOnu_canon _ _ _ ?_
      exact hx8

theorem execRogueObservationEnd_canon (p : Fin 64) (c : Fin 2) (s : State) (h2 : State.Canon (s)) :
    Res.Canon (execRogueObservationEnd p c s) := by
  unfold execRogueObservationEnd
  refine live_canon _ _ ?_ ?_
  · exact h2
  · intro _ g0
    extract_lets -merge x1 x2 x3 x4 x5 x6 x7 x8
    have hx5 : State.Canon (x5) := by
      refine State.updOnu_canon _ _ _ ?_
      exact g0
    have hx6 : State.Canon (x6) := by
      refine State.updAct_canon _ _ _ _ ?_
      exact hx5
    have hx7 : State.Canon (x7) := by
      refine State.actSend_canon _ _ _ _ _ _ ?_
      exact hx5
    have hx8 : State.Canon (x8) := by
      refine State.setOnu_canon _ _ _ ?_
      exact hx7
    refine Canon.ite ?_ ?_
    · exact g0
    · refine Canon.ite ?_ ?_
      · refine Canon.ite ?_ ?_
        · refine State.event_canon _ _ _ _ ?_
          refine State.rput_canon _ _ _ _ _ ?_
          exact hx6
        · exact hx6
      · refine Canon.ite ?_ ?_
        · refine State.scanNext_canon _ _ _ ?_
          refine Canon.ite ?_ ?_
          · refine State.rerange_canon _ _ ?_
            exact hx8
          · exact hx8
        · refine State.scanNext_canon _ _ _ ?_
          exact hx5

theorem execFindSerial_canon (session : Nat) (serial : Nat) (s : State) (h2 : State.Canon (s)) :
    Res.Canon (execFindSerial session serial s) := by
  unfold execFindSerial
  refine live_canon _ _ ?_ ?_
  · exact h2
  · intro _ g0
    refine State.result_canon _ _ _ _ _ _ ?_
    refine Canon.mk_iff.mpr ?_
    refine State.Canon.od ?_
    exact g0

end Sys2Proof.Machine
end

