-- ==== Sys2Proof/Laws/CanonFamGrant.lean ====
section
/-! SUPPORT. The definitions of FamGrant keep the object store canonical. -/

namespace Sys2Proof.Machine

theorem execMapCaptureArm_canon (s : State) (h0 : State.Canon (s)) :
    Res.Canon (execMapCaptureArm s) := by
  unfold execMapCaptureArm
  refine live_canon _ _ ?_ ?_
  · exact h0
  · intro _ g0
    extract_lets -merge x1 x2
    have hx2 : State.Canon (x2) := by
      refine State.put_canon _ _ _ _ _ ?_
      exact g0
    refine State.result_canon _ _ _ _ _ _ ?_
    refine Canon.mk_iff.mpr ?_
    refine State.Canon.od ?_
    exact hx2

theorem State.askFast_canon (s : State) (p : Nat) (c : Nat) (k : Nat) (h0 : State.Canon (s)) :
    State.Canon (State.askFast s p c k) := by
  unfold State.askFast
  refine Canon.foldl ?_ ?_
  · intro _ _ g0
    refine State.mirrorPost_canon _ _ _ ?_
    refine State.updGrant_canon _ _ _ _ ?_
    exact g0
  · exact h0

theorem State.captureMap_canon (s : State) (p : Nat) (c : Nat) (k : Nat) (l : List MapEntry) (h0 : State.Canon (s)) :
    State.Canon (State.captureMap s p c k l) := by
  unfold State.captureMap
  extract_lets -merge x0 x1 x2
  have hx0 : State.Canon (x0) := by
    refine Canon.foldl ?_ ?_
    · intro _ _ g3
      refine State.dropRecord_canon _ _ _ ?_
      exact g3
    · exact h0
  have hx2 : State.Canon (x2) := by
    refine Canon.foldl ?_ ?_
    · intro _ _ g4
      extract_lets -merge x5
      have hx5 : State.Canon (x5) := by
        refine State.rput_canon _ _ _ _ _ ?_
        exact g4
      refine Canon.foldl ?_ ?_
      · intro _ _ g6
        refine State.rput_canon _ _ _ _ _ ?_
        exact g6
      · exact hx5
    · exact hx0
  refine Canon.ite ?_ ?_
  · refine State.put_canon _ _ _ _ _ ?_
    refine State.put_canon _ _ _ _ _ ?_
    refine State.put_canon _ _ _ _ _ ?_
    exact hx2
  · exact h0

theorem State.commitCtx_canon (s : State) (k : Nat) (m : MapW) (i : CtxIn) (h0 : State.Canon (s)) :
    State.Canon (State.commitCtx s k m i) := by
  unfold State.commitCtx
  extract_lets -merge x0 x1 x2 x3 x4 x5
  have hx1 : State.Canon (x1) := by
    refine State.rput_canon _ _ _ _ _ ?_
    exact h0
  have hx2 : State.Canon (x2) := by
    refine State.rput_canon _ _ _ _ _ ?_
    exact hx1
  have hx3 : State.Canon (x3) := by
    refine State.rput_canon _ _ _ _ _ ?_
    exact hx2
  have hx4 : State.Canon (x4) := by
    refine State.rbumpBy_canon _ _ _ _ _ ?_
    exact hx3
  have hx5 : State.Canon (x5) := by
    refine State.rput_canon _ _ _ _ _ ?_
    exact hx4
  split
  · exact hx4
  · extract_lets -merge x6
    have hx6 : State.Canon (x6) := by
      refine State.rbump_canon _ _ _ _ ?_
      refine State.rbumpBy_canon _ _ _ _ _ ?_
      exact hx5
    refine State.updCtx_canon _ _ _ ?_
    exact hx6

theorem State.commitReq_canon (s : State) (p : Nat) (c : Nat) (k : Nat) (m : MapW) (q : Req) (h0 : State.Canon (s)) :
    State.Canon (State.commitReq s p c k m q) := by
  unfold State.commitReq
  extract_lets -merge x0 x1 x2
  split
  · exact h0
  · refine State.updOnu_canon _ _ _ ?_
    exact h0

theorem State.commitWin_canon (s : State) (p : Nat) (c : Nat) (k : Nat) (guardNs : Nat) (w : Win) (h0 : State.Canon (s)) :
    State.Canon (State.commitWin s p c k guardNs w) := by
  unfold State.commitWin
  extract_lets -merge x0 x1
  have hx0 : State.Canon (x0) := by
    refine Canon.ite ?_ ?_
    · refine State.setOnu_canon _ _ _ ?_
      exact h0
    · exact h0
  have hx1 : State.Canon (x1) := by
    refine State.updOnu_canon _ _ _ ?_
    exact hx0
  split
  · exact h0
  · refine State.updAct_canon _ _ _ _ ?_
    exact h0
  · refine State.updAct_canon _ _ _ _ ?_
    exact hx1

theorem State.closeChannel_canon (s : State) (p : Nat) (c : Nat) (k : Nat) (h0 : State.Canon (s)) :
    State.Canon (State.closeChannel s p c k) := by
  unfold State.closeChannel
  extract_lets -merge x0 x1 x2 x3 x4 x5 x6 x7 x8 x9 x10 x11 x12 x13 x14 x15 x16 x17 x18 x19 x20 x21 x22
  have hx6 : State.Canon (x6) := by
    refine State.bumpBy_canon _ _ _ _ _ ?_
    exact h0
  have hx7 : State.Canon (x7) := by
    refine State.bumpBy_canon _ _ _ _ _ ?_
    exact hx6
  have hx8 : State.Canon (x8) := by
    refine State.bumpBy_canon _ _ _ _ _ ?_
    exact hx7
  have hx9 : State.Canon (x9) := by
    refine State.bumpBy_canon _ _ _ _ _ ?_
    exact hx8
  have hx10 : State.Canon (x10) := by
    refine State.bumpBy_canon _ _ _ _ _ ?_
    exact hx9
  have hx11 : State.Canon (x11) := by
    refine State.bumpBy_canon _ _ _ _ _ ?_
    exact hx10
  have hx12 : State.Canon (x12) := by
    refine State.bumpBy_canon _ _ _ _ _ ?_
    exact hx11
  have hx13 : State.Canon (x13) := by
    refine State.bumpBy_canon _ _ _ _ _ ?_
    exact hx12
  have hx14 : State.Canon (x14) := by
    refine State.bumpBy_canon _ _ _ _ _ ?_
    exact hx13
  have hx15 : State.Canon (x15) := by
    refine Canon.ite ?_ ?_
    · refine State.updAct_canon _ _ _ _ ?_
      refine State.bump_canon _ _ _ _ ?_
      exact hx14
    · exact hx14
  have hx16 : State.Canon (x16) := by
    refine Canon.ite ?_ ?_
    · refine State.updAct_canon _ _ _ _ ?_
      refine State.bump_canon _ _ _ _ ?_
      exact hx15
    · exact hx15
  have hx17 : State.Canon (x17) := by
    refine Canon.foldl ?_ ?_
    · intro _ _ g23
      refine State.commitCtx_canon _ _ _ _ ?_
      exact g23
    · exact hx16
  have hx18 : State.Canon (x18) := by
    refine Canon.foldl ?_ ?_
    · intro _ _ g24
      refine State.commitReq_canon _ _ _ _ _ _ ?_
      exact g24
    · exact hx17
  have hx19 : State.Canon (x19) := by
    refine Canon.foldl ?_ ?_
    · intro _ _ g25
      refine State.updOnu_canon _ _ _ ?_
      exact g25
    · exact hx18
  have hx20 : State.Canon (x20) := by
    refine Canon.foldl ?_ ?_
    · intro _ _ g26
      refine State.commitWin_canon _ _ _ _ _ _ ?_
      exact g26
    · exact hx19
  have hx22 : State.Canon (x22) := by
    refine State.put_canon _ _ _ _ _ ?_
    exact hx20
  refine State.updGrant_canon _ _ _ _ ?_
  exact hx22

theorem State.freezeHints_canon (s : State) (h0 : State.Canon (s)) :
    State.Canon (State.freezeHints s) := by
  unfold State.freezeHints
  refine Canon.mk_iff.mpr ?_
  refine State.Canon.od ?_
  exact h0

theorem State.handOver_canon (s : State) (p : Nat) (c : Nat) (m : MapRec) (h0 : State.Canon (s)) :
    State.Canon (State.handOver s p c m) := by
  unfold State.handOver
  extract_lets -merge x0 x1 x2 x3 x4
  have hx2 : State.Canon (x2) := by
    refine State.put_canon _ _ _ _ _ ?_
    exact h0
  have hx3 : State.Canon (x3) := by
    refine State.captureMap_canon _ _ _ _ _ ?_
    exact hx2
  refine State.updGrant_canon _ _ _ _ ?_
  exact hx3

theorem State.phaseSteps_canon (s : State) (p : Nat) (c : Nat) (startPs : Nat) (h0 : State.Canon (s)) :
    State.Canon (State.phaseSteps s p c startPs) := by
  unfold State.phaseSteps
  extract_lets -merge x0 x1 x2
  split
  · extract_lets -merge x3 x4
    have hx4 : State.Canon (x4) := by
      refine State.setTwin_canon _ _ ?_
      exact h0
    refine Canon.ite ?_ ?_
    · exact h0
    · refine Canon.foldl ?_ ?_
      · intro _ _ g5
        refine State.shiftPhases_canon _ _ _ ?_
        exact g5
      · exact hx4
  · exact h0

theorem execNoticeIssue_canon (p : Fin 64) (c : Fin 2) (s : State) (h2 : State.Canon (s)) :
    Res.Canon (execNoticeIssue p c s) := by
  unfold execNoticeIssue
  refine live_canon _ _ ?_ ?_
  · exact h2
  · intro _ g0
    split
    · exact g0
    · extract_lets -merge x1
      have hx1 : State.Canon (x1) := by
        refine State.phaseSteps_canon _ _ _ _ ?_
        refine State.updGrant_canon _ _ _ _ ?_
        exact g0
      refine Canon.ite ?_ ?_
      · exact g0
      · refine State.emit_canon _ _ ?_
        refine State.updCh_canon _ _ _ _ ?_
        exact hx1

theorem execMapClose_canon (s : State) (h0 : State.Canon (s)) :
    Res.Canon (execMapClose s) := by
  unfold execMapClose
  refine live_canon _ _ ?_ ?_
  · exact h0
  · intro _ g0
    extract_lets -merge x1 x2 x3 x4
    have hx3 : State.Canon (x3) := by
      refine Canon.foldl ?_ ?_
      · intro _ _ g5
        refine Canon.ite ?_ ?_
        · refine State.askFast_canon _ _ _ _ ?_
          exact g5
        · exact g5
      · refine State.freezeHints_canon _ ?_
        exact g0
    have hx4 : State.Canon (x4) := by
      refine Canon.foldl ?_ ?_
      · intro _ _ g6
        refine Canon.ite ?_ ?_
        · refine State.closeChannel_canon _ _ _ _ ?_
          exact g6
        · exact g6
      · refine State.commitGroup_canon _ _ ?_
        exact hx3
    refine Canon.ite ?_ ?_
    · exact g0
    · refine State.bump_canon _ _ _ _ ?_
      refine Canon.mk_iff.mpr ?_
      refine State.Canon.od ?_
      exact hx4

theorem execMapHandover_canon (computeNs : Nat) (s : State) (h1 : State.Canon (s)) :
    Res.Canon (execMapHandover computeNs s) := by
  unfold execMapHandover
  refine live_canon _ _ ?_ ?_
  · exact h1
  · intro _ g0
    extract_lets -merge x1 x2 x3 x4
    have hx1 : State.Canon (x1) := by
      refine Canon.foldl ?_ ?_
      · intro _ _ g5
        split
        · refine State.handOver_canon _ _ _ _ ?_
          exact g5
        · exact g5
      · exact g0
    have hx2 : State.Canon (x2) := by
      refine State.sendSpanSets_canon _ _ ?_
      refine State.sendMapSet_canon _ _ ?_
      exact hx1
    have hx4 : State.Canon (x4) := by
      refine State.put_canon _ _ _ _ _ ?_
      exact hx2
    refine Canon.ite ?_ ?_
    · exact g0
    · refine Canon.mk_iff.mpr ?_
      refine State.Canon.od ?_
      exact hx4

theorem execMapLate_canon (p : Fin 64) (c : Fin 2) (s : State) (h2 : State.Canon (s)) :
    Res.Canon (execMapLate p c s) := by
  unfold execMapLate
  refine live_canon _ _ ?_ ?_
  · exact h2
  · intro _ g0
    split
    · exact g0
    · extract_lets -merge x1 x2
      have hx1 : State.Canon (x1) := by
        refine State.updGrant_canon _ _ _ _ ?_
        exact g0
      have hx2 : State.Canon (x2) := by
        refine State.event_canon _ _ _ _ ?_
        refine State.bump_canon _ _ _ _ ?_
        exact hx1
      refine Canon.ite ?_ ?_
      · exact g0
      · refine Canon.ite ?_ ?_
        · refine State.refreshFaults_canon _ ?_
          refine Canon.mk_iff.mpr ?_
          refine State.Canon.od ?_
          exact hx2
        · exact hx2

theorem execStatusReport_canon (r : Nat) (words : Nat) (map : Nat) (s : State) (h3 : State.Canon (s)) :
    Res.Canon (execStatusReport r words map s) := by
  unfold execStatusReport
  refine live_canon _ _ ?_ ?_
  · exact h3
  · intro _ g0
    refine Canon.ite ?_ ?_
    · refine State.updCtx_canon _ _ _ ?_
      exact g0
    · exact g0

theorem execUsageRecord_canon (r : Nat) (start : Nat) (s : State) (h2 : State.Canon (s)) :
    Res.Canon (execUsageRecord r start s) := by
  unfold execUsageRecord
  refine live_canon _ _ ?_ ?_
  · exact h2
  · intro _ g0
    extract_lets -merge x1
    split
    · refine State.updCtx_canon _ _ _ ?_
      exact g0
    · exact g0

theorem execHintPost_canon (s : State) (h0 : State.Canon (s)) :
    Res.Canon (execHintPost s) := by
  unfold execHintPost
  refine live_canon _ _ ?_ ?_
  · exact h0
  · intro _ g0
    split
    · exact g0
    · extract_lets -merge x1 x2 x3 x4
      have hx1 : State.Canon (x1) := by
        refine Canon.mk_iff.mpr ?_
        refine State.Canon.od ?_
        exact g0
      refine Canon.ite ?_ ?_
      · exact hx1
      · refine Canon.ite ?_ ?_
        · refine State.bump_canon _ _ _ _ ?_
          exact hx1
        · refine State.mirrorPost_canon _ _ _ ?_
          refine State.updGrant_canon _ _ _ _ ?_
          exact hx1

theorem execActRequestPost_canon (p : Fin 64) (c : Fin 2) (s : State) (h2 : State.Canon (s)) :
    Res.Canon (execActRequestPost p c s) := by
  unfold execActRequestPost
  refine live_canon _ _ ?_ ?_
  · exact h2
  · intro _ g0
    split
    · exact g0
    · extract_lets -merge x1
      have hx1 : State.Canon (x1) := by
        refine State.mirrorPost_canon _ _ _ ?_
        refine State.updAct_canon _ _ _ _ ?_
        exact g0
      refine State.updGrant_canon _ _ _ _ ?_
      exact hx1

end Sys2Proof.Machine
end

