-- ==== Sys2Proof/Laws/CanonFamCal.lean ====
section
/-! SUPPORT. The definitions of FamCal keep the object store canonical. -/

namespace Sys2Proof.Machine

theorem State.setFeederState_canon (s : State) (p : Nat) (c : Nat) (v : Nat) (h0 : State.Canon (s)) :
    State.Canon (State.setFeederState s p c v) := by
  unfold State.setFeederState
  refine State.put_canon _ _ _ _ _ ?_
  exact h0

theorem State.setFeeder_canon (s : State) (p : Nat) (c : Nat) (d : Int) (h0 : State.Canon (s)) :
    State.Canon (State.setFeeder s p c d) := by
  unfold State.setFeeder
  extract_lets -merge x0
  have hx0 : State.Canon (x0) := by
    refine State.put_canon _ _ _ _ _ ?_
    exact h0
  refine Canon.ite ?_ ?_
  · exact hx0
  · refine State.sendFeeder_canon _ ?_
    exact hx0

theorem State.feederClear_canon (s : State) (h0 : State.Canon (s)) :
    State.Canon (State.feederClear s) := by
  unfold State.feederClear
  refine Canon.foldl ?_ ?_
  · intro _ _ g0
    refine Canon.ite ?_ ?_
    · exact g0
    · refine State.setFeederState_canon _ _ _ _ ?_
      refine State.setFeeder_canon _ _ _ _ ?_
      exact g0
  · exact h0

theorem execCoeffSetWrite_canon (r : Nat) (rate : Fin 4) (set : Nat) (s : State) (h3 : State.Canon (s)) :
    Res.Canon (execCoeffSetWrite r rate set s) := by
  unfold execCoeffSetWrite
  refine live_canon _ _ ?_ ?_
  · exact h3
  · intro _ g0
    extract_lets -merge x1 x2 x3
    have hx1 : State.Canon (x1) := by
      refine State.rput_canon _ _ _ _ _ ?_
      exact g0
    have hx2 : State.Canon (x2) := by
      refine State.rput_canon _ _ _ _ _ ?_
      refine State.setValid_canon _ _ _ _ ?_
      exact hx1
    have hx3 : State.Canon (x3) := by
      refine State.updOnu_canon _ _ _ ?_
      exact hx2
    split
    · refine State.result_canon _ _ _ _ _ _ ?_
      refine State.storeGrant_canon _ _ ?_
      exact hx3
    · refine State.result_canon _ _ _ _ _ _ ?_
      exact g0

theorem execClearRxp_canon (r : Nat) (s : State) (h1 : State.Canon (s)) :
    Res.Canon (execClearRxp r s) := by
  unfold execClearRxp
  refine live_canon _ _ ?_ ?_
  · exact h1
  · intro _ g0
    extract_lets -merge x1
    have hx1 : State.Canon (x1) := by
      refine Canon.foldl ?_ ?_
      · intro _ _ g2
        refine State.rput_canon _ _ _ _ _ ?_
        exact g2
      · exact g0
    refine Canon.ite ?_ ?_
    · refine State.result_canon _ _ _ _ _ _ ?_
      exact g0
    · refine State.result_canon _ _ _ _ _ _ ?_
      exact hx1

theorem execCoeffInvalidate_canon (r : Nat) (mask : Nat) (s : State) (h2 : State.Canon (s)) :
    Res.Canon (execCoeffInvalidate r mask s) := by
  unfold execCoeffInvalidate
  refine live_canon _ _ ?_ ?_
  · exact h2
  · intro _ g0
    extract_lets -merge x1
    have hx1 : State.Canon (x1) := by
      refine Canon.foldl ?_ ?_
      · intro _ _ g2
        refine Canon.ite ?_ ?_
        · refine State.setValid_canon _ _ _ _ ?_
          exact g2
        · exact g2
      · exact g0
    refine Canon.ite ?_ ?_
    · refine State.result_canon _ _ _ _ _ _ ?_
      exact g0
    · refine Canon.ite ?_ ?_
      · refine State.result_canon _ _ _ _ _ _ ?_
        exact g0
      · refine State.result_canon _ _ _ _ _ _ ?_
        exact hx1

theorem State.feederSearch_canon (s : State) (p : Nat) (c : Nat) (base : Int) (h0 : State.Canon (s)) :
    State.Canon (State.feederSearch s p c base) := by
  unfold State.feederSearch
  extract_lets -merge x0 x1
  have hx1 : State.Canon (x1) := by
    refine State.updLoop_canon _ _ _ _ ?_
    exact h0
  refine State.setFeeder_canon _ _ _ _ ?_
  exact hx1

theorem State.feederLost_canon (s : State) (p : Nat) (c : Nat) (h0 : State.Canon (s)) :
    State.Canon (State.feederLost s p c) := by
  unfold State.feederLost
  extract_lets -merge x0 x1
  have hx0 : State.Canon (x0) := by
    refine State.setFeederState_canon _ _ _ _ ?_
    exact h0
  have hx1 : State.Canon (x1) := by
    refine State.event_canon _ _ _ _ ?_
    exact hx0
  refine State.feederSearch_canon _ _ _ _ ?_
  exact hx1

theorem State.portFault_canon (s : State) (p : Nat) (cause : Nat) (h0 : State.Canon (s)) :
    State.Canon (State.portFault s p cause) := by
  unfold State.portFault
  refine State.enterFault_canon _ _ _ _ ?_
  refine State.enterFault_canon _ _ _ _ ?_
  exact h0

theorem State.powerSample_canon (s : State) (p : Nat) (c : Nat) (r : Nat) (rxp : Int) (h0 : State.Canon (s)) :
    State.Canon (State.powerSample s p c r rxp) := by
  unfold State.powerSample
  extract_lets -merge x0 x1 x2 x3 x4 x5 x6 x7 x8 x9 x10 x11
  have hx3 : State.Canon (x3) := by
    refine State.rput_canon _ _ _ _ _ ?_
    exact h0
  have hx4 : State.Canon (x4) := by
    refine State.rput_canon _ _ _ _ _ ?_
    exact hx3
  have hx5 : State.Canon (x5) := by
    refine State.rput_canon _ _ _ _ _ ?_
    exact hx4
  have hx6 : State.Canon (x6) := by
    refine State.rput_canon _ _ _ _ _ ?_
    exact hx5
  have hx11 : State.Canon (x11) := by
    refine Canon.ite ?_ ?_
    · refine State.event_canon _ _ _ _ ?_
      refine State.updOnu_canon _ _ _ ?_
      exact hx6
    · refine Canon.ite ?_ ?_
      · refine State.updOnu_canon _ _ _ ?_
        exact hx6
      · exact hx6
  refine Canon.ite ?_ ?_
  · refine State.event_canon _ _ _ _ ?_
    refine State.updOnu_canon _ _ _ ?_
    exact hx11
  · refine Canon.ite ?_ ?_
    · refine State.updOnu_canon _ _ _ ?_
      exact hx11
    · exact hx11

theorem State.sbNext_canon (s : State) (p : Nat) (h0 : State.Canon (s)) :
    State.Canon (State.sbNext s p) := by
  unfold State.sbNext
  extract_lets -merge x0
  have hx0 : State.Canon (x0) := by
    refine State.updOptic_canon _ _ _ ?_
    exact h0
  split
  · refine State.sbSend_canon _ _ _ ?_
    refine State.updOptic_canon _ _ _ ?_
    exact hx0
  · exact hx0

theorem State.sbFail_canon (s : State) (p : Nat) (m : SbCmd) (h0 : State.Canon (s)) :
    State.Canon (State.sbFail s p m) := by
  unfold State.sbFail
  extract_lets -merge x0 x1 x2
  have hx2 : State.Canon (x2) := by
    refine State.sbNext_canon _ _ ?_
    refine State.updOptic_canon _ _ _ ?_
    exact h0
  refine Canon.ite ?_ ?_
  · refine State.bump_canon _ _ _ _ ?_
    refine State.sbFrame_canon _ _ _ ?_
    refine State.updOptic_canon _ _ _ ?_
    exact h0
  · refine Canon.ite ?_ ?_
    · refine State.portFault_canon _ _ _ ?_
      exact hx2
    · exact hx2

theorem State.sbStart_canon (s : State) (h0 : State.Canon (s)) :
    State.Canon (State.sbStart s) := by
  unfold State.sbStart
  refine Canon.foldl ?_ ?_
  · intro _ _ g0
    refine Canon.foldl ?_ ?_
    · intro _ _ g1
      split
      · refine Canon.ite ?_ ?_
        · refine State.sbSend_canon _ _ _ ?_
          refine State.updOptic_canon _ _ _ ?_
          exact g1
        · exact g1
      · exact g1
    · exact g0
  · exact h0

theorem State.settled_canon (s : State) (p : Nat) (c : Nat) (h0 : State.Canon (s)) :
    State.Canon (State.settled s p c) := by
  unfold State.settled
  extract_lets -merge x0 x1
  have hx0 : State.Canon (x0) := by
    refine Canon.ite ?_ ?_
    · exact h0
    · refine State.put_canon _ _ _ _ _ ?_
      exact h0
  have hx1 : State.Canon (x1) := by
    refine State.put_canon _ _ _ _ _ ?_
    refine State.put_canon _ _ _ _ _ ?_
    exact hx0
  refine State.leaveWarming_canon _ _ _ ?_
  exact hx1

theorem execFinalSetReceived_canon (p : Fin 64) (c : Fin 2) (s : State) (h2 : State.Canon (s)) :
    Res.Canon (execFinalSetReceived p c s) := by
  unfold execFinalSetReceived
  refine live_canon _ _ ?_ ?_
  · exact h2
  · intro _ g0
    split
    · have g1 := Canon.of_snd (by assumption) (by
        refine State.takePortPost_canon _ _ _ _ ?_
        exact g0
        )
      split
      · extract_lets -merge x2
        refine Canon.ite ?_ ?_
        · refine State.storeDrain_canon _ _ ?_
          refine Canon.mk_iff.mpr ?_
          refine State.Canon.od ?_
          exact g1
        · refine State.bump_canon _ _ _ _ ?_
          exact g1
      · refine State.bump_canon _ _ _ _ ?_
        exact g1
    · have g3 := Canon.of_snd (by assumption) (by
        refine State.takePortPost_canon _ _ _ _ ?_
        exact g0
        )
      exact g3

theorem execCoeffSnapshot_canon (r : Nat) (rate : Fin 4) (s : State) (h2 : State.Canon (s)) :
    Res.Canon (execCoeffSnapshot r rate s) := by
  unfold execCoeffSnapshot
  refine live_canon _ _ ?_ ?_
  · exact h2
  · intro _ g0
    extract_lets -merge x1 x2 x3 x4
    have hx2 : State.Canon (x2) := by
      refine State.updOnu_canon _ _ _ ?_
      exact g0
    refine Canon.ite ?_ ?_
    · refine Canon.mk_iff.mpr ?_
      refine State.Canon.od ?_
      exact hx2
    · exact g0

theorem execPowerFrameReceived_canon (p : Fin 64) (c : Fin 2) (seq : Nat) (value : Nat) (parity : Fin 2) (s : State) (h5 : State.Canon (s)) :
    Res.Canon (execPowerFrameReceived p c seq value parity s) := by
  unfold execPowerFrameReceived
  extract_lets -merge x0
  refine live_canon _ _ ?_ ?_
  · exact h5
  · intro _ g1
    extract_lets -merge x2 x3 x4 x5 x6 x7
    have hx5 : State.Canon (x5) := by
      refine State.bumpBy_canon _ _ _ _ _ ?_
      exact g1
    have hx6 : State.Canon (x6) := by
      refine State.bump_canon _ _ _ _ ?_
      exact hx5
    have hx7 : State.Canon (x7) := by
      refine State.updCh_canon _ _ _ _ ?_
      exact hx6
    clear_value x0
    split
    · extract_lets -merge x8 x9
      have hx8 : State.Canon (x8) := by
        unfold x8
        split
        · refine State.powerSample_canon _ _ _ _ _ ?_
          exact hx7
        · exact hx7
      have hx9 : State.Canon (x9) := by
        refine State.updBurst_canon _ _ _ _ _ ?_
        exact hx8
      split
      · refine State.sendFinal_canon _ _ _ _ ?_
        exact hx9
      · exact hx9
    · exact g1

theorem execRxpSampleTimeout_canon (p : Fin 64) (c : Fin 2) (s : State) (h2 : State.Canon (s)) :
    Res.Canon (execRxpSampleTimeout p c s) := by
  unfold execRxpSampleTimeout
  refine live_canon _ _ ?_ ?_
  · exact h2
  · intro _ g0
    split
    · refine State.sendFinal_canon _ _ _ _ ?_
      exact g0
    · exact g0

theorem execFeederSearchFrame_canon (p : Fin 64) (c : Fin 2) (s : State) (h2 : State.Canon (s)) :
    Res.Canon (execFeederSearchFrame p c s) := by
  unfold execFeederSearchFrame
  refine live_canon _ _ ?_ ?_
  · exact h2
  · intro _ g0
    extract_lets -merge x1 x2 x3 x4 x5
    have hx1 : State.Canon (x1) := by
      refine State.setFeederState_canon _ _ _ _ ?_
      exact g0
    have hx4 : State.Canon (x4) := by
      refine State.bump_canon _ _ _ _ ?_
      exact hx1
    have hx5 : State.Canon (x5) := by
      refine State.event_canon _ _ _ _ ?_
      exact hx4
    refine Canon.ite ?_ ?_
    · exact g0
    · refine Canon.ite ?_ ?_
      · refine State.setFeederState_canon _ _ _ _ ?_
        refine State.setFeeder_canon _ _ _ _ ?_
        exact hx1
      · split
        · extract_lets -merge x6
          have hx6 : State.Canon (x6) := by
            refine State.updLoop_canon _ _ _ _ ?_
            exact hx1
          refine State.setFeeder_canon _ _ _ _ ?_
          exact hx6
        · refine State.feederSearch_canon _ _ _ _ ?_
          exact hx5

theorem execFeederTrackFrame_canon (p : Fin 64) (c : Fin 2) (s : State) (h2 : State.Canon (s)) :
    Res.Canon (execFeederTrackFrame p c s) := by
  unfold execFeederTrackFrame
  refine live_canon _ _ ?_ ?_
  · exact h2
  · intro _ g0
    extract_lets -merge x1 x2 x3 x4 x5 x6 x7
    have hx4 : State.Canon (x4) := by
      refine State.updLoop_canon _ _ _ _ ?_
      exact g0
    refine Canon.ite ?_ ?_
    · exact g0
    · refine Canon.ite ?_ ?_
      · refine State.feederLost_canon _ _ _ ?_
        exact hx4
      · refine Canon.ite ?_ ?_
        · refine Canon.ite ?_ ?_
          · refine State.feederLost_canon _ _ _ ?_
            exact hx4
          · refine State.setFeeder_canon _ _ _ _ ?_
            exact hx4
        · exact hx4

theorem execThermalLoopSample_canon (p : Fin 64) (c : Fin 2) (temp : Int) (s : State) (h3 : State.Canon (s)) :
    Res.Canon (execThermalLoopSample p c temp s) := by
  unfold execThermalLoopSample
  refine live_canon _ _ ?_ ?_
  · exact h3
  · intro _ g0
    extract_lets -merge x1 x2 x3 x4 x5 x6 x7 x8 x9 x10 x11 x12
    have hx8 : State.Canon (x8) := by
      refine State.put_canon _ _ _ _ _ ?_
      refine State.sbRead_canon _ _ _ _ _ ?_
      exact g0
    have hx9 : State.Canon (x9) := by
      refine State.sbWrite_canon _ _ _ _ _ ?_
      refine State.put_canon _ _ _ _ _ ?_
      exact hx8
    have hx12 : State.Canon (x12) := by
      refine State.updLoop_canon _ _ _ _ ?_
      exact hx9
    refine Canon.ite ?_ ?_
    · exact g0
    · refine Canon.ite ?_ ?_
      · refine State.settled_canon _ _ _ ?_
        exact hx12
      · refine Canon.ite ?_ ?_
        · refine State.event_canon _ _ _ _ ?_
          refine State.bump_canon _ _ _ _ ?_
          refine State.put_canon _ _ _ _ _ ?_
          exact hx12
        · exact hx12

theorem execBiasLoopSample_canon (p : Fin 64) (c : Fin 2) (mpdAvg : Nat) (s : State) (h3 : State.Canon (s)) :
    Res.Canon (execBiasLoopSample p c mpdAvg s) := by
  unfold execBiasLoopSample
  refine live_canon _ _ ?_ ?_
  · exact h3
  · intro _ g0
    extract_lets -merge x1 x2 x3 x4 x5 x6 x7
    have hx5 : State.Canon (x5) := by
      refine State.put_canon _ _ _ _ _ ?_
      refine State.sbRead_canon _ _ _ _ _ ?_
      exact g0
    have hx6 : State.Canon (x6) := by
      refine State.sbWrite_canon _ _ _ _ _ ?_
      refine State.put_canon _ _ _ _ _ ?_
      exact hx5
    refine Canon.ite ?_ ?_
    · exact g0
    · refine State.updLoop_canon _ _ _ _ ?_
      exact hx6

theorem execBiasLoopResume_canon (p : Fin 64) (c : Fin 2) (s : State) (h2 : State.Canon (s)) :
    Res.Canon (execBiasLoopResume p c s) := by
  unfold execBiasLoopResume
  refine live_canon _ _ ?_ ?_
  · exact h2
  · intro _ g0
    refine Canon.ite ?_ ?_
    · refine State.updLoop_canon _ _ _ _ ?_
      exact g0
    · exact g0

theorem execExtinctionLoopSample_canon (p : Fin 64) (c : Fin 2) (avg : Nat) (swing : Nat) (s : State) (h4 : State.Canon (s)) :
    Res.Canon (execExtinctionLoopSample p c avg swing s) := by
  unfold execExtinctionLoopSample
  extract_lets -merge x0
  refine live_canon _ _ ?_ ?_
  · exact h4
  · intro _ g1
    extract_lets -merge x2 x3 x4 x5 x6 x7 x8 x9
    have hx7 : State.Canon (x7) := by
      refine State.put_canon _ _ _ _ _ ?_
      refine State.put_canon _ _ _ _ _ ?_
      refine State.sbRead_canon _ _ _ _ _ ?_
      exact g1
    have hx8 : State.Canon (x8) := by
      refine State.sbWrite_canon _ _ _ _ _ ?_
      refine State.put_canon _ _ _ _ _ ?_
      exact hx7
    refine Canon.ite ?_ ?_
    · exact g1
    · refine State.updLoop_canon _ _ _ _ ?_
      exact hx8

theorem execLoopLimitTimeout_canon (p : Fin 64) (c : Fin 2) (s : State) (h2 : State.Canon (s)) :
    Res.Canon (execLoopLimitTimeout p c s) := by
  unfold execLoopLimitTimeout
  refine live_canon _ _ ?_ ?_
  · exact h2
  · intro _ g0
    extract_lets -merge x1 x2
    refine Canon.ite ?_ ?_
    · refine State.put_canon _ _ _ _ _ ?_
      refine State.enterFault_canon _ _ _ _ ?_
      exact g0
    · refine Canon.ite ?_ ?_
      · refine State.put_canon _ _ _ _ _ ?_
        refine State.enterFault_canon _ _ _ _ ?_
        exact g0
      · exact g0

theorem execLaserSafetyTrip_canon (p : Fin 64) (c : Fin 2) (s : State) (h2 : State.Canon (s)) :
    Res.Canon (execLaserSafetyTrip p c s) := by
  unfold execLaserSafetyTrip
  refine live_canon _ _ ?_ ?_
  · exact h2
  · intro _ g0
    refine Canon.ite ?_ ?_
    · refine State.put_canon _ _ _ _ _ ?_
      refine State.enterFault_canon _ _ _ _ ?_
      exact g0
    · exact g0

theorem execLaserRampComplete_canon (p : Fin 64) (c : Fin 2) (s : State) (h2 : State.Canon (s)) :
    Res.Canon (execLaserRampComplete p c s) := by
  unfold execLaserRampComplete
  refine live_canon _ _ ?_ ?_
  · exact h2
  · intro _ g0
    extract_lets -merge x1
    have hx1 : State.Canon (x1) := by
      refine State.updCh_canon _ _ _ _ ?_
      exact g0
    refine Canon.ite ?_ ?_
    · refine State.updLoop_canon _ _ _ _ ?_
      exact hx1
    · exact g0

theorem execSbResponse_canon (p : Fin 64) (status : Fin 4) (count : Fin 16) (data : List Nat) (crc : Nat) (stop : Bool) (s : State) (h6 : State.Canon (s)) :
    Res.Canon (execSbResponse p status count data crc stop s) := by
  unfold execSbResponse
  extract_lets -merge x0
  refine live_canon _ _ ?_ ?_
  · exact h6
  · intro _ g1
    split
    · exact g1
    · refine Canon.ite ?_ ?_
      · refine State.sbNext_canon _ _ ?_
        refine State.updOptic_canon _ _ _ ?_
        exact g1
      · refine State.sbFail_canon _ _ _ ?_
        refine Canon.ite ?_ ?_
        · refine State.bump_canon _ _ _ _ ?_
          exact g1
        · exact g1

theorem execSbTimeout_canon (p : Fin 64) (s : State) (h1 : State.Canon (s)) :
    Res.Canon (execSbTimeout p s) := by
  unfold execSbTimeout
  refine live_canon _ _ ?_ ?_
  · exact h1
  · intro _ g0
    split
    · exact g0
    · refine Canon.ite ?_ ?_
      · exact g0
      · refine State.sbFail_canon _ _ _ ?_
        refine State.bump_canon _ _ _ _ ?_
        exact g0

theorem execModuleAbsent_canon (p : Fin 64) (s : State) (h1 : State.Canon (s)) :
    Res.Canon (execModuleAbsent p s) := by
  unfold execModuleAbsent
  refine live_canon _ _ ?_ ?_
  · exact h1
  · intro _ g0
    extract_lets -merge x1 x2
    have hx1 : State.Canon (x1) := by
      refine State.put_canon _ _ _ _ _ ?_
      exact g0
    have hx2 : State.Canon (x2) := by
      refine State.updOptic_canon _ _ _ ?_
      exact hx1
    refine State.portFault_canon _ _ _ ?_
    exact hx2

theorem execModuleDetected_canon (p : Fin 64) (s : State) (h1 : State.Canon (s)) :
    Res.Canon (execModuleDetected p s) := by
  unfold execModuleDetected
  refine live_canon _ _ ?_ ?_
  · exact h1
  · intro _ g0
    extract_lets -merge x1
    have hx1 : State.Canon (x1) := by
      refine State.updOptic_canon _ _ _ ?_
      exact g0
    refine State.sbSend_canon _ _ _ ?_
    refine State.sbSend_canon _ _ _ ?_
    exact hx1

theorem execModuleReadComplete_canon (p : Fin 64) (modId : Nat) (caps : Nat) (cal0 : List Nat) (cal1 : List Nat) (s : State) (h5 : State.Canon (s)) :
    Res.Canon (execModuleReadComplete p modId caps cal0 cal1 s) := by
  unfold execModuleReadComplete
  refine live_canon _ _ ?_ ?_
  · exact h5
  · intro _ g0
    extract_lets -merge x1 x2 x3 x4 x5 x6 x7
    have hx1 : State.Canon (x1) := by
      refine State.put_canon _ _ _ _ _ ?_
      exact g0
    have hx2 : State.Canon (x2) := by
      refine State.put_canon _ _ _ _ _ ?_
      exact hx1
    have hx3 : State.Canon (x3) := by
      refine State.updOptic_canon _ _ _ ?_
      exact hx2
    have hx4 : State.Canon (x4) := by
      refine State.put_canon _ _ _ _ _ ?_
      exact hx2
    have hx5 : State.Canon (x5) := by
      refine State.updOptic_canon _ _ _ ?_
      exact hx4
    have hx6 : State.Canon (x6) := by
      refine State.sbSend_canon _ _ _ ?_
      exact hx5
    have hx7 : State.Canon (x7) := by
      refine State.sbWrite_canon _ _ _ _ _ ?_
      refine State.sbWrite_canon _ _ _ _ _ ?_
      exact hx6
    refine Canon.ite ?_ ?_
    · exact g0
    · refine Canon.ite ?_ ?_
      · refine State.portFault_canon _ _ _ ?_
        refine State.event_canon _ _ _ _ ?_
        exact hx3
      · refine Canon.ite ?_ ?_
        · refine State.enterFault_canon _ _ _ _ ?_
          exact hx7
        · exact hx7

end Sys2Proof.Machine
end

