-- ==== Sys2Proof/Laws/CanonFamTwin.lean ====
section
/-! SUPPORT. The definitions of FamTwin keep the object store canonical. -/

namespace Sys2Proof.Machine

theorem State.activeStart_canon (s : State) (n : Nat) (h0 : State.Canon (s)) :
    State.Canon (State.activeStart s n) := by
  unfold State.activeStart
  extract_lets -merge x0 x1 x2 x3
  have hx3 : State.Canon (x3) := by
    refine State.setTwin_canon _ _ ?_
    exact h0
  refine State.feederClear_canon _ ?_
  refine State.put_canon _ _ _ _ _ ?_
  exact hx3

theorem State.twinWrite_canon (s : State) (v : Nat) (seeking : Bool) (h0 : State.Canon (s)) :
    State.Canon (State.twinWrite s v seeking) := by
  unfold State.twinWrite
  refine Canon.foldl ?_ ?_
  · intro _ _ g0
    extract_lets -merge x1 x2
    refine Canon.ite ?_ ?_
    · refine State.chCmdApply_canon _ _ _ _ ?_
      exact g0
    · exact g0
  · exact h0

theorem State.twinState_canon (s : State) (st : Nat) (h0 : State.Canon (s)) :
    State.Canon (State.twinState s st) := by
  unfold State.twinState
  extract_lets -merge x0 x1
  have hx1 : State.Canon (x1) := by
    refine State.put_canon _ _ _ _ _ ?_
    refine State.put_canon _ _ _ _ _ ?_
    exact h0
  refine Canon.ite ?_ ?_
  · exact hx1
  · refine State.feederClear_canon _ ?_
    exact hx1

theorem State.twinSeek_canon (s : State) (h0 : State.Canon (s)) :
    State.Canon (State.twinSeek s) := by
  unfold State.twinSeek
  extract_lets -merge x0 x1
  have hx1 : State.Canon (x1) := by
    refine State.setTwin_canon _ _ ?_
    exact h0
  refine State.twinWrite_canon _ _ _ ?_
  refine State.twinState_canon _ _ ?_
  refine State.emit_canon _ _ ?_
  exact hx1

theorem State.twinOff_canon (s : State) (h0 : State.Canon (s)) :
    State.Canon (State.twinOff s) := by
  unfold State.twinOff
  extract_lets -merge x0 x1 x2
  have hx1 : State.Canon (x1) := by
    refine State.twinState_canon _ _ ?_
    refine State.emit_canon _ _ ?_
    exact h0
  have hx2 : State.Canon (x2) := by
    refine Canon.foldl ?_ ?_
    · intro _ _ g3
      refine Canon.ite ?_ ?_
      · refine State.chCmdApply_canon _ _ _ _ ?_
        exact g3
      · exact g3
    · exact hx1
  refine State.setTwin_canon _ _ ?_
  exact hx2

theorem State.twinSwitch_canon (s : State) (h0 : State.Canon (s)) :
    State.Canon (State.twinSwitch s).2 := by
  unfold State.twinSwitch
  refine Canon.ite2 ?_ ?_
  · refine Canon.pair ?_
    refine State.handOverTo_canon _ _ ?_
    exact h0
  · refine Canon.ite2 ?_ ?_
    · refine Canon.pair ?_
      refine State.ctrl_canon _ _ _ _ ?_
      exact h0
    · refine Canon.pair ?_
      exact h0

theorem State.takeOver_canon (s : State) (cause : Nat) (linkUp : Bool) (h0 : State.Canon (s)) :
    State.Canon (State.takeOver s cause linkUp) := by
  unfold State.takeOver
  extract_lets -merge x0 x1 x2 x3
  have hx1 : State.Canon (x1) := by
    refine State.activeStart_canon _ _ ?_
    exact h0
  have hx2 : State.Canon (x2) := by
    refine State.twinWrite_canon _ _ _ ?_
    refine State.twinState_canon _ _ ?_
    exact hx1
  have hx3 : State.Canon (x3) := by
    refine State.ctrl_canon _ _ _ _ ?_
    exact hx2
  refine State.switched_canon _ _ _ _ ?_
  exact hx3

theorem State.twinForce_canon (s : State) (h0 : State.Canon (s)) :
    State.Canon (State.twinForce s).2 := by
  unfold State.twinForce
  extract_lets -merge x0
  refine Canon.ite2 ?_ ?_
  · refine Canon.pair ?_
    refine State.handOverTo_canon _ _ ?_
    exact h0
  · refine Canon.ite2 ?_ ?_
    · refine Canon.pair ?_
      refine State.ctrl_canon _ _ _ _ ?_
      exact h0
    · refine Canon.ite2 ?_ ?_
      · refine Canon.pair ?_
        refine State.takeOver_canon _ _ _ ?_
        exact h0
      · refine Canon.pair ?_
        exact h0

theorem State.clearSuspect_canon (s : State) (h0 : State.Canon (s)) :
    State.Canon (State.clearSuspect s) := by
  unfold State.clearSuspect
  refine State.put_canon _ _ _ _ _ ?_
  refine Canon.ite ?_ ?_
  · refine State.twinState_canon _ _ ?_
    exact h0
  · exact h0

theorem State.resync_canon (s : State) (h0 : State.Canon (s)) :
    State.Canon (State.resync s) := by
  unfold State.resync
  extract_lets -merge x0
  have hx0 : State.Canon (x0) := by
    refine State.ctrl_canon _ _ _ _ ?_
    refine State.bump_canon _ _ _ _ ?_
    exact h0
  refine State.setTwin_canon _ _ ?_
  refine State.twinState_canon _ _ ?_
  exact hx0

theorem State.startBulk_canon (s : State) (h0 : State.Canon (s)) :
    State.Canon (State.startBulk s) := by
  unfold State.startBulk
  refine State.setTwin_canon _ _ ?_
  exact h0

theorem State.twinResync_canon (s : State) (h0 : State.Canon (s)) :
    State.Canon (State.twinResync s).2 := by
  unfold State.twinResync
  extract_lets -merge x0
  refine Canon.ite2 ?_ ?_
  · refine Canon.pair ?_
    refine State.resync_canon _ ?_
    exact h0
  · refine Canon.ite2 ?_ ?_
    · refine Canon.pair ?_
      refine State.startBulk_canon _ ?_
      exact h0
    · refine Canon.pair ?_
      exact h0

theorem State.legacyRecord_canon (s : State) (l : List Nat) (h0 : State.Canon (s)) :
    State.Canon (State.legacyRecord s l) := by
  unfold State.legacyRecord
  extract_lets -merge x0 x1 x2
  have hx1 : ∀ y0, State.Canon (y0) → State.Canon (x1 y0) := by
    intro _ g3
    unfold x1
    refine State.bump_canon _ _ _ _ ?_
    exact g3
  split
  · exact h0
  · split
    · refine Canon.ite ?_ ?_
      · refine hx1 _ ?_
        exact h0
      · split
        · refine hx1 _ ?_
          exact h0
        · extract_lets -merge x4
          have hx4 : State.Canon (x4) := by
            refine State.createOnu_canon _ _ _ _ _ _ _ ?_
            exact h0
          refine State.rputK_canon _ _ _ _ ?_
          refine State.rputK_canon _ _ _ _ ?_
          refine State.rputK_canon _ _ _ _ ?_
          exact hx4
    · refine Canon.ite ?_ ?_
      · refine hx1 _ ?_
        exact h0
      · split
        · refine hx1 _ ?_
          exact h0
        · extract_lets -merge x5
          have hx5 : State.Canon (x5) := by
            refine State.markNew_canon _ _ _ ?_
            exact h0
          refine Canon.foldl ?_ ?_
          · intro _ _ g6
            refine State.rputK_canon _ _ _ _ ?_
            exact g6
          · exact hx5
    · refine Canon.ite ?_ ?_
      · refine hx1 _ ?_
        exact h0
      · split
        · refine hx1 _ ?_
          exact h0
        · extract_lets -merge x7
          have hx7 : State.Canon (x7) := by
            refine State.markNew_canon _ _ _ ?_
            exact h0
          refine Canon.foldl ?_ ?_
          · intro _ _ g8
            refine State.rputK_canon _ _ _ _ ?_
            exact g8
          · exact hx7

theorem State.legacyTake_canon (s : State) (h0 : State.Canon (s)) :
    State.Canon (State.legacyTake s) := by
  unfold State.legacyTake
  extract_lets -merge x0 x1 x2 x3 x4 x5
  have hx4 : State.Canon (x4) := by
    refine Canon.foldl ?_ ?_
    · intro _ _ g6
      refine State.legacyRecord_canon _ _ ?_
      exact g6
    · exact h0
  have hx5 : State.Canon (x5) := by
    refine State.twinState_canon _ _ ?_
    exact hx4
  refine Canon.foldl ?_ ?_
  · intro _ _ g7
    split
    · extract_lets -merge x8
      have hx8 : State.Canon (x8) := by
        refine Canon.ite ?_ ?_
        · refine State.chCmdApply_canon _ _ _ _ ?_
          exact g7
        · exact g7
      refine State.enterFast_canon _ _ _ ?_
      exact hx8
    · exact g7
  · exact hx5

theorem execLegacyTakeover_canon (s : State) (h0 : State.Canon (s)) :
    Res.Canon (execLegacyTakeover s) := by
  unfold execLegacyTakeover
  refine live_canon _ _ ?_ ?_
  · exact h0
  · intro _ g0
    refine Canon.ite ?_ ?_
    · refine State.result_canon _ _ _ _ _ _ ?_
      refine State.legacyTake_canon _ ?_
      exact g0
    · refine State.result_canon _ _ _ _ _ _ ?_
      exact g0

theorem State.legacyHold_canon (s : State) (h0 : State.Canon (s)) :
    State.Canon (State.legacyHold s) := by
  unfold State.legacyHold
  refine Canon.foldl ?_ ?_
  · intro _ _ g0
    split
    · refine Canon.ite ?_ ?_
      · refine State.chCmdApply_canon _ _ _ _ ?_
        exact g0
      · exact g0
    · exact g0
  · refine State.twinState_canon _ _ ?_
    exact h0

theorem State.askMissing_canon (s : State) (next : Nat) (k : Nat) (h0 : State.Canon (s)) :
    State.Canon (State.askMissing s next k) := by
  unfold State.askMissing
  extract_lets -merge x0
  refine Canon.foldl ?_ ?_
  · intro _ _ g1
    refine State.setTwin_canon _ _ ?_
    refine State.ctrl_canon _ _ _ _ ?_
    refine State.bump_canon _ _ _ _ ?_
    exact g1
  · exact h0

theorem State.confirmUpTo_canon (s : State) (k : Nat) (h0 : State.Canon (s)) :
    State.Canon (State.confirmUpTo s k) := by
  unfold State.confirmUpTo
  extract_lets -merge x0 x1
  have hx1 : State.Canon (x1) := by
    refine Canon.foldl ?_ ?_
    · intro _ _ g2
      refine State.sendReply_canon _ _ ?_
      exact g2
    · exact h0
  refine State.setTwin_canon _ _ ?_
  exact hx1

theorem State.digestStart_canon (s : State) (h0 : State.Canon (s)) :
    State.Canon (State.digestStart s) := by
  unfold State.digestStart
  refine State.setTwin_canon _ _ ?_
  exact h0

theorem State.legFinish_canon (s : State) (k : Nat) (h0 : State.Canon (s)) :
    State.Canon (State.legFinish s k) := by
  unfold State.legFinish
  extract_lets -merge x0
  split
  · refine Canon.ite ?_ ?_
    · refine State.put_canon _ _ _ _ _ ?_
      refine State.put_canon _ _ _ _ _ ?_
      exact h0
    · refine State.bump_canon _ _ _ _ ?_
      refine State.put_canon _ _ _ _ _ ?_
      exact h0
  · refine State.put_canon _ _ _ _ _ ?_
    exact h0
  · exact h0

theorem State.makeSuspect_canon (s : State) (cause : Nat) (h0 : State.Canon (s)) :
    State.Canon (State.makeSuspect s cause) := by
  unfold State.makeSuspect
  extract_lets -merge x0
  have hx0 : State.Canon (x0) := by
    refine State.put_canon _ _ _ _ _ ?_
    refine State.twinState_canon _ _ ?_
    exact h0
  refine Canon.ite ?_ ?_
  · refine State.event_canon _ _ _ _ ?_
    refine State.ctrl_canon _ _ _ _ ?_
    exact hx0
  · exact h0

theorem State.peerGone_canon (s : State) (h0 : State.Canon (s)) :
    State.Canon (State.peerGone s) := by
  unfold State.peerGone
  extract_lets -merge x0 x1
  have hx1 : State.Canon (x1) := by
    refine State.twinState_canon _ _ ?_
    refine State.bump_canon _ _ _ _ ?_
    exact h0
  refine Canon.ite ?_ ?_
  · exact h0
  · refine Canon.ite ?_ ?_
    · refine State.event_canon _ _ _ _ ?_
      exact hx1
    · refine Canon.ite ?_ ?_
      · refine State.twinState_canon _ _ ?_
        exact h0
      · refine Canon.ite ?_ ?_
        · refine Canon.ite ?_ ?_
          · exact h0
          · refine State.event_canon _ _ _ _ ?_
            refine State.setTwin_canon _ _ ?_
            exact h0
        · refine State.takeOver_canon _ _ _ ?_
          exact h0

theorem State.sendHello_canon (s : State) (h0 : State.Canon (s)) :
    State.Canon (State.sendHello s) := by
  unfold State.sendHello
  refine State.setTwin_canon _ _ ?_
  refine State.ctrl_canon _ _ _ _ ?_
  exact h0

theorem State.setLegSlot_canon (s : State) (k : Nat) (a2 : LegSlot) (h0 : State.Canon (s)) :
    State.Canon (State.setLegSlot s k a2) := by
  unfold State.setLegSlot
  extract_lets -merge x0
  have hx0 : State.Canon (x0) := by
    refine State.ddrAccess_canon _ _ _ ?_
    exact h0
  refine State.setTwin_canon _ _ ?_
  exact hx0

theorem State.standbyClose_canon (s : State) (a1 : Bool) (h0 : State.Canon (s)) :
    State.Canon (State.standbyClose s a1) := by
  unfold State.standbyClose
  extract_lets -merge x0 x1
  have hx1 : State.Canon (x1) := by
    refine Canon.foldl ?_ ?_
    · intro _ _ g2
      refine Canon.ite ?_ ?_
      · refine State.closeChannel_canon _ _ _ _ ?_
        exact g2
      · exact g2
    · exact h0
  refine State.setTwin_canon _ _ ?_
  exact hx1

theorem State.standbyStart_canon (s : State) (st : Nat) (h0 : State.Canon (s)) :
    State.Canon (State.standbyStart s st) := by
  unfold State.standbyStart
  extract_lets -merge x0 x1
  have hx0 : State.Canon (x0) := by
    refine State.setTwin_canon _ _ ?_
    exact h0
  have hx1 : State.Canon (x1) := by
    refine State.twinWrite_canon _ _ _ ?_
    refine State.twinState_canon _ _ ?_
    exact hx0
  refine Canon.foldl ?_ ?_
  · intro _ _ g2
    refine State.setFeederState_canon _ _ _ _ ?_
    refine State.feederSearch_canon _ _ _ _ ?_
    exact g2
  · exact hx1

theorem State.streamCompare_canon (s : State) (k : Nat) (peer : List SpanEnt) (first : Bool) (a4 : Nat) (h0 : State.Canon (s)) :
    State.Canon (State.streamCompare s k peer first a4).1 := by
  unfold State.streamCompare
  extract_lets -merge x0 x1 x2 x3 x4 x5 x6 x7 x8 x9 x10 x11
  have hx7 : ∀ y0, State.Canon (y0) → State.Canon (x7 y0) := by
    intro _ g12
    unfold x7
    refine State.setTwin_canon _ _ ?_
    exact g12
  have hx8 : ∀ y0, State.Canon (y0) → State.Canon (x8 y0) := by
    intro _ g13
    unfold x8
    extract_lets -merge x14
    have hx14 : State.Canon (x14) := by
      refine State.setTwin_canon _ _ ?_
      exact g13
    refine hx7 _ ?_
    exact hx14
  refine Canon.iteF ?_ ?_
  · refine Canon.fstI ?_
    exact h0
  · refine Canon.iteF ?_ ?_
    · refine Canon.fstI ?_
      refine hx7 _ ?_
      exact h0
    · refine Canon.iteF ?_ ?_
      · refine Canon.fstI ?_
        refine State.bump_canon _ _ _ _ ?_
        refine hx8 _ ?_
        exact h0
      · refine Canon.iteF ?_ ?_
        · refine Canon.fstI ?_
          exact h0
        · refine Canon.iteF ?_ ?_
          · refine Canon.fstI ?_
            refine Canon.ite ?_ ?_
            · refine State.bump_canon _ _ _ _ ?_
              refine hx8 _ ?_
              exact h0
            · exact h0
          · refine Canon.fstI ?_
            refine State.bump_canon _ _ _ _ ?_
            refine Canon.ite ?_ ?_
            · refine hx8 _ ?_
              exact h0
            · exact h0

theorem State.takeEpoch_canon (s : State) (h0 : State.Canon (s)) :
    State.Canon (State.takeEpoch s) := by
  unfold State.takeEpoch
  extract_lets -merge x0
  have hx0 : State.Canon (x0) := by
    refine State.setTwin_canon _ _ ?_
    exact h0
  split
  · exact h0
  · extract_lets -merge x1 x2 x3
    have hx2 : State.Canon (x2) := by
      refine State.put_canon _ _ _ _ _ ?_
      exact hx0
    refine Canon.ite ?_ ?_
    · exact h0
    · refine Canon.ite ?_ ?_
      · exact hx0
      · refine State.setTwin_canon _ _ ?_
        refine Canon.mk_iff.mpr ?_
        refine State.Canon.od ?_
        exact hx2

theorem State.takeRole_canon (s : State) (h0 : State.Canon (s)) :
    State.Canon (State.takeRole s) := by
  unfold State.takeRole
  split
  · refine Canon.ite ?_ ?_
    · refine State.startBulk_canon _ ?_
      refine State.twinState_canon _ _ ?_
      refine State.activeStart_canon _ _ ?_
      exact h0
    · exact h0
  · exact h0

theorem State.trySync_canon (s : State) (h0 : State.Canon (s)) :
    State.Canon (State.trySync s) := by
  unfold State.trySync
  refine Canon.ite ?_ ?_
  · refine State.twinState_canon _ _ ?_
    exact h0
  · exact h0

theorem State.unexplained_canon (s : State) (cause : Nat) (h0 : State.Canon (s)) :
    State.Canon (State.unexplained s cause) := by
  unfold State.unexplained
  extract_lets -merge x0 x1 x2 x3 x4
  have hx3 : State.Canon (x3) := by
    refine Canon.ite ?_ ?_
    · refine State.event_canon _ _ _ _ ?_
      exact h0
    · exact h0
  refine Canon.ite ?_ ?_
  · refine Canon.ite ?_ ?_
    · refine Canon.ite ?_ ?_
      · refine State.handOverTo_canon _ _ ?_
        exact h0
      · exact h0
    · exact h0
  · refine Canon.ite ?_ ?_
    · refine State.ctrl_canon _ _ _ _ ?_
      refine State.setTwin_canon _ _ ?_
      exact hx3
    · refine State.makeSuspect_canon _ _ ?_
      exact hx3

theorem execBeatSend_canon (s : State) (h0 : State.Canon (s)) :
    Res.Canon (execBeatSend s) := by
  unfold execBeatSend
  refine live_canon _ _ ?_ ?_
  · exact h0
  · intro _ g0
    extract_lets -merge x1 x2 x3
    have hx2 : State.Canon (x2) := by
      refine State.refreshFaults_canon _ ?_
      exact g0
    have hx3 : State.Canon (x3) := by
      refine State.ctrl_canon _ _ _ _ ?_
      exact hx2
    refine Canon.ite ?_ ?_
    · exact g0
    · refine State.setTwin_canon _ _ ?_
      exact hx3

theorem execBeatRx_canon (f : CtrlIn) (role : Nat) (st : Nat) (faults : Nat) (sent : Nat) (applied : Nat) (s : State) (h6 : State.Canon (s)) :
    Res.Canon (execBeatRx f role st faults sent applied s) := by
  unfold execBeatRx
  refine ctrlRx_canon _ _ _ _ _ _ ?_ ?_
  · exact h6
  · intro _ g0
    extract_lets -merge x1 x2 x3
    have hx1 : State.Canon (x1) := by
      refine State.setTwin_canon _ _ ?_
      exact g0
    have hx2 : State.Canon (x2) := by
      refine State.put_canon _ _ _ _ _ ?_
      exact hx1
    have hx3 : State.Canon (x3) := by
      refine State.takeEpoch_canon _ ?_
      exact hx2
    refine Canon.ite ?_ ?_
    · exact hx1
    · refine Canon.ite ?_ ?_
      · refine State.faultSwitch_canon _ ?_
        refine Canon.ite ?_ ?_
        · refine State.confirmUpTo_canon _ _ ?_
          exact hx2
        · exact hx2
      · split
        · refine Canon.ite ?_ ?_
          · refine State.resync_canon _ ?_
            exact hx3
          · exact hx3
        · exact hx3

theorem execBeatLost_canon (s : State) (h0 : State.Canon (s)) :
    Res.Canon (execBeatLost s) := by
  unfold execBeatLost
  refine live_canon _ _ ?_ ?_
  · exact h0
  · intro _ g0
    refine State.peerGone_canon _ ?_
    exact g0

theorem execHbInLost_canon (edge : Nat) (s : State) (h1 : State.Canon (s)) :
    Res.Canon (execHbInLost edge s) := by
  unfold execHbInLost
  refine live_canon _ _ ?_ ?_
  · exact h1
  · intro _ g0
    refine Canon.ite ?_ ?_
    · exact g0
    · refine State.peerGone_canon _ ?_
      refine State.setTwin_canon _ _ ?_
      exact g0

theorem execHbInPresent_canon (edges : List Nat) (s : State) (h1 : State.Canon (s)) :
    Res.Canon (execHbInPresent edges s) := by
  unfold execHbInPresent
  refine live_canon _ _ ?_ ?_
  · exact h1
  · intro _ g0
    refine Canon.ite ?_ ?_
    · refine State.setTwin_canon _ _ ?_
      exact g0
    · exact g0

theorem execHelloRx_canon (f : CtrlIn) (h : Hello) (auth : Bool) (s : State) (h3 : State.Canon (s)) :
    Res.Canon (execHelloRx f h auth s) := by
  unfold execHelloRx
  refine ctrlRx_canon _ _ _ _ _ _ ?_ ?_
  · exact h3
  · intro _ g0
    extract_lets -merge x1 x2 x3 x4 x5 x6 x7 x8
    have hx3 : State.Canon (x3) := by
      refine State.sendHello_canon _ ?_
      refine State.put_canon _ _ _ _ _ ?_
      exact g0
    have hx5 : State.Canon (x5) := by
      refine State.setTwin_canon _ _ ?_
      exact hx3
    have hx7 : State.Canon (x7) := by
      refine Canon.mk_iff.mpr ?_
      refine State.Canon.od ?_
      exact hx5
    have hx8 : State.Canon (x8) := by
      refine State.twinState_canon _ _ ?_
      refine State.putK_canon _ _ _ _ _ ?_
      exact hx7
    refine Canon.ite ?_ ?_
    · refine Canon.ite ?_ ?_
      · refine State.sendHello_canon _ ?_
        exact g0
      · exact g0
    · refine Canon.ite ?_ ?_
      · exact g0
      · refine Canon.ite ?_ ?_
        · refine State.event_canon _ _ _ _ ?_
          refine Canon.ite ?_ ?_
          · exact hx3
          · refine State.twinState_canon _ _ ?_
            exact hx3
        · refine Canon.ite ?_ ?_
          · refine State.digestStart_canon _ ?_
            refine State.startBulk_canon _ ?_
            refine State.twinWrite_canon _ _ _ ?_
            exact hx8
          · refine State.takeEpoch_canon _ ?_
            refine State.setTwin_canon _ _ ?_
            refine State.digestStart_canon _ ?_
            refine State.standbyStart_canon _ _ ?_
            refine State.putK_canon _ _ _ _ _ ?_
            exact hx7

theorem execSeekTimeout_canon (s : State) (h0 : State.Canon (s)) :
    Res.Canon (execSeekTimeout s) := by
  unfold execSeekTimeout
  refine live_canon _ _ ?_ ?_
  · exact h0
  · intro _ g0
    extract_lets -merge x1
    refine Canon.ite ?_ ?_
    · refine State.twinWrite_canon _ _ _ ?_
      refine State.twinState_canon _ _ ?_
      exact g0
    · exact g0

theorem execMirrorRx_canon (f : CtrlIn) (lazy : Bool) (entries : List MirEntry) (s : State) (h3 : State.Canon (s)) :
    Res.Canon (execMirrorRx f lazy entries s) := by
  unfold execMirrorRx
  extract_lets -merge x0
  refine ctrlRx_canon _ _ _ _ _ _ ?_ ?_
  · exact h3
  · intro _ g1
    refine Canon.ite ?_ ?_
    · exact g1
    · refine Canon.ite ?_ ?_
      · refine Canon.foldl ?_ ?_
        · intro _ _ g2
          refine State.mirrorApply_canon _ _ ?_
          exact g2
        · exact g1
      · refine State.setTwin_canon _ _ ?_
        exact g1

theorem execCommitRx_canon (f : CtrlIn) (k : Nat) (frames : Nat) (entries : Nat) (crc : Nat) (s : State) (h5 : State.Canon (s)) :
    Res.Canon (execCommitRx f k frames entries crc s) := by
  unfold execCommitRx
  refine ctrlRx_canon _ _ _ _ _ _ ?_ ?_
  · exact h5
  · intro _ g0
    extract_lets -merge x1 x2 x3 x4 x5
    have hx3 : State.Canon (x3) := by
      refine State.setTwin_canon _ _ ?_
      exact g0
    refine Canon.ite ?_ ?_
    · exact g0
    · refine Canon.ite ?_ ?_
      · exact hx3
      · refine Canon.ite ?_ ?_
        · refine State.setTwin_canon _ _ ?_
          refine State.ctrl_canon _ _ _ _ ?_
          refine State.bump_canon _ _ _ _ ?_
          refine State.askMissing_canon _ _ _ ?_
          exact hx3
        · refine Canon.ite ?_ ?_
          · refine State.trySync_canon _ ?_
            refine State.groupsFollow_canon _ _ ?_
            refine State.groupApply_canon _ _ _ ?_
            refine Canon.ite ?_ ?_
            · refine State.standbyClose_canon _ _ ?_
              exact hx3
            · exact hx3
          · refine State.askMissing_canon _ _ _ ?_
            refine State.setTwin_canon _ _ ?_
            exact hx3

theorem execResendRx_canon (f : CtrlIn) (k : Nat) (s : State) (h2 : State.Canon (s)) :
    Res.Canon (execResendRx f k s) := by
  unfold execResendRx
  refine ctrlRx_canon _ _ _ _ _ _ ?_ ?_
  · exact h2
  · intro _ g0
    split
    · extract_lets -merge x1
      have hx1 : State.Canon (x1) := by
        refine Canon.ite ?_ ?_
        · exact g0
        · refine State.sendMirror_canon _ _ _ ?_
          exact g0
      refine State.sendCommit_canon _ _ _ ?_
      exact hx1
    · exact g0

theorem execResyncRx_canon (f : CtrlIn) (s : State) (h1 : State.Canon (s)) :
    Res.Canon (execResyncRx f s) := by
  unfold execResyncRx
  refine ctrlRx_canon _ _ _ _ _ _ ?_ ?_
  · exact h1
  · intro _ g0
    refine Canon.ite ?_ ?_
    · refine State.startBulk_canon _ ?_
      exact g0
    · refine Canon.ite ?_ ?_
      · refine State.trySync_canon _ ?_
        refine State.setTwin_canon _ _ ?_
        exact g0
      · exact g0

theorem execFeederRx_canon (f : CtrlIn) (chans : List (Nat × Int × Int)) (s : State) (h2 : State.Canon (s)) :
    Res.Canon (execFeederRx f chans s) := by
  unfold execFeederRx
  refine ctrlRx_canon _ _ _ _ _ _ ?_ ?_
  · exact h2
  · intro _ g0
    refine Canon.foldl ?_ ?_
    · intro _ _ g1
      refine State.setTwin_canon _ _ ?_
      exact g1
    · exact g0

theorem execSuspectRx_canon (f : CtrlIn) (cause : Nat) (s : State) (h2 : State.Canon (s)) :
    Res.Canon (execSuspectRx f cause s) := by
  unfold execSuspectRx
  refine ctrlRx_canon _ _ _ _ _ _ ?_ ?_
  · exact h2
  · intro _ g0
    refine Canon.ite ?_ ?_
    · refine State.setTwin_canon _ _ ?_
      exact g0
    · refine State.makeSuspect_canon _ _ ?_
      exact g0

theorem execMirrorConfirmTimeout_canon (s : State) (h0 : State.Canon (s)) :
    Res.Canon (execMirrorConfirmTimeout s) := by
  unfold execMirrorConfirmTimeout
  refine live_canon _ _ ?_ ?_
  · exact h0
  · intro _ g0
    split
    · exact g0
    · extract_lets -merge x1
      have hx1 : State.Canon (x1) := by
        refine State.setTwin_canon _ _ ?_
        exact g0
      refine Canon.ite ?_ ?_
      · exact g0
      · refine State.sendReply_canon _ _ ?_
        refine State.bump_canon _ _ _ _ ?_
        exact hx1

theorem execStandbyMapClose_canon (s : State) (h0 : State.Canon (s)) :
    Res.Canon (execStandbyMapClose s) := by
  unfold execStandbyMapClose
  refine live_canon _ _ ?_ ?_
  · exact h0
  · intro _ g0
    extract_lets -merge x1 x2
    refine Canon.ite ?_ ?_
    · exact g0
    · refine State.standbyClose_canon _ _ ?_
      exact g0

theorem execMapCompare_canon (k : Nat) (peer : List Nat) (s : State) (h2 : State.Canon (s)) :
    Res.Canon (execMapCompare k peer s) := by
  unfold execMapCompare
  refine live_canon _ _ ?_ ?_
  · exact h2
  · intro _ g0
    extract_lets -merge x1 x2 x3
    have hx2 : State.Canon (x2) := by
      refine State.setTwin_canon _ _ ?_
      exact g0
    refine Canon.ite ?_ ?_
    · exact g0
    · split
      · have g4 := Canon.of_fst (by assumption) (by
          refine Canon.foldlF ?_ ?_
          · intro _ _ g5
            split
            · extract_lets -merge x7
              have hx7 : State.Canon (x7) := by
                refine State.bump_canon _ _ _ _ ?_
                exact g5
              split
              · refine Canon.fstI ?_
                exact g5
              · refine Canon.iteF ?_ ?_
                · refine Canon.fstI ?_
                  exact g5
                · refine Canon.iteF ?_ ?_
                  · refine Canon.fstI ?_
                    refine State.bump_canon _ _ _ _ ?_
                    exact hx7
                  · refine Canon.fstI ?_
                    exact hx7
          · refine Canon.fstI ?_
            exact hx2
          )
        refine Canon.ite ?_ ?_
        · refine State.unexplained_canon _ _ ?_
          exact g4
        · exact g4

theorem execSpanCompare_canon (k : Nat) (peerNonWhole : List (Nat × Nat)) (peer : List SpanEnt) (s : State) (h3 : State.Canon (s)) :
    Res.Canon (execSpanCompare k peerNonWhole peer s) := by
  unfold execSpanCompare
  refine live_canon _ _ ?_ ?_
  · exact h3
  · intro _ g0
    extract_lets -merge x1 x2 x3
    have hx1 : State.Canon (x1) := by
      refine State.setTwin_canon _ _ ?_
      exact g0
    refine Canon.ite ?_ ?_
    · exact g0
    · split
      · have g4 := Canon.of_fst (by assumption) (by
          refine Canon.foldlF ?_ ?_
          · intro _ _ g5
            split
            · have g6 := Canon.of_fst (by assumption) (by
                refine State.streamCompare_canon _ _ _ _ _ ?_
                exact g5
                )
              refine Canon.fstI ?_
              exact g6
          · refine Canon.fstI ?_
            exact hx1
          )
        extract_lets -merge x7 x8
        have hx7 : State.Canon (x7) := by
          refine State.setTwin_canon _ _ ?_
          exact g4
        have hx8 : State.Canon (x8) := by
          refine Canon.ite ?_ ?_
          · refine State.unexplained_canon _ _ ?_
            exact hx7
          · exact hx7
        refine State.trySync_canon _ ?_
        exact hx8

theorem execDigestMissing_canon (span : Bool) (k : Nat) (s : State) (h2 : State.Canon (s)) :
    Res.Canon (execDigestMissing span k s) := by
  unfold execDigestMissing
  refine live_canon _ _ ?_ ?_
  · exact h2
  · intro _ g0
    refine Canon.ite ?_ ?_
    · exact g0
    · refine Canon.ite ?_ ?_
      · refine Canon.ite ?_ ?_
        · exact g0
        · refine State.bump_canon _ _ _ _ ?_
          refine State.setTwin_canon _ _ ?_
          exact g0
      · refine Canon.ite ?_ ?_
        · exact g0
        · refine State.bump_canon _ _ _ _ ?_
          refine State.setTwin_canon _ _ ?_
          exact g0

theorem execTwinSwitchCmd_canon (s : State) (h0 : State.Canon (s)) :
    Res.Canon (execTwinSwitchCmd s) := by
  unfold execTwinSwitchCmd
  refine live_canon _ _ ?_ ?_
  · exact h0
  · intro _ g0
    split
    · have g1 := Canon.of_snd (by assumption) (by
        refine State.twinSwitch_canon _ ?_
        exact g0
        )
      refine State.result_canon _ _ _ _ _ _ ?_
      exact g1

theorem execTwinForce_canon (s : State) (h0 : State.Canon (s)) :
    Res.Canon (execTwinForce s) := by
  unfold execTwinForce
  refine live_canon _ _ ?_ ?_
  · exact h0
  · intro _ g0
    split
    · have g1 := Canon.of_snd (by assumption) (by
        refine State.twinForce_canon _ ?_
        exact g0
        )
      refine State.result_canon _ _ _ _ _ _ ?_
      exact g1

theorem execClearSuspect_canon (s : State) (h0 : State.Canon (s)) :
    Res.Canon (execClearSuspect s) := by
  unfold execClearSuspect
  refine live_canon _ _ ?_ ?_
  · exact h0
  · intro _ g0
    refine State.result_canon _ _ _ _ _ _ ?_
    refine State.clearSuspect_canon _ ?_
    exact g0

theorem execTwinResyncCmd_canon (s : State) (h0 : State.Canon (s)) :
    Res.Canon (execTwinResyncCmd s) := by
  unfold execTwinResyncCmd
  refine live_canon _ _ ?_ ?_
  · exact h0
  · intro _ g0
    split
    · have g1 := Canon.of_snd (by assumption) (by
        refine State.twinResync_canon _ ?_
        exact g0
        )
      refine State.result_canon _ _ _ _ _ _ ?_
      exact g1

theorem execYieldRx_canon (f : CtrlIn) (n : Nat) (cause : Nat) (s : State) (h3 : State.Canon (s)) :
    Res.Canon (execYieldRx f n cause s) := by
  unfold execYieldRx
  refine ctrlRx_canon _ _ _ _ _ _ ?_ ?_
  · exact h3
  · intro _ g0
    extract_lets -merge x1 x2 x3
    have hx2 : State.Canon (x2) := by
      refine State.setTwin_canon _ _ ?_
      exact g0
    refine Canon.ite ?_ ?_
    · refine Canon.ite ?_ ?_
      · refine State.handOverTo_canon _ _ ?_
        exact g0
      · exact g0
    · refine Canon.ite ?_ ?_
      · refine State.switched_canon _ _ _ _ ?_
        refine State.twinWrite_canon _ _ _ ?_
        exact hx2
      · refine Canon.ite ?_ ?_
        · refine State.put_canon _ _ _ _ _ ?_
          refine State.setTwin_canon _ _ ?_
          exact g0
        · exact g0

theorem execTakenRx_canon (f : CtrlIn) (n : Nat) (s : State) (h2 : State.Canon (s)) :
    Res.Canon (execTakenRx f n s) := by
  unfold execTakenRx
  refine ctrlRx_canon _ _ _ _ _ _ ?_ ?_
  · exact h2
  · intro _ g0
    refine Canon.ite ?_ ?_
    · refine State.setTwin_canon _ _ ?_
      refine State.digestStart_canon _ ?_
      refine State.standbyStart_canon _ _ ?_
      exact g0
    · exact g0

theorem execHandoverFrame_canon (s : State) (h0 : State.Canon (s)) :
    Res.Canon (execHandoverFrame s) := by
  unfold execHandoverFrame
  refine live_canon _ _ ?_ ?_
  · exact h0
  · intro _ g0
    split
    · refine State.takeRole_canon _ ?_
      exact g0
    · extract_lets -merge x1 x2 x3
      have hx1 : State.Canon (x1) := by
        refine Canon.ite ?_ ?_
        · refine State.setTwin_canon _ _ ?_
          refine State.twinWrite_canon _ _ _ ?_
          exact g0
        · exact g0
      have hx2 : State.Canon (x2) := by
        refine Canon.foldl ?_ ?_
        · intro _ _ g4
          refine State.pendingApply_canon _ _ _ ?_
          exact g4
        · exact hx1
      have hx3 : State.Canon (x3) := by
        refine State.setTwin_canon _ _ ?_
        refine State.standbyStart_canon _ _ ?_
        exact hx2
      refine Canon.ite ?_ ?_
      · exact hx1
      · refine Canon.foldl ?_ ?_
        · intro _ _ g5
          split
          · refine State.feederSearch_canon _ _ _ _ ?_
            exact g5
          · exact g5
        · exact hx3

theorem execLegacyDatagram_canon (port : Nat) (ip : Nat) (kind : Nat) (seq : Nat) (offset : Nat) (total : Nat) (data : List Nat) (s : State) (h7 : State.Canon (s)) :
    Res.Canon (execLegacyDatagram port ip kind seq offset total data s) := by
  unfold execLegacyDatagram
  refine live_canon _ _ ?_ ?_
  · exact h7
  · intro _ g0
    extract_lets -merge x1 x2 x3 x4
    have hx3 : State.Canon (x3) := by
      refine Canon.ite ?_ ?_
      · exact g0
      · refine State.setLegSlot_canon _ _ _ ?_
        refine State.put_canon _ _ _ _ _ ?_
        refine State.put_canon _ _ _ _ _ ?_
        exact g0
    refine Canon.ite ?_ ?_
    · exact g0
    · refine Canon.ite ?_ ?_
      · refine State.setTwin_canon _ _ ?_
        exact g0
      · refine Canon.ite ?_ ?_
        · exact g0
        · refine Canon.ite ?_ ?_
          · refine State.setLegSlot_canon _ _ _ ?_
            exact hx3
          · refine State.legFinish_canon _ _ ?_
            refine State.setLegSlot_canon _ _ _ ?_
            exact hx3

theorem execLegacyTimeout_canon (s : State) (h0 : State.Canon (s)) :
    Res.Canon (execLegacyTimeout s) := by
  unfold execLegacyTimeout
  refine live_canon _ _ ?_ ?_
  · exact h0
  · intro _ g0
    split
    · refine Canon.ite ?_ ?_
      · refine State.setTwin_canon _ _ ?_
        refine State.legacyTake_canon _ ?_
        exact g0
      · exact g0
    · exact g0

theorem execHelloSend_canon (s : State) (h0 : State.Canon (s)) :
    Res.Canon (execHelloSend s) := by
  unfold execHelloSend
  refine live_canon _ _ ?_ ?_
  · exact h0
  · intro _ g0
    extract_lets -merge x1 x2 x3
    refine Canon.ite ?_ ?_
    · refine State.sendHello_canon _ ?_
      exact g0
    · exact g0

theorem execLocalFaultExpiry_canon (s : State) (h0 : State.Canon (s)) :
    Res.Canon (execLocalFaultExpiry s) := by
  unfold execLocalFaultExpiry
  refine live_canon _ _ ?_ ?_
  · exact h0
  · intro _ g0
    refine State.refreshFaults_canon _ ?_
    exact g0

theorem execLazyRecordSend_canon (s : State) (h0 : State.Canon (s)) :
    Res.Canon (execLazyRecordSend s) := by
  unfold execLazyRecordSend
  refine live_canon _ _ ?_ ?_
  · exact h0
  · intro _ g0
    extract_lets -merge x1
    refine Canon.ite ?_ ?_
    · refine State.setTwin_canon _ _ ?_
      refine State.emit_canon _ _ ?_
      refine State.ctrlBytes_canon _ _ _ _ _ ?_
      exact g0
    · exact g0

end Sys2Proof.Machine
end

