-- ==== Sys2Proof/Laws/CanonFamPower.lean ====
section
/-! SUPPORT. The definitions of FamPower keep the object store canonical. -/

namespace Sys2Proof.Machine

theorem State.calRestore_canon (s : State) (h0 : State.Canon (s)) :
    State.Canon (State.calRestore s) := by
  unfold State.calRestore
  refine Canon.foldl ?_ ?_
  · intro _ _ g0
    refine Canon.foldl ?_ ?_
    · intro _ _ g1
      extract_lets -merge x2
      split
      · refine State.setValid_canon _ _ _ _ ?_
        refine State.rput_canon _ _ _ _ _ ?_
        refine State.rput_canon _ _ _ _ _ ?_
        exact g1
      · exact g1
    · exact g0
  · exact h0

theorem State.layOut_canon (s : State) (fit : Nat) (h0 : State.Canon (s)) :
    State.Canon (State.layOut s fit) := by
  unfold State.layOut
  extract_lets -merge x0 x1 x2
  have hx1 : State.Canon (x1) := by
    refine Canon.foldl ?_ ?_
    · intro _ _ g3
      extract_lets -merge x4 x5 x6 x7
      refine Canon.ite ?_ ?_
      · refine State.put_canon _ _ _ _ _ ?_
        exact g3
      · refine Canon.ite ?_ ?_
        · refine State.put_canon _ _ _ _ _ ?_
          exact g3
        · split
          · have g8 := Canon.of_snd (by assumption) (by
              refine State.draw_canon _ ?_
              exact g3
              )
            refine State.put_canon _ _ _ _ _ ?_
            exact g8
    · exact h0
  refine State.put_canon _ _ _ _ _ ?_
  exact hx1

theorem State.onuRestored_canon (s : State) (r : Nat) (h0 : State.Canon (s)) :
    State.Canon (State.onuRestored s r) := by
  unfold State.onuRestored
  extract_lets -merge x0
  have hx0 : State.Canon (x0) := by
    refine Canon.ite ?_ ?_
    · refine State.rput_canon _ _ _ _ _ ?_
      exact h0
    · exact h0
  refine State.clearPm_canon _ _ ?_
  refine State.put_canon _ _ _ _ _ ?_
  exact hx0

theorem State.setPools_canon (s : State) (h0 : State.Canon (s)) :
    State.Canon (State.setPools s) := by
  unfold State.setPools
  extract_lets -merge x0
  refine Canon.foldl ?_ ?_
  · intro _ _ g1
    extract_lets -merge x2 x3 x4
    refine State.put_canon _ _ _ _ _ ?_
    refine State.put_canon _ _ _ _ _ ?_
    refine State.put_canon _ _ _ _ _ ?_
    exact g1
  · exact h0

theorem execPowerGood_canon (s : State) (h0 : State.Canon (s)) :
    Res.Canon (execPowerGood s) := by
  unfold execPowerGood
  refine always_canon _ _ ?_ ?_
  · exact h0
  · intro _ g0
    refine Canon.ite ?_ ?_
    · refine State.start_canon _ _ _ ?_
      exact g0
    · exact g0

theorem execPgAHigh_canon (s : State) (h0 : State.Canon (s)) :
    Res.Canon (execPgAHigh s) := by
  unfold execPgAHigh
  refine always_canon _ _ ?_ ?_
  · exact h0
  · intro _ g0
    refine Canon.ite ?_ ?_
    · refine State.setPower_canon _ _ ?_
      refine State.emit_canon _ _ ?_
      exact g0
    · exact g0

theorem execRailEnableTimeout_canon (rail : Fin 10) (s : State) (h1 : State.Canon (s)) :
    Res.Canon (execRailEnableTimeout rail s) := by
  unfold execRailEnableTimeout
  refine always_canon _ _ ?_ ?_
  · exact h1
  · intro _ g0
    refine Canon.ite ?_ ?_
    · refine State.setPower_canon _ _ ?_
      refine State.alertSet_canon _ _ ?_
      refine State.railsOff_canon _ ?_
      exact g0
    · exact g0

theorem execRailFault_canon (rail : Fin 10) (since : Nat) (s : State) (h2 : State.Canon (s)) :
    Res.Canon (execRailFault rail since s) := by
  unfold execRailFault
  refine always_canon _ _ ?_ ?_
  · exact h2
  · intro _ g0
    extract_lets -merge x1
    have hx1 : State.Canon (x1) := by
      refine Canon.ite ?_ ?_
      · refine State.snowLost_canon _ ?_
        exact g0
      · exact g0
    refine Canon.ite ?_ ?_
    · exact g0
    · refine State.setPower_canon _ _ ?_
      refine State.alertSet_canon _ _ ?_
      refine State.railsOff_canon _ ?_
      exact hx1

theorem execSysRst_canon (since : Nat) (s : State) (h1 : State.Canon (s)) :
    Res.Canon (execSysRst since s) := by
  unfold execSysRst
  refine live_canon _ _ ?_ ?_
  · exact h1
  · intro _ g0
    refine Canon.ite ?_ ?_
    · exact g0
    · refine State.start_canon _ _ _ ?_
      exact g0

theorem execPcieFundamentalReset_canon (s : State) (h0 : State.Canon (s)) :
    Res.Canon (execPcieFundamentalReset s) := by
  unfold execPcieFundamentalReset
  refine live_canon _ _ ?_ ?_
  · exact h0
  · intro _ g0
    refine State.start_canon _ _ _ ?_
    exact g0

theorem execRestart_canon (s : State) (h0 : State.Canon (s)) :
    Res.Canon (execRestart s) := by
  unfold execRestart
  refine live_canon _ _ ?_ ?_
  · exact h0
  · intro _ g0
    refine State.start_canon _ _ _ ?_
    refine State.calFlush_canon _ ?_
    refine State.journalFold_canon _ ?_
    refine State.result_canon _ _ _ _ _ _ ?_
    exact g0

theorem execSnowdropPhaseEnd_canon (s : State) (h0 : State.Canon (s)) :
    Res.Canon (execSnowdropPhaseEnd s) := by
  unfold execSnowdropPhaseEnd
  refine live_canon _ _ ?_ ?_
  · exact h0
  · intro _ g0
    refine Canon.ite ?_ ?_
    · refine State.phaseEnd_canon _ _ _ ?_
      exact g0
    · exact g0

theorem execHoneycombRestore_canon (header : Bool) (bad : List Nat) (s : State) (h2 : State.Canon (s)) :
    Res.Canon (execHoneycombRestore header bad s) := by
  unfold execHoneycombRestore
  refine live_canon _ _ ?_ ?_
  · exact h2
  · intro _ g0
    extract_lets -merge x1 x2 x3 x4 x5 x6 x7 x8 x9 x10 x11 x12 x13 x14 x15
    have hx7 : State.Canon (x7) := by
      refine Canon.mk_iff.mpr ?_
      refine Store.sorted_foldl_ins _ _ ?_
      refine State.Canon.od ?_
      exact g0
    have hx8 : State.Canon (x8) := by
      refine State.setJournal_canon _ _ ?_
      exact hx7
    have hx9 : State.Canon (x9) := by
      refine State.put_canon _ _ _ _ _ ?_
      refine State.put_canon _ _ _ _ _ ?_
      exact hx8
    have hx10 : State.Canon (x10) := by
      refine Canon.foldl ?_ ?_
      · intro _ _ g16
        refine State.onuRestored_canon _ _ ?_
        exact g16
      · exact hx9
    have hx11 : State.Canon (x11) := by
      refine Canon.ite ?_ ?_
      · exact hx10
      · refine State.calRestore_canon _ ?_
        exact hx10
    have hx12 : State.Canon (x12) := by
      refine State.put_canon _ _ _ _ _ ?_
      refine State.put_canon _ _ _ _ _ ?_
      exact hx11
    have hx13 : State.Canon (x13) := by
      refine Canon.foldl ?_ ?_
      · intro _ _ g17
        refine State.put_canon _ _ _ _ _ ?_
        exact g17
      · exact hx12
    have hx14 : State.Canon (x14) := by
      refine State.phaseEnd_canon _ _ _ ?_
      refine State.event_canon _ _ _ _ ?_
      exact hx13
    refine Canon.ite ?_ ?_
    · exact g0
    · refine Canon.mk_iff.mpr ?_
      refine State.Canon.od ?_
      exact hx14

theorem execPllDdrReady_canon (sizes : List Nat) (s : State) (h1 : State.Canon (s)) :
    Res.Canon (execPllDdrReady sizes s) := by
  unfold execPllDdrReady
  extract_lets -merge x0 x1
  refine live_canon _ _ ?_ ?_
  · exact h1
  · intro _ g2
    extract_lets -merge x3 x4 x5 x6 x7 x8 x9 x10 x11 x12 x13 x14 x15 x16
    have hx3 : State.Canon (x3) := by
      refine Canon.foldl ?_ ?_
      · intro _ _ g17
        refine State.put_canon _ _ _ _ _ ?_
        exact g17
      · exact g2
    have hx4 : State.Canon (x4) := by
      refine State.put_canon _ _ _ _ _ ?_
      refine State.put_canon _ _ _ _ _ ?_
      exact hx3
    have hx5 : State.Canon (x5) := by
      refine State.setPools_canon _ ?_
      refine State.layOut_canon _ _ ?_
      refine State.put_canon _ _ _ _ _ ?_
      exact hx4
    have hx10 : State.Canon (x10) := by
      refine Canon.mk_iff.mpr ?_
      refine State.Canon.od ?_
      exact hx5
    have hx11 : State.Canon (x11) := by
      refine State.put_canon _ _ _ _ _ ?_
      exact hx10
    have hx13 : State.Canon (x13) := by
      refine Canon.mk_iff.mpr ?_
      refine State.Canon.od ?_
      exact hx11
    have hx14 : State.Canon (x14) := by
      refine State.sbStart_canon _ ?_
      refine State.setPower_canon _ _ ?_
      refine State.phaseEnd_canon _ _ _ ?_
      exact hx13
    have hx15 : State.Canon (x15) := by
      refine Canon.foldl ?_ ?_
      · intro _ _ g18
        refine Canon.ite ?_ ?_
        · refine State.groupStart_canon _ _ ?_
          exact g18
        · exact g18
      · refine State.refreshCap_canon _ ?_
        exact hx14
    have hx16 : State.Canon (x16) := by
      refine Canon.ite ?_ ?_
      · refine State.twinSeek_canon _ ?_
        exact hx15
      · refine Canon.ite ?_ ?_
        · refine State.legacyHold_canon _ ?_
          exact hx15
        · exact hx15
    refine Canon.ite ?_ ?_
    · exact g2
    · refine State.nextWaves_canon _ _ ?_
      refine State.syncRefresh_canon _ ?_
      refine State.bmca_canon _ ?_
      exact hx16

theorem execPllLockRetry_canon (locked : Fin 128) (s : State) (h1 : State.Canon (s)) :
    Res.Canon (execPllLockRetry locked s) := by
  unfold execPllLockRetry
  refine live_canon _ _ ?_ ?_
  · exact h1
  · intro _ g0
    refine Canon.ite ?_ ?_
    · refine State.put_canon _ _ _ _ _ ?_
      exact g0
    · exact g0

theorem execWaveStart_canon (s : State) (h0 : State.Canon (s)) :
    Res.Canon (execWaveStart s) := by
  unfold execWaveStart
  refine live_canon _ _ ?_ ?_
  · exact h0
  · intro _ g0
    refine Canon.ite ?_ ?_
    · refine State.nextWaves_canon _ _ ?_
      exact g0
    · exact g0

theorem execStartUpEnd_canon (s : State) (h0 : State.Canon (s)) :
    Res.Canon (execStartUpEnd s) := by
  unfold execStartUpEnd
  refine live_canon _ _ ?_ ?_
  · exact h0
  · intro _ g0
    extract_lets -merge x1 x2
    have hx1 : State.Canon (x1) := by
      refine State.phaseEnd_canon _ _ _ ?_
      refine State.phaseEnd_canon _ _ _ ?_
      exact g0
    have hx2 : State.Canon (x2) := by
      refine Canon.ite ?_ ?_
      · refine State.enterTrim_canon _ ?_
        refine State.steerTrim_canon _ ?_
        exact hx1
      · refine State.powerTo_canon _ _ ?_
        exact hx1
    refine Canon.ite ?_ ?_
    · exact g0
    · refine State.serviceCheck_canon _ ?_
      exact hx2

theorem execPowerCmdFull_canon (s : State) (h0 : State.Canon (s)) :
    Res.Canon (execPowerCmdFull s) := by
  unfold execPowerCmdFull
  refine live_canon _ _ ?_ ?_
  · exact h0
  · intro _ g0
    refine State.powerCmd_canon _ _ ?_
    exact g0

theorem execPowerCmdTrim_canon (s : State) (h0 : State.Canon (s)) :
    Res.Canon (execPowerCmdTrim s) := by
  unfold execPowerCmdTrim
  refine live_canon _ _ ?_ ?_
  · exact h0
  · intro _ g0
    refine State.powerCmd_canon _ _ ?_
    exact g0

theorem execPowerCmdSnowdrop_canon (s : State) (h0 : State.Canon (s)) :
    Res.Canon (execPowerCmdSnowdrop s) := by
  unfold execPowerCmdSnowdrop
  refine live_canon _ _ ?_ ?_
  · exact h0
  · intro _ g0
    refine State.powerCmd_canon _ _ ?_
    exact g0

theorem execPwrLowEntry_canon (since : Nat) (s : State) (h1 : State.Canon (s)) :
    Res.Canon (execPwrLowEntry since s) := by
  unfold execPwrLowEntry
  extract_lets -merge x0
  have hx0 : State.Canon (x0) := by
    refine State.setPower_canon _ _ ?_
    exact h1
  refine always_canon _ _ ?_ ?_
  · exact hx0
  · intro _ g1
    refine Canon.ite ?_ ?_
    · refine State.transBegin_canon _ _ ?_
      exact g1
    · exact g1

theorem execPwrLowExit_canon (since : Nat) (s : State) (h1 : State.Canon (s)) :
    Res.Canon (execPwrLowExit since s) := by
  unfold execPwrLowExit
  extract_lets -merge x0
  have hx0 : State.Canon (x0) := by
    refine State.setPower_canon _ _ ?_
    exact h1
  refine always_canon _ _ ?_ ?_
  · exact hx0
  · intro _ g1
    refine Canon.ite ?_ ?_
    · refine State.transBegin_canon _ _ ?_
      exact g1
    · exact g1

theorem execTrimSteering_canon (s : State) (h0 : State.Canon (s)) :
    Res.Canon (execTrimSteering s) := by
  unfold execTrimSteering
  refine live_canon _ _ ?_ ?_
  · exact h0
  · intro _ g0
    refine Canon.ite ?_ ?_
    · refine State.steerTrim_canon _ ?_
      exact g0
    · exact g0

theorem execTrimPipelinesDrained_canon (s : State) (h0 : State.Canon (s)) :
    Res.Canon (execTrimPipelinesDrained s) := by
  unfold execTrimPipelinesDrained
  refine live_canon _ _ ?_ ?_
  · exact h0
  · intro _ g0
    extract_lets -merge x1
    refine Canon.ite ?_ ?_
    · refine State.enterTrim_canon _ ?_
      exact g0
    · exact g0

theorem execReplicaCopyComplete_canon (s : State) (h0 : State.Canon (s)) :
    Res.Canon (execReplicaCopyComplete s) := by
  unfold execReplicaCopyComplete
  refine live_canon _ _ ?_ ?_
  · exact h0
  · intro _ g0
    extract_lets -merge x1
    have hx1 : State.Canon (x1) := by
      refine Canon.foldl ?_ ?_
      · intro _ _ g2
        refine State.beat5Now_canon _ _ _ _ ?_
        exact g2
      · exact g0
    refine Canon.ite ?_ ?_
    · refine State.setPower_canon _ _ ?_
      exact hx1
    · exact g0

theorem execSnowdropEntryComplete_canon (s : State) (h0 : State.Canon (s)) :
    Res.Canon (execSnowdropEntryComplete s) := by
  unfold execSnowdropEntryComplete
  refine live_canon _ _ ?_ ?_
  · exact h0
  · intro _ g0
    extract_lets -merge x1 x2 x3 x4
    have hx1 : State.Canon (x1) := by
      refine State.snowStages_canon _ _ ?_
      exact g0
    have hx3 : State.Canon (x3) := by
      refine Canon.ite ?_ ?_
      · refine State.event_canon _ _ _ _ ?_
        exact hx1
      · exact hx1
    have hx4 : State.Canon (x4) := by
      refine State.setPower_canon _ _ ?_
      refine State.railsOff_canon _ ?_
      exact hx3
    refine Canon.ite ?_ ?_
    · split
      · refine State.wakeUp_canon _ _ ?_
        exact hx4
      · exact hx4
    · exact g0

theorem execSnowdropWake_canon (b : Fin 3) (since : Nat) (s : State) (h2 : State.Canon (s)) :
    Res.Canon (execSnowdropWake b since s) := by
  unfold execSnowdropWake
  extract_lets -merge x0
  have hx0 : State.Canon (x0) := by
    refine Canon.ite ?_ ?_
    · refine State.setPower_canon _ _ ?_
      exact h2
    · exact h2
  refine always_canon _ _ ?_ ?_
  · exact hx0
  · intro _ g1
    refine Canon.ite ?_ ?_
    · exact g1
    · refine Canon.ite ?_ ?_
      · refine Canon.ite ?_ ?_
        · refine State.setPower_canon _ _ ?_
          exact g1
        · exact g1
      · refine Canon.ite ?_ ?_
        · refine State.wakeUp_canon _ _ ?_
          exact g1
        · exact g1

theorem execPipelineIdleStop_canon (n : Fin 8) (s : State) (h1 : State.Canon (s)) :
    Res.Canon (execPipelineIdleStop n s) := by
  unfold execPipelineIdleStop
  refine live_canon _ _ ?_ ?_
  · exact h1
  · intro _ g0
    extract_lets -merge x1
    refine Canon.ite ?_ ?_
    · refine State.updPipe_canon _ _ _ ?_
      exact g0
    · exact g0

theorem execCoreIdleStop_canon (k : Fin 8) (since : Nat) (s : State) (h2 : State.Canon (s)) :
    Res.Canon (execCoreIdleStop k since s) := by
  unfold execCoreIdleStop
  refine live_canon _ _ ?_ ?_
  · exact h2
  · intro _ g0
    extract_lets -merge x1
    refine Canon.ite ?_ ?_
    · exact g0
    · refine Canon.mk_iff.mpr ?_
      refine State.Canon.od ?_
      exact g0

theorem execDdrSelfRefreshEntry_canon (k : Fin 8) (s : State) (h1 : State.Canon (s)) :
    Res.Canon (execDdrSelfRefreshEntry k s) := by
  unfold execDdrSelfRefreshEntry
  refine live_canon _ _ ?_ ?_
  · exact h1
  · intro _ g0
    refine State.ddrSleep_canon _ _ ?_
    exact g0

theorem execDdrWakeComplete_canon (k : Fin 8) (s : State) (h1 : State.Canon (s)) :
    Res.Canon (execDdrWakeComplete k s) := by
  unfold execDdrWakeComplete
  refine live_canon _ _ ?_ ?_
  · exact h1
  · intro _ g0
    refine Canon.ite ?_ ?_
    · refine State.ddrAwake_canon _ _ ?_
      exact g0
    · exact g0

theorem execPwrThermalWarn_canon (die : Fin 3) (temp : Int) (since : Nat) (s : State) (h3 : State.Canon (s)) :
    Res.Canon (execPwrThermalWarn die temp since s) := by
  unfold execPwrThermalWarn
  refine live_canon _ _ ?_ ?_
  · exact h3
  · intro _ g0
    refine Canon.ite ?_ ?_
    · exact g0
    · refine State.setPower_canon _ _ ?_
      refine State.alertSet_canon _ _ ?_
      refine State.event_canon _ _ _ _ ?_
      exact g0

theorem execThermalTrip_canon (die : Fin 3) (temp : Int) (since : Nat) (s : State) (h3 : State.Canon (s)) :
    Res.Canon (execThermalTrip die temp since s) := by
  unfold execThermalTrip
  refine live_canon _ _ ?_ ?_
  · exact h3
  · intro _ g0
    refine Canon.ite ?_ ?_
    · exact g0
    · refine State.setPower_canon _ _ ?_
      refine State.alertSet_canon _ _ ?_
      refine State.railsOff_canon _ ?_
      exact g0

theorem execBmcAlertRead_canon (s : State) (h0 : State.Canon (s)) :
    Res.Canon (execBmcAlertRead s) := by
  unfold execBmcAlertRead
  refine always_canon _ _ ?_ ?_
  · exact h0
  · intro _ g0
    extract_lets -merge x1 x2
    have hx2 : State.Canon (x2) := by
      refine Canon.ite ?_ ?_
      · exact g0
      · refine State.emit_canon _ _ ?_
        exact g0
    refine State.setPower_canon _ _ ?_
    refine State.emit_canon _ _ ?_
    exact hx2

theorem execSnowdropPowerOn_canon (s : State) (h0 : State.Canon (s)) :
    Res.Canon (execSnowdropPowerOn s) := by
  unfold execSnowdropPowerOn
  refine always_canon _ _ ?_ ?_
  · exact h0
  · intro _ g0
    refine Canon.ite ?_ ?_
    · exact g0
    · refine State.setPower_canon _ _ ?_
      refine State.emit_canon _ _ ?_
      exact g0

theorem execRailRetry_canon (s : State) (h0 : State.Canon (s)) :
    Res.Canon (execRailRetry s) := by
  unfold execRailRetry
  refine always_canon _ _ ?_ ?_
  · exact h0
  · intro _ g0
    split
    · refine Canon.ite ?_ ?_
      · refine State.setPower_canon _ _ ?_
        refine State.emit_canon _ _ ?_
        exact g0
      · exact g0
    · exact g0

theorem execThermalRearm_canon (temp : Int) (s : State) (h1 : State.Canon (s)) :
    Res.Canon (execThermalRearm temp s) := by
  unfold execThermalRearm
  refine live_canon _ _ ?_ ?_
  · exact h1
  · intro _ g0
    refine Canon.ite ?_ ?_
    · refine State.setPower_canon _ _ ?_
      exact g0
    · exact g0

theorem execTripCoolDown_canon (temp : Int) (s : State) (h1 : State.Canon (s)) :
    Res.Canon (execTripCoolDown temp s) := by
  unfold execTripCoolDown
  refine always_canon _ _ ?_ ?_
  · exact h1
  · intro _ g0
    refine Canon.ite ?_ ?_
    · refine State.setPower_canon _ _ ?_
      exact g0
    · exact g0

theorem execPcieL1Entry_canon (s : State) (h0 : State.Canon (s)) :
    Res.Canon (execPcieL1Entry s) := by
  unfold execPcieL1Entry
  refine live_canon _ _ ?_ ?_
  · exact h0
  · intro _ g0
    extract_lets -merge x1
    refine Canon.mk_iff.mpr ?_
    refine State.Canon.od ?_
    exact g0

theorem execPcieWake_canon (s : State) (h0 : State.Canon (s)) :
    Res.Canon (execPcieWake s) := by
  unfold execPcieWake
  refine live_canon _ _ ?_ ?_
  · exact h0
  · intro _ g0
    extract_lets -merge x1
    refine Canon.mk_iff.mpr ?_
    refine State.Canon.od ?_
    exact g0

end Sys2Proof.Machine
end

