-- ==== Sys2Proof/Laws/CanonFamSec.lean ====
section
/-! SUPPORT. The definitions of FamSec keep the object store canonical. -/

namespace Sys2Proof.Machine

theorem State.twinSpdmEnd_canon (s : State) (h0 : State.Canon (s)) :
    State.Canon (State.twinSpdmEnd s) := by
  unfold State.twinSpdmEnd
  refine Canon.ite ?_ ?_
  · refine State.event_canon _ _ _ _ ?_
    refine State.setSecu_canon _ _ ?_
    exact h0
  · exact h0

theorem State.lifeTo_canon (s : State) (l : Nat) (h0 : State.Canon (s)) :
    State.Canon (State.lifeTo s l) := by
  unfold State.lifeTo
  extract_lets -merge x0
  have hx0 : State.Canon (x0) := by
    refine State.put_canon _ _ _ _ _ ?_
    refine State.setSecu_canon _ _ ?_
    exact h0
  refine State.twinSpdmEnd_canon _ ?_
  refine State.sessionEnd_canon _ ?_
  refine State.eraseKeys_canon _ ?_
  refine State.event_canon _ _ _ _ ?_
  exact hx0

theorem execLifecycleSecure_canon (s : State) (h0 : State.Canon (s)) :
    Res.Canon (execLifecycleSecure s) := by
  unfold execLifecycleSecure
  refine live_canon _ _ ?_ ?_
  · exact h0
  · intro _ g0
    refine Canon.ite ?_ ?_
    · refine State.result_canon _ _ _ _ _ _ ?_
      exact g0
    · refine State.result_canon _ _ _ _ _ _ ?_
      refine State.debugTo_canon _ _ _ ?_
      refine State.lifeTo_canon _ _ ?_
      exact g0

theorem State.eraseRetained_canon (s : State) (h0 : State.Canon (s)) :
    State.Canon (State.eraseRetained s) := by
  unfold State.eraseRetained
  extract_lets -merge x0
  have hx0 : State.Canon (x0) := by
    refine State.put_canon _ _ _ _ _ ?_
    refine State.put_canon _ _ _ _ _ ?_
    refine State.put_canon _ _ _ _ _ ?_
    exact h0
  refine State.put_canon _ _ _ _ _ ?_
  refine Canon.mk_iff.mpr ?_
  refine State.Canon.od ?_
  exact hx0

theorem execLifecycleReturn_canon (s : State) (h0 : State.Canon (s)) :
    Res.Canon (execLifecycleReturn s) := by
  unfold execLifecycleReturn
  refine live_canon _ _ ?_ ?_
  · exact h0
  · intro _ g0
    refine Canon.ite ?_ ?_
    · refine State.result_canon _ _ _ _ _ _ ?_
      exact g0
    · refine State.result_canon _ _ _ _ _ _ ?_
      refine State.eraseRetained_canon _ ?_
      refine State.lifeTo_canon _ _ ?_
      exact g0

theorem execLifecycleRetire_canon (s : State) (h0 : State.Canon (s)) :
    Res.Canon (execLifecycleRetire s) := by
  unfold execLifecycleRetire
  refine live_canon _ _ ?_ ?_
  · exact h0
  · intro _ g0
    extract_lets -merge x1
    have hx1 : State.Canon (x1) := by
      refine State.setSecu_canon _ _ ?_
      refine State.debugTo_canon _ _ _ ?_
      refine State.eraseRetained_canon _ ?_
      refine State.lifeTo_canon _ _ ?_
      exact g0
    refine Canon.ite ?_ ?_
    · refine State.result_canon _ _ _ _ _ _ ?_
      exact g0
    · refine State.result_canon _ _ _ _ _ _ ?_
      exact hx1

theorem execDebugToken_canon (token : List Nat) (s : State) (h1 : State.Canon (s)) :
    Res.Canon (execDebugToken token s) := by
  unfold execDebugToken
  refine live_canon _ _ ?_ ?_
  · exact h1
  · intro _ g0
    extract_lets -merge x1 x2 x3
    have hx2 : State.Canon (x2) := by
      refine State.debugTo_canon _ _ _ ?_
      exact g0
    have hx3 : State.Canon (x3) := by
      refine Canon.ite ?_ ?_
      · refine State.setSecu_canon _ _ ?_
        exact hx2
      · exact hx2
    refine Canon.ite ?_ ?_
    · refine State.result_canon _ _ _ _ _ _ ?_
      refine State.event_canon _ _ _ _ ?_
      exact g0
    · refine State.result_canon _ _ _ _ _ _ ?_
      refine State.event_canon _ _ _ _ ?_
      exact hx3

theorem execDebugEnd_canon (s : State) (h0 : State.Canon (s)) :
    Res.Canon (execDebugEnd s) := by
  unfold execDebugEnd
  refine live_canon _ _ ?_ ?_
  · exact h0
  · intro _ g0
    refine State.result_canon _ _ _ _ _ _ ?_
    refine State.debugEnd_canon _ _ _ ?_
    exact g0

theorem State.bootWrite_canon (s : State) (pref : Nat) (h0 : State.Canon (s)) :
    State.Canon (State.bootWrite s pref) := by
  unfold State.bootWrite
  refine State.setSecu_canon _ _ ?_
  exact h0

theorem execBootPrefWrite_canon (v : Nat) (s : State) (h1 : State.Canon (s)) :
    Res.Canon (execBootPrefWrite v s) := by
  unfold execBootPrefWrite
  refine live_canon _ _ ?_ ?_
  · exact h1
  · intro _ g0
    extract_lets -merge x1 x2
    have hx1 : State.Canon (x1) := by
      refine State.put_canon _ _ _ _ _ ?_
      refine State.bootWrite_canon _ _ ?_
      exact g0
    refine Canon.ite ?_ ?_
    · refine State.result_canon _ _ _ _ _ _ ?_
      exact g0
    · refine Canon.ite ?_ ?_
      · refine State.result_canon _ _ _ _ _ _ ?_
        exact g0
      · refine State.result_canon _ _ _ _ _ _ ?_
        refine State.setSecu_canon _ _ ?_
        exact hx1

theorem execRollbackCommit_canon (s : State) (h0 : State.Canon (s)) :
    Res.Canon (execRollbackCommit s) := by
  unfold execRollbackCommit
  refine live_canon _ _ ?_ ?_
  · exact h0
  · intro _ g0
    extract_lets -merge x1 x2 x3 x4 x5 x6
    have hx2 : State.Canon (x2) := by
      refine State.put_canon _ _ _ _ _ ?_
      refine State.setSecu_canon _ _ ?_
      exact g0
    have hx6 : State.Canon (x6) := by
      refine Canon.ite ?_ ?_
      · refine State.put_canon _ _ _ _ _ ?_
        exact hx2
      · exact hx2
    refine Canon.ite ?_ ?_
    · refine State.result_canon _ _ _ _ _ _ ?_
      exact g0
    · refine Canon.ite ?_ ?_
      · refine State.result_canon _ _ _ _ _ _ ?_
        exact g0
      · refine State.result_canon _ _ _ _ _ _ ?_
        refine State.event_canon _ _ _ _ ?_
        exact hx6

theorem execImageConfirm_canon (s : State) (h0 : State.Canon (s)) :
    Res.Canon (execImageConfirm s) := by
  unfold execImageConfirm
  refine live_canon _ _ ?_ ?_
  · exact h0
  · intro _ g0
    extract_lets -merge x1
    have hx1 : State.Canon (x1) := by
      refine Canon.ite ?_ ?_
      · refine State.setSecu_canon _ _ ?_
        exact g0
      · exact g0
    refine State.result_canon _ _ _ _ _ _ ?_
    refine State.put_canon _ _ _ _ _ ?_
    exact hx1

theorem State.readHeaders_canon (s : State) (h0 : State.Canon (s)) :
    State.Canon (State.readHeaders s) := by
  unfold State.readHeaders
  extract_lets -merge x0
  have hx0 : ∀ y0 y1 y2 y3, State.Canon (y0) → State.Canon (x0 y0 y1 y2 y3) := by
    intro _ _ _ _ g1
    unfold x0
    extract_lets -merge x2
    refine Canon.ite ?_ ?_
    · refine State.put_canon _ _ _ _ _ ?_
      refine State.put_canon _ _ _ _ _ ?_
      exact g1
    · refine State.put_canon _ _ _ _ _ ?_
      refine State.put_canon _ _ _ _ _ ?_
      exact g1
  refine hx0 _ _ _ _ ?_
  refine hx0 _ _ _ _ ?_
  exact h0

theorem execImageVerify_canon (s : State) (h0 : State.Canon (s)) :
    Res.Canon (execImageVerify s) := by
  unfold execImageVerify
  refine live_canon _ _ ?_ ?_
  · exact h0
  · intro _ g0
    extract_lets -merge x1
    refine State.result_canon _ _ _ _ _ _ ?_
    refine State.put_canon _ _ _ _ _ ?_
    refine State.readHeaders_canon _ ?_
    exact g0

theorem State.setSlotTab_canon (s : State) (k : Nat) (t : Tab Nat) (h0 : State.Canon (s)) :
    State.Canon (State.setSlotTab s k t) := by
  unfold State.setSlotTab
  refine State.setSecu_canon _ _ ?_
  exact h0

theorem execImageChunk_canon (i : Nat) (data : Nat) (s : State) (h2 : State.Canon (s)) :
    Res.Canon (execImageChunk i data s) := by
  unfold execImageChunk
  refine live_canon _ _ ?_ ?_
  · exact h2
  · intro _ g0
    extract_lets -merge x1 x2 x3
    have hx2 : State.Canon (x2) := by
      refine Canon.ite ?_ ?_
      · exact g0
      · refine State.put_canon _ _ _ _ _ ?_
        refine State.setSlotTab_canon _ _ _ ?_
        exact g0
    have hx3 : State.Canon (x3) := by
      refine State.setSlotTab_canon _ _ _ ?_
      exact hx2
    refine State.result_canon _ _ _ _ _ _ ?_
    refine State.readHeaders_canon _ ?_
    exact hx3

theorem State.setSpdm_canon (s : State) (l : Nat) (n : Nat) (h0 : State.Canon (s)) :
    State.Canon (State.setSpdm s l n) := by
  unfold State.setSpdm
  refine State.setSecu_canon _ _ ?_
  exact h0

theorem State.spdmSend_canon (s : State) (code : Nat) (args : List Nat) (h0 : State.Canon (s)) :
    State.Canon (State.spdmSend s code args) := by
  unfold State.spdmSend
  refine State.emit_canon _ _ ?_
  exact h0

theorem State.spdmErr_canon (s : State) (code : Nat) (h0 : State.Canon (s)) :
    State.Canon (State.spdmErr s code) := by
  unfold State.spdmErr
  refine State.spdmSend_canon _ _ _ ?_
  exact h0

theorem State.signed_canon (s : State) (code : Nat) (args : List Nat) (h0 : State.Canon (s)) :
    State.Canon (State.signed s code args) := by
  unfold State.signed
  refine Canon.ite ?_ ?_
  · refine State.spdmErr_canon _ _ ?_
    exact h0
  · refine State.spdmSend_canon _ _ _ ?_
    exact h0

theorem State.spdmEnd_canon (s : State) (l : Nat) (h0 : State.Canon (s)) :
    State.Canon (State.spdmEnd s l) := by
  unfold State.spdmEnd
  refine Canon.ite ?_ ?_
  · refine State.sessionEnd_canon _ ?_
    exact h0
  · refine State.twinSpdmEnd_canon _ ?_
    exact h0

theorem execSecureBoot_canon (good0 : Bool) (good1 : Bool) (s : State) (h2 : State.Canon (s)) :
    Res.Canon (execSecureBoot good0 good1 s) := by
  unfold execSecureBoot
  extract_lets -merge x0
  have hx0 : ∀ y0 y1, State.Canon (y0) → State.Canon (x0 y0 y1) := by
    intro _ _ g1
    unfold x0
    refine State.phaseEnd_canon _ _ _ ?_
    refine State.put_canon _ _ _ _ _ ?_
    refine State.put_canon _ _ _ _ _ ?_
    exact g1
  refine live_canon _ _ ?_ ?_
  · exact h2
  · intro _ g2
    extract_lets -merge x3 x4 x5 x6 x7 x8 x9 x10 x11 x12
    have hx3 : State.Canon (x3) := by
      refine State.setSecu_canon _ _ ?_
      exact g2
    have hx4 : State.Canon (x4) := by
      refine State.readHeaders_canon _ ?_
      refine State.eraseKeys_canon _ ?_
      exact hx3
    have hx6 : State.Canon (x6) := by
      refine State.put_canon _ _ _ _ _ ?_
      exact hx4
    have hx9 : State.Canon (x9) := by
      unfold x9
      split
      · refine State.setSecu_canon _ _ ?_
        refine State.event_canon _ _ _ _ ?_
        refine State.bump_canon _ _ _ _ ?_
        exact hx6
      · exact hx6
    have hx10 : State.Canon (x10) := by
      refine Canon.ite ?_ ?_
      · refine State.event_canon _ _ _ _ ?_
        refine State.bump_canon _ _ _ _ ?_
        exact hx9
      · exact hx9
    have hx11 : State.Canon (x11) := by
      refine State.powerTo_canon _ _ ?_
      refine State.put_canon _ _ _ _ _ ?_
      refine State.put_canon _ _ _ _ _ ?_
      exact hx10
    refine Canon.ite ?_ ?_
    · exact g2
    · refine Canon.ite ?_ ?_
      · refine hx0 _ _ ?_
        refine Canon.ite ?_ ?_
        · refine State.put_canon _ _ _ _ _ ?_
          exact hx9
        · exact hx9
      · refine Canon.ite ?_ ?_
        · refine hx0 _ _ ?_
          exact hx10
        · refine Canon.mk_iff.mpr ?_
          refine State.Canon.od ?_
          exact hx11

theorem execTrialTimeout_canon (s : State) (h0 : State.Canon (s)) :
    Res.Canon (execTrialTimeout s) := by
  unfold execTrialTimeout
  refine live_canon _ _ ?_ ?_
  · exact h0
  · intro _ g0
    extract_lets -merge x1 x2
    have hx2 : State.Canon (x2) := by
      refine State.setSecu_canon _ _ ?_
      refine State.bootWrite_canon _ _ ?_
      exact g0
    refine Canon.ite ?_ ?_
    · refine State.start_canon _ _ _ ?_
      exact hx2
    · exact g0

theorem execDebugExpiry_canon (s : State) (h0 : State.Canon (s)) :
    Res.Canon (execDebugExpiry s) := by
  unfold execDebugExpiry
  refine live_canon _ _ ?_ ?_
  · exact h0
  · intro _ g0
    extract_lets -merge x1
    refine Canon.ite ?_ ?_
    · refine State.debugEnd_canon _ _ _ ?_
      exact g0
    · exact g0

theorem execTimeHwmSave_canon (s : State) (h0 : State.Canon (s)) :
    Res.Canon (execTimeHwmSave s) := by
  unfold execTimeHwmSave
  refine live_canon _ _ ?_ ?_
  · exact h0
  · intro _ g0
    refine Canon.ite ?_ ?_
    · refine State.hwmSave_canon _ ?_
      exact g0
    · exact g0

theorem execSpdmGetVersion_canon (l : Fin 2) (s : State) (h1 : State.Canon (s)) :
    Res.Canon (execSpdmGetVersion l s) := by
  unfold execSpdmGetVersion
  refine live_canon _ _ ?_ ?_
  · exact h1
  · intro _ g0
    refine State.spdmSend_canon _ _ _ ?_
    refine Canon.ite ?_ ?_
    · exact g0
    · refine State.setSpdm_canon _ _ _ ?_
      exact g0

theorem execSpdmGetCapabilities_canon (l : Fin 2) (s : State) (h1 : State.Canon (s)) :
    Res.Canon (execSpdmGetCapabilities l s) := by
  unfold execSpdmGetCapabilities
  refine live_canon _ _ ?_ ?_
  · exact h1
  · intro _ g0
    refine Canon.ite ?_ ?_
    · refine State.spdmSend_canon _ _ _ ?_
      refine State.setSpdm_canon _ _ _ ?_
      exact g0
    · refine State.spdmErr_canon _ _ ?_
      exact g0

theorem execSpdmNegotiateAlgorithms_canon (l : Fin 2) (s : State) (h1 : State.Canon (s)) :
    Res.Canon (execSpdmNegotiateAlgorithms l s) := by
  unfold execSpdmNegotiateAlgorithms
  refine live_canon _ _ ?_ ?_
  · exact h1
  · intro _ g0
    refine Canon.ite ?_ ?_
    · refine State.spdmSend_canon _ _ _ ?_
      refine State.setSpdm_canon _ _ _ ?_
      exact g0
    · refine State.spdmErr_canon _ _ ?_
      exact g0

theorem execSpdmGetDigests_canon (l : Fin 2) (s : State) (h1 : State.Canon (s)) :
    Res.Canon (execSpdmGetDigests l s) := by
  unfold execSpdmGetDigests
  refine live_canon _ _ ?_ ?_
  · exact h1
  · intro _ g0
    refine Canon.ite ?_ ?_
    · refine State.spdmErr_canon _ _ ?_
      exact g0
    · refine State.spdmSend_canon _ _ _ ?_
      exact g0

theorem execSpdmGetCertificate_canon (l : Fin 2) (slot : Nat) (offset : Nat) (length : Nat) (s : State) (h4 : State.Canon (s)) :
    Res.Canon (execSpdmGetCertificate l slot offset length s) := by
  unfold execSpdmGetCertificate
  refine live_canon _ _ ?_ ?_
  · exact h4
  · intro _ g0
    extract_lets -merge x1
    refine Canon.ite ?_ ?_
    · refine State.spdmErr_canon _ _ ?_
      exact g0
    · refine State.spdmSend_canon _ _ _ ?_
      exact g0

theorem execSpdmChallenge_canon (l : Fin 2) (slot : Nat) (nonce : Nat) (s : State) (h3 : State.Canon (s)) :
    Res.Canon (execSpdmChallenge l slot nonce s) := by
  unfold execSpdmChallenge
  refine live_canon _ _ ?_ ?_
  · exact h3
  · intro _ g0
    refine Canon.ite ?_ ?_
    · refine State.spdmErr_canon _ _ ?_
      exact g0
    · refine State.signed_canon _ _ _ ?_
      exact g0

theorem execSpdmGetMeasurements_canon (l : Fin 2) (index : Nat) (sign : Bool) (nonce : Nat) (s : State) (h4 : State.Canon (s)) :
    Res.Canon (execSpdmGetMeasurements l index sign nonce s) := by
  unfold execSpdmGetMeasurements
  refine live_canon _ _ ?_ ?_
  · exact h4
  · intro _ g0
    extract_lets -merge x1
    refine Canon.ite ?_ ?_
    · refine State.spdmErr_canon _ _ ?_
      exact g0
    · refine Canon.ite ?_ ?_
      · refine State.signed_canon _ _ _ ?_
        exact g0
      · refine State.spdmSend_canon _ _ _ ?_
        exact g0

theorem execSpdmKeyExchange_canon (l : Fin 2) (nonce : Nat) (s : State) (h2 : State.Canon (s)) :
    Res.Canon (execSpdmKeyExchange l nonce s) := by
  unfold execSpdmKeyExchange
  refine live_canon _ _ ?_ ?_
  · exact h2
  · intro _ g0
    refine Canon.ite ?_ ?_
    · refine State.spdmErr_canon _ _ ?_
      exact g0
    · refine Canon.ite ?_ ?_
      · refine State.spdmErr_canon _ _ ?_
        exact g0
      · refine State.signed_canon _ _ _ ?_
        refine State.setSpdm_canon _ _ _ ?_
        exact g0

theorem execSpdmFinish_canon (l : Fin 2) (verified : Bool) (s : State) (h2 : State.Canon (s)) :
    Res.Canon (execSpdmFinish l verified s) := by
  unfold execSpdmFinish
  refine live_canon _ _ ?_ ?_
  · exact h2
  · intro _ g0
    extract_lets -merge x1 x2
    have hx1 : State.Canon (x1) := by
      refine State.setSecu_canon _ _ ?_
      refine State.setSpdm_canon _ _ _ ?_
      exact g0
    have hx2 : State.Canon (x2) := by
      refine Canon.ite ?_ ?_
      · refine State.put_canon _ _ _ _ _ ?_
        exact hx1
      · exact hx1
    refine Canon.ite ?_ ?_
    · refine State.spdmErr_canon _ _ ?_
      exact g0
    · refine Canon.ite ?_ ?_
      · refine State.spdmErr_canon _ _ ?_
        refine State.setSpdm_canon _ _ _ ?_
        exact g0
      · refine State.spdmSend_canon _ _ _ ?_
        refine State.event_canon _ _ _ _ ?_
        refine State.bump_canon _ _ _ _ ?_
        exact hx2

theorem execSpdmHeartbeat_canon (l : Fin 2) (s : State) (h1 : State.Canon (s)) :
    Res.Canon (execSpdmHeartbeat l s) := by
  unfold execSpdmHeartbeat
  refine live_canon _ _ ?_ ?_
  · exact h1
  · intro _ g0
    refine Canon.ite ?_ ?_
    · refine State.spdmErr_canon _ _ ?_
      exact g0
    · refine State.spdmSend_canon _ _ _ ?_
      refine State.setSecu_canon _ _ ?_
      exact g0

theorem execSpdmHeartbeatMissed_canon (l : Fin 2) (s : State) (h1 : State.Canon (s)) :
    Res.Canon (execSpdmHeartbeatMissed l s) := by
  unfold execSpdmHeartbeatMissed
  refine live_canon _ _ ?_ ?_
  · exact h1
  · intro _ g0
    extract_lets -merge x1
    refine Canon.ite ?_ ?_
    · refine State.spdmEnd_canon _ _ ?_
      exact g0
    · exact g0

theorem execSpdmKeyUpdate_canon (l : Fin 2) (s : State) (h1 : State.Canon (s)) :
    Res.Canon (execSpdmKeyUpdate l s) := by
  unfold execSpdmKeyUpdate
  refine live_canon _ _ ?_ ?_
  · exact h1
  · intro _ g0
    refine Canon.ite ?_ ?_
    · refine State.spdmErr_canon _ _ ?_
      exact g0
    · refine State.spdmSend_canon _ _ _ ?_
      exact g0

theorem execSpdmEndSession_canon (l : Fin 2) (s : State) (h1 : State.Canon (s)) :
    Res.Canon (execSpdmEndSession l s) := by
  unfold execSpdmEndSession
  refine live_canon _ _ ?_ ?_
  · exact h1
  · intro _ g0
    refine Canon.ite ?_ ?_
    · refine State.spdmErr_canon _ _ ?_
      exact g0
    · refine State.spdmSend_canon _ _ _ ?_
      refine State.spdmEnd_canon _ _ ?_
      exact g0

theorem execTapInstruction_canon (ir : Fin 6) (s : State) (h1 : State.Canon (s)) :
    Res.Canon (execTapInstruction ir s) := by
  unfold execTapInstruction
  extract_lets -merge x0 x1 x2 x3
  refine always_canon _ _ ?_ ?_
  · exact h1
  · intro _ g4
    refine State.emit_canon _ _ ?_
    refine State.setSecu_canon _ _ ?_
    exact g4

end Sys2Proof.Machine
end

