-- ==== Sys2Proof/Laws/CanonFamTime.lean ====
section
/-! SUPPORT. The definitions of FamTime keep the object store canonical. -/

namespace Sys2Proof.Machine

theorem State.timeSet_canon (s : State) (t : Nat) (h0 : State.Canon (s)) :
    State.Canon (State.timeSet s t).2 := by
  unfold State.timeSet
  refine Canon.ite2 ?_ ?_
  · refine Canon.pair ?_
    refine State.setTime_canon _ _ ?_
    exact h0
  · refine Canon.pair ?_
    exact h0

theorem State.ptpAnnounce_canon (s : State) (k : Nat) (m : PtpMsg) (d : List Nat) (h0 : State.Canon (s)) :
    State.Canon (State.ptpAnnounce s k m d) := by
  unfold State.ptpAnnounce
  extract_lets -merge x0 x1 x2
  refine Canon.ite ?_ ?_
  · exact h0
  · refine State.bmca_canon _ ?_
    refine State.updPtp_canon _ _ _ ?_
    exact h0

theorem execPtpRx_canon (k : Fin 33) (msg : List Nat) (tMac : Nat) (s : State) (h3 : State.Canon (s)) :
    Res.Canon (execPtpRx k msg tMac s) := by
  unfold execPtpRx
  extract_lets -merge x0
  refine live_canon _ _ ?_ ?_
  · exact h3
  · intro _ g1
    extract_lets -merge x2 x3
    have hx2 : State.Canon (x2) := by
      refine State.bump_canon _ _ _ _ ?_
      exact g1
    refine Canon.ite ?_ ?_
    · exact g1
    · refine Canon.ite ?_ ?_
      · refine State.bump_canon _ _ _ _ ?_
        exact g1
      · split
        · refine State.ptpAnnounce_canon _ _ _ _ ?_
          exact hx2
        · refine Canon.ite ?_ ?_
          · exact hx2
          · refine Canon.ite ?_ ?_
            · refine State.updPtp_canon _ _ _ ?_
              exact hx2
            · refine State.ptpMeasure_canon _ _ _ _ ?_
              exact hx2
        · split
          · refine Canon.ite ?_ ?_
            · refine State.ptpMeasure_canon _ _ _ _ ?_
              refine State.updPtp_canon _ _ _ ?_
              exact hx2
            · exact hx2
          · exact hx2
        · split
          · refine Canon.ite ?_ ?_
            · refine State.put_canon _ _ _ _ _ ?_
              refine State.updPtp_canon _ _ _ ?_
              exact hx2
            · exact hx2
          · exact hx2
        · refine Canon.ite ?_ ?_
          · refine State.emit_canon _ _ ?_
            refine State.bump_canon _ _ _ _ ?_
            exact hx2
          · exact hx2

theorem execPtpAnnounceTimeout_canon (k : Fin 33) (s : State) (h1 : State.Canon (s)) :
    Res.Canon (execPtpAnnounceTimeout k s) := by
  unfold execPtpAnnounceTimeout
  refine live_canon _ _ ?_ ?_
  · exact h1
  · intro _ g0
    extract_lets -merge x1
    refine Canon.ite ?_ ?_
    · exact g0
    · refine State.bmca_canon _ ?_
      refine State.updPtp_canon _ _ _ ?_
      exact g0

theorem execServoUpdate_canon (s : State) (h0 : State.Canon (s)) :
    Res.Canon (execServoUpdate s) := by
  unfold execServoUpdate
  refine live_canon _ _ ?_ ?_
  · exact h0
  · intro _ g0
    split
    · exact g0
    · extract_lets -merge x1 x2 x3 x4 x5 x6 x7 x8 x9
      have hx1 : State.Canon (x1) := by
        refine State.setTime_canon _ _ ?_
        refine State.put_canon _ _ _ _ _ ?_
        exact g0
      have hx5 : State.Canon (x5) := by
        refine State.setTime_canon _ _ ?_
        exact hx1
      have hx6 : State.Canon (x6) := by
        refine State.servoSet_canon _ _ ?_
        exact hx5
      have hx8 : State.Canon (x8) := by
        refine State.setTime_canon _ _ ?_
        exact hx1
      have hx9 : State.Canon (x9) := by
        refine State.servoSet_canon _ _ ?_
        exact hx8
      split
      · refine Canon.ite ?_ ?_
        · refine State.setTime_canon _ _ ?_
          exact hx5
        · refine Canon.ite ?_ ?_
          · refine State.setServo_canon _ _ ?_
            exact hx6
          · exact hx6
      · refine Canon.ite ?_ ?_
        · refine State.setServo_canon _ _ ?_
          exact hx9
        · exact hx9
      · exact hx1

theorem execTimeStep_canon (s : State) (h0 : State.Canon (s)) :
    Res.Canon (execTimeStep s) := by
  unfold execTimeStep
  refine live_canon _ _ ?_ ?_
  · exact h0
  · intro _ g0
    refine Canon.ite ?_ ?_
    · exact g0
    · split
      · refine State.stepTo_canon _ _ _ ?_
        exact g0
      · split
        · refine State.stepTo_canon _ _ _ ?_
          exact g0
        · exact g0

theorem execTimeSet_canon (t : Nat) (s : State) (h1 : State.Canon (s)) :
    Res.Canon (execTimeSet t s) := by
  unfold execTimeSet
  refine live_canon _ _ ?_ ?_
  · exact h1
  · intro _ g0
    split
    · have g1 := Canon.of_snd (by assumption) (by
        refine State.timeSet_canon _ _ ?_
        exact g0
        )
      refine State.result_canon _ _ _ _ _ _ ?_
      exact g1

theorem execHoldoverSpecExpiry_canon (s : State) (h0 : State.Canon (s)) :
    Res.Canon (execHoldoverSpecExpiry s) := by
  unfold execHoldoverSpecExpiry
  refine live_canon _ _ ?_ ?_
  · exact h0
  · intro _ g0
    split
    · refine Canon.ite ?_ ?_
      · refine State.setServo_canon _ _ ?_
        exact g0
      · exact g0
    · exact g0

theorem execSecondBoundary_canon (s : State) (h0 : State.Canon (s)) :
    Res.Canon (execSecondBoundary s) := by
  unfold execSecondBoundary
  refine live_canon _ _ ?_ ?_
  · exact h0
  · intro _ g0
    extract_lets -merge x1 x2 x3 x4 x5 x6 x7
    have hx1 : State.Canon (x1) := by
      refine Canon.foldl ?_ ?_
      · intro _ _ g8
        refine State.flushWrong_canon _ _ _ ?_
        exact g8
      · exact g0
    have hx4 : State.Canon (x4) := by
      refine Canon.ite ?_ ?_
      · refine Canon.mk_iff.mpr ?_
        refine State.Canon.od ?_
        exact hx1
      · exact hx1
    have hx5 : State.Canon (x5) := by
      refine State.linkChanged_canon _ ?_
      refine State.bump_canon _ _ _ _ ?_
      refine State.setTime_canon _ _ ?_
      exact hx4
    have hx6 : State.Canon (x6) := by
      refine Canon.ite ?_ ?_
      · refine State.sourceLost_canon _ ?_
        exact hx5
      · exact hx5
    have hx7 : State.Canon (x7) := by
      refine Canon.ite ?_ ?_
      · refine State.emit_canon _ _ ?_
        exact hx6
      · refine State.emit_canon _ _ ?_
        refine State.emit_canon _ _ ?_
        refine State.emit_canon _ _ ?_
        exact hx6
    refine Canon.ite ?_ ?_
    · exact g0
    · refine State.sendFeeder_canon _ ?_
      refine State.todAll_canon _ ?_
      exact hx7

theorem execPpsInEdge_canon (t : Nat) (s : State) (h1 : State.Canon (s)) :
    Res.Canon (execPpsInEdge t s) := by
  unfold execPpsInEdge
  refine live_canon _ _ ?_ ?_
  · exact h1
  · intro _ g0
    extract_lets -merge x1 x2 x3 x4 x5 x6
    have hx5 : State.Canon (x5) := by
      refine State.setTime_canon _ _ ?_
      exact g0
    have hx6 : State.Canon (x6) := by
      refine Canon.ite ?_ ?_
      · refine State.put_canon _ _ _ _ _ ?_
        exact hx5
      · exact hx5
    refine Canon.ite ?_ ?_
    · refine State.setTime_canon _ _ ?_
      refine State.sourceValid_canon _ ?_
      exact hx6
    · exact hx6

theorem execTimePpsInLost_canon (s : State) (h0 : State.Canon (s)) :
    Res.Canon (execTimePpsInLost s) := by
  unfold execTimePpsInLost
  refine live_canon _ _ ?_ ?_
  · exact h0
  · intro _ g0
    extract_lets -merge x1 x2
    have hx1 : State.Canon (x1) := by
      refine State.setTime_canon _ _ ?_
      refine State.put_canon _ _ _ _ _ ?_
      exact g0
    have hx2 : State.Canon (x2) := by
      refine State.event_canon _ _ _ _ ?_
      exact hx1
    refine Canon.ite ?_ ?_
    · refine Canon.ite ?_ ?_
      · refine State.sourceLost_canon _ ?_
        exact hx2
      · exact hx2
    · exact g0

theorem execEsmcRx_canon (i : Fin 32) (ql : Fin 16) (s : State) (h2 : State.Canon (s)) :
    Res.Canon (execEsmcRx i ql s) := by
  unfold execEsmcRx
  refine live_canon _ _ ?_ ?_
  · exact h2
  · intro _ g0
    extract_lets -merge x1
    refine Canon.ite ?_ ?_
    · exact g0
    · refine State.syncRefresh_canon _ ?_
      refine Canon.foldl ?_ ?_
      · intro _ _ g2
        refine State.updSync_canon _ _ _ ?_
        exact g2
      · exact g0

theorem execEsmcTimeout_canon (l : Fin 32) (s : State) (h1 : State.Canon (s)) :
    Res.Canon (execEsmcTimeout l s) := by
  unfold execEsmcTimeout
  refine live_canon _ _ ?_ ?_
  · exact h1
  · intro _ g0
    refine Canon.ite ?_ ?_
    · refine State.syncRefresh_canon _ ?_
      refine State.updSync_canon _ _ _ ?_
      exact g0
    · exact g0

theorem execSynceWtrExpiry_canon (k : Fin 37) (s : State) (h1 : State.Canon (s)) :
    Res.Canon (execSynceWtrExpiry k s) := by
  unfold execSynceWtrExpiry
  refine live_canon _ _ ?_ ?_
  · exact h1
  · intro _ g0
    split
    · refine Canon.ite ?_ ?_
      · refine State.syncRefresh_canon _ ?_
        refine State.updSync_canon _ _ _ ?_
        exact g0
      · exact g0
    · exact g0

theorem execSynceFailHoldoff_canon (s : State) (h0 : State.Canon (s)) :
    Res.Canon (execSynceFailHoldoff s) := by
  unfold execSynceFailHoldoff
  refine live_canon _ _ ?_ ?_
  · exact h0
  · intro _ g0
    extract_lets -merge x1 x2
    have hx2 : State.Canon (x2) := by
      refine State.setTime_canon _ _ ?_
      refine State.updSync_canon _ _ _ ?_
      exact g0
    split
    · refine Canon.ite ?_ ?_
      · refine State.syncSelect_canon _ _ ?_
        exact hx2
      · exact g0
    · exact g0

theorem execEsmcTx_canon (i : Fin 32) (s : State) (h1 : State.Canon (s)) :
    Res.Canon (execEsmcTx i s) := by
  unfold execEsmcTx
  refine live_canon _ _ ?_ ?_
  · exact h1
  · intro _ g0
    extract_lets -merge x1 x2 x3 x4
    refine Canon.ite ?_ ?_
    · exact g0
    · refine Canon.ite ?_ ?_
      · refine State.emit_canon _ _ ?_
        refine State.setTime_canon _ _ ?_
        exact g0
      · exact g0

theorem execPtpMessageTx_canon (k : Fin 33) (kind : PtpTx) (tMac : Nat) (s : State) (h3 : State.Canon (s)) :
    Res.Canon (execPtpMessageTx k kind tMac s) := by
  unfold execPtpMessageTx
  refine live_canon _ _ ?_ ?_
  · exact h3
  · intro _ g0
    extract_lets -merge x1 x2 x3 x4 x5
    refine Canon.ite ?_ ?_
    · exact g0
    · split
      · refine Canon.ite ?_ ?_
        · refine State.emit_canon _ _ ?_
          refine State.bump_canon _ _ _ _ ?_
          refine State.updPtp_canon _ _ _ ?_
          exact g0
        · exact g0
      · refine Canon.ite ?_ ?_
        · refine State.emit_canon _ _ ?_
          refine State.bump_canon _ _ _ _ ?_
          refine State.updPtp_canon _ _ _ ?_
          exact g0
        · exact g0
      · refine Canon.ite ?_ ?_
        · refine State.emit_canon _ _ ?_
          refine State.bump_canon _ _ _ _ ?_
          refine State.updPtp_canon _ _ _ ?_
          exact g0
        · exact g0

end Sys2Proof.Machine
end

