-- ==== Sys2Proof/Laws/CanonFamTm.lean ====
section
/-! SUPPORT. The definitions of FamTm keep the object store canonical. -/

namespace Sys2Proof.Machine

theorem State.freeAll_canon (s : State) (frees : List (Nat × Nat)) (h0 : State.Canon (s)) :
    State.Canon (State.freeAll s frees) := by
  unfold State.freeAll
  refine Canon.foldl ?_ ?_
  · intro _ _ g0
    refine State.bufAct_canon _ _ _ _ ?_
    exact g0
  · exact h0

theorem State.allocClock_canon (s : State) (pool : Nat) (reqs : List Nat) (frees : List (Nat × Nat)) (h0 : State.Canon s) :
    State.Canon (State.allocClock s pool reqs frees) := by
  unfold State.allocClock
  split
  · exact State.freeAll_canon _ _ h0
  · dsimp only
    refine Canon.foldl (fun t q ht => ?_) ?_
    · exact State.emit_canon _ _ (State.alloc_canon _ _ _ ht)
    · refine State.emit_canon _ _ ?_
      split
      · exact State.freeAll_canon _ _ (State.alloc_canon _ _ _ h0)
      · exact State.spillUp_canon _ _ _ (State.freeAll_canon _ _ (State.granted_canon _ _ _ h0))
          (fun k' u hu => State.allocIn_canon _ _ _ _ _ hu)

theorem execJoinGo_canon (s : State) (h0 : State.Canon (s)) :
    Res.Canon (execJoinGo s) := by
  unfold execJoinGo
  refine live_canon _ _ ?_ ?_
  · exact h0
  · intro _ g0
    extract_lets -merge x1 x2 x3 x4 x5 x6
    refine Canon.ite ?_ ?_
    · refine State.result_canon _ _ _ _ _ _ ?_
      exact g0
    · refine Canon.ite ?_ ?_
      · refine State.result_canon _ _ _ _ _ _ ?_
        exact g0
      · clear_value x3
        split
        · refine State.result_canon _ _ _ _ _ _ ?_
          exact g0
        · extract_lets -merge x7 x8
          have hx8 : State.Canon (x8) := by
            refine Canon.ite ?_ ?_
            · exact g0
            · refine Canon.mk_iff.mpr ?_
              refine State.Canon.od ?_
              exact g0
          refine Canon.ite ?_ ?_
          · refine State.result_canon _ _ _ _ _ _ ?_
            exact g0
          · refine State.result_canon _ _ _ _ _ _ ?_
            refine State.put_canon _ _ _ _ _ ?_
            exact hx8

theorem execBurstCaptureArm_canon (s : State) (h0 : State.Canon (s)) :
    Res.Canon (execBurstCaptureArm s) := by
  unfold execBurstCaptureArm
  refine live_canon _ _ ?_ ?_
  · exact h0
  · intro _ g0
    extract_lets -merge x1 x2
    have hx2 : State.Canon (x2) := by
      refine Canon.mk_iff.mpr ?_
      refine State.Canon.od ?_
      exact g0
    refine Canon.ite ?_ ?_
    · refine State.result_canon _ _ _ _ _ _ ?_
      exact g0
    · refine Canon.ite ?_ ?_
      · refine State.result_canon _ _ _ _ _ _ ?_
        exact g0
      · refine Canon.ite ?_ ?_
        · refine State.result_canon _ _ _ _ _ _ ?_
          exact g0
        · refine State.result_canon _ _ _ _ _ _ ?_
          refine State.put_canon _ _ _ _ _ ?_
          refine State.put_canon _ _ _ _ _ ?_
          exact hx2

theorem State.copyTo_canon (s : State) (d : Decision) (colour : Nat) (a3 : Dest) (h0 : State.Canon (s)) :
    State.Canon (State.copyTo s d colour a3) := by
  unfold State.copyTo
  extract_lets -merge x0 x1
  split
  · have g2 := Canon.of_snd (by assumption) (by
      refine State.findQueue_canon _ _ _ _ _ _ ?_
      exact h0
      )
    refine State.bufDrop_canon _ _ _ _ ?_
    exact g2
  · have g3 := Canon.of_snd (by assumption) (by
      refine State.findQueue_canon _ _ _ _ _ _ ?_
      exact h0
      )
    refine State.accept_canon _ _ _ _ ?_
    exact g3

theorem State.setRing_canon (s : State) (k : Nat) (r : Ring) (h0 : State.Canon (s)) :
    State.Canon (State.setRing s k r) := by
  unfold State.setRing
  extract_lets -merge x0
  refine State.rput_canon _ _ _ _ _ ?_
  refine Canon.mk_iff.mpr ?_
  refine State.Canon.od ?_
  exact h0

theorem State.expireRing_canon (s : State) (k : Nat) (h0 : State.Canon (s)) :
    State.Canon (State.expireRing s k) := by
  unfold State.expireRing
  extract_lets -merge x0
  refine State.setRing_canon _ _ _ ?_
  exact h0

theorem State.setReplay_canon (s : State) (i : Nat) (r : Replay) (h0 : State.Canon (s)) :
    State.Canon (State.setReplay s i r) := by
  unfold State.setReplay
  extract_lets -merge x0 x1
  have hx1 : State.Canon (x1) := by
    refine Canon.mk_iff.mpr ?_
    refine State.Canon.od ?_
    exact h0
  refine State.put_canon _ _ _ _ _ ?_
  exact hx1

theorem State.policed_canon (s : State) (d : Decision) (h0 : State.Canon (s)) :
    State.Canon (State.policed s d).2 := by
  unfold State.policed
  split
  · have g0 := Canon.of_snd (by assumption) (by
      refine State.police_canon _ _ _ _ ?_
      exact h0
      )
    refine Canon.ite2 ?_ ?_
    · refine Canon.pair ?_
      refine State.bufDrop_canon _ _ _ _ ?_
      refine State.rbump_canon _ _ _ _ ?_
      exact g0
    · refine Canon.pair ?_
      exact g0

theorem State.record_canon (s : State) (g : Nat) (p : Pkt) (h0 : State.Canon (s)) :
    State.Canon (State.record s g p) := by
  unfold State.record
  refine Canon.ite ?_ ?_
  · exact h0
  · refine Canon.foldl ?_ ?_
    · intro _ _ g0
      extract_lets -merge x1 x2 x3 x4
      have hx1 : State.Canon (x1) := by
        refine State.expireRing_canon _ _ ?_
        exact g0
      have hx3 : State.Canon (x3) := by
        refine State.ddrAccess_canon _ _ _ ?_
        exact hx1
      refine State.setRing_canon _ _ _ ?_
      exact hx3
    · exact h0

theorem State.replicate_canon (s : State) (g : Nat) (d : Decision) (colour : Nat) (h0 : State.Canon (s)) :
    State.Canon (State.replicate s g d colour) := by
  unfold State.replicate
  extract_lets -merge x0 x1 x2 x3
  have hx0 : State.Canon (x0) := by
    refine State.record_canon _ _ _ ?_
    exact h0
  have hx2 : State.Canon (x2) := by
    refine State.bufTo_canon _ _ _ _ ?_
    exact hx0
  have hx3 : State.Canon (x3) := by
    unfold x3
    split
    · refine State.bufAct_canon _ _ _ _ ?_
      exact hx2
    · exact hx2
  refine Canon.ite ?_ ?_
  · refine State.bufDrop_canon _ _ _ _ ?_
    refine State.bump_canon _ _ _ _ ?_
    exact hx0
  · refine Canon.foldl ?_ ?_
    · intro _ _ g4
      refine State.copyTo_canon _ _ _ _ ?_
      exact g4
    · refine State.bumpBy_canon _ _ _ _ _ ?_
      exact hx3

theorem State.takeHint_canon (s : State) (d : Decision) (h0 : State.Canon (s)) :
    State.Canon (State.takeHint s d) := by
  unfold State.takeHint
  extract_lets -merge x0
  have hx0 : State.Canon (x0) := by
    refine State.bufDrop_canon _ _ _ _ ?_
    exact h0
  split
  · refine Canon.ite ?_ ?_
    · refine State.bump_canon _ _ _ _ ?_
      exact hx0
    · refine Canon.foldl ?_ ?_
      · intro _ _ g1
        extract_lets -merge x2
        split
        · extract_lets -merge x3
          refine State.bump_canon _ _ _ _ ?_
          refine Canon.mk_iff.mpr ?_
          refine State.Canon.od ?_
          exact g1
        · refine State.bump_canon _ _ _ _ ?_
          exact g1
      · exact hx0
  · refine State.bump_canon _ _ _ _ ?_
    exact hx0

theorem execEnqueueDecision_canon (s : State) (h0 : State.Canon (s)) :
    Res.Canon (execEnqueueDecision s) := by
  unfold execEnqueueDecision
  refine live_canon _ _ ?_ ?_
  · exact h0
  · intro _ g0
    extract_lets -merge x1
    split
    · exact g0
    · extract_lets -merge x2 x3
      have hx2 : State.Canon (x2) := by
        refine Canon.mk_iff.mpr ?_
        refine State.Canon.od ?_
        exact g0
      have hx3 : State.Canon (x3) := by
        refine Canon.ite ?_ ?_
        · exact hx2
        · refine State.grantedAt_canon _ _ _ _ ?_
          exact hx2
      refine Canon.ite ?_ ?_
      · refine State.takeHint_canon _ _ ?_
        exact hx3
      · split
        · split
          · have g4 := Canon.of_snd (by assumption) (by
              refine State.policed_canon _ _ ?_
              exact hx3
              )
            exact g4
          · have g5 := Canon.of_snd (by assumption) (by
              refine State.policed_canon _ _ ?_
              exact hx3
              )
            refine State.replicate_canon _ _ _ _ ?_
            exact g5
        · split
          · have g6 := Canon.of_snd (by assumption) (by
              refine State.findQueue_canon _ _ _ _ _ _ ?_
              exact hx3
              )
            refine State.bufDrop_canon _ _ _ _ ?_
            exact g6
          · have g7 := Canon.of_snd (by assumption) (by
              refine State.findQueue_canon _ _ _ _ _ _ ?_
              exact hx3
              )
            split
            · have g8 := Canon.of_snd (by assumption) (by
                refine State.policed_canon _ _ ?_
                exact g7
                )
              exact g8
            · have g9 := Canon.of_snd (by assumption) (by
                refine State.policed_canon _ _ ?_
                exact g7
                )
              refine State.accept_canon _ _ _ _ ?_
              exact g9

theorem execBufAlloc_canon (pool : Nat) (reqs : List Nat) (frees : List (Nat × Nat)) (s : State) (h3 : State.Canon (s)) :
    Res.Canon (execBufAlloc pool reqs frees s) := by
  unfold execBufAlloc
  refine live_canon _ _ ?_ ?_
  · exact h3
  · intro _ g0
    refine State.allocClock_canon _ _ _ _ ?_
    exact g0

theorem execBufHandover_canon (req : Nat) (ptr : Nat) (id : Nat) (same : List (Nat × BufOp)) (s : State) (h4 : State.Canon (s)) :
    Res.Canon (execBufHandover req ptr id same s) := by
  unfold execBufHandover
  refine live_canon _ _ ?_ ?_
  · exact h4
  · intro _ g0
    refine State.bufClock_canon _ _ _ ?_
    exact g0

theorem execBufShare_canon (req : Nat) (ptr : Nat) (k : Nat) (id : Nat) (same : List (Nat × BufOp)) (s : State) (h5 : State.Canon (s)) :
    Res.Canon (execBufShare req ptr k id same s) := by
  unfold execBufShare
  refine live_canon _ _ ?_ ?_
  · exact h5
  · intro _ g0
    refine State.bufClock_canon _ _ _ ?_
    exact g0

theorem execBufRelease_canon (req : Nat) (ptr : Nat) (same : List (Nat × BufOp)) (s : State) (h3 : State.Canon (s)) :
    Res.Canon (execBufRelease req ptr same s) := by
  unfold execBufRelease
  refine live_canon _ _ ?_ ?_
  · exact h3
  · intro _ g0
    refine State.bufClock_canon _ _ _ ?_
    exact g0

theorem execBufFree_canon (req : Nat) (ptr : Nat) (same : List (Nat × BufOp)) (s : State) (h3 : State.Canon (s)) :
    Res.Canon (execBufFree req ptr same s) := by
  unfold execBufFree
  refine live_canon _ _ ?_ ?_
  · exact h3
  · intro _ g0
    refine State.bufClock_canon _ _ _ ?_
    exact g0

theorem execSpillWriteComplete_canon (dir : Fin 2) (q : Nat) (s : State) (h2 : State.Canon (s)) :
    Res.Canon (execSpillWriteComplete dir q s) := by
  unfold execSpillWriteComplete
  refine live_canon _ _ ?_ ?_
  · exact h2
  · intro _ g0
    extract_lets -merge x1
    split
    · exact g0
    · extract_lets -merge x2 x3
      have hx2 : State.Canon (x2) := by
        refine Canon.mk_iff.mpr ?_
        refine State.Canon.od ?_
        exact g0
      have hx3 : State.Canon (x3) := by
        refine State.bufDrop_canon _ _ _ _ ?_
        exact hx2
      refine Canon.ite ?_ ?_
      · exact g0
      · refine State.refill_canon _ _ _ ?_
        refine State.setQueue_canon _ _ _ _ ?_
        exact hx3

theorem execRefillReadComplete_canon (dir : Fin 2) (q : Nat) (s : State) (h2 : State.Canon (s)) :
    Res.Canon (execRefillReadComplete dir q s) := by
  unfold execRefillReadComplete
  refine live_canon _ _ ?_ ?_
  · exact h2
  · intro _ g0
    split
    · exact g0
    · refine Canon.ite ?_ ?_
      · exact g0
      · split
        · have g1 := Canon.of_snd (by assumption) (by
            refine State.allocBytes_canon _ _ _ _ ?_
            exact g0
            )
          exact g1
        · have g2 := Canon.of_snd (by assumption) (by
            refine State.allocBytes_canon _ _ _ _ ?_
            exact g0
            )
          extract_lets -merge x3 x4
          have hx3 : State.Canon (x3) := by
            refine State.bufDrop_canon _ _ _ _ ?_
            exact g2
          have hx4 : State.Canon (x4) := by
            refine State.bump_canon _ _ _ _ ?_
            exact hx3
          refine State.refill_canon _ _ _ ?_
          refine State.setQueue_canon _ _ _ _ ?_
          exact hx4

theorem execLaunchLate_canon (dir : Fin 2) (q : Nat) (s : State) (h2 : State.Canon (s)) :
    Res.Canon (execLaunchLate dir q s) := by
  unfold execLaunchLate
  refine live_canon _ _ ?_ ?_
  · exact h2
  · intro _ g0
    split
    · exact g0
    · refine Canon.ite ?_ ?_
      · refine State.dropQueued_canon _ _ _ _ _ ?_
        refine State.bump_canon _ _ _ _ ?_
        exact g0
      · exact g0

theorem execReplayRingExpiry_canon (k : Nat) (s : State) (h1 : State.Canon (s)) :
    Res.Canon (execReplayRingExpiry k s) := by
  unfold execReplayRingExpiry
  refine live_canon _ _ ?_ ?_
  · exact h1
  · intro _ g0
    refine State.expireRing_canon _ _ ?_
    exact g0

theorem execReplayPacket_canon (i : Nat) (s : State) (h1 : State.Canon (s)) :
    Res.Canon (execReplayPacket i s) := by
  unfold execReplayPacket
  refine live_canon _ _ ?_ ?_
  · exact h1
  · intro _ g0
    split
    · exact g0
    · extract_lets -merge x1
      have hx1 : State.Canon (x1) := by
        refine State.expireRing_canon _ _ ?_
        exact g0
      split
      · exact g0
      · extract_lets -merge x2
        have hx2 : State.Canon (x2) := by
          refine State.ddrAccess_canon _ _ _ ?_
          exact hx1
        refine Canon.ite ?_ ?_
        · exact g0
        · split
          · refine State.setReplay_canon _ _ _ ?_
            refine State.bump_canon _ _ _ _ ?_
            exact hx1
          · extract_lets -merge x3 x4
            have hx3 : State.Canon (x3) := by
              refine State.setReplay_canon _ _ _ ?_
              exact hx2
            refine Canon.ite ?_ ?_
            · refine State.bump_canon _ _ _ _ ?_
              exact hx3
            · split
              · have g5 := Canon.of_snd (by assumption) (by
                  refine State.allocBytes_canon _ _ _ _ ?_
                  exact hx3
                  )
                refine State.bump_canon _ _ _ _ ?_
                exact g5
              · have g6 := Canon.of_snd (by assumption) (by
                  refine State.allocBytes_canon _ _ _ _ ?_
                  exact hx3
                  )
                split
                · have g7 := Canon.of_snd (by assumption) (by
                    refine State.accept_canon _ _ _ _ ?_
                    exact g6
                    )
                  exact g7
                · have g8 := Canon.of_snd (by assumption) (by
                    refine State.accept_canon _ _ _ _ ?_
                    exact g6
                    )
                  refine State.bump_canon _ _ _ _ ?_
                  exact g8

end Sys2Proof.Machine
end

