-- ==== Sys2Proof/Laws/CanonFamUpl.lean ====
section
/-! SUPPORT. The definitions of FamUpl keep the object store canonical. -/

namespace Sys2Proof.Machine

theorem State.protCommand_canon (s : State) (j : Nat) (v : Nat) (h0 : State.Canon (s)) :
    State.Canon (State.protCommand s j v) := by
  unfold State.protCommand
  refine State.protArbitrate_canon _ _ ?_
  refine State.updProt_canon _ _ _ ?_
  exact h0

theorem State.uplEnter_canon (s : State) (g : Nat) (st : Nat) (h0 : State.Canon (s)) :
    State.Canon (State.uplEnter s g st) := by
  unfold State.uplEnter
  refine State.updUplG_canon _ _ _ ?_
  refine State.put_canon _ _ _ _ _ ?_
  exact h0

theorem execGroupEnable_canon (g : Fin 8) (s : State) (h1 : State.Canon (s)) :
    Res.Canon (execGroupEnable g s) := by
  unfold execGroupEnable
  refine live_canon _ _ ?_ ?_
  · exact h1
  · intro _ g0
    split
    · have g1 := Canon.of_snd (by assumption) (by
        refine State.groupEnable_canon _ _ _ ?_
        exact g0
        )
      refine State.result_canon _ _ _ _ _ _ ?_
      exact g1

theorem execGroupDisable_canon (g : Fin 8) (s : State) (h1 : State.Canon (s)) :
    Res.Canon (execGroupDisable g s) := by
  unfold execGroupDisable
  refine live_canon _ _ ?_ ?_
  · exact h1
  · intro _ g0
    split
    · have g1 := Canon.of_snd (by assumption) (by
        refine State.groupEnable_canon _ _ _ ?_
        exact g0
        )
      refine State.result_canon _ _ _ _ _ _ ?_
      exact g1

theorem execGroupLanesStarted_canon (g : Fin 8) (s : State) (h1 : State.Canon (s)) :
    Res.Canon (execGroupLanesStarted g s) := by
  unfold execGroupLanesStarted
  refine live_canon _ _ ?_ ?_
  · exact h1
  · intro _ g0
    extract_lets -merge x1 x2 x3 x4
    have hx1 : State.Canon (x1) := by
      refine State.put_canon _ _ _ _ _ ?_
      exact g0
    have hx2 : State.Canon (x2) := by
      refine State.emit_canon _ _ ?_
      exact hx1
    have hx3 : State.Canon (x3) := by
      refine Canon.foldl ?_ ?_
      · intro _ _ g5
        refine State.emit_canon _ _ ?_
        exact g5
      · exact hx2
    have hx4 : State.Canon (x4) := by
      refine Canon.ite ?_ ?_
      · refine Canon.foldl ?_ ?_
        · intro _ _ g6
          refine Canon.ite ?_ ?_
          · exact g6
          · refine State.emit_canon _ _ ?_
            exact g6
        · exact hx3
      · exact hx3
    refine Canon.ite ?_ ?_
    · exact g0
    · refine State.uplEnter_canon _ _ _ ?_
      exact hx4

theorem execGroupTrained_canon (g : Fin 8) (s : State) (h1 : State.Canon (s)) :
    Res.Canon (execGroupTrained g s) := by
  unfold execGroupTrained
  refine live_canon _ _ ?_ ?_
  · exact h1
  · intro _ g0
    refine Canon.ite ?_ ?_
    · refine State.uplEnter_canon _ _ _ ?_
      exact g0
    · exact g0

theorem execUplTrainFail_canon (g : Fin 8) (lane : Fin 32) (s : State) (h2 : State.Canon (s)) :
    Res.Canon (execUplTrainFail g lane s) := by
  unfold execUplTrainFail
  refine live_canon _ _ ?_ ?_
  · exact h2
  · intro _ g0
    extract_lets -merge x1
    have hx1 : State.Canon (x1) := by
      refine State.bump_canon _ _ _ _ ?_
      refine State.uplEnter_canon _ _ _ ?_
      exact g0
    refine Canon.ite ?_ ?_
    · refine State.event_canon _ _ _ _ ?_
      refine State.emit_canon _ _ ?_
      exact hx1
    · exact g0

theorem execGroupAligned_canon (g : Fin 8) (s : State) (h1 : State.Canon (s)) :
    Res.Canon (execGroupAligned g s) := by
  unfold execGroupAligned
  refine live_canon _ _ ?_ ?_
  · exact h1
  · intro _ g0
    extract_lets -merge x1
    have hx1 : State.Canon (x1) := by
      refine State.put_canon _ _ _ _ _ ?_
      refine State.uplEnter_canon _ _ _ ?_
      exact g0
    refine Canon.ite ?_ ?_
    · refine State.groupLinks_canon _ _ ?_
      exact hx1
    · exact g0

theorem execGroupRetry_canon (g : Fin 8) (s : State) (h1 : State.Canon (s)) :
    Res.Canon (execGroupRetry g s) := by
  unfold execGroupRetry
  refine live_canon _ _ ?_ ?_
  · exact h1
  · intro _ g0
    refine Canon.ite ?_ ?_
    · refine State.uplEnter_canon _ _ _ ?_
      exact g0
    · exact g0

theorem execMacRxFrame_canon (i : Fin 32) (data : List Nat) (fcsOk : Bool) (fecBad : Bool) (s : State) (h4 : State.Canon (s)) :
    Res.Canon (execMacRxFrame i data fcsOk fecBad s) := by
  unfold execMacRxFrame
  extract_lets -merge x0
  refine live_canon _ _ ?_ ?_
  · exact h4
  · intro _ g1
    extract_lets -merge x2 x3 x4
    have hx2 : State.Canon (x2) := by
      refine State.bumpBy_canon _ _ _ _ _ ?_
      refine State.bump_canon _ _ _ _ ?_
      exact g1
    refine Canon.ite ?_ ?_
    · exact g1
    · refine Canon.ite ?_ ?_
      · refine State.bump_canon _ _ _ _ ?_
        exact g1
      · refine Canon.ite ?_ ?_
        · refine State.bump_canon _ _ _ _ ?_
          exact g1
        · refine Canon.ite ?_ ?_
          · refine State.bump_canon _ _ _ _ ?_
            exact g1
          · refine Canon.ite ?_ ?_
            · refine State.bump_canon _ _ _ _ ?_
              exact g1
            · refine Canon.ite ?_ ?_
              · exact hx2
              · split
                · have g5 := Canon.of_snd (by assumption) (by
                    refine State.recovery_canon _ _ ?_
                    exact hx2
                    )
                  exact g5
                · have g6 := Canon.of_snd (by assumption) (by
                    refine State.recovery_canon _ _ ?_
                    exact hx2
                    )
                  refine State.arrive_canon _ _ _ ?_
                  exact g6

theorem execUplLinkDown_canon (i : Fin 32) (lock : Bool) (localFault : Bool) (remoteFault : Bool) (s : State) (h4 : State.Canon (s)) :
    Res.Canon (execUplLinkDown i lock localFault remoteFault s) := by
  unfold execUplLinkDown
  refine live_canon _ _ ?_ ?_
  · exact h4
  · intro _ g0
    extract_lets -merge x1
    have hx1 : State.Canon (x1) := by
      refine State.updMac_canon _ _ _ ?_
      exact g0
    refine Canon.ite ?_ ?_
    · refine State.refreshMember_canon _ _ ?_
      exact hx1
    · exact g0

theorem execOtnDefectChange_canon (e : Fin 40) (cond : OtnCond) (s : State) (h2 : State.Canon (s)) :
    Res.Canon (execOtnDefectChange e cond s) := by
  unfold execOtnDefectChange
  refine live_canon _ _ ?_ ?_
  · exact h2
  · intro _ g0
    extract_lets -merge x1 x2
    have hx1 : State.Canon (x1) := by
      refine State.updOtn_canon _ _ _ ?_
      exact g0
    refine Canon.ite ?_ ?_
    · exact g0
    · refine State.refreshSf_canon _ _ ?_
      refine State.setDefect_canon _ _ _ _ ?_
      exact hx1

theorem execTtiMultiframe_canon (e : Fin 40) (tti : Nat) (s : State) (h2 : State.Canon (s)) :
    Res.Canon (execTtiMultiframe e tti s) := by
  unfold execTtiMultiframe
  extract_lets -merge x0
  refine live_canon _ _ ?_ ?_
  · exact h2
  · intro _ g1
    extract_lets -merge x2 x3 x4 x5
    have hx2 : State.Canon (x2) := by
      refine State.emit_canon _ _ ?_
      exact g1
    have hx5 : State.Canon (x5) := by
      refine State.updOtn_canon _ _ _ ?_
      exact hx2
    refine Canon.ite ?_ ?_
    · exact g1
    · refine Canon.ite ?_ ?_
      · refine State.timEval_canon _ _ ?_
        refine State.put_canon _ _ _ _ _ ?_
        exact hx5
      · exact hx5

theorem execGmpPeriod_canon (i : Fin 32) (layer : Fin 2) (crcOk : Bool) (cm : Nat) (fill : Nat) (s : State) (h5 : State.Canon (s)) :
    Res.Canon (execGmpPeriod i layer crcOk cm fill s) := by
  unfold execGmpPeriod
  extract_lets -merge x0 x1
  have hx1 : ∀ y0 y1 y2 y3, State.Canon (y0) → State.Canon (x1 y0 y1 y2 y3) := by
    intro _ _ _ _ g2
    unfold x1
    refine State.updOtn_canon _ _ _ ?_
    exact g2
  refine live_canon _ _ ?_ ?_
  · exact h5
  · intro _ g3
    extract_lets -merge x4 x5 x6 x7 x8 x9 x10 x11 x12 x13
    have hx4 : State.Canon (x4) := by
      refine Canon.ite ?_ ?_
      · refine State.emit_canon _ _ ?_
        exact g3
      · exact g3
    have hx9 : State.Canon (x9) := by
      refine Canon.ite ?_ ?_
      · refine State.put_canon _ _ _ _ _ ?_
        exact hx4
      · refine State.updOtn_canon _ _ _ ?_
        exact hx4
    have hx10 : State.Canon (x10) := by
      refine State.bump_canon _ _ _ _ ?_
      exact hx4
    have hx12 : State.Canon (x12) := by
      refine hx1 _ _ _ _ ?_
      exact hx10
    have hx13 : State.Canon (x13) := by
      refine Canon.ite ?_ ?_
      · refine State.event_canon _ _ _ _ ?_
        exact hx12
      · exact hx12
    refine Canon.ite ?_ ?_
    · exact hx4
    · refine Canon.ite ?_ ?_
      · refine State.refreshSf_canon _ _ ?_
        refine hx1 _ _ _ _ ?_
        exact hx9
      · refine State.refreshSf_canon _ _ ?_
        exact hx13

theorem execOtnPmSecond_canon (e : Fin 40) (blocks : Nat) (bips : List Nat) (beis : List Nat) (s : State) (h4 : State.Canon (s)) :
    Res.Canon (execOtnPmSecond e blocks bips beis s) := by
  unfold execOtnPmSecond
  extract_lets -merge x0 x1 x2 x3
  refine live_canon _ _ ?_ ?_
  · exact h4
  · intro _ g4
    extract_lets -merge x5 x6 x7 x8 x9 x10 x11 x12 x13 x14 x15 x16 x17 x18 x19 x20 x21 x22 x23 x24 x25 x26 x27 x28 x29 x30 x31 x32
    have hx7 : State.Canon (x7) := by
      refine Canon.foldl ?_ ?_
      · intro _ _ g33
        refine State.emit_canon _ _ ?_
        exact g33
      · exact g4
    have hx28 : State.Canon (x28) := by
      refine State.updOtn_canon _ _ _ ?_
      exact hx7
    have hx31 : State.Canon (x31) := by
      refine Canon.ite ?_ ?_
      · refine State.setDefect_canon _ _ _ _ ?_
        exact hx28
      · refine Canon.ite ?_ ?_
        · refine State.setDefect_canon _ _ _ _ ?_
          exact hx28
        · exact hx28
    have hx32 : State.Canon (x32) := by
      refine Canon.ite ?_ ?_
      · exact hx31
      · refine State.protOf_canon _ _ ?_
        exact hx31
    refine Canon.ite ?_ ?_
    · exact g4
    · refine Canon.ite ?_ ?_
      · exact hx32
      · refine State.otnCommit_canon _ _ _ ?_
        exact hx32

theorem execApsReceived_canon (j : Fin 16) (req : Fin 10) (trib : Fin 2) (s : State) (h3 : State.Canon (s)) :
    Res.Canon (execApsReceived j req trib s) := by
  unfold execApsReceived
  refine live_canon _ _ ?_ ?_
  · exact h3
  · intro _ g0
    extract_lets -merge x1 x2
    have hx2 : State.Canon (x2) := by
      refine State.bump_canon _ _ _ _ ?_
      refine State.updProt_canon _ _ _ ?_
      exact g0
    refine Canon.ite ?_ ?_
    · refine State.protArbitrate_canon _ _ ?_
      refine State.event_canon _ _ _ _ ?_
      exact hx2
    · refine Canon.ite ?_ ?_
      · exact g0
      · refine State.protArbitrate_canon _ _ ?_
        refine State.updProt_canon _ _ _ ?_
        exact g0

theorem execProtHoldoffExpiry_canon (j : Fin 16) (s : State) (h1 : State.Canon (s)) :
    Res.Canon (execProtHoldoffExpiry j s) := by
  unfold execProtHoldoffExpiry
  refine live_canon _ _ ?_ ?_
  · exact h1
  · intro _ g0
    refine State.protRefresh_canon _ _ ?_
    exact g0

theorem execWtrExpiry_canon (j : Fin 16) (s : State) (h1 : State.Canon (s)) :
    Res.Canon (execWtrExpiry j s) := by
  unfold execWtrExpiry
  refine live_canon _ _ ?_ ?_
  · exact h1
  · intro _ g0
    split
    · refine Canon.ite ?_ ?_
      · refine State.protArbitrate_canon _ _ ?_
        refine State.updProt_canon _ _ _ ?_
        exact g0
      · exact g0
    · exact g0

theorem execProtCmdClear_canon (j : Fin 16) (s : State) (h1 : State.Canon (s)) :
    Res.Canon (execProtCmdClear j s) := by
  unfold execProtCmdClear
  refine live_canon _ _ ?_ ?_
  · exact h1
  · intro _ g0
    refine State.result_canon _ _ _ _ _ _ ?_
    refine State.protCommand_canon _ _ _ ?_
    exact g0

theorem execProtCmdLockout_canon (j : Fin 16) (s : State) (h1 : State.Canon (s)) :
    Res.Canon (execProtCmdLockout j s) := by
  unfold execProtCmdLockout
  refine live_canon _ _ ?_ ?_
  · exact h1
  · intro _ g0
    refine State.result_canon _ _ _ _ _ _ ?_
    refine State.protCommand_canon _ _ _ ?_
    exact g0

theorem execProtCmdForced_canon (j : Fin 16) (s : State) (h1 : State.Canon (s)) :
    Res.Canon (execProtCmdForced j s) := by
  unfold execProtCmdForced
  refine live_canon _ _ ?_ ?_
  · exact h1
  · intro _ g0
    refine State.result_canon _ _ _ _ _ _ ?_
    refine State.protCommand_canon _ _ _ ?_
    exact g0

theorem execProtCmdManual_canon (j : Fin 16) (s : State) (h1 : State.Canon (s)) :
    Res.Canon (execProtCmdManual j s) := by
  unfold execProtCmdManual
  refine live_canon _ _ ?_ ?_
  · exact h1
  · intro _ g0
    refine State.result_canon _ _ _ _ _ _ ?_
    refine State.protCommand_canon _ _ _ ?_
    exact g0

theorem execProtCmdExercise_canon (j : Fin 16) (s : State) (h1 : State.Canon (s)) :
    Res.Canon (execProtCmdExercise j s) := by
  unfold execProtCmdExercise
  refine live_canon _ _ ?_ ?_
  · exact h1
  · intro _ g0
    refine State.result_canon _ _ _ _ _ _ ?_
    refine State.protCommand_canon _ _ _ ?_
    exact g0

theorem execEscHoldExpiry_canon (s : State) (h0 : State.Canon (s)) :
    Res.Canon (execEscHoldExpiry s) := by
  unfold execEscHoldExpiry
  refine live_canon _ _ ?_ ?_
  · exact h0
  · intro _ g0
    extract_lets -merge x1 x2 x3
    have hx3 : State.Canon (x3) := by
      refine State.bump_canon _ _ _ _ ?_
      refine State.put_canon _ _ _ _ _ ?_
      exact g0
    refine Canon.ite ?_ ?_
    · refine State.refreshFaults_canon _ ?_
      refine State.event_canon _ _ _ _ ?_
      exact hx3
    · refine Canon.ite ?_ ?_
      · refine State.refreshFaults_canon _ ?_
        refine State.put_canon _ _ _ _ _ ?_
        exact g0
      · exact g0

end Sys2Proof.Machine
end

