-- ==== Sys2Proof/Laws/CanonFamFramer.lean ====
section
/-! SUPPORT. The definitions of FamFramer keep the object store canonical. -/

namespace Sys2Proof.Machine

theorem execClearPm_canon (r : Nat) (s : State) (h1 : State.Canon (s)) :
    Res.Canon (execClearPm r s) := by
  unfold execClearPm
  refine live_canon _ _ ?_ ?_
  · exact h1
  · intro _ g0
    refine Canon.ite ?_ ?_
    · refine State.result_canon _ _ _ _ _ _ ?_
      refine State.clearPm_canon _ _ ?_
      exact g0
    · refine State.result_canon _ _ _ _ _ _ ?_
      exact g0

theorem State.controlSent_canon (s : State) (p : Nat) (c : Nat) (m : Ploam) (h0 : State.Canon (s)) :
    State.Canon (State.controlSent s p c m) := by
  unfold State.controlSent
  split
  · refine State.updOnuF_canon _ _ _ ?_
    exact h0
  · exact h0

theorem State.buildFrame_canon (s : State) (p : Nat) (c : Nat) (k : Nat) (h0 : State.Canon (s)) :
    State.Canon (State.buildFrame s p c k) := by
  unfold State.buildFrame
  extract_lets -merge x0 x1 x2 x3 x4 x5 x6 x7 x8 x9 x10 x11 x12 x13 x14
  have hx3 : State.Canon (x3) := by
    refine State.updAct_canon _ _ _ _ ?_
    exact h0
  have hx4 : State.Canon (x4) := by
    refine Canon.foldl ?_ ?_
    · intro _ _ g15
      refine State.actSent_canon _ _ _ _ _ ?_
      exact g15
    · exact hx3
  have hx8 : State.Canon (x8) := by
    refine State.updFr_canon _ _ _ _ ?_
    exact hx4
  have hx9 : State.Canon (x9) := by
    refine Canon.foldl ?_ ?_
    · intro _ _ g16
      refine State.controlSent_canon _ _ _ _ ?_
      exact g16
    · exact hx8
  have hx12 : State.Canon (x12).s := by
    refine Fill.run_canon _ _ _ _ _ ?_
    exact hx9
  have hx13 : State.Canon (x13) := by
    refine State.bumpBy_canon _ _ _ _ _ ?_
    refine State.bump_canon _ _ _ _ ?_
    exact hx12
  refine State.emit_canon _ _ ?_
  exact hx13

theorem State.history_canon (s : State) (r : Nat) (h : Nat) (day : Bool) (bad : Option (Fin 8 × Nat)) (vals : List Int) (h0 : State.Canon (s)) :
    State.Canon (State.history s r h day bad vals) := by
  unfold State.history
  refine Canon.ite ?_ ?_
  · exact h0
  · refine Canon.ite ?_ ?_
    · refine State.updOnuF_canon _ _ _ ?_
      exact h0
    · split
      · refine State.memUe_canon _ _ _ _ _ ?_
        refine State.ddrRequest_canon _ _ ?_
        exact h0
      · refine State.historyPut_canon _ _ _ _ ?_
        exact h0

theorem State.idleWords_canon (s : State) (p : Nat) (c : Nat) (alloc : Nat) (start : Nat) (len : Nat) (h0 : State.Canon (s)) :
    State.Canon (State.idleWords s p c alloc start len) := by
  unfold State.idleWords
  split
  · refine State.updCtx_canon _ _ _ ?_
    exact h0
  · exact h0

theorem State.keyAnswer_canon (s : State) (m : Nat) (k : Nat) (code : Nat) (target : Nat) (h0 : State.Canon (s)) :
    State.Canon (State.keyAnswer s m k code target) := by
  unfold State.keyAnswer
  extract_lets -merge x0 x1 x2
  have hx2 : State.Canon (x2) := by
    refine State.setSlot_canon _ _ _ _ ?_
    exact h0
  refine Canon.ite ?_ ?_
  · refine State.freeSlot_canon _ _ _ ?_
    refine State.bump_canon _ _ _ _ ?_
    exact h0
  · refine State.mbxCause_canon _ _ _ _ ?_
    refine State.updMbx_canon _ _ _ ?_
    exact hx2

theorem State.keyCommand_canon (s : State) (m : Nat) (op : Nat) (act : KeyMsg → State → Nat × State) (h0 : State.Canon (s)) (h3 : ∀ y0 y1, State.Canon (y1) → State.Canon (act y0 y1).2) :
    State.Canon (State.keyCommand s m op act) := by
  unfold State.keyCommand
  extract_lets -merge x0
  have hx0 : State.Canon (x0) := by
    refine State.mbxSweep_canon _ _ ?_
    exact h0
  split
  · exact hx0
  · extract_lets -merge x1 x2
    refine Canon.ite ?_ ?_
    · exact hx0
    · split
      · have g3 := Canon.of_snd (by assumption) (by
          refine Canon.ite2 ?_ ?_
          · refine Canon.pair ?_
            exact hx0
          · refine h3 _ _ ?_
            exact hx0
          )
        refine State.keyAnswer_canon _ _ _ _ _ ?_
        exact g3

theorem State.rangingCorrection_canon (s : State) (p : Nat) (c : Nat) (k : Nat) (h0 : State.Canon (s)) :
    State.Canon (State.rangingCorrection s p c k) := by
  unfold State.rangingCorrection
  extract_lets -merge x0 x1 x2
  have hx1 : State.Canon (x1) := by
    refine State.setTwin_canon _ _ ?_
    exact h0
  have hx2 : State.Canon (x2) := by
    refine State.updAct_canon _ _ _ _ ?_
    exact hx1
  split
  · refine Canon.ite ?_ ?_
    · refine Canon.foldl ?_ ?_
      · intro _ _ g3
        extract_lets -merge x4 x5
        refine Canon.ite ?_ ?_
        · exact g3
        · refine Canon.ite ?_ ?_
          · refine State.deactivate_canon _ _ _ ?_
            exact g3
          · refine State.updOnu_canon _ _ _ ?_
            refine State.rputK_canon _ _ _ _ ?_
            exact g3
      · exact hx2
    · exact h0
  · exact h0

theorem State.startSending_canon (s : State) (p : Nat) (c : Nat) (h0 : State.Canon (s)) :
    State.Canon (State.startSending s p c) := by
  unfold State.startSending
  extract_lets -merge x0
  refine Canon.ite ?_ ?_
  · refine State.updCh_canon _ _ _ _ ?_
    exact h0
  · exact h0

theorem State.tca_canon (s : State) (r : Nat) (code : Nat) (th : Obj) (cnt : Obj) (done : Bool) (h0 : State.Canon (s)) :
    State.Canon (State.tca s r code th cnt done).2 := by
  unfold State.tca
  extract_lets -merge x0 x1
  refine Canon.ite2 ?_ ?_
  · refine Canon.pair ?_
    exact h0
  · refine Canon.pair ?_
    refine State.event_canon _ _ _ _ ?_
    exact h0

theorem askRekey_canon (k : KeyMsg) (s : State) (h1 : State.Canon (s)) :
    State.Canon (askRekey k s).2 := by
  unfold askRekey
  refine Canon.ite2 ?_ ?_
  · refine Canon.pair ?_
    exact h1
  · refine Canon.pair ?_
    refine State.updOnuF_canon _ _ _ ?_
    exact h1

theorem execDsFrameBuild_canon (p : Fin 64) (c : Fin 2) (s : State) (h2 : State.Canon (s)) :
    Res.Canon (execDsFrameBuild p c s) := by
  unfold execDsFrameBuild
  refine live_canon _ _ ?_ ?_
  · exact h2
  · intro _ g0
    extract_lets -merge x1 x2 x3 x4
    have hx1 : State.Canon (x1) := by
      refine State.takeRole_canon _ ?_
      exact g0
    have hx3 : State.Canon (x3) := by
      refine State.updFr_canon _ _ _ _ ?_
      exact hx1
    have hx4 : State.Canon (x4) := by
      refine State.startSending_canon _ _ _ ?_
      refine State.latchKeys_canon _ _ _ _ ?_
      exact hx3
    refine Canon.ite ?_ ?_
    · exact hx1
    · refine Canon.ite ?_ ?_
      · exact hx4
      · refine State.buildFrame_canon _ _ _ _ ?_
        refine State.rangingCorrection_canon _ _ _ _ ?_
        exact hx4

theorem execPloamPost_canon (p : Fin 64) (c : Fin 2) (onu : Nat) (arg : Int) (s : State) (h4 : State.Canon (s)) :
    Res.Canon (execPloamPost p c onu arg s) := by
  unfold execPloamPost
  refine live_canon _ _ ?_ ?_
  · exact h4
  · intro _ g0
    split
    · have g1 := Canon.of_snd (by assumption) (by
        refine State.ploamPost_canon _ _ _ _ ?_
        exact g0
        )
      refine State.emit_canon _ _ ?_
      exact g1

theorem execKeyControlDue_canon (r : Nat) (s : State) (h1 : State.Canon (s)) :
    Res.Canon (execKeyControlDue r s) := by
  unfold execKeyControlDue
  refine live_canon _ _ ?_ ?_
  · exact h1
  · intro _ g0
    extract_lets -merge x1 x2 x3 x4 x5 x6
    refine Canon.ite ?_ ?_
    · exact g0
    · split
      · have g7 := Canon.of_snd (by assumption) (by
          refine State.ploamPost_canon _ _ _ _ ?_
          exact g0
          )
        refine State.updOnuF_canon _ _ _ ?_
        exact g7
      · have g8 := Canon.of_snd (by assumption) (by
          refine State.ploamPost_canon _ _ _ _ ?_
          exact g0
          )
        exact g8

theorem execKeyReportReceived_canon (r : Nat) (s : State) (h1 : State.Canon (s)) :
    Res.Canon (execKeyReportReceived r s) := by
  unfold execKeyReportReceived
  refine live_canon _ _ ?_ ?_
  · exact h1
  · intro _ g0
    split
    · exact g0
    · extract_lets -merge x1
      have hx1 : State.Canon (x1) := by
        refine State.updOnuF_canon _ _ _ ?_
        exact g0
      refine Canon.ite ?_ ?_
      · exact hx1
      · refine Canon.ite ?_ ?_
        · refine State.keyFail_canon _ _ ?_
          exact hx1
        · split
          · refine State.keyFail_canon _ _ ?_
            exact hx1
          · refine State.updOnuF_canon _ _ _ ?_
            refine State.installKey_canon _ _ _ ?_
            exact hx1

theorem execKeyExchangeTimeout_canon (r : Nat) (s : State) (h1 : State.Canon (s)) :
    Res.Canon (execKeyExchangeTimeout r s) := by
  unfold execKeyExchangeTimeout
  refine live_canon _ _ ?_ ?_
  · exact h1
  · intro _ g0
    extract_lets -merge x1
    refine Canon.ite ?_ ?_
    · refine State.keyFail_canon _ _ ?_
      exact g0
    · exact g0

theorem mcastLoad_canon (k : KeyMsg) (s : State) (h1 : State.Canon (s)) :
    State.Canon (mcastLoad k s).2 := by
  unfold mcastLoad
  extract_lets -merge x0 x1
  refine Canon.ite2 ?_ ?_
  · refine Canon.pair ?_
    exact h1
  · refine Canon.pair ?_
    refine State.bump_canon _ _ _ _ ?_
    refine State.updFr_canon _ _ _ _ ?_
    exact h1

theorem execMcastLoad_canon (m : Fin 8) (s : State) (h1 : State.Canon (s)) :
    Res.Canon (execMcastLoad m s) := by
  unfold execMcastLoad
  refine live_canon _ _ ?_ ?_
  · exact h1
  · intro _ g0
    refine State.keyCommand_canon _ _ _ _ ?_ ?_
    · exact g0
    · intro _ _ g1
      refine mcastLoad_canon _ _ ?_
      exact g1

theorem mcastActivate_canon (k : KeyMsg) (s : State) (h1 : State.Canon (s)) :
    State.Canon (mcastActivate k s).2 := by
  unfold mcastActivate
  extract_lets -merge x0 x1 x2
  refine Canon.ite2 ?_ ?_
  · refine Canon.pair ?_
    exact h1
  · refine Canon.pair ?_
    refine State.updFr_canon _ _ _ _ ?_
    exact h1

theorem execMcastActivate_canon (m : Fin 8) (s : State) (h1 : State.Canon (s)) :
    Res.Canon (execMcastActivate m s) := by
  unfold execMcastActivate
  refine live_canon _ _ ?_ ?_
  · exact h1
  · intro _ g0
    refine State.keyCommand_canon _ _ _ _ ?_ ?_
    · exact g0
    · intro _ _ g1
      refine mcastActivate_canon _ _ ?_
      exact g1

theorem mskLoad_canon (k : KeyMsg) (s : State) (h1 : State.Canon (s)) :
    State.Canon (mskLoad k s).2 := by
  unfold mskLoad
  refine Canon.ite2 ?_ ?_
  · refine Canon.pair ?_
    exact h1
  · refine Canon.pair ?_
    refine State.updOnuF_canon _ _ _ ?_
    exact h1

theorem execMskLoad_canon (m : Fin 8) (s : State) (h1 : State.Canon (s)) :
    Res.Canon (execMskLoad m s) := by
  unfold execMskLoad
  refine live_canon _ _ ?_ ?_
  · exact h1
  · intro _ g0
    refine State.keyCommand_canon _ _ _ _ ?_ ?_
    · exact g0
    · intro _ _ g1
      refine mskLoad_canon _ _ ?_
      exact g1

theorem execRekey_canon (m : Fin 8) (s : State) (h1 : State.Canon (s)) :
    Res.Canon (execRekey m s) := by
  unfold execRekey
  refine live_canon _ _ ?_ ?_
  · exact h1
  · intro _ g0
    refine State.keyCommand_canon _ _ _ _ ?_ ?_
    · exact g0
    · intro _ _ g1
      refine askRekey_canon _ _ ?_
      exact g1

theorem execUsPloam_canon (p : Fin 64) (c : Fin 2) (onu : Nat) (start : Nat) (kind : UsPloam) (body : List Nat) (mic : Nat) (s : State) (h7 : State.Canon (s)) :
    Res.Canon (execUsPloam p c onu start kind body mic s) := by
  unfold execUsPloam
  refine live_canon _ _ ?_ ?_
  · exact h7
  · intro _ g0
    refine Canon.ite ?_ ?_
    · exact g0
    · refine Canon.ite ?_ ?_
      · refine State.bump_canon _ _ _ _ ?_
        exact g0
      · split
        · split
          · refine State.updOnuF_canon _ _ _ ?_
            exact g0
          · exact g0
        · refine State.emit_canon _ _ ?_
          exact g0

theorem execOmciRequest_canon (r : Nat) (prio : Fin 2) (ar : Bool) (tci : Nat) (body : List Nat) (desc : Nat) (s : State) (h6 : State.Canon (s)) :
    Res.Canon (execOmciRequest r prio ar tci body desc s) := by
  unfold execOmciRequest
  extract_lets -merge x0
  have hx0 : ∀ y0 y1 y2, State.Canon (y0) → State.Canon (x0 y0 y1 y2) := by
    intro _ _ _ g1
    unfold x0
    extract_lets -merge x2
    refine Canon.mk_iff.mpr ?_
    refine State.Canon.od ?_
    exact g1
  refine live_canon _ _ ?_ ?_
  · exact h6
  · intro _ g3
    extract_lets -merge x4 x5 x6
    have hx5 : State.Canon (x5) := by
      refine State.updOnuF_canon _ _ _ ?_
      exact g3
    have hx6 : State.Canon (x6) := by
      refine Canon.ite ?_ ?_
      · refine State.omciNext_canon _ _ _ ?_
        exact hx5
      · exact hx5
    refine Canon.ite ?_ ?_
    · refine hx0 _ _ _ ?_
      exact g3
    · refine Canon.ite ?_ ?_
      · refine hx0 _ _ _ ?_
        exact g3
      · refine Canon.ite ?_ ?_
        · refine hx0 _ _ _ ?_
          refine State.omciSend_canon _ _ _ ?_
          exact g3
        · refine Canon.ite ?_ ?_
          · refine hx0 _ _ _ ?_
            exact g3
          · refine hx0 _ _ _ ?_
            refine State.omciCount_canon _ _ ?_
            exact hx6

theorem execOmciTimeout_canon (r : Nat) (prio : Fin 2) (s : State) (h2 : State.Canon (s)) :
    Res.Canon (execOmciTimeout r prio s) := by
  unfold execOmciTimeout
  refine live_canon _ _ ?_ ?_
  · exact h2
  · intro _ g0
    extract_lets -merge x1
    split
    · exact g0
    · extract_lets -merge x2 x3
      have hx2 : State.Canon (x2) := by
        refine State.updOnuF_canon _ _ _ ?_
        exact g0
      have hx3 : State.Canon (x3) := by
        refine State.toOmciRx_canon _ _ ?_
        refine State.bump_canon _ _ _ _ ?_
        exact g0
      refine Canon.ite ?_ ?_
      · exact g0
      · refine Canon.ite ?_ ?_
        · refine State.omciSend_canon _ _ _ ?_
          refine State.bump_canon _ _ _ _ ?_
          exact hx2
        · refine State.omciPop_canon _ _ _ ?_
          exact hx3

theorem execOmciRx_canon (r : Nat) (prio : Fin 2) (ak : Bool) (tci : Nat) (body : List Nat) (mic : Nat) (s : State) (h6 : State.Canon (s)) :
    Res.Canon (execOmciRx r prio ak tci body mic s) := by
  unfold execOmciRx
  refine live_canon _ _ ?_ ?_
  · exact h6
  · intro _ g0
    extract_lets -merge x1
    refine Canon.ite ?_ ?_
    · refine State.bump_canon _ _ _ _ ?_
      exact g0
    · refine Canon.ite ?_ ?_
      · split
        · refine Canon.ite ?_ ?_
          · refine State.omciPop_canon _ _ _ ?_
            refine State.toOmciRx_canon _ _ ?_
            exact g0
          · refine State.bump_canon _ _ _ _ ?_
            exact g0
        · refine State.bump_canon _ _ _ _ ?_
          exact g0
      · refine State.toOmciRx_canon _ _ ?_
        exact g0

theorem execUsCodeword_canon (p : Fin 64) (c : Fin 2) (r : Nat) (start : Nat) (outcome : Fin 3) (xgems : List Nat) (s : State) (h6 : State.Canon (s)) :
    Res.Canon (execUsCodeword p c r start outcome xgems s) := by
  unfold execUsCodeword
  refine live_canon _ _ ?_ ?_
  · exact h6
  · intro _ g0
    extract_lets -merge x1 x2 x3 x4 x5
    have hx1 : State.Canon (x1) := by
      refine State.bump_canon _ _ _ _ ?_
      exact g0
    have hx2 : State.Canon (x2) := by
      refine State.pmAdd_canon _ _ _ _ ?_
      exact hx1
    have hx3 : State.Canon (x3) := by
      refine Canon.foldl ?_ ?_
      · intro _ _ g6
        refine Canon.ite ?_ ?_
        · exact g6
        · refine Canon.mk_iff.mpr ?_
          refine State.Canon.od ?_
          exact g6
      · exact hx2
    have hx4 : State.Canon (x4) := by
      refine State.updBurst_canon _ _ _ _ _ ?_
      exact hx3
    have hx5 : State.Canon (x5) := by
      refine State.pmAdd_canon _ _ _ _ ?_
      exact hx4
    refine Canon.ite ?_ ?_
    · refine State.bump_canon _ _ _ _ ?_
      exact g0
    · refine Canon.ite ?_ ?_
      · refine State.bump_canon _ _ _ _ ?_
        exact g0
      · split
        · exact hx3
        · extract_lets -merge x7
          have hx7 : State.Canon (x7) := by
            refine State.captureOutcome_canon _ _ _ _ _ ?_
            refine State.nonWholeBurst_canon _ _ _ _ _ ?_
            exact hx5
          refine Canon.ite ?_ ?_
          · exact hx7
          · refine State.trialCount_canon _ _ _ _ _ _ ?_
            refine State.stepTally_canon _ _ _ _ _ ?_
            exact hx7

theorem execUsXgemFrame_canon (p : Fin 64) (c : Fin 2) (r : Nat) (start : Nat) (alloc : Nat) (hec : Fin 3) (id : Nat) (keyIndex : Nat) (lf : Bool) (data : List Nat) (s : State) (h10 : State.Canon (s)) :
    Res.Canon (execUsXgemFrame p c r start alloc hec id keyIndex lf data s) := by
  unfold execUsXgemFrame
  refine live_canon _ _ ?_ ?_
  · exact h10
  · intro _ g0
    extract_lets -merge x1
    have hx1 : State.Canon (x1) := by
      refine Canon.ite ?_ ?_
      · refine State.bump_canon _ _ _ _ ?_
        exact g0
      · exact g0
    refine Canon.ite ?_ ?_
    · exact g0
    · refine Canon.ite ?_ ?_
      · refine State.updCh_canon _ _ _ _ ?_
        refine State.nonWholeBurst_canon _ _ _ _ _ ?_
        refine State.bump_canon _ _ _ _ ?_
        exact g0
      · refine Canon.ite ?_ ?_
        · refine State.idleWords_canon _ _ _ _ _ _ ?_
          exact hx1
        · split
          · refine State.bump_canon _ _ _ _ ?_
            exact hx1
          · extract_lets -merge x2 x3
            have hx2 : State.Canon (x2) := by
              refine State.reasmExpire_canon _ _ _ _ ?_
              exact hx1
            refine Canon.ite ?_ ?_
            · refine State.bump_canon _ _ _ _ ?_
              exact hx1
            · refine Canon.ite ?_ ?_
              · refine Canon.ite ?_ ?_
                · refine State.usPacket_canon _ _ _ _ _ _ _ ?_
                  refine Canon.mk_iff.mpr ?_
                  refine State.Canon.od ?_
                  exact hx2
                · refine Canon.mk_iff.mpr ?_
                  refine State.Canon.od ?_
                  exact hx2
              · refine Canon.ite ?_ ?_
                · refine Canon.ite ?_ ?_
                  · refine Canon.mk_iff.mpr ?_
                    refine State.Canon.od ?_
                    exact hx2
                  · refine State.reasmFail_canon _ _ _ _ _ ?_
                    exact hx2
                · refine Canon.ite ?_ ?_
                  · refine State.usPacket_canon _ _ _ _ _ _ _ ?_
                    refine Canon.mk_iff.mpr ?_
                    refine State.Canon.od ?_
                    exact hx2
                  · refine Canon.ite ?_ ?_
                    · refine State.reasmFail_canon _ _ _ _ _ ?_
                      exact hx2
                    · refine Canon.mk_iff.mpr ?_
                      refine State.Canon.od ?_
                      exact hx2

theorem execReasmTimeout_canon (a0 : Nat) (s : State) (h1 : State.Canon (s)) :
    Res.Canon (execReasmTimeout a0 s) := by
  unfold execReasmTimeout
  refine live_canon _ _ ?_ ?_
  · exact h1
  · intro _ g0
    refine State.reasmExpire_canon _ _ _ _ ?_
    exact g0

theorem execPmSecondClassify_canon (r : Nat) (s : State) (h1 : State.Canon (s)) :
    Res.Canon (execPmSecondClassify r s) := by
  unfold execPmSecondClassify
  refine live_canon _ _ ?_ ?_
  · exact h1
  · intro _ g0
    extract_lets -merge x1 x2 x3 x4 x5 x6 x7 x8 x9 x10 x11 x12 x13
    have hx10 : State.Canon (x10) := by
      refine State.updOnuF_canon _ _ _ ?_
      exact g0
    have hx12 : State.Canon (x12) := by
      refine State.updOnuF_canon _ _ _ ?_
      refine State.rput_canon _ _ _ _ _ ?_
      exact hx10
    have hx13 : State.Canon (x13) := by
      refine State.updOnuF_canon _ _ _ ?_
      refine State.rput_canon _ _ _ _ _ ?_
      exact hx10
    refine Canon.ite ?_ ?_
    · exact g0
    · refine Canon.ite ?_ ?_
      · refine State.event_canon _ _ _ _ ?_
        exact hx12
      · refine Canon.ite ?_ ?_
        · refine State.event_canon _ _ _ _ ?_
          exact hx13
        · exact hx10

theorem execPmSecondCommit_canon (r : Nat) (s : State) (h1 : State.Canon (s)) :
    Res.Canon (execPmSecondCommit r s) := by
  unfold execPmSecondCommit
  refine live_canon _ _ ?_ ?_
  · exact h1
  · intro _ g0
    split
    · exact g0
    · extract_lets -merge x1 x2 x3 x4 x5
      have hx1 : State.Canon (x1) := by
        refine State.updOnuF_canon _ _ _ ?_
        exact g0
      have hx2 : State.Canon (x2) := by
        refine State.rbumpBy_canon _ _ _ _ _ ?_
        refine State.rbumpBy_canon _ _ _ _ _ ?_
        exact hx1
      have hx3 : State.Canon (x3) := by
        refine State.rbumpBy_canon _ _ _ _ _ ?_
        refine State.rbumpBy_canon _ _ _ _ _ ?_
        exact hx2
      have hx4 : State.Canon (x4) := by
        refine Canon.ite ?_ ?_
        · refine State.rbump_canon _ _ _ _ ?_
          refine State.rbump_canon _ _ _ _ ?_
          exact hx3
        · exact hx3
      have hx5 : State.Canon (x5) := by
        refine Canon.ite ?_ ?_
        · refine State.rbump_canon _ _ _ _ ?_
          refine State.rbump_canon _ _ _ _ ?_
          exact hx3
        · refine Canon.ite ?_ ?_
          · refine State.rbump_canon _ _ _ _ ?_
            refine State.rbump_canon _ _ _ _ ?_
            exact hx4
          · exact hx4
      refine Canon.ite ?_ ?_
      · exact g0
      · split
        · have g6 := Canon.of_snd (by assumption) (by
            refine State.tca_canon _ _ _ _ _ _ ?_
            exact hx5
            )
          split
          · have g7 := Canon.of_snd (by assumption) (by
              refine State.tca_canon _ _ _ _ _ _ ?_
              exact g6
              )
            refine State.updOnuF_canon _ _ _ ?_
            exact g7

theorem execPmBinEnd_canon (r : Nat) (day : Bool) (bad : Option (Fin 8 × Nat)) (s : State) (h3 : State.Canon (s)) :
    Res.Canon (execPmBinEnd r day bad s) := by
  unfold execPmBinEnd
  extract_lets -merge x0
  refine live_canon _ _ ?_ ?_
  · exact h3
  · intro _ g1
    extract_lets -merge x2 x3 x4 x5 x6 x7 x8 x9 x10
    have hx5 : State.Canon (x5) := by
      refine State.history_canon _ _ _ _ _ _ ?_
      exact g1
    have hx6 : State.Canon (x6) := by
      refine State.rput_canon _ _ _ _ _ ?_
      refine State.rput_canon _ _ _ _ _ ?_
      refine State.rput_canon _ _ _ _ _ ?_
      exact hx5
    have hx7 : State.Canon (x7) := by
      refine State.rput_canon _ _ _ _ _ ?_
      refine State.rput_canon _ _ _ _ _ ?_
      refine State.rput_canon _ _ _ _ _ ?_
      exact hx6
    have hx8 : State.Canon (x8) := by
      refine State.history_canon _ _ _ _ _ _ ?_
      exact g1
    have hx9 : State.Canon (x9) := by
      refine State.rput_canon _ _ _ _ _ ?_
      refine State.rput_canon _ _ _ _ _ ?_
      refine State.rput_canon _ _ _ _ _ ?_
      exact hx8
    have hx10 : State.Canon (x10) := by
      refine State.rput_canon _ _ _ _ _ ?_
      refine State.rput_canon _ _ _ _ _ ?_
      refine State.rput_canon _ _ _ _ _ ?_
      exact hx9
    refine Canon.ite ?_ ?_
    · exact g1
    · refine Canon.ite ?_ ?_
      · refine State.updOnuF_canon _ _ _ ?_
        refine State.rput_canon _ _ _ _ _ ?_
        exact hx7
      · refine State.updOnuF_canon _ _ _ ?_
        refine State.rput_canon _ _ _ _ _ ?_
        exact hx10

end Sys2Proof.Machine
end

