-- ==== Sys2Proof/Laws/CanonFamPipe.lean ====
section
/-! SUPPORT. The definitions of FamPipe keep the object store canonical. -/

namespace Sys2Proof.Machine

theorem execSwap_canon (s : State) (h0 : State.Canon (s)) :
    Res.Canon (execSwap s) := by
  unfold execSwap
  refine live_canon _ _ ?_ ?_
  · exact h0
  · intro _ g0
    extract_lets -merge x1 x2
    have hx1 : State.Canon (x1) := by
      refine State.put_canon _ _ _ _ _ ?_
      exact g0
    have hx2 : State.Canon (x2) := by
      refine State.put_canon _ _ _ _ _ ?_
      refine State.bump_canon _ _ _ _ ?_
      refine State.put_canon _ _ _ _ _ ?_
      exact hx1
    refine Canon.ite ?_ ?_
    · refine State.result_canon _ _ _ _ _ _ ?_
      exact g0
    · refine State.result_canon _ _ _ _ _ _ ?_
      refine State.inflight_canon _ ?_
      exact hx2

theorem execIndirEntryWrite_canon (i : Nat) (value : Nat) (s : State) (h2 : State.Canon (s)) :
    Res.Canon (execIndirEntryWrite i value s) := by
  unfold execIndirEntryWrite
  refine live_canon _ _ ?_ ?_
  · exact h2
  · intro _ g0
    refine Canon.ite ?_ ?_
    · refine State.result_canon _ _ _ _ _ _ ?_
      exact g0
    · refine State.result_canon _ _ _ _ _ _ ?_
      refine State.rput_canon _ _ _ _ _ ?_
      exact g0

theorem execFwdFind_canon (s : State) (h0 : State.Canon (s)) :
    Res.Canon (execFwdFind s) := by
  unfold execFwdFind
  refine live_canon _ _ ?_ ?_
  · exact h0
  · intro _ g0
    split
    · refine State.result_canon _ _ _ _ _ _ ?_
      refine State.put_canon _ _ _ _ _ ?_
      exact g0
    · extract_lets -merge x1 x2
      have hx1 : State.Canon (x1) := by
        refine State.put_canon _ _ _ _ _ ?_
        refine State.put_canon _ _ _ _ _ ?_
        exact g0
      have hx2 : State.Canon (x2) := by
        refine State.put_canon _ _ _ _ _ ?_
        refine State.put_canon _ _ _ _ _ ?_
        refine State.put_canon _ _ _ _ _ ?_
        exact hx1
      refine State.result_canon _ _ _ _ _ _ ?_
      exact hx2

theorem execFwdAdd_canon (s : State) (h0 : State.Canon (s)) :
    Res.Canon (execFwdAdd s) := by
  unfold execFwdAdd
  refine live_canon _ _ ?_ ?_
  · exact h0
  · intro _ g0
    extract_lets -merge x1 x2 x3
    have hx1 : State.Canon (x1) := by
      refine State.hostTurn_canon _ _ _ ?_
      exact g0
    refine Canon.ite ?_ ?_
    · refine State.result_canon _ _ _ _ _ _ ?_
      exact hx1
    · split
      · have g4 := Canon.of_snd (by assumption) (by
          refine State.insert_canon _ _ ?_
          exact hx1
          )
        refine State.result_canon _ _ _ _ _ _ ?_
        exact g4
      · have g5 := Canon.of_snd (by assumption) (by
          refine State.insert_canon _ _ ?_
          exact hx1
          )
        refine State.result_canon _ _ _ _ _ _ ?_
        exact g5

theorem execFwdDelete_canon (s : State) (h0 : State.Canon (s)) :
    Res.Canon (execFwdDelete s) := by
  unfold execFwdDelete
  refine live_canon _ _ ?_ ?_
  · exact h0
  · intro _ g0
    extract_lets -merge x1
    have hx1 : State.Canon (x1) := by
      refine State.hostTurn_canon _ _ _ ?_
      exact g0
    split
    · refine State.result_canon _ _ _ _ _ _ ?_
      exact hx1
    · refine State.result_canon _ _ _ _ _ _ ?_
      refine State.delWay_canon _ _ _ ?_
      exact hx1

theorem execFwdFlush_canon (s : State) (h0 : State.Canon (s)) :
    Res.Canon (execFwdFlush s) := by
  unfold execFwdFlush
  refine live_canon _ _ ?_ ?_
  · exact h0
  · intro _ g0
    extract_lets -merge x1
    split
    · refine State.result_canon _ _ _ _ _ _ ?_
      exact g0
    · refine State.result_canon _ _ _ _ _ _ ?_
      refine Canon.mk_iff.mpr ?_
      refine State.Canon.od ?_
      exact g0

theorem execAssocCommit_canon (r : Nat) (s : State) (h1 : State.Canon (s)) :
    Res.Canon (execAssocCommit r s) := by
  unfold execAssocCommit
  refine live_canon _ _ ?_ ?_
  · exact h1
  · intro _ g0
    extract_lets -merge x1 x2 x3
    have hx3 : State.Canon (x3) := by
      refine Canon.mk_iff.mpr ?_
      refine State.Canon.od ?_
      exact g0
    refine Canon.ite ?_ ?_
    · refine State.result_canon _ _ _ _ _ _ ?_
      exact g0
    · refine State.result_canon _ _ _ _ _ _ ?_
      refine State.noteCommit_canon _ _ _ ?_
      refine State.rput_canon _ _ _ _ _ ?_
      exact hx3

theorem execAssocInvalidate_canon (r : Nat) (s : State) (h1 : State.Canon (s)) :
    Res.Canon (execAssocInvalidate r s) := by
  unfold execAssocInvalidate
  refine live_canon _ _ ?_ ?_
  · exact h1
  · intro _ g0
    refine State.result_canon _ _ _ _ _ _ ?_
    refine State.rput_canon _ _ _ _ _ ?_
    exact g0

theorem State.sweep_canon (s : State) (far : Bool) (h0 : State.Canon (s)) :
    State.Canon (State.sweep s far) := by
  unfold State.sweep
  extract_lets -merge x0 x1
  refine State.bumpBy_canon _ _ _ _ _ ?_
  refine State.setWays_canon _ _ _ ?_
  exact h0

theorem execIngressArrival_canon (n : Fin 8) (link : Option (List Nat)) (s : State) (h2 : State.Canon (s)) :
    Res.Canon (execIngressArrival n link s) := by
  unfold execIngressArrival
  refine live_canon _ _ ?_ ?_
  · exact h2
  · intro _ g0
    refine State.ingress_canon _ _ ?_
    refine State.twinData_canon _ _ _ ?_
    exact g0

theorem execPipelinePass_canon (n : Fin 8) (s : State) (h1 : State.Canon (s)) :
    Res.Canon (execPipelinePass n s) := by
  unfold execPipelinePass
  refine live_canon _ _ ?_ ?_
  · exact h1
  · intro _ g0
    refine Canon.ite ?_ ?_
    · exact g0
    · split
      · exact g0
      · extract_lets -merge x1 x2
        have hx1 : State.Canon (x1) := by
          refine State.granted_canon _ _ _ ?_
          refine State.updPipe_canon _ _ _ ?_
          exact g0
        have hx2 : State.Canon (x2) := by
          refine State.bump_canon _ _ _ _ ?_
          exact hx1
        refine State.pass_canon _ _ _ _ _ ?_
        exact hx2

theorem execRecircPass_canon (n : Fin 8) (s : State) (h1 : State.Canon (s)) :
    Res.Canon (execRecircPass n s) := by
  unfold execRecircPass
  refine live_canon _ _ ?_ ?_
  · exact h1
  · intro _ g0
    refine Canon.ite ?_ ?_
    · split
      · exact g0
      · extract_lets -merge x1 x2 x3
        have hx2 : State.Canon (x2) := by
          refine State.granted_canon _ _ _ ?_
          refine State.updPipe_canon _ _ _ ?_
          exact g0
        have hx3 : State.Canon (x3) := by
          refine State.bump_canon _ _ _ _ ?_
          exact hx2
        refine State.pass_canon _ _ _ _ _ ?_
        exact hx3
    · exact g0

theorem execRuleBeatWrite_canon (bank : Fin 2) (r : Nat) (beat : Fin 5) (data : Nat) (s : State) (h4 : State.Canon (s)) :
    Res.Canon (execRuleBeatWrite bank r beat data s) := by
  unfold execRuleBeatWrite
  refine live_canon _ _ ?_ ?_
  · exact h4
  · intro _ g0
    refine State.ruleBeat_canon _ _ _ _ _ ?_
    exact g0

theorem execRuleCommit_canon (bank : Fin 2) (r : Nat) (action : Nat) (prio : Nat) (s : State) (h4 : State.Canon (s)) :
    Res.Canon (execRuleCommit bank r action prio s) := by
  unfold execRuleCommit
  refine live_canon _ _ ?_ ?_
  · exact h4
  · intro _ g0
    refine State.beat5_canon _ _ _ _ ?_
    exact g0

theorem execRuleInvalidate_canon (bank : Fin 2) (r : Nat) (s : State) (h2 : State.Canon (s)) :
    Res.Canon (execRuleInvalidate bank r s) := by
  unfold execRuleInvalidate
  refine live_canon _ _ ?_ ?_
  · exact h2
  · intro _ g0
    refine State.beat5_canon _ _ _ _ ?_
    exact g0

theorem execClsSwapDone_canon (s : State) (h0 : State.Canon (s)) :
    Res.Canon (execClsSwapDone s) := by
  unfold execClsSwapDone
  refine live_canon _ _ ?_ ?_
  · exact h0
  · intro _ g0
    refine Canon.ite ?_ ?_
    · refine State.event_canon _ _ _ _ ?_
      refine State.put_canon _ _ _ _ _ ?_
      refine State.put_canon _ _ _ _ _ ?_
      exact g0
    · exact g0

theorem execPromotionComplete_canon (s : State) (h0 : State.Canon s) : Res.Canon (execPromotionComplete s) := by
  unfold execPromotionComplete
  refine live_canon _ _ h0 (fun s h => ?_)
  split
  · exact h
  · extract_lets src s1
    have h1 : s1.Canon := h
    split
    · exact h1
    · split
      · exact h1
      · extract_lets e moved
        split
        · rename_i u _ hu _
          refine State.bump_canon _ _ _ _ (State.delWay_canon _ _ _ (State.putWay_canon _ _ _ _ ?_))
          revert hu
          unfold moved
          split
          · intro hu; exact Option.some.inj hu ▸ h1
          · intro hu
            obtain ⟨t, ht, rfl⟩ := Option.map_eq_some_iff.mp hu
            exact State.markFar_canon _ _ _ (State.insertIn_canon _ _ _ h1 _ ht)
        · exact h1

theorem execLearnMessage_canon (n : Fin 8) (s : State) (h1 : State.Canon (s)) :
    Res.Canon (execLearnMessage n s) := by
  unfold execLearnMessage
  refine live_canon _ _ ?_ ?_
  · exact h1
  · intro _ g0
    refine State.homeTurn_canon _ _ _ ?_
    refine State.ringHop_canon _ _ ?_
    exact g0

theorem execQuarantineExpiry_canon (form : Nat) (key : Nat) (s : State) (h2 : State.Canon (s)) :
    Res.Canon (execQuarantineExpiry form key s) := by
  unfold execQuarantineExpiry
  refine live_canon _ _ ?_ ?_
  · exact h2
  · intro _ g0
    split
    · refine Canon.ite ?_ ?_
      · refine State.delWay_canon _ _ _ ?_
        exact g0
      · exact g0
    · exact g0

theorem execLearnFrameRx_canon (f : CtrlIn) (loc : Nat) (key : Nat) (timeNs : Nat) (s : State) (h4 : State.Canon (s)) :
    Res.Canon (execLearnFrameRx f loc key timeNs s) := by
  unfold execLearnFrameRx
  extract_lets -merge x0
  refine ctrlRx_canon _ _ _ _ _ _ ?_ ?_
  · exact h4
  · intro _ g1
    refine State.sendLearn_canon _ _ _ ?_
    exact g1

theorem execAgingPassStart_canon (s : State) (h0 : State.Canon (s)) :
    Res.Canon (execAgingPassStart s) := by
  unfold execAgingPassStart
  refine live_canon _ _ ?_ ?_
  · exact h0
  · intro _ g0
    extract_lets -merge x1 x2
    have hx2 : State.Canon (x2) := by
      refine Canon.mk_iff.mpr ?_
      refine State.Canon.od ?_
      exact g0
    refine Canon.ite ?_ ?_
    · exact g0
    · refine Canon.ite ?_ ?_
      · refine State.sweep_canon _ _ ?_
        exact hx2
      · refine State.sweep_canon _ _ ?_
        refine State.sweep_canon _ _ ?_
        exact hx2

theorem execAgingPassEnd_canon (s : State) (h0 : State.Canon (s)) :
    Res.Canon (execAgingPassEnd s) := by
  unfold execAgingPassEnd
  refine live_canon _ _ ?_ ?_
  · exact h0
  · intro _ g0
    extract_lets -merge x1 x2 x3 x4
    have hx1 : State.Canon (x1) := by
      refine State.put_canon _ _ _ _ _ ?_
      refine State.recomputeFar_canon _ ?_
      exact g0
    have hx3 : State.Canon (x3) := by
      refine Canon.ite ?_ ?_
      · refine State.bump_canon _ _ _ _ ?_
        exact hx1
      · exact hx1
    refine Canon.ite ?_ ?_
    · refine Canon.mk_iff.mpr ?_
      refine State.Canon.od ?_
      exact hx3
    · exact g0

theorem execFwdFlushComplete_canon (s : State) (h0 : State.Canon (s)) :
    Res.Canon (execFwdFlushComplete s) := by
  unfold execFwdFlushComplete
  refine live_canon _ _ ?_ ?_
  · exact h0
  · intro _ g0
    split
    · exact g0
    · extract_lets -merge x1 x2 x3
      have hx2 : State.Canon (x2) := by
        refine State.setWays_canon _ _ _ ?_
        refine State.setWays_canon _ _ _ ?_
        exact g0
      refine Canon.mk_iff.mpr ?_
      refine State.Canon.od ?_
      exact hx2

end Sys2Proof.Machine
end

