-- ==== Sys2Proof/Laws/CanonOwnOps.lean ====
section
/-! SUPPORT. The definitions of OwnOps keep the object store canonical. -/

namespace Sys2Proof.Machine

theorem State.store_canon (s : State) (o : Obj) (i : Nat) (j : Nat) (r : Nat) (v : Int) (h0 : State.Canon (s)) :
    State.Canon (State.store s o i j r v) := by
  unfold State.store
  extract_lets -merge x0
  have hx0 : State.Canon (x0) := by
    refine Canon.mk_iff.mpr ?_
    refine Store.sorted_put _ _ _ _ _ ?_
    refine State.Canon.od ?_
    exact h0
  refine Canon.ite ?_ ?_
  · refine State.bump_canon _ _ _ _ ?_
    refine Canon.mk_iff.mpr ?_
    refine State.Canon.od ?_
    exact hx0
  · exact hx0

theorem State.runOp_canon (s : State) (f : State → Res) (h0 : State.Canon s)
    (h1 : ∀ y0, State.Canon y0 → Res.Canon (f y0)) : State.Canon (State.runOp s f).2 := by
  unfold State.runOp
  split
  · rename_i t ht
    exact Canon.pair (Canon.mk_iff.mpr (h1 _ (Canon.mk_iff.mpr h0.od) t ht).od)
  · exact h0

theorem State.clearCounters_canon (s : State) (o : Obj) (i : Nat) (j : Nat) (r : Nat) (h0 : State.Canon (s)) :
    State.Canon (State.clearCounters s o i j r) := by
  unfold State.clearCounters
  extract_lets -merge x0
  refine Canon.foldl ?_ ?_
  · intro _ _ g1
    split
    · extract_lets -merge x2
      refine Canon.mk_iff.mpr ?_
      refine Store.sorted_put _ _ _ _ _ ?_
      refine State.Canon.od ?_
      exact g1
    · exact g1
  · exact h0

theorem State.storeLag_canon (s : State) (o : Obj) (i : Nat) (j : Nat) (r : Nat) (v : Int) (h0 : State.Canon (s)) :
    State.Canon (State.storeLag s o i j r v) := by
  unfold State.storeLag
  extract_lets -merge x0 x1 x2 x3
  have hx3 : State.Canon (x3) := by
    refine State.store_canon _ _ _ _ _ _ ?_
    exact h0
  refine Canon.mk_iff.mpr ?_
  refine State.Canon.od ?_
  exact hx3

theorem State.ownPort_canon (s : State) (o : Obj) (i : Nat) (j : Nat) (r : Nat) (v : Int) (h0 : State.Canon (s)) :
    State.Canon (State.ownPort s o i j r v).2 := by
  unfold State.ownPort
  extract_lets -merge x0
  split
  · refine State.runOp_canon _ _ ?_ ?_
    · exact h0
    · intro _ g1
      refine next_canon ?_
      refine State.chCmd_canon _ _ _ _ ?_
      exact g1
  · refine Canon.ite2 ?_ ?_
    · refine Canon.pair ?_
      refine State.store_canon _ _ _ _ _ _ ?_
      exact h0
    · refine Canon.pair ?_
      exact h0
  · refine Canon.ite2 ?_ ?_
    · refine Canon.pair ?_
      refine State.store_canon _ _ _ _ _ _ ?_
      exact h0
    · refine Canon.pair ?_
      exact h0
  · refine Canon.ite2 ?_ ?_
    · refine Canon.pair ?_
      exact h0
    · refine Canon.pair ?_
      refine State.store_canon _ _ _ _ _ _ ?_
      exact h0
  · refine Canon.ite2 ?_ ?_
    · refine Canon.pair ?_
      exact h0
    · refine Canon.pair ?_
      refine State.store_canon _ _ _ _ _ _ ?_
      exact h0
  · refine Canon.ite2 ?_ ?_
    · refine Canon.pair ?_
      exact h0
    · refine Canon.pair ?_
      refine State.store_canon _ _ _ _ _ _ ?_
      exact h0
  · refine Canon.ite2 ?_ ?_
    · refine Canon.pair ?_
      exact h0
    · refine Canon.pair ?_
      refine State.store_canon _ _ _ _ _ _ ?_
      exact h0
  · refine Canon.ite2 ?_ ?_
    · refine Canon.ite2 ?_ ?_
      · split
        · have g2 := Canon.of_snd (by assumption) (by
            refine State.draw_canon _ ?_
            exact h0
            )
          refine State.runOp_canon _ _ ?_ ?_
          · exact g2
          · intro _ g3
            refine execTestModeNone_canon _ _ _ ?_
            exact g3
      · refine State.runOp_canon _ _ ?_ ?_
        · exact h0
        · intro _ g4
          refine execTestModeNone_canon _ _ _ ?_
          exact g4
    · refine State.runOp_canon _ _ ?_ ?_
      · exact h0
      · intro _ g5
        refine next_canon ?_
        refine State.testMode_canon _ _ _ ?_
        exact g5
  · refine Canon.pair ?_
    refine State.storeLag_canon _ _ _ _ _ _ ?_
    exact h0
  · refine Canon.pair ?_
    refine State.storeLag_canon _ _ _ _ _ _ ?_
    exact h0
  · refine Canon.pair ?_
    refine State.store_canon _ _ _ _ _ _ ?_
    exact h0
  · refine Canon.pair ?_
    refine State.storeLag_canon _ _ _ _ _ _ ?_
    exact h0
  · refine Canon.pair ?_
    refine State.store_canon _ _ _ _ _ _ ?_
    exact h0

theorem State.ownCal_canon (s : State) (o : Obj) (i : Nat) (j : Nat) (r : Nat) (v : Int) (h0 : State.Canon (s)) :
    State.Canon (State.ownCal s o i j r v).2 := by
  unfold State.ownCal
  extract_lets -merge x0 x1 x2
  have hx0 : State.Canon (x0) := by
    refine State.store_canon _ _ _ _ _ _ ?_
    exact h0
  have hx2 : ∀ y0, State.Canon (x2 y0).2 := by
    intro _
    unfold x2
    refine Canon.ite2 ?_ ?_
    · refine Canon.pair ?_
      exact h0
    · refine Canon.pair ?_
      exact hx0
  split
  · refine hx2 _
  · refine hx2 _
  · refine hx2 _
  · refine hx2 _
  · refine Canon.pair ?_
    refine Canon.ite ?_ ?_
    · exact hx0
    · refine State.sbWrite_canon _ _ _ _ _ ?_
      exact hx0
  · refine Canon.pair ?_
    refine Canon.ite ?_ ?_
    · exact hx0
    · refine State.sendFeeder_canon _ ?_
      exact hx0
  · refine hx2 _
  · refine hx2 _
  · refine State.runOp_canon _ _ ?_ ?_
    · exact h0
    · intro _ g3
      refine execCoeffSetWrite_canon _ _ _ _ ?_
      exact g3
  · refine State.runOp_canon _ _ ?_ ?_
    · exact h0
    · intro _ g4
      refine execCoeffSetWrite_canon _ _ _ _ ?_
      exact g4
  · refine State.runOp_canon _ _ ?_ ?_
    · exact h0
    · intro _ g5
      refine execCoeffSetWrite_canon _ _ _ _ ?_
      exact g5
  · refine State.runOp_canon _ _ ?_ ?_
    · exact h0
    · intro _ g6
      refine execCoeffSetWrite_canon _ _ _ _ ?_
      exact g6
  · refine State.runOp_canon _ _ ?_ ?_
    · exact h0
    · intro _ g7
      refine execClearRxp_canon _ _ ?_
      exact g7
  · refine State.runOp_canon _ _ ?_ ?_
    · exact h0
    · intro _ g8
      refine execCoeffInvalidate_canon _ _ _ ?_
      exact g8
  · refine Canon.pair ?_
    exact hx0

theorem State.ownPon_canon (s : State) (o : Obj) (i : Nat) (j : Nat) (r : Nat) (v : Int) (h0 : State.Canon (s)) :
    State.Canon (State.ownPon s o i j r v).2 := by
  unfold State.ownPon
  extract_lets -merge x0 x1
  have hx0 : State.Canon (x0) := by
    refine State.store_canon _ _ _ _ _ _ ?_
    exact h0
  have hx1 : ∀ y0 y1, State.Canon (x1 y0 y1).2 := by
    intro _ _
    unfold x1
    refine Canon.ite2 ?_ ?_
    · refine Canon.pair ?_
      exact h0
    · refine Canon.pair ?_
      exact hx0
  split
  · refine hx1 _ _
  · refine hx1 _ _
  · refine hx1 _ _
  · refine hx1 _ _
  · refine hx1 _ _
  · refine Canon.ite2 ?_ ?_
    · refine State.runOp_canon _ _ ?_ ?_
      · exact h0
      · intro _ g2
        refine execMapCaptureArm_canon _ ?_
        exact g2
    · refine Canon.pair ?_
      exact hx0
  · refine hx1 _ _
  · refine Canon.pair ?_
    refine State.storeLag_canon _ _ _ _ _ _ ?_
    exact h0
  · refine State.runOp_canon _ _ ?_ ?_
    · exact h0
    · intro _ g3
      refine execClearPm_canon _ _ ?_
      exact g3
  · refine Canon.ite2 ?_ ?_
    · refine Canon.pair ?_
      exact h0
    · refine Canon.pair ?_
      refine State.storeLag_canon _ _ _ _ _ _ ?_
      exact h0
  · refine Canon.pair ?_
    exact hx0

theorem State.ruleValid_canon (s : State) (bank : Nat) (r : Nat) (v : Int) (h0 : State.Canon (s)) :
    State.Canon (State.ruleValid s bank r v).2 := by
  unfold State.ruleValid
  refine Canon.ite2 ?_ ?_
  · refine Canon.pair ?_
    exact h0
  · refine Canon.ite2 ?_ ?_
    · refine State.beat5_canon _ _ _ _ ?_
      exact h0
    · refine Canon.ite2 ?_ ?_
      · refine Canon.pair ?_
        exact h0
      · refine State.beat5_canon _ _ _ _ ?_
        exact h0

theorem State.ownPipe_canon (s : State) (o : Obj) (i : Nat) (j : Nat) (r : Nat) (v : Int) (h0 : State.Canon (s)) :
    State.Canon (State.ownPipe s o i j r v).2 := by
  unfold State.ownPipe
  extract_lets -merge x0 x1 x2
  have hx0 : State.Canon (x0) := by
    refine State.store_canon _ _ _ _ _ _ ?_
    exact h0
  have hx1 : ∀ y0 y1, State.Canon (x1 y0 y1).2 := by
    intro _ _
    unfold x1
    refine Canon.ite2 ?_ ?_
    · refine Canon.pair ?_
      exact h0
    · refine Canon.pair ?_
      exact hx0
  have hx2 : ∀ y0, State.Canon (x2 y0).2 := by
    intro _
    unfold x2
    refine Canon.ite2 ?_ ?_
    · refine Canon.pair ?_
      exact h0
    · refine hx1 _ _
  split
  · refine State.runOp_canon _ _ ?_ ?_
    · exact h0
    · intro _ g3
      refine execSwap_canon _ ?_
      exact g3
  · refine hx2 _
  · refine hx2 _
  · refine State.runOp_canon _ _ ?_ ?_
    · exact h0
    · intro _ g4
      refine execIndirEntryWrite_canon _ _ _ ?_
      exact g4
  · refine State.ruleValid_canon _ _ _ _ ?_
    exact h0
  · refine Canon.ite2 ?_ ?_
    · refine Canon.pair ?_
      exact h0
    · refine Canon.pair ?_
      refine State.clearCounters_canon _ _ _ _ _ ?_
      exact h0
  · refine Canon.ite2 ?_ ?_
    · refine Canon.pair ?_
      exact h0
    · refine Canon.ite2 ?_ ?_
      · refine Canon.pair ?_
        exact h0
      · refine Canon.ite2 ?_ ?_
        · refine hx1 _ _
        · refine Canon.pair ?_
          exact hx0
  · refine hx1 _ _
  · refine hx1 _ _
  · refine hx1 _ _
  · refine hx1 _ _
  · refine hx1 _ _
  · refine Canon.ite2 ?_ ?_
    · refine State.runOp_canon _ _ ?_ ?_
      · exact h0
      · intro _ g5
        refine execFwdFind_canon _ ?_
        exact g5
    · refine Canon.ite2 ?_ ?_
      · refine State.runOp_canon _ _ ?_ ?_
        · exact h0
        · intro _ g6
          refine execFwdAdd_canon _ ?_
          exact g6
      · refine Canon.ite2 ?_ ?_
        · refine State.runOp_canon _ _ ?_ ?_
          · exact h0
          · intro _ g7
            refine execFwdDelete_canon _ ?_
            exact g7
        · refine State.runOp_canon _ _ ?_ ?_
          · exact h0
          · intro _ g8
            refine execFwdFlush_canon _ ?_
            exact g8
  · refine Canon.ite2 ?_ ?_
    · refine State.runOp_canon _ _ ?_ ?_
      · exact h0
      · intro _ g9
        refine execAssocCommit_canon _ _ ?_
        exact g9
    · refine State.runOp_canon _ _ ?_ ?_
      · exact h0
      · intro _ g10
        refine execAssocInvalidate_canon _ _ ?_
        exact g10
  · refine Canon.pair ?_
    refine State.clearCounters_canon _ _ _ _ _ ?_
    exact h0
  · refine hx1 _ _
  · refine Canon.pair ?_
    exact hx0

end Sys2Proof.Machine
end

