-- ==== Sys2Proof/Laws/CanonOwnTm.lean ====
section
/-! SUPPORT. The definitions of OwnTm keep the object store canonical. -/

namespace Sys2Proof.Machine

theorem State.ownTm_canon (s : State) (o : Obj) (i : Nat) (j : Nat) (r : Nat) (v : Int) (h0 : State.Canon (s)) :
    State.Canon (State.ownTm s o i j r v).2 := by
  unfold State.ownTm
  extract_lets -merge x0 x1
  have hx0 : State.Canon (x0) := by
    refine State.store_canon _ _ _ _ _ _ ?_
    exact h0
  have hx1 : ∀ y0 y1, State.Canon (x1 y0 y1).2 := by
    intro _ _
    unfold x1
    refine Canon.ite2 ?_ ?_
    · refine Canon.pair ?_
      exact h0
    · refine Canon.pair ?_
      exact hx0
  split
  · refine Canon.ite2 ?_ ?_
    · refine hx1 _ _
    · refine hx1 _ _
  · refine hx1 _ _
  · refine State.runOp_canon _ _ ?_ ?_
    · exact h0
    · intro _ g2
      refine execJoinGo_canon _ ?_
      exact g2
  · refine Canon.ite2 ?_ ?_
    · refine State.runOp_canon _ _ ?_ ?_
      · exact h0
      · intro _ g3
        refine execBurstCaptureArm_canon _ ?_
        exact g3
    · refine Canon.pair ?_
      exact hx0
  · refine hx1 _ _
  · refine Canon.pair ?_
    exact hx0

theorem State.ownProt_canon (s : State) (o : Obj) (j : Nat) (v : Int) (h0 : State.Canon (s)) :
    State.Canon (State.ownProt s o j v).2 := by
  unfold State.ownProt
  extract_lets -merge x0 x1 x2 x3 x4 x5
  have hx0 : State.Canon (x0) := by
    refine State.store_canon _ _ _ _ _ _ ?_
    exact h0
  have hx4 : State.Canon (x4) := by
    refine State.updProt_canon _ _ _ ?_
    exact hx0
  have hx5 : State.Canon (x5) := by
    refine State.protRefresh_canon _ _ ?_
    exact hx4
  refine Canon.ite2 ?_ ?_
  · refine Canon.pair ?_
    exact h0
  · refine Canon.ite2 ?_ ?_
    · refine Canon.pair ?_
      exact h0
    · refine Canon.ite2 ?_ ?_
      · refine Canon.pair ?_
        exact h0
      · refine Canon.pair ?_
        refine Canon.foldl ?_ ?_
        · intro _ _ g6
          refine State.refreshLink_canon _ _ ?_
          exact g6
        · exact hx5

theorem State.ownUpl_canon (s : State) (o : Obj) (i : Nat) (j : Nat) (r : Nat) (v : Int) (h0 : State.Canon (s)) :
    State.Canon (State.ownUpl s o i j r v).2 := by
  unfold State.ownUpl
  extract_lets -merge x0 x1
  have hx0 : State.Canon (x0) := by
    refine State.store_canon _ _ _ _ _ _ ?_
    exact h0
  split
  · refine Canon.ite2 ?_ ?_
    · refine Canon.pair ?_
      exact h0
    · refine Canon.ite2 ?_ ?_
      · refine Canon.pair ?_
        exact h0
      · refine Canon.ite2 ?_ ?_
        · refine Canon.pair ?_
          exact h0
        · refine Canon.pair ?_
          exact hx0
  · refine State.groupEnable_canon _ _ _ ?_
    exact h0
  · refine Canon.ite2 ?_ ?_
    · refine Canon.pair ?_
      exact h0
    · refine Canon.pair ?_
      exact hx0
  · refine Canon.ite2 ?_ ?_
    · refine Canon.pair ?_
      exact h0
    · refine Canon.pair ?_
      exact hx0
  · refine Canon.pair ?_
    refine State.timEval_canon _ _ ?_
    exact hx0
  · refine Canon.pair ?_
    refine State.timEval_canon _ _ ?_
    exact hx0
  · refine Canon.pair ?_
    refine State.timEval_canon _ _ ?_
    exact hx0
  · refine Canon.pair ?_
    refine State.timEval_canon _ _ ?_
    exact hx0
  · refine Canon.pair ?_
    refine State.refreshSf_canon _ _ ?_
    exact hx0
  · refine State.ownProt_canon _ _ _ _ ?_
    exact h0
  · refine State.ownProt_canon _ _ _ _ ?_
    exact h0
  · refine State.ownProt_canon _ _ _ _ ?_
    exact h0
  · refine Canon.pair ?_
    refine State.protCommand_canon _ _ _ ?_
    exact h0
  · refine Canon.pair ?_
    refine State.protRefresh_canon _ _ ?_
    exact hx0
  · refine Canon.pair ?_
    refine State.refreshCap_canon _ ?_
    exact hx0
  · refine Canon.pair ?_
    exact hx0

theorem State.ownTime_canon (s : State) (o : Obj) (i : Nat) (j : Nat) (r : Nat) (v : Int) (h0 : State.Canon (s)) :
    State.Canon (State.ownTime s o i j r v).2 := by
  unfold State.ownTime
  extract_lets -merge x0 x1
  have hx0 : State.Canon (x0) := by
    refine State.store_canon _ _ _ _ _ _ ?_
    exact h0
  have hx1 : ∀ y0 y1, State.Canon (x1 y0 y1).2 := by
    intro _ _
    unfold x1
    refine Canon.ite2 ?_ ?_
    · refine Canon.pair ?_
      exact h0
    · refine Canon.pair ?_
      exact hx0
  split
  · refine State.timeSet_canon _ _ ?_
    exact h0
  · refine hx1 _ _
  · refine hx1 _ _
  · refine hx1 _ _
  · refine hx1 _ _
  · refine hx1 _ _
  · refine hx1 _ _
  · refine Canon.pair ?_
    exact hx0

theorem State.twinPorts_canon (s : State) (a1 : State) (h0 : State.Canon (s)) (h1 : State.Canon (a1)) :
    State.Canon (State.twinPorts s a1) := by
  unfold State.twinPorts
  extract_lets -merge x0 x1 x2 x3 x4
  have hx3 : State.Canon (x3) := by
    refine State.setTwin_canon _ _ ?_
    exact h1
  have hx4 : State.Canon (x4) := by
    refine Canon.foldl ?_ ?_
    · intro _ _ g5
      refine Canon.ite ?_ ?_
      · refine State.chCmdApply_canon _ _ _ _ ?_
        exact g5
      · exact g5
    · exact hx3
  refine State.twinWrite_canon _ _ _ ?_
  exact hx4

theorem State.ownTwin_canon (s : State) (o : Obj) (i : Nat) (j : Nat) (r : Nat) (v : Int) (h0 : State.Canon (s)) :
    State.Canon (State.ownTwin s o i j r v).2 := by
  unfold State.ownTwin
  extract_lets -merge x0
  have hx0 : State.Canon (x0) := by
    refine State.store_canon _ _ _ _ _ _ ?_
    exact h0
  split
  · refine Canon.ite2 ?_ ?_
    · refine Canon.pair ?_
      exact h0
    · refine Canon.ite2 ?_ ?_
      · refine Canon.pair ?_
        refine State.refreshFaults_canon _ ?_
        refine State.twinSeek_canon _ ?_
        exact hx0
      · refine Canon.ite2 ?_ ?_
        · refine Canon.pair ?_
          refine State.refreshFaults_canon _ ?_
          refine State.store_canon _ _ _ _ _ _ ?_
          refine State.twinOff_canon _ ?_
          exact h0
        · refine Canon.pair ?_
          exact hx0
  · refine Canon.ite2 ?_ ?_
    · refine Canon.pair ?_
      exact h0
    · refine Canon.ite2 ?_ ?_
      · refine Canon.pair ?_
        refine State.refreshFaults_canon _ ?_
        exact hx0
      · refine Canon.pair ?_
        refine State.refreshFaults_canon _ ?_
        refine State.twinPorts_canon _ _ ?_ ?_
        · exact h0
        · exact hx0
  · split
    · refine State.twinSwitch_canon _ ?_
      exact h0
    · refine State.twinForce_canon _ ?_
      exact h0
    · refine Canon.pair ?_
      refine State.clearSuspect_canon _ ?_
      exact h0
    · refine State.twinResync_canon _ ?_
      exact h0
    · refine State.runOp_canon _ _ ?_ ?_
      · exact h0
      · intro _ g1
        refine execLegacyTakeover_canon _ ?_
        exact g1
  · refine Canon.pair ?_
    refine State.refreshFaults_canon _ ?_
    exact hx0
  · refine Canon.ite2 ?_ ?_
    · refine Canon.pair ?_
      exact h0
    · refine Canon.ite2 ?_ ?_
      · refine Canon.pair ?_
        refine State.legacyHold_canon _ ?_
        exact hx0
      · refine Canon.ite2 ?_ ?_
        · refine Canon.pair ?_
          refine State.twinState_canon _ _ ?_
          exact hx0
        · refine Canon.pair ?_
          exact hx0
  · refine Canon.ite2 ?_ ?_
    · refine Canon.pair ?_
      exact h0
    · refine Canon.pair ?_
      refine Canon.ite ?_ ?_
      · refine State.legacyHold_canon _ ?_
        exact hx0
      · exact hx0
  · refine Canon.pair ?_
    exact hx0

end Sys2Proof.Machine
end

