-- ==== Sys2Proof/Laws/CanonOwnSys.lean ====
section
/-! SUPPORT. The definitions of OwnSys keep the object store canonical. -/

namespace Sys2Proof.Machine

theorem State.ownPower_canon (s : State) (o : Obj) (i : Nat) (j : Nat) (r : Nat) (v : Int) (h0 : State.Canon (s)) :
    State.Canon (State.ownPower s o i j r v).2 := by
  unfold State.ownPower
  extract_lets -merge x0 x1
  have hx0 : State.Canon (x0) := by
    refine State.store_canon _ _ _ _ _ _ ?_
    exact h0
  have hx1 : ∀ y0 y1, State.Canon (x1 y0 y1).2 := by
    intro _ _
    unfold x1
    refine Canon.ite2 ?_ ?_
    · refine Canon.pair ?_
      exact h0
    · refine Canon.pair ?_
      exact hx0
  split
  · refine State.runOp_canon _ _ ?_ ?_
    · exact h0
    · intro _ g2
      refine next_canon ?_
      refine State.powerCmd_canon _ _ ?_
      exact g2
  · refine Canon.ite2 ?_ ?_
    · refine Canon.pair ?_
      exact hx0
    · refine hx1 _ _
  · refine hx1 _ _
  · refine hx1 _ _
  · refine hx1 _ _
  · refine Canon.pair ?_
    exact hx0

theorem State.ownHost_canon (s : State) (o : Obj) (i : Nat) (j : Nat) (r : Nat) (v : Int) (h0 : State.Canon (s)) :
    State.Canon (State.ownHost s o i j r v).2 := by
  unfold State.ownHost
  extract_lets -merge x0
  have hx0 : State.Canon (x0) := by
    refine State.store_canon _ _ _ _ _ _ ?_
    exact h0
  split
  · refine Canon.ite2 ?_ ?_
    · refine Canon.pair ?_
      exact hx0
    · refine Canon.pair ?_
      exact h0
  · refine Canon.ite2 ?_ ?_
    · refine Canon.pair ?_
      exact hx0
    · refine Canon.pair ?_
      exact h0
  · refine Canon.pair ?_
    refine State.irqStep_canon _ _ _ ?_ ?_
    · exact h0
    · intro _ g1
      refine State.store_canon _ _ _ _ _ _ ?_
      exact g1
  · refine Canon.pair ?_
    exact hx0

theorem State.ownSec_canon (s : State) (o : Obj) (i : Nat) (j : Nat) (r : Nat) (v : Int) (h0 : State.Canon (s)) :
    State.Canon (State.ownSec s o i j r v).2 := by
  unfold State.ownSec
  extract_lets -merge x0
  have hx0 : State.Canon (x0) := by
    refine State.store_canon _ _ _ _ _ _ ?_
    exact h0
  split
  · refine Canon.ite2 ?_ ?_
    · refine State.runOp_canon _ _ ?_ ?_
      · exact h0
      · intro _ g1
        refine execLifecycleSecure_canon _ ?_
        exact g1
    · refine Canon.ite2 ?_ ?_
      · refine State.runOp_canon _ _ ?_ ?_
        · exact h0
        · intro _ g2
          refine execLifecycleReturn_canon _ ?_
          exact g2
      · refine State.runOp_canon _ _ ?_ ?_
        · exact h0
        · intro _ g3
          refine execLifecycleRetire_canon _ ?_
          exact g3
  · refine State.runOp_canon _ _ ?_ ?_
    · exact h0
    · intro _ g4
      refine execDebugToken_canon _ _ ?_
      exact g4
  · refine State.runOp_canon _ _ ?_ ?_
    · exact h0
    · intro _ g5
      refine execDebugEnd_canon _ ?_
      exact g5
  · refine Canon.pair ?_
    refine State.setJournal_canon _ _ ?_
    exact hx0
  · refine State.runOp_canon _ _ ?_ ?_
    · exact h0
    · intro _ g6
      refine execBootPrefWrite_canon _ _ ?_
      exact g6
  · refine State.runOp_canon _ _ ?_ ?_
    · exact h0
    · intro _ g7
      refine execRollbackCommit_canon _ ?_
      exact g7
  · refine State.runOp_canon _ _ ?_ ?_
    · exact h0
    · intro _ g8
      refine execImageConfirm_canon _ ?_
      exact g8
  · refine State.runOp_canon _ _ ?_ ?_
    · exact h0
    · intro _ g9
      refine execImageVerify_canon _ ?_
      exact g9
  · refine State.runOp_canon _ _ ?_ ?_
    · exact h0
    · intro _ g10
      refine execImageChunk_canon _ _ _ ?_
      exact g10
  · refine Canon.pair ?_
    refine State.store_canon _ _ _ _ _ _ ?_
    exact h0
  · refine Canon.pair ?_
    exact hx0

theorem State.ownMem_canon (s : State) (o : Obj) (i : Nat) (j : Nat) (r : Nat) (v : Int) (h0 : State.Canon (s)) :
    State.Canon (State.ownMem s o i j r v).2 := by
  unfold State.ownMem
  extract_lets -merge x0 x1
  have hx0 : State.Canon (x0) := by
    refine State.store_canon _ _ _ _ _ _ ?_
    exact h0
  split
  · refine Canon.ite2 ?_ ?_
    · refine Canon.pair ?_
      exact h0
    · refine Canon.ite2 ?_ ?_
      · refine Canon.pair ?_
        exact h0
      · refine Canon.pair ?_
        exact hx0
  · refine Canon.ite2 ?_ ?_
    · refine Canon.pair ?_
      exact h0
    · refine Canon.ite2 ?_ ?_
      · refine Canon.pair ?_
        exact h0
      · refine Canon.pair ?_
        exact hx0
  · refine Canon.ite2 ?_ ?_
    · refine Canon.pair ?_
      exact h0
    · refine Canon.ite2 ?_ ?_
      · refine Canon.pair ?_
        exact h0
      · refine Canon.pair ?_
        exact hx0
  · refine Canon.ite2 ?_ ?_
    · refine Canon.pair ?_
      exact h0
    · refine Canon.pair ?_
      exact hx0
  · refine Canon.ite2 ?_ ?_
    · refine Canon.pair ?_
      exact h0
    · refine Canon.ite2 ?_ ?_
      · refine Canon.pair ?_
        exact h0
      · refine Canon.pair ?_
        exact hx0
  · refine Canon.ite2 ?_ ?_
    · refine Canon.pair ?_
      exact h0
    · refine Canon.pair ?_
      refine State.clearCounters_canon _ _ _ _ _ ?_
      exact h0
  · refine Canon.ite2 ?_ ?_
    · refine Canon.pair ?_
      exact h0
    · refine Canon.pair ?_
      exact hx0
  · refine Canon.pair ?_
    exact hx0

theorem State.ownCrocus_canon (s : State) (o : Obj) (i : Nat) (j : Nat) (r : Nat) (v : Int) (h0 : State.Canon (s)) :
    State.Canon (State.ownCrocus s o i j r v).2 := by
  unfold State.ownCrocus
  extract_lets -merge x0
  have hx0 : State.Canon (x0) := by
    refine State.store_canon _ _ _ _ _ _ ?_
    exact h0
  split
  · refine Canon.ite2 ?_ ?_
    · refine Canon.ite2 ?_ ?_
      · refine Canon.pair ?_
        exact h0
      · refine Canon.ite2 ?_ ?_
        · refine Canon.pair ?_
          exact hx0
        · refine Canon.pair ?_
          refine State.event_canon _ _ _ _ ?_
          exact hx0
    · refine Canon.pair ?_
      exact hx0
  · split
    · refine Canon.pair ?_
      exact h0
    · refine Canon.ite2 ?_ ?_
      · refine Canon.pair ?_
        exact h0
      · refine Canon.ite2 ?_ ?_
        · refine Canon.pair ?_
          exact h0
        · refine Canon.pair ?_
          exact hx0
  · refine Canon.pair ?_
    exact hx0

end Sys2Proof.Machine
end

