-- ==== Sys2Proof/Laws/CanonOwnRec.lean ====
section
/-! SUPPORT. The definitions of OwnRec keep the object store canonical. -/

namespace Sys2Proof.Machine

theorem State.onuAdmin_canon (t : State) (s : State) (r : Nat) (h0 : State.Canon (t)) (h1 : State.Canon (s)) :
    State.Canon (State.onuAdmin t s r) := by
  unfold State.onuAdmin
  extract_lets -merge x0 x1 x2 x3
  have hx2 : State.Canon (x2) := by
    refine Canon.ite ?_ ?_
    · exact h0
    · refine State.actSend_canon _ _ _ _ _ _ ?_
      exact h0
  have hx3 : State.Canon (x3) := by
    refine State.actSend_canon _ _ _ _ _ _ ?_
    exact h0
  refine Canon.ite ?_ ?_
  · refine State.onuToEmpty_canon _ _ _ ?_
    exact hx2
  · refine Canon.ite ?_ ?_
    · refine State.updOnu_canon _ _ _ ?_
      refine State.setOnu_canon _ _ _ ?_
      exact hx3
    · refine Canon.ite ?_ ?_
      · refine State.assign_canon _ _ _ ?_
        exact h0
      · exact h0

theorem State.onuRateMax_canon (t : State) (r : Nat) (h0 : State.Canon (t)) :
    State.Canon (State.onuRateMax t r) := by
  unfold State.onuRateMax
  extract_lets -merge x0
  refine Canon.ite ?_ ?_
  · refine State.setRate_canon _ _ _ ?_
    refine State.rput_canon _ _ _ _ _ ?_
    exact h0
  · exact h0

theorem onuEffect_canon (s : State) (t : State) (r : Nat) (subs : List Nat) (fresh : Bool) (h0 : State.Canon (s)) (h1 : State.Canon (t)) :
    State.Canon (onuEffect s t r subs fresh) := by
  unfold onuEffect
  extract_lets -merge x0 x1 x2 x3 x4 x5 x6 x7 x8
  have hx1 : State.Canon (x1) := by
    refine Canon.ite ?_ ?_
    · refine State.rput_canon _ _ _ _ _ ?_
      exact h1
    · exact h1
  have hx2 : State.Canon (x2) := by
    refine Canon.ite ?_ ?_
    · refine State.rputK_canon _ _ _ _ ?_
      exact hx1
    · exact hx1
  have hx3 : State.Canon (x3) := by
    refine Canon.ite ?_ ?_
    · refine State.onuAdmin_canon _ _ _ ?_ ?_
      · exact h1
      · exact h0
    · exact h1
  have hx4 : State.Canon (x4) := by
    refine State.rput_canon _ _ _ _ _ ?_
    refine State.keysGone_canon _ _ ?_
    refine State.clearCoef_canon _ _ ?_
    exact hx3
  have hx5 : State.Canon (x5) := by
    refine Canon.ite ?_ ?_
    · refine State.updOnu_canon _ _ _ ?_
      exact hx4
    · exact hx3
  have hx6 : State.Canon (x6) := by
    refine Canon.ite ?_ ?_
    · refine State.clearPm_canon _ _ ?_
      exact hx5
    · exact hx5
  have hx7 : State.Canon (x7) := by
    refine Canon.ite ?_ ?_
    · refine State.rputK_canon _ _ _ _ ?_
      exact hx6
    · exact hx6
  have hx8 : State.Canon (x8) := by
    refine Canon.ite ?_ ?_
    · refine State.updOnu_canon _ _ _ ?_
      exact hx7
    · exact hx7
  refine Canon.ite ?_ ?_
  · refine State.clearPm_canon _ _ ?_
    refine State.put_canon _ _ _ _ _ ?_
    exact hx2
  · refine Canon.ite ?_ ?_
    · refine State.onuRateMax_canon _ _ ?_
      exact hx8
    · exact hx8

theorem recEffect_canon (s : State) (t : State) (index : Nat) (r : Nat) (subs : List Nat) (fresh : Bool) (h0 : State.Canon (s)) (h1 : State.Canon (t)) :
    State.Canon (recEffect s t index r subs fresh) := by
  unfold recEffect
  extract_lets -merge x0
  split
  · refine onuEffect_canon _ _ _ _ _ ?_ ?_
    · exact h0
    · exact h1
  · refine Canon.ite ?_ ?_
    · refine Canon.mk_iff.mpr ?_
      refine State.Canon.od ?_
      exact h1
    · exact h1
  · refine Canon.ite ?_ ?_
    · refine State.setShaper_canon _ _ _ _ _ ?_
      exact h1
    · exact h1
  · refine Canon.ite ?_ ?_
    · refine State.setShaper_canon _ _ _ _ _ ?_
      exact h1
    · exact h1
  · refine Canon.ite ?_ ?_
    · refine State.setShaper_canon _ _ _ _ _ ?_
      exact h1
    · exact h1
  · refine Canon.ite ?_ ?_
    · refine State.setShaper_canon _ _ _ _ _ ?_
      exact h1
    · exact h1
  · exact h1

theorem State.ownRcvy_canon (s : State) (o : Obj) (i : Nat) (j : Nat) (r : Nat) (v : Int) (h0 : State.Canon (s)) :
    State.Canon (State.ownRcvy s o i j r v).2 := by
  unfold State.ownRcvy
  extract_lets -merge x0 x1 x2 x3
  have hx0 : State.Canon (x0) := by
    refine State.store_canon _ _ _ _ _ _ ?_
    exact h0
  split
  · refine Canon.ite2 ?_ ?_
    · refine Canon.pair ?_
      exact h0
    · refine Canon.ite2 ?_ ?_
      · refine Canon.pair ?_
        refine Canon.mk_iff.mpr ?_
        refine State.Canon.od ?_
        exact hx0
      · refine Canon.pair ?_
        exact hx0
  · refine Canon.pair ?_
    refine State.clearCounters_canon _ _ _ _ _ ?_
    exact h0
  · refine Canon.ite2 ?_ ?_
    · refine Canon.pair ?_
      exact h0
    · refine Canon.pair ?_
      exact hx0

theorem State.ownGen_canon (s : State) (o : Obj) (i : Nat) (j : Nat) (r : Nat) (v : Int) (h0 : State.Canon (s)) :
    State.Canon (State.ownGen s o i j r v).2 := by
  unfold State.ownGen
  extract_lets -merge x0
  have hx0 : State.Canon (x0) := by
    refine State.store_canon _ _ _ _ _ _ ?_
    exact h0
  refine Canon.ite2 ?_ ?_
  · refine Canon.pair ?_
    refine State.setTwin_canon _ _ ?_
    exact hx0
  · refine Canon.ite2 ?_ ?_
    · refine Canon.pair ?_
      refine State.setTwin_canon _ _ ?_
      exact hx0
    · refine Canon.pair ?_
      exact hx0

theorem State.deleteRec_canon (s : State) (index : Nat) (r : Nat) (h0 : State.Canon (s)) :
    State.Canon (State.deleteRec s index r).2 := by
  unfold State.deleteRec
  extract_lets -merge x0 x1 x2 x3
  have hx0 : ∀ y0 y1, State.Canon (y1) → State.Canon (x0 y0 y1).2 := by
    intro _ _ g4
    unfold x0
    refine Canon.ite2 ?_ ?_
    · refine Canon.pair ?_
      exact h0
    · refine Canon.pair ?_
      exact g4
  have hx1 : State.Canon (x1) := by
    refine State.markGone_canon _ _ _ ?_
    exact h0
  have hx2 : State.Canon (x2) := by
    refine State.dropRecord_canon _ _ _ ?_
    refine State.markGone_canon _ _ _ ?_
    exact h0
  split
  · refine hx0 _ _ ?_
    refine State.removeOnu_canon _ _ ?_
    exact h0
  · refine hx0 _ _ ?_
    refine Canon.mk_iff.mpr ?_
    refine State.Canon.od ?_
    exact hx1
  · refine hx0 _ _ ?_
    refine Canon.mk_iff.mpr ?_
    refine State.Canon.od ?_
    exact hx2
  · refine Canon.pair ?_
    refine State.markGone_canon _ _ _ ?_
    exact h0
  · extract_lets -merge x5 x6
    refine Canon.ite2 ?_ ?_
    · refine Canon.ite2 ?_ ?_
      · refine Canon.pair ?_
        exact h0
      · refine hx0 _ _ ?_
        refine State.markGone_canon _ _ _ ?_
        exact h0
    · refine Canon.ite2 ?_ ?_
      · refine hx0 _ _ ?_
        refine State.markGone_canon _ _ _ ?_
        exact h0
      · refine Canon.pair ?_
        exact h0

end Sys2Proof.Machine
end

