-- ==== Sys2Proof/Laws/CanonOwnAll.lean ====
section
/-! SUPPORT. The definitions of OwnAll keep the object store canonical. -/

namespace Sys2Proof.Machine

theorem Seg.close_canon (g : Seg) (t : State) (h0 : State.Canon g.old) (h1 : State.Canon (t)) :
    State.Canon (Seg.close g t).2 := by
  unfold Seg.close
  refine Canon.ite2 ?_ ?_
  · refine Canon.pair ?_
    exact h1
  · refine Canon.ite2 ?_ ?_
    · refine Canon.pair ?_
      exact h1
    · split
      · refine Canon.pair ?_
        refine recEffect_canon _ _ _ _ _ _ ?_ ?_
        · exact h0
        · exact h1
      · refine Canon.pair ?_
        exact h1

theorem State.ownDict_canon (s : State) (o : Obj) (i : Nat) (j : Nat) (r : Nat) (v : Int) (h0 : State.Canon (s)) :
    State.Canon (State.ownDict s o i j r v).2 := by
  unfold State.ownDict
  extract_lets -merge x0
  have hx0 : State.Canon (x0) := by
    refine State.store_canon _ _ _ _ _ _ ?_
    exact h0
  split
  · refine Canon.ite2 ?_ ?_
    · refine Canon.pair ?_
      exact hx0
    · refine Canon.pair ?_
      exact h0
  · refine Canon.pair ?_
    refine State.setJournal_canon _ _ ?_
    exact hx0
  · refine Canon.pair ?_
    exact hx0

theorem State.ownAt_canon (s : State) (o : Obj) (i : Nat) (j : Nat) (r : Nat) (v : Int) (h0 : State.Canon (s)) :
    State.Canon (State.ownAt s o i j r v).2 := by
  unfold State.ownAt
  extract_lets -merge x0
  refine Canon.ite2 ?_ ?_
  · refine State.ownDict_canon _ _ _ _ _ _ ?_
    exact h0
  · refine Canon.ite2 ?_ ?_
    · refine State.ownPower_canon _ _ _ _ _ _ ?_
      exact h0
    · refine Canon.ite2 ?_ ?_
      · refine State.ownPower_canon _ _ _ _ _ _ ?_
        exact h0
      · refine Canon.ite2 ?_ ?_
        · refine Canon.pair ?_
          refine State.clearCounters_canon _ _ _ _ _ ?_
          exact h0
        · refine Canon.ite2 ?_ ?_
          · refine State.ownPort_canon _ _ _ _ _ _ ?_
            exact h0
          · refine Canon.ite2 ?_ ?_
            · refine State.ownCal_canon _ _ _ _ _ _ ?_
              exact h0
            · refine Canon.ite2 ?_ ?_
              · refine State.ownPon_canon _ _ _ _ _ _ ?_
                exact h0
              · refine Canon.ite2 ?_ ?_
                · refine State.ownPipe_canon _ _ _ _ _ _ ?_
                  exact h0
                · refine Canon.ite2 ?_ ?_
                  · refine State.ownTm_canon _ _ _ _ _ _ ?_
                    exact h0
                  · refine Canon.ite2 ?_ ?_
                    · refine State.ownUpl_canon _ _ _ _ _ _ ?_
                      exact h0
                    · refine Canon.ite2 ?_ ?_
                      · refine State.ownTime_canon _ _ _ _ _ _ ?_
                        exact h0
                      · refine Canon.ite2 ?_ ?_
                        · refine State.ownTwin_canon _ _ _ _ _ _ ?_
                          exact h0
                        · refine Canon.ite2 ?_ ?_
                          · refine State.ownHost_canon _ _ _ _ _ _ ?_
                            exact h0
                          · refine Canon.ite2 ?_ ?_
                            · refine State.ownSec_canon _ _ _ _ _ _ ?_
                              exact h0
                            · refine Canon.ite2 ?_ ?_
                              · refine State.ownMem_canon _ _ _ _ _ _ ?_
                                exact h0
                              · refine Canon.ite2 ?_ ?_
                                · refine State.ownRcvy_canon _ _ _ _ _ _ ?_
                                  exact h0
                                · refine Canon.ite2 ?_ ?_
                                  · refine State.ownGen_canon _ _ _ _ _ _ ?_
                                    exact h0
                                  · refine Canon.ite2 ?_ ?_
                                    · refine State.ownCrocus_canon _ _ _ _ _ _ ?_
                                      exact h0
                                    · refine Canon.pair ?_
                                      refine State.store_canon _ _ _ _ _ _ ?_
                                      exact h0

theorem State.ownWrite_canon (s : State) (o : Obj) (i : Nat) (j : Nat) (r : Nat) (v : Int) (h0 : State.Canon (s)) :
    State.Canon (State.ownWrite s o i j r v).2 := by
  unfold State.ownWrite
  refine Canon.ite2 ?_ ?_
  · refine Canon.pair ?_
    exact h0
  · refine State.ownAt_canon _ _ _ _ _ _ ?_
    exact h0

theorem writeStep_canon (txn : Bool) (m : Wr) (t : List Wr) (segs : List Seg) (s : State) (h0 : State.Canon s)
    (hs : ∀ g ∈ segs, State.Canon g.old) : State.Canon (writeStep txn m t segs s).2.2 ∧
      ∀ g ∈ (writeStep txn m t segs s).2.1, State.Canon g.old := by
  unfold writeStep
  split
  · exact ⟨h0, hs⟩
  · split
    · split
      · exact ⟨h0, hs⟩
      · exact ⟨State.ownWrite_canon _ _ _ _ _ _ h0, hs⟩
    · split
      · split
        · exact ⟨h0, hs⟩
        · split
          · exact ⟨h0, hs⟩
          · exact ⟨State.deleteRec_canon _ _ _ h0, hs⟩
      · extract_lets -merge isNew g0 g rest s1 s2 x
        have hg : State.Canon g.old := by
          show State.Canon g0.old
          unfold g0
          cases hf : segs.find? (fun g => g.index == m.index && g.rcd == m.rcd) with
          | none => exact h0
          | some x => exact hs x (List.mem_of_find?_eq_some hf)
        have hrest : ∀ g ∈ rest, State.Canon g.old := fun x hx => hs x (List.mem_filter.mp hx).1
        have h1 : State.Canon s1 := Canon.ite (State.markNew_canon _ _ _ h0) h0
        have h2 : State.Canon s2 := Canon.ite (State.clearCounters_canon _ _ _ _ _ h1) (State.store_canon _ _ _ _ _ _ h1)
        split
        · exact ⟨h0, hs⟩
        · split
          · exact ⟨Seg.close_canon _ _ hg h2, hrest⟩
          · refine ⟨h2, fun x hx => ?_⟩
            rcases List.mem_cons.mp hx with hx | hx
            · exact hx ▸ hg
            · exact hrest x hx

theorem writeGo_canonAll (txn : Bool) (ms : List Wr) (segs : List Seg) (s : State) (h0 : State.Canon s)
    (hs : ∀ g ∈ segs, State.Canon g.old) : State.Canon (writeGo txn ms segs s).2.2 := by
  induction ms generalizing segs s with
  | nil => exact h0
  | cons m t ih =>
    have h := writeStep_canon txn m t segs s h0 hs
    rw [writeGo]
    split
    · exact ih _ _ h.1 h.2
    · exact h.1

theorem writeGo_canon (txn : Bool) (ms : List Wr) (s : State) (h0 : State.Canon s) :
    State.Canon (writeGo txn ms [] s).2.2 :=
  writeGo_canonAll txn ms [] s h0 (fun _ h => nomatch h)

theorem State.writeAll_canon (s : State) (ms : List Wr) (h0 : State.Canon (s)) :
    State.Canon (State.writeAll s ms).2.2 := by
  unfold State.writeAll
  split
  · have g0 := Canon.of_thd (by assumption) (by
      refine writeGo_canon _ _ _ ?_
      exact h0
      )
    refine Canon.pair3 ?_
    exact g0
  · have g1 := Canon.of_thd (by assumption) (by
      refine writeGo_canon _ _ _ ?_
      exact h0
      )
    refine Canon.pair3 ?_
    exact h0

theorem State.writeOne_canon (s : State) (m : Wr) (h0 : State.Canon (s)) :
    State.Canon (State.writeOne s m).2 := by
  unfold State.writeOne
  split
  · have g0 := Canon.of_thd (by assumption) (by
      refine writeGo_canon _ _ _ ?_
      exact h0
      )
    refine Canon.pair ?_
    exact g0
  · have g1 := Canon.of_thd (by assumption) (by
      refine writeGo_canon _ _ _ ?_
      exact h0
      )
    refine Canon.pair ?_
    refine Canon.ite ?_ ?_
    · exact h0
    · exact g1

end Sys2Proof.Machine
end

