-- ==== Sys2Proof/Laws/CanonDictVal.lean ====
section
/-! SUPPORT. The definitions of DictVal keep the object store canonical. -/

namespace Sys2Proof.Machine

theorem State.readVal_canon (s : State) (k : Nat) (o : Obj) (i : Nat) (j : Nat) (r : Nat) (h0 : State.Canon (s)) :
    State.Canon (State.readVal s k o i j r).2 := by
  unfold State.readVal
  split
  · refine Canon.pair ?_
    exact h0
  · refine Canon.ite2 ?_ ?_
    · split
      · have g0 := Canon.of_snd (by assumption) (by
          refine State.draw_canon _ ?_
          exact h0
          )
        refine Canon.pair ?_
        exact g0
    · refine Canon.ite2 ?_ ?_
      · split
        · have g1 := Canon.of_snd (by assumption) (by
            refine State.draw_canon _ ?_
            exact h0
            )
          extract_lets -merge x2
          have hx2 : State.Canon (x2) := by
            refine State.bumpBy_canon _ _ _ _ _ ?_
            exact g1
          refine Canon.pair ?_
          exact hx2
      · refine Canon.pair ?_
        exact h0

end Sys2Proof.Machine
end

