-- ==== Sys2Proof/Laws/CanonDictOps.lean ====
section
/-! SUPPORT. The definitions of DictOps keep the object store canonical. -/

namespace Sys2Proof.Machine

theorem State.abortReport_canon (s : State) (k : Nat) (h0 : State.Canon (s)) :
    ∀ y, (State.abortReport s k) = some y → State.Canon y := by
  unfold State.abortReport
  refine Canon.iteO ?_ ?_
  · refine Canon.someI ?_
    refine State.updSess_canon _ _ _ ?_
    exact h0
  · intro _ hn; cases hn

theorem State.answer_canon (s : State) (critical : Bool) (r : Reply) (h0 : State.Canon (s)) :
    State.Canon (State.answer s critical r) := by
  unfold State.answer
  refine Canon.ite ?_ ?_
  · refine State.setTwin_canon _ _ ?_
    exact h0
  · refine State.sendReply_canon _ _ ?_
    exact h0

theorem State.commitApply_canon (s : State) (c : Commit) (h0 : State.Canon (s)) :
    State.Canon (State.commitApply s c) := by
  unfold State.commitApply
  extract_lets -merge x0 x1 x2
  split
  · have g3 := Canon.of_thd (by assumption) (by
      refine State.writeAll_canon _ _ ?_
      exact h0
      )
    refine State.answer_canon _ _ _ ?_
    exact g3
  · have g4 := Canon.of_thd (by assumption) (by
      refine State.writeAll_canon _ _ ?_
      exact h0
      )
    extract_lets -merge x5 x6 x7 x8 x9
    have hx8 : State.Canon (x8) := by
      refine State.updSess_canon _ _ _ ?_
      exact h0
    refine State.sendReply_canon _ _ ?_
    exact hx8

theorem State.applyCommit_canon (s : State) (h0 : State.Canon (s)) :
    State.Canon (State.applyCommit s) := by
  unfold State.applyCommit
  split
  · refine State.commitApply_canon _ _ ?_
    refine State.setDict_canon _ _ ?_
    exact h0
  · exact h0

theorem State.applyNow_canon (s : State) (m : Wr) (h0 : State.Canon (s)) :
    State.Canon (State.applyNow s m) := by
  unfold State.applyNow
  extract_lets -merge x0
  split
  · have g1 := Canon.of_snd (by assumption) (by
      refine State.writeOne_canon _ _ ?_
      exact h0
      )
    refine State.answer_canon _ _ _ ?_
    exact g1

theorem State.applyWrite_canon (s : State) (h0 : State.Canon (s)) :
    State.Canon (State.applyWrite s) := by
  unfold State.applyWrite
  split
  · refine State.applyNow_canon _ _ ?_
    refine State.setDict_canon _ _ ?_
    exact h0
  · exact h0

theorem State.applyAll_canon (s : State) (h0 : State.Canon (s)) :
    State.Canon (State.applyAll s) := by
  unfold State.applyAll
  extract_lets -merge x0
  have hx0 : State.Canon (x0) := by
    refine Canon.foldl ?_ ?_
    · intro _ _ g1
      refine State.applyCommit_canon _ ?_
      exact g1
    · exact h0
  refine Canon.foldl ?_ ?_
  · intro _ _ g2
    refine State.applyWrite_canon _ ?_
    exact g2
  · exact hx0

theorem State.applyKind_canon (s : State) (index : Nat) (delete : Bool) (h0 : State.Canon (s)) :
    State.Canon (State.applyKind s index delete) := by
  unfold State.applyKind
  split
  · refine Canon.ite ?_ ?_
    · refine State.applyWrite_canon _ ?_
      exact h0
    · exact h0
  · exact h0

theorem State.txnBegin_canon (s : State) (k : Nat) (h0 : State.Canon (s)) :
    State.Canon (State.txnBegin s k).2 := by
  unfold State.txnBegin
  refine Canon.ite2 ?_ ?_
  · refine Canon.pair ?_
    exact h0
  · refine Canon.pair ?_
    refine State.updSess_canon _ _ _ ?_
    exact h0

theorem State.txnCommit_canon (s : State) (k : Nat) (r : Reply) (h0 : State.Canon (s)) :
    State.Canon (State.txnCommit s k r).2 := by
  unfold State.txnCommit
  extract_lets -merge x0 x1
  have hx1 : State.Canon (x1) := by
    refine State.updSess_canon _ _ _ ?_
    exact h0
  refine Canon.ite2 ?_ ?_
  · refine Canon.pair ?_
    refine State.setDict_canon _ _ ?_
    exact hx1
  · refine Canon.pair ?_
    exact h0

theorem State.txnAbort_canon (s : State) (k : Nat) (h0 : State.Canon (s)) :
    State.Canon (State.txnAbort s k).2 := by
  unfold State.txnAbort
  refine Canon.ite2 ?_ ?_
  · refine Canon.pair ?_
    refine State.txnDrop_canon _ _ _ ?_
    exact h0
  · refine Canon.pair ?_
    exact h0

theorem State.hold_canon (s : State) (k : Nat) (m : Wr) (h0 : State.Canon (s)) :
    State.Canon (State.hold s k m).2 := by
  unfold State.hold
  extract_lets -merge x0 x1
  refine Canon.ite2 ?_ ?_
  · refine Canon.pair ?_
    refine State.updSess_canon _ _ _ ?_
    exact h0
  · refine Canon.ite2 ?_ ?_
    · refine Canon.pair ?_
      exact h0
    · refine Canon.pair ?_
      refine State.updSess_canon _ _ _ ?_
      exact h0

theorem State.factoryRestore_canon (s : State) (h0 : State.Canon (s)) :
    State.Canon (State.factoryRestore s) := by
  unfold State.factoryRestore
  extract_lets -merge x0
  have hx0 : State.Canon (x0) := by
    refine State.setJournal_canon _ _ ?_
    exact h0
  refine State.put_canon _ _ _ _ _ ?_
  refine Canon.mk_iff.mpr ?_
  refine State.Canon.od ?_
  exact hx0

theorem State.perform_canon (s : State) (k : Nat) (o : Obj) (i : Nat) (m : Wr) (h0 : State.Canon (s)) :
    State.Canon (State.perform s k o i m) := by
  unfold State.perform
  extract_lets -merge x0 x1 x2 x3
  refine Canon.ite ?_ ?_
  · refine State.sendReply_canon _ _ ?_
    refine State.factoryRestore_canon _ ?_
    exact h0
  · refine Canon.ite ?_ ?_
    · refine State.start_canon _ _ _ ?_
      refine State.calFlush_canon _ ?_
      refine State.journalFold_canon _ ?_
      refine State.sendReply_canon _ _ ?_
      exact h0
    · refine Canon.ite ?_ ?_
      · refine State.sessClose_canon _ _ ?_
        refine State.sendReply_canon _ _ ?_
        exact h0
      · refine Canon.ite ?_ ?_
        · split
          · have g4 := Canon.of_snd (by assumption) (by
              refine State.writeOne_canon _ _ ?_
              exact h0
              )
            extract_lets -merge x5 x6
            have hx6 : State.Canon (x6) := by
              refine State.sendReply_canon _ _ ?_
              exact g4
            refine Canon.ite ?_ ?_
            · refine State.sessCloseAll_canon _ ?_
              exact hx6
            · exact hx6
        · refine Canon.ite ?_ ?_
          · refine State.setDict_canon _ _ ?_
            exact h0
          · refine State.applyNow_canon _ _ ?_
            exact h0

theorem State.dictWrite_canon (s : State) (k : Nat) (secure : Bool) (q : DictReq) (b : List Nat) (h0 : State.Canon (s)) :
    State.Canon (State.dictWrite s k secure q b) := by
  unfold State.dictWrite
  extract_lets -merge x0 x1 x2
  have hx1 : ∀ y0, State.Canon (x1 y0) := by
    intro _
    unfold x1
    refine State.sendReply_canon _ _ ?_
    exact h0
  have hx2 : ∀ y0, State.Canon (y0).2 → State.Canon (x2 y0) := by
    intro _ g3
    unfold x2
    refine State.sendReply_canon _ _ ?_
    exact g3
  split
  · refine hx1 _
  · extract_lets -merge x4 x5
    refine Canon.ite ?_ ?_
    · refine hx1 _
    · refine Canon.ite ?_ ?_
      · refine hx1 _
      · refine Canon.ite ?_ ?_
        · refine hx1 _
        · refine Canon.ite ?_ ?_
          · refine hx1 _
          · refine Canon.ite ?_ ?_
            · refine hx1 _
            · refine Canon.ite ?_ ?_
              · refine hx1 _
              · refine Canon.ite ?_ ?_
                · refine hx2 _ ?_
                  refine State.leaseCmd_canon _ _ _ ?_
                  exact h0
                · refine Canon.ite ?_ ?_
                  · refine hx2 _ ?_
                    refine Canon.pair ?_
                    refine Canon.mk_iff.mpr ?_
                    refine State.Canon.od ?_
                    exact h0
                  · refine Canon.ite ?_ ?_
                    · refine hx2 _ ?_
                      refine State.txnBegin_canon _ _ ?_
                      exact h0
                    · refine Canon.ite ?_ ?_
                      · split
                        · have g6 := Canon.of_snd (by assumption) (by
                            refine State.txnCommit_canon _ _ _ ?_
                            exact h0
                            )
                          exact g6
                        · have g7 := Canon.of_snd (by assumption) (by
                            refine State.txnCommit_canon _ _ _ ?_
                            exact h0
                            )
                          refine State.sendReply_canon _ _ ?_
                          exact g7
                      · refine Canon.ite ?_ ?_
                        · refine hx2 _ ?_
                          refine State.txnAbort_canon _ _ ?_
                          exact h0
                        · refine Canon.ite ?_ ?_
                          · refine Canon.ite ?_ ?_
                            · refine hx1 _
                            · split
                              · have g8 := Canon.of_snd (by assumption) (by
                                  refine State.hold_canon _ _ _ ?_
                                  exact h0
                                  )
                                refine State.sendReply_canon _ _ ?_
                                exact g8
                          · refine State.perform_canon _ _ _ _ _ ?_
                            exact h0

theorem State.doDescribe_canon (s : State) (k : Nat) (q : DictReq) (h0 : State.Canon (s)) :
    State.Canon (State.doDescribe s k q) := by
  unfold State.doDescribe
  extract_lets -merge x0 x1
  split
  · refine State.sendReply_canon _ _ ?_
    exact h0
  · extract_lets -merge x2 x3 x4
    refine Canon.ite ?_ ?_
    · refine State.sendReply_canon _ _ ?_
      exact h0
    · refine State.sendReply_canon _ _ ?_
      exact h0

theorem State.doNext_canon (s : State) (k : Nat) (q : DictReq) (h0 : State.Canon (s)) :
    State.Canon (State.doNext s k q) := by
  unfold State.doNext
  extract_lets -merge x0
  split
  · refine State.sendReply_canon _ _ ?_
    exact h0
  · refine State.sendReply_canon _ _ ?_
    exact h0

theorem State.doRead_canon (s : State) (k : Nat) (q : DictReq) (ue : Option (Nat × Nat)) (h0 : State.Canon (s)) :
    State.Canon (State.doRead s k q ue) := by
  unfold State.doRead
  extract_lets -merge x0 x1
  refine Canon.ite ?_ ?_
  · refine State.sendReply_canon _ _ ?_
    exact h0
  · split
    · refine State.sendReply_canon _ _ ?_
      exact h0
    · refine Canon.ite ?_ ?_
      · refine State.sendReply_canon _ _ ?_
        exact h0
      · refine Canon.ite ?_ ?_
        · split
          · refine Canon.ite ?_ ?_
            · refine State.sendReply_canon _ _ ?_
              exact h0
            · refine State.sendReply_canon _ _ ?_
              exact h0
          · refine State.sendReply_canon _ _ ?_
            exact h0
        · split
          · refine State.sendReply_canon _ _ ?_
            refine State.memUe_canon _ _ _ _ _ ?_
            exact h0
          · split
            · have g2 := Canon.of_snd (by assumption) (by
                refine State.readVal_canon _ _ _ _ _ _ ?_
                exact h0
                )
              extract_lets -merge x3 x4
              have hx4 : State.Canon (x4) := by
                refine State.updSess_canon _ _ _ ?_
                exact g2
              refine State.sendReply_canon _ _ ?_
              exact hx4

theorem State.doWrite_canon (s : State) (k : Nat) (secure : Bool) (q : DictReq) (h0 : State.Canon (s)) :
    State.Canon (State.doWrite s k secure q) := by
  unfold State.doWrite
  extract_lets -merge x0 x1 x2 x3 x4
  have hx4 : State.Canon (x4) := by
    refine State.updSess_canon _ _ _ ?_
    exact h0
  split
  · have g5 := Canon.of_some (by assumption) (by
      refine State.abortReport_canon _ _ ?_
      exact h0
      )
    refine State.sendReply_canon _ _ ?_
    exact g5
  · split
    · refine Canon.ite ?_ ?_
      · refine Canon.ite ?_ ?_
        · refine State.sendReply_canon _ _ ?_
          refine State.updSess_canon _ _ _ ?_
          exact h0
        · refine State.dictWrite_canon _ _ _ _ _ ?_
          exact hx4
      · refine State.sendReply_canon _ _ ?_
        exact hx4
    · refine Canon.ite ?_ ?_
      · refine State.sendReply_canon _ _ ?_
        exact h0
      · refine Canon.ite ?_ ?_
        · refine State.sendReply_canon _ _ ?_
          refine State.updSess_canon _ _ _ ?_
          exact h0
        · refine State.dictWrite_canon _ _ _ _ _ ?_
          exact h0

theorem State.request_canon (s : State) (k : Nat) (secure : Bool) (q : DictReq) (ue : Option (Nat × Nat)) (h0 : State.Canon (s)) :
    State.Canon (State.request s k secure q ue) := by
  unfold State.request
  extract_lets -merge x0 x1
  have hx0 : State.Canon (x0) := by
    refine State.bump_canon _ _ _ _ ?_
    refine State.leaseSweep_canon _ ?_
    exact h0
  refine Canon.ite ?_ ?_
  · exact h0
  · refine Canon.ite ?_ ?_
    · refine State.sendReply_canon _ _ ?_
      exact hx0
    · refine Canon.ite ?_ ?_
      · refine State.doRead_canon _ _ _ _ ?_
        exact hx0
      · refine Canon.ite ?_ ?_
        · refine State.doWrite_canon _ _ _ _ ?_
          exact hx0
        · refine Canon.ite ?_ ?_
          · refine State.doNext_canon _ _ _ ?_
            exact hx0
          · refine State.doDescribe_canon _ _ _ ?_
            exact hx0

end Sys2Proof.Machine
end

