-- ==== Sys2Proof/Laws/CanonFamBar.lean ====
section
/-! SUPPORT. The definitions of FamBar keep the object store canonical. -/

namespace Sys2Proof.Machine

theorem State.dmaPageWrite_canon (s : State) (c : Nat) (off : Nat) (v : Nat) (descs : List Desc) (h0 : State.Canon (s)) :
    State.Canon (State.dmaPageWrite s c off v descs) := by
  unfold State.dmaPageWrite
  extract_lets -merge x0 x1
  have hx1 : State.Canon (x1) := by
    refine Canon.ite ?_ ?_
    · exact h0
    · refine State.dmaEnable_canon _ _ _ ?_
      exact h0
  split
  · refine Canon.ite ?_ ?_
    · refine State.badAccess_canon _ ?_
      exact h0
    · refine State.updDma_canon _ _ _ ?_
      exact h0
  · refine Canon.ite ?_ ?_
    · refine State.badAccess_canon _ ?_
      exact h0
    · refine State.updDma_canon _ _ _ ?_
      exact h0
  · refine Canon.ite ?_ ?_
    · refine State.badAccess_canon _ ?_
      exact h0
    · refine State.updDma_canon _ _ _ ?_
      exact h0
  · refine State.dmaTail_canon _ _ _ _ ?_
    exact h0
  · refine Canon.ite ?_ ?_
    · refine State.dmaRestart_canon _ _ ?_
      exact hx1
    · exact hx1
  · refine State.causeClear_canon _ _ _ ?_
    exact h0
  · exact h0
  · exact h0
  · refine State.badAccess_canon _ ?_
    exact h0

theorem State.viewStep_canon (s : State) (m : Nat) (who : Nat) (f : View → View) (h0 : State.Canon (s)) :
    State.Canon (State.viewStep s m who f) := by
  unfold State.viewStep
  extract_lets -merge x0 x1
  have hx0 : ∀ y0, State.Canon (y0) → State.Canon (x0 y0) := by
    intro _ g2
    unfold x0
    refine State.updView_canon _ _ _ _ ?_
    exact g2
  refine Canon.ite ?_ ?_
  · refine State.irqStep_canon _ _ _ ?_ ?_
    · exact h0
    · exact hx0
  · split
    · refine Canon.ite ?_ ?_
      · refine State.coreIrq_canon _ _ _ ?_
        refine hx0 _ ?_
        exact h0
      · refine hx0 _ ?_
        exact h0
    · refine hx0 _ ?_
      exact h0

theorem State.mbxPageWrite_canon (s : State) (m : Nat) (who : Nat) (off : Nat) (v : Nat) (h0 : State.Canon (s)) :
    State.Canon (State.mbxPageWrite s m who off v) := by
  unfold State.mbxPageWrite
  extract_lets -merge x0 x1 x2 x3 x4 x5
  have hx0 : State.Canon (x0) := by
    refine State.mbxSweep_canon _ _ ?_
    exact h0
  refine Canon.ite ?_ ?_
  · refine Canon.ite ?_ ?_
    · refine State.setSlot_canon _ _ _ _ ?_
      exact hx0
    · refine State.bump_canon _ _ _ _ ?_
      exact hx0
  · refine Canon.ite ?_ ?_
    · refine State.updView_canon _ _ _ _ ?_
      exact h0
    · split
      · refine State.mbxClock_canon _ _ _ _ ?_
        exact h0
      · refine State.mbxClock_canon _ _ _ _ ?_
        exact h0
      · refine Canon.ite ?_ ?_
        · refine State.causeClear_canon _ _ _ ?_
          exact h0
        · refine State.updView_canon _ _ _ _ ?_
          exact h0
      · refine State.viewStep_canon _ _ _ _ ?_
        exact h0
      · exact h0
      · exact h0
      · exact h0
      · exact h0
      · exact h0
      · refine State.badAccess_canon _ ?_
        exact h0

theorem State.bar0Write_canon (s : State) (who : Nat) (off : Nat) (v : Nat) (descs : List Desc) (h0 : State.Canon (s)) :
    State.Canon (State.bar0Write s who off v descs) := by
  unfold State.bar0Write
  extract_lets -merge x0 x1 x2
  refine Canon.ite ?_ ?_
  · refine Canon.ite ?_ ?_
    · exact h0
    · refine State.badAccess_canon _ ?_
      exact h0
  · refine Canon.ite ?_ ?_
    · refine State.setHost_canon _ _ ?_
      exact h0
    · refine Canon.ite ?_ ?_
      · refine Canon.foldl ?_ ?_
        · intro _ _ g3
          refine Canon.ite ?_ ?_
          · refine State.sendMsix_canon _ _ ?_
            exact g3
          · exact g3
        · refine State.causeW1c_canon _ _ _ ?_
          exact h0
      · refine Canon.ite ?_ ?_
        · refine State.dmaPageWrite_canon _ _ _ _ _ ?_
          exact h0
        · refine Canon.ite ?_ ?_
          · refine Canon.ite ?_ ?_
            · refine State.badAccess_canon _ ?_
              exact h0
            · refine State.mbxPageWrite_canon _ _ _ _ _ ?_
              exact h0
          · refine Canon.ite ?_ ?_
            · refine Canon.ite ?_ ?_
              · refine State.dblRing_canon _ _ _ ?_
                exact h0
              · exact h0
            · refine Canon.ite ?_ ?_
              · refine Canon.ite ?_ ?_
                · refine State.lockRelease_canon _ _ _ ?_
                  exact h0
                · exact h0
              · refine Canon.ite ?_ ?_
                · refine State.lockForce_canon _ _ _ ?_
                  exact h0
                · refine Canon.ite ?_ ?_
                  · refine State.msixUnmask_canon _ _ ?_
                    refine State.setHost_canon _ _ ?_
                    exact h0
                  · refine Canon.ite ?_ ?_
                    · exact h0
                    · refine State.badAccess_canon _ ?_
                      exact h0

theorem State.bar4Write_canon (s : State) (off : Nat) (v : Nat) (h0 : State.Canon (s)) :
    State.Canon (State.bar4Write s off v) := by
  unfold State.bar4Write
  refine Canon.ite ?_ ?_
  · refine State.mbxPageWrite_canon _ _ _ _ _ ?_
    exact h0
  · refine Canon.ite ?_ ?_
    · refine State.setHost_canon _ _ ?_
      exact h0
    · refine State.badAccess_canon _ ?_
      exact h0

theorem State.tbwRule_canon (s : State) (bank : Nat) (r : Nat) (beat : Nat) (w : Nat) (h0 : State.Canon (s)) :
    State.Canon (State.tbwRule s bank r beat w).2 := by
  unfold State.tbwRule
  refine Canon.ite2 ?_ ?_
  · refine Canon.pair ?_
    exact h0
  · refine Canon.ite2 ?_ ?_
    · refine State.beat5_canon _ _ _ _ ?_
      exact h0
    · refine State.ruleBeat_canon _ _ _ _ _ ?_
      exact h0

theorem State.tbwObject_canon (s : State) (o : Obj) (i : Nat) (r : Nat) (v : Nat) (h0 : State.Canon (s)) :
    State.Canon (State.tbwObject s o i r v).2 := by
  unfold State.tbwObject
  refine Canon.ite2 ?_ ?_
  · refine Canon.pair ?_
    exact h0
  · refine State.ownWrite_canon _ _ _ _ _ _ ?_
    exact h0

theorem State.tbwAssoc_canon (s : State) (r : Nat) (w : Nat) (h0 : State.Canon (s)) :
    State.Canon (State.tbwAssoc s r w).2 := by
  unfold State.tbwAssoc
  extract_lets -merge x0 x1 x2 x3
  have hx2 : State.Canon (x2) := by
    refine Canon.mk_iff.mpr ?_
    refine State.Canon.od ?_
    exact h0
  have hx3 : State.Canon (x3).2 := by
    refine Canon.foldl2 ?_ ?_
    · intro _ _ g4
      refine Canon.ite2 ?_ ?_
      · exact g4
      · refine State.tbwObject_canon _ _ _ _ _ ?_
        exact g4
    · refine Canon.pair ?_
      exact hx2
  refine Canon.ite2 ?_ ?_
  · refine State.ownWrite_canon _ _ _ _ _ _ ?_
    exact h0
  · refine Canon.ite2 ?_ ?_
    · refine Canon.pair ?_
      exact h0
    · refine Canon.ite2 ?_ ?_
      · exact hx3
      · refine Canon.pair ?_
        exact h0

theorem State.tbwApply_canon (s : State) (a : Nat) (w : Nat) (h0 : State.Canon (s)) :
    State.Canon (State.tbwApply s a w).2 := by
  unfold State.tbwApply
  extract_lets -merge x0
  refine Canon.ite2 ?_ ?_
  · refine State.tbwRule_canon _ _ _ _ _ ?_
    exact h0
  · refine Canon.ite2 ?_ ?_
    · refine State.tbwAssoc_canon _ _ _ ?_
      exact h0
    · refine Canon.ite2 ?_ ?_
      · refine State.tbwObject_canon _ _ _ _ _ ?_
        exact h0
      · refine Canon.ite2 ?_ ?_
        · refine State.tbwObject_canon _ _ _ _ _ ?_
          exact h0
        · refine Canon.ite2 ?_ ?_
          · refine State.tbwObject_canon _ _ _ _ _ ?_
            exact h0
          · refine Canon.pair ?_
            exact h0

theorem State.tbwRefuse_canon (s : State) (off : Nat) (code : Nat) (h0 : State.Canon (s)) :
    State.Canon (State.tbwRefuse s off code) := by
  unfold State.tbwRefuse
  extract_lets -merge x0 x1 x2
  have hx0 : State.Canon (x0) := by
    refine State.bump_canon _ _ _ _ ?_
    exact h0
  have hx2 : State.Canon (x2) := by
    refine Canon.ite ?_ ?_
    · exact hx0
    · refine State.setHost_canon _ _ ?_
      refine State.event_canon _ _ _ _ ?_
      exact hx0
  refine State.hostCause_canon _ _ ?_
  exact hx2

theorem State.tbwUnitWrite_canon (s : State) (a : Nat) (whole : Bool) (w : Nat) (h0 : State.Canon (s)) :
    State.Canon (State.tbwUnitWrite s a whole w) := by
  unfold State.tbwUnitWrite
  refine Canon.ite ?_ ?_
  · refine State.tbwRefuse_canon _ _ _ ?_
    exact h0
  · refine Canon.ite ?_ ?_
    · refine State.tbwRefuse_canon _ _ _ ?_
      exact h0
    · refine Canon.ite ?_ ?_
      · refine State.tbwRefuse_canon _ _ _ ?_
        exact h0
      · refine Canon.ite ?_ ?_
        · refine State.tbwRefuse_canon _ _ _ ?_
          exact h0
        · split
          · have g0 := Canon.of_snd (by assumption) (by
              refine State.tbwApply_canon _ _ _ ?_
              exact h0
              )
            refine State.bump_canon _ _ _ _ ?_
            exact g0
          · have g1 := Canon.of_snd (by assumption) (by
              refine State.tbwApply_canon _ _ _ ?_
              exact h0
              )
            refine State.tbwRefuse_canon _ _ _ ?_
            exact g1

theorem State.tbwGo_canon (n a : Nat) (d : List Nat) (s : State) (h3 : State.Canon s) : State.Canon (State.tbwGo n a d s) := by
  induction n generalizing a d s with
  | zero => exact h3
  | succ n ih =>
    unfold State.tbwGo
    split
    · exact h3
    · split
      · exact ih _ _ _ (State.bump_canon _ _ _ _ h3)
      · exact ih _ _ _ h3
      · exact ih _ _ _ (State.tbwUnitWrite_canon _ _ _ _ h3)

theorem execTbwWrite_canon (off : Nat) (data : List Nat) (s : State) (h2 : State.Canon (s)) :
    Res.Canon (execTbwWrite off data s) := by
  unfold execTbwWrite
  refine live_canon _ _ ?_ ?_
  · exact h2
  · intro _ g0
    refine State.tbwGo_canon _ _ _ _ ?_
    refine State.leaseSweep_canon _ ?_
    exact g0

theorem execBarRegisterWrite_canon (sec : Bool) (who : Nat) (off : Nat) (size : Nat) (val : Nat) (descs : List Desc) (s : State) (h6 : State.Canon (s)) :
    Res.Canon (execBarRegisterWrite sec who off size val descs s) := by
  unfold execBarRegisterWrite
  extract_lets -merge x0
  have hx0 : ∀ y0 y1 y2, State.Canon (y2) → State.Canon (x0 y0 y1 y2) := by
    intro _ _ _ g1
    unfold x0
    refine Canon.ite ?_ ?_
    · refine State.bar4Write_canon _ _ _ ?_
      exact g1
    · refine State.bar0Write_canon _ _ _ _ _ ?_
      exact g1
  refine live_canon _ _ ?_ ?_
  · exact h6
  · intro _ g2
    extract_lets -merge x3
    have hx3 : State.Canon (x3) := by
      refine hx0 _ _ _ ?_
      exact g2
    refine Canon.ite ?_ ?_
    · exact g2
    · refine Canon.ite ?_ ?_
      · refine State.badAccess_canon _ ?_
        exact g2
      · refine Canon.ite ?_ ?_
        · refine hx0 _ _ _ ?_
          exact hx3
        · exact hx3

end Sys2Proof.Machine
end

