-- ==== Sys2Proof/Laws/CanonFamDict.lean ====
section
/-! SUPPORT. The definitions of FamDict keep the object store canonical. -/

namespace Sys2Proof.Machine

theorem State.votAccept_canon (s : State) (d : Vot) (h0 : State.Canon (s)) :
    State.Canon (State.votAccept s d) := by
  unfold State.votAccept
  extract_lets -merge x0
  split
  · have g1 := Canon.of_snd (by assumption) (by
      refine State.draw_canon _ ?_
      exact h0
      )
    extract_lets -merge x2
    split
    · have g3 := Canon.of_snd (by assumption) (by
        refine State.draw_canon _ ?_
        exact g1
        )
      extract_lets -merge x4
      split
      · have g5 := Canon.of_snd (by assumption) (by
          refine State.draw_canon _ ?_
          exact g3
          )
        extract_lets -merge x6 x7 x8 x9 x10 x11
        have hx7 : State.Canon (x7) := by
          refine State.updSess_canon _ _ _ ?_
          exact g5
        have hx8 : State.Canon (x8) := by
          refine State.put_canon _ _ _ _ _ ?_
          refine State.put_canon _ _ _ _ _ ?_
          exact hx7
        have hx9 : State.Canon (x9) := by
          refine State.put_canon _ _ _ _ _ ?_
          refine State.put_canon _ _ _ _ _ ?_
          exact hx8
        have hx10 : State.Canon (x10) := by
          refine State.put_canon _ _ _ _ _ ?_
          exact hx9
        have hx11 : State.Canon (x11) := by
          refine State.bump_canon _ _ _ _ ?_
          exact hx10
        refine State.votSend_canon _ _ _ _ _ ?_
        exact hx11

theorem State.votAuthFail_canon (s : State) (d : Vot) (h0 : State.Canon (s)) :
    State.Canon (State.votAuthFail s d) := by
  unfold State.votAuthFail
  extract_lets -merge x0
  have hx0 : State.Canon (x0) := by
    refine State.bump_canon _ _ _ _ ?_
    exact h0
  refine Canon.ite ?_ ?_
  · exact hx0
  · refine State.setDict_canon _ _ ?_
    refine State.event_canon _ _ _ _ ?_
    exact hx0

theorem State.votIdle_canon (s : State) (h0 : State.Canon (s)) :
    State.Canon (State.votIdle s) := by
  unfold State.votIdle
  refine Canon.foldl ?_ ?_
  · intro _ _ g0
    extract_lets -merge x1
    refine Canon.ite ?_ ?_
    · refine State.sessClose_canon _ _ ?_
      exact g0
    · exact g0
  · exact h0

theorem State.votRefuse_canon (s : State) (d : Vot) (code : Nat) (h0 : State.Canon (s)) :
    State.Canon (State.votRefuse s d code) := by
  unfold State.votRefuse
  split
  · have g0 := Canon.of_snd (by assumption) (by
      refine State.draw_canon _ ?_
      exact h0
      )
    split
    · have g1 := Canon.of_snd (by assumption) (by
        refine State.draw_canon _ ?_
        exact g0
        )
      refine State.emit_canon _ _ ?_
      exact g1

theorem State.wearTo_canon (s : State) (erases : Nat) (h0 : State.Canon (s)) :
    State.Canon (State.wearTo s erases) := by
  unfold State.wearTo
  extract_lets -merge x0 x1
  have hx1 : State.Canon (x1) := by
    refine State.setJournal_canon _ _ ?_
    refine State.put_canon _ _ _ _ _ ?_
    exact h0
  refine Canon.ite ?_ ?_
  · refine State.setJournal_canon _ _ ?_
    refine State.event_canon _ _ _ _ ?_
    exact hx1
  · exact hx1

theorem execOnuWriteApply_canon (s : State) (h0 : State.Canon (s)) :
    Res.Canon (execOnuWriteApply s) := by
  unfold execOnuWriteApply
  refine live_canon _ _ ?_ ?_
  · exact h0
  · intro _ g0
    refine State.applyKind_canon _ _ _ ?_
    exact g0

theorem execOnuDelete_canon (s : State) (h0 : State.Canon (s)) :
    Res.Canon (execOnuDelete s) := by
  unfold execOnuDelete
  refine live_canon _ _ ?_ ?_
  · exact h0
  · intro _ g0
    refine State.applyKind_canon _ _ _ ?_
    exact g0

theorem execContextWriteApply_canon (s : State) (h0 : State.Canon (s)) :
    Res.Canon (execContextWriteApply s) := by
  unfold execContextWriteApply
  refine live_canon _ _ ?_ ?_
  · exact h0
  · intro _ g0
    refine State.applyKind_canon _ _ _ ?_
    exact g0

theorem execContextDelete_canon (s : State) (h0 : State.Canon (s)) :
    Res.Canon (execContextDelete s) := by
  unfold execContextDelete
  refine live_canon _ _ ?_ ?_
  · exact h0
  · intro _ g0
    refine State.applyKind_canon _ _ _ ?_
    exact g0

theorem execXgemWriteApply_canon (s : State) (h0 : State.Canon (s)) :
    Res.Canon (execXgemWriteApply s) := by
  unfold execXgemWriteApply
  refine live_canon _ _ ?_ ?_
  · exact h0
  · intro _ g0
    refine State.applyKind_canon _ _ _ ?_
    exact g0

theorem execXgemDelete_canon (s : State) (h0 : State.Canon (s)) :
    Res.Canon (execXgemDelete s) := by
  unfold execXgemDelete
  refine live_canon _ _ ?_ ?_
  · exact h0
  · intro _ g0
    refine State.applyKind_canon _ _ _ ?_
    exact g0

theorem hostRequest_canon (op : Nat) (q : DictReq) (ue : Option (Nat × Nat)) (s : State) (h3 : State.Canon (s)) :
    Res.Canon (hostRequest op q ue s) := by
  unfold hostRequest
  refine live_canon _ _ ?_ ?_
  · exact h3
  · intro _ g0
    refine State.request_canon _ _ _ _ _ ?_
    exact g0

theorem execDictRead_canon (q : DictReq) (ue : Option (Nat × Nat)) (s : State) (h2 : State.Canon (s)) :
    Res.Canon (execDictRead q ue s) := by
  unfold execDictRead
  refine hostRequest_canon _ _ _ _ ?_
  exact h2

theorem execDictWrite_canon (q : DictReq) (s : State) (h1 : State.Canon (s)) :
    Res.Canon (execDictWrite q s) := by
  unfold execDictWrite
  refine hostRequest_canon _ _ _ _ ?_
  exact h1

theorem execDictNext_canon (q : DictReq) (s : State) (h1 : State.Canon (s)) :
    Res.Canon (execDictNext q s) := by
  unfold execDictNext
  refine hostRequest_canon _ _ _ _ ?_
  exact h1

theorem execDictDescribe_canon (q : DictReq) (s : State) (h1 : State.Canon (s)) :
    Res.Canon (execDictDescribe q s) := by
  unfold execDictDescribe
  refine hostRequest_canon _ _ _ _ ?_
  exact h1

theorem secureRequest_canon (op : Nat) (part : Bool) (q : DictReq) (ue : Option (Nat × Nat)) (s : State) (h4 : State.Canon (s)) :
    Res.Canon (secureRequest op part q ue s) := by
  unfold secureRequest
  refine live_canon _ _ ?_ ?_
  · exact h4
  · intro _ g0
    refine Canon.ite ?_ ?_
    · refine State.request_canon _ _ _ _ _ ?_
      exact g0
    · refine Canon.ite ?_ ?_
      · refine State.request_canon _ _ _ _ _ ?_
        exact g0
      · exact g0

theorem execSecureDictRead_canon (part : Bool) (q : DictReq) (ue : Option (Nat × Nat)) (s : State) (h3 : State.Canon (s)) :
    Res.Canon (execSecureDictRead part q ue s) := by
  unfold execSecureDictRead
  refine secureRequest_canon _ _ _ _ _ ?_
  exact h3

theorem execSecureDictWrite_canon (part : Bool) (q : DictReq) (s : State) (h2 : State.Canon (s)) :
    Res.Canon (execSecureDictWrite part q s) := by
  unfold execSecureDictWrite
  refine secureRequest_canon _ _ _ _ _ ?_
  exact h2

theorem execSecureDictNext_canon (part : Bool) (q : DictReq) (s : State) (h2 : State.Canon (s)) :
    Res.Canon (execSecureDictNext part q s) := by
  unfold execSecureDictNext
  refine secureRequest_canon _ _ _ _ _ ?_
  exact h2

theorem execSecureDictDescribe_canon (part : Bool) (q : DictReq) (s : State) (h2 : State.Canon (s)) :
    Res.Canon (execSecureDictDescribe part q s) := by
  unfold execSecureDictDescribe
  refine secureRequest_canon _ _ _ _ _ ?_
  exact h2

theorem execDictQueuedWriteApply_canon (s : State) (h0 : State.Canon (s)) :
    Res.Canon (execDictQueuedWriteApply s) := by
  unfold execDictQueuedWriteApply
  refine live_canon _ _ ?_ ?_
  · exact h0
  · intro _ g0
    refine State.applyAll_canon _ ?_
    exact g0

theorem sessionWrite_canon (k : Fin 9) (index : Nat) (sub : Nat) (n : Nat) (v : Int) (s : State) (h5 : State.Canon (s)) :
    Res.Canon (sessionWrite k index sub n v s) := by
  unfold sessionWrite
  extract_lets -merge x0
  refine live_canon _ _ ?_ ?_
  · exact h5
  · intro _ g1
    extract_lets -merge x2
    refine Canon.ite ?_ ?_
    · refine State.request_canon _ _ _ _ _ ?_
      exact g1
    · exact g1

theorem execLeaseTake_canon (k : Fin 9) (s : State) (h1 : State.Canon (s)) :
    Res.Canon (execLeaseTake k s) := by
  unfold execLeaseTake
  refine sessionWrite_canon _ _ _ _ _ _ ?_
  exact h1

theorem execLeaseRenew_canon (k : Fin 9) (s : State) (h1 : State.Canon (s)) :
    Res.Canon (execLeaseRenew k s) := by
  unfold execLeaseRenew
  refine sessionWrite_canon _ _ _ _ _ _ ?_
  exact h1

theorem execLeaseRelease_canon (k : Fin 9) (s : State) (h1 : State.Canon (s)) :
    Res.Canon (execLeaseRelease k s) := by
  unfold execLeaseRelease
  refine sessionWrite_canon _ _ _ _ _ _ ?_
  exact h1

theorem execDictLeaseLapsed_canon (s : State) (h0 : State.Canon (s)) :
    Res.Canon (execDictLeaseLapsed s) := by
  unfold execDictLeaseLapsed
  refine live_canon _ _ ?_ ?_
  · exact h0
  · intro _ g0
    refine Canon.ite ?_ ?_
    · refine State.leaseSweep_canon _ ?_
      exact g0
    · exact g0

theorem execTxnBegin_canon (k : Fin 9) (s : State) (h1 : State.Canon (s)) :
    Res.Canon (execTxnBegin k s) := by
  unfold execTxnBegin
  refine sessionWrite_canon _ _ _ _ _ _ ?_
  exact h1

theorem execTxnCommit_canon (k : Fin 9) (s : State) (h1 : State.Canon (s)) :
    Res.Canon (execTxnCommit k s) := by
  unfold execTxnCommit
  refine sessionWrite_canon _ _ _ _ _ _ ?_
  exact h1

theorem execTxnCommitApply_canon (s : State) (h0 : State.Canon (s)) :
    Res.Canon (execTxnCommitApply s) := by
  unfold execTxnCommitApply
  refine live_canon _ _ ?_ ?_
  · exact h0
  · intro _ g0
    refine State.applyCommit_canon _ ?_
    exact g0

theorem execTxnAbort_canon (k : Fin 9) (s : State) (h1 : State.Canon (s)) :
    Res.Canon (execTxnAbort k s) := by
  unfold execTxnAbort
  refine sessionWrite_canon _ _ _ _ _ _ ?_
  exact h1

theorem execFactoryRestore_canon (k : Fin 9) (s : State) (h1 : State.Canon (s)) :
    Res.Canon (execFactoryRestore k s) := by
  unfold execFactoryRestore
  refine sessionWrite_canon _ _ _ _ _ _ ?_
  exact h1

theorem execJournalWrite_canon (ok : Bool) (fill : Nat) (s : State) (h2 : State.Canon (s)) :
    Res.Canon (execJournalWrite ok fill s) := by
  unfold execJournalWrite
  refine live_canon _ _ ?_ ?_
  · exact h2
  · intro _ g0
    refine Canon.ite ?_ ?_
    · exact g0
    · refine Canon.ite ?_ ?_
      · refine State.setJournal_canon _ _ ?_
        refine State.journalFold_canon _ ?_
        exact g0
      · refine State.event_canon _ _ _ _ ?_
        refine State.bump_canon _ _ _ _ ?_
        exact g0

theorem execJournalBaseWrite_canon (ok : Bool) (erases : Nat) (s : State) (h2 : State.Canon (s)) :
    Res.Canon (execJournalBaseWrite ok erases s) := by
  unfold execJournalBaseWrite
  refine live_canon _ _ ?_ ?_
  · exact h2
  · intro _ g0
    extract_lets -merge x1
    have hx1 : State.Canon (x1) := by
      refine State.wearTo_canon _ _ ?_
      exact g0
    refine Canon.ite ?_ ?_
    · exact g0
    · refine Canon.ite ?_ ?_
      · refine State.setJournal_canon _ _ ?_
        refine State.journalFold_canon _ ?_
        exact hx1
      · exact hx1

theorem execCalFlush_canon (s : State) (h0 : State.Canon (s)) :
    Res.Canon (execCalFlush s) := by
  unfold execCalFlush
  refine live_canon _ _ ?_ ?_
  · exact h0
  · intro _ g0
    refine Canon.ite ?_ ?_
    · refine State.calFlush_canon _ ?_
      exact g0
    · exact g0

theorem votRx_canon (d : Vot) (kind : Nat) (s : State) (f : State → State) (h2 : State.Canon (s)) (h3 : ∀ y0, State.Canon (y0) → State.Canon (f y0)) :
    Res.Canon (votRx d kind s f) := by
  unfold votRx
  refine live_canon _ _ ?_ ?_
  · exact h2
  · intro _ g0
    extract_lets -merge x1
    have hx1 : State.Canon (x1) := by
      refine State.votIdle_canon _ ?_
      refine State.leaseSweep_canon _ ?_
      exact g0
    refine Canon.ite ?_ ?_
    · exact g0
    · refine Canon.ite ?_ ?_
      · refine State.bump_canon _ _ _ _ ?_
        exact hx1
      · refine Canon.ite ?_ ?_
        · exact hx1
        · refine h3 _ ?_
          exact hx1

theorem execVotOpen_canon (dip : Nat) (dport : Nat) (ip : Nat) (port : Nat) (data : List Nat) (s : State) (h5 : State.Canon (s)) :
    Res.Canon (execVotOpen dip dport ip port data s) := by
  unfold execVotOpen
  extract_lets -merge x0
  refine votRx_canon _ _ _ _ ?_ ?_
  · exact h5
  · intro _ g1
    refine Canon.ite ?_ ?_
    · refine State.votRefuse_canon _ _ _ ?_
      exact g1
    · refine Canon.ite ?_ ?_
      · refine State.votAuthFail_canon _ _ ?_
        exact g1
      · refine Canon.ite ?_ ?_
        · refine State.bump_canon _ _ _ _ ?_
          exact g1
        · refine Canon.ite ?_ ?_
          · refine State.votRefuse_canon _ _ _ ?_
            exact g1
          · refine State.votAccept_canon _ _ ?_
            exact g1

theorem votIn_canon (d : Vot) (f : Nat → State → State) (s : State) (h1 : ∀ y0 y1, State.Canon (y1) → State.Canon (f y0 y1)) (h2 : State.Canon (s)) :
    State.Canon (votIn d f s) := by
  unfold votIn
  extract_lets -merge x0
  refine Canon.ite ?_ ?_
  · refine h1 _ _ ?_
    refine State.updSess_canon _ _ _ ?_
    exact h2
  · refine State.votAuthFail_canon _ _ ?_
    exact h2

theorem execVotRequest_canon (dip : Nat) (dport : Nat) (ip : Nat) (port : Nat) (data : List Nat) (ue : Option (Nat × Nat)) (s : State) (h6 : State.Canon (s)) :
    Res.Canon (execVotRequest dip dport ip port data ue s) := by
  unfold execVotRequest
  extract_lets -merge x0
  refine votRx_canon _ _ _ _ ?_ ?_
  · exact h6
  · intro _ g1
    refine votIn_canon _ _ _ ?_ ?_
    · intro _ _ g2
      extract_lets -merge x3 x4 x5
      have hx5 : State.Canon (x5) := by
        refine State.updSess_canon _ _ _ ?_
        refine State.put_canon _ _ _ _ _ ?_
        exact g2
      refine Canon.ite ?_ ?_
      · refine State.bump_canon _ _ _ _ ?_
        exact g2
      · refine Canon.ite ?_ ?_
        · refine Canon.ite ?_ ?_
          · exact g2
          · refine State.votSend_canon _ _ _ _ _ ?_
            exact g2
        · refine State.request_canon _ _ _ _ _ ?_
          exact hx5
    · exact g1

theorem execVotClose_canon (dip : Nat) (dport : Nat) (ip : Nat) (port : Nat) (data : List Nat) (s : State) (h5 : State.Canon (s)) :
    Res.Canon (execVotClose dip dport ip port data s) := by
  unfold execVotClose
  extract_lets -merge x0
  refine votRx_canon _ _ _ _ ?_ ?_
  · exact h5
  · intro _ g1
    refine votIn_canon _ _ _ ?_ ?_
    · intro _ _ g2
      refine State.sessClose_canon _ _ ?_
      exact g2
    · exact g1

theorem execVotIdleTimeout_canon (s : State) (h0 : State.Canon (s)) :
    Res.Canon (execVotIdleTimeout s) := by
  unfold execVotIdleTimeout
  refine live_canon _ _ ?_ ?_
  · exact h0
  · intro _ g0
    refine Canon.ite ?_ ?_
    · refine State.votIdle_canon _ ?_
      exact g0
    · exact g0

theorem execSessionClose_canon (k : Fin 9) (i : Fin 8) (s : State) (h2 : State.Canon (s)) :
    Res.Canon (execSessionClose k i s) := by
  unfold execSessionClose
  refine sessionWrite_canon _ _ _ _ _ _ ?_
  exact h2

theorem execMgmtAddrWrite_canon (k : Fin 9) (f : Fin 5) (v : Nat) (s : State) (h3 : State.Canon (s)) :
    Res.Canon (execMgmtAddrWrite k f v s) := by
  unfold execMgmtAddrWrite
  extract_lets -merge x0
  refine sessionWrite_canon _ _ _ _ _ _ ?_
  exact h3

theorem execArpNdEchoRx_canon (data : List Nat) (s : State) (h1 : State.Canon (s)) :
    Res.Canon (execArpNdEchoRx data s) := by
  unfold execArpNdEchoRx
  refine live_canon _ _ ?_ ?_
  · exact h1
  · intro _ g0
    extract_lets -merge x1
    refine Canon.ite ?_ ?_
    · exact g0
    · clear_value x1
      split
      · refine State.emit_canon _ _ ?_
        exact g0
      · exact g0

end Sys2Proof.Machine
end

