-- ==== Sys2Proof/Laws/CanonFamMem.lean ====
section
/-! SUPPORT. The definitions of FamMem keep the object store canonical. -/

namespace Sys2Proof.Machine

theorem State.entryGone_canon (s : State) (a : Nat) (index : Nat) (rcd : Nat) (who : Nat) (h0 : State.Canon (s)) :
    State.Canon (State.entryGone s a index rcd who) := by
  unfold State.entryGone
  refine State.event_canon _ _ _ _ ?_
  exact h0

theorem State.assocGone_canon (s : State) (r : Nat) (who : Nat) (h0 : State.Canon (s)) :
    State.Canon (State.assocGone s r who) := by
  unfold State.assocGone
  extract_lets -merge x0
  have hx0 : State.Canon (x0) := by
    refine Canon.ite ?_ ?_
    · exact h0
    · refine Canon.foldl ?_ ?_
      · intro _ _ g1
        refine State.rput_canon _ _ _ _ _ ?_
        exact g1
      · exact h0
  refine State.entryGone_canon _ _ _ _ _ ?_
  exact hx0

theorem State.correct_canon (s : State) (a : Nat) (addr : Nat) (n : Nat) (lane : Nat) (scrubs : Bool) (h0 : State.Canon (s)) :
    State.Canon (State.correct s a addr n lane scrubs) := by
  unfold State.correct
  extract_lets -merge x0 x1
  have hx1 : State.Canon (x1) := by
    refine State.setMem_canon _ _ ?_
    exact h0
  refine Canon.ite ?_ ?_
  · exact hx1
  · refine State.memRepeat_canon _ _ _ _ ?_
    refine State.memCe_canon _ _ _ ?_
    exact hx1

theorem State.flushQueue_canon (s : State) (dir : Nat) (q : Nat) (h0 : State.Canon (s)) :
    State.Canon (State.flushQueue s dir q) := by
  unfold State.flushQueue
  extract_lets -merge x0 x1
  have hx0 : State.Canon (x0) := by
    refine Canon.foldl ?_ ?_
    · intro _ _ g2
      split
      · refine State.dropQueued_canon _ _ _ _ _ ?_
        exact g2
      · exact g2
    · exact h0
  refine Canon.mk_iff.mpr ?_
  refine State.Canon.od ?_
  exact hx0

theorem State.flushNode_canon (s : State) (dir : Nat) (n : Nat) (h0 : State.Canon (s)) :
    State.Canon (State.flushNode s dir n) := by
  unfold State.flushNode
  extract_lets -merge x0 x1
  have hx0 : State.Canon (x0) := by
    refine Canon.foldl ?_ ?_
    · intro _ _ g2
      refine State.flushQueue_canon _ _ _ ?_
      exact g2
    · exact h0
  refine Canon.mk_iff.mpr ?_
  refine State.Canon.od ?_
  exact hx0

theorem State.reloadCheck_canon (s : State) (h0 : State.Canon (s)) :
    State.Canon (State.reloadCheck s) := by
  unfold State.reloadCheck
  extract_lets -merge x0
  have hx0 : State.Canon (x0) := by
    refine State.setMem_canon _ _ ?_
    exact h0
  refine Canon.ite ?_ ?_
  · refine Canon.ite ?_ ?_
    · refine State.resync_canon _ ?_
      exact hx0
    · exact hx0
  · exact h0

theorem State.idle_canon (s : State) (h0 : State.Canon (s)) :
    State.Canon (State.idle s) := by
  unfold State.idle
  extract_lets -merge x0
  have hx0 : State.Canon (x0) := by
    refine State.reloadCheck_canon _ ?_
    refine State.tick_canon _ ?_
    exact h0
  refine Canon.mk_iff.mpr ?_
  refine State.Canon.od ?_
  exact hx0

theorem State.ruleGone_canon (s : State) (bank : Nat) (r : Nat) (who : Nat) (h0 : State.Canon (s)) :
    State.Canon (State.ruleGone s bank r who) := by
  unfold State.ruleGone
  extract_lets -merge x0
  have hx0 : State.Canon (x0) := by
    refine Canon.ite ?_ ?_
    · exact h0
    · refine Canon.foldl ?_ ?_
      · intro _ _ g1
        refine State.rput_canon _ _ _ _ _ ?_
        exact g1
      · exact h0
  refine State.entryGone_canon _ _ _ _ _ ?_
  exact hx0

theorem State.tailLost_canon (s : State) (k : Nat) (h0 : State.Canon (s)) :
    State.Canon (State.tailLost s k) := by
  unfold State.tailLost
  extract_lets -merge x0
  refine State.setRing_canon _ _ _ ?_
  exact h0

theorem State.reloaded_canon (s : State) (index : Nat) (rcd : Nat) (who : Nat) (gone : Bool) (h0 : State.Canon (s)) :
    State.Canon (State.reloaded s index rcd who gone) := by
  unfold State.reloaded
  refine State.event_canon _ _ _ _ ?_
  exact h0

theorem State.recordGone_canon (s : State) (index : Nat) (r : Nat) (h0 : State.Canon (s)) :
    State.Canon (State.recordGone s index r) := by
  unfold State.recordGone
  extract_lets -merge x0 x1 x2
  have hx0 : State.Canon (x0) := by
    refine State.markGone_canon _ _ _ ?_
    exact h0
  have hx1 : State.Canon (x1) := by
    refine State.dropRecord_canon _ _ _ ?_
    refine State.markGone_canon _ _ _ ?_
    exact h0
  split
  · refine State.removeOnu_canon _ _ ?_
    exact h0
  · refine Canon.mk_iff.mpr ?_
    refine State.Canon.od ?_
    exact hx0
  · refine Canon.mk_iff.mpr ?_
    refine State.Canon.od ?_
    exact hx1
  · refine State.markGone_canon _ _ _ ?_
    exact h0

theorem State.recordReload_canon (s : State) (index : Nat) (r : Nat) (who : Nat) (h0 : State.Canon (s)) :
    State.Canon (State.recordReload s index r who) := by
  unfold State.recordReload
  extract_lets -merge x0 x1 x2 x3 x4 x5 x6 x7
  have hx0 : State.Canon (x0) := by
    refine Canon.ite ?_ ?_
    · refine State.onuToEmpty_canon _ _ _ ?_
      exact h0
    · exact h0
  have hx3 : State.Canon (x3) := by
    refine Canon.mk_iff.mpr ?_
    refine Store.sorted_foldl_ins _ _ ?_
    unfold x2
    refine Store.sorted_filter _ ?_
    refine State.Canon.od ?_
    exact hx0
  have hx4 : State.Canon (x4) := by
    refine Canon.ite ?_ ?_
    · refine State.rput_canon _ _ _ _ _ ?_
      exact hx3
    · exact hx3
  have hx6 : State.Canon (x6) := by
    refine Canon.ite ?_ ?_
    · refine Canon.mk_iff.mpr ?_
      refine State.Canon.od ?_
      exact hx4
    · exact hx4
  have hx7 : State.Canon (x7) := by
    refine Canon.ite ?_ ?_
    · refine State.setMem_canon _ _ ?_
      exact hx6
    · exact hx6
  refine Canon.ite ?_ ?_
  · refine State.reloaded_canon _ _ _ _ _ ?_
    refine State.recordGone_canon _ _ _ ?_
    exact h0
  · refine State.reloaded_canon _ _ _ _ _ ?_
    exact hx7

theorem State.toInitial_canon (s : State) (index : Nat) (sub : Nat) (r : Nat) (h0 : State.Canon (s)) :
    State.Canon (State.toInitial s index sub r) := by
  unfold State.toInitial
  split
  · refine Canon.mk_iff.mpr ?_
    refine Store.sorted_put _ _ _ _ _ ?_
    refine State.Canon.od ?_
    exact h0
  · exact h0

theorem State.memOutcome_canon (s : State) (a : Nat) (use : MemUse) (h0 : State.Canon (s)) :
    State.Canon (State.memOutcome s a use) := by
  unfold State.memOutcome
  extract_lets -merge x0
  split
  · exact h0
  · refine State.emit_canon _ _ ?_
    exact h0
  · refine State.emit_canon _ _ ?_
    exact h0
  · refine Canon.ite ?_ ?_
    · refine State.assocGone_canon _ _ _ ?_
      exact h0
    · refine State.ruleGone_canon _ _ _ _ ?_
      exact h0
  · split
    · refine State.leaveQueue_canon _ _ _ _ _ ?_
      refine State.bump_canon _ _ _ _ ?_
      exact h0
    · exact h0
  · split
    · refine State.setReplay_canon _ _ _ ?_
      refine State.bump_canon _ _ _ _ ?_
      exact h0
    · exact h0
  · refine State.tailLost_canon _ _ ?_
    exact h0
  · split
    · have g1 := Canon.of_snd (by assumption) (by
        refine State.draw_canon _ ?_
        exact h0
        )
      refine State.entryGone_canon _ _ _ _ _ ?_
      refine State.delWay_canon _ _ _ ?_
      exact g1
  · refine State.ruleGone_canon _ _ _ _ ?_
    exact h0
  · refine State.recordReload_canon _ _ _ _ ?_
    exact h0
  · refine State.setValid_canon _ _ _ _ ?_
    exact h0
  · extract_lets -merge x2 x3
    have hx3 : State.Canon (x3) := by
      refine State.rput_canon _ _ _ _ _ ?_
      exact h0
    refine State.updOnuF_canon _ _ _ ?_
    exact hx3
  · refine State.updFr_canon _ _ _ _ ?_
    exact h0
  · refine State.rput_canon _ _ _ _ _ ?_
    refine State.rput_canon _ _ _ _ _ ?_
    exact h0
  · refine State.updGrant_canon _ _ _ _ ?_
    exact h0
  · refine State.updOnu_canon _ _ _ ?_
    refine State.rput_canon _ _ _ _ _ ?_
    exact h0
  · extract_lets -merge x4
    refine State.put_canon _ _ _ _ _ ?_
    exact h0
  · refine State.toInitial_canon _ _ _ _ ?_
    exact h0
  · refine State.recordReload_canon _ _ _ _ ?_
    refine State.flushQueue_canon _ _ _ ?_
    exact h0
  · refine State.recordReload_canon _ _ _ _ ?_
    refine State.flushNode_canon _ _ _ ?_
    exact h0
  · extract_lets -merge x5
    refine Canon.mk_iff.mpr ?_
    refine State.Canon.od ?_
    exact h0

theorem execScrubAccess_canon (a : Fin 19) (addr : Nat) (finding : Fin 3) (n : Nat) (lane : Nat) (use : MemUse) (s : State) (h6 : State.Canon (s)) :
    Res.Canon (execScrubAccess a addr finding n lane use s) := by
  unfold execScrubAccess
  refine live_canon _ _ ?_ ?_
  · exact h6
  · intro _ g0
    extract_lets -merge x1 x2 x3
    have hx2 : State.Canon (x2) := by
      refine Canon.ite ?_ ?_
      · refine State.setMem_canon _ _ ?_
        exact g0
      · exact g0
    have hx3 : State.Canon (x3) := by
      refine State.correct_canon _ _ _ _ _ _ ?_
      exact hx2
    refine Canon.ite ?_ ?_
    · exact g0
    · refine Canon.ite ?_ ?_
      · exact hx2
      · refine Canon.ite ?_ ?_
        · refine State.memCe_canon _ _ _ ?_
          exact hx2
        · refine Canon.ite ?_ ?_
          · refine Canon.ite ?_ ?_
            · refine State.setMem_canon _ _ ?_
              exact hx3
            · exact hx3
          · refine State.memOutcome_canon _ _ _ ?_
            refine State.memUe_canon _ _ _ _ _ ?_
            exact hx2

theorem execScrubWriteback_canon (a : Fin 19) (user : Option Nat) (s : State) (h2 : State.Canon (s)) :
    Res.Canon (execScrubWriteback a user s) := by
  unfold execScrubWriteback
  refine live_canon _ _ ?_ ?_
  · exact h2
  · intro _ g0
    split
    · refine State.setMem_canon _ _ ?_
      exact g0
    · exact g0

theorem execScrubLapEnd_canon (a : Fin 19) (s : State) (h1 : State.Canon (s)) :
    Res.Canon (execScrubLapEnd a s) := by
  unfold execScrubLapEnd
  refine live_canon _ _ ?_ ?_
  · exact h1
  · intro _ g0
    extract_lets -merge x1 x2 x3 x4
    have hx2 : State.Canon (x2) := by
      refine State.setMem_canon _ _ ?_
      exact g0
    have hx3 : State.Canon (x3) := by
      refine State.put_canon _ _ _ _ _ ?_
      refine State.put_canon _ _ _ _ _ ?_
      exact hx2
    have hx4 : State.Canon (x4) := by
      refine Canon.ite ?_ ?_
      · refine State.setMem_canon _ _ ?_
        exact hx3
      · exact hx3
    refine Canon.ite ?_ ?_
    · exact g0
    · refine Canon.ite ?_ ?_
      · refine State.event_canon _ _ _ _ ?_
        refine State.put_canon _ _ _ _ _ ?_
        exact hx4
      · refine State.put_canon _ _ _ _ _ ?_
        exact hx4

theorem execScrubWake_canon (k : Fin 8) (s : State) (h1 : State.Canon (s)) :
    Res.Canon (execScrubWake k s) := by
  unfold execScrubWake
  refine live_canon _ _ ?_ ?_
  · exact h1
  · intro _ g0
    extract_lets -merge x1 x2
    have hx2 : State.Canon (x2) := by
      refine State.ddrRequest_canon _ _ ?_
      exact g0
    split
    · exact g0
    · refine Canon.ite ?_ ?_
      · refine State.setMem_canon _ _ ?_
        exact hx2
      · exact g0

theorem execInjArm_canon (hit : Bool) (s : State) (h1 : State.Canon (s)) :
    Res.Canon (execInjArm hit s) := by
  unfold execInjArm
  refine live_canon _ _ ?_ ?_
  · exact h1
  · intro _ g0
    extract_lets -merge x1 x2 x3 x4
    refine Canon.ite ?_ ?_
    · refine Canon.ite ?_ ?_
      · refine State.setMem_canon _ _ ?_
        refine State.put_canon _ _ _ _ _ ?_
        exact g0
      · exact g0
    · split
      · have g5 := Canon.of_snd (by assumption) (by
          refine State.ownWrite_canon _ _ _ _ _ _ ?_
          exact g0
          )
        refine State.result_canon _ _ _ _ _ _ ?_
        exact g5

theorem execCounterClear_canon (index : Nat) (sub : Nat) (r : Nat) (s : State) (h3 : State.Canon (s)) :
    Res.Canon (execCounterClear index sub r s) := by
  unfold execCounterClear
  refine live_canon _ _ ?_ ?_
  · exact h3
  · intro _ g0
    split
    · refine State.emit_canon _ _ ?_
      exact g0
    · refine Canon.ite ?_ ?_
      · refine State.emit_canon _ _ ?_
        exact g0
      · refine Canon.ite ?_ ?_
        · refine State.emit_canon _ _ ?_
          exact g0
        · split
          · have g1 := Canon.of_snd (by assumption) (by
              refine State.ownWrite_canon _ _ _ _ _ _ ?_
              exact g0
              )
            refine State.emit_canon _ _ ?_
            exact g1

end Sys2Proof.Machine
end

