-- ==== Sys2Proof/Laws/CanonFamPick.lean ====
section
/-! SUPPORT. The definitions of FamPick keep the object store canonical. -/

namespace Sys2Proof.Machine

theorem State.hostSend_canon (s : State) (dir : Nat) (p : Pkt) (h0 : State.Canon (s)) :
    State.Canon (State.hostSend s dir p) := by
  unfold State.hostSend
  extract_lets -merge x0
  split
  · have g1 := Canon.of_snd (by assumption) (by
      refine State.draw_canon _ ?_
      exact h0
      )
    extract_lets -merge x2 x3
    refine Canon.mk_iff.mpr ?_
    refine State.Canon.od ?_
    exact g1

theorem State.macSend_canon (s : State) (i : Nat) (d : List Nat) (h0 : State.Canon (s)) :
    State.Canon (State.macSend s i d) := by
  unfold State.macSend
  refine State.emit_canon _ _ ?_
  refine State.bumpBy_canon _ _ _ _ _ ?_
  refine State.bump_canon _ _ _ _ ?_
  exact h0

theorem State.uplinkSend_canon (s : State) (i : Nat) (p : Pkt) (h0 : State.Canon (s)) :
    State.Canon (State.uplinkSend s i p) := by
  unfold State.uplinkSend
  extract_lets -merge x0 x1 x2
  refine Canon.ite ?_ ?_
  · refine State.bump_canon _ _ _ _ ?_
    exact h0
  · refine Canon.ite ?_ ?_
    · refine State.bump_canon _ _ _ _ ?_
      exact h0
    · split
      · refine State.macSend_canon _ _ _ ?_
        refine State.macSend_canon _ _ _ ?_
        exact h0
      · refine State.macSend_canon _ _ _ ?_
        exact h0

theorem State.lineSend_canon (s : State) (dir : Nat) (n : Nat) (a3 : QPkt) (h0 : State.Canon (s)) :
    State.Canon (State.lineSend s dir n a3) := by
  unfold State.lineSend
  extract_lets -merge x0 x1 x2 x3
  have hx1 : State.Canon (x1) := by
    refine Canon.ite ?_ ?_
    · exact h0
    · refine State.bufTo_canon _ _ _ _ ?_
      exact h0
  refine Canon.ite ?_ ?_
  · refine State.updFr_canon _ _ _ _ ?_
    exact hx1
  · refine Canon.ite ?_ ?_
    · refine State.bufDrop_canon _ _ _ _ ?_
      refine State.uplinkSend_canon _ _ _ ?_
      exact hx1
    · refine Canon.ite ?_ ?_
      · refine State.bufDrop_canon _ _ _ _ ?_
        refine State.emit_canon _ _ ?_
        exact hx1
      · refine State.hostSend_canon _ _ _ ?_
        exact hx1

theorem State.lineTake_canon (s : State) (dir : Nat) (n : Nat) (h0 : State.Canon (s)) :
    State.Canon (State.lineTake s dir n) := by
  unfold State.lineTake
  refine Canon.ite ?_ ?_
  · exact h0
  · split
    · have g0 := Canon.of_snd (by assumption) (by
        refine State.pick_canon _ _ _ _ ?_
        exact h0
        )
      exact g0
    · have g1 := Canon.of_snd (by assumption) (by
        refine State.pick_canon _ _ _ _ ?_
        exact h0
        )
      split
      · have g2 := Canon.of_snd (by assumption) (by
          refine State.dequeue_canon _ _ _ ?_
          exact g1
          )
        exact g2
      · have g3 := Canon.of_snd (by assumption) (by
          refine State.dequeue_canon _ _ _ ?_
          exact g1
          )
        refine State.lineSend_canon _ _ _ _ ?_
        exact g3

theorem execPick_canon (dir : Fin 2) (line : Nat) (s : State) (h2 : State.Canon (s)) :
    Res.Canon (execPick dir line s) := by
  unfold execPick
  refine live_canon _ _ ?_ ?_
  · exact h2
  · intro _ g0
    refine State.lineTake_canon _ _ _ ?_
    exact g0

theorem execLaunchTimeReached_canon (dir : Fin 2) (q : Nat) (ready : Bool) (s : State) (h3 : State.Canon (s)) :
    Res.Canon (execLaunchTimeReached dir q ready s) := by
  unfold execLaunchTimeReached
  refine live_canon _ _ ?_ ?_
  · exact h3
  · intro _ g0
    refine Canon.ite ?_ ?_
    · split
      · refine State.lineTake_canon _ _ _ ?_
        exact g0
      · exact g0
    · exact g0

theorem execShaperRefill_canon (dir : Fin 2) (isQ : Bool) (n : Nat) (ready : Bool) (s : State) (h4 : State.Canon (s)) :
    Res.Canon (execShaperRefill dir isQ n ready s) := by
  unfold execShaperRefill
  refine live_canon _ _ ?_ ?_
  · exact h4
  · intro _ g0
    extract_lets -merge x1 x2
    have hx2 : State.Canon (x2) := by
      refine State.setShaper_canon _ _ _ _ _ ?_
      exact g0
    refine Canon.ite ?_ ?_
    · exact g0
    · refine Canon.ite ?_ ?_
      · split
        · refine State.lineTake_canon _ _ _ ?_
          exact hx2
        · exact hx2
      · exact hx2

end Sys2Proof.Machine
end

