-- ==== Sys2Proof/Laws/CanonDispatch.lean ====
section
/-! SUPPORT. The definitions of Dispatch keep the object store canonical. -/

namespace Sys2Proof.Machine

theorem exec_canon (i : Sys2Proof.Instr) (s : State) (h1 : State.Canon (s)) :
    Res.Canon (exec i s) := by
  unfold exec
  split
  · refine execPowerGood_canon _ ?_
    exact h1
  · refine execPgAHigh_canon _ ?_
    exact h1
  · refine execRailEnableTimeout_canon _ _ ?_
    exact h1
  · refine execRailFault_canon _ _ _ ?_
    exact h1
  · refine execSysRst_canon _ _ ?_
    exact h1
  · refine execPcieFundamentalReset_canon _ ?_
    exact h1
  · refine execRestart_canon _ ?_
    exact h1
  · refine execSnowdropPhaseEnd_canon _ ?_
    exact h1
  · refine execSecureBoot_canon _ _ _ ?_
    exact h1
  · refine execHoneycombRestore_canon _ _ _ ?_
    exact h1
  · refine execPllDdrReady_canon _ _ ?_
    exact h1
  · refine execPllLockRetry_canon _ _ ?_
    exact h1
  · refine execWaveStart_canon _ ?_
    exact h1
  · refine execStartUpEnd_canon _ ?_
    exact h1
  · refine execPowerCmdFull_canon _ ?_
    exact h1
  · refine execPowerCmdTrim_canon _ ?_
    exact h1
  · refine execPowerCmdSnowdrop_canon _ ?_
    exact h1
  · refine execPwrLowEntry_canon _ _ ?_
    exact h1
  · refine execPwrLowExit_canon _ _ ?_
    exact h1
  · refine execTrimSteering_canon _ ?_
    exact h1
  · refine execTrimPipelinesDrained_canon _ ?_
    exact h1
  · refine execReplicaCopyComplete_canon _ ?_
    exact h1
  · refine execSnowdropEntryComplete_canon _ ?_
    exact h1
  · refine execSnowdropWake_canon _ _ _ ?_
    exact h1
  · refine execPipelineIdleStop_canon _ _ ?_
    exact h1
  · refine execCoreIdleStop_canon _ _ _ ?_
    exact h1
  · refine execDdrSelfRefreshEntry_canon _ _ ?_
    exact h1
  · refine execDdrWakeComplete_canon _ _ ?_
    exact h1
  · refine execChCmdOff_canon _ _ _ ?_
    exact h1
  · refine execChCmdDark_canon _ _ _ ?_
    exact h1
  · refine execChCmdLit_canon _ _ _ ?_
    exact h1
  · refine execChPendingApply_canon _ _ _ ?_
    exact h1
  · refine execSerialiserLocked_canon _ _ _ ?_
    exact h1
  · refine execWarmTimeout_canon _ _ _ ?_
    exact h1
  · refine execTxLossOfLock_canon _ _ _ ?_
    exact h1
  · refine execPonPllUnlock_canon _ _ ?_
    exact h1
  · refine execTestModeNone_canon _ _ _ ?_
    exact h1
  · refine execTestModePrbsTx_canon _ _ ?_
    exact h1
  · refine execTestModePrbsRx_canon _ _ ?_
    exact h1
  · refine execTestModeLoopback_canon _ _ ?_
    exact h1
  · refine execNoticeIssue_canon _ _ _ ?_
    exact h1
  · refine execBurstNotice_canon _ _ _ ?_
    exact h1
  · refine execPreloadComplete_canon _ _ ?_
    exact h1
  · refine execBurstStart_canon _ _ _ ?_
    exact h1
  · refine execDelimiterDetected_canon _ _ _ _ _ _ _ ?_
    exact h1
  · refine execGuardWindowClose_canon _ _ _ _ ?_
    exact h1
  · refine execBurstEnd_canon _ _ _ _ _ ?_
    exact h1
  · refine execRxClockStop_canon _ _ _ ?_
    exact h1
  · refine execBurstHeaderCheck_canon _ _ _ _ _ _ ?_
    exact h1
  · refine execFrameOutcomesComplete_canon _ _ _ ?_
    exact h1
  · refine execUnexpLightJudge_canon _ _ _ _ ?_
    exact h1
  · refine execQuietWindowDue_canon _ _ _ ?_
    exact h1
  · refine execQuietWindowResponse_canon _ _ _ _ _ _ ?_
    exact h1
  · refine execPendingTimeout_canon _ _ ?_
    exact h1
  · refine execRegistrationReceived_canon _ _ _ _ _ _ ?_
    exact h1
  · refine execRangingWindowEnd_canon _ _ _ ?_
    exact h1
  · refine execOnuOperatingEntry_canon _ _ _ ?_
    exact h1
  · refine execActArrivalOffset_canon _ _ _ ?_
    exact h1
  · refine execDriftOffsetApply_canon _ _ _ ?_
    exact h1
  · refine execDriftHoldEnd_canon _ _ ?_
    exact h1
  · refine execActLostBurst_canon _ _ _ ?_
    exact h1
  · refine execActWrongSource_canon _ _ _ ?_
    exact h1
  · refine execLostProbeDue_canon _ _ ?_
    exact h1
  · refine execLostTimeout_canon _ _ ?_
    exact h1
  · refine execStepEvaluation_canon _ _ ?_
    exact h1
  · refine execRogueObservationEnd_canon _ _ _ ?_
    exact h1
  · refine execOnuWriteApply_canon _ ?_
    exact h1
  · refine execOnuDelete_canon _ ?_
    exact h1
  · refine execFindSerial_canon _ _ _ ?_
    exact h1
  · refine execMapClose_canon _ ?_
    exact h1
  · refine execMapHandover_canon _ _ ?_
    exact h1
  · refine execMapLate_canon _ _ _ ?_
    exact h1
  · refine execStatusReport_canon _ _ _ _ ?_
    exact h1
  · refine execUsageRecord_canon _ _ _ ?_
    exact h1
  · refine execHintPost_canon _ ?_
    exact h1
  · refine execActRequestPost_canon _ _ _ ?_
    exact h1
  · refine execContextWriteApply_canon _ ?_
    exact h1
  · refine execContextDelete_canon _ ?_
    exact h1
  · refine execMapCaptureArm_canon _ ?_
    exact h1
  · refine execFinalSetReceived_canon _ _ _ ?_
    exact h1
  · refine execCoeffSetWrite_canon _ _ _ _ ?_
    exact h1
  · refine execCoeffInvalidate_canon _ _ _ ?_
    exact h1
  · refine execClearRxp_canon _ _ ?_
    exact h1
  · refine execCoeffSnapshot_canon _ _ _ ?_
    exact h1
  · refine execPowerFrameReceived_canon _ _ _ _ _ _ ?_
    exact h1
  · refine execRxpSampleTimeout_canon _ _ _ ?_
    exact h1
  · refine execFeederSearchFrame_canon _ _ _ ?_
    exact h1
  · refine execFeederTrackFrame_canon _ _ _ ?_
    exact h1
  · refine execThermalLoopSample_canon _ _ _ _ ?_
    exact h1
  · refine execBiasLoopSample_canon _ _ _ _ ?_
    exact h1
  · refine execBiasLoopResume_canon _ _ _ ?_
    exact h1
  · refine execExtinctionLoopSample_canon _ _ _ _ _ ?_
    exact h1
  · refine execLoopLimitTimeout_canon _ _ _ ?_
    exact h1
  · refine execLaserSafetyTrip_canon _ _ _ ?_
    exact h1
  · refine execLaserRampComplete_canon _ _ _ ?_
    exact h1
  · refine execSbResponse_canon _ _ _ _ _ _ _ ?_
    exact h1
  · refine execSbTimeout_canon _ _ ?_
    exact h1
  · refine execModuleAbsent_canon _ _ ?_
    exact h1
  · refine execModuleDetected_canon _ _ ?_
    exact h1
  · refine execModuleReadComplete_canon _ _ _ _ _ _ ?_
    exact h1
  · refine execDsFrameBuild_canon _ _ _ ?_
    exact h1
  · refine execPloamPost_canon _ _ _ _ _ ?_
    exact h1
  · refine execKeyControlDue_canon _ _ ?_
    exact h1
  · refine execKeyReportReceived_canon _ _ ?_
    exact h1
  · refine execKeyExchangeTimeout_canon _ _ ?_
    exact h1
  · refine execMcastLoad_canon _ _ ?_
    exact h1
  · refine execMcastActivate_canon _ _ ?_
    exact h1
  · refine execMskLoad_canon _ _ ?_
    exact h1
  · refine execRekey_canon _ _ ?_
    exact h1
  · refine execUsPloam_canon _ _ _ _ _ _ _ _ ?_
    exact h1
  · refine execOmciRequest_canon _ _ _ _ _ _ _ ?_
    exact h1
  · refine execOmciTimeout_canon _ _ _ ?_
    exact h1
  · refine execOmciRx_canon _ _ _ _ _ _ _ ?_
    exact h1
  · refine execUsCodeword_canon _ _ _ _ _ _ _ ?_
    exact h1
  · refine execUsXgemFrame_canon _ _ _ _ _ _ _ _ _ _ _ ?_
    exact h1
  · refine execReasmTimeout_canon _ _ ?_
    exact h1
  · refine execPmSecondClassify_canon _ _ ?_
    exact h1
  · refine execPmSecondCommit_canon _ _ ?_
    exact h1
  · refine execPmBinEnd_canon _ _ _ _ ?_
    exact h1
  · refine execClearPm_canon _ _ ?_
    exact h1
  · refine execXgemWriteApply_canon _ ?_
    exact h1
  · refine execXgemDelete_canon _ ?_
    exact h1
  · refine execIngressArrival_canon _ _ _ ?_
    exact h1
  · refine execPipelinePass_canon _ _ ?_
    exact h1
  · refine execRecircPass_canon _ _ ?_
    exact h1
  · refine execRuleBeatWrite_canon _ _ _ _ _ ?_
    exact h1
  · refine execRuleCommit_canon _ _ _ _ _ ?_
    exact h1
  · refine execRuleInvalidate_canon _ _ _ ?_
    exact h1
  · refine execSwap_canon _ ?_
    exact h1
  · refine execClsSwapDone_canon _ ?_
    exact h1
  · refine execIndirEntryWrite_canon _ _ _ ?_
    exact h1
  · refine execPromotionComplete_canon _ ?_
    exact h1
  · refine execLearnMessage_canon _ _ ?_
    exact h1
  · refine execQuarantineExpiry_canon _ _ _ ?_
    exact h1
  · refine execLearnFrameRx_canon _ _ _ _ _ ?_
    exact h1
  · refine execAgingPassStart_canon _ ?_
    exact h1
  · refine execAgingPassEnd_canon _ ?_
    exact h1
  · refine execFwdFind_canon _ ?_
    exact h1
  · refine execFwdAdd_canon _ ?_
    exact h1
  · refine execFwdDelete_canon _ ?_
    exact h1
  · refine execFwdFlush_canon _ ?_
    exact h1
  · refine execFwdFlushComplete_canon _ ?_
    exact h1
  · refine execAssocCommit_canon _ _ ?_
    exact h1
  · refine execAssocInvalidate_canon _ _ ?_
    exact h1
  · refine execEnqueueDecision_canon _ ?_
    exact h1
  · refine execBufAlloc_canon _ _ _ _ ?_
    exact h1
  · refine execBufHandover_canon _ _ _ _ _ ?_
    exact h1
  · refine execBufShare_canon _ _ _ _ _ _ ?_
    exact h1
  · refine execBufRelease_canon _ _ _ _ ?_
    exact h1
  · refine execBufFree_canon _ _ _ _ ?_
    exact h1
  · refine execPick_canon _ _ _ ?_
    exact h1
  · refine execSpillWriteComplete_canon _ _ _ ?_
    exact h1
  · refine execRefillReadComplete_canon _ _ _ ?_
    exact h1
  · refine execLaunchLate_canon _ _ _ ?_
    exact h1
  · refine execReplayRingExpiry_canon _ _ ?_
    exact h1
  · refine execJoinGo_canon _ ?_
    exact h1
  · refine execReplayPacket_canon _ _ ?_
    exact h1
  · refine execBurstCaptureArm_canon _ ?_
    exact h1
  · refine execGroupEnable_canon _ _ ?_
    exact h1
  · refine execGroupDisable_canon _ _ ?_
    exact h1
  · refine execGroupLanesStarted_canon _ _ ?_
    exact h1
  · refine execGroupTrained_canon _ _ ?_
    exact h1
  · refine execUplTrainFail_canon _ _ _ ?_
    exact h1
  · refine execGroupAligned_canon _ _ ?_
    exact h1
  · refine execGroupRetry_canon _ _ ?_
    exact h1
  · refine execMacRxFrame_canon _ _ _ _ _ ?_
    exact h1
  · refine execUplLinkDown_canon _ _ _ _ _ ?_
    exact h1
  · refine execOtnDefectChange_canon _ _ _ ?_
    exact h1
  · refine execTtiMultiframe_canon _ _ _ ?_
    exact h1
  · refine execGmpPeriod_canon _ _ _ _ _ _ ?_
    exact h1
  · refine execOtnPmSecond_canon _ _ _ _ _ ?_
    exact h1
  · refine execApsReceived_canon _ _ _ _ ?_
    exact h1
  · refine execProtHoldoffExpiry_canon _ _ ?_
    exact h1
  · refine execWtrExpiry_canon _ _ ?_
    exact h1
  · refine execProtCmdClear_canon _ _ ?_
    exact h1
  · refine execProtCmdLockout_canon _ _ ?_
    exact h1
  · refine execProtCmdForced_canon _ _ ?_
    exact h1
  · refine execProtCmdManual_canon _ _ ?_
    exact h1
  · refine execProtCmdExercise_canon _ _ ?_
    exact h1
  · refine execEscHoldExpiry_canon _ ?_
    exact h1
  · refine execPtpRx_canon _ _ _ _ ?_
    exact h1
  · refine execPtpAnnounceTimeout_canon _ _ ?_
    exact h1
  · refine execServoUpdate_canon _ ?_
    exact h1
  · refine execTimeStep_canon _ ?_
    exact h1
  · refine execTimeSet_canon _ _ ?_
    exact h1
  · refine execHoldoverSpecExpiry_canon _ ?_
    exact h1
  · refine execSecondBoundary_canon _ ?_
    exact h1
  · refine execPpsInEdge_canon _ _ ?_
    exact h1
  · refine execTimePpsInLost_canon _ ?_
    exact h1
  · refine execEsmcRx_canon _ _ _ ?_
    exact h1
  · refine execEsmcTimeout_canon _ _ ?_
    exact h1
  · refine execSynceWtrExpiry_canon _ _ ?_
    exact h1
  · refine execSynceFailHoldoff_canon _ ?_
    exact h1
  · refine execEsmcTx_canon _ _ ?_
    exact h1
  · refine execBeatSend_canon _ ?_
    exact h1
  · refine execBeatRx_canon _ _ _ _ _ _ _ ?_
    exact h1
  · refine execBeatLost_canon _ ?_
    exact h1
  · refine execHbInLost_canon _ _ ?_
    exact h1
  · refine execHbInPresent_canon _ _ ?_
    exact h1
  · refine execHelloRx_canon _ _ _ _ ?_
    exact h1
  · refine execSeekTimeout_canon _ ?_
    exact h1
  · refine execMirrorRx_canon _ _ _ _ ?_
    exact h1
  · refine execCommitRx_canon _ _ _ _ _ _ ?_
    exact h1
  · refine execResendRx_canon _ _ _ ?_
    exact h1
  · refine execResyncRx_canon _ _ ?_
    exact h1
  · refine execFeederRx_canon _ _ _ ?_
    exact h1
  · refine execSuspectRx_canon _ _ _ ?_
    exact h1
  · refine execMirrorConfirmTimeout_canon _ ?_
    exact h1
  · refine execStandbyMapClose_canon _ ?_
    exact h1
  · refine execMapCompare_canon _ _ _ ?_
    exact h1
  · refine execSpanCompare_canon _ _ _ _ ?_
    exact h1
  · refine execDigestMissing_canon _ _ _ ?_
    exact h1
  · refine execTwinSwitchCmd_canon _ ?_
    exact h1
  · refine execTwinForce_canon _ ?_
    exact h1
  · refine execClearSuspect_canon _ ?_
    exact h1
  · refine execTwinResyncCmd_canon _ ?_
    exact h1
  · refine execLegacyTakeover_canon _ ?_
    exact h1
  · refine execYieldRx_canon _ _ _ _ ?_
    exact h1
  · refine execTakenRx_canon _ _ _ ?_
    exact h1
  · refine execHandoverFrame_canon _ ?_
    exact h1
  · refine execLegacyDatagram_canon _ _ _ _ _ _ _ _ ?_
    exact h1
  · refine execLegacyTimeout_canon _ ?_
    exact h1
  · refine execHostReset_canon _ ?_
    exact h1
  · refine execCoreReset_canon _ _ ?_
    exact h1
  · refine execDmaTailWrite_canon _ _ _ _ ?_
    exact h1
  · refine execDmaEnable_canon _ _ _ ?_
    exact h1
  · refine execDmaRestart_canon _ _ ?_
    exact h1
  · refine execDmaDescriptorComplete_canon _ _ _ _ _ ?_
    exact h1
  · refine execIrqCauseClear_canon _ _ _ ?_
    exact h1
  · refine execMbxSend_canon _ _ _ ?_
    exact h1
  · refine execMbxRecv_canon _ _ _ ?_
    exact h1
  · refine execMbxDoneRelease_canon _ _ _ _ _ ?_
    exact h1
  · refine execMbxDoneReply_canon _ _ _ _ _ ?_
    exact h1
  · refine execMbxReply_canon _ _ _ ?_
    exact h1
  · refine execMbxFree_canon _ _ _ _ _ ?_
    exact h1
  · refine execMbxFlushedRead_canon _ _ _ ?_
    exact h1
  · refine execMbxTimeout_canon _ _ _ ?_
    exact h1
  · refine execDblRing_canon _ _ _ ?_
    exact h1
  · refine execDblPendRead_canon _ _ _ ?_
    exact h1
  · refine execLckAcquire_canon _ _ _ _ ?_
    exact h1
  · refine execLckRelease_canon _ _ _ ?_
    exact h1
  · refine execLckForce_canon _ _ _ ?_
    exact h1
  · refine execTbwWrite_canon _ _ _ ?_
    exact h1
  · refine execSpdmSessionEnd_canon _ ?_
    exact h1
  · refine execBarRegisterWrite_canon _ _ _ _ _ _ _ ?_
    exact h1
  · refine execDictRead_canon _ _ _ ?_
    exact h1
  · refine execDictWrite_canon _ _ ?_
    exact h1
  · refine execDictNext_canon _ _ ?_
    exact h1
  · refine execDictDescribe_canon _ _ ?_
    exact h1
  · refine execSecureDictRead_canon _ _ _ _ ?_
    exact h1
  · refine execSecureDictWrite_canon _ _ _ ?_
    exact h1
  · refine execSecureDictNext_canon _ _ _ ?_
    exact h1
  · refine execSecureDictDescribe_canon _ _ _ ?_
    exact h1
  · refine execDictQueuedWriteApply_canon _ ?_
    exact h1
  · refine execLeaseTake_canon _ _ ?_
    exact h1
  · refine execLeaseRenew_canon _ _ ?_
    exact h1
  · refine execLeaseRelease_canon _ _ ?_
    exact h1
  · refine execDictLeaseLapsed_canon _ ?_
    exact h1
  · refine execTxnBegin_canon _ _ ?_
    exact h1
  · refine execTxnCommit_canon _ _ ?_
    exact h1
  · refine execTxnCommitApply_canon _ ?_
    exact h1
  · refine execTxnAbort_canon _ _ ?_
    exact h1
  · refine execFactoryRestore_canon _ _ ?_
    exact h1
  · refine execJournalWrite_canon _ _ _ ?_
    exact h1
  · refine execJournalBaseWrite_canon _ _ _ ?_
    exact h1
  · refine execCalFlush_canon _ ?_
    exact h1
  · refine execVotOpen_canon _ _ _ _ _ _ ?_
    exact h1
  · refine execVotRequest_canon _ _ _ _ _ _ _ ?_
    exact h1
  · refine execVotClose_canon _ _ _ _ _ _ ?_
    exact h1
  · refine execVotIdleTimeout_canon _ ?_
    exact h1
  · refine execSessionClose_canon _ _ _ ?_
    exact h1
  · refine execMgmtAddrWrite_canon _ _ _ _ ?_
    exact h1
  · refine execImageChunk_canon _ _ _ ?_
    exact h1
  · refine execImageVerify_canon _ ?_
    exact h1
  · refine execBootPrefWrite_canon _ _ ?_
    exact h1
  · refine execImageConfirm_canon _ ?_
    exact h1
  · refine execTrialTimeout_canon _ ?_
    exact h1
  · refine execRollbackCommit_canon _ ?_
    exact h1
  · refine execLifecycleSecure_canon _ ?_
    exact h1
  · refine execLifecycleReturn_canon _ ?_
    exact h1
  · refine execLifecycleRetire_canon _ ?_
    exact h1
  · refine execDebugToken_canon _ _ ?_
    exact h1
  · refine execDebugEnd_canon _ ?_
    exact h1
  · refine execDebugExpiry_canon _ ?_
    exact h1
  · refine execTimeHwmSave_canon _ ?_
    exact h1
  · refine execSpdmGetVersion_canon _ _ ?_
    exact h1
  · refine execSpdmGetCapabilities_canon _ _ ?_
    exact h1
  · refine execSpdmNegotiateAlgorithms_canon _ _ ?_
    exact h1
  · refine execSpdmGetDigests_canon _ _ ?_
    exact h1
  · refine execSpdmGetCertificate_canon _ _ _ _ _ ?_
    exact h1
  · refine execSpdmChallenge_canon _ _ _ _ ?_
    exact h1
  · refine execSpdmGetMeasurements_canon _ _ _ _ _ ?_
    exact h1
  · refine execSpdmKeyExchange_canon _ _ _ ?_
    exact h1
  · refine execSpdmFinish_canon _ _ _ ?_
    exact h1
  · refine execSpdmHeartbeat_canon _ _ ?_
    exact h1
  · refine execSpdmHeartbeatMissed_canon _ _ ?_
    exact h1
  · refine execSpdmKeyUpdate_canon _ _ ?_
    exact h1
  · refine execSpdmEndSession_canon _ _ ?_
    exact h1
  · refine execScrubAccess_canon _ _ _ _ _ _ _ ?_
    exact h1
  · refine execScrubWriteback_canon _ _ _ ?_
    exact h1
  · refine execScrubLapEnd_canon _ _ ?_
    exact h1
  · refine execScrubWake_canon _ _ ?_
    exact h1
  · refine execInjArm_canon _ _ ?_
    exact h1
  · refine execCounterClear_canon _ _ _ _ ?_
    exact h1
  · refine execPwrThermalWarn_canon _ _ _ _ ?_
    exact h1
  · refine execThermalTrip_canon _ _ _ _ ?_
    exact h1
  · refine execBmcAlertRead_canon _ ?_
    exact h1
  · refine execSnowdropPowerOn_canon _ ?_
    exact h1
  · refine execRailRetry_canon _ ?_
    exact h1
  · refine execHelloSend_canon _ ?_
    exact h1
  · refine execPtpMessageTx_canon _ _ _ _ ?_
    exact h1
  · refine execLocalFaultExpiry_canon _ ?_
    exact h1
  · refine execLazyRecordSend_canon _ ?_
    exact h1
  · refine execTapInstruction_canon _ _ ?_
    exact h1
  · refine execArpNdEchoRx_canon _ _ ?_
    exact h1
  · refine execThermalRearm_canon _ _ ?_
    exact h1
  · refine execTripCoolDown_canon _ _ ?_
    exact h1
  · refine execLaunchTimeReached_canon _ _ _ _ ?_
    exact h1
  · refine execShaperRefill_canon _ _ _ _ _ ?_
    exact h1
  · refine execPcieL1Entry_canon _ ?_
    exact h1
  · refine execPcieWake_canon _ ?_
    exact h1

end Sys2Proof.Machine
end

