-- ==== Sys2Proof/Laws/CanonStep.lean ====
section
/-! SUPPORT. The definitions of Step keep the object store canonical. -/

namespace Sys2Proof.Machine

theorem State.withFetchWord_canon (s : State) (nbits : Nat) (w : Nat) (h0 : State.Canon (s)) :
    State.Canon (State.withFetchWord s nbits w) := by
  unfold State.withFetchWord
  split
  · refine Canon.mk_iff.mpr ?_
    refine State.Canon.od ?_
    exact h0
  · exact h0

theorem step_canon (s : State) (h0 : State.Canon (s)) :
    Res.Canon (step s) := by
  unfold step
  split
  · refine next_canon ?_
    refine State.idle_canon _ ?_
    exact h0
  · refine exec_canon _ _ ?_
    refine Canon.mk_iff.mpr ?_
    refine State.Canon.od ?_
    exact h0

end Sys2Proof.Machine
end

