-- ==== Sys2Proof/Laws/Event.lean ====
section
/-! SUPPORT. What delivering and raising an event leave alone, field by field. -/

namespace Sys2Proof.Machine

@[simp] theorem State.deliver_pending (s : State) (e : EvRec) : (s.deliver e).pending = s.pending := by
  unfold State.deliver
  simp only
  rw [foldl_keep (fun s : State => s.pending) _ (fun s i => by split <;> rfl)]
  repeat' split
  all_goals rfl

@[simp] theorem State.deliver_now (s : State) (e : EvRec) : (s.deliver e).now = s.now := by
  unfold State.deliver
  simp only
  rw [foldl_keep (fun s : State => s.now) _ (fun s i => by split <;> rfl)]
  repeat' split
  all_goals rfl

@[simp] theorem State.deliver_drawn (s : State) (e : EvRec) : (s.deliver e).drawn = s.drawn := by
  unfold State.deliver
  simp only
  rw [foldl_keep (fun s : State => s.drawn) _ (fun s i => by split <;> rfl)]
  repeat' split
  all_goals rfl

@[simp] theorem State.deliver_log (s : State) (e : EvRec) : (s.deliver e).log = s.log := by
  unfold State.deliver
  simp only
  rw [foldl_keep (fun s : State => s.log) _ (fun s i => by split <;> rfl)]
  repeat' split
  all_goals rfl

@[simp] theorem State.deliver_port (s : State) (e : EvRec) : (s.deliver e).port = s.port := by
  unfold State.deliver
  simp only
  rw [foldl_keep (fun s : State => s.port) _ (fun s i => by split <;> rfl)]
  repeat' split
  all_goals rfl

@[simp] theorem State.deliver_onu (s : State) (e : EvRec) : (s.deliver e).onu = s.onu := by
  unfold State.deliver
  simp only
  rw [foldl_keep (fun s : State => s.onu) _ (fun s i => by split <;> rfl)]
  repeat' split
  all_goals rfl

@[simp] theorem State.deliver_framer (s : State) (e : EvRec) : (s.deliver e).framer = s.framer := by
  unfold State.deliver
  simp only
  rw [foldl_keep (fun s : State => s.framer) _ (fun s i => by split <;> rfl)]
  repeat' split
  all_goals rfl

@[simp] theorem State.deliver_jpend (s : State) (e : EvRec) : (s.deliver e).jpend = s.jpend := by
  unfold State.deliver
  simp only
  rw [foldl_keep (fun s : State => s.jpend) _ (fun s i => by split <;> rfl)]
  repeat' split
  all_goals rfl

@[simp] theorem State.deliver_nonWhole (s : State) (e : EvRec) : (s.deliver e).nonWhole = s.nonWhole := by
  unfold State.deliver
  simp only
  rw [foldl_keep (fun s : State => s.nonWhole) _ (fun s i => by split <;> rfl)]
  repeat' split
  all_goals rfl

@[simp] theorem State.deliver_mapLateAt (s : State) (e : EvRec) : (s.deliver e).mapLateAt = s.mapLateAt := by
  unfold State.deliver
  simp only
  rw [foldl_keep (fun s : State => s.mapLateAt) _ (fun s i => by split <;> rfl)]
  repeat' split
  all_goals rfl

@[simp] theorem State.deliver_memUeAt (s : State) (e : EvRec) : (s.deliver e).memUeAt = s.memUeAt := by
  unfold State.deliver
  simp only
  rw [foldl_keep (fun s : State => s.memUeAt) _ (fun s i => by split <;> rfl)]
  repeat' split
  all_goals rfl

@[simp] theorem State.deliver_act (s : State) (e : EvRec) : (s.deliver e).act = s.act := by
  unfold State.deliver
  simp only
  rw [foldl_keep (fun s : State => s.act) _ (fun s i => by split <;> rfl)]
  repeat' split
  all_goals rfl

@[simp] theorem State.deliver_grant (s : State) (e : EvRec) : (s.deliver e).grant = s.grant := by
  unfold State.deliver
  simp only
  rw [foldl_keep (fun s : State => s.grant) _ (fun s i => by split <;> rfl)]
  repeat' split
  all_goals rfl

@[simp] theorem State.deliver_ctx (s : State) (e : EvRec) : (s.deliver e).ctx = s.ctx := by
  unfold State.deliver
  simp only
  rw [foldl_keep (fun s : State => s.ctx) _ (fun s i => by split <;> rfl)]
  repeat' split
  all_goals rfl

@[simp] theorem State.deliver_optics (s : State) (e : EvRec) : (s.deliver e).optics = s.optics := by
  unfold State.deliver
  simp only
  rw [foldl_keep (fun s : State => s.optics) _ (fun s i => by split <;> rfl)]
  repeat' split
  all_goals rfl

@[simp] theorem State.deliver_loops (s : State) (e : EvRec) : (s.deliver e).loops = s.loops := by
  unfold State.deliver
  simp only
  rw [foldl_keep (fun s : State => s.loops) _ (fun s i => by split <;> rfl)]
  repeat' split
  all_goals rfl

@[simp] theorem State.deliver_storeQ (s : State) (e : EvRec) : (s.deliver e).storeQ = s.storeQ := by
  unfold State.deliver
  simp only
  rw [foldl_keep (fun s : State => s.storeQ) _ (fun s i => by split <;> rfl)]
  repeat' split
  all_goals rfl

@[simp] theorem State.deliver_nextMap (s : State) (e : EvRec) : (s.deliver e).nextMap = s.nextMap := by
  unfold State.deliver
  simp only
  rw [foldl_keep (fun s : State => s.nextMap) _ (fun s i => by split <;> rfl)]
  repeat' split
  all_goals rfl

@[simp] theorem State.deliver_arb (s : State) (e : EvRec) : (s.deliver e).arb = s.arb := by
  unfold State.deliver
  simp only
  rw [foldl_keep (fun s : State => s.arb) _ (fun s i => by split <;> rfl)]
  repeat' split
  all_goals rfl

@[simp] theorem State.deliver_hintEn (s : State) (e : EvRec) : (s.deliver e).hintEn = s.hintEn := by
  unfold State.deliver
  simp only
  rw [foldl_keep (fun s : State => s.hintEn) _ (fun s i => by split <;> rfl)]
  repeat' split
  all_goals rfl

@[simp] theorem State.deliver_capFrom (s : State) (e : EvRec) : (s.deliver e).capFrom = s.capFrom := by
  unfold State.deliver
  simp only
  rw [foldl_keep (fun s : State => s.capFrom) _ (fun s i => by split <;> rfl)]
  repeat' split
  all_goals rfl

@[simp] theorem State.deliver_warmPeer (s : State) (e : EvRec) : (s.deliver e).warmPeer = s.warmPeer := by
  unfold State.deliver
  simp only
  rw [foldl_keep (fun s : State => s.warmPeer) _ (fun s i => by split <;> rfl)]
  repeat' split
  all_goals rfl

@[simp] theorem State.deliver_computeLog (s : State) (e : EvRec) : (s.deliver e).computeLog = s.computeLog := by
  unfold State.deliver
  simp only
  rw [foldl_keep (fun s : State => s.computeLog) _ (fun s i => by split <;> rfl)]
  repeat' split
  all_goals rfl

@[simp] theorem State.deliver_findSerial (s : State) (e : EvRec) : (s.deliver e).findSerial = s.findSerial := by
  unfold State.deliver
  simp only
  rw [foldl_keep (fun s : State => s.findSerial) _ (fun s i => by split <;> rfl)]
  repeat' split
  all_goals rfl

@[simp] theorem State.deliver_hintPosts (s : State) (e : EvRec) : (s.deliver e).hintPosts = s.hintPosts := by
  unfold State.deliver
  simp only
  rw [foldl_keep (fun s : State => s.hintPosts) _ (fun s i => by split <;> rfl)]
  repeat' split
  all_goals rfl

@[simp] theorem State.deliver_fr (s : State) (e : EvRec) : (s.deliver e).fr = s.fr := by
  unfold State.deliver
  simp only
  rw [foldl_keep (fun s : State => s.fr) _ (fun s i => by split <;> rfl)]
  repeat' split
  all_goals rfl

@[simp] theorem State.deliver_reasm (s : State) (e : EvRec) : (s.deliver e).reasm = s.reasm := by
  unfold State.deliver
  simp only
  rw [foldl_keep (fun s : State => s.reasm) _ (fun s i => by split <;> rfl)]
  repeat' split
  all_goals rfl

@[simp] theorem State.deliver_lag (s : State) (e : EvRec) : (s.deliver e).lag = s.lag := by
  unfold State.deliver
  simp only
  rw [foldl_keep (fun s : State => s.lag) _ (fun s i => by split <;> rfl)]
  repeat' split
  all_goals rfl

@[simp] theorem State.deliver_omciRx (s : State) (e : EvRec) : (s.deliver e).omciRx = s.omciRx := by
  unfold State.deliver
  simp only
  rw [foldl_keep (fun s : State => s.omciRx) _ (fun s i => by split <;> rfl)]
  repeat' split
  all_goals rfl

@[simp] theorem State.deliver_pipes (s : State) (e : EvRec) : (s.deliver e).pipes = s.pipes := by
  unfold State.deliver
  simp only
  rw [foldl_keep (fun s : State => s.pipes) _ (fun s i => by split <;> rfl)]
  repeat' split
  all_goals rfl

@[simp] theorem State.deliver_fwd (s : State) (e : EvRec) : (s.deliver e).fwd = s.fwd := by
  unfold State.deliver
  simp only
  rw [foldl_keep (fun s : State => s.fwd) _ (fun s i => by split <;> rfl)]
  repeat' split
  all_goals rfl

@[simp] theorem State.deliver_tm (s : State) (e : EvRec) : (s.deliver e).tm = s.tm := by
  unfold State.deliver
  simp only
  rw [foldl_keep (fun s : State => s.tm) _ (fun s i => by split <;> rfl)]
  repeat' split
  all_goals rfl

@[simp] theorem State.deliver_upl (s : State) (e : EvRec) : (s.deliver e).upl = s.upl := by
  unfold State.deliver
  simp only
  rw [foldl_keep (fun s : State => s.upl) _ (fun s i => by split <;> rfl)]
  repeat' split
  all_goals rfl

@[simp] theorem State.deliver_time (s : State) (e : EvRec) : (s.deliver e).time = s.time := by
  unfold State.deliver
  simp only
  rw [foldl_keep (fun s : State => s.time) _ (fun s i => by split <;> rfl)]
  repeat' split
  all_goals rfl

@[simp] theorem State.deliver_twin (s : State) (e : EvRec) : (s.deliver e).twin = s.twin := by
  unfold State.deliver
  simp only
  rw [foldl_keep (fun s : State => s.twin) _ (fun s i => by split <;> rfl)]
  repeat' split
  all_goals rfl

@[simp] theorem State.deliver_power (s : State) (e : EvRec) : (s.deliver e).power = s.power := by
  unfold State.deliver
  simp only
  rw [foldl_keep (fun s : State => s.power) _ (fun s i => by split <;> rfl)]
  repeat' split
  all_goals rfl

@[simp] theorem State.deliver_journal (s : State) (e : EvRec) : (s.deliver e).journal = s.journal := by
  unfold State.deliver
  simp only
  rw [foldl_keep (fun s : State => s.journal) _ (fun s i => by split <;> rfl)]
  repeat' split
  all_goals rfl

@[simp] theorem State.deliver_secu (s : State) (e : EvRec) : (s.deliver e).secu = s.secu := by
  unfold State.deliver
  simp only
  rw [foldl_keep (fun s : State => s.secu) _ (fun s i => by split <;> rfl)]
  repeat' split
  all_goals rfl

@[simp] theorem State.deliver_mem (s : State) (e : EvRec) : (s.deliver e).mem = s.mem := by
  unfold State.deliver
  simp only
  rw [foldl_keep (fun s : State => s.mem) _ (fun s i => by split <;> rfl)]
  repeat' split
  all_goals rfl

@[simp] theorem State.event_pending (s : State) (c o : Nat) (l : List (Nat × Int)) : (s.event c o l).pending = s.pending := by
  unfold State.event
  simp only [State.deliver_pending, State.emit_pending]
  split <;> rfl

@[simp] theorem State.event_now (s : State) (c o : Nat) (l : List (Nat × Int)) : (s.event c o l).now = s.now := by
  unfold State.event
  simp only [State.deliver_now, State.emit_now]
  split <;> rfl

@[simp] theorem State.event_drawn (s : State) (c o : Nat) (l : List (Nat × Int)) : (s.event c o l).drawn = s.drawn := by
  unfold State.event
  simp only [State.deliver_drawn, State.emit_drawn]
  split <;> rfl

@[simp] theorem State.event_port (s : State) (c o : Nat) (l : List (Nat × Int)) : (s.event c o l).port = s.port := by
  unfold State.event
  simp only [State.deliver_port, State.emit_port]
  split <;> rfl

@[simp] theorem State.event_onu (s : State) (c o : Nat) (l : List (Nat × Int)) : (s.event c o l).onu = s.onu := by
  unfold State.event
  simp only [State.deliver_onu, State.emit_onu]
  split <;> rfl

@[simp] theorem State.event_framer (s : State) (c o : Nat) (l : List (Nat × Int)) : (s.event c o l).framer = s.framer := by
  unfold State.event
  simp only [State.deliver_framer, State.emit_framer]
  split <;> rfl

@[simp] theorem State.event_jpend (s : State) (c o : Nat) (l : List (Nat × Int)) : (s.event c o l).jpend = s.jpend := by
  unfold State.event
  simp only [State.deliver_jpend, State.emit_jpend]
  split <;> rfl

@[simp] theorem State.event_nonWhole (s : State) (c o : Nat) (l : List (Nat × Int)) : (s.event c o l).nonWhole = s.nonWhole := by
  unfold State.event
  simp only [State.deliver_nonWhole, State.emit_nonWhole]
  split <;> rfl

@[simp] theorem State.event_mapLateAt (s : State) (c o : Nat) (l : List (Nat × Int)) : (s.event c o l).mapLateAt = s.mapLateAt := by
  unfold State.event
  simp only [State.deliver_mapLateAt, State.emit_mapLateAt]
  split <;> rfl

@[simp] theorem State.event_memUeAt (s : State) (c o : Nat) (l : List (Nat × Int)) : (s.event c o l).memUeAt = s.memUeAt := by
  unfold State.event
  simp only [State.deliver_memUeAt, State.emit_memUeAt]
  split <;> rfl

@[simp] theorem State.event_act (s : State) (c o : Nat) (l : List (Nat × Int)) : (s.event c o l).act = s.act := by
  unfold State.event
  simp only [State.deliver_act, State.emit_act]
  split <;> rfl

@[simp] theorem State.event_grant (s : State) (c o : Nat) (l : List (Nat × Int)) : (s.event c o l).grant = s.grant := by
  unfold State.event
  simp only [State.deliver_grant, State.emit_grant]
  split <;> rfl

@[simp] theorem State.event_ctx (s : State) (c o : Nat) (l : List (Nat × Int)) : (s.event c o l).ctx = s.ctx := by
  unfold State.event
  simp only [State.deliver_ctx, State.emit_ctx]
  split <;> rfl

@[simp] theorem State.event_optics (s : State) (c o : Nat) (l : List (Nat × Int)) : (s.event c o l).optics = s.optics := by
  unfold State.event
  simp only [State.deliver_optics, State.emit_optics]
  split <;> rfl

@[simp] theorem State.event_loops (s : State) (c o : Nat) (l : List (Nat × Int)) : (s.event c o l).loops = s.loops := by
  unfold State.event
  simp only [State.deliver_loops, State.emit_loops]
  split <;> rfl

@[simp] theorem State.event_storeQ (s : State) (c o : Nat) (l : List (Nat × Int)) : (s.event c o l).storeQ = s.storeQ := by
  unfold State.event
  simp only [State.deliver_storeQ, State.emit_storeQ]
  split <;> rfl

@[simp] theorem State.event_nextMap (s : State) (c o : Nat) (l : List (Nat × Int)) : (s.event c o l).nextMap = s.nextMap := by
  unfold State.event
  simp only [State.deliver_nextMap, State.emit_nextMap]
  split <;> rfl

@[simp] theorem State.event_arb (s : State) (c o : Nat) (l : List (Nat × Int)) : (s.event c o l).arb = s.arb := by
  unfold State.event
  simp only [State.deliver_arb, State.emit_arb]
  split <;> rfl

@[simp] theorem State.event_hintEn (s : State) (c o : Nat) (l : List (Nat × Int)) : (s.event c o l).hintEn = s.hintEn := by
  unfold State.event
  simp only [State.deliver_hintEn, State.emit_hintEn]
  split <;> rfl

@[simp] theorem State.event_capFrom (s : State) (c o : Nat) (l : List (Nat × Int)) : (s.event c o l).capFrom = s.capFrom := by
  unfold State.event
  simp only [State.deliver_capFrom, State.emit_capFrom]
  split <;> rfl

@[simp] theorem State.event_warmPeer (s : State) (c o : Nat) (l : List (Nat × Int)) : (s.event c o l).warmPeer = s.warmPeer := by
  unfold State.event
  simp only [State.deliver_warmPeer, State.emit_warmPeer]
  split <;> rfl

@[simp] theorem State.event_computeLog (s : State) (c o : Nat) (l : List (Nat × Int)) : (s.event c o l).computeLog = s.computeLog := by
  unfold State.event
  simp only [State.deliver_computeLog, State.emit_computeLog]
  split <;> rfl

@[simp] theorem State.event_findSerial (s : State) (c o : Nat) (l : List (Nat × Int)) : (s.event c o l).findSerial = s.findSerial := by
  unfold State.event
  simp only [State.deliver_findSerial, State.emit_findSerial]
  split <;> rfl

@[simp] theorem State.event_hintPosts (s : State) (c o : Nat) (l : List (Nat × Int)) : (s.event c o l).hintPosts = s.hintPosts := by
  unfold State.event
  simp only [State.deliver_hintPosts, State.emit_hintPosts]
  split <;> rfl

@[simp] theorem State.event_fr (s : State) (c o : Nat) (l : List (Nat × Int)) : (s.event c o l).fr = s.fr := by
  unfold State.event
  simp only [State.deliver_fr, State.emit_fr]
  split <;> rfl

@[simp] theorem State.event_reasm (s : State) (c o : Nat) (l : List (Nat × Int)) : (s.event c o l).reasm = s.reasm := by
  unfold State.event
  simp only [State.deliver_reasm, State.emit_reasm]
  split <;> rfl

@[simp] theorem State.event_lag (s : State) (c o : Nat) (l : List (Nat × Int)) : (s.event c o l).lag = s.lag := by
  unfold State.event
  simp only [State.deliver_lag, State.emit_lag]
  split <;> rfl

@[simp] theorem State.event_omciRx (s : State) (c o : Nat) (l : List (Nat × Int)) : (s.event c o l).omciRx = s.omciRx := by
  unfold State.event
  simp only [State.deliver_omciRx, State.emit_omciRx]
  split <;> rfl

@[simp] theorem State.event_pipes (s : State) (c o : Nat) (l : List (Nat × Int)) : (s.event c o l).pipes = s.pipes := by
  unfold State.event
  simp only [State.deliver_pipes, State.emit_pipes]
  split <;> rfl

@[simp] theorem State.event_fwd (s : State) (c o : Nat) (l : List (Nat × Int)) : (s.event c o l).fwd = s.fwd := by
  unfold State.event
  simp only [State.deliver_fwd, State.emit_fwd]
  split <;> rfl

@[simp] theorem State.event_tm (s : State) (c o : Nat) (l : List (Nat × Int)) : (s.event c o l).tm = s.tm := by
  unfold State.event
  simp only [State.deliver_tm, State.emit_tm]
  split <;> rfl

@[simp] theorem State.event_upl (s : State) (c o : Nat) (l : List (Nat × Int)) : (s.event c o l).upl = s.upl := by
  unfold State.event
  simp only [State.deliver_upl, State.emit_upl]
  split <;> rfl

@[simp] theorem State.event_time (s : State) (c o : Nat) (l : List (Nat × Int)) : (s.event c o l).time = s.time := by
  unfold State.event
  simp only [State.deliver_time, State.emit_time]
  split <;> rfl

@[simp] theorem State.event_twin (s : State) (c o : Nat) (l : List (Nat × Int)) : (s.event c o l).twin = s.twin := by
  unfold State.event
  simp only [State.deliver_twin, State.emit_twin]
  split <;> rfl

@[simp] theorem State.event_power (s : State) (c o : Nat) (l : List (Nat × Int)) : (s.event c o l).power = s.power := by
  unfold State.event
  simp only [State.deliver_power, State.emit_power]
  split <;> rfl

@[simp] theorem State.event_journal (s : State) (c o : Nat) (l : List (Nat × Int)) : (s.event c o l).journal = s.journal := by
  unfold State.event
  simp only [State.deliver_journal, State.emit_journal]
  split <;> rfl

@[simp] theorem State.event_secu (s : State) (c o : Nat) (l : List (Nat × Int)) : (s.event c o l).secu = s.secu := by
  unfold State.event
  simp only [State.deliver_secu, State.emit_secu]
  split <;> rfl

@[simp] theorem State.event_mem (s : State) (c o : Nat) (l : List (Nat × Int)) : (s.event c o l).mem = s.mem := by
  unfold State.event
  simp only [State.deliver_mem, State.emit_mem]
  split <;> rfl

end Sys2Proof.Machine
end

