-- ==== Sys2Proof/Laws/Frames.lean ====
section
/-! SUPPORT. What raising an event can change, as one equation, and the record that it leaves. -/

namespace Sys2Proof.Machine

theorem State.eq_of_log {s t : State} (h0 : t.pending = s.pending) (h1 : t.now = s.now) (h2 : t.drawn = s.drawn) (h3 : t.port = s.port) (h4 : t.onu = s.onu) (h5 : t.framer = s.framer) (h6 : t.jpend = s.jpend) (h7 : t.nonWhole = s.nonWhole) (h8 : t.mapLateAt = s.mapLateAt) (h9 : t.memUeAt = s.memUeAt) (h10 : t.act = s.act) (h11 : t.grant = s.grant) (h12 : t.ctx = s.ctx) (h13 : t.optics = s.optics) (h14 : t.loops = s.loops) (h15 : t.storeQ = s.storeQ) (h16 : t.nextMap = s.nextMap) (h17 : t.arb = s.arb) (h18 : t.hintEn = s.hintEn) (h19 : t.capFrom = s.capFrom) (h20 : t.warmPeer = s.warmPeer) (h21 : t.computeLog = s.computeLog) (h22 : t.findSerial = s.findSerial) (h23 : t.hintPosts = s.hintPosts) (h24 : t.fr = s.fr) (h25 : t.reasm = s.reasm) (h26 : t.lag = s.lag) (h27 : t.omciRx = s.omciRx) (h28 : t.pipes = s.pipes) (h29 : t.fwd = s.fwd) (h30 : t.tm = s.tm) (h31 : t.upl = s.upl) (h32 : t.time = s.time) (h33 : t.twin = s.twin) (h34 : t.power = s.power) (h35 : t.journal = s.journal) (h36 : t.secu = s.secu) (h37 : t.mem = s.mem) :
    t = { s with od := t.od, out := t.out, log := t.log, host := t.host, dict := t.dict } := by
  cases s; cases t; simp only at *; subst_vars; rfl

/-- An event changes objects, outputs, the log, the host's event queue and the sessions' event numbers alone. -/
theorem State.event_frame (s : State) (code source : Nat) (args : List (Nat × Int)) :
    s.event code source args = { s with
      od := (s.event code source args).od, out := (s.event code source args).out, log := (s.event code source args).log,
      host := (s.event code source args).host, dict := (s.event code source args).dict } := by
  apply State.eq_of_log <;> simp

@[simp] theorem State.event_log (s : State) (code source : Nat) (args : List (Nat × Int)) :
    (s.event code source args).log = s.log.ins (s.nat Dic.EVT_NEXT_SEQ % 65536)
      { time := s.now, seq := s.nat Dic.EVT_NEXT_SEQ, code := code, source := source, inc := s.incOf source, args := args } := by
  unfold State.event
  simp only [State.deliver_log, State.emit_log]
  split <;> rfl

/-- The record of an event raised stands in the log. -/
theorem State.raised_event (s s' : State) (code source : Nat) (args : List (Nat × Int))
    (h : s'.nat Dic.EVT_NEXT_SEQ = s.nat Dic.EVT_NEXT_SEQ) (hn : s'.now = s.now) :
    s.raised (s'.event code source args) code source args := by
  refine ⟨_, by rw [State.event_log, h, Tab.find?_ins_self], rfl, hn, rfl, rfl, rfl⟩

/-- What else happens after an event keeps its record, while the log is kept. -/
theorem State.raised_congr {s t t' : State} {code source : Nat} {args : List (Nat × Int)} (h : s.raised t code source args)
    (e : t'.log = t.log) : s.raised t' code source args := by
  obtain ⟨x, hx, hr⟩ := h
  exact ⟨x, e ▸ hx, hr⟩

theorem State.logged_event (s : State) (code source : Nat) (args : List (Nat × Int)) :
    s.logged (s.event code source args) := State.event_frame s code source args

theorem State.logged.trans {s t u : State} (h : s.logged t) (h' : t.logged u) : s.logged u := by
  unfold State.logged at *
  rw [h', h]

theorem State.logged.pending {s t : State} (h : s.logged t) : t.pending = s.pending := by unfold State.logged at h; rw [h]
theorem State.logged.now {s t : State} (h : s.logged t) : t.now = s.now := by unfold State.logged at h; rw [h]
theorem State.logged.drawn {s t : State} (h : s.logged t) : t.drawn = s.drawn := by unfold State.logged at h; rw [h]
theorem State.logged.port {s t : State} (h : s.logged t) : t.port = s.port := by unfold State.logged at h; rw [h]
theorem State.logged.onu {s t : State} (h : s.logged t) : t.onu = s.onu := by unfold State.logged at h; rw [h]
theorem State.logged.framer {s t : State} (h : s.logged t) : t.framer = s.framer := by unfold State.logged at h; rw [h]
theorem State.logged.jpend {s t : State} (h : s.logged t) : t.jpend = s.jpend := by unfold State.logged at h; rw [h]
theorem State.logged.nonWhole {s t : State} (h : s.logged t) : t.nonWhole = s.nonWhole := by unfold State.logged at h; rw [h]
theorem State.logged.mapLateAt {s t : State} (h : s.logged t) : t.mapLateAt = s.mapLateAt := by unfold State.logged at h; rw [h]
theorem State.logged.memUeAt {s t : State} (h : s.logged t) : t.memUeAt = s.memUeAt := by unfold State.logged at h; rw [h]
theorem State.logged.act {s t : State} (h : s.logged t) : t.act = s.act := by unfold State.logged at h; rw [h]
theorem State.logged.grant {s t : State} (h : s.logged t) : t.grant = s.grant := by unfold State.logged at h; rw [h]
theorem State.logged.ctx {s t : State} (h : s.logged t) : t.ctx = s.ctx := by unfold State.logged at h; rw [h]
theorem State.logged.optics {s t : State} (h : s.logged t) : t.optics = s.optics := by unfold State.logged at h; rw [h]
theorem State.logged.loops {s t : State} (h : s.logged t) : t.loops = s.loops := by unfold State.logged at h; rw [h]
theorem State.logged.storeQ {s t : State} (h : s.logged t) : t.storeQ = s.storeQ := by unfold State.logged at h; rw [h]
theorem State.logged.nextMap {s t : State} (h : s.logged t) : t.nextMap = s.nextMap := by unfold State.logged at h; rw [h]
theorem State.logged.arb {s t : State} (h : s.logged t) : t.arb = s.arb := by unfold State.logged at h; rw [h]
theorem State.logged.hintEn {s t : State} (h : s.logged t) : t.hintEn = s.hintEn := by unfold State.logged at h; rw [h]
theorem State.logged.capFrom {s t : State} (h : s.logged t) : t.capFrom = s.capFrom := by unfold State.logged at h; rw [h]
theorem State.logged.warmPeer {s t : State} (h : s.logged t) : t.warmPeer = s.warmPeer := by unfold State.logged at h; rw [h]
theorem State.logged.computeLog {s t : State} (h : s.logged t) : t.computeLog = s.computeLog := by unfold State.logged at h; rw [h]
theorem State.logged.findSerial {s t : State} (h : s.logged t) : t.findSerial = s.findSerial := by unfold State.logged at h; rw [h]
theorem State.logged.hintPosts {s t : State} (h : s.logged t) : t.hintPosts = s.hintPosts := by unfold State.logged at h; rw [h]
theorem State.logged.fr {s t : State} (h : s.logged t) : t.fr = s.fr := by unfold State.logged at h; rw [h]
theorem State.logged.reasm {s t : State} (h : s.logged t) : t.reasm = s.reasm := by unfold State.logged at h; rw [h]
theorem State.logged.lag {s t : State} (h : s.logged t) : t.lag = s.lag := by unfold State.logged at h; rw [h]
theorem State.logged.omciRx {s t : State} (h : s.logged t) : t.omciRx = s.omciRx := by unfold State.logged at h; rw [h]
theorem State.logged.pipes {s t : State} (h : s.logged t) : t.pipes = s.pipes := by unfold State.logged at h; rw [h]
theorem State.logged.fwd {s t : State} (h : s.logged t) : t.fwd = s.fwd := by unfold State.logged at h; rw [h]
theorem State.logged.tm {s t : State} (h : s.logged t) : t.tm = s.tm := by unfold State.logged at h; rw [h]
theorem State.logged.upl {s t : State} (h : s.logged t) : t.upl = s.upl := by unfold State.logged at h; rw [h]
theorem State.logged.time {s t : State} (h : s.logged t) : t.time = s.time := by unfold State.logged at h; rw [h]
theorem State.logged.twin {s t : State} (h : s.logged t) : t.twin = s.twin := by unfold State.logged at h; rw [h]
theorem State.logged.power {s t : State} (h : s.logged t) : t.power = s.power := by unfold State.logged at h; rw [h]
theorem State.logged.journal {s t : State} (h : s.logged t) : t.journal = s.journal := by unfold State.logged at h; rw [h]
theorem State.logged.secu {s t : State} (h : s.logged t) : t.secu = s.secu := by unfold State.logged at h; rw [h]
theorem State.logged.mem {s t : State} (h : s.logged t) : t.mem = s.mem := by unfold State.logged at h; rw [h]

theorem State.logged_refl (s : State) : s.logged s := rfl

theorem State.logged_put (s : State) (o : Obj) (v : Int) (i j : Nat) : s.logged (s.put o v i j) := rfl
theorem State.logged_rput (s : State) (o : Obj) (r : Nat) (v : Int) (i : Nat) : s.logged (s.rput o r v i) := rfl
theorem State.logged_bump (s : State) (o : Obj) (i j : Nat) : s.logged (s.bump o i j) := rfl
theorem State.logged_rbump (s : State) (o : Obj) (r i : Nat) : s.logged (s.rbump o r i) := rfl
theorem State.logged_emit (s : State) (x : Out) : s.logged (s.emit x) := rfl

end Sys2Proof.Machine
end

