-- ==== Sys2Proof/Laws/Start.lean ====
section
/-! SUPPORT. What a start leaves (R448, R449, R455): the objects it writes, and every other at its default. -/

namespace Sys2Proof.Machine

/-- The reports of a start write the event log and THERMAL_TRIPS alone. -/
theorem State.startEvents_find (f : State) (w : Power) (a : Addr) (he : a ∉ eventAddrs) (ht : a ≠ Sta.THERMAL_TRIPS.addr 0 0 0) :
    (f.startEvents w).od.find? a = f.od.find? a := by
  have h (g : State) : (match w.supply with | some r => g.event 0x2003 0 [a8 r] | none => g).od.find? a = g.od.find? a := by
    cases w.supply with
    | none => rfl
    | some r => exact State.event_find _ _ _ _ _ he
  unfold State.startEvents
  cases w.trip with
  | none => exact h f
  | some d =>
    dsimp only
    rw [State.event_find _ _ _ _ _ he, State.bump_find _ _ _ _ _ ht]
    exact h f

theorem State.startObjects_find (f s : State) (cause phase : Nat) (a : Addr) (h : a ∉ startAddrs) :
    (f.startObjects s cause phase).od.find? a = f.od.find? a := by
  simp only [startAddrs, List.mem_cons, List.not_mem_nil, or_false, not_or] at h
  obtain ⟨h1, h2, h3, h4, h5, h6, h7⟩ := h
  unfold State.startObjects
  rw [State.put_find _ _ _ _ _ _ h7, State.put_find _ _ _ _ _ _ h6, State.put_find _ _ _ _ _ _ h5, State.put_find _ _ _ _ _ _ h4,
    State.put_find _ _ _ _ _ _ h3, State.put_find _ _ _ _ _ _ h2, State.put_find _ _ _ _ _ _ h1]

/-- A fresh start leaves nothing listed but what no start clears, what it writes itself and the event log's objects. -/
theorem State.freshStart_find (s : State) (cause phase : Nat) (a : Addr) (hk : keptAtStart a = false) (he : a ∉ eventAddrs)
    (hs : a ∉ startAddrs) : (s.freshStart cause phase).od.find? a = none := by
  have ht : a ≠ Sta.THERMAL_TRIPS.addr 0 0 0 := by
    rintro rfl; exact absurd hk (by decide)
  unfold State.freshStart
  rw [State.startEvents_find _ _ _ he ht, State.startObjects_find _ _ _ _ _ hs]
  exact Store.find?_filter_none _ keptAtStart a hk

/-- What no start clears is still there after it. -/
theorem State.freshStart_kept (s : State) (cause phase : Nat) (a : Addr) (hk : keptAtStart a = true) (he : a ∉ eventAddrs)
    (hs : a ∉ startAddrs) (ht : a ≠ Sta.THERMAL_TRIPS.addr 0 0 0) : (s.freshStart cause phase).od.find? a = s.od.find? a := by
  unfold State.freshStart
  rw [State.startEvents_find _ _ _ he ht, State.startObjects_find _ _ _ _ _ hs]
  exact Store.find?_filter _ keptAtStart a hk

theorem State.startEvents_get (f : State) (w : Power) (o : Obj) (i j : Nat) (he : o.addr i j 0 ∉ eventAddrs)
    (ht : o.addr i j 0 ≠ Sta.THERMAL_TRIPS.addr 0 0 0) : (f.startEvents w).get o i j = f.get o i j :=
  State.get_congr (State.startEvents_find f w _ he ht)

theorem State.freshStart_cause (s : State) (cause phase : Nat) (h : cause < 256) :
    (s.freshStart cause phase).nat Sta.START_CAUSE = cause := by
  have : (s.freshStart cause phase).get Sta.START_CAUSE = Sta.START_CAUSE.ty.norm cause := by
    unfold State.freshStart
    rw [State.startEvents_get _ _ _ _ _ (by decide) (by decide)]
    unfold State.startObjects
    iterate 6 rw [State.put_get_other (h := by decide)]
    rw [State.put_get_self]
  unfold State.nat
  rw [this]
  show ((cause : Int) % 2 ^ (8 * 1)).toNat = cause
  omega

theorem State.freshStart_phase (s : State) (cause phase : Nat) (h : phase < 256) :
    (s.freshStart cause phase).nat Sta.START_PHASE = phase := by
  have : (s.freshStart cause phase).get Sta.START_PHASE = Sta.START_PHASE.ty.norm phase := by
    unfold State.freshStart
    rw [State.startEvents_get _ _ _ _ _ (by decide) (by decide)]
    unfold State.startObjects
    iterate 5 rw [State.put_get_other (h := by decide)]
    rw [State.put_get_self]
  unfold State.nat
  rw [this]
  show ((phase : Int) % 2 ^ (8 * 1)).toNat = phase
  omega

theorem State.startEvents_logged (f : State) (w : Power) : f.logged (f.startEvents w) := by
  have trip (g : State) (d : Nat × Int) :
      g.logged ((g.bump Sta.THERMAL_TRIPS).event 0x2006 0 [a8 2, a8 d.1, a32 d.2]) :=
    (State.logged_bump g Sta.THERMAL_TRIPS 0 0).trans (State.logged_event _ _ _ _)
  unfold State.startEvents
  cases w.supply with
  | none =>
    cases w.trip with
    | none => exact State.logged_refl f
    | some d => exact trip f d
  | some r =>
    have h := State.logged_event f 0x2003 0 [a8 r]
    cases w.trip with
    | none => exact h
    | some d => exact h.trans (trip _ d)

theorem State.startObjects_logged (f s : State) (cause phase : Nat) : f.logged (f.startObjects s cause phase) := by
  unfold State.startObjects
  exact (((((((State.logged_put f Sta.START_CAUSE _ 0 0).trans (State.logged_put _ Sta.START_PHASE _ 0 0)).trans
    (State.logged_put _ Sec.LIFECYCLE _ 0 0)).trans (State.logged_put _ Sec.ROLLBACK_MIN _ 0 0)).trans
    (State.logged_put _ Sec.DEBUG_LEVEL _ 0 0)).trans (State.logged_put _ Tim.SEED_VALID _ 0 0)).trans
    (State.logged_put _ Sec.TIME_HWM _ 0 0))

/-- The fields that neither objects nor events hold are those of the start's base. -/
theorem State.freshStart_logged (s : State) (cause phase : Nat) : s.startBase.logged (s.freshStart cause phase) := by
  unfold State.freshStart
  exact (State.startObjects_logged _ _ _ _).trans (State.startEvents_logged _ _)

theorem State.freshStart_power (s : State) (cause phase : Nat) : (s.freshStart cause phase).power = s.startBase.power :=
  (s.freshStart_logged cause phase).power

theorem State.freshStart_now (s : State) (cause phase : Nat) : (s.freshStart cause phase).now = s.startTime :=
  (s.freshStart_logged cause phase).now

end Sys2Proof.Machine
end

