-- ==== Sys2Proof/Tests/Helpers.lean ====
section
/-! SUPPORT. Small states for the tests and the witnesses. -/

namespace Sys2Proof.Machine

/-- A state at device time `n` whose power domain is `w`. -/
def tPower (w : Power) (n : Nat := 0) : State := { State.reset with power := w, now := n }

/-- A powered state at device time `n` in which the listed objects hold the listed values. -/
def tOn (l : List (Addr × Int) := []) (n : Nat := 0) : State :=
  { State.reset with power := { coreOn := true }, now := n, od := l.foldl (fun m e => m.ins e.1 e.2) [] }

/-- An intact control frame with these payload bytes. -/
def ctrlIn (kind sub : Nat) (body : List Nat) : CtrlIn :=
  let hd := [16 + kind, 0, 0, sub, 0, 0, 0, 0, 0, 0, 0, 0, 0, 0, 0, 0]
  { hd := hd, crc := crc32 (hd ++ body) }

theorem ctrlIn_good (kind sub : Nat) (body : List Nat) : (ctrlIn kind sub body).good kind sub body = true := by
  simp [ctrlIn, CtrlIn.good]

end Sys2Proof.Machine
end

