-- ==== Sys2Proof/Tests/Slice0.lean ====
section
/-! SUPPORT. The author's tests: a state and operands that meet the hypotheses of every clause of every statement, ill-formed
commands that are refused, and worked examples of the spec. -/

namespace Sys2Proof.Machine

set_option Elab.async false

/-! Ill-formed commands, one for each check of `Instr.wellFormed`. -/

theorem test_wf_phases :
    ([.honeycombRestore true [17], .pllDdrReady [32], .pllDdrReady [257, 0, 0, 0, 0, 0, 0, 0],
      .burstHeaderCheck 0 0 true 1024 false, .quietWindowResponse 0 0 (some (2 ^ 64)) 0 0, .registrationReceived 0 0 (2 ^ 288) 0 0,
      .coreIdleStop 0 (2 ^ 64)] :
      List Instr).all (fun i => !i.wellFormed) = true := by decide +kernel

theorem test_wf_records :
    ([.pendingTimeout 16384, .onuOperatingEntry 16384 0, .driftOffsetApply 16384 0, .driftHoldEnd 16384, .lostProbeDue 16384,
      .lostTimeout 16384, .stepEvaluation 16384, .findSerial 9 0, .findSerial 0 (2 ^ 64), .statusReport 65536 0 0,
      .usageRecord 65536 0, .coeffSetWrite 16384 0 0, .coeffSetWrite 0 0 (2 ^ 192), .coeffInvalidate 16384 1,
      .coeffInvalidate 0 0, .coeffInvalidate 0 16, .clearRxp 16384, .coeffSnapshot 16384 0, .powerFrameReceived 0 0 8 0 1,
      .powerFrameReceived 0 0 0 4096 1, .sbResponse 0 0 0 [] 256 true, .sbResponse 0 0 0 [65536] 0 true, .sbResponse 0 1 0 [0] 0 true,
      .sbResponse 0 0 1 [0] 0 true, .moduleReadComplete 0 65536 0 [] [], .moduleReadComplete 0 0 65536 [] [],
      .moduleReadComplete 0 0 0 [65536] [], .moduleReadComplete 0 0 0 [] [65536]] :
      List Instr).all (fun i => !i.wellFormed) = true := by decide +kernel

theorem test_wf_framing :
    ([.ploamPost 0 0 1024 0, .keyControlDue 16384, .keyReportReceived 16384, .keyExchangeTimeout 16384,
      .usPloam 0 0 1024 0 .other [] 0, .usPloam 0 0 0 0 .other [256] 0,
      .omciRequest 16384 0 true 0 [] 0, .omciRequest 0 0 true 65536 [] 0, .omciRequest 0 0 true 0 [256] 0, .omciTimeout 16384 0,
      .omciRx 16384 0 true 0 [] 0, .omciRx 0 0 true 65536 [] 0, .omciRx 0 0 true 0 [256] 0, .usCodeword 0 0 16384 0 0 [],
      .usXgemFrame 0 0 16384 0 0 0 0 0 false [], .usXgemFrame 0 0 0 0 16384 0 0 0 false [], .usXgemFrame 0 0 0 0 0 0 65536 0 false [],
      .usXgemFrame 0 0 0 0 0 0 0 4 false [], .usXgemFrame 0 0 0 0 0 0 0 0 false [256], .reasmTimeout 262144, .pmSecondClassify 16384, .pmSecondCommit 16384,
      .pmBinEnd 16384 false none, .clearPm 16384] : List Instr).all (fun i => !i.wellFormed) = true := by decide +kernel

theorem test_wf_packets :
    ([.ruleBeatWrite 0 65536 0 0, .ruleBeatWrite 0 0 0 (2 ^ 256), .ruleCommit 0 65536 0 0, .ruleCommit 0 0 (2 ^ 128) 0,
      .ruleCommit 0 0 0 65536, .ruleInvalidate 0 65536, .indirEntryWrite 8192 0, .indirEntryWrite 0 (2 ^ 32),
      .quarantineExpiry 0 0, .quarantineExpiry 5 0, .quarantineExpiry 1 (2 ^ 128), .ingressArrival 0 (some [256]),
      .learnFrameRx (ctrlIn 5 0 []) 0 (2 ^ 128) 0, .learnFrameRx (ctrlIn 6 0 []) 0 0 0, .learnFrameRx { hd := [21] } 0 0 0,
      .assocCommit 65536, .assocInvalidate 65536, .bufAlloc 11 [] [], .bufAlloc 0 [2] [], .bufAlloc 0 [] [(2, 0)],
      .bufAlloc 0 [] [(1, 2 ^ 64)], .bufHandover 2 0 1 [], .bufHandover 1 (2 ^ 64) 1 [], .bufHandover 1 0 2 [], .bufHandover 1 0 1 [(2, .free)],
      .bufShare 2 0 0 1 [], .bufShare 1 (2 ^ 64) 0 1 [], .bufShare 1 0 65536 1 [], .bufShare 1 0 0 2 [], .bufShare 1 0 0 1 [(1, .handover 2)],
      .bufRelease 2 0 [], .bufRelease 1 (2 ^ 64) [], .bufRelease 1 0 [(1, .share 65536 1)], .bufFree 2 0 [], .bufFree 1 (2 ^ 64) [],
      .bufFree 1 0 [(1, .share 0 2)], .pick 0 130, .pick 1 34,
      .spillWriteComplete 0 262144, .refillReadComplete 0 262144, .launchLate 0 262144, .replayRingExpiry 65536,
      .replayPacket 256, .launchTimeReached 0 262144 true, .shaperRefill 0 true 262144 true] :
      List Instr).all (fun i => !i.wellFormed) = true := by decide +kernel

theorem test_wf_network :
    ([.macRxFrame 0 [256] true false, .otnDefectChange 8 (.payload 256), .otnDefectChange 0 (.payload 0), .otnPmSecond 0 1 [0] [], .otnPmSecond 0 1 [9] [],
      .otnPmSecond 0 1 [1, 1] [], .otnPmSecond 0 1 [] [16], .otnPmSecond 0 1 [] [0, 0], .ttiMultiframe 0 (2 ^ 512), .ptpRx 0 [256] 0, .timeSet timeMod, .commitRx (ctrlIn 2 0 []) (2 ^ 32) 0 0 0, .commitRx {} 0 0 0 0,
      .resendRx (ctrlIn 4 5 []) (2 ^ 32), .resendRx (ctrlIn 4 6 []) 0, .beatRx {} 0 0 0 0 0, .helloRx {} {} true, .mirrorRx (ctrlIn 1 2 []) false [],
      .mirrorRx (ctrlIn 1 1 []) true [], .resyncRx {}, .feederRx { hd := (ctrlIn 4 4 []).hd, crc := 2 ^ 32 } [], .suspectRx {} 0, .yieldRx {} 0 0, .takenRx {} 0, .mapCompare (2 ^ 32) [], .spanCompare (2 ^ 32) [] [], .digestMissing true (2 ^ 32),
      .yieldRx (ctrlIn 4 2 []) (2 ^ 32) 0, .takenRx (ctrlIn 4 3 []) (2 ^ 32), .legacyDatagram 65536 0 0 0 0 0 [], .legacyDatagram 0 (2 ^ 128) 0 0 0 0 [],
      .legacyDatagram 0 0 0 (2 ^ 32) 0 0 [], .legacyDatagram 0 0 0 0 (2 ^ 32) 0 [], .legacyDatagram 0 0 0 0 0 (2 ^ 32) [], .legacyDatagram 0 0 0 0 0 0 [256]] :
      List Instr).all (fun i => !i.wellFormed) = true := by decide +kernel

theorem test_wf_host :
    ([.dmaTailWrite 0 (2 ^ 32) [], .dmaDescriptorComplete 0 0 19 0, .dmaDescriptorComplete 0 0 0 (2 ^ 64),
      .irqCauseClear 0 (2 ^ 32), .mbxSend 0 [2], .mbxRecv 0 2, .mbxDoneRelease 0 0 2 [], .mbxDoneReply 0 0 2 [], .mbxReply 0 2,
      .mbxFree 0 0 2 [], .mbxDoneRelease 0 0 1 [(2, .free)], .mbxDoneReply 0 0 1 [(2, .free)], .mbxFree 0 0 1 [(2, .free)], .mbxFlushedRead 0 2, .dblRing 0 [(2, 0)], .dblRing 0 [(1, 2 ^ 32)], .dblPendRead 0 2, .lckAcquire 0 [2] [], .lckAcquire 0 [] [2],
      .lckRelease 0 2, .lckForce 2 0, .lckForce 1 (2 ^ 32), .tbwWrite (2 ^ 30) [0], .tbwWrite 0 [256],
      .barRegisterWrite false 2 0 4 0 [], .barRegisterWrite true 1 4096 4 0 [], .barRegisterWrite false 1 (2 ^ 26) 4 0 [],
      .barRegisterWrite false 1 0 8 (2 ^ 64) []] : List Instr).all (fun i => !i.wellFormed) = true := by decide +kernel

theorem test_wf_requests :
    ([.dictRead { op := 256 } none, .dictRead { flags := 256 } none, .dictRead { index := 65536 } none,
      .dictRead { sub := 256 } none, .dictRead { rsv := 256 } none, .dictRead { offset := 65536 } none,
      .dictRead { rcd := 2 ^ 32 } none, .dictRead { length := 65536 } none, .dictRead { token := 65536 } none,
      .dictRead { data := [256] } none, .dictRead { data := List.replicate 41 0 } none, .dictRead {} (some (19, 0)),
      .dictRead {} (some (0, 2 ^ 64)), .dictWrite { op := 256 }, .dictWrite { data := List.replicate 41 0 },
      .dictNext { op := 256 }, .dictNext { data := List.replicate 41 0 }, .dictDescribe { op := 256 },
      .dictDescribe { data := List.replicate 41 0 }, .secureDictRead true { op := 256 } none,
      .secureDictRead true { data := List.replicate 41 0 } none, .secureDictRead true {} (some (19, 0)),
      .secureDictRead true {} (some (0, 2 ^ 64)), .secureDictWrite true { op := 256 },
      .secureDictWrite true { data := List.replicate 41 0 }, .secureDictNext true { op := 256 },
      .secureDictNext true { data := List.replicate 41 0 }, .secureDictDescribe true { op := 256 },
      .secureDictDescribe true { data := List.replicate 41 0 }] : List Instr).all (fun i => !i.wellFormed) = true := by decide +kernel

theorem test_wf_management :
    ([.journalWrite true 101, .votOpen (2 ^ 128) 0 0 0 [], .votOpen 0 65536 0 0 [], .votOpen 0 0 (2 ^ 128) 0 [], .votOpen 0 0 0 65536 [],
      .votOpen 0 0 0 0 [256], .votRequest (2 ^ 128) 0 0 0 [] none, .votRequest 0 65536 0 0 [] none, .votRequest 0 0 (2 ^ 128) 0 [] none,
      .votRequest 0 0 0 65536 [] none, .votRequest 0 0 0 0 [256] none, .votRequest 0 0 0 0 [] (some (19, 0)),
      .votRequest 0 0 0 0 [] (some (0, 2 ^ 64)), .votClose (2 ^ 128) 0 0 0 [], .votClose 0 65536 0 0 [], .votClose 0 0 (2 ^ 128) 0 [],
      .votClose 0 0 0 65536 [], .votClose 0 0 0 0 [256],
      .mgmtAddrWrite 0 0 (2 ^ 128), .imageChunk (2 ^ 32) 0, .imageChunk 0 (2 ^ 8192), .bootPrefWrite 256, .debugToken [256],
      .spdmGetCertificate 0 8 0 0, .spdmGetCertificate 0 0 65536 0, .spdmGetCertificate 0 0 0 65536, .spdmChallenge 0 8 0,
      .spdmChallenge 0 0 (2 ^ 256), .spdmGetMeasurements 0 256 false 0, .spdmGetMeasurements 0 0 false (2 ^ 256),
      .spdmKeyExchange 0 (2 ^ 256), .scrubAccess 0 (2 ^ 64) 0 0 0 .scrub, .scrubAccess 2 0 0 0 0 .scrub, .scrubAccess 7 0 0 0 0 .scrub, .scrubAccess 3 0 0 0 0 (.fetch 0 0),
      .scrubAccess 0 0 1 65 0 .scrub, .scrubAccess 0 0 1 1 256 .scrub, .scrubWriteback 0 (some (2 ^ 64)), .counterClear 65536 0 0,
      .counterClear 0 256 0, .counterClear 0 0 (2 ^ 32), .arpNdEchoRx [256]] :
      List Instr).all (fun i => !i.wellFormed) = true := by decide +kernel

/-! Worked examples of the spec. -/

/-- The example of R134: tap 4 merges from -12 and -17 to -14, the phase from 120 and 6 to 127. -/
theorem test_mergeSet_example :
    fieldVal (mergeSet (244 * 2 ^ 56 + 120 * 2 ^ 10) (239 * 2 ^ 56 + 6 * 2 ^ 10) 1) 63 56 true = -14 ∧
    bits (mergeSet (244 * 2 ^ 56 + 120 * 2 ^ 10) (239 * 2 ^ 56 + 6 * 2 ^ 10) 1) 16 10 = 127 := by decide +kernel

/-- The same example: an EqD lowered by 2,093 ps moves a phase at 12.4416 Gb/s from 127 to 122. -/
theorem test_shiftPhases_example :
    bits (((tOn [(Coef.VALID.addr 0 0 55, 1), ((coefSet 0).addr 0 0 55, 127 * 1024)]).shiftPhases 55 2093).rnat (coefSet 0) 55) 16 10 = 122 := by
  decide +kernel

/-- The example after Table 7-4: a PPPoE length of 1,500 with 42 bytes left ends the parse with status 3, subtype 4, h = 4. -/
theorem test_parse_example :
    (let x := parsePacket (tOn []).parseCfg
        ([1, 2, 3, 4, 5, 6, 7, 8, 9, 10, 11, 12, 0x88, 0xA8, 0, 100, 0x81, 0, 0, 203, 0x88, 0x64, 0x11, 0, 0x1A, 0x2B, 5, 0xDC, 0, 0x21] ++
          List.replicate 40 0)
     (x.f.status, x.f.subtype, x.h, x.f.tagCount, x.f.etype, x.f.pppoeSid, x.f.pppProto)) = (3, 4, 4, 2, 0x8864, 0x1A2B, 0x21) := by
  decide +kernel

/-- Table 9-10 at 70 µs: policer 77 with Tc 250 and Tp 11,000 bytes at 60 µs colours 1,500 bytes yellow. -/
theorem test_police_example :
    (let s := tOn [(Pol.CIR_KBPS.addr 0 0 77, 100000), (Pol.PIR_KBPS.addr 0 0 77, 200000), (Pol.CBS_BYTES.addr 0 0 77, 10000),
        (Pol.PBS_BYTES.addr 0 0 77, 20000)] 70000
     (({ s with tm := { s.tm with policers := [(77, (250 * tokByte, 11000 * tokByte, 60000))] } } : State).police 77 1500 0).1) = 1 := by
  decide +kernel

/-- Table 10-4 at 8.2 µs: 504 after 505 passes out of order; at 0 µs the second copy of 500 is discarded. -/
theorem test_recover_example :
    (let s := tOn [(Rcvy.RESET_MS.addr 0 0 12, 1000), (Rcvy.RCVY_SEQ.addr 0 0 12, 505)] 8200
     ((({ s with upl := { s.upl with rcvy := [(12, { takeAny := false, hist := 9, lastAccept := 8000 })] } } : State).recover 12 504).1,
      (({ s with upl := { s.upl with rcvy := [(12, { takeAny := false, hist := 9, lastAccept := 8000 })] } } : State).recover 12 505).1)) =
      (true, false) := by decide +kernel

/-- The example of R306: the bytes of TOD_INFO from frame 13,600,000,024,000 with a delay of 4,250 ps. -/
theorem test_tod_example :
    leBytes 14 ((tOn []).todOf 13600000024000 4250) = [0x7F, 0x2B, 0x9D, 0xC0, 0, 0, 0x65, 0x53, 0xF1, 3, 0, 0, 0, 4] := by
  decide +kernel

/-- The example of R78: RTD of 67,214,300 ps and TEQD_US of 250 give an EqD of 182,785,700 ps. -/
theorem test_eqd_example : (tOn [(ActCfg.TEQD_US.addr 5 0 0, 250)]).teqd 5 - 67214300 = 182785700 := by decide +kernel

/-- R16: a clear answers and leaves 0. -/
theorem test_counterClear :
    (match exec (.counterClear 0x9800 0xFF 0) (tOn [(Mem.CE_TOTAL.addr 0 0 0, 7)]) with
     | .next t => (t.nat Mem.CE_TOTAL, t.out) | _ => (1, [])) = (0, [.result 0x9800 0xFF 0 0]) := by decide +kernel

/-- R458: power-up starts with PWR_EN_A. -/
theorem test_powerOn :
    (match exec .snowdropPowerOn State.reset with | .next t => t.power.enA | _ => false) = true := by decide +kernel

/-- The block idles one nanosecond on an empty queue (the model's choice, log entry 3). -/
theorem test_idle : (match step State.reset with | .next t => t.now | _ => 0) = 1 := by decide +kernel

/-! Witnesses: each clause of a statement with hypotheses holds of something. -/

def wCounterArithmetic0 : State :=
  tOn [(Dic.LEASE_LAPSES.addr 0 0 0, 4294967290)]
def wAutomaticRecord0 : State :=
  { tOn [(Pon.STATE.addr 17 1 0, 3), (ActCfg.AUTH_MODE.addr 17 0 0, 1), (FrCfg.PLOAM_MIC_CHECK.addr 17 0 0, 0), ((marker 0x4200).addr 0 0 8704, 1)] 900000 with port := [(35, { bursts := [{ n := { start := 5000000, stop := 9000000, quiet := true }, started := true }] })], act := [(35, { quiets := [(5000000, 4900000)] })] }
def wSupplySequence4 : State :=
  tPower { enA := true } 10009
def wSupplySequence5 : State :=
  tPower { enA := true } 10008
def wSupplySequence6 : State :=
  { tOn [(Sta.THERMAL_TRIPS.addr 0 0 0, 5), (Pol.CIR_KBPS.addr 0 0 3, 77)] 15000 with journal := { hwm := 9, cal := [(Pol.CIR_KBPS.addr 0 0 3, 77)] } }
def wStarts0 : State :=
  tOn [] 1009
def wStarts1 : State :=
  tOn [] 1008
def wStarts4 : State :=
  tOn [(Sta.START_PHASE.addr 0 0 0, 4), (Sta.PHASE_END_MS.addr 0 2 0, 5)] 15000000
def wPowerStates4 : State :=
  tOn [(Pwr.POWER_STATE.addr 0 0 0, 1), (Pwr.TRIM_AUTO.addr 0 0 0, 1)] 10000005
def wPowerStates5 : State :=
  tOn [(Pwr.POWER_STATE.addr 0 0 0, 1), (Pwr.TRIM_AUTO.addr 0 0 0, 1)] 10000004
def wPowerStates6 : State :=
  tOn [(Pwr.POWER_STATE.addr 0 0 0, 2), (Pwr.TRIM_AUTO.addr 0 0 0, 1), (Pwr.TRIM_EXIT_S.addr 0 0 0, 2)] 2000000005
def wPowerStates7 : State :=
  tOn [(Pwr.POWER_STATE.addr 0 0 0, 2), (Pwr.TRIM_AUTO.addr 0 0 0, 1), (Pwr.TRIM_EXIT_S.addr 0 0 0, 2)] 2000000004
def wPowerStates8 : State :=
  { tOn [(Pwr.TRIM_UPLINKS.addr 0 0 0, 255)] 125000 with power := { coreOn := true, trans := 1, transAt := 5 } }
def wPowerStates9 : State :=
  tPower { coreOn := true, trans := 1, trim := true } 125000
def wPowerStatesMore0 : State :=
  { tOn [(Pwr.WAKE_MASK.addr 0 0 0, 7)] 1000009 with power := { coreOn := true, trans := 3 } }
def wPowerStatesMore1 : State :=
  { tOn [(Pwr.WAKE_MASK.addr 0 0 0, 7)] 1000009 with power := { st := 3 } }
def wPowerStatesMore2 : State :=
  { tOn [(Pwr.WAKE_MASK.addr 0 0 0, 7)] 1000008 with power := { st := 3 } }
def wPowerStatesMore4 : State :=
  tOn [(Sta.TJ_WARN_C.addr 0 0 0, 100)] 1000000005
def wPowerStatesMore5 : State :=
  tOn [(Sta.TJ_WARN_C.addr 0 0 0, 100)] 1000000004
def wPowerStatesMore13 : State :=
  { tOn [] 100005 with host := { coreIrqAt := [(3, 5)] } }
def wPowerStatesMore14 : State :=
  { tOn [(Pwr.CH_FITTED.addr 0 0 0, 255)] 10000007 with mem := { access := [(7, 7)], lap := [6] } }
def wPowerStatesMore15 : State :=
  { tOn [(Pwr.CH_FITTED.addr 0 0 0, 255)] 10000006 with mem := { access := [(7, 7)] } }
def wPowerStatesMore16 : State :=
  { tOn [] 5000 with mem := { asleep := [(3, 5)], waking := [3, 4] } }
def wStartPhases0 : State :=
  tOn [(Sta.START_PHASE.addr 0 0 0, 2)]
def wStartPhases1 : State :=
  tOn [(Sta.START_PHASE.addr 0 0 0, 3)]
def wStartPhases2 : State :=
  { tOn [(Sta.START_PHASE.addr 0 0 0, 3)] with journal := { present := true, version := 0x0203, image := [(Pon.LOS_FRAMES.addr 0 0 0, 9)] } }
def wStartPhases3 : State :=
  tOn [(Sta.START_PHASE.addr 0 0 0, 4)]
def wStartPhases4 : State :=
  { tOn [(Sta.WAVE_MIN_MS.addr 0 0 0, 0), (Sta.WAVE_TEC_A.addr 0 0 0, 40), (Pon.CH_CMD.addr 9 1 0, 3), (Pon.MODULE_PRESENT.addr 9 0 0, 1), (Pon.C1_FITTED.addr 9 0 0, 1)] with power := { coreOn := true, waves := 1 } }
def wStartPhases5 : State :=
  { tOn [(Sta.START_PHASE.addr 0 0 0, 5)] with power := { coreOn := true, waves := 8 } }
def wChannelTargets0 : State :=
  tOn [(Pon.STATE.addr 9 1 0, 3), (Pon.CH_CMD.addr 9 1 0, 3)]
def wChannelTargets1 : State :=
  tOn [(Pon.STATE.addr 9 1 0, 4), (Pon.FAULT_CAUSE.addr 9 1 0, 3)]
def wChannelTargets2 : State :=
  tOn [(Pon.STATE.addr 63 0 0, 3), (Pon.CH_CMD.addr 63 0 0, 3)]
def wChannelTargets3 : State :=
  tOn [(Pwr.POWER_STATE.addr 0 0 0, 1), (Pon.STATE.addr 63 0 0, 2), (Pon.CH_CMD.addr 63 0 0, 2)] 77
def wChannelTargets4 : State :=
  tOn [(Pon.STATE.addr 63 0 0, 4)]
def wChannelTargets5 : State :=
  { tOn [(Pon.TEST_MODE.addr 9 0 0, 2)] with port := [(19, { testing := true })] }
def wChannelTargets6 : State :=
  tOn [(Pon.STATE.addr 9 1 0, 2), (Twin.TWIN_ENABLE.addr 0 0 0, 1), (Twin.TWIN_PORTS.addr 0 0 0, 512), (Twin.STATE.addr 0 0 0, 5)]
def wChannelTransitions0 : State :=
  { tOn [(Pwr.POWER_STATE.addr 0 0 0, 1), (Pon.STATE.addr 17 0 0, 3), (Pon.CH_CMD.addr 17 0 0, 2), ((marker 0x4200).addr 0 0 8704, 1), (Onu.PORT.addr 0 0 8704, 17)] with port := [(34, { pend := true, laser := true, squelch := false })] }
def wChannelTransitions1 : State :=
  { tOn [(Pon.STATE.addr 17 0 0, 3), ((marker 0x4200).addr 0 0 8704, 1), (Onu.PORT.addr 0 0 8704, 17), (Onu.STATE.addr 0 0 8704, 5)] with port := [(34, { pend := true, laser := true, squelch := false, bursts := [{}] })] }
def wChannelTransitions2 : State :=
  tOn [(Pon.STATE.addr 17 0 0, 3)]
def wChannelTransitions3 : State :=
  tOn [(Pon.STATE.addr 17 0 0, 1)] 900000000000
def wChannelTransitions5 : State :=
  tOn [(Pwr.PLL_LOCKED.addr 0 0 0, 127), (Pon.STATE.addr 17 0 0, 3), (Pon.STATE.addr 17 1 0, 1), (Pon.STATE.addr 40 1 0, 1)]
def wChannelTransitions6 : State :=
  tOn [(Pon.TEST_CHANNEL.addr 9 0 0, 1), (Pon.STATE.addr 9 0 0, 3)]
def wChannelTransitions7 : State :=
  tOn [(Pon.TEST_CHANNEL.addr 9 0 0, 1), (Pon.STATE.addr 9 1 0, 3)]
def wChannelTransitions8 : State :=
  { tOn [(Pon.TEST_CHANNEL.addr 9 0 0, 1), (Pon.TEST_MODE.addr 9 0 0, 2), (Pon.PRBS_ERRORS.addr 9 0 0, 4294967290)] with port := [(19, { rxClk := true, testing := true })] }
def wBurstReception0 : State :=
  { tOn [] 1000 with grant := [(34, { toIssue := [{ onu := 7, start := 1300000 }, { onu := 8, start := 2300000 }] })] }
def wBurstReception1 : State :=
  { tOn [(Pon.STATE.addr 17 0 0, 3)] 1000 with port := [(34, { link := [{ onu := 7, start := 1300000, stop := 1400000 }] })] }
def wBurstReception2 : State :=
  { tOn [(Pon.STATE.addr 17 0 0, 1), (Pon.NOTICE_DISCARD.addr 17 0 0, 4294967295)] 1000 with port := [(34, { link := [{ onu := 7, start := 1300000, stop := 1400000 }] })] }
def wBurstReception3 : State :=
  { tOn [(Pon.DEF_12G.addr 33 0 0, 12345)] with port := [(66, { bursts := [{ slot := true, dflt := 77 }] })], arb := [(1, 99)] }
def wBurstReception4 : State :=
  { tOn [] with port := [(35, { bursts := [{ n := { start := 5000000 }, slot := true, loaded := some 9, fromStore := true }] })] }
def wBurstReception5 : State :=
  { tOn [] with port := [(35, { bursts := [{ n := { start := 5000000, quiet := true }, loaded := some 1025 }] })], act := [(35, { winSerials := [5] })] }
def wBurstReception6 : State :=
  { tOn [] with port := [(35, { bursts := [{ n := { start := 5000000 } }] })] }
def wBurstReception7 : State :=
  { tOn [(Pon.WINDOW_NS.addr 17 1 0, 100)] with port := [(35, { lolRun := 3, bursts := [{ n := { start := 5000000 }, started := true, slot := true }] })] }
def wBurstReception10 : State :=
  { tOn [(Pon.WINDOW_NS.addr 17 1 0, 100)] 9000 with port := [(35, { bursts := [{ n := { start := 5000000 }, started := true, slot := true }] })] }
def wBurstReception11 : State :=
  { tOn [(Pon.WINDOW_NS.addr 17 1 0, 100)] 9000 with port := [(35, { bursts := [{ n := { start := 5000000 }, started := true, slot := true, delim := some (6300000, 1) }] })] }
def wBurstReception12 : State :=
  { tOn [] 9000 with port := [(35, { bursts := [{ n := { start := 5000000 }, started := true, slot := true, outcome := .received }] })] }
def wBurstReception13 : State :=
  { tOn [] 9000 with port := [(35, { rxClk := true, lastEnd := 8984000 })] }
def wBurstReception14 : State :=
  { tOn [] 9000 with port := [(35, { bursts := [{ n := { onu := 3, start := 5000000 }, started := true, slot := true, outcome := .received }] })] }
def wPortDetectors0 : State :=
  { tOn [] 900000 with port := [(35, { losRun := 3, frames := [(2, { notified := 2, dark := 2, done := 2 }), (3, {})] })] }
def wPortDetectors1 : State :=
  { tOn [(Pon.LOS.addr 17 1 0, 1)] 900000 with port := [(35, { losClearRun := 30, frames := [(2, { notified := 2, dark := 1, done := 2 }), (3, {})] })] }
def wPortDetectors2 : State :=
  { tOn [(ActCfg.ROGUE_ISOLATE.addr 17 0 0, 0)] 900000 with port := [(35, { unexpRun := 2, opens := [(750100000, 750200000)] })] }
def wPortDetectors3 : State :=
  { tOn [(Pon.UNEXP_LIGHT.addr 17 1 0, 1)] 900000 with port := [(35, { unexpClearRun := 2, opens := [(750100000, 750200000)] })] }
def wDiscovery0 : State :=
  tOn [(Pon.STATE.addr 17 1 0, 3), (ActCfg.DISC_PERIOD_MS.addr 17 0 0, 50), (ActCfg.DISC_FAST_S.addr 17 0 0, 0)] 900000
def wDiscovery1 : State :=
  { tOn [(Pon.STATE.addr 17 1 0, 3), (ActCfg.AUTH_MODE.addr 17 0 0, 0), (FrCfg.PLOAM_MIC_CHECK.addr 17 0 0, 0)] 900000 with port := [(35, { bursts := [{ n := { start := 5000000, stop := 9000000, quiet := true }, started := true }] })], act := [(35, { quiets := [(5000000, 4900000)] })] }
def wDiscovery2 : State :=
  { tOn [(Pon.STATE.addr 17 1 0, 3)] 900000 with port := [(35, { bursts := [{ n := { start := 5000000, stop := 9000000, quiet := true }, started := true }] })], act := [(35, { quiets := [(5000000, 4900000)] })] }
def wDiscovery4 : State :=
  { tOn [((marker 0x4200).addr 0 0 8704, 1), (Onu.PORT.addr 0 0 8704, 17), (Onu.CHANNEL.addr 0 0 8704, 1), (Onu.STATE.addr 0 0 8704, 1), (Pon.STATE.addr 17 1 0, 3), (ActDev.RECORDS.addr 0 0 0, 1)] 90000000000000 with onu := [(8704, { since := 5 })] }
def wDiscovery5 : State :=
  { tOn [(Pon.STATE.addr 17 1 0, 3), ((marker 0x4200).addr 0 0 8704, 1), (Onu.PORT.addr 0 0 8704, 17), (Onu.CHANNEL.addr 0 0 8704, 1), (Onu.STATE.addr 0 0 8704, 4), (FrCfg.PLOAM_MIC_CHECK.addr 17 0 0, 0), (ActCfg.TEQD_US.addr 17 0 0, 250)] 90000000000000 with onu := [(8704, { rangePhase := 2, fresh := true })], port := [(35, { bursts := [{ n := { start := 5000000, stop := 900000000, quiet := true }, started := true }] })], act := [(35, { ranging := [(8704, 4900000)] })] }
def wDiscovery6 : State :=
  { tOn [(Pon.STATE.addr 17 1 0, 3), ((marker 0x4200).addr 0 0 8704, 1), (Onu.PORT.addr 0 0 8704, 17), (Onu.CHANNEL.addr 0 0 8704, 1), (Onu.STATE.addr 0 0 8704, 4), (FrCfg.PLOAM_MIC_CHECK.addr 17 0 0, 0), (Onu.REG_ID.addr 0 0 8704, 6)] 90000000000000 with onu := [(8704, { rangePhase := 2, fresh := true })], port := [(35, { bursts := [{ n := { start := 5000000, stop := 900000000, quiet := true }, started := true }] })], act := [(35, { ranging := [(8704, 4900000)] })] }
def wDiscovery7 : State :=
  { tOn [(Pon.STATE.addr 17 1 0, 3), ((marker 0x4200).addr 0 0 8704, 1), (Onu.PORT.addr 0 0 8704, 17), (Onu.CHANNEL.addr 0 0 8704, 1), (Onu.STATE.addr 0 0 8704, 4)] 90000000000000 with onu := [(8704, { rangePhase := 2, fresh := true, attempts := 2 })], act := [(35, { ranging := [(8704, 4900000)] })] }
def wDiscovery8 : State :=
  { tOn [(Pon.STATE.addr 17 1 0, 3), ((marker 0x4200).addr 0 0 8704, 1), (Onu.PORT.addr 0 0 8704, 17), (Onu.CHANNEL.addr 0 0 8704, 1), (Onu.STATE.addr 0 0 8704, 4)] 90000000000000 with onu := [(8704, { rangePhase := 3, awaiting := [77], heldOffsets := [(77, -5)] })] }
def wOnuSupervision0 : State :=
  { tOn [((marker 0x4200).addr 0 0 8704, 1), (Onu.PORT.addr 0 0 8704, 17), (Onu.CHANNEL.addr 0 0 8704, 1), (Onu.STATE.addr 0 0 8704, 5), (Onu.ONU_ID.addr 0 0 8704, 9)] with port := [(35, { posts := [.offset 9 3 700 (-4), .unexpLight] })] }
def wOnuSupervision1 : State :=
  { tOn [((marker 0x4200).addr 0 0 8704, 1), (Onu.PORT.addr 0 0 8704, 17), (Onu.CHANNEL.addr 0 0 8704, 1), (Onu.STATE.addr 0 0 8704, 5), (Onu.DRIFT_PS.addr 0 0 8704, 100), (Pon.STATE.addr 17 1 0, 2)] with onu := [(8704, { seedNext := false, heldOffsets := [(77, -505)] })] }
def wOnuSupervision2 : State :=
  { tOn [((marker 0x4200).addr 0 0 8704, 1), (Onu.PORT.addr 0 0 8704, 17), (Onu.CHANNEL.addr 0 0 8704, 1), (Onu.STATE.addr 0 0 8704, 5), (Onu.EQD_PS.addr 0 0 8704, 1000000), (Onu.DRIFT_PS.addr 0 0 8704, 100), (Pon.STATE.addr 17 1 0, 3), (ActCfg.TEQD_US.addr 17 0 0, 250), (ActCfg.DRIFT_ALARM_PS.addr 17 0 0, 400)] with onu := [(8704, { seedNext := false, heldOffsets := [(77, -505)] })] }
def wOnuSupervision3 : State :=
  { tOn [] 900000 with onu := [(8704, { holdUntil := some 7 })] }
def wOnuSupervision4 : State :=
  { tOn [((marker 0x4200).addr 0 0 8704, 1), (Onu.PORT.addr 0 0 8704, 17), (Onu.CHANNEL.addr 0 0 8704, 1), (Onu.STATE.addr 0 0 8704, 5), (Onu.ONU_ID.addr 0 0 8704, 9), (Pon.STATE.addr 17 1 0, 3)] with port := [(35, { posts := [.lost 9 3 700 false, .unexpLight] })], onu := [(8704, { darkRun := 200 })] }
def wOnuSupervision5 : State :=
  { tOn [((marker 0x4200).addr 0 0 8704, 1), (Onu.PORT.addr 0 0 8704, 17), (Onu.CHANNEL.addr 0 0 8704, 1), (Onu.STATE.addr 0 0 8704, 5), (Onu.ONU_ID.addr 0 0 8704, 9)] with port := [(35, { posts := [.wrongSource 3 9 700] })], onu := [(8704, { rogueCount := 15 })] }
def wOnuSupervision6 : State :=
  { tOn [((marker 0x4200).addr 0 0 8704, 1), (Onu.PORT.addr 0 0 8704, 17), (Onu.CHANNEL.addr 0 0 8704, 1), (Onu.STATE.addr 0 0 8704, 6), (Onu.ONU_ID.addr 0 0 8704, 9), (Pon.STATE.addr 17 1 0, 3)] 900000000000 with onu := [(8704, { probeMap := some 3 })] }
def wOnuSupervision7 : State :=
  { tOn [((marker 0x4200).addr 0 0 8704, 1), (Onu.PORT.addr 0 0 8704, 17), (Onu.CHANNEL.addr 0 0 8704, 1), (Onu.STATE.addr 0 0 8704, 6), (Onu.ONU_ID.addr 0 0 8704, 9), (Pon.STATE.addr 17 1 0, 3)] 90000000000000000 with onu := [(8704, { probeMap := some 3 })] }
def wOnuSupervision8 : State :=
  { tOn [((marker 0x4200).addr 0 0 8704, 1), (Onu.PORT.addr 0 0 8704, 17), (Onu.STATE.addr 0 0 8704, 5), (Pon.STATE.addr 17 0 0, 3), (Onu.RATE.addr 0 0 8704, 1), (Onu.RATE_MAX.addr 0 0 8704, 2)] 90000000000000 with onu := [(8704, {})] }
def wOnuSupervision9 : State :=
  { tOn [((marker 0x4200).addr 0 0 8704, 1), (Onu.PORT.addr 0 0 8704, 17), (Onu.STATE.addr 0 0 8704, 5), (Pon.STATE.addr 17 0 0, 3), (Onu.RATE.addr 0 0 8704, 1), (Onu.RATE_MAX.addr 0 0 8704, 2)] 90000000000000 with onu := [(8704, { secGranted := [(89999, 10)], secBad := [(89999, 10)] })] }
def wOnuSupervision10 : State :=
  { tOn [((marker 0x4200).addr 0 0 8704, 1), (Onu.PORT.addr 0 0 8704, 17), (Onu.STATE.addr 0 0 8704, 5), (Pon.STATE.addr 17 0 0, 3), (Onu.RATE.addr 0 0 8704, 1), (Onu.RATE_MAX.addr 0 0 8704, 2), (Onu.HOLDOFF_S.addr 0 0 8704, 9)] 90000000000000 with onu := [(8704, {})] }
def wOnuSupervision11 : State :=
  { tOn [((marker 0x4200).addr 0 0 8704, 1), (Onu.PORT.addr 0 0 8704, 17), (Onu.STATE.addr 0 0 8704, 7), (Pon.STATE.addr 17 0 0, 3)] 90000000000000 with onu := [(8704, { observed := true })], act := [(34, { scan := { running := true, cur := 8704 } })] }
def wMapCycle0 : State :=
  tOn [(Pon.STATE.addr 17 0 0, 3), (GrCfg.HINT_ENABLE.addr 17 0 0, 1), (GrCfg.HINT_ENABLE.addr 5 0 0, 0)] 125000000
def wMapCycle1 : State :=
  { tOn [] 125000000 with nextMap := 1002 }
def wMapCycle2 : State :=
  { tOn [(Pon.STATE.addr 17 1 0, 3)] 125000000 with grant := [(35, { closed := some { k := 1001, bursts := [{ onu := 3, structs := [{ allocId := 3, ploam := true }] }] } })] }
def wMapCycle3 : State :=
  { tOn [(Pon.STATE.addr 17 1 0, 3)] 125125000 with grant := [(35, { closed := some { k := 1001, bursts := [{ onu := 3, structs := [{ allocId := 3, ploam := true }] }] } })] }
def wGrantInputs0 : State :=
  { tOn [((marker 0x5200).addr 0 0 700, 1)] with port := [(0, { good := [(1400000000, 0)] })], ctx := [(700, { report := some (5, 8), grants := [(9, 40, false), (12, 50, true)] })] }
def wGrantInputs1 : State :=
  { tOn [((marker 0x5200).addr 0 0 700, 1)] with ctx := [(700, { grants := [(8, 5, true), (9, 40, false)], idle := [(1400000000, 3), (1400000000, 4), (7, 9)] })] }
def wGrantInputs2 : State :=
  tOn [((marker 0x5200).addr 0 0 700, 1)]
def wGrantInputs3 : State :=
  { tOn [((marker 0x5200).addr 0 0 700, 1), (Ctx.PORT.addr 0 0 700, 17), (Ctx.CHANNEL.addr 0 0 700, 1), (Ctx.HINT_OK.addr 0 0 700, 1)] with hintPosts := [{ ctx := 700, tau := 900000000, bytes := 40 }], hintEn := [(17, 1)] }
def wGrantInputs4 : State :=
  { tOn [((marker 0x5200).addr 0 0 700, 1), (Ctx.PORT.addr 0 0 700, 17), (Ctx.CHANNEL.addr 0 0 700, 1), (Ctx.HINT_OK.addr 0 0 700, 1)] with hintPosts := [{ ctx := 700, tau := 900000000, bytes := 40 }], hintEn := [(17, 0)] }
def wGrantInputs5 : State :=
  { tOn [] with act := [(35, { posts := [.rate 8704 2, .withdraw 8704] })] }
def wGrantInputs6 : State :=
  { tOn with nextMap := 5 }
def wCoefficientSets0 : State :=
  { tOn [((marker 0x4200).addr 0 0 8704, 1), (Onu.PORT.addr 0 0 8704, 17), (Onu.CHANNEL.addr 0 0 8704, 1), (Onu.ONU_ID.addr 0 0 8704, 9)] 5000 with port := [(35, { posts := [.final 9 3 700 123456789 90 true (some (-2500))] })] }
def wCoefficientSets1 : State :=
  { tOn [((marker 0x4200).addr 0 0 8704, 1), (Onu.PORT.addr 0 0 8704, 17), (Onu.CHANNEL.addr 0 0 8704, 1), (Onu.ONU_ID.addr 0 0 8704, 9)] 5000 with port := [(35, { bursts := [{ n := { start := 9000000 }, slot := true }], posts := [.final 9 3 700 123456789 90 true (some (-2500))] })] }
def wCoefficientSets2 : State :=
  { tOn [((marker 0x4200).addr 0 0 8704, 1), (Onu.PORT.addr 0 0 8704, 17), (Onu.CHANNEL.addr 0 0 8704, 1), (Onu.ONU_ID.addr 0 0 8704, 9)] 5000 with port := [(35, { posts := [.final 9 3 700 123456789 90 false (some (-2500))] })] }
def wCoefficientSets3 : State :=
  tOn [((marker 0x4200).addr 0 0 8704, 1), (Onu.PORT.addr 0 0 8704, 17), (Onu.CHANNEL.addr 0 0 8704, 1)] 5000
def wCoefficientSets5 : State :=
  tOn [((marker 0x4200).addr 0 0 8704, 1), (Coef.VALID.addr 0 0 8704, 14)]
def wCoefficientSets6 : State :=
  tOn [((marker 0x4200).addr 0 0 8704, 1), (Coef.RXP_LAST.addr 0 0 8704, -2000)]
def wCoefficientSets7 : State :=
  tOn [((marker 0x4200).addr 0 0 8704, 1), (Coef.VALID.addr 0 0 8704, 8), (Coef.SET_10G.addr 0 0 8704, 99)] 5000
def wCoefficientSets8 : State :=
  { tOn [((marker 0x4200).addr 0 0 8704, 1), (Onu.PORT.addr 0 0 8704, 17), (Onu.CHANNEL.addr 0 0 8704, 1), (Onu.ONU_ID.addr 0 0 8704, 9)] 5000 with port := [(35, { samples := [(5, 9, 700)] })] }
def wCoefficientSets10 : State :=
  { tOn [] 5000 with port := [(35, { bursts := [{ n := { onu := 9, start := 700 }, ended := true, endedAt := 3000, outcome := .received, header := .passed, final := 8 }] })] }
def wFeederAndLoops0 : State :=
  { tOn [(Cal.FEEDER_STATE_C1.addr 17 0 0, 1), (Cal.FEEDER_ASYM_PS.addr 17 0 0, 7)] with port := [(35, { lastFrame := { notified := 4, received := 3, offsets := [50, -7, 3] } })] }
def wFeederAndLoops1 : State :=
  { tOn [(Cal.FEEDER_STATE_C1.addr 17 0 0, 1), (Pon.WINDOW_NS.addr 17 1 0, 100), (Cal.FEEDER_RANGE_NS.addr 17 0 0, 10000), (ActCfg.TEQD_US.addr 17 0 0, 250)] with port := [(35, { lastFrame := { notified := 4, received := 1, offsets := [50] } })] }
def wFeederAndLoops2 : State :=
  { tOn [(Cal.FEEDER_STATE_C1.addr 17 0 0, 2), (Cal.FEEDER_SHIFT.addr 17 0 0, 1), (Cal.FEEDER_RANGE_NS.addr 17 0 0, 10000), (ActCfg.TEQD_US.addr 17 0 0, 250)] with port := [(35, { lastFrame := { notified := 9, received := 9, offsets := [50, 60, 50, 50, 50, 50, 50, 50, 50] } })] }
def wFeederAndLoops3 : State :=
  { tOn [(Cal.FEEDER_STATE_C1.addr 17 0 0, 2), (Cal.FEEDER_OFS_C1_PS.addr 17 0 0, 500)] with port := [(35, { lastFrame := { notified := 9 } })], loops := [(35, { dryFrames := 63 })] }
def wFeederAndLoops4 : State :=
  { tOn [(Pon.STATE.addr 17 1 0, 1), (Cal.SETPT_MC.addr 17 1 0, 45000), (Cal.KP.addr 17 1 0, 900), (Cal.KI.addr 17 1 0, 33), (Cal.TEC_LIMIT_MA.addr 17 1 0, 1500)] with loops := [(35, { integ := 700000, inBand := 2 })] }
def wFeederAndLoops5 : State :=
  { tOn [(Pon.STATE.addr 17 1 0, 3), (Cal.MPD_TARGET_UA.addr 17 1 0, 400), (Cal.BIAS_10UA.addr 17 1 0, 5000), (Cal.BIAS_MAX_10UA.addr 17 1 0, 9000), (Cal.KB.addr 17 1 0, 6553600)] with port := [(35, { rampDone := true })] }
def wFeederAndLoops6 : State :=
  { tOn [] 1000005 with loops := [(35, { biasHold := true, rampAt := 5 })] }
def wFeederAndLoops7 : State :=
  tOn [(Pon.STATE.addr 17 1 0, 3), (Cal.MPD_TARGET_UA.addr 17 1 0, 400), (Cal.MPD_TOL_UA.addr 17 1 0, 20), (Cal.MOD_10UA.addr 17 1 0, 5000), (Cal.MOD_MAX_10UA.addr 17 1 0, 9000), (Cal.ER_TARGET_CDB.addr 17 1 0, 900), (Cal.KM.addr 17 1 0, 0)]
def wFeederAndLoops8 : State :=
  { tOn [(Pon.STATE.addr 17 1 0, 3)] 1000000005 with loops := [(35, { biasLimitAt := some 5 })] }
def wFeederAndLoops9 : State :=
  tOn [(Pon.STATE.addr 17 1 0, 2)] 1000000005
def wFeederAndLoops10 : State :=
  { tOn [] 1000005 with port := [(35, { ramping := true })] }
def wSideband0 : State :=
  { tOn with optics := [(17, { cmds := [{ addr := 4 }, { addr := 5 }], failed := 2 })] }
def wSideband1 : State :=
  { tOn with optics := [(17, { cmds := [{ addr := 4, tries := 1 }, { addr := 5 }], failed := 2 })] }
def wSideband2 : State :=
  { tOn [] 99000000 with optics := [(17, { cmds := [{ addr := 4, tries := 1 }, { addr := 5 }], failed := 2 })] }
def wSideband3 : State :=
  { tOn [(Pon.STATE.addr 17 1 0, 3)] 99000000 with optics := [(17, { cmds := [{ addr := 4, tries := 2 }, { addr := 5 }], failed := 2 })] }
def wSideband4 : State :=
  { tOn [(Pon.STATE.addr 17 1 0, 3), (Pon.STATE.addr 17 0 0, 1), (Pon.MODULE_PRESENT.addr 17 0 0, 1)] 99000000 with optics := [(17, { cmds := [{ addr := 4, tries := 2 }, { addr := 5 }], failed := 2 })] }
def wSideband5 : State :=
  tOn [(Pwr.POWER_STATE.addr 0 0 0, 1)] 99000000
def wSideband6 : State :=
  { tOn [] 99000000 with optics := [(17, { reading := true })] }
def wSideband7 : State :=
  { tOn [(Pon.STATE.addr 17 1 0, 3)] 99000000 with optics := [(17, { reading := true })] }
def wDownstreamFrames0 : State :=
  { tOn [(Pon.STATE.addr 17 1 0, 3)] 125000000 with port := [(35, { serLock := true, rampDone := true })], grant := [(35, { handed := some { k := 1000, bursts := [{ onu := 3, structs := [{ allocId := 3, ploam := true }] }] } })] }
def wDownstreamFrames1 : State :=
  { tOn [(Pon.STATE.addr 17 1 0, 3), ((marker 0xA400).addr 0 0 700, 1), (Xg.PORT.addr 0 0 700, 17), (Xg.CHANNEL.addr 0 0 700, 1), (Xg.DIRECTION.addr 0 0 700, 3), (Xg.ONU_ID.addr 0 0 700, 1023), (Xg.XGEM_ID.addr 0 0 700, 2000), (Xg.ADMIN.addr 0 0 700, 1)] 125000000 with port := [(35, { serLock := true, rampDone := true })], fr := [(35, { staged := [{ data := [1, 2, 3, 4, 5], xgem := 700 }] })] }
def wDownstreamFrames2 : State :=
  { tOn [(Pon.STATE.addr 17 1 0, 2)] 125000000 with port := [(35, { serLock := true, rampDone := true })] }
def wDownstreamFrames3 : State :=
  tOn [] 125000000
def wKeyExchange0 : State :=
  { tOn [((marker 0x4200).addr 0 0 8704, 1), (Onu.PORT.addr 0 0 8704, 17), (Onu.CHANNEL.addr 0 0 8704, 1), (Onu.STATE.addr 0 0 8704, 5)] 5000 with framer := [(8704, { rekey := true })] }
def wKeyExchange1 : State :=
  { tOn [] 5000 with framer := [(8704, { exchange := 2, keyReports := [[1, 2, 3]] })] }
def wKeyExchange2 : State :=
  { tOn [] 100005000 with framer := [(8704, { exchange := 2, keyFails := 2, controlAt := 5000 })] }
def wKeyExchange3 : State :=
  { tOn [(Sec.LIFECYCLE.addr 0 0 0, 1)] 5000 with host := { mbx := [(3, { slots := [(2, { st := 1, sender := 1, at' := 5000, data := [1, 0, 0, 0, 35, 0, 0, 0, 2, 0, 0, 0, 0, 0, 0, 0, 7, 8, 9] })] })] } }
def wKeyExchange4 : State :=
  { tOn [(Sec.LIFECYCLE.addr 0 0 0, 1)] 5000 with fr := [(35, { key2 := some 7 })], host := { mbx := [(3, { slots := [(2, { st := 1, sender := 1, at' := 5000, data := [2, 0, 0, 0, 35, 0, 0, 0, 2, 0, 0, 0, 16, 0, 0, 0] })] })] } }
def wKeyExchange5 : State :=
  { tOn [(Sec.LIFECYCLE.addr 0 0 0, 1), ((marker 0x4200).addr 0 0 8704, 1)] 5000 with host := { mbx := [(3, { slots := [(2, { st := 1, sender := 1, at' := 5000, data := [3, 0, 0, 0, 0, 34, 0, 0, 0, 0, 0, 0, 0, 0, 0, 0, 7, 8, 9] })] })] } }
def wKeyExchange6 : State :=
  { tOn [(Sec.LIFECYCLE.addr 0 0 0, 1), ((marker 0x4200).addr 0 0 8704, 1)] 5000 with host := { mbx := [(3, { slots := [(2, { st := 1, sender := 1, at' := 5000, data := [4, 0, 0, 0, 0, 34, 0, 0] })] })] } }
def wKeyExchange7 : State :=
  { tOn [(Sec.LIFECYCLE.addr 0 0 0, 2)] 5000 with host := { mbx := [(3, { slots := [(2, { st := 1, sender := 1, at' := 5000, data := [4] })] })] } }
def wUpstreamMessages0 : State :=
  { tOn [((marker 0x4200).addr 0 0 8704, 1), (Onu.PORT.addr 0 0 8704, 17), (Onu.CHANNEL.addr 0 0 8704, 1), (Onu.ONU_ID.addr 0 0 8704, 9)] 5000 with port := [(35, { good := [(700, 9)] })] }
def wUpstreamMessages1 : State :=
  { tOn [(FrCfg.PLOAM_MIC_CHECK.addr 17 0 0, 0)] 5000 with port := [(35, { good := [(700, 9)] })] }
def wUpstreamMessages2 : State :=
  tOn [(FrCfg.PLOAM_MIC_CHECK.addr 17 0 0, 0)] 5000
def wUpstreamMessages3 : State :=
  tOn [((marker 0x4200).addr 0 0 8704, 1), (Onu.PORT.addr 0 0 8704, 17), (Onu.CHANNEL.addr 0 0 8704, 1), (Onu.STATE.addr 0 0 8704, 5), (Onu.ONU_ID.addr 0 0 8704, 9), ((marker 0xA400).addr 0 0 700, 1), (Xg.PORT.addr 0 0 700, 17), (Xg.CHANNEL.addr 0 0 700, 1), (Xg.ONU_ID.addr 0 0 700, 9), (Xg.OMCC.addr 0 0 700, 1), (Xg.ADMIN.addr 0 0 700, 1)] 5000
def wUpstreamMessages5 : State :=
  { tOn [((marker 0x4200).addr 0 0 8704, 1), (Onu.PORT.addr 0 0 8704, 17), (Onu.CHANNEL.addr 0 0 8704, 1)] 90000000000 with framer := [(8704, { omci1 := [{ tci := 5, sent := 9 }, { tci := 6 }] })] }
def wUpstreamFrames1 : State :=
  { tOn [] 5000 with reasm := [(700, { st := 1, data := [1] })] }
def wUpstreamFrames2 : State :=
  { tOn [((marker 0x4200).addr 0 0 8704, 1), (Onu.PORT.addr 0 0 8704, 17), (Onu.CHANNEL.addr 0 0 8704, 1), (Onu.ONU_ID.addr 0 0 8704, 9), ((marker 0xA400).addr 0 0 700, 1), (Xg.PORT.addr 0 0 700, 17), (Xg.CHANNEL.addr 0 0 700, 1), (Xg.ONU_ID.addr 0 0 700, 9), (Xg.DIRECTION.addr 0 0 700, 3), (Xg.XGEM_ID.addr 0 0 700, 2000), (Xg.ADMIN.addr 0 0 700, 1)] 5000 with port := [(35, { good := [(700, 9)] })] }
def wUpstreamFrames3 : State :=
  { tOn [((marker 0x4200).addr 0 0 8704, 1), (Onu.PORT.addr 0 0 8704, 17), (Onu.CHANNEL.addr 0 0 8704, 1), (Onu.ONU_ID.addr 0 0 8704, 9), ((marker 0xA400).addr 0 0 700, 1), (Xg.PORT.addr 0 0 700, 17), (Xg.CHANNEL.addr 0 0 700, 1), (Xg.ONU_ID.addr 0 0 700, 9), (Xg.DIRECTION.addr 0 0 700, 3), (Xg.XGEM_ID.addr 0 0 700, 2000), (Xg.ADMIN.addr 0 0 700, 1)] 5000 with port := [(35, { good := [(700, 9)] })], reasm := [(700, { st := 1, data := [9, 8], since := 4000 })] }
def wUpstreamFrames7 : State :=
  { tOn [((marker 0xA400).addr 0 0 700, 1), (Xg.PORT.addr 0 0 700, 17), (Xg.CHANNEL.addr 0 0 700, 1)] 5000000000 with reasm := [(700, { st := 1, data := [1] })] }
def wUpstreamFrames8 : State :=
  { tOn [((marker 0x4200).addr 0 0 8704, 1)] 6000000000 with framer := [(8704, { nextSec := 5, secs := [(5, { g := 100, l := 3 })] })] }
def wUpstreamFrames9 : State :=
  { tOn [((marker 0x4200).addr 0 0 8704, 1), (Onu.PORT.addr 0 0 8704, 17), (Onu.CHANNEL.addr 0 0 8704, 1)] 16000000000 with framer := [(8704, { nextSec := 15, sesRun := 9, secs := [(15, { g := 100, l := 30 })] })] }
def wUpstreamFrames10 : State :=
  { tOn [((marker 0x4200).addr 0 0 8704, 1), (Onu.PORT.addr 0 0 8704, 17), (Onu.CHANNEL.addr 0 0 8704, 1)] 16000000000 with framer := [(8704, { classed := [(5, { es := true, t := { g := 100, l := 30 } })] })] }
def wUpstreamFrames11 : State :=
  { tOn [((marker 0x4200).addr 0 0 8704, 1), (PmHist.PMH_ENABLE.addr 0 0 0, 0), (OnuPm.ES_15M.addr 0 0 8704, 7)] 911000000000 with framer := [(8704, { nextSec := 910, tcaEs := true })] }
def wUpstreamFrames12 : State :=
  { tOn [((marker 0x4200).addr 0 0 8704, 1), (OnuPm.ES_15M.addr 0 0 8704, 7)] 911000000000 with framer := [(8704, { nextSec := 910, tcaEs := true })] }
def wPipelinePasses0 : State :=
  { tOn [(Pool.ACTIVE_COUNT.addr 0 0 0, 5)] 5000 with pipes := [(6, { arriving := [{ data := [1, 2, 3], srcType := 1, srcId := 99, at' := 4000 }] })] }
def wPipelinePasses1 : State :=
  { tOn [(Pool.ACTIVE_COUNT.addr 0 0 0, 5)] 5000 with pipes := [(6, { arriving := [{ data := List.replicate 16385 0, srcType := 1, srcId := 99, at' := 4000 }] })] }
def wPipelinePasses2 : State :=
  tOn [(Pool.ACTIVE_COUNT.addr 0 0 0, 5), (Twin.STATE.addr 0 0 0, 4)] 5000
def wPipelinePasses3 : State :=
  { tOn [] 5000 with pipes := [(6, { ingress := [{ data := [1, 2, 3], srcType := 1, srcId := 99, at' := 4000 }] })] }
def wPipelinePasses4 : State :=
  { tOn [(Cls.DEFAULT_A.addr 0 0 0, 2 ^ 118 + 5 * 2 ^ 100 + 2 ^ 81 + 3 * 2 ^ 61)] 5000 with pipes := [(6, { ingress := [{ data := [1, 2, 3, 4, 5, 6, 2, 8, 9, 10, 11, 12, 0x88, 0xB5] ++ List.replicate 46 0, srcType := 1, srcId := 99, at' := 4000 }] })] }
def wPipelinePasses5 : State :=
  { tOn [] 5000 with pipes := [(6, { recirc := [{ pkt := { data := [1, 2, 3], srcType := 1, srcId := 99, at' := 4000 }, at' := 4500 }] })] }
def wRuleBanks0 : State :=
  tOn [(Rule.KEY.addr 1 0 65535, 2 ^ 639 + 7)]
def wRuleBanks1 : State :=
  tOn [(Rule.VALID.addr 1 0 65535, 1)]
def wRuleBanks3 : State :=
  { tOn with power := { coreOn := true, trans := 2 } }
def wRuleBanks5 : State :=
  tOn [(Cls.ACTIVE_BANK.addr 0 0 0, 1), (Cls.SWAPS.addr 0 0 0, 4294967295)] 5000
def wRuleBanks6 : State :=
  tOn [(Cls.SWAP_STATE.addr 0 0 0, 1)]
def wRuleBanks7 : State :=
  tOn [(Cls.SWAP_STATE.addr 0 0 0, 1), (Cls.ACTIVE_BANK.addr 0 0 0, 1)] 5000
def wForwardingTable0 : State :=
  { tOn with fwd := { promos := [(1, 77)], far := [(12, { form := 1, key := 77, dest := 3 })] } }
def wForwardingTable1 : State :=
  { tOn with pipes := [(1, { learn := [{ key := 77, loc := 5 }] })] }
def wForwardingTable2 : State :=
  { tOn with pipes := [(1, { learn := [{ key := 77, loc := 5 }] })], fwd := { ways := [(3, { key := 77, dest := 5, aged := true })] } }
def wForwardingTable3 : State :=
  { tOn [] 5000 with pipes := [(2, { learn := [{ key := 77, loc := 5 }] })] }
def wForwardingTable4 : State :=
  { tOn [] 90000000000000 with fwd := { ways := [(3, { key := 77, dest := 5, quar := true })] } }
def wForwardingTable5 : State :=
  tOn [(Twin.TWIN_ENABLE.addr 0 0 0, 1)]
def wForwardingTable7 : State :=
  { tOn [(Pwr.POWER_STATE.addr 0 0 0, 2)] 5000 with fwd := { ways := [(3, { key := 77, aged := true }), (9, { key := 78, hit := true })] } }
def wForwardingTable8 : State :=
  { tOn [] 5000000 with fwd := { passing := true, passAt := 5, farFlags := [3], far := [(8, { key := 5 })] } }
def wForwardingTable9 : State :=
  { tOn [(FwdOp.OP_KEY.addr 0 0 0, 5)] 5000000 with fwd := { far := [(8, { key := 5, dest := 9 })] } }
def wForwardingTable10 : State :=
  tOn [(FwdOp.OP_KEY.addr 0 0 0, 5)] 5000000
def wForwardingTable12 : State :=
  { tOn [(FwdOp.OP_KEY.addr 0 0 0, 5)] 5000000 with fwd := { ways := [(8, { key := 5, dest := 9 })] } }
def wForwardingTable14 : State :=
  { tOn [] 5000000 with fwd := { flush := some (0, 9), ways := [(8, { key := 5, dest := 9 }), (9, { key := 6, dest := 9, static := true })] } }
def wForwardingTable15 : State :=
  tOn [(Assoc.KEY.addr 0 0 7, 55), (Assoc.VALID.addr 0 0 8, 1)]
def wForwardingTable16 : State :=
  tOn [(Assoc.KEY.addr 0 0 7, 55), (Assoc.VALID.addr 0 0 7, 1)]
def wTrafficManager0 : State :=
  { tOn [(Pwr.POWER_STATE.addr 0 0 0, 2), ((marker 0xB001).addr 0 0 70, 1), (Queue.SERVICE.addr 1 0 70, 40000), (Node.PARENT.addr 1 0 40000, 9000), (Node.PARENT.addr 1 0 9000, 1500), (Node.PARENT.addr 1 0 1500, 7), (Queue.ADMIN.addr 1 0 70, 1)] 5000 with tm := { decisions := [{ pkt := { data := [1, 2, 3] }, dir := 1, dest := .member 7, queueSel := 0, queue := 70 }] } }
def wTrafficManager1 : State :=
  { tOn [] 5000 with tm := { decisions := [{ pkt := { data := [1, 2, 3] }, dir := 1, dest := .member 7, queueSel := 0, queue := 70 }] } }
def wTrafficManager2 : State :=
  { tOn [((marker 0xB001).addr 0 0 70, 1), (Queue.SERVICE.addr 1 0 70, 40000), (Node.PARENT.addr 1 0 40000, 9000), (Node.PARENT.addr 1 0 9000, 1500), (Node.PARENT.addr 1 0 1500, 7), (Queue.ADMIN.addr 1 0 70, 1)] 5000 with tm := { decisions := [{ pkt := { data := [1, 2, 3] }, dir := 1, dest := .member 7, queueSel := 0, queue := 70, colour := 2 }] } }
def wTrafficManager3 : State :=
  { tOn [(Upl.MODE.addr 1 0 0, 3), ((marker 0xB001).addr 0 0 70, 1), (Queue.SERVICE.addr 1 0 70, 40000), (Node.PARENT.addr 1 0 40000, 9000), (Node.PARENT.addr 1 0 9000, 1500), (Node.PARENT.addr 1 0 1500, 7), ((marker 0xB011).addr 0 0 40000, 1), ((marker 0xB011).addr 0 0 9000, 1), ((marker 0xB011).addr 0 0 1500, 1), (Queue.ADMIN.addr 1 0 70, 1)] 5000 with tm := { queues := [(262144 + 70, [{ pkt := { data := [1, 2, 3] }, dest := .member 7 }])] } }
def wTrafficManager4 : State :=
  { tOn [] 5000 with tm := { queues := [(262144 + 70, [{ pkt := { data := [1, 2, 3] }, dest := .member 7 }])] } }
def wTrafficManager6 : State :=
  { tOn [(Pool.ACTIVE_COUNT.addr 0 0 0, 5)] 5000 with tm := { staging := 3, bufs := [(128, (1, idTm, 0))], queues := [(262144 + 70, [{ pkt := { data := [1, 2, 3] }, dest := .member 7, deep := true, writing := true, chip := some 128 }])] } }
def wTrafficManager7 : State :=
  { tOn [(Pool.ACTIVE_COUNT.addr 0 0 0, 5)] 5000 with tm := { bufs := [(0, (1, idTm, 0))], queues := [(262144 + 70, [{ pkt := { data := [1, 2, 3] }, dest := .member 7, deep := true, reading := true }])] } }
def wTrafficManager8 : State :=
  { tOn [(Queue.LAUNCH.addr 0 0 70, 1), (Queue.SERVICE.addr 0 0 70, 40000), (Node.PARENT.addr 0 0 40000, 9000), (Node.PARENT.addr 0 0 9000, 1500), (Node.PARENT.addr 0 0 1500, 7)] 5000 with tm := { queues := [(70, [{ pkt := { data := [1, 2, 3], launch := some (4000 * 65536) }, dest := .xgem 7 }])] } }
def wTrafficManager9 : State :=
  { tOn [(Queue.LAUNCH.addr 0 0 70, 1), (Queue.SERVICE.addr 0 0 70, 40000), (Node.PARENT.addr 0 0 40000, 9000), (Node.PARENT.addr 0 0 9000, 1500), (Node.PARENT.addr 0 0 1500, 7)] 4500 with tm := { queues := [(70, [{ pkt := { data := [1, 2, 3], launch := some (4000 * 65536) }, dest := .xgem 7 }])] } }
def wTrafficManager10 : State :=
  { tOn [((marker 0xB000).addr 0 0 70, 1), (Queue.CIR_KBPS.addr 0 0 70, 1000)] 4500 with tm := { queueSh := [(70, { set := true, c := -100, p := 5, at' := 100 })] } }
def wTrafficManager11 : State :=
  { tOn [((marker 0xB000).addr 0 0 70, 1), (Queue.SERVICE.addr 0 0 70, 40000), (Node.PARENT.addr 0 0 40000, 9000), (Node.PARENT.addr 0 0 9000, 1500), (Node.PARENT.addr 0 0 1500, 7)] 4500 with tm := { queues := [(70, [{ pkt := { data := [1, 2, 3] }, dest := .xgem 7 }])] } }
def wPickChoice0 : State :=
  { tOn [((marker 0xB001).addr 0 0 70, 1), (Queue.SERVICE.addr 1 0 70, 40000), (Node.PARENT.addr 1 0 40000, 9000), (Node.PARENT.addr 1 0 9000, 1500), (Node.PARENT.addr 1 0 1500, 7), ((marker 0xB011).addr 0 0 40000, 1), ((marker 0xB011).addr 0 0 9000, 1), ((marker 0xB011).addr 0 0 1500, 1), (Queue.ADMIN.addr 1 0 70, 1)] 5000 with tm := { queues := [(262144 + 70, [{ pkt := { data := [1, 2, 3] }, dest := .member 7 }])] } }
def wBufferOwnership0 : State :=
  { tOn [(Pool.ACTIVE_COUNT.addr 3 0 0, 5)] 5000 with tm := { bufs := [(128, (2, 5, 5))] } }
def wBufferOwnership1 : State :=
  tOn [(Pool.SPILL_UP.addr 4 0 0, 0), (Pool.ACTIVE_COUNT.addr 3 0 0, 0)] 5000
def wBufferOwnership2 : State :=
  { tOn [(Pool.ACTIVE_COUNT.addr 0 0 0, 5)] 5000 with tm := { bufs := [(128, (1, idTm, 3))] } }
def wBufferOwnership4 : State :=
  { tOn [(Pool.ACTIVE_COUNT.addr 0 0 0, 5)] 5000 with tm := { bufs := [(128, (2, 5, 5))] } }
def wBufferOwnership5 : State :=
  { tOn [(Pool.ACTIVE_COUNT.addr 0 0 0, 5)] 5000 with tm := { bufs := [(128, (4, 5, 5))] } }
def wBufferOwnership6 : State :=
  { tOn [(Pool.ACTIVE_COUNT.addr 0 0 0, 5)] 5000 with tm := { bufs := [(128, (1, 5, 5))] } }
def wReplayAndCapture0 : State :=
  { tOn [] 3000000000 with tm := { rings := [(5, { items := [(1, (4, [1, 2])), (2, (2000000000, [1, 2, 3]))], next := 3 })] } }
def wReplayAndCapture1 : State :=
  { tOn [(Chan.ENABLE.addr 0 0 5, 1), (Join.JOIN_CHANNEL.addr 0 0 0, 5), (Join.JOIN_XGEM.addr 0 0 0, 300), ((marker 0xB010).addr 0 0 40000, 1), (Node.XGEM_REC.addr 0 0 40000, 300), ((marker 0xB000).addr 0 0 70, 1), (Queue.SERVICE.addr 0 0 70, 40000)] 3000000000 with tm := { rings := [(5, { items := [(1, (4, [1, 2])), (2, (2000000000, [1, 2, 3]))], next := 3 })] } }
def wReplayAndCapture2 : State :=
  tOn [] 5000
def wReplayAndCapture3 : State :=
  { tOn [] 3000000000 with tm := { replays := [{ ch := 5, q := 70, items := [1] }] } }
def wReplayAndCapture4 : State :=
  { tOn [(Pwr.POWER_STATE.addr 0 0 0, 2), ((marker 0xB000).addr 0 0 70, 1), (Queue.SERVICE.addr 0 0 70, 40000), (Node.PARENT.addr 0 0 40000, 9000), (Node.PARENT.addr 0 0 9000, 1500), (Node.PARENT.addr 0 0 1500, 129), (Queue.ADMIN.addr 0 0 70, 1), (Pool.ACTIVE_COUNT.addr 0 0 0, 5)] 3000000000 with tm := { rings := [(5, { items := [(1, (1000000000, [1, 2])), (2, (2000000000, [1, 2, 3]))], next := 3 })], replays := [{ ch := 5, q := 70, items := [1, 2], kbps := 1000 }] } }
def wReplayAndCapture5 : State :=
  { tOn [(DdrReg.ACTIVE_SIZE_MIB.addr 2 0 0, 256)] 3000000000 with tm := { capTrig := true } }
def wReplayAndCapture6 : State :=
  tOn [(DdrReg.ACTIVE_SIZE_MIB.addr 2 0 0, 0)] 5000
def wUplinkGroups0 : State :=
  tOn [(Upl.MODE.addr 3 0 0, 5)] 5000
def wUplinkGroups2 : State :=
  { tOn [(Upl.MODE.addr 3 0 0, 3), (Upl.STATE.addr 3 0 0, 4), (Upl.ENABLE.addr 3 0 0, 1), (Mac.LINK.addr 13 0 0, 1)] 5000 with upl := { macs := [(13, { lock := true })] } }
def wUplinkGroups3 : State :=
  tOn [(Upl.MODE.addr 3 0 0, 4), (Upl.STATE.addr 3 0 0, 1)] 5000
def wUplinkGroups4 : State :=
  tOn [(Upl.MODE.addr 3 0 0, 4), (Upl.STATE.addr 3 0 0, 2)] 2999999999
def wUplinkGroups5 : State :=
  tOn [(Upl.MODE.addr 3 0 0, 4), (Upl.STATE.addr 3 0 0, 2), (Upl.TRAIN_FAILS.addr 3 0 0, 65535)] 3000000000
def wUplinkGroups6 : State :=
  tOn [(Upl.MODE.addr 3 0 0, 4), (Upl.STATE.addr 3 0 0, 3)] 3000000000
def wUplinkGroups7 : State :=
  tOn [(Upl.MODE.addr 3 0 0, 4), (Upl.STATE.addr 3 0 0, 5)] 3000000000
def wUplinkGroups8 : State :=
  tOn [(Upl.MODE.addr 3 0 0, 4), (Upl.STATE.addr 3 0 0, 5)] 999999999
def wOtnLayers0 : State :=
  tOn [(Upl.MODE.addr 3 0 0, 5), (Upl.STATE.addr 3 0 0, 4), (Upl.ENABLE.addr 3 0 0, 1)] 5000
def wOtnLayers1 : State :=
  { tOn [(Upl.MODE.addr 3 0 0, 5), (Upl.STATE.addr 3 0 0, 4), (Upl.ENABLE.addr 3 0 0, 1)] 15000 with upl := { otn := [(3, { los := [(2, { bad := true, since := 5000 })] })] } }
def wOtnLayers2 : State :=
  { tOn [(Upl.MODE.addr 3 0 0, 5), (Upl.STATE.addr 3 0 0, 4), (Upl.ENABLE.addr 3 0 0, 1)] 15000 with upl := { otn := [(3, { fas := { miss := 4 } })] } }
def wOtnLayers3 : State :=
  { tOn [(Upl.MODE.addr 3 0 0, 5), (Upl.STATE.addr 3 0 0, 4), (Upl.ENABLE.addr 3 0 0, 1)] 5000 with upl := { otn := [(21, { tti := 77, ttiRun := 2 })] } }
def wOtnLayers5 : State :=
  { tOn [(Upl.MODE.addr 3 0 0, 5), (Upl.STATE.addr 3 0 0, 4), (Upl.ENABLE.addr 3 0 0, 1)] 5000 with upl := { otn := [(21, { fail0 := true, acc0 := 2 })] } }
def wOtnLayers6 : State :=
  { tOn [(Upl.MODE.addr 3 0 0, 5), (Upl.STATE.addr 3 0 0, 4), (Upl.ENABLE.addr 3 0 0, 1)] 5000 with upl := { otn := [(21, { rej0 := 2 })] } }
def wOtnLayers7 : State :=
  { tOn [(Upl.MODE.addr 3 0 0, 5), (Upl.STATE.addr 3 0 0, 4), (Upl.ENABLE.addr 3 0 0, 1)] 5000000000 with upl := { otn := [(21, { nextSec := 4 })] } }
def wOtnLayers8 : State :=
  { tOn [(Upl.MODE.addr 3 0 0, 5), (Upl.STATE.addr 3 0 0, 4), (Upl.ENABLE.addr 3 0 0, 1)] 4999999999 with upl := { otn := [(21, { nextSec := 4 })] } }
def wLinearProtection0 : State :=
  { tOn [(Prot.WORKING.addr 5 0 0, 3), (Prot.PROTECT.addr 5 0 0, 7)] 5000 with upl := { prot := [(5, { ms := true })] } }
def wLinearProtection1 : State :=
  { tOn [(Prot.WORKING.addr 5 0 0, 3), (Prot.PROTECT.addr 5 0 0, 7), (Prot.TYPE.addr 5 0 0, 1)] 5000 with upl := { prot := [(5, { ms := true })] } }
def wLinearProtection3 : State :=
  { tOn [(Prot.WORKING.addr 5 0 0, 3), (Prot.PROTECT.addr 5 0 0, 7), (Otn.DEFECTS.addr 3 1 0, 8192)] 5000 with upl := { prot := [(5, { sfW := some 4000 })] } }
def wLinearProtection4 : State :=
  { tOn [(Prot.WORKING.addr 5 0 0, 3), (Prot.PROTECT.addr 5 0 0, 7), (Prot.SELECTED.addr 5 0 0, 1), (Prot.WTR_S.addr 5 0 0, 60)] 60000000007 with upl := { prot := [(5, { wtr := some 7 })] } }
def wLinearProtection5 : State :=
  { tOn [(Esc.ESC_ENABLE.addr 0 0 0, 1), (Esc.ESCALATIONS.addr 0 0 0, 65535)] 300000000 with upl := { escLow := some 100000000 } }
def wLinearProtection6 : State :=
  { tOn [(Esc.ESC_ACTIVE.addr 0 0 0, 1), (Twin.LOCAL_FAULTS.addr 0 0 0, 4)] 300000000 with upl := { escOk := some 100000000 } }
def wPtpMessages0 : State :=
  { tOn [(PtpPort.PTP_ENABLE.addr 7 0 0, 1), (Mac.LINK.addr 7 0 0, 1), (Upl.MODE.addr 1 0 0, 3), (PtpPort.PORT_STATE.addr 7 0 0, 5), (Tim.SERVO_STATE.addr 0 0 0, 2), (Ptp.PARENT_ID.addr 0 0 0, 256), (PtpPort.MEAN_PATH_PS.addr 7 0 0, 700)] 5000 with time := { follow := some 7 } }
def wPtpMessages1 : State :=
  tOn [(PtpPort.PTP_ENABLE.addr 32 0 0, 1)] 5000
def wPtpMessages2 : State :=
  tOn [(PtpPort.PTP_ENABLE.addr 32 0 0, 1), (PtpPort.PORT_STATE.addr 32 0 0, 3)] 5000
def wPtpMessages3 : State :=
  { tOn [(PtpPort.PTP_ENABLE.addr 32 0 0, 1), (PtpPort.PORT_STATE.addr 32 0 0, 1)] 375000009 with time := { ports := [(32, { masters := [{ at' := 9 }, { at' := 10, src := 4 }] })] } }
def wPtpMessages4 : State :=
  { tOn [(PtpPort.PTP_ENABLE.addr 32 0 0, 1), (PtpPort.PORT_STATE.addr 32 0 0, 3)] 375000009 with time := { ports := [(32, { syncAt := some 312500009 })] } }
def wPtpMessages6 : State :=
  { tOn [(PtpPort.PTP_ENABLE.addr 32 0 0, 1), (PtpPort.PORT_STATE.addr 32 0 0, 4)] 375000009 with time := { ports := [(32, { seq := 65535 })] } }
def wDeviceTime0 : State :=
  { tOn [(Tim.SERVO_STATE.addr 0 0 0, 1)] 375000009 with time := { theta := some (-1000000) } }
def wDeviceTime1 : State :=
  { tOn [(Tim.SERVO_STATE.addr 0 0 0, 1)] 375000009 with time := { theta := some (-49999), inRun := 15 } }
def wDeviceTime2 : State :=
  tOn [] 375000009
def wDeviceTime3 : State :=
  tOn [(Tim.SERVO_STATE.addr 0 0 0, 4)] 375000009
def wDeviceTime4 : State :=
  { tOn [] 375000009 with time := { setTo := some 77000000000, stepIn := 5 } }
def wDeviceTime5 : State :=
  { tOn [] 375000009 with time := { setTo := some 77000000000, stepIn := 3000 } }
def wDeviceTime6 : State :=
  { tOn [(Tim.SERVO_STATE.addr 0 0 0, 3)] 1000000000009 with time := { lossAt := some 9 } }
def wDeviceTime7 : State :=
  { tOn [(Pwr.POWER_STATE.addr 0 0 0, 1)] 7000000009 with time := { lastSec := 6 } }
def wDeviceTime8 : State :=
  { tOn [(Pwr.POWER_STATE.addr 0 0 0, 1)] 7000000009 with time := { lastSec := 7 } }
def wDeviceTime9 : State :=
  tOn [(Pin.PPS_IN_VALID.addr 0 0 0, 1), (Tim.TIME_SOURCE.addr 0 0 0, 1), (Tim.SERVO_STATE.addr 0 0 0, 2)] 7000000009
def wDeviceTime10 : State :=
  { tOn [] 7000000009 with time := { ppsLast := 6, ppsRun := 2 } }
def wDeviceTime11 : State :=
  { tOn [(Pin.PPS_IN_VALID.addr 0 0 0, 1)] 9001000000 with time := { ppsLast := 6, ppsRun := 2 } }
def wSynchronousEthernet0 : State :=
  tOn [(Upl.MODE.addr 3 0 0, 3), (Mac.LINK.addr 13 0 0, 1)] 9001000000
def wSynchronousEthernet1 : State :=
  { tOn [(Upl.MODE.addr 3 0 0, 3), (Mac.LINK.addr 13 0 0, 1)] 9001000000 with time := { srcs := [(13, { ql := some 4, esmcAt := 4001000000 })] } }
def wSynchronousEthernet2 : State :=
  { tOn [] 9001000000009 with time := { srcs := [(33, { validAt := some 9 })] } }
def wSynchronousEthernet3 : State :=
  { tOn [(SyE.SELECTED.addr 0 0 0, 13), (SySrc.ENABLE.addr 33 0 0, 1), (SySrc.FORCED_QL.addr 33 0 0, 2)] 9001000000009 with time := { failAt := some 4, srcs := [(13, { ready := true }), (33, { ready := true })] } }
def wSynchronousEthernet4 : State :=
  tOn [(Upl.MODE.addr 3 0 0, 3), (Mac.LINK.addr 13 0 0, 1), (SyE.SELECTED.addr 0 0 0, 13)] 9001000000
def wTwinLink0 : State :=
  { tOn [(Twin.TWIN_ENABLE.addr 0 0 0, 1), (Twin.STATE.addr 0 0 0, 4), (Twin.ROLE.addr 0 0 0, 2)] 90000 with twin := { beatSent := some 85000, applied := some 6 } }
def wTwinLink1 : State :=
  tOn [(Twin.TWIN_ENABLE.addr 0 0 0, 1), (TwinCnt.CTRL_BAD.addr 0 0 0, 4294967295)]
def wTwinLink2 : State :=
  { tOn [(Twin.TWIN_ENABLE.addr 0 0 0, 1), (Twin.STATE.addr 0 0 0, 4), (Twin.ROLE.addr 0 0 0, 2)] 90000 with twin := { applied := some 6, epoch := some 77000 } }
def wTwinLink3 : State :=
  { tOn [(Twin.TWIN_ENABLE.addr 0 0 0, 1), (Twin.STATE.addr 0 0 0, 4), (Twin.ROLE.addr 0 0 0, 2)] 90000 with twin := { applied := some 6 } }
def wTwinLink4 : State :=
  { tOn [(Twin.TWIN_ENABLE.addr 0 0 0, 1), (Twin.STATE.addr 0 0 0, 5), (Twin.ROLE.addr 0 0 0, 1)] 90000 with twin := { confirm := [(9, 80000, {})] } }
def wTwinLink5 : State :=
  { tOn [(Twin.TWIN_ENABLE.addr 0 0 0, 1), (Twin.STATE.addr 0 0 0, 4), (Twin.ROLE.addr 0 0 0, 2)] 90000 with twin := { beatAt := some 70000, hb := true } }
def wTwinLink6 : State :=
  { tOn [(Twin.TWIN_ENABLE.addr 0 0 0, 1), (Twin.STATE.addr 0 0 0, 4), (Twin.ROLE.addr 0 0 0, 2)] 90000 with twin := { beatAt := some 70001, hb := true } }
def wTwinLink8 : State :=
  { tOn [] 90000 with twin := { hb := true } }
def wTwinLink9 : State :=
  tOn [] 90000
def wTwinLink11 : State :=
  tOn [(Twin.TWIN_ENABLE.addr 0 0 0, 1), (Twin.STATE.addr 0 0 0, 1)] 90000
def wTwinLink13 : State :=
  { tOn [(Twin.TWIN_ENABLE.addr 0 0 0, 1), (Twin.STATE.addr 0 0 0, 1)] 10000000007 with twin := { since := 7, hbLostAt := 7 } }
def wTwinLink14 : State :=
  { tOn [(Twin.TWIN_ENABLE.addr 0 0 0, 1), (Twin.STATE.addr 0 0 0, 8)] 10000000007 with twin := { helloAt := some 9999000007 } }
def wTwinLink15 : State :=
  { tOn [(Twin.LOCAL_FAULTS.addr 0 0 0, 2), (Twin.HOST_FAULT.addr 0 0 0, 1)] 10000000007 with mapLateAt := some 9000000007 }
def wMirrorStream0 : State :=
  { tOn [(Twin.TWIN_ENABLE.addr 0 0 0, 1), (Twin.STATE.addr 0 0 0, 7)] 90000 with twin := { held := [.warm 5 3], frames := 1 } }
def wMirrorStream1 : State :=
  { tOn [(Twin.TWIN_ENABLE.addr 0 0 0, 1), (Twin.STATE.addr 0 0 0, 4)] 90000 with twin := { held := [.warm 5 3, .value 0x4200 1 5 7], frames := 1, applied := some 4294967295, nextMap := 4294967297 } }
def wMirrorStream2 : State :=
  { tOn [(Twin.TWIN_ENABLE.addr 0 0 0, 1), (Twin.STATE.addr 0 0 0, 4)] 90000 with twin := { held := [.warm 5 3, .value 0x4200 1 5 7], frames := 1, applied := some 8 } }
def wMirrorStream3 : State :=
  { tOn [(Twin.TWIN_ENABLE.addr 0 0 0, 1), (Twin.STATE.addr 0 0 0, 4)] 90000 with twin := { held := [.warm 5 3], frames := 1, applied := some 8 } }
def wMirrorStream4 : State :=
  { tOn [(Twin.TWIN_ENABLE.addr 0 0 0, 1), (Twin.STATE.addr 0 0 0, 5)] 90000 with twin := { kept := [(9, [.warm 5 3])] } }
def wMirrorStream5 : State :=
  { tOn [(Twin.TWIN_ENABLE.addr 0 0 0, 1), (Twin.STATE.addr 0 0 0, 5)] 90000 with twin := { mirrored := [.warm 5 3] } }
def wMirrorStream6 : State :=
  { tOn [(Twin.TWIN_ENABLE.addr 0 0 0, 1), (Twin.STATE.addr 0 0 0, 3), (Twin.ROLE.addr 0 0 0, 2), (Tim.OFFSET_PS.addr 0 0 0, -49999)] 90000 with twin := { spanSeen := true } }
def wMirrorStream7 : State :=
  tOn [(Twin.TWIN_ENABLE.addr 0 0 0, 1), (Twin.STATE.addr 0 0 0, 5)] 90000
def wMirrorStream8 : State :=
  tOn [(Twin.TWIN_ENABLE.addr 0 0 0, 1), (Twin.STATE.addr 0 0 0, 4)] 90000
def wMirrorStream9 : State :=
  { tOn [] 1090000 with twin := { confirm := [(7, 90000, {})] } }
def wMirrorStream10 : State :=
  { tOn [] 1089999 with twin := { confirm := [(7, 90000, {})] } }
def wMirrorStream11 : State :=
  { tOn [(Twin.TWIN_ENABLE.addr 0 0 0, 1), (Twin.STATE.addr 0 0 0, 5)] 1000000008 with twin := { lazyAt := 8 } }
def wTwinComparison0 : State :=
  { tOn [(Twin.TWIN_ENABLE.addr 0 0 0, 1), (Twin.TWIN_PORTS.addr 0 0 0, 128), (Twin.STATE.addr 0 0 0, 4), (Twin.ROLE.addr 0 0 0, 2)] 1130000 with twin := { nextMap := 9 } }
def wTwinComparison1 : State :=
  { tOn [(Twin.TWIN_ENABLE.addr 0 0 0, 1), (Twin.TWIN_PORTS.addr 0 0 0, 1), (Twin.STATE.addr 0 0 0, 4), (Twin.ROLE.addr 0 0 0, 2)] 1165000 with grant := [(1, { digests := [(9, 55), (8, 77)] })] }
def wTwinComparison3 : State :=
  tOn [(Twin.TWIN_ENABLE.addr 0 0 0, 1), (Twin.STATE.addr 0 0 0, 4), (Twin.ROLE.addr 0 0 0, 2)] 1165000
def wTwinComparison4 : State :=
  { tOn [(Twin.STATE.addr 0 0 0, 4), (TwinCnt.DIGEST_MISSING.addr 0 0 0, 4294967295)] 1165000 with twin := { setAt := [(19, 165000)] } }
def wSwitchOvers0 : State :=
  { tOn [(Twin.STATE.addr 0 0 0, 5), (Twin.ROLE.addr 0 0 0, 1)] 1165000 with twin := { peerState := 4 } }
def wSwitchOvers1 : State :=
  { tOn [(Twin.STATE.addr 0 0 0, 5), (Twin.ROLE.addr 0 0 0, 1)] 1165000 with twin := { peerState := 7 } }
def wSwitchOvers2 : State :=
  tOn [(Twin.STATE.addr 0 0 0, 8), (Twin.ROLE.addr 0 0 0, 2)] 1165000
def wSwitchOvers3 : State :=
  tOn [(Twin.STATE.addr 0 0 0, 6), (Twin.ROLE.addr 0 0 0, 1)] 1165000
def wSwitchOvers4 : State :=
  tOn [(Twin.STATE.addr 0 0 0, 7), (Twin.ROLE.addr 0 0 0, 2), (Twin.SUSPECT_CAUSE.addr 0 0 0, 2)] 1165000
def wSwitchOvers7 : State :=
  tOn [(Twin.TWIN_ENABLE.addr 0 0 0, 1), (Twin.STATE.addr 0 0 0, 5), (Twin.ROLE.addr 0 0 0, 1)] 1165000
def wSwitchOvers8 : State :=
  { tOn [(Twin.TWIN_ENABLE.addr 0 0 0, 1), (Twin.STATE.addr 0 0 0, 5), (Twin.ROLE.addr 0 0 0, 1)] 1165000 with twin := { yieldN := some 9 } }
def wSwitchOvers9 : State :=
  { tOn [(Twin.TWIN_ENABLE.addr 0 0 0, 1), (Twin.STATE.addr 0 0 0, 7), (Twin.ROLE.addr 0 0 0, 2), (Twin.SUSPECT_CAUSE.addr 0 0 0, 2)] 1165000 with twin := { takeN := some 9, byHand := true } }
def wSwitchOvers10 : State :=
  { tOn [(Twin.TWIN_ENABLE.addr 0 0 0, 1), (Twin.STATE.addr 0 0 0, 4), (Twin.ROLE.addr 0 0 0, 2)] 1165000 with twin := { takeN := some 10, byHand := true } }
def wLegacyPairing0 : State :=
  tOn [(Leg.LEGACY_ENABLE.addr 0 0 0, 1), (Leg.LEGACY_UDP_PORT.addr 0 0 0, 9), (Leg.LEGACY_PEER_IP.addr 0 0 0, 77)] 1165000
def wLegacyPairing2 : State :=
  tOn [(Leg.LEGACY_ENABLE.addr 0 0 0, 1), (Leg.LEGACY_PEER_IP.addr 0 0 0, 77)] 1165000
def wLegacyPairing3 : State :=
  { tOn [(Leg.LEGACY_ENABLE.addr 0 0 0, 1), (Twin.STATE.addr 0 0 0, 9)] 500000007 with twin := { legBeat := some 7 } }
def wLegacyPairing4 : State :=
  tOn [(Leg.LEGACY_ENABLE.addr 0 0 0, 1), (Twin.STATE.addr 0 0 0, 9)] 500000007
def wLegacyPairing5 : State :=
  tOn [(Leg.LEGACY_ENABLE.addr 0 0 0, 1)] 500000007
def wHostResets0 : State :=
  { tOn [(Hst.SEC_SESSION.addr 0 0 0, 1), (Hst.HOST_INC.addr 0 0 0, 255)] 5000 with host := { lck := [(5, (1, 0)), (7, (16, 0))], dma := [(3, { enable := true, busy := true })], dbl := [(9, (8, 16))], msix := [(4, 5)] } }
def wHostResets1 : State :=
  { tOn [] 5000 with host := { incs := [(0, 255)], lck := [(5, (1, 0)), (7, (16, 0))], dbl := [(9, (8, 16))], msix := [(4, 5)] } }
def wHostResets2 : State :=
  { tOn [(Hst.SEC_SESSION.addr 0 0 0, 1), (Hst.HOST_INC.addr 0 0 0, 255)] 5000 with host := { secSel := 4, mbx := [(4, { slots := [(3, { st := 1, sender := 1 })] })] } }
def wDmaChannels0 : State :=
  { tOn [] 5000 with host := { dma := [(11, { enable := true, tail := 3, head := 4 })] } }
def wDmaChannels2 : State :=
  { tOn [] 5000 with host := { dma := [(3, { enable := true, tail := 15, head := 15 })] } }
def wDmaChannels5 : State :=
  { tOn [] 5000 with host := { dma := [(11, { enable := true, tail := 3, head := 4, halted := true, haltCause := 3 })] } }
def wDmaChannels6 : State :=
  { tOn [] 5000 with tm := { dmaDone := [(3, 15, 2, 0)] }, host := { dma := [(3, { enable := true, tail := 0, head := 15, busy := true })] } }
def wDmaChannels7 : State :=
  { tOn [] 5000 with log := [(7, { time := 9, seq := 7, code := 0x9001, args := [] })], host := { evts := [7], dma := [(11, { enable := true, tail := 0, head := 15, descs := [(15, { len := 64 })] })] } }
def wDmaChannels8 : State :=
  { tOn [] 5000 with host := { dma := [(11, { irq := 3 })], irqMap := [(11, 2 ^ 31 + 5)] } }
def wDmaChannels9 : State :=
  { tOn [] 5000 with host := { cause := 7 } }
def wMailboxes0 : State :=
  { tOn [] 5000 with host := { mbx := [(20, { slots := [(0, { st := 1 })] })] } }
def wMailboxes2 : State :=
  { tOn [] 5000 with host := { mbx := [(20, { slots := (List.range 16).map (fun k => (k, { st := 1, order := k })) })] } }
def wMailboxes3 : State :=
  { tOn [(Hst.SEC_SESSION.addr 0 0 0, 1)] 5000 with host := { secSel := 6 } }
def wMailboxes4 : State :=
  { tOn [] 5000 with host := { mbx := [(20, { slots := [(0, { st := 1, order := 7 }), (3, { st := 1, order := 6 })] })] } }
def wMailboxes6 : State :=
  { tOn [] 5000 with host := { mbx := [(20, { slots := [(0, { st := 2, order := 7 }), (3, { st := 1, order := 6 })] })] } }
def wMailboxes8 : State :=
  { tOn [] 5000 with host := { mbx := [(20, { late := [0], slots := [(0, { st := 3, order := 7, kind := 2 })] })] } }
def wMailboxes9 : State :=
  { tOn [] 5000 with host := { mbx := [(20, { slots := [(0, { st := 2, order := 7, sender := 17 }), (3, { st := 1, order := 6 })] })] } }
def wMailboxes10 : State :=
  { tOn [] 5000 with host := { mbx := [(20, { slots := [(0, { st := 2, order := 7, sender := 1, want := true, at' := 4000 })] })] } }
def wMailboxes12 : State :=
  { tOn [] 5000 with host := { mbx := [(20, { slots := [(0, { st := 3, order := 7, sender := 1, want := true, at' := 4000 })] })] } }
def wMailboxes14 : State :=
  { tOn [] 5000 with host := { mbx := [(20, { views := [(1, { flushed := 65535 })] })] } }
def wMailboxes15 : State :=
  { tOn [] 100004000 with host := { mbx := [(20, { slots := [(0, { st := 2, order := 7, sender := 1, want := true, at' := 4000 })] })] } }
def wDoorbellsAndLocks0 : State :=
  { tOn [] 5000 with host := { dbl := [(255, (8, 16))] } }
def wDoorbellsAndLocks2 : State :=
  { tOn [] 5000 with host := { dbl := [(255, (12, 16))], dblClk := [(255, (5000, 8, 4))] } }
def wDoorbellsAndLocks4 : State :=
  { tOn [] 5000 with host := { lck := [(127, (16, 3))] } }
def wHostWindows0 : State :=
  { tOn [(Pwr.POWER_STATE.addr 0 0 0, 1), (Dic.OWNER.addr 0 0 0, 0), (Dic.LEASE_END.addr 0 0 0, 9000), (Sec.LIFECYCLE.addr 0 0 0, 1)] 5000 with dict := { ready := true } }
def wDictionaryRequests0 : State :=
  { tOn [(Hst.SEC_SESSION.addr 0 0 0, 1), (Join.JOIN_KBPS.addr 0 0 0, 70000)] 5000 with dict := { ready := true } }
def wDictionaryRequests0u : State :=
  { tOn [(Hst.SEC_SESSION.addr 0 0 0, 1), (Join.JOIN_KBPS.addr 0 0 0, 70000), (Dic.REQUESTS.addr 0 0 0, 1)] 5000 with dict := { ready := true } }
def wDictionaryRequests2 : State :=
  { tOn [(Pwr.POWER_STATE.addr 0 0 0, 1), (Dic.LEASE_END.addr 0 0 0, 9000), (Sec.LIFECYCLE.addr 0 0 0, 1)] 5000 with dict := { ready := true } }
def wDictionaryRequests3 : State :=
  { tOn [(Pwr.POWER_STATE.addr 0 0 0, 1), (Dic.OWNER.addr 0 0 0, 0), (Dic.LEASE_END.addr 0 0 0, 9000), (Sec.LIFECYCLE.addr 0 0 0, 1), (Hst.SEC_SESSION.addr 0 0 0, 1)] 5000 with dict := { ready := true } }
def wDictionaryRequests4 : State :=
  { tOn [(Pwr.POWER_STATE.addr 0 0 0, 1), ((marker 0x4200).addr 0 0 8704, 1), (Hst.SEC_SESSION.addr 0 0 0, 1)] 5000 with dict := { ready := true } }
def wDictionaryRequests5 : State :=
  { tOn [(Pwr.POWER_STATE.addr 0 0 0, 1), (Hst.SEC_SESSION.addr 0 0 0, 1)] 5000 with dict := { ready := true } }
def wDictionaryRequests6 : State :=
  { tOn [] 5000 with dict := { ready := true } }
def wLeaseAndTransactions1 : State :=
  { tOn [(Dic.OWNER.addr 0 0 0, 3), (Dic.LEASE_END.addr 0 0 0, 9000)] 5000 with dict := { ready := true } }
def wLeaseAndTransactions2 : State :=
  { tOn [(Dic.OWNER.addr 0 0 0, 0), (Dic.LEASE_END.addr 0 0 0, 9000)] 5000 with dict := { ready := true } }
def wLeaseAndTransactions3 : State :=
  { tOn [(Dic.OWNER.addr 0 0 0, 0), (Dic.LEASE_END.addr 0 0 0, 9000)] 5000 with dict := { ready := true, sess := [(0, { txn := true })] } }
def wLeaseAndTransactions4 : State :=
  { tOn [(Dic.OWNER.addr 0 0 0, 0), (Dic.LEASE_END.addr 0 0 0, 9000)] 9000 with dict := { ready := true, sess := [(0, { txn := true })] } }
def wLeaseAndTransactions6 : State :=
  { tOn [(Pwr.POWER_STATE.addr 0 0 0, 1), (Dic.OWNER.addr 0 0 0, 0), (Dic.LEASE_END.addr 0 0 0, 9000), (Sec.LIFECYCLE.addr 0 0 0, 1)] 5000 with dict := { ready := true, sess := [(0, { txn := true, members := [{ index := 0x7830, sub := 1, value := 4 }] })] } }
def wLeaseAndTransactions8 : State :=
  { tOn [(Pwr.POWER_STATE.addr 0 0 0, 1)] 130000 with dict := { ready := true, commits := [{ frame := 1, members := [{ index := 0x7830, sub := 1, value := 4 }, { index := 0x5200, sub := 10, rcd := 77, value := 4 }] }] } }
def wLeaseAndTransactions9 : State :=
  { tOn [(Pwr.POWER_STATE.addr 0 0 0, 1)] 130000 with dict := { ready := true, commits := [{ frame := 1, members := [{ index := 0x7830, sub := 1, value := 4 }, { index := 0x7830, sub := 4, value := 1007 }] }] } }
def wLeaseAndTransactions10 : State :=
  { tOn [(Pwr.POWER_STATE.addr 0 0 0, 1), (Dic.OWNER.addr 0 0 0, 0), (Dic.LEASE_END.addr 0 0 0, 9000), (Sec.LIFECYCLE.addr 0 0 0, 1), (Dic.JOURNAL_PENDING.addr 0 0 0, 2)] 5000 with dict := { ready := true }, jpend := [Onu.PORT.addr 0 0 7] }
def wQueuedWrites0 : State :=
  { tOn [((marker 0x5200).addr 0 0 65535, 1)] 125000 with dict := { queue := [{ index := 0x5200, sub := 10, rcd := 65535, value := 7, frame := 1 }] } }
def wQueuedWrites1 : State :=
  { tOn [((marker 0x5200).addr 0 0 65535, 1), (Ctx.ADMIN.addr 0 0 65535, 1)] 125000 with dict := { queue := [{ index := 0x5200, sub := 255, rcd := 65535, value := 1, frame := 1 }] } }
def wQueuedWrites2 : State :=
  { tOn [((marker 0xA400).addr 0 0 262143, 1)] 125000 with dict := { queue := [{ index := 0xA400, sub := 5, rcd := 262143, value := 1, frame := 1 }] } }
def wQueuedWrites3 : State :=
  { tOn [((marker 0xA400).addr 0 0 262143, 1)] 125000 with dict := { queue := [{ index := 0xA400, sub := 255, rcd := 262143, value := 1, frame := 1 }] } }
def wQueuedWrites4 : State :=
  { tOn [((marker 0x4200).addr 0 0 8704, 1), (Onu.PORT.addr 0 0 8704, 17), (Onu.STATE.addr 0 0 8704, 1)] 125000 with dict := { queue := [{ index := 0x4200, sub := 7, rcd := 8704, value := 3, frame := 1 }] } }
def wQueuedWrites5 : State :=
  { tOn [((marker 0x4200).addr 0 0 8704, 1), (Onu.PORT.addr 0 0 8704, 17), (Onu.STATE.addr 0 0 8704, 4)] 125000 with dict := { queue := [{ index := 0x4200, sub := 255, rcd := 8704, value := 1, frame := 1 }] } }
def wQueuedWrites6 : State :=
  { tOn [((marker 0x4200).addr 0 0 8704, 1), (Onu.PORT.addr 0 0 8704, 17), (Onu.STATE.addr 0 0 8704, 0)] 125000 with dict := { queue := [{ index := 0x4200, sub := 255, rcd := 8704, value := 1, frame := 1 }] } }
def wRetainedJournal0 : State :=
  { tOn [(Dic.LEASE_PERIOD_S.addr 0 0 0, 45), (Dic.JOURNAL_PENDING.addr 0 0 0, 2)] 5000 with jpend := [Dic.LEASE_PERIOD_S.addr 0 0 0, Dic.VOT_IDLE_S.addr 0 0 0], journal := { image := [(Dic.VOT_IDLE_S.addr 0 0 0, 20)] } }
def wRetainedJournal1 : State :=
  { tOn [(Dic.LEASE_PERIOD_S.addr 0 0 0, 45), (Dic.JOURNAL_PENDING.addr 0 0 0, 2)] 5000 with jpend := [Dic.LEASE_PERIOD_S.addr 0 0 0, Dic.VOT_IDLE_S.addr 0 0 0] }
def wRetainedJournal2 : State :=
  { tOn [] 5000 with journal := { fill := 76 } }
def wRetainedJournal3 : State :=
  { tOn [] 5000 with journal := { fill := 75 } }
def wRetainedJournal4 : State :=
  { tOn [] 864000000000000 with journal := { cal := [({ index := 5, sub := 1, recNo := 0 }, 3)] } }
def wObjectTransport0 : State :=
  { tOn [(Dic.IP_ADDR.addr 0 0 0, 77)] 5000 with dict := { ready := true } }
def wObjectTransport1 : State :=
  { tOn [(Dic.IP_ADDR.addr 0 0 0, 77), (Dic.MGMT_KEY.addr 0 0 0, 99)] 5000 with dict := { ready := true, sess := [(1, { isOpen := true })] } }
def wObjectTransport3 : State :=
  { tOn [(Dic.IP_ADDR.addr 0 0 0, 77), (Dic.MGMT_KEY.addr 0 0 0, 99), (Pwr.POWER_STATE.addr 0 0 0, 1)] 5000 with dict := { ready := true, sess := [(2, { isOpen := true })] } }
def wObjectTransport4 : State :=
  { tOn [(Dic.IP_ADDR.addr 0 0 0, 77), (Dic.OWNER.addr 0 0 0, 2), (Dic.LEASE_END.addr 0 0 0, 6000), (Dic.SESSIONS_OPEN.addr 0 0 0, 1)] 5000 with dict := { ready := true, sess := [(2, { isOpen := true })] } }
def wObjectTransport5 : State :=
  { tOn [] 60000000000 with dict := { ready := true, sess := [(2, { isOpen := true }), (8, { isOpen := true, seen := 1 })] } }
def wObjectTransport6 : State :=
  { tOn [(Pwr.POWER_STATE.addr 0 0 0, 1), (Dic.OWNER.addr 0 0 0, 0), (Dic.LEASE_END.addr 0 0 0, 9000), (Sec.LIFECYCLE.addr 0 0 0, 1), (Dic.SESSIONS_OPEN.addr 0 0 0, 1)] 5000 with dict := { ready := true, sess := [(8, { isOpen := true })] } }
def wObjectTransport8 : State :=
  tOn [(Dic.IP_ADDR.addr 0 0 0, ofLe (List.replicate 10 0 ++ [255, 255, 10, 0, 0, 7]))] 5000
def wFirmwareImages0 : State :=
  { tOn [(Sec.RUNNING_SLOT.addr 0 0 0, 1), (Sec.INACTIVE_STATE.addr 0 0 0, 2)] 5000 with secu := { slotA := [(5, 6)], slotB := [(7, 8)] } }
def wFirmwareImages1 : State :=
  { tOn [(Sec.INACTIVE_STATE.addr 0 0 0, 1)] 5000 with secu := { slotB := [(7, 8)] } }
def wFirmwareImages2 : State :=
  { tOn [(Sec.INACTIVE_STATE.addr 0 0 0, 2)] 5000 with secu := { rec0 := some (3, 0), rec1 := some (4, 0) } }
def wFirmwareImages3 : State :=
  tOn [(Sec.INACTIVE_STATE.addr 0 0 0, 4)] 5000
def wFirmwareImages4 : State :=
  { tOn [(Sec.TRIAL.addr 0 0 0, 1)] 5000 with secu := { trialNext := true } }
def wFirmwareImages5 : State :=
  { tOn [(Sec.TRIAL.addr 0 0 0, 1), (Sec.RUNNING_SLOT.addr 0 0 0, 1)] 600000000000 with secu := { trialNext := true, rec0 := some (3, 1), rec1 := some (3, 0), slotA := [(4, 5)] } }
def wFirmwareImages6 : State :=
  tOn [(Sec.TRIAL.addr 0 0 0, 1)] 599999999999
def wFirmwareImages7 : State :=
  tOn [(Sec.SLOT_A_ROLLBACK.addr 0 0 0, 63), (Sec.SLOT_B_ROLLBACK.addr 0 0 0, 62), (Sec.INACTIVE_STATE.addr 0 0 0, 2)] 5000
def wFirmwareImages8 : State :=
  tOn [(Sec.TRIAL.addr 0 0 0, 1)] 5000
def wLifecycleAndDebug0 : State :=
  { tOn [(Sec.DEBUG_LEVEL.addr 0 0 0, 2), (Hst.SEC_SESSION.addr 0 0 0, 1)] 5000 with fr := [(5, { key1 := some 7 })], journal := { mgmtKey := 7, present := true } }
def wLifecycleAndDebug1 : State :=
  { tOn [(Dic.MGMT_KEY.addr 0 0 0, 2)] 5000 with secu := { lifecycle := 1, returnOk := true }, journal := { mgmtKey := 7, present := true } }
def wLifecycleAndDebug2 : State :=
  { tOn [(Dic.MGMT_KEY.addr 0 0 0, 2), (Sec.DEBUG_LEVEL.addr 0 0 0, 1)] 5000 with secu := { lifecycle := 2 }, journal := { mgmtKey := 7, present := true } }
def wLifecycleAndDebug3 : State :=
  { tOn [] 5000 with secu := { lifecycle := 1 } }
def wLifecycleAndDebug6 : State :=
  tOn [(Sec.DEBUG_LEVEL.addr 0 0 0, 2), (Sec.DEBUG_EXPIRY.addr 0 0 0, 2), (Cro.CROCUS_ENABLE.addr 0 0 0, 1)] 5000
def wLifecycleAndDebug7 : State :=
  tOn [(Sec.DEBUG_LEVEL.addr 0 0 0, 2), (Sec.DEBUG_EXPIRY.addr 0 0 0, 2), (Sec.TIME_HWM.addr 0 0 0, 2)] 5000
def wLifecycleAndDebug8 : State :=
  tOn [(Sec.DEBUG_LEVEL.addr 0 0 0, 2), (Sec.DEBUG_EXPIRY.addr 0 0 0, 3), (Sec.TIME_HWM.addr 0 0 0, 2)] 5000
def wLifecycleAndDebug9 : State :=
  tOn [] 3600000000000
def wSpdmSessions0 : State :=
  { tOn [] 5000 with secu := { spdmHost := 3 } }
def wSpdmSessions1 : State :=
  { tOn [] 5000 with secu := { spdmHost := 1 } }
def wSpdmSessions2 : State :=
  { tOn [] 5000 with secu := { spdmTwin := 2 } }
def wSpdmSessions3 : State :=
  { tOn [] 5000 with secu := { spdmTwin := 3 } }
def wSpdmSessions8 : State :=
  { tOn [] 5000 with secu := { spdmTwin := 5 } }
def wSpdmSessions9 : State :=
  { tOn [] 5000 with secu := { spdmHost := 4 } }
def wSpdmSessions11 : State :=
  { tOn [(Hst.SEC_SESSION.addr 0 0 0, 1)] 60000000000 with secu := { spdmHost := 5 } }
def wSpdmSessions12 : State :=
  { tOn [(Hst.SEC_SESSION.addr 0 0 0, 1)] 59999999999 with secu := { spdmHost := 5 } }
def wMemoryIntegrity0 : State :=
  { tOn [(MemA.CE_COUNT.addr 9 0 0, 4294967295)] 5000 with mem := { visit := [(9, 77)] } }
def wMemoryIntegrity1 : State :=
  { tOn [] 5000 with mem := { visit := [(9, 78)] } }
def wMemoryIntegrity2 : State :=
  tOn [(MemA.SCRUB_ENABLE.addr 18 0 0, 0)] 5000
def wMemoryIntegrity5 : State :=
  { tOn [] 5000 with mem := { back := [(4, 77)], bad := [(4, 77, 1), (4, 78, 1)] } }
def wMemoryIntegrity6 : State :=
  { tOn [] 5000 with mem := { back := [(4, 77)] } }
def wMemoryIntegrity8 : State :=
  { tOn [(MemA.LAP_MAX_MS.addr 9 0 0, 5)] 10001000007 with mem := { lapAt := [(9, 7)] } }
def wMemoryIntegrity10 : State :=
  { tOn [(MemA.SCRUB_ENABLE.addr 16 0 0, 1)] 86406000000000 with mem := { asleep := [(5, 10000000000)], slept := [(5, 4000000000)] } }
def wInjectionAndClears0 : State :=
  tOn [(Sec.LIFECYCLE.addr 0 0 0, 1)] 5000
def wInjectionAndClears1 : State :=
  tOn [(Sec.LIFECYCLE.addr 0 0 0, 1), (Sec.DEBUG_LEVEL.addr 0 0 0, 2)] 5000
def wInjectionAndClears2 : State :=
  { tOn [(Inj.INJ_ARM.addr 0 0 0, 1), (Inj.INJ_ARRAY.addr 0 0 0, 4), (Inj.INJ_ADDR.addr 0 0 0, 9), (Inj.INJ_BITS.addr 0 0 0, 2)] 5000 with mem := { bad := [(4, 9, 1)] } }
def wInjectionAndClears3 : State :=
  tOn [(Mem.CE_TOTAL.addr 0 0 0, 7), (Mem.UE_TOTAL.addr 0 0 0, 8), (Mem.UE_PKT_DROP.addr 0 0 0, 8), (Mem.CE_REPEAT_LIMIT.addr 0 0 0, 9)] 5000

/-- StepTakesFront: every clause. -/
theorem witness_StepTakesFront :
    (State.reset.pending = [] ∧ State.reset.power.coreOn = false) :=
  by decide +kernel

/-- StoreAndQueue: every clause. -/
theorem witness_StoreAndQueue :
    ((tOn [(Dic.OWNER.addr 0 0 0, 0)] 5).storeOk = true ∧ (tOn [(Dic.OWNER.addr 0 0 0, 0)] 5).queueOk = true ∧ step (tOn [(Dic.OWNER.addr 0 0 0, 0)] 5) = .next (tOn [(Dic.OWNER.addr 0 0 0, 0)] 5).idle) :=
  ⟨by decide, by decide, rfl⟩

/-- CommandsComplete: every clause. -/
theorem witness_CommandsComplete :
    ((State.reset.power.coreOn = false) ∧ (snowdropDomain (.dictLeaseLapsed : Instr) = false)) :=
  by decide +kernel

/-- CounterArithmetic: every clause. -/
theorem witness_CounterArithmetic :
    (((Dic.LEASE_LAPSES : Obj) ∈ allObjs) ∧ ((Dic.LEASE_LAPSES : Obj).cnt = .sat) ∧ (0 ≤ wCounterArithmetic0.get (Dic.LEASE_LAPSES : Obj) (0 : Nat) (0 : Nat)) ∧ (wCounterArithmetic0.get (Dic.LEASE_LAPSES : Obj) (0 : Nat) (0 : Nat) ≤ 2 ^ (8 * (Dic.LEASE_LAPSES : Obj).ty.size) - 1)) ∧
    (((Dic.LEASE_TAKES : Obj) ∈ allObjs) ∧ ((Dic.LEASE_TAKES : Obj).cnt = .wrap)) :=
  by and_intros <;> first | decide +kernel | exact ctrlIn_good _ _ _ | rfl | exact Nat.ne_of_lt (Nat.lt_succ_self _)

/-- AutomaticRecord: every clause. -/
theorem witness_AutomaticRecord :
    ((wAutomaticRecord0.power.coreOn = true) ∧ (wAutomaticRecord0.actLive (17 : Fin 64) (1 : Fin 2) = true) ∧ ((wAutomaticRecord0.ch (17 : Fin 64) (1 : Fin 2)).bursts = [({ n := { start := 5000000, stop := 9000000, quiet := true }, started := true } : Burst)]) ∧ (({ n := { start := 5000000, stop := 9000000, quiet := true }, started := true } : Burst).started = true) ∧ (({ n := { start := 5000000, stop := 9000000, quiet := true }, started := true } : Burst).n.quiet = true) ∧ (({ n := { start := 5000000, stop := 9000000, quiet := true }, started := true } : Burst).n.start ≤ (6000000 : Nat)) ∧ ((6000000 : Nat) < ({ n := { start := 5000000, stop := 9000000, quiet := true }, started := true } : Burst).n.stop) ∧ ((wAutomaticRecord0.actCh (17 : Fin 64) (1 : Fin 2)).quiets.find? (fun e => e.1 == ({ n := { start := 5000000, stop := 9000000, quiet := true }, started := true } : Burst).n.start) = some (({ n := { start := 5000000, stop := 9000000, quiet := true }, started := true } : Burst).n.start, (4900000 : Int))) ∧ ((1234567890123456789 : Nat) < 2 ^ 64) ∧ (wAutomaticRecord0.micOk (17 : Fin 64) (1 : Fin 2) 1023 (actPloam 1 1023 8 (1234567890123456789 : Nat)) (5 : Nat) = true) ∧ ((wAutomaticRecord0.actCh (17 : Fin 64) (1 : Fin 2)).winSerials = []) ∧ (wAutomaticRecord0.serialRec (1234567890123456789 : Nat) = none) ∧ (wAutomaticRecord0.nat ActCfg.AUTH_MODE (17 : Fin 64) < 2) ∧ ((wAutomaticRecord0.records 0x4200).length < 16384) ∧ ((1 : Nat) < 512) ∧ (wAutomaticRecord0.hasRecord 0x4200 ((17 : Fin 64).val * 512 + (1 : Nat)) = false)) :=
  by decide +kernel

/-- SupplySequence: every clause. -/
theorem witness_SupplySequence :
    (State.reset.power.coreOn = false ∧ State.reset.power.enA = false ∧ State.reset.power.retryAt = none ∧ State.reset.power.tripped = false ∧ State.reset.power.st ≠ 3) ∧
    ((tPower { enA := true }).power.enA = true ∧ (tPower { enA := true }).power.enB = false) ∧
    ((tPower { enB := true } 1000000).power.enB = true ∧ (tPower { enB := true } 1000000).power.enAt + 1000000 ≤ (tPower { enB := true } 1000000).now ∧ (tPower { enB := true }).power.coreOn = false ∧ (tPower { enB := true }).power.tripped = false ∧ (tPower { enB := true }).power.st ≠ 3 ∧ (tPower { enB := true }).power.trip = none) ∧
    ((tPower { enA := true } 50000000).power.enA = true ∧ (tPower { enA := true } 50000000).power.coreOn = false ∧ (tPower { enA := true } 50000000).power.enAt + 50000000 ≤ (tPower { enA := true } 50000000).now) ∧
    ((wSupplySequence4.power.enA = true ∨ (9 : Fin 10).val < 2) ∧ ((9 : Fin 10).val ≠ 0) ∧ ((9 : Nat) + 10000 ≤ wSupplySequence4.now)) ∧
    ((wSupplySequence5.now < (9 : Nat) + 10000)) ∧
    (((5 : Nat) + 10000 ≤ wSupplySequence6.now)) ∧
    ((tPower { retryAt := some 7 } 7).power.retryAt = some 7 ∧ 7 ≤ (tPower { retryAt := some 7 } 7).now ∧ (tPower { retryAt := some 7 } 7).power.tripped = false) :=
  by and_intros <;> first | decide +kernel | exact ctrlIn_good _ _ _ | rfl | exact Nat.ne_of_lt (Nat.lt_succ_self _)

/-- Starts: every clause. -/
theorem witness_Starts :
    ((wStarts0.power.coreOn = true) ∧ (wStarts0.power.trip = none) ∧ (((.sysRst 9 : Instr) = .sysRst (9 : Nat) ∧ (9 : Nat) + 1000 ≤ wStarts0.now ∧ (4 : Nat) = 4) ∨ ((.sysRst 9 : Instr) = .pcieFundamentalReset ∧ (4 : Nat) = 3))) ∧
    ((wStarts1.power.coreOn = true) ∧ (wStarts1.now < (9 : Nat) + 1000)) ∧
    (tOn.power.coreOn = true ∧ tOn.power.trip = none) ∧
    ((tOn [(Sta.START_PHASE.addr 0 0 0, 1)]).power.coreOn = true ∧ (tOn [(Sta.START_PHASE.addr 0 0 0, 1)]).nat Sta.START_PHASE = 1) ∧
    ((wStarts4.power.coreOn = true) ∧ (wStarts4.nat Sta.START_PHASE = 4) ∧ (wStarts4.nat Sta.PHASE_END_MS 0 2 + 10 ≤ wStarts4.msT0)) :=
  by and_intros <;> first | decide +kernel | exact ctrlIn_good _ _ _ | rfl | exact Nat.ne_of_lt (Nat.lt_succ_self _)

/-- PowerStates: every clause. -/
theorem witness_PowerStates :
    ((tOn [(Pwr.POWER_STATE.addr 0 0 0, 1)]).power.coreOn = true ∧ (tOn [(Pwr.POWER_STATE.addr 0 0 0, 1)]).nat Pwr.POWER_STATE = 1 ∧ (tOn [(Pwr.POWER_STATE.addr 0 0 0, 1)]).power.trans = 0 ∧ (tOn [(Pwr.POWER_STATE.addr 0 0 0, 1)]).nat Sec.LIFECYCLE ≠ 3) ∧
    ((tOn [(Pwr.POWER_STATE.addr 0 0 0, 2)]).power.coreOn = true ∧ (tOn [(Pwr.POWER_STATE.addr 0 0 0, 2)]).nat Pwr.POWER_STATE = 2 ∧ (tOn [(Pwr.POWER_STATE.addr 0 0 0, 2)]).power.trans = 0 ∧ (tOn [(Pwr.POWER_STATE.addr 0 0 0, 2)]).nat Sec.LIFECYCLE ≠ 3 ∧ (tOn [(Pwr.POWER_STATE.addr 0 0 0, 2)]).power.low = false) ∧
    ((tOn [(Pwr.POWER_STATE.addr 0 0 0, 4)]).power.coreOn = true ∧ ((tOn [(Pwr.POWER_STATE.addr 0 0 0, 4)]).nat Pwr.POWER_STATE = 1 ∨ (tOn [(Pwr.POWER_STATE.addr 0 0 0, 4)]).nat Pwr.POWER_STATE = 2 ∨ (tOn [(Pwr.POWER_STATE.addr 0 0 0, 4)]).nat Pwr.POWER_STATE = 4) ∧ (tOn [(Pwr.POWER_STATE.addr 0 0 0, 4)]).power.trans = 0) ∧
    (tOn.power.coreOn = true ∧ tOn.nat Sec.LIFECYCLE ≠ 3 ∧ ((Instr.powerCmdFull = .powerCmdFull ∧ (tOn.power.trans ≠ 0 ∨ tOn.nat Pwr.POWER_STATE ≠ 2)) ∨ (Instr.powerCmdFull = .powerCmdTrim ∧ (tOn.power.trans ≠ 0 ∨ tOn.nat Pwr.POWER_STATE ≠ 1)) ∨ (Instr.powerCmdFull = .powerCmdSnowdrop ∧ (tOn.power.trans ≠ 0 ∨ tOn.nat Pwr.POWER_STATE ∉ [1, 2, 4])))) ∧
    (((5 : Nat) + 10000000 ≤ wPowerStates4.now) ∧ (wPowerStates4.power.coreOn = true) ∧ (wPowerStates4.nat Pwr.POWER_STATE = 1) ∧ (wPowerStates4.power.trans = 0) ∧ (wPowerStates4.flag Pwr.TRIM_AUTO = true) ∧ (wPowerStates4.nat Sec.LIFECYCLE ≠ 3)) ∧
    ((wPowerStates5.now < (5 : Nat) + 10000000)) ∧
    (((5 : Nat) + wPowerStates6.nat Pwr.TRIM_EXIT_S * 1000000000 ≤ wPowerStates6.now) ∧ (wPowerStates6.power.coreOn = true) ∧ (wPowerStates6.nat Pwr.POWER_STATE = 2) ∧ (wPowerStates6.power.trans = 0) ∧ (wPowerStates6.flag Pwr.TRIM_AUTO = true) ∧ (wPowerStates6.nat Sec.LIFECYCLE ≠ 3)) ∧
    ((wPowerStates7.now < (5 : Nat) + wPowerStates7.nat Pwr.TRIM_EXIT_S * 1000000000)) ∧
    ((wPowerStates8.power.coreOn = true) ∧ (wPowerStates8.power.trans = 1) ∧ (wPowerStates8.power.trim = false) ∧ (wPowerStates8.frameOf wPowerStates8.power.transAt.toNat < wPowerStates8.frame) ∧ ((∀ g : Fin 8, ({ wPowerStates8 with power := { wPowerStates8.power with trim := true } } : State).trimHeld g = false))) ∧
    ((wPowerStates9.power.coreOn = true) ∧ (wPowerStates9.power.trans = 1) ∧ (wPowerStates9.power.trim = true) ∧ ((∀ n ∈ trimPipes, (wPowerStates9.pipe n).arriving = [] ∧ (wPowerStates9.pipe n).ingress = [] ∧ (wPowerStates9.pipe n).recirc = []))) ∧
    ((tPower { coreOn := true, trans := 2 }).power.coreOn = true ∧ (tPower { coreOn := true, trans := 2 }).power.trans = 2 ∧ (tPower { coreOn := true, trans := 2 }).power.commits = []) :=
  by and_intros <;> first | decide +kernel | exact ctrlIn_good _ _ _ | rfl | exact Nat.ne_of_lt (Nat.lt_succ_self _)

/-- PowerStatesMore: every clause. -/
theorem witness_PowerStatesMore :
    ((wPowerStatesMore0.wakeOn (0 : Fin 3) = true) ∧ ((0 : Fin 3).val ≠ 2) ∧ ((9 : Nat) + 1000000 ≤ wPowerStatesMore0.now) ∧ (wPowerStatesMore0.power.coreOn = true) ∧ (wPowerStatesMore0.power.tripped = false) ∧ (wPowerStatesMore0.power.trans = 3) ∧ (wPowerStatesMore0.power.wake = none)) ∧
    ((wPowerStatesMore1.wakeOn (0 : Fin 3) = true) ∧ ((0 : Fin 3).val ≠ 2) ∧ ((9 : Nat) + 1000000 ≤ wPowerStatesMore1.now) ∧ (wPowerStatesMore1.power.coreOn = false) ∧ (wPowerStatesMore1.power.tripped = false) ∧ (wPowerStatesMore1.power.st = 3) ∧ (wPowerStatesMore1.power.trip = none)) ∧
    ((wPowerStatesMore2.now < (9 : Nat) + 1000000)) ∧
    ((tPower { coreOn := true, trans := 3, stage := 4 }).power.coreOn = true ∧ (tPower { coreOn := true, trans := 3, stage := 4 }).power.trans = 3 ∧ (tPower { coreOn := true, trans := 3, stage := 4 }).power.wake = none ∧ (tPower { coreOn := true, trans := 3, stage := 4 }).power.stage = 4 ∧ ((tPower { coreOn := true, trans := 3, stage := 4 }).now : Int) - (tPower { coreOn := true, trans := 3, stage := 4 }).power.transAt ≤ 300000000) ∧
    ((wPowerStatesMore4.power.coreOn = true) ∧ (wPowerStatesMore4.power.warned = false) ∧ ((5 : Nat) + 1000000000 ≤ wPowerStatesMore4.now) ∧ (wPowerStatesMore4.get Sta.TJ_WARN_C * 1000 ≤ (100000 : Int))) ∧
    ((wPowerStatesMore5.power.coreOn = true) ∧ (wPowerStatesMore5.now < (5 : Nat) + 1000000000)) ∧
    (tOn.power.coreOn = true) ∧
    ((tOn [] 1000000).power.coreOn = true ∧ 0 + 1000000 ≤ (tOn [] 1000000).now ∧ (120000 : Int) ≤ 120000) ∧
    ((-100000 : Int) < ((tOn [(Sta.TJ_WARN_C.addr 0 0 0, 60)]).get Sta.TJ_WARN_C - 10) * 1000) ∧
    (tOn.power.coreOn = true) ∧
    (tOn.power.coreOn = true) ∧
    ((tOn [] 1000).power.coreOn = true ∧ ((tOn [] 1000).pipe 0).ingress = [] ∧ ((tOn [] 1000).pipe 0).arriving = [] ∧ ((tOn [] 1000).pipe 0).idleAt + 1000 ≤ (tOn [] 1000).now) ∧
    ((tOn [] 100005).power.coreOn = true ∧ 5 + 100000 ≤ (tOn [] 100005).now) ∧
    ((wPowerStatesMore13.power.coreOn = true) ∧ (wPowerStatesMore13.host.coreIrqAt.find? (3 : Fin 8).val = some (5 : Nat)) ∧ ((5 : Nat) ≤ (5 : Nat))) ∧
    ((wPowerStatesMore14.power.coreOn = true) ∧ ((wPowerStatesMore14.nat Pwr.CH_FITTED).testBit (7 : Fin 8) = true) ∧ (Tab.find? wPowerStatesMore14.mem.asleep (7 : Fin 8) = none) ∧ (wPowerStatesMore14.ddrHeld (7 : Fin 8) = false) ∧ ((7 : Fin 8).val ∉ wPowerStatesMore14.mem.lap) ∧ (wPowerStatesMore14.mem.access.getD (7 : Fin 8) 0 + 10000000 ≤ wPowerStatesMore14.now)) ∧
    ((wPowerStatesMore15.power.coreOn = true) ∧ (wPowerStatesMore15.ddrHeld (7 : Fin 8) = true ∨ wPowerStatesMore15.now < wPowerStatesMore15.mem.access.getD (7 : Fin 8) 0 + 10000000)) ∧
    ((wPowerStatesMore16.power.coreOn = true) ∧ (Tab.find? wPowerStatesMore16.mem.asleep (3 : Fin 8) = some (5 : Nat)) ∧ ((3 : Fin 8).val ∈ wPowerStatesMore16.mem.waking)) :=
  by and_intros <;> first | decide +kernel | exact ctrlIn_good _ _ _ | rfl | exact Nat.ne_of_lt (Nat.lt_succ_self _)

/-- StartPhases: every clause. -/
theorem witness_StartPhases :
    ((wStartPhases0.power.coreOn = true) ∧ (wStartPhases0.nat Sta.START_PHASE = 2) ∧ (wStartPhases0.framer = []) ∧ ((0 : Nat) ≤ 1) ∧ (({ wStartPhases0.secu with rec0 := if (true : Bool) then wStartPhases0.secu.rec0 else none, rec1 := if (true : Bool) then wStartPhases0.secu.rec1 else none } : Secure).pref = (0 : Nat))) ∧
    ((wStartPhases1.power.coreOn = true) ∧ (wStartPhases1.nat Sta.START_PHASE = 3) ∧ (wStartPhases1.journal.present = false) ∧ (wStartPhases1.records 0x4200 = [])) ∧
    ((wStartPhases2.power.coreOn = true) ∧ (wStartPhases2.nat Sta.START_PHASE = 3) ∧ (wStartPhases2.journal.present = true) ∧ (wStartPhases2.journal.version = 0x0203) ∧ (wStartPhases2.journal.factory = false) ∧ (wStartPhases2.journal.image.sorted = true) ∧ (wStartPhases2.records 0x4200 = []) ∧ ((∀ e ∈ wStartPhases2.journal.image, 0x3000 ≤ e.1.index ∧ e.1.index < 0x4200))) ∧
    ((wStartPhases3.power.coreOn = true) ∧ (wStartPhases3.nat Sta.START_PHASE = 4) ∧ ((∀ g : Fin 8, wStartPhases3.flag Upl.ENABLE g = false)) ∧ (wStartPhases3.flag Twin.TWIN_ENABLE = false) ∧ (wStartPhases3.flag Leg.LEGACY_ENABLE = false) ∧ ((∀ k : Fin 8, ([32, 0, 16, 256] : List Nat).getD k 0 ≤ 256))) ∧
    ((wStartPhases4.power.coreOn = true) ∧ (wStartPhases4.waveDue = true) ∧ ((9 : Fin 64).val % 8 = wStartPhases4.power.waves) ∧ (wStartPhases4.inWave (9 : Fin 64) (1 : Fin 2) = true) ∧ (wStartPhases4.chState (9 : Fin 64) (1 : Fin 2) = 0) ∧ (wStartPhases4.moduleMissing (9 : Fin 64) (1 : Fin 2) = false)) ∧
    ((wStartPhases5.power.coreOn = true) ∧ (wStartPhases5.nat Pwr.POWER_STATE = 0) ∧ (5 ≤ wStartPhases5.nat Sta.START_PHASE) ∧ (8 ≤ wStartPhases5.power.waves) ∧ (wStartPhases5.roleSettled = true) ∧ (wStartPhases5.power.low = false)) :=
  by and_intros <;> first | decide +kernel | exact ctrlIn_good _ _ _ | rfl | exact Nat.ne_of_lt (Nat.lt_succ_self _)

/-- ChannelTargets: every clause. -/
theorem witness_ChannelTargets :
    ((wChannelTargets0.power.coreOn = true) ∧ (wChannelTargets0.heldByTwin (9 : Fin 64) (1 : Fin 2) = false) ∧ ((wChannelTargets0.chState (9 : Fin 64) (1 : Fin 2) = 1 ∨ wChannelTargets0.chState (9 : Fin 64) (1 : Fin 2) = 2 ∨ wChannelTargets0.chState (9 : Fin 64) (1 : Fin 2) = 3))) ∧
    ((wChannelTargets1.power.coreOn = true) ∧ (wChannelTargets1.heldByTwin (9 : Fin 64) (1 : Fin 2) = false) ∧ (wChannelTargets1.chState (9 : Fin 64) (1 : Fin 2) = 4)) ∧
    ((wChannelTargets2.power.coreOn = true) ∧ (wChannelTargets2.heldByTwin (63 : Fin 64) (0 : Fin 2) = false) ∧ (wChannelTargets2.chState (63 : Fin 64) (0 : Fin 2) = 3) ∧ ((wChannelTargets2.ch (63 : Fin 64) (0 : Fin 2)).testing = false)) ∧
    ((wChannelTargets3.power.coreOn = true) ∧ (wChannelTargets3.heldByTwin (63 : Fin 64) (0 : Fin 2) = false) ∧ (wChannelTargets3.chState (63 : Fin 64) (0 : Fin 2) = 2) ∧ ((wChannelTargets3.ch (63 : Fin 64) (0 : Fin 2)).testing = false) ∧ (wChannelTargets3.osbRuns = true)) ∧
    ((wChannelTargets4.power.coreOn = true) ∧ (wChannelTargets4.heldByTwin (63 : Fin 64) (0 : Fin 2) = false) ∧ (wChannelTargets4.chState (63 : Fin 64) (0 : Fin 2) = 4) ∧ ((wChannelTargets4.ch (63 : Fin 64) (0 : Fin 2)).testing = false) ∧ ((.chCmdLit 63 0 : Instr) = .chCmdDark (63 : Fin 64) (0 : Fin 2) ∨ (.chCmdLit 63 0 : Instr) = .chCmdLit (63 : Fin 64) (0 : Fin 2))) ∧
    ((wChannelTargets5.power.coreOn = true) ∧ (wChannelTargets5.heldByTwin (9 : Fin 64) (1 : Fin 2) = false) ∧ ((wChannelTargets5.ch (9 : Fin 64) (1 : Fin 2)).testing = true) ∧ ((.chCmdLit 9 1 : Instr) = .chCmdDark (9 : Fin 64) (1 : Fin 2) ∨ (.chCmdLit 9 1 : Instr) = .chCmdLit (9 : Fin 64) (1 : Fin 2))) ∧
    ((wChannelTargets6.power.coreOn = true) ∧ (wChannelTargets6.heldByTwin (9 : Fin 64) (1 : Fin 2) = true) ∧ ((.chCmdLit 9 1 : Instr) = .chCmdOff (9 : Fin 64) (1 : Fin 2) ∨ (.chCmdLit 9 1 : Instr) = .chCmdDark (9 : Fin 64) (1 : Fin 2) ∨ (.chCmdLit 9 1 : Instr) = .chCmdLit (9 : Fin 64) (1 : Fin 2))) :=
  by and_intros <;> first | decide +kernel | exact ctrlIn_good _ _ _ | rfl | exact Nat.ne_of_lt (Nat.lt_succ_self _)

/-- ChannelTransitions: every clause. -/
theorem witness_ChannelTransitions :
    ((wChannelTransitions0.power.coreOn = true) ∧ ((wChannelTransitions0.ch (17 : Fin 64) (0 : Fin 2)).pend = true) ∧ (wChannelTransitions0.chState (17 : Fin 64) (0 : Fin 2) = 3) ∧ (wChannelTransitions0.nat Pon.CH_CMD (17 : Fin 64) (0 : Fin 2) = 2) ∧ (wChannelTransitions0.osbRuns = true)) ∧
    ((wChannelTransitions1.power.coreOn = true) ∧ ((wChannelTransitions1.ch (17 : Fin 64) (0 : Fin 2)).pend = true) ∧ (wChannelTransitions1.nat Pon.CH_CMD (17 : Fin 64) (0 : Fin 2) = 0) ∧ (wChannelTransitions1.chState (17 : Fin 64) (0 : Fin 2) = 1 ∨ wChannelTransitions1.chState (17 : Fin 64) (0 : Fin 2) = 2 ∨ wChannelTransitions1.chState (17 : Fin 64) (0 : Fin 2) = 3)) ∧
    ((wChannelTransitions2.power.coreOn = true) ∧ (wChannelTransitions2.chState (17 : Fin 64) (0 : Fin 2) = 2 ∨ wChannelTransitions2.chState (17 : Fin 64) (0 : Fin 2) = 3)) ∧
    ((wChannelTransitions3.power.coreOn = true) ∧ (wChannelTransitions3.chState (17 : Fin 64) (0 : Fin 2) = 1) ∧ ((wChannelTransitions3.ch (17 : Fin 64) (0 : Fin 2)).warmAt + wChannelTransitions3.eff Pon.WARM_TIMEOUT_S (17 : Fin 64) * 1000000000 ≤ wChannelTransitions3.now)) ∧
    ((wChannelTransitions2.power.coreOn = true) ∧ (wChannelTransitions2.chState (17 : Fin 64) (0 : Fin 2) = 1 ∨ wChannelTransitions2.chState (17 : Fin 64) (0 : Fin 2) = 2 ∨ wChannelTransitions2.chState (17 : Fin 64) (0 : Fin 2) = 3)) ∧
    ((wChannelTransitions5.power.coreOn = true)) ∧
    ((wChannelTransitions6.power.coreOn = true) ∧ (wChannelTransitions6.chState (9 : Fin 64) (wChannelTransitions6.nat Pon.TEST_CHANNEL (9 : Fin 64)) = 0) ∧ (((.testModePrbsRx 9 : Instr) = .testModePrbsTx (9 : Fin 64) ∧ (2 : Nat) = 1) ∨ ((.testModePrbsRx 9 : Instr) = .testModePrbsRx (9 : Fin 64) ∧ (2 : Nat) = 2) ∨ ((.testModePrbsRx 9 : Instr) = .testModeLoopback (9 : Fin 64) ∧ (2 : Nat) = 3))) ∧
    ((wChannelTransitions7.power.coreOn = true) ∧ (wChannelTransitions7.chState (9 : Fin 64) (wChannelTransitions7.nat Pon.TEST_CHANNEL (9 : Fin 64)) ≠ 0) ∧ ((.testModeLoopback 9 : Instr) = .testModePrbsTx (9 : Fin 64) ∨ (.testModeLoopback 9 : Instr) = .testModePrbsRx (9 : Fin 64) ∨ (.testModeLoopback 9 : Instr) = .testModeLoopback (9 : Fin 64))) ∧
    ((wChannelTransitions8.power.coreOn = true) ∧ (wChannelTransitions8.nat Pon.TEST_MODE (9 : Fin 64) = 2)) :=
  by and_intros <;> first | decide +kernel | exact ctrlIn_good _ _ _ | rfl | exact Nat.ne_of_lt (Nat.lt_succ_self _)

/-- BurstReception: every clause. -/
theorem witness_BurstReception :
    ((wBurstReception0.power.coreOn = true) ∧ ((wBurstReception0.grantCh (17 : Fin 64) (0 : Fin 2)).toIssue = ({ onu := 7, start := 1300000 } : Notice) :: ([{ onu := 8, start := 2300000 }] : List Notice)) ∧ (wBurstReception0.twin.takeN = none) ∧ ((({ onu := 7, start := 1300000 } : Notice).start : Int) + wBurstReception0.feeder (17 : Fin 64) (0 : Fin 2) ≤ (wBurstReception0.now : Int) * 1000 + 400000)) ∧
    ((wBurstReception1.power.coreOn = true) ∧ ((wBurstReception1.ch (17 : Fin 64) (0 : Fin 2)).link = ({ onu := 7, start := 1300000, stop := 1400000 } : Notice) :: ([] : List Notice)) ∧ (wBurstReception1.noticeBad (17 : Fin 64) (0 : Fin 2) ({ onu := 7, start := 1300000, stop := 1400000 } : Notice) = false) ∧ (({ onu := 7, start := 1300000, stop := 1400000 } : Notice).quiet = false)) ∧
    ((wBurstReception2.power.coreOn = true) ∧ ((wBurstReception2.ch (17 : Fin 64) (0 : Fin 2)).link = ({ onu := 7, start := 1300000, stop := 1400000 } : Notice) :: ([] : List Notice)) ∧ (wBurstReception2.noticeBad (17 : Fin 64) (0 : Fin 2) ({ onu := 7, start := 1300000, stop := 1400000 } : Notice) = true)) ∧
    ((wBurstReception3.power.coreOn = true) ∧ ((33 : Fin 64).val / 32 = (1 : Fin 2).val) ∧ (arbPick (wBurstReception3.arb.getD (1 : Fin 2).val 0) (wBurstReception3.preloadPorts (1 : Fin 2)) = some (0x040 + (33 : Fin 64).val)) ∧ ((wBurstReception3.ch (33 : Fin 64) 0).bursts = [({ slot := true, dflt := 77 } : Burst)]) ∧ (({ slot := true, dflt := 77 } : Burst).slot = true) ∧ (({ slot := true, dflt := 77 } : Burst).loaded = none) ∧ (({ slot := true, dflt := 77 } : Burst).ended = false) ∧ (wBurstReception3.storeWrites (1 : Fin 2) = [])) ∧
    ((wBurstReception4.power.coreOn = true) ∧ ((wBurstReception4.ch (17 : Fin 64) (1 : Fin 2)).bursts = [({ n := { start := 5000000 }, slot := true, loaded := some 9, fromStore := true } : Burst)]) ∧ (({ n := { start := 5000000 }, slot := true, loaded := some 9, fromStore := true } : Burst).started = false) ∧ (({ n := { start := 5000000 }, slot := true, loaded := some 9, fromStore := true } : Burst).ended = false) ∧ (({ n := { start := 5000000 }, slot := true, loaded := some 9, fromStore := true } : Burst).n.quiet = false) ∧ (({ n := { start := 5000000 }, slot := true, loaded := some 9, fromStore := true } : Burst).loaded = some (9 : Nat)) ∧ (({ n := { start := 5000000 }, slot := true, loaded := some 9, fromStore := true } : Burst).fromStore = true) ∧ ((wBurstReception4.optic (17 : Fin 64)).trgFree ≤ ((({ n := { start := 5000000 }, slot := true, loaded := some 9, fromStore := true } : Burst).n.delim + wBurstReception4.feederAt (17 : Fin 64) (1 : Fin 2) ({ n := { start := 5000000 }, slot := true, loaded := some 9, fromStore := true } : Burst).n.start).toNat + bitsPs ({ n := { start := 5000000 }, slot := true, loaded := some 9, fromStore := true } : Burst).n.rate 64) / 40000 * 40 - 160)) ∧
    ((wBurstReception5.power.coreOn = true) ∧ ((wBurstReception5.ch (17 : Fin 64) (1 : Fin 2)).bursts = [({ n := { start := 5000000, quiet := true }, loaded := some 1025 } : Burst)]) ∧ (({ n := { start := 5000000, quiet := true }, loaded := some 1025 } : Burst).started = false) ∧ (({ n := { start := 5000000, quiet := true }, loaded := some 1025 } : Burst).ended = false) ∧ (({ n := { start := 5000000, quiet := true }, loaded := some 1025 } : Burst).n.quiet = true) ∧ (({ n := { start := 5000000, quiet := true }, loaded := some 1025 } : Burst).loaded = some (1025 : Nat))) ∧
    ((wBurstReception6.power.coreOn = true) ∧ ((wBurstReception6.ch (17 : Fin 64) (1 : Fin 2)).bursts = [({ n := { start := 5000000 } } : Burst)]) ∧ (({ n := { start := 5000000 } } : Burst).started = false) ∧ (({ n := { start := 5000000 } } : Burst).ended = false) ∧ (({ n := { start := 5000000 } } : Burst).n.quiet = false) ∧ (({ n := { start := 5000000 } } : Burst).loaded = none)) ∧
    ((wBurstReception7.power.coreOn = true) ∧ ((2 : Nat) ≤ 3) ∧ ((wBurstReception7.ch (17 : Fin 64) (1 : Fin 2)).bursts = [({ n := { start := 5000000 }, started := true, slot := true } : Burst)]) ∧ (({ n := { start := 5000000 }, started := true, slot := true } : Burst).started = true) ∧ (({ n := { start := 5000000 }, started := true, slot := true } : Burst).ended = false) ∧ (({ n := { start := 5000000 }, started := true, slot := true } : Burst).outcome = .pending) ∧ (({ n := { start := 5000000 }, started := true, slot := true } : Burst).n.quiet = false) ∧ (({ n := { start := 5000000 }, started := true, slot := true } : Burst).delim = none) ∧ (wBurstReception7.inGuard (17 : Fin 64) (1 : Fin 2) ({ n := { start := 5000000 }, started := true, slot := true } : Burst).n (6300000 : Nat) = true) ∧ (wBurstReception7.presence (17 : Fin 64) (1 : Fin 2) ({ n := { start := 5000000 }, started := true, slot := true } : Burst).n ([(5000000, 6300000, 900)] : Envelope) = true)) ∧
    ((wBurstReception7.power.coreOn = true) ∧ ((2 : Nat) ≤ 3) ∧ ((wBurstReception7.ch (17 : Fin 64) (1 : Fin 2)).bursts = [({ n := { start := 5000000 }, started := true, slot := true } : Burst)]) ∧ (({ n := { start := 5000000 }, started := true, slot := true } : Burst).started = true) ∧ (({ n := { start := 5000000 }, started := true, slot := true } : Burst).ended = false) ∧ (({ n := { start := 5000000 }, started := true, slot := true } : Burst).outcome = .pending) ∧ (({ n := { start := 5000000 }, started := true, slot := true } : Burst).n.quiet = false) ∧ (({ n := { start := 5000000 }, started := true, slot := true } : Burst).delim = none) ∧ (wBurstReception7.inGuard (17 : Fin 64) (1 : Fin 2) ({ n := { start := 5000000 }, started := true, slot := true } : Burst).n (6300000 : Nat) = true) ∧ (wBurstReception7.presence (17 : Fin 64) (1 : Fin 2) ({ n := { start := 5000000 }, started := true, slot := true } : Burst).n ([(5000000, 5007999, 900)] : Envelope) = false)) ∧
    ((tOn.power.coreOn = true) ∧ (3 < (4 : Nat))) ∧
    ((wBurstReception10.power.coreOn = true) ∧ ((wBurstReception10.ch (17 : Fin 64) (1 : Fin 2)).bursts = [({ n := { start := 5000000 }, started := true, slot := true } : Burst)]) ∧ (({ n := { start := 5000000 }, started := true, slot := true } : Burst).started = true) ∧ (({ n := { start := 5000000 }, started := true, slot := true } : Burst).ended = false) ∧ (({ n := { start := 5000000 }, started := true, slot := true } : Burst).outcome = .pending) ∧ (({ n := { start := 5000000 }, started := true, slot := true } : Burst).n.quiet = false) ∧ (wBurstReception10.presence (17 : Fin 64) (1 : Fin 2) ({ n := { start := 5000000 }, started := true, slot := true } : Burst).n ([(5000000, 5008000, 900)] : Envelope) = (true : Bool)) ∧ ((true : Bool) = false ∨ ({ n := { start := 5000000 }, started := true, slot := true } : Burst).delim = none) ∧ ((({ n := { start := 5000000 }, started := true, slot := true } : Burst).n.delim : Int) + wBurstReception10.feederAt (17 : Fin 64) (1 : Fin 2) ({ n := { start := 5000000 }, started := true, slot := true } : Burst).n.start + wBurstReception10.nat Pon.WINDOW_NS (17 : Fin 64) (1 : Fin 2) * 1000 ≤ (wBurstReception10.now : Int) * 1000)) ∧
    ((wBurstReception11.power.coreOn = true) ∧ ((wBurstReception11.ch (17 : Fin 64) (1 : Fin 2)).bursts = [({ n := { start := 5000000 }, started := true, slot := true, delim := some (6300000, 1) } : Burst)]) ∧ (({ n := { start := 5000000 }, started := true, slot := true, delim := some (6300000, 1) } : Burst).started = true) ∧ (({ n := { start := 5000000 }, started := true, slot := true, delim := some (6300000, 1) } : Burst).ended = false) ∧ (({ n := { start := 5000000 }, started := true, slot := true, delim := some (6300000, 1) } : Burst).outcome = .pending) ∧ (({ n := { start := 5000000 }, started := true, slot := true, delim := some (6300000, 1) } : Burst).n.quiet = false) ∧ (wBurstReception11.presence (17 : Fin 64) (1 : Fin 2) ({ n := { start := 5000000 }, started := true, slot := true, delim := some (6300000, 1) } : Burst).n ([(5000000, 5008000, 900)] : Envelope) = true) ∧ (({ n := { start := 5000000 }, started := true, slot := true, delim := some (6300000, 1) } : Burst).delim = some ((6300000 : Nat), (1 : Nat))) ∧ ((({ n := { start := 5000000 }, started := true, slot := true, delim := some (6300000, 1) } : Burst).n.delim : Int) + wBurstReception11.feederAt (17 : Fin 64) (1 : Fin 2) ({ n := { start := 5000000 }, started := true, slot := true, delim := some (6300000, 1) } : Burst).n.start + wBurstReception11.nat Pon.WINDOW_NS (17 : Fin 64) (1 : Fin 2) * 1000 ≤ (wBurstReception11.now : Int) * 1000)) ∧
    ((wBurstReception12.power.coreOn = true) ∧ ((wBurstReception12.ch (17 : Fin 64) (1 : Fin 2)).bursts = [({ n := { start := 5000000 }, started := true, slot := true, outcome := .received } : Burst)]) ∧ (({ n := { start := 5000000 }, started := true, slot := true, outcome := .received } : Burst).started = true) ∧ (({ n := { start := 5000000 }, started := true, slot := true, outcome := .received } : Burst).ended = false) ∧ (({ n := { start := 5000000 }, started := true, slot := true, outcome := .received } : Burst).coded = false) ∧ (({ n := { start := 5000000 }, started := true, slot := true, outcome := .received } : Burst).header = .pending) ∧ (wBurstReception12.storeWrites ((17 : Fin 64) / 32) = [])) ∧
    ((wBurstReception13.power.coreOn = true) ∧ ((∀ b ∈ (wBurstReception13.ch (17 : Fin 64) (1 : Fin 2)).bursts, b.ended = true)) ∧ ((wBurstReception13.ch (17 : Fin 64) (1 : Fin 2)).lastEnd + 16000 ≤ wBurstReception13.now * 1000) ∧ ((wBurstReception13.ch (17 : Fin 64) (1 : Fin 2)).testing = false)) ∧
    ((wBurstReception14.power.coreOn = true) ∧ ((wBurstReception14.ch (17 : Fin 64) (1 : Fin 2)).bursts = [({ n := { onu := 3, start := 5000000 }, started := true, slot := true, outcome := .received } : Burst)]) ∧ (({ n := { onu := 3, start := 5000000 }, started := true, slot := true, outcome := .received } : Burst).outcome = .received) ∧ (({ n := { onu := 3, start := 5000000 }, started := true, slot := true, outcome := .received } : Burst).header = .pending) ∧ (({ n := { onu := 3, start := 5000000 }, started := true, slot := true, outcome := .received } : Burst).ended = false)) :=
  by and_intros <;> first | decide +kernel | exact ctrlIn_good _ _ _ | rfl | exact Nat.ne_of_lt (Nat.lt_succ_self _)

/-- PortDetectors: every clause. -/
theorem witness_PortDetectors :
    ((wPortDetectors0.power.coreOn = true) ∧ ((wPortDetectors0.ch (17 : Fin 64) (1 : Fin 2)).frames = ((2 : Nat), ({ notified := 2, dark := 2, done := 2 } : FrameTally)) :: ([(3, {})] : Tab FrameTally)) ∧ ((2 : Nat) < wPortDetectors0.frame) ∧ (({ notified := 2, dark := 2, done := 2 } : FrameTally).notified ≤ ({ notified := 2, dark := 2, done := 2 } : FrameTally).done) ∧ (({ notified := 2, dark := 2, done := 2 } : FrameTally).notified ≠ 0) ∧ (({ notified := 2, dark := 2, done := 2 } : FrameTally).dark = ({ notified := 2, dark := 2, done := 2 } : FrameTally).notified) ∧ (wPortDetectors0.eff Pon.LOS_FRAMES (17 : Fin 64) ≤ (wPortDetectors0.ch (17 : Fin 64) (1 : Fin 2)).losRun + 1) ∧ (wPortDetectors0.flag Pon.LOS (17 : Fin 64) (1 : Fin 2) = false)) ∧
    ((wPortDetectors1.power.coreOn = true) ∧ ((wPortDetectors1.ch (17 : Fin 64) (1 : Fin 2)).frames = ((2 : Nat), ({ notified := 2, dark := 1, done := 2 } : FrameTally)) :: ([(3, {})] : Tab FrameTally)) ∧ ((2 : Nat) < wPortDetectors1.frame) ∧ (({ notified := 2, dark := 1, done := 2 } : FrameTally).notified ≤ ({ notified := 2, dark := 1, done := 2 } : FrameTally).done) ∧ (({ notified := 2, dark := 1, done := 2 } : FrameTally).notified ≠ 0) ∧ (({ notified := 2, dark := 1, done := 2 } : FrameTally).dark ≠ ({ notified := 2, dark := 1, done := 2 } : FrameTally).notified) ∧ (wPortDetectors1.eff Pon.LOS_CLEAR_FRAMES (17 : Fin 64) ≤ (wPortDetectors1.ch (17 : Fin 64) (1 : Fin 2)).losClearRun + 1) ∧ (wPortDetectors1.flag Pon.LOS (17 : Fin 64) (1 : Fin 2) = true)) ∧
    ((wPortDetectors2.power.coreOn = true) ∧ (wPortDetectors2.eff Pon.UNEXP_FRAMES (17 : Fin 64) ≤ (wPortDetectors2.ch (17 : Fin 64) (1 : Fin 2)).unexpRun + 1) ∧ (wPortDetectors2.flag Pon.UNEXP_LIGHT (17 : Fin 64) (1 : Fin 2) = false) ∧ (wPortDetectors2.flag ActCfg.ROGUE_ISOLATE (17 : Fin 64) = false) ∧ ((wPortDetectors2.ch (17 : Fin 64) (1 : Fin 2)).judged < wPortDetectors2.frame) ∧ (unexpLit (wPortDetectors2.eff Pon.PRES_THRESH (17 : Fin 64)) (wPortDetectors2.frameStart (wPortDetectors2.frame - 1) * 1000) (wPortDetectors2.frameStart (wPortDetectors2.frame - 1) * 1000 + 125000000) (wPortDetectors2.ch (17 : Fin 64) (1 : Fin 2)).opens ([(750150000, 750264000, 900)] : Envelope) = true)) ∧
    ((wPortDetectors3.power.coreOn = true) ∧ (wPortDetectors3.flag Pon.UNEXP_LIGHT (17 : Fin 64) (1 : Fin 2) = true) ∧ (wPortDetectors3.eff Pon.UNEXP_FRAMES (17 : Fin 64) ≤ (wPortDetectors3.ch (17 : Fin 64) (1 : Fin 2)).unexpClearRun + 1) ∧ ((wPortDetectors3.ch (17 : Fin 64) (1 : Fin 2)).judged < wPortDetectors3.frame) ∧ (unexpLit (wPortDetectors3.eff Pon.PRES_THRESH (17 : Fin 64)) (wPortDetectors3.frameStart (wPortDetectors3.frame - 1) * 1000) (wPortDetectors3.frameStart (wPortDetectors3.frame - 1) * 1000 + 125000000) (wPortDetectors3.ch (17 : Fin 64) (1 : Fin 2)).opens ([(750150000, 750263999, 900)] : Envelope) = false)) :=
  by and_intros <;> first | decide +kernel | exact ctrlIn_good _ _ _ | rfl | exact Nat.ne_of_lt (Nat.lt_succ_self _)

/-- Discovery: every clause. -/
theorem witness_Discovery :
    ((wDiscovery0.power.coreOn = true) ∧ (wDiscovery0.actLive (17 : Fin 64) (1 : Fin 2) = true) ∧ ((wDiscovery0.actCh (17 : Fin 64) (1 : Fin 2)).qwNext ≤ wDiscovery0.now) ∧ ((wDiscovery0.actCh (17 : Fin 64) (1 : Fin 2)).scan.running = false) ∧ (wDiscovery0.qwInterval (17 : Fin 64) (1 : Fin 2) = some (50000000 : Nat))) ∧
    ((wDiscovery1.power.coreOn = true) ∧ (wDiscovery1.actLive (17 : Fin 64) (1 : Fin 2) = true) ∧ ((wDiscovery1.ch (17 : Fin 64) (1 : Fin 2)).bursts = [({ n := { start := 5000000, stop := 9000000, quiet := true }, started := true } : Burst)]) ∧ (({ n := { start := 5000000, stop := 9000000, quiet := true }, started := true } : Burst).started = true) ∧ (({ n := { start := 5000000, stop := 9000000, quiet := true }, started := true } : Burst).n.quiet = true) ∧ (({ n := { start := 5000000, stop := 9000000, quiet := true }, started := true } : Burst).n.start ≤ (6000000 : Nat)) ∧ ((6000000 : Nat) < ({ n := { start := 5000000, stop := 9000000, quiet := true }, started := true } : Burst).n.stop) ∧ ((wDiscovery1.actCh (17 : Fin 64) (1 : Fin 2)).quiets.find? (fun e => e.1 == ({ n := { start := 5000000, stop := 9000000, quiet := true }, started := true } : Burst).n.start) = some (({ n := { start := 5000000, stop := 9000000, quiet := true }, started := true } : Burst).n.start, (4900000 : Int))) ∧ ((1234567890123456789 : Nat) < 2 ^ 64) ∧ (wDiscovery1.micOk (17 : Fin 64) (1 : Fin 2) 1023 (actPloam 1 1023 8 (1234567890123456789 : Nat)) (5 : Nat) = true) ∧ ((wDiscovery1.actCh (17 : Fin 64) (1 : Fin 2)).winSerials = []) ∧ (wDiscovery1.serialRec (1234567890123456789 : Nat) = none) ∧ (wDiscovery1.nat ActCfg.AUTH_MODE (17 : Fin 64) = 0) ∧ (wDiscovery1.freeOnuRec (17 : Fin 64) = some (8704 : Nat))) ∧
    ((wDiscovery2.power.coreOn = true) ∧ (wDiscovery2.actLive (17 : Fin 64) (1 : Fin 2) = true) ∧ ((wDiscovery2.ch (17 : Fin 64) (1 : Fin 2)).bursts = [({ n := { start := 5000000, stop := 9000000, quiet := true }, started := true } : Burst)]) ∧ (({ n := { start := 5000000, stop := 9000000, quiet := true }, started := true } : Burst).started = true) ∧ (({ n := { start := 5000000, stop := 9000000, quiet := true }, started := true } : Burst).n.quiet = true) ∧ (({ n := { start := 5000000, stop := 9000000, quiet := true }, started := true } : Burst).n.start ≤ (6000000 : Nat)) ∧ ((6000000 : Nat) < ({ n := { start := 5000000, stop := 9000000, quiet := true }, started := true } : Burst).n.stop) ∧ ((wDiscovery2.actCh (17 : Fin 64) (1 : Fin 2)).quiets.find? (fun e => e.1 == ({ n := { start := 5000000, stop := 9000000, quiet := true }, started := true } : Burst).n.start) = some (({ n := { start := 5000000, stop := 9000000, quiet := true }, started := true } : Burst).n.start, (4900000 : Int)))) ∧
    ((wDiscovery2.power.coreOn = true) ∧ (wDiscovery2.actLive (17 : Fin 64) (1 : Fin 2) = true) ∧ ((wDiscovery2.ch (17 : Fin 64) (1 : Fin 2)).bursts = [({ n := { start := 5000000, stop := 9000000, quiet := true }, started := true } : Burst)]) ∧ (({ n := { start := 5000000, stop := 9000000, quiet := true }, started := true } : Burst).started = true) ∧ (({ n := { start := 5000000, stop := 9000000, quiet := true }, started := true } : Burst).n.quiet = true) ∧ (({ n := { start := 5000000, stop := 9000000, quiet := true }, started := true } : Burst).n.start ≤ (6000000 : Nat)) ∧ ((6000000 : Nat) < ({ n := { start := 5000000, stop := 9000000, quiet := true }, started := true } : Burst).n.stop) ∧ ((wDiscovery2.actCh (17 : Fin 64) (1 : Fin 2)).quiets.find? (fun e => e.1 == ({ n := { start := 5000000, stop := 9000000, quiet := true }, started := true } : Burst).n.start) = some (({ n := { start := 5000000, stop := 9000000, quiet := true }, started := true } : Burst).n.start, (4900000 : Int))) ∧ ((7 : Nat) < 2 ^ 64) ∧ (wDiscovery2.eff FrCfg.PLOAM_MIC_CHECK (17 : Fin 64) ≠ 0) ∧ (Config.ploamMic (wDiscovery2.ploamKey (17 : Fin 64) (1 : Fin 2) 1023) (actPloam 1 1023 8 (7 : Nat)) ≠ (Config.ploamMic (({ tOn [(Pon.STATE.addr 17 1 0, 3)] 900000 with port := [(35, { bursts := [{ n := { start := 5000000, stop := 9000000, quiet := true }, started := true }] })] } : State).ploamKey 17 1 1023) (actPloam 1 1023 8 7) + 1 : Nat))) ∧
    ((wDiscovery4.power.coreOn = true) ∧ (wDiscovery4.onuAt (8704 : Nat) (17 : Fin 64) (1 : Fin 2)) ∧ (wDiscovery4.actLive (17 : Fin 64) (1 : Fin 2) = true) ∧ (wDiscovery4.rnat Onu.STATE (8704 : Nat) = 1) ∧ ((wDiscovery4.onuX (8704 : Nat)).since + wDiscovery4.nat ActCfg.PENDING_S (17 : Fin 64) * 1000000000 ≤ wDiscovery4.now)) ∧
    ((wDiscovery5.power.coreOn = true) ∧ (wDiscovery5.actLive (17 : Fin 64) (1 : Fin 2) = true) ∧ (wDiscovery5.rangingRec (17 : Fin 64) (1 : Fin 2) = some ((8704 : Nat), (4900000 : Int))) ∧ (wDiscovery5.onuAt (8704 : Nat) (17 : Fin 64) (1 : Fin 2)) ∧ (wDiscovery5.openWindow (17 : Fin 64) (1 : Fin 2) (100000000 : Nat) ≠ none) ∧ (wDiscovery5.micOk (17 : Fin 64) (1 : Fin 2) (wDiscovery5.rnat Onu.ONU_ID (8704 : Nat)) (actPloam 2 (wDiscovery5.rnat Onu.ONU_ID (8704 : Nat)) 36 ((5 : Nat) % 2 ^ 288)) (5 : Nat) = true) ∧ (wDiscovery5.rget Onu.REG_ID (8704 : Nat) = 0 ∨ wDiscovery5.rget Onu.REG_ID (8704 : Nat) = ((5 : Nat) % 2 ^ 288 : Nat))) ∧
    ((wDiscovery6.power.coreOn = true) ∧ (wDiscovery6.actLive (17 : Fin 64) (1 : Fin 2) = true) ∧ (wDiscovery6.rangingRec (17 : Fin 64) (1 : Fin 2) = some ((8704 : Nat), (4900000 : Int))) ∧ (wDiscovery6.onuAt (8704 : Nat) (17 : Fin 64) (1 : Fin 2)) ∧ (wDiscovery6.openWindow (17 : Fin 64) (1 : Fin 2) (100000000 : Nat) ≠ none) ∧ (wDiscovery6.micOk (17 : Fin 64) (1 : Fin 2) (wDiscovery6.rnat Onu.ONU_ID (8704 : Nat)) (actPloam 2 (wDiscovery6.rnat Onu.ONU_ID (8704 : Nat)) 36 ((5 : Nat) % 2 ^ 288)) (5 : Nat) = true) ∧ (wDiscovery6.rget Onu.REG_ID (8704 : Nat) ≠ 0) ∧ (wDiscovery6.rget Onu.REG_ID (8704 : Nat) ≠ ((5 : Nat) % 2 ^ 288 : Nat))) ∧
    ((wDiscovery7.power.coreOn = true) ∧ (wDiscovery7.actLive (17 : Fin 64) (1 : Fin 2) = true) ∧ (wDiscovery7.rangingRec (17 : Fin 64) (1 : Fin 2) = some ((8704 : Nat), (4900000 : Int))) ∧ (wDiscovery7.onuAt (8704 : Nat) (17 : Fin 64) (1 : Fin 2))) ∧
    ((wDiscovery8.power.coreOn = true) ∧ (wDiscovery8.onuAt (8704 : Nat) (17 : Fin 64) 1) ∧ (wDiscovery8.actLive (17 : Fin 64) 1 = true) ∧ ((77 : Nat) ∈ (wDiscovery8.onuX (8704 : Nat)).awaiting) ∧ (wDiscovery8.rnat Onu.STATE (8704 : Nat) = 4)) :=
  by and_intros <;> first | decide +kernel | exact ctrlIn_good _ _ _ | rfl | exact Nat.ne_of_lt (Nat.lt_succ_self _)

/-- OnuSupervision: every clause. -/
theorem witness_OnuSupervision :
    ((wOnuSupervision0.power.coreOn = true) ∧ ((wOnuSupervision0.ch (17 : Fin 64) (1 : Fin 2)).posts = .offset (9 : Nat) (3 : Nat) (700 : Nat) (-4 : Int) :: ([.unexpLight] : List PortPost)) ∧ (wOnuSupervision0.onuBy (17 : Fin 64) (1 : Fin 2) (9 : Nat) = some (8704 : Nat)) ∧ (wOnuSupervision0.rnat Onu.STATE (8704 : Nat) ≠ 7)) ∧
    ((wOnuSupervision1.power.coreOn = true) ∧ (wOnuSupervision1.onuAt (8704 : Nat) (17 : Fin 64) (1 : Fin 2)) ∧ (wOnuSupervision1.rnat Onu.STATE (8704 : Nat) = 5) ∧ ((wOnuSupervision1.onuX (8704 : Nat)).heldOffsets.find? (77 : Nat) = some (-505 : Int)) ∧ ((wOnuSupervision1.onuX (8704 : Nat)).holdUntil = none) ∧ (wOnuSupervision1.standby (17 : Fin 64) = false) ∧ (wOnuSupervision1.actLive (17 : Fin 64) (1 : Fin 2) = false)) ∧
    ((wOnuSupervision2.power.coreOn = true) ∧ (wOnuSupervision2.onuAt (8704 : Nat) (17 : Fin 64) (1 : Fin 2)) ∧ (wOnuSupervision2.rnat Onu.STATE (8704 : Nat) = 5) ∧ ((wOnuSupervision2.onuX (8704 : Nat)).heldOffsets.find? (77 : Nat) = some (-505 : Int)) ∧ ((wOnuSupervision2.onuX (8704 : Nat)).holdUntil = none) ∧ (wOnuSupervision2.standby (17 : Fin 64) = false) ∧ (wOnuSupervision2.actLive (17 : Fin 64) (1 : Fin 2) = true) ∧ (wOnuSupervision2.get ActCfg.DRIFT_ALARM_PS (17 : Fin 64) ≤ (((-505 : Int) - wOnuSupervision2.feederAt (17 : Fin 64) (1 : Fin 2) (77 : Nat)).natAbs : Int)) ∧ (0 ≤ wOnuSupervision2.rget Onu.EQD_PS (8704 : Nat) - ((-505 : Int) - wOnuSupervision2.feederAt (17 : Fin 64) (1 : Fin 2) (77 : Nat))) ∧ (wOnuSupervision2.rget Onu.EQD_PS (8704 : Nat) - ((-505 : Int) - wOnuSupervision2.feederAt (17 : Fin 64) (1 : Fin 2) (77 : Nat)) < wOnuSupervision2.teqd (17 : Fin 64))) ∧
    ((wOnuSupervision3.power.coreOn = true) ∧ ((wOnuSupervision3.onuX (8704 : Nat)).holdUntil = some (7 : Nat)) ∧ ((7 : Nat) ≤ wOnuSupervision3.frame)) ∧
    ((wOnuSupervision4.power.coreOn = true) ∧ ((wOnuSupervision4.ch (17 : Fin 64) (1 : Fin 2)).posts = .lost (9 : Nat) (3 : Nat) (700 : Nat) false :: ([.unexpLight] : List PortPost)) ∧ (wOnuSupervision4.onuBy (17 : Fin 64) (1 : Fin 2) (9 : Nat) = some (8704 : Nat)) ∧ (wOnuSupervision4.actLive (17 : Fin 64) (1 : Fin 2) = true) ∧ (wOnuSupervision4.rnat Onu.STATE (8704 : Nat) = 5) ∧ ((3 : Nat) ≠ wOnuSupervision4.rnat Onu.RATE (8704 : Nat)) ∧ (wOnuSupervision4.nat ActCfg.LOB_BURSTS (17 : Fin 64) ≤ (wOnuSupervision4.onuX (8704 : Nat)).darkRun + 1)) ∧
    ((wOnuSupervision5.power.coreOn = true) ∧ ((wOnuSupervision5.ch (17 : Fin 64) (1 : Fin 2)).posts = .wrongSource (3 : Nat) (9 : Nat) (700 : Nat) :: ([] : List PortPost)) ∧ (wOnuSupervision5.onuBy (17 : Fin 64) (1 : Fin 2) (3 : Nat) = none) ∧ (wOnuSupervision5.onuBy (17 : Fin 64) (1 : Fin 2) (9 : Nat) = some (8704 : Nat))) ∧
    ((wOnuSupervision6.power.coreOn = true) ∧ (wOnuSupervision6.onuAt (8704 : Nat) (17 : Fin 64) (1 : Fin 2)) ∧ (wOnuSupervision6.actLive (17 : Fin 64) (1 : Fin 2) = true) ∧ (wOnuSupervision6.rnat Onu.STATE (8704 : Nat) = 6) ∧ ((wOnuSupervision6.onuX (8704 : Nat)).probeMap = some (3 : Nat)) ∧ ((3 : Nat) + wOnuSupervision6.nat ActCfg.LOST_PROBE_FRAMES (17 : Fin 64) ≤ wOnuSupervision6.frame)) ∧
    ((wOnuSupervision7.power.coreOn = true) ∧ (wOnuSupervision7.onuAt (8704 : Nat) (17 : Fin 64) (1 : Fin 2)) ∧ (wOnuSupervision7.actLive (17 : Fin 64) (1 : Fin 2) = true) ∧ (wOnuSupervision7.rnat Onu.STATE (8704 : Nat) = 6) ∧ ((wOnuSupervision7.onuX (8704 : Nat)).since + wOnuSupervision7.nat ActCfg.LOST_TIMEOUT_S (17 : Fin 64) * 1000000000 ≤ wOnuSupervision7.now)) ∧
    ((wOnuSupervision8.power.coreOn = true) ∧ (wOnuSupervision8.onuAt (8704 : Nat) (17 : Fin 64) 0) ∧ (wOnuSupervision8.actLive (17 : Fin 64) 0 = true) ∧ (wOnuSupervision8.rnat Onu.STATE (8704 : Nat) = 5) ∧ ((wOnuSupervision8.onuX (8704 : Nat)).evalSec < wOnuSupervision8.sec) ∧ (wOnuSupervision8.outcomesOpen (8704 : Nat) wOnuSupervision8.sec = false) ∧ (wOnuSupervision8.rnat Onu.RATE (8704 : Nat) ≤ 3) ∧ (wOnuSupervision8.stepEligible (8704 : Nat) wOnuSupervision8.sec = true)) ∧
    ((wOnuSupervision9.power.coreOn = true) ∧ (wOnuSupervision9.onuAt (8704 : Nat) (17 : Fin 64) 0) ∧ (wOnuSupervision9.actLive (17 : Fin 64) 0 = true) ∧ (wOnuSupervision9.rnat Onu.STATE (8704 : Nat) = 5) ∧ ((wOnuSupervision9.onuX (8704 : Nat)).evalSec < wOnuSupervision9.sec) ∧ (wOnuSupervision9.outcomesOpen (8704 : Nat) wOnuSupervision9.sec = false) ∧ (wOnuSupervision9.rnat Onu.RATE (8704 : Nat) ≤ 3) ∧ (wOnuSupervision9.stepEligible (8704 : Nat) wOnuSupervision9.sec = false) ∧ (wOnuSupervision9.stepDownDue (8704 : Nat) wOnuSupervision9.sec = true) ∧ (wOnuSupervision9.rget Onu.TRIAL (8704 : Nat) = 0)) ∧
    ((wOnuSupervision10.power.coreOn = true) ∧ (wOnuSupervision10.onuAt (8704 : Nat) (17 : Fin 64) 0) ∧ (wOnuSupervision10.actLive (17 : Fin 64) 0 = true) ∧ (wOnuSupervision10.rnat Onu.STATE (8704 : Nat) = 5) ∧ ((wOnuSupervision10.onuX (8704 : Nat)).evalSec < wOnuSupervision10.sec) ∧ (wOnuSupervision10.outcomesOpen (8704 : Nat) wOnuSupervision10.sec = false) ∧ (wOnuSupervision10.rnat Onu.RATE (8704 : Nat) ≤ 3) ∧ (wOnuSupervision10.stepEligible (8704 : Nat) wOnuSupervision10.sec = false) ∧ (wOnuSupervision10.stepDownDue (8704 : Nat) wOnuSupervision10.sec = false)) ∧
    ((wOnuSupervision11.power.coreOn = true) ∧ (wOnuSupervision11.actLive (17 : Fin 64) (0 : Fin 2) = true) ∧ ((wOnuSupervision11.actCh (17 : Fin 64) (0 : Fin 2)).scan.running = true) ∧ ((wOnuSupervision11.actCh (17 : Fin 64) (0 : Fin 2)).scan.startFrame + wOnuSupervision11.nat ActCfg.ISO_FRAMES (17 : Fin 64) ≤ wOnuSupervision11.frame) ∧ ((wOnuSupervision11.actCh (17 : Fin 64) (0 : Fin 2)).scan.light = false) ∧ (wOnuSupervision11.rnat Onu.STATE (wOnuSupervision11.actCh (17 : Fin 64) (0 : Fin 2)).scan.cur = 7) ∧ ((wOnuSupervision11.onuX (wOnuSupervision11.actCh (17 : Fin 64) (0 : Fin 2)).scan.cur).observed = true)) ∧
    ((tOn.power.coreOn = true)) :=
  by and_intros <;> first | decide +kernel | exact ctrlIn_good _ _ _ | rfl | exact Nat.ne_of_lt (Nat.lt_succ_self _)

/-- MapCycle: every clause. -/
theorem witness_MapCycle :
    ((wMapCycle0.power.coreOn = true) ∧ (wMapCycle0.engineOn = true) ∧ (wMapCycle0.nextMap ≤ wMapCycle0.frameOf (wMapCycle0.now + 15000)) ∧ (wMapCycle0.frameStart (wMapCycle0.frameOf (wMapCycle0.now + 15000)) ≤ wMapCycle0.now + 15000)) ∧
    ((wMapCycle1.power.coreOn = true) ∧ (wMapCycle1.frameOf (wMapCycle1.now + 15000) < wMapCycle1.nextMap ∨ wMapCycle1.engineOn = false)) ∧
    ((wMapCycle2.power.coreOn = true) ∧ ((wMapCycle2.grantCh (17 : Fin 64) (1 : Fin 2)).closed = some ({ k := 1001, bursts := [{ onu := 3, structs := [{ allocId := 3, ploam := true }] }] } : MapRec))) ∧
    ((wMapCycle3.power.coreOn = true) ∧ ((wMapCycle3.grantCh (17 : Fin 64) (1 : Fin 2)).closed = some ({ k := 1001, bursts := [{ onu := 3, structs := [{ allocId := 3, ploam := true }] }] } : MapRec)) ∧ ((wMapCycle3.standby (17 : Fin 64) = false → wMapCycle3.frameStart ({ k := 1001, bursts := [{ onu := 3, structs := [{ allocId := 3, ploam := true }] }] } : MapRec).k ≤ wMapCycle3.now + 4000)) ∧ ((wMapCycle3.standby (17 : Fin 64) = true → wMapCycle3.frameStart ({ k := 1001, bursts := [{ onu := 3, structs := [{ allocId := 3, ploam := true }] }] } : MapRec).k + 16000 ≤ wMapCycle3.now))) ∧
    ((tOn.power.coreOn = true) ∧ ((tOn.grantCh (17 : Fin 64) (1 : Fin 2)).closed = none)) :=
  by and_intros <;> first | decide +kernel | exact ctrlIn_good _ _ _ | rfl | exact Nat.ne_of_lt (Nat.lt_succ_self _)

/-- GrantInputs: every clause. -/
theorem witness_GrantInputs :
    ((wGrantInputs0.power.coreOn = true) ∧ (wGrantInputs0.hasRecord 0x5200 (700 : Nat) = true) ∧ (wGrantInputs0.rget Ctx.REPORT_MODE (700 : Nat) = 0) ∧ (wGrantInputs0.goodIn (wGrantInputs0.rnat Ctx.PORT (700 : Nat)) (wGrantInputs0.rnat Ctx.CHANNEL (700 : Nat)) (wGrantInputs0.rnat Ctx.ONU_ID (700 : Nat)) (9 : Nat) = true) ∧ ((∀ e ∈ (wGrantInputs0.ctxX (700 : Nat)).report, e.2 ≤ (9 : Nat)))) ∧
    ((wGrantInputs1.power.coreOn = true) ∧ (wGrantInputs1.hasRecord 0x5200 (700 : Nat) = true) ∧ ((wGrantInputs1.ctxX (700 : Nat)).grants.find? (fun g => g.1 == wGrantInputs1.spanOf (wGrantInputs1.rnat Ctx.PORT (700 : Nat)) (1400000000 : Nat)) = some (wGrantInputs1.spanOf (wGrantInputs1.rnat Ctx.PORT (700 : Nat)) (1400000000 : Nat), (40 : Nat), (false : Bool)))) ∧
    ((wGrantInputs2.power.coreOn = true) ∧ (wGrantInputs2.hasRecord 0x5200 (700 : Nat) = false ∨ (wGrantInputs2.ctxX (700 : Nat)).grants.find? (fun g => g.1 == wGrantInputs2.spanOf (wGrantInputs2.rnat Ctx.PORT (700 : Nat)) (5 : Nat)) = none)) ∧
    ((wGrantInputs3.power.coreOn = true) ∧ (wGrantInputs3.hintPosts = ({ ctx := 700, tau := 900000000, bytes := 40 } : Hint) :: ([] : List Hint)) ∧ (wGrantInputs3.hasRecord 0x5200 ({ ctx := 700, tau := 900000000, bytes := 40 } : Hint).ctx = true) ∧ (wGrantInputs3.rnat Ctx.PORT ({ ctx := 700, tau := 900000000, bytes := 40 } : Hint).ctx = (17 : Fin 64)) ∧ (wGrantInputs3.rnat Ctx.CHANNEL ({ ctx := 700, tau := 900000000, bytes := 40 } : Hint).ctx = (1 : Fin 2)) ∧ (wGrantInputs3.rflag Ctx.HINT_OK ({ ctx := 700, tau := 900000000, bytes := 40 } : Hint).ctx = true) ∧ (wGrantInputs3.hintEn.getD (17 : Fin 64) 0 ≠ 0) ∧ (wGrantInputs3.nextMap ≤ wGrantInputs3.spanOf (17 : Fin 64) ({ ctx := 700, tau := 900000000, bytes := 40 } : Hint).tau)) ∧
    ((wGrantInputs4.power.coreOn = true) ∧ (wGrantInputs4.hintPosts = ({ ctx := 700, tau := 900000000, bytes := 40 } : Hint) :: ([] : List Hint)) ∧ (wGrantInputs4.hasRecord 0x5200 ({ ctx := 700, tau := 900000000, bytes := 40 } : Hint).ctx = true) ∧ (wGrantInputs4.rnat Ctx.PORT ({ ctx := 700, tau := 900000000, bytes := 40 } : Hint).ctx = (17 : Fin 64)) ∧ (wGrantInputs4.rnat Ctx.CHANNEL ({ ctx := 700, tau := 900000000, bytes := 40 } : Hint).ctx = (1 : Fin 2)) ∧ (wGrantInputs4.rflag Ctx.HINT_OK ({ ctx := 700, tau := 900000000, bytes := 40 } : Hint).ctx = false ∨ wGrantInputs4.hintEn.getD (17 : Fin 64) 0 = 0 ∨ wGrantInputs4.spanOf (17 : Fin 64) ({ ctx := 700, tau := 900000000, bytes := 40 } : Hint).tau < wGrantInputs4.nextMap)) ∧
    ((wGrantInputs5.power.coreOn = true) ∧ ((wGrantInputs5.actCh (17 : Fin 64) (1 : Fin 2)).posts = (.rate 8704 2 : ActPost) :: ([.withdraw 8704] : List ActPost))) ∧
    ((wGrantInputs6.power.coreOn = true)) :=
  by and_intros <;> first | decide +kernel | exact ctrlIn_good _ _ _ | rfl | exact Nat.ne_of_lt (Nat.lt_succ_self _)

/-- CoefficientSets: every clause. -/
theorem witness_CoefficientSets :
    ((wCoefficientSets0.power.coreOn = true) ∧ ((wCoefficientSets0.ch (17 : Fin 64) (1 : Fin 2)).posts = .final (9 : Nat) (3 : Fin 4) (700 : Nat) (123456789 : Nat) (90 : Nat) true (some (-2500) : Option Int) :: ([] : List PortPost)) ∧ (wCoefficientSets0.onuBy (17 : Fin 64) (1 : Fin 2) (9 : Nat) = some (8704 : Nat)) ∧ (wCoefficientSets0.nat Cal.EYE_MIN_PCT (17 : Fin 64) ≤ (90 : Nat)) ∧ (wCoefficientSets0.preloadPorts ((17 : Fin 64) / 32) = []) ∧ (wCoefficientSets0.storeQ = [])) ∧
    ((wCoefficientSets1.power.coreOn = true) ∧ ((wCoefficientSets1.ch (17 : Fin 64) (1 : Fin 2)).posts = .final (9 : Nat) (3 : Fin 4) (700 : Nat) (123456789 : Nat) (90 : Nat) true (some (-2500) : Option Int) :: ([] : List PortPost)) ∧ (wCoefficientSets1.onuBy (17 : Fin 64) (1 : Fin 2) (9 : Nat) = some (8704 : Nat)) ∧ (wCoefficientSets1.nat Cal.EYE_MIN_PCT (17 : Fin 64) ≤ (90 : Nat)) ∧ (wCoefficientSets1.preloadPorts ((17 : Fin 64) / 32) ≠ [])) ∧
    ((wCoefficientSets2.power.coreOn = true) ∧ ((wCoefficientSets2.ch (17 : Fin 64) (1 : Fin 2)).posts = .final (9 : Nat) (3 : Nat) (700 : Nat) (123456789 : Nat) (90 : Nat) (false : Bool) (some (-2500) : Option Int) :: ([] : List PortPost)) ∧ (wCoefficientSets2.onuBy (17 : Fin 64) (1 : Fin 2) (9 : Nat) = none ∨ (false : Bool) = false ∨ (90 : Nat) < wCoefficientSets2.nat Cal.EYE_MIN_PCT (17 : Fin 64))) ∧
    ((wCoefficientSets3.power.coreOn = true) ∧ (wCoefficientSets3.coefCheck (8704 : Nat) (3 : Fin 4) (4384504911992708754611054498148849058967797628928 : Nat) = 0)) ∧
    ((tOn.power.coreOn = true) ∧ (tOn.coefCheck (8704 : Nat) (3 : Fin 4) (7 : Nat) = (0x06010003 : Nat)) ∧ ((0x06010003 : Nat) ≠ 0)) ∧
    ((wCoefficientSets5.power.coreOn = true) ∧ (wCoefficientSets5.hasRecord 0x4200 (8704 : Nat) = true) ∧ ((5 : Fin 16).val ≠ 0)) ∧
    ((wCoefficientSets6.power.coreOn = true) ∧ (wCoefficientSets6.hasRecord 0x4200 (8704 : Nat) = true)) ∧
    ((wCoefficientSets7.power.coreOn = true) ∧ (wCoefficientSets7.hasRecord 0x4200 (8704 : Nat) = true) ∧ (wCoefficientSets7.coefValid (8704 : Nat) (3 : Fin 4) = true) ∧ ((∀ u ∈ (wCoefficientSets7.onuX (8704 : Nat)).snapAt.find? (3 : Fin 4), u + 60000000000 ≤ wCoefficientSets7.now))) ∧
    ((wCoefficientSets8.power.coreOn = true) ∧ (((1 : Fin 2).val + (msBits 3 (5 : Nat)).sum + (msBits 12 (2000 : Nat)).sum + (0 : Fin 2).val) % 2 = 1) ∧ ((wCoefficientSets8.ch (17 : Fin 64) (1 : Fin 2)).samples = ((5 : Nat), (9 : Nat), (700 : Nat)) :: ([] : List (Nat × Nat × Nat))) ∧ (wCoefficientSets8.onuBy (17 : Fin 64) (1 : Fin 2) (9 : Nat) = some (8704 : Nat)) ∧ (wCoefficientSets8.rget Coef.RXP_LAST (8704 : Nat) = -32768)) ∧
    ((tOn.power.coreOn = true) ∧ (((1 : Fin 2).val + (msBits 3 (5 : Nat)).sum + (msBits 12 (2000 : Nat)).sum + (1 : Fin 2).val) % 2 = 0)) ∧
    ((wCoefficientSets10.power.coreOn = true) ∧ ((wCoefficientSets10.ch (17 : Fin 64) (1 : Fin 2)).bursts = [({ n := { onu := 9, start := 700 }, ended := true, endedAt := 3000, outcome := .received, header := .passed, final := 8 } : Burst)]) ∧ (({ n := { onu := 9, start := 700 }, ended := true, endedAt := 3000, outcome := .received, header := .passed, final := 8 } : Burst).waits = true) ∧ (({ n := { onu := 9, start := 700 }, ended := true, endedAt := 3000, outcome := .received, header := .passed, final := 8 } : Burst).endedAt + 2000 ≤ wCoefficientSets10.now)) :=
  by and_intros <;> first | decide +kernel | exact ctrlIn_good _ _ _ | rfl | exact Nat.ne_of_lt (Nat.lt_succ_self _)

/-- FeederAndLoops: every clause. -/
theorem witness_FeederAndLoops :
    ((wFeederAndLoops0.power.coreOn = true) ∧ (wFeederAndLoops0.feederState (17 : Fin 64) (1 : Fin 2) = 1 ∨ wFeederAndLoops0.feederState (17 : Fin 64) (1 : Fin 2) = 3) ∧ (0 < (wFeederAndLoops0.ch (17 : Fin 64) (1 : Fin 2)).lastFrame.notified) ∧ ((wFeederAndLoops0.ch (17 : Fin 64) (1 : Fin 2)).lastFrame.notified ≤ 2 * (wFeederAndLoops0.ch (17 : Fin 64) (1 : Fin 2)).lastFrame.received)) ∧
    ((wFeederAndLoops1.power.coreOn = true) ∧ (wFeederAndLoops1.feederState (17 : Fin 64) (1 : Fin 2) = 1) ∧ (2 * (wFeederAndLoops1.ch (17 : Fin 64) (1 : Fin 2)).lastFrame.received < (wFeederAndLoops1.ch (17 : Fin 64) (1 : Fin 2)).lastFrame.notified) ∧ (nextCandidate (fun k => decide (wFeederAndLoops1.feederLow (17 : Fin 64) ≤ candidate (wFeederAndLoops1.loop (17 : Fin 64) (1 : Fin 2)).candBase (wFeederAndLoops1.nat Pon.WINDOW_NS (17 : Fin 64) (1 : Fin 2)) k) &&
    decide (candidate (wFeederAndLoops1.loop (17 : Fin 64) (1 : Fin 2)).candBase (wFeederAndLoops1.nat Pon.WINDOW_NS (17 : Fin 64) (1 : Fin 2)) k < wFeederAndLoops1.get Cal.FEEDER_RANGE_NS (17 : Fin 64) * 1000))
    (240000 / max (wFeederAndLoops1.nat Pon.WINDOW_NS (17 : Fin 64) (1 : Fin 2)) 1 + 2) ((wFeederAndLoops1.loop (17 : Fin 64) (1 : Fin 2)).cand + 1) = some (1 : Nat))) ∧
    ((wFeederAndLoops2.power.coreOn = true) ∧ (wFeederAndLoops2.feederState (17 : Fin 64) (1 : Fin 2) = 2) ∧ (8 ≤ (wFeederAndLoops2.ch (17 : Fin 64) (1 : Fin 2)).lastFrame.received) ∧ ((25 : Int) = wFeederAndLoops2.feeder (17 : Fin 64) (1 : Fin 2) + truncDiv (median ((wFeederAndLoops2.ch (17 : Fin 64) (1 : Fin 2)).lastFrame.offsets.map (fun x => x - wFeederAndLoops2.feeder (17 : Fin 64) (1 : Fin 2)))) (2 ^ wFeederAndLoops2.nat Cal.FEEDER_SHIFT (17 : Fin 64) : Nat)) ∧ (wFeederAndLoops2.feederLow (17 : Fin 64) ≤ (25 : Int))) ∧
    ((wFeederAndLoops3.power.coreOn = true) ∧ (wFeederAndLoops3.feederState (17 : Fin 64) (1 : Fin 2) = 2) ∧ ((wFeederAndLoops3.ch (17 : Fin 64) (1 : Fin 2)).lastFrame.received = 0) ∧ (8 ≤ (wFeederAndLoops3.ch (17 : Fin 64) (1 : Fin 2)).lastFrame.notified) ∧ (63 ≤ (wFeederAndLoops3.loop (17 : Fin 64) (1 : Fin 2)).dryFrames)) ∧
    ((wFeederAndLoops4.power.coreOn = true) ∧ (wFeederAndLoops4.thermalRuns (17 : Fin 64) (1 : Fin 2) = true) ∧ (wFeederAndLoops4.get Cal.SETPT_MC (17 : Fin 64) (1 : Fin 2) ≠ 0) ∧ ((10 : Int) = wFeederAndLoops4.get Cal.SETPT_MC (17 : Fin 64) (1 : Fin 2) - (44990 : Int)) ∧ ((709000 : Int) = wFeederAndLoops4.get Cal.KP (17 : Fin 64) (1 : Fin 2) * (10 : Int) + (wFeederAndLoops4.loop (17 : Fin 64) (1 : Fin 2)).integ) ∧ ((98304000000 : Int) = wFeederAndLoops4.get Cal.TEC_LIMIT_MA (17 : Fin 64) (1 : Fin 2) * 65536000)) ∧
    ((wFeederAndLoops5.power.coreOn = true) ∧ (wFeederAndLoops5.chState (17 : Fin 64) (1 : Fin 2) = 3) ∧ ((wFeederAndLoops5.ch (17 : Fin 64) (1 : Fin 2)).rampDone = true) ∧ ((wFeederAndLoops5.loop (17 : Fin 64) (1 : Fin 2)).biasHold = false) ∧ ((6000 : Int) = clampInt (wFeederAndLoops5.get Cal.BIAS_10UA (17 : Fin 64) (1 : Fin 2) + roundDiv (wFeederAndLoops5.get Cal.KB (17 : Fin 64) (1 : Fin 2) * ((wFeederAndLoops5.orModule Cal.MPD_TARGET_UA (17 : Fin 64) (1 : Fin 2) 3 : Int) - (390 : Nat))) 65536)
    (wFeederAndLoops5.get Cal.BIAS_MIN_10UA (17 : Fin 64) (1 : Fin 2)) (wFeederAndLoops5.orModule Cal.BIAS_MAX_10UA (17 : Fin 64) (1 : Fin 2) 1))) ∧
    ((wFeederAndLoops6.power.coreOn = true) ∧ ((wFeederAndLoops6.loop (17 : Fin 64) (1 : Fin 2)).rampAt + 1000000 ≤ wFeederAndLoops6.now)) ∧
    ((wFeederAndLoops7.power.coreOn = true) ∧ (wFeederAndLoops7.chState (17 : Fin 64) (1 : Fin 2) = 3) ∧ ((((wFeederAndLoops7.orModule Cal.MPD_TARGET_UA (17 : Fin 64) (1 : Fin 2) 3 : Int) - (390 : Nat)).natAbs : Int) ≤ wFeederAndLoops7.get Cal.MPD_TOL_UA (17 : Fin 64) (1 : Fin 2)) ∧ ((5000 : Int) = clampInt (wFeederAndLoops7.get Cal.MOD_10UA (17 : Fin 64) (1 : Fin 2) + roundDiv (wFeederAndLoops7.get Cal.KM (17 : Fin 64) (1 : Fin 2) * ((wFeederAndLoops7.orModule Cal.ER_TARGET_CDB (17 : Fin 64) (1 : Fin 2) 4 : Int) - extinction (390 : Nat) (500 : Nat))) 65536)
    (wFeederAndLoops7.get Cal.MOD_MIN_10UA (17 : Fin 64) (1 : Fin 2)) (wFeederAndLoops7.orModule Cal.MOD_MAX_10UA (17 : Fin 64) (1 : Fin 2) 2))) ∧
    ((wFeederAndLoops8.power.coreOn = true) ∧ (wFeederAndLoops8.chState (17 : Fin 64) (1 : Fin 2) = 1 ∨ wFeederAndLoops8.chState (17 : Fin 64) (1 : Fin 2) = 2 ∨ wFeederAndLoops8.chState (17 : Fin 64) (1 : Fin 2) = 3) ∧ ((wFeederAndLoops8.loop (17 : Fin 64) (1 : Fin 2)).biasLimitAt = some (5 : Nat)) ∧ ((5 : Nat) + 1000000000 ≤ wFeederAndLoops8.now)) ∧
    ((wFeederAndLoops9.power.coreOn = true) ∧ (wFeederAndLoops9.chState (17 : Fin 64) (1 : Fin 2) = 1 ∨ wFeederAndLoops9.chState (17 : Fin 64) (1 : Fin 2) = 2 ∨ wFeederAndLoops9.chState (17 : Fin 64) (1 : Fin 2) = 3)) ∧
    ((wFeederAndLoops10.power.coreOn = true) ∧ ((wFeederAndLoops10.ch (17 : Fin 64) (1 : Fin 2)).ramping = true)) :=
  by and_intros <;> first | decide +kernel | exact ctrlIn_good _ _ _ | rfl | exact Nat.ne_of_lt (Nat.lt_succ_self _)

/-- Sideband: every clause. -/
theorem witness_Sideband :
    ((wSideband0.power.coreOn = true) ∧ ((wSideband0.optic (17 : Fin 64)).cmds = ({ addr := 4 } : SbCmd) :: ([{ addr := 5 }] : List SbCmd)) ∧ ((wSideband0.optic (17 : Fin 64)).waiting = [])) ∧
    ((wSideband1.power.coreOn = true) ∧ ((wSideband1.optic (17 : Fin 64)).cmds = ({ addr := 4, tries := 1 } : SbCmd) :: ([{ addr := 5 }] : List SbCmd)) ∧ ((0 : Fin 4).val ≠ 0 ∨ ((responseCrc 0 0 [5] + 1) % 256 : Nat) ≠ responseCrc (0 : Fin 4) (0 : Fin 16) ([5] : List Nat) ∨ (true : Bool) = false) ∧ (({ addr := 4, tries := 1 } : SbCmd).tries < 2)) ∧
    ((wSideband2.power.coreOn = true) ∧ ((wSideband2.optic (17 : Fin 64)).cmds = ({ addr := 4, tries := 1 } : SbCmd) :: ([{ addr := 5 }] : List SbCmd)) ∧ (({ addr := 4, tries := 1 } : SbCmd).tries < 2) ∧ (({ addr := 4, tries := 1 } : SbCmd).sentAt + wSideband2.nat Cal.SB_TIMEOUT_US (17 : Fin 64) * 1000 ≤ wSideband2.now)) ∧
    ((wSideband3.power.coreOn = true) ∧ ((wSideband3.optic (17 : Fin 64)).cmds = ({ addr := 4, tries := 2 } : SbCmd) :: ([{ addr := 5 }] : List SbCmd)) ∧ (2 ≤ ({ addr := 4, tries := 2 } : SbCmd).tries) ∧ (2 ≤ (wSideband3.optic (17 : Fin 64)).failed) ∧ (({ addr := 4, tries := 2 } : SbCmd).sentAt + wSideband3.nat Cal.SB_TIMEOUT_US (17 : Fin 64) * 1000 ≤ wSideband3.now) ∧ (wSideband3.chState (17 : Fin 64) (1 : Fin 2) = 1 ∨ wSideband3.chState (17 : Fin 64) (1 : Fin 2) = 2 ∨ wSideband3.chState (17 : Fin 64) (1 : Fin 2) = 3)) ∧
    ((wSideband4.power.coreOn = true)) ∧
    ((wSideband5.power.coreOn = true) ∧ (wSideband5.osbRuns = true)) ∧
    ((wSideband6.power.coreOn = true) ∧ ((wSideband6.optic (17 : Fin 64)).reading = true) ∧ ((0x4F53 : Nat) % 65536 = 0x4F53)) ∧
    ((wSideband7.power.coreOn = true) ∧ ((wSideband7.optic (17 : Fin 64)).reading = true) ∧ ((0x4F54 : Nat) % 65536 ≠ 0x4F53)) :=
  by and_intros <;> first | decide +kernel | exact ctrlIn_good _ _ _ | rfl | exact Nat.ne_of_lt (Nat.lt_succ_self _)

/-- DownstreamFrames: every clause. -/
theorem witness_DownstreamFrames :
    ((wDownstreamFrames0.power.coreOn = true) ∧ ((wDownstreamFrames0.frCh (17 : Fin 64) (1 : Fin 2)).nextFrame ≤ wDownstreamFrames0.frame) ∧ (wDownstreamFrames0.chState (17 : Fin 64) (1 : Fin 2) = 3) ∧ ((wDownstreamFrames0.ch (17 : Fin 64) (1 : Fin 2)).serLock = true) ∧ ((wDownstreamFrames0.ch (17 : Fin 64) (1 : Fin 2)).rampDone = true) ∧ (wDownstreamFrames0.twin.takeN = none) ∧ (wDownstreamFrames0.onusOf (17 : Fin 64) (1 : Fin 2) = []) ∧ ((wDownstreamFrames0.frCh (17 : Fin 64) (1 : Fin 2)).switch = none) ∧ ((wDownstreamFrames0.frCh (17 : Fin 64) (1 : Fin 2)).staged = []) ∧ ((wDownstreamFrames0.frCh (17 : Fin 64) (1 : Fin 2)).ploams = []) ∧ ((wDownstreamFrames0.actCh (17 : Fin 64) (1 : Fin 2)).msgs = []) ∧ ((wDownstreamFrames0.grantCh (17 : Fin 64) (1 : Fin 2)).handed = some ({ k := 1000, bursts := [{ onu := 3, structs := [{ allocId := 3, ploam := true }] }] } : MapRec)) ∧ (({ k := 1000, bursts := [{ onu := 3, structs := [{ allocId := 3, ploam := true }] }] } : MapRec).k = wDownstreamFrames0.frame)) ∧
    ((wDownstreamFrames1.power.coreOn = true) ∧ ((wDownstreamFrames1.frCh (17 : Fin 64) (1 : Fin 2)).nextFrame ≤ wDownstreamFrames1.frame) ∧ (wDownstreamFrames1.chState (17 : Fin 64) (1 : Fin 2) = 3) ∧ ((wDownstreamFrames1.ch (17 : Fin 64) (1 : Fin 2)).serLock = true) ∧ ((wDownstreamFrames1.ch (17 : Fin 64) (1 : Fin 2)).rampDone = true) ∧ (wDownstreamFrames1.twin.takeN = none) ∧ (wDownstreamFrames1.onusOf (17 : Fin 64) (1 : Fin 2) = []) ∧ ((wDownstreamFrames1.frCh (17 : Fin 64) (1 : Fin 2)).switch = none) ∧ ((wDownstreamFrames1.frCh (17 : Fin 64) (1 : Fin 2)).staged = [({ data := [1, 2, 3, 4, 5], xgem := 700 } : Pkt)]) ∧ ((wDownstreamFrames1.frCh (17 : Fin 64) (1 : Fin 2)).sentBytes = 0) ∧ ((wDownstreamFrames1.frCh (17 : Fin 64) (1 : Fin 2)).ploams = []) ∧ ((wDownstreamFrames1.actCh (17 : Fin 64) (1 : Fin 2)).msgs = []) ∧ ((wDownstreamFrames1.grantCh (17 : Fin 64) (1 : Fin 2)).handed = none) ∧ (({ data := [1, 2, 3, 4, 5], xgem := 700 } : Pkt).tag = []) ∧ (({ data := [1, 2, 3, 4, 5], xgem := 700 } : Pkt).shared = false) ∧ (({ data := [1, 2, 3, 4, 5], xgem := 700 } : Pkt).buf = none) ∧ (wDownstreamFrames1.xgemSends (17 : Fin 64) (1 : Fin 2) ({ data := [1, 2, 3, 4, 5], xgem := 700 } : Pkt).xgem = true) ∧ (wDownstreamFrames1.rnat Xg.ENCRYPT ({ data := [1, 2, 3, 4, 5], xgem := 700 } : Pkt).xgem = 0) ∧ (({ data := [1, 2, 3, 4, 5], xgem := 700 } : Pkt).data.length ≤ wDownstreamFrames1.eff FrCfg.MAX_SDU (17 : Fin 64)) ∧ (({ data := [1, 2, 3, 4, 5], xgem := 700 } : Pkt).data.length ≤ 20000)) ∧
    ((wDownstreamFrames2.power.coreOn = true) ∧ ((wDownstreamFrames2.frCh (17 : Fin 64) (1 : Fin 2)).nextFrame ≤ wDownstreamFrames2.frame) ∧ (wDownstreamFrames2.chState (17 : Fin 64) (1 : Fin 2) = 2) ∧ ((wDownstreamFrames2.ch (17 : Fin 64) (1 : Fin 2)).sending = false)) ∧
    ((wDownstreamFrames3.power.coreOn = true)) :=
  by and_intros <;> first | decide +kernel | exact ctrlIn_good _ _ _ | rfl | exact Nat.ne_of_lt (Nat.lt_succ_self _)

/-- KeyExchange: every clause. -/
theorem witness_KeyExchange :
    ((wKeyExchange0.power.coreOn = true) ∧ (wKeyExchange0.onuAt (8704 : Nat) (17 : Fin 64) (1 : Fin 2)) ∧ (wKeyExchange0.rnat Onu.STATE (8704 : Nat) = 5) ∧ ((wKeyExchange0.onuF (8704 : Nat)).exchange = 0) ∧ ((wKeyExchange0.onuF (8704 : Nat)).rekey = true) ∧ ((wKeyExchange0.frCh (17 : Fin 64) (1 : Fin 2)).ploams.length < 64)) ∧
    ((wKeyExchange1.power.coreOn = true) ∧ ((wKeyExchange1.onuF (8704 : Nat)).keyReports = ([1, 2, 3] : List Nat) :: ([] : List (List Nat))) ∧ ((wKeyExchange1.onuF (8704 : Nat)).exchange = 2) ∧ (wKeyExchange1.now < (wKeyExchange1.onuF (8704 : Nat)).controlAt + 100000000)) ∧
    ((wKeyExchange2.power.coreOn = true) ∧ ((wKeyExchange2.onuF (8704 : Nat)).exchange = 2) ∧ ((wKeyExchange2.onuF (8704 : Nat)).controlAt + 100000000 ≤ wKeyExchange2.now)) ∧
    ((wKeyExchange3.power.coreOn = true) ∧ (wKeyExchange3.keyMessage (3 : Fin 8) (2 : Fin 16) ({ st := 1, sender := 1, at' := 5000, data := [1, 0, 0, 0, 35, 0, 0, 0, 2, 0, 0, 0, 0, 0, 0, 0, 7, 8, 9] } : Slot)) ∧ (wKeyExchange3.keyCheck ({ st := 1, sender := 1, at' := 5000, data := [1, 0, 0, 0, 35, 0, 0, 0, 2, 0, 0, 0, 0, 0, 0, 0, 7, 8, 9] } : Slot).sender 1 (keyMsg ({ st := 1, sender := 1, at' := 5000, data := [1, 0, 0, 0, 35, 0, 0, 0, 2, 0, 0, 0, 0, 0, 0, 0, 7, 8, 9] } : Slot).data) = 0) ∧ ((wKeyExchange3.frCh ((keyMsg ({ st := 1, sender := 1, at' := 5000, data := [1, 0, 0, 0, 35, 0, 0, 0, 2, 0, 0, 0, 0, 0, 0, 0, 7, 8, 9] } : Slot).data).target / 2) ((keyMsg ({ st := 1, sender := 1, at' := 5000, data := [1, 0, 0, 0, 35, 0, 0, 0, 2, 0, 0, 0, 0, 0, 0, 0, 7, 8, 9] } : Slot).data).target % 2)).active ≠ (keyMsg ({ st := 1, sender := 1, at' := 5000, data := [1, 0, 0, 0, 35, 0, 0, 0, 2, 0, 0, 0, 0, 0, 0, 0, 7, 8, 9] } : Slot).data).slot)) ∧
    ((wKeyExchange4.power.coreOn = true) ∧ (wKeyExchange4.keyMessage (3 : Fin 8) (2 : Fin 16) ({ st := 1, sender := 1, at' := 5000, data := [2, 0, 0, 0, 35, 0, 0, 0, 2, 0, 0, 0, 16, 0, 0, 0] } : Slot)) ∧ (wKeyExchange4.keyCheck ({ st := 1, sender := 1, at' := 5000, data := [2, 0, 0, 0, 35, 0, 0, 0, 2, 0, 0, 0, 16, 0, 0, 0] } : Slot).sender 2 (keyMsg ({ st := 1, sender := 1, at' := 5000, data := [2, 0, 0, 0, 35, 0, 0, 0, 2, 0, 0, 0, 16, 0, 0, 0] } : Slot).data) = 0) ∧ ((if (keyMsg ({ st := 1, sender := 1, at' := 5000, data := [2, 0, 0, 0, 35, 0, 0, 0, 2, 0, 0, 0, 16, 0, 0, 0] } : Slot).data).slot = 1 then (wKeyExchange4.frCh ((keyMsg ({ st := 1, sender := 1, at' := 5000, data := [2, 0, 0, 0, 35, 0, 0, 0, 2, 0, 0, 0, 16, 0, 0, 0] } : Slot).data).target / 2) ((keyMsg ({ st := 1, sender := 1, at' := 5000, data := [2, 0, 0, 0, 35, 0, 0, 0, 2, 0, 0, 0, 16, 0, 0, 0] } : Slot).data).target % 2)).key1
    else (wKeyExchange4.frCh ((keyMsg ({ st := 1, sender := 1, at' := 5000, data := [2, 0, 0, 0, 35, 0, 0, 0, 2, 0, 0, 0, 16, 0, 0, 0] } : Slot).data).target / 2) ((keyMsg ({ st := 1, sender := 1, at' := 5000, data := [2, 0, 0, 0, 35, 0, 0, 0, 2, 0, 0, 0, 16, 0, 0, 0] } : Slot).data).target % 2)).key2) = some (7 : Nat))) ∧
    ((wKeyExchange5.power.coreOn = true) ∧ (wKeyExchange5.keyMessage (3 : Fin 8) (2 : Fin 16) ({ st := 1, sender := 1, at' := 5000, data := [3, 0, 0, 0, 0, 34, 0, 0, 0, 0, 0, 0, 0, 0, 0, 0, 7, 8, 9] } : Slot)) ∧ (wKeyExchange5.keyCheck ({ st := 1, sender := 1, at' := 5000, data := [3, 0, 0, 0, 0, 34, 0, 0, 0, 0, 0, 0, 0, 0, 0, 0, 7, 8, 9] } : Slot).sender 3 (keyMsg ({ st := 1, sender := 1, at' := 5000, data := [3, 0, 0, 0, 0, 34, 0, 0, 0, 0, 0, 0, 0, 0, 0, 0, 7, 8, 9] } : Slot).data) = 0) ∧ (wKeyExchange5.hasRecord 0x4200 (keyMsg ({ st := 1, sender := 1, at' := 5000, data := [3, 0, 0, 0, 0, 34, 0, 0, 0, 0, 0, 0, 0, 0, 0, 0, 7, 8, 9] } : Slot).data).target = true)) ∧
    ((wKeyExchange6.power.coreOn = true) ∧ (wKeyExchange6.keyMessage (3 : Fin 8) (2 : Fin 16) ({ st := 1, sender := 1, at' := 5000, data := [4, 0, 0, 0, 0, 34, 0, 0] } : Slot)) ∧ (wKeyExchange6.keyCheck ({ st := 1, sender := 1, at' := 5000, data := [4, 0, 0, 0, 0, 34, 0, 0] } : Slot).sender 4 (keyMsg ({ st := 1, sender := 1, at' := 5000, data := [4, 0, 0, 0, 0, 34, 0, 0] } : Slot).data) = 0) ∧ (wKeyExchange6.hasRecord 0x4200 (keyMsg ({ st := 1, sender := 1, at' := 5000, data := [4, 0, 0, 0, 0, 34, 0, 0] } : Slot).data).target = true)) ∧
    ((wKeyExchange7.power.coreOn = true) ∧ (wKeyExchange7.keyMessage (3 : Fin 8) (2 : Fin 16) ({ st := 1, sender := 1, at' := 5000, data := [4] } : Slot)) ∧ (wKeyExchange7.keyCheck ({ st := 1, sender := 1, at' := 5000, data := [4] } : Slot).sender (4 : Nat) (keyMsg ({ st := 1, sender := 1, at' := 5000, data := [4] } : Slot).data) ≠ 0) ∧ ((keyMsg ({ st := 1, sender := 1, at' := 5000, data := [4] } : Slot).data).op = (4 : Nat) ∨ (keyMsg ({ st := 1, sender := 1, at' := 5000, data := [4] } : Slot).data).op = 0 ∨ 4 < (keyMsg ({ st := 1, sender := 1, at' := 5000, data := [4] } : Slot).data).op) ∧ (((.rekey 3 : Instr) = .mcastLoad (3 : Fin 8) ∧ (4 : Nat) = 1) ∨ ((.rekey 3 : Instr) = .mcastActivate (3 : Fin 8) ∧ (4 : Nat) = 2) ∨ ((.rekey 3 : Instr) = .mskLoad (3 : Fin 8) ∧ (4 : Nat) = 3) ∨ ((.rekey 3 : Instr) = .rekey (3 : Fin 8) ∧ (4 : Nat) = 4))) :=
  by and_intros <;> first | decide +kernel | exact ctrlIn_good _ _ _ | rfl | exact Nat.ne_of_lt (Nat.lt_succ_self _)

/-- UpstreamMessages: every clause. -/
theorem witness_UpstreamMessages :
    ((wUpstreamMessages0.power.coreOn = true) ∧ (wUpstreamMessages0.onuBy (17 : Fin 64) (1 : Fin 2) (9 : Nat) = some (8704 : Nat)) ∧ (((700 : Nat), (9 : Nat)) ∈ (wUpstreamMessages0.ch (17 : Fin 64) (1 : Fin 2)).good)) ∧
    ((wUpstreamMessages1.power.coreOn = true) ∧ (((700 : Nat), (9 : Nat)) ∈ (wUpstreamMessages1.ch (17 : Fin 64) (1 : Fin 2)).good) ∧ ((.registration : UsPloam) ≠ .keyReport) ∧ (wUpstreamMessages1.eff FrCfg.PLOAM_MIC_CHECK (17 : Fin 64) = 0)) ∧
    ((wUpstreamMessages2.power.coreOn = true) ∧ (((700 : Nat), (9 : Nat)) ∉ (wUpstreamMessages2.ch (17 : Fin 64) (1 : Fin 2)).good)) ∧
    ((wUpstreamMessages3.power.coreOn = true) ∧ (wUpstreamMessages3.onuAt (8704 : Nat) (17 : Fin 64) (1 : Fin 2)) ∧ (wUpstreamMessages3.omccOf (8704 : Nat) = some (700 : Nat)) ∧ (wUpstreamMessages3.rnat Onu.STATE (8704 : Nat) = 5) ∧ ((wUpstreamMessages3.onuF (8704 : Nat)).omci (1 : Fin 2) = [])) ∧
    ((tOn.power.coreOn = true) ∧ (tOn.omccOf (8704 : Nat) = none ∨ tOn.rnat Onu.STATE (8704 : Nat) ≠ 5)) ∧
    ((wUpstreamMessages5.power.coreOn = true) ∧ (wUpstreamMessages5.onuAt (8704 : Nat) (17 : Fin 64) (1 : Fin 2)) ∧ ((wUpstreamMessages5.onuF (8704 : Nat)).omci (1 : Fin 2) = ({ tci := 5, sent := 9 } : OmciReq) :: ([{ tci := 6 }] : List OmciReq)) ∧ (({ tci := 5, sent := 9 } : OmciReq).sentAt + wUpstreamMessages5.eff FrCfg.OMCI_TIMEOUT_MS (17 : Fin 64) * 1000000 ≤ wUpstreamMessages5.now)) ∧
    ((wUpstreamMessages5.power.coreOn = true) ∧ (wUpstreamMessages5.onuAt (8704 : Nat) (17 : Fin 64) (1 : Fin 2)) ∧ ((wUpstreamMessages5.omciRx.getD (17 : Fin 64) []).length < 1024)) :=
  by and_intros <;> first | decide +kernel | exact ctrlIn_good _ _ _ | rfl | exact Nat.ne_of_lt (Nat.lt_succ_self _)

/-- UpstreamFrames: every clause. -/
theorem witness_UpstreamFrames :
    ((tOn.power.coreOn = true) ∧ ((1 : Fin 3).val ≠ 2)) ∧
    ((wUpstreamFrames1.power.coreOn = true) ∧ ((wUpstreamFrames1.ch (17 : Fin 64) (1 : Fin 2)).bursts = []) ∧ (Tab.find? wUpstreamFrames1.reasm (700 : Nat) = some ({ st := 1, data := [1] } : Reasm)) ∧ (({ st := 1, data := [1] } : Reasm).st ≠ 3)) ∧
    ((wUpstreamFrames2.power.coreOn = true) ∧ (((700 : Nat), wUpstreamFrames2.rnat Onu.ONU_ID (8704 : Nat)) ∈ (wUpstreamFrames2.ch (17 : Fin 64) (1 : Fin 2)).good) ∧ (((700 : Nat), (5 : Nat)) ∉ (wUpstreamFrames2.ch (17 : Fin 64) (1 : Fin 2)).dead) ∧ ((2000 : Nat) ≠ 0xFFFF) ∧ (wUpstreamFrames2.usXgem (17 : Fin 64) (1 : Fin 2) (8704 : Nat) (2000 : Nat) = some (700 : Nat)) ∧ (wUpstreamFrames2.reasm.getD (700 : Nat) {} = {}) ∧ (wUpstreamFrames2.reasmOpen < 65536)) ∧
    ((wUpstreamFrames3.power.coreOn = true) ∧ (((700 : Nat), wUpstreamFrames3.rnat Onu.ONU_ID (8704 : Nat)) ∈ (wUpstreamFrames3.ch (17 : Fin 64) (1 : Fin 2)).good) ∧ (((700 : Nat), (5 : Nat)) ∉ (wUpstreamFrames3.ch (17 : Fin 64) (1 : Fin 2)).dead) ∧ ((2000 : Nat) ≠ 0xFFFF) ∧ (wUpstreamFrames3.usXgem (17 : Fin 64) (1 : Fin 2) (8704 : Nat) (2000 : Nat) = some (700 : Nat)) ∧ (wUpstreamFrames3.reasm.getD (700 : Nat) {} = ({ st := 1, data := [9, 8], since := 4000 } : Reasm)) ∧ (({ st := 1, data := [9, 8], since := 4000 } : Reasm).st = 1) ∧ (wUpstreamFrames3.now < ({ st := 1, data := [9, 8], since := 4000 } : Reasm).since + wUpstreamFrames3.eff FrCfg.REASM_TIMEOUT_US (17 : Fin 64) * 1000) ∧ ((({ st := 1, data := [9, 8], since := 4000 } : Reasm).data ++ ([1, 2, 3] : List Nat)).length ≤ wUpstreamFrames3.eff FrCfg.MAX_SDU (17 : Fin 64)) ∧ (wUpstreamFrames3.rflag Xg.OMCC (700 : Nat) = false)) ∧
    ((tOn.power.coreOn = true) ∧ ((700, 9) ∈ (({ good := [(700, 9)] } : PortCh)).good) ∧ (5 : Nat) ≠ 0xFFFF) ∧
    ((tOn.power.coreOn = true) ∧ (((700 : Nat), tOn.rnat Onu.ONU_ID (8704 : Nat)) ∉ (tOn.ch (17 : Fin 64) (1 : Fin 2)).good ∨ ((700 : Nat), (5 : Nat)) ∈ (tOn.ch (17 : Fin 64) (1 : Fin 2)).dead)) ∧
    ((wUpstreamMessages0.power.coreOn = true) ∧ (((700 : Nat), wUpstreamMessages0.rnat Onu.ONU_ID (8704 : Nat)) ∈ (wUpstreamMessages0.ch (17 : Fin 64) (1 : Fin 2)).good) ∧ (((700 : Nat), (5 : Nat)) ∉ (wUpstreamMessages0.ch (17 : Fin 64) (1 : Fin 2)).dead)) ∧
    ((wUpstreamFrames7.power.coreOn = true) ∧ (wUpstreamFrames7.rnat Xg.PORT (700 : Nat) = (17 : Fin 64)) ∧ (wUpstreamFrames7.rnat Xg.CHANNEL (700 : Nat) = (1 : Fin 2)) ∧ (Tab.find? wUpstreamFrames7.reasm (700 : Nat) = some ({ st := 1, data := [1] } : Reasm)) ∧ (({ st := 1, data := [1] } : Reasm).st = 1) ∧ (({ st := 1, data := [1] } : Reasm).since + wUpstreamFrames7.eff FrCfg.REASM_TIMEOUT_US (17 : Fin 64) * 1000 ≤ wUpstreamFrames7.now)) ∧
    ((wUpstreamFrames8.power.coreOn = true) ∧ (wUpstreamFrames8.hasRecord 0x4200 (8704 : Nat) = true) ∧ ((wUpstreamFrames8.onuF (8704 : Nat)).nextSec = (5 : Nat)) ∧ (((5 : Nat) + 1) * 1000000000 ≤ wUpstreamFrames8.now) ∧ (wUpstreamFrames8.outcomesOpen (8704 : Nat) ((5 : Nat) + 1) = false) ∧ ((wUpstreamFrames8.onuF (8704 : Nat)).secs.getD (5 : Nat) {} = ({ g := 100, l := 3 } : SecTally)) ∧ (0 < ({ g := 100, l := 3 } : SecTally).g) ∧ (100 * (({ g := 100, l := 3 } : SecTally).l + ({ g := 100, l := 3 } : SecTally).u) < 15 * ({ g := 100, l := 3 } : SecTally).g) ∧ (wUpstreamFrames8.rflag OnuPm.UNAVAILABLE (8704 : Nat) = false)) ∧
    ((wUpstreamFrames9.power.coreOn = true) ∧ (wUpstreamFrames9.onuAt (8704 : Nat) (17 : Fin 64) (1 : Fin 2)) ∧ ((wUpstreamFrames9.onuF (8704 : Nat)).nextSec = (15 : Nat)) ∧ (((15 : Nat) + 1) * 1000000000 ≤ wUpstreamFrames9.now) ∧ (wUpstreamFrames9.outcomesOpen (8704 : Nat) ((15 : Nat) + 1) = false) ∧ ((wUpstreamFrames9.onuF (8704 : Nat)).secs.getD (15 : Nat) {} = ({ g := 100, l := 30 } : SecTally)) ∧ (0 < ({ g := 100, l := 30 } : SecTally).g) ∧ (15 * ({ g := 100, l := 30 } : SecTally).g ≤ 100 * (({ g := 100, l := 30 } : SecTally).l + ({ g := 100, l := 30 } : SecTally).u)) ∧ (wUpstreamFrames9.rflag OnuPm.UNAVAILABLE (8704 : Nat) = false) ∧ ((wUpstreamFrames9.onuF (8704 : Nat)).sesRun = 9)) ∧
    ((wUpstreamFrames10.power.coreOn = true) ∧ (wUpstreamFrames10.onuAt (8704 : Nat) (17 : Fin 64) (1 : Fin 2)) ∧ ((wUpstreamFrames10.onuF (8704 : Nat)).classed = ((5 : Nat), ({ es := true, t := { g := 100, l := 30 } } : SecClass)) :: ([] : Tab SecClass)) ∧ (((5 : Nat) + 11) * 1000000000 ≤ wUpstreamFrames10.now) ∧ (wUpstreamFrames10.rnat OnuPm.BIN15_START (8704 : Nat) = (5 : Nat) / 900 * 900 * 1000000000) ∧ (wUpstreamFrames10.rnat OnuPm.BIN24_START (8704 : Nat) = (5 : Nat) / 86400 * 86400 * 1000000000) ∧ (({ es := true, t := { g := 100, l := 30 } } : SecClass).unav = false)) ∧
    ((wUpstreamFrames11.power.coreOn = true) ∧ (wUpstreamFrames11.hasRecord 0x4200 (8704 : Nat) = true) ∧ (wUpstreamFrames11.rnat OnuPm.BIN15_START (8704 : Nat) + 911000000000 ≤ wUpstreamFrames11.now) ∧ (wUpstreamFrames11.rnat OnuPm.BIN15_START (8704 : Nat) + 900000000000 ≤ (wUpstreamFrames11.onuF (8704 : Nat)).nextSec * 1000000000) ∧ ((wUpstreamFrames11.onuF (8704 : Nat)).classed = []) ∧ (wUpstreamFrames11.eff PmHist.PMH_ENABLE 0 = 0)) ∧
    ((wUpstreamFrames12.power.coreOn = true) ∧ (wUpstreamFrames12.hasRecord 0x4200 (8704 : Nat) = true)) :=
  by and_intros <;> first | decide +kernel | exact ctrlIn_good _ _ _ | rfl | exact Nat.ne_of_lt (Nat.lt_succ_self _)

/-- PipelinePasses: every clause. -/
theorem witness_PipelinePasses :
    ((wPipelinePasses0.power.coreOn = true) ∧ ((wPipelinePasses0.pipe (6 : Fin 8)).arriving = [({ data := [1, 2, 3], srcType := 1, srcId := 99, at' := 4000 } : Pkt)]) ∧ (({ data := [1, 2, 3], srcType := 1, srcId := 99, at' := 4000 } : Pkt).at' ≤ wPipelinePasses0.now) ∧ (({ data := [1, 2, 3], srcType := 1, srcId := 99, at' := 4000 } : Pkt).len ≤ 16384) ∧ (wPipelinePasses0.ingressFull (6 : Fin 8) ({ data := [1, 2, 3], srcType := 1, srcId := 99, at' := 4000 } : Pkt) = false) ∧ (wPipelinePasses0.poolFor false ({ data := [1, 2, 3], srcType := 1, srcId := 99, at' := 4000 } : Pkt).len = some (0 : Nat)) ∧ (0 < wPipelinePasses0.poolFree (0 : Nat)) ∧ (({ data := [1, 2, 3], srcType := 1, srcId := 99, at' := 4000 } : Pkt).desc = none)) ∧
    ((wPipelinePasses1.power.coreOn = true) ∧ ((wPipelinePasses1.pipe (6 : Fin 8)).arriving = [({ data := List.replicate 16385 0, srcType := 1, srcId := 99, at' := 4000 } : Pkt)]) ∧ (({ data := List.replicate 16385 0, srcType := 1, srcId := 99, at' := 4000 } : Pkt).at' ≤ wPipelinePasses1.now) ∧ (16384 < ({ data := List.replicate 16385 0, srcType := 1, srcId := 99, at' := 4000 } : Pkt).len) ∧ (({ data := List.replicate 16385 0, srcType := 1, srcId := 99, at' := 4000 } : Pkt).desc = none)) ∧
    ((wPipelinePasses2.power.coreOn = true) ∧ (wPipelinePasses2.paired = true) ∧ ((3 : Fin 8).val = wPipelinePasses2.pipeOfTwin) ∧ ((wPipelinePasses2.pipe (3 : Fin 8)).arriving = []) ∧ (([1, 2, 3] : List Nat).length ≤ 16384) ∧ (wPipelinePasses2.ingressFull (3 : Fin 8) { data := ([1, 2, 3] : List Nat), srcType := 3, srcId := 0x030, at' := wPipelinePasses2.now } = false) ∧ (wPipelinePasses2.poolFor false ([1, 2, 3] : List Nat).length = some (0 : Nat)) ∧ (0 < wPipelinePasses2.poolFree (0 : Nat))) ∧
    ((wPipelinePasses3.power.coreOn = true) ∧ (wPipelinePasses3.slotRecirc (6 : Fin 8) = false) ∧ ((wPipelinePasses3.pipe (6 : Fin 8)).ingress = ({ data := [1, 2, 3], srcType := 1, srcId := 99, at' := 4000 } : Pkt) :: ([] : List Pkt))) ∧
    ((wPipelinePasses4.power.coreOn = true) ∧ (wPipelinePasses4.slotRecirc (6 : Fin 8) = false) ∧ ((wPipelinePasses4.pipe (6 : Fin 8)).ingress = ({ data := [1, 2, 3, 4, 5, 6, 2, 8, 9, 10, 11, 12, 0x88, 0xB5] ++ List.replicate 46 0, srcType := 1, srcId := 99, at' := 4000 } : Pkt) :: ([] : List Pkt)) ∧ (wPipelinePasses4.get Cls.ACTIVE_BANK = 0) ∧ (wPipelinePasses4.validRules 0 = []) ∧ ((parsePacket wPipelinePasses4.parseCfg ({ data := [1, 2, 3, 4, 5, 6, 2, 8, 9, 10, 11, 12, 0x88, 0xB5] ++ List.replicate 46 0, srcType := 1, srcId := 99, at' := 4000 } : Pkt).data).f.status = 0) ∧ ((wPipelinePasses4.defaultAct 0).mode = 1) ∧ ((wPipelinePasses4.defaultAct 0).learn = false) ∧ ((wPipelinePasses4.defaultAct 0).tagOp = 0) ∧ ((wPipelinePasses4.defaultAct 0).queueSel = 1) ∧ (({ data := [1, 2, 3, 4, 5, 6, 2, 8, 9, 10, 11, 12, 0x88, 0xB5] ++ List.replicate 46 0, srcType := 1, srcId := 99, at' := 4000 } : Pkt).buf = none)) ∧
    ((wPipelinePasses5.power.coreOn = true) ∧ (wPipelinePasses5.slotRecirc (6 : Fin 8) = true) ∧ ((wPipelinePasses5.pipe (6 : Fin 8)).recirc = ({ pkt := { data := [1, 2, 3], srcType := 1, srcId := 99, at' := 4000 }, at' := 4500 } : Recirc) :: ([] : List Recirc))) :=
  ⟨by decide +kernel, ⟨rfl, rfl, by decide, by unfold Pkt.len; rw [List.length_replicate]; decide, rfl⟩, by decide +kernel, by decide +kernel, by decide +kernel, by decide +kernel⟩

/-- RuleBanks: every clause. -/
theorem witness_RuleBanks :
    ((wRuleBanks0.power.coreOn = true) ∧ (wRuleBanks0.draining (1 : Fin 2) = false) ∧ (wRuleBanks0.rflag Rule.VALID (65535 : Nat) (1 : Fin 2) = false) ∧ (wRuleBanks0.rnat Rule.KEY (65535 : Nat) (1 : Fin 2) < 2 ^ 640) ∧ (wRuleBanks0.rnat Rule.MASK (65535 : Nat) (1 : Fin 2) < 2 ^ 640)) ∧
    ((wRuleBanks1.power.coreOn = true) ∧ (wRuleBanks1.draining (1 : Fin 2) = true ∨ wRuleBanks1.rflag Rule.VALID (65535 : Nat) (1 : Fin 2) = true)) ∧
    ((wRuleBanks0.power.coreOn = true) ∧ (wRuleBanks0.power.trans ≠ 2) ∧ (wRuleBanks0.draining (1 : Fin 2) = false) ∧ (wRuleBanks0.rflag Rule.VALID (65535 : Nat) (1 : Fin 2) = false) ∧ (actCheck ((2 ^ 118 + 5 * 2 ^ 100 + 2 ^ 81 : Nat) % 2 ^ 128) = 0)) ∧
    ((wRuleBanks3.power.coreOn = true) ∧ (wRuleBanks3.power.trans = 2)) ∧
    ((wRuleBanks1.power.coreOn = true) ∧ (wRuleBanks1.power.trans ≠ 2) ∧ (wRuleBanks1.draining (1 : Fin 2) = false)) ∧
    ((wRuleBanks5.power.coreOn = true) ∧ (wRuleBanks5.nat Cls.SWAP_STATE = 0) ∧ (wRuleBanks5.get Cls.ACTIVE_BANK = ((1 : Fin 2).val : Int))) ∧
    ((wRuleBanks6.power.coreOn = true) ∧ (wRuleBanks6.nat Cls.SWAP_STATE ≠ 0)) ∧
    ((wRuleBanks7.power.coreOn = true) ∧ (wRuleBanks7.nat Cls.SWAP_STATE = 1) ∧ (wRuleBanks7.nat Cls.INFLIGHT_OLD = 0)) ∧
    ((tOn.power.coreOn = true) ∧ (bits (2 ^ 31 + 5 : Nat) 30 20 = 0)) ∧
    ((tOn.power.coreOn = true) ∧ (bits (2 ^ 25 + 5 : Nat) 30 20 ≠ 0)) :=
  by and_intros <;> first | decide +kernel | exact ctrlIn_good _ _ _ | rfl | exact Nat.ne_of_lt (Nat.lt_succ_self _)

/-- ForwardingTable: every clause. -/
theorem witness_ForwardingTable :
    ((wForwardingTable0.power.coreOn = true) ∧ (wForwardingTable0.fwd.promos = ((1, 77) : Nat × Nat) :: ([] : List (Nat × Nat))) ∧ (wForwardingTable0.findWay true ((1, 77) : Nat × Nat).1 ((1, 77) : Nat × Nat).2 = some (12 : Nat)) ∧ (wForwardingTable0.promoteWay ((1, 77) : Nat × Nat).1 ((1, 77) : Nat × Nat).2 = some (min (tOn.candidates false 1 77).1 (tOn.candidates false 1 77).2 * 4 : Nat)) ∧ (Tab.find? wForwardingTable0.fwd.ways (min (tOn.candidates false 1 77).1 (tOn.candidates false 1 77).2 * 4 : Nat) = none)) ∧
    ((wForwardingTable1.power.coreOn = true) ∧ ((wForwardingTable1.pipe (1 : Fin 8)).learn = [({ key := 77, loc := 5 } : Learn)]) ∧ (wForwardingTable1.homeOf 1 ({ key := 77, loc := 5 } : Learn).key = (1 : Fin 8).val) ∧ (wForwardingTable1.findEntry 1 ({ key := 77, loc := 5 } : Learn).key = none) ∧ (wForwardingTable1.freeWay false (wForwardingTable1.candidates false 1 ({ key := 77, loc := 5 } : Learn).key).1 = some ((tOn.candidates false 1 77).1 * 4 : Nat))) ∧
    ((wForwardingTable2.power.coreOn = true) ∧ ((wForwardingTable2.pipe (1 : Fin 8)).learn = [({ key := 77, loc := 5 } : Learn)]) ∧ (wForwardingTable2.homeOf 1 ({ key := 77, loc := 5 } : Learn).key = (1 : Fin 8).val) ∧ (wForwardingTable2.findEntry 1 ({ key := 77, loc := 5 } : Learn).key = some (false, (3 : Nat), ({ key := 77, dest := 5, aged := true } : FwdEnt))) ∧ (({ key := 77, dest := 5, aged := true } : FwdEnt).static = false) ∧ (({ key := 77, dest := 5, aged := true } : FwdEnt).quar = false) ∧ (({ key := 77, dest := 5, aged := true } : FwdEnt).locType = ({ key := 77, loc := 5 } : Learn).locType) ∧ (({ key := 77, dest := 5, aged := true } : FwdEnt).dest = ({ key := 77, loc := 5 } : Learn).loc)) ∧
    ((wForwardingTable3.power.coreOn = true) ∧ ((wForwardingTable3.pipe (2 : Fin 8)).learn = [({ key := 77, loc := 5 } : Learn)]) ∧ (wForwardingTable3.homeOf 1 ({ key := 77, loc := 5 } : Learn).key ≠ (2 : Fin 8).val) ∧ ((wForwardingTable3.pipe (wForwardingTable3.nextStation (2 : Fin 8))).learn.length < 256) ∧ (wForwardingTable3.nextStation (2 : Fin 8) ≠ (2 : Fin 8).val)) ∧
    ((wForwardingTable4.power.coreOn = true) ∧ (wForwardingTable4.findEntry (1 : Nat) (77 : Nat) = some (false, (3 : Nat), ({ key := 77, dest := 5, quar := true } : FwdEnt))) ∧ (({ key := 77, dest := 5, quar := true } : FwdEnt).quar = true) ∧ (({ key := 77, dest := 5, quar := true } : FwdEnt).quarUntil ≤ wForwardingTable4.now)) ∧
    ((wForwardingTable5.power.coreOn = true) ∧ (wForwardingTable5.flag Twin.TWIN_ENABLE = true) ∧ ((ctrlIn 5 0 (beBytes 32 (Learn.word { src := 0x030, locType := 0, loc := 5, fromPeer := true, timeNs := 9, key := 77, hash := homeHash 1 77 })) : CtrlIn).good 5 0 (beBytes 32 (Learn.word { src := 0x030, locType := 0, loc := (5 : Nat) % 2 ^ 20, fromPeer := true, timeNs := (9 : Nat) % 2 ^ 32, key := (77 : Nat) % 2 ^ 128, hash := homeHash 1 ((77 : Nat) % 2 ^ 128) })) = true) ∧ ((wForwardingTable5.pipe (wForwardingTable5.homeOf 1 ((77 : Nat) % 2 ^ 128))).learn.length < 256)) ∧
    ((wForwardingTable5.power.coreOn = true) ∧ (wForwardingTable5.flag Twin.TWIN_ENABLE = true) ∧ (({ hd := [21], crc := 5 } : CtrlIn).good 5 0 (beBytes 32 (Learn.word { src := 0x030, locType := 0, loc := (5 : Nat) % 2 ^ 20, fromPeer := true, timeNs := (9 : Nat) % 2 ^ 32, key := (77 : Nat) % 2 ^ 128, hash := homeHash 1 ((77 : Nat) % 2 ^ 128) })) = false)) ∧
    ((wForwardingTable7.power.coreOn = true) ∧ (wForwardingTable7.fwd.passDue ≤ wForwardingTable7.now) ∧ (wForwardingTable7.fwd.passing = false) ∧ (wForwardingTable7.inTrim = true)) ∧
    ((wForwardingTable8.power.coreOn = true) ∧ (wForwardingTable8.fwd.passing = true)) ∧
    ((wForwardingTable9.power.coreOn = true) ∧ (wForwardingTable9.findEntry (wForwardingTable9.nat FwdOp.OP_FORM) (wForwardingTable9.nat FwdOp.OP_KEY) = some ((true : Bool), (8 : Nat), ({ key := 5, dest := 9 } : FwdEnt)))) ∧
    ((wForwardingTable10.power.coreOn = true) ∧ (wForwardingTable10.findEntry (wForwardingTable10.nat FwdOp.OP_FORM) (wForwardingTable10.nat FwdOp.OP_KEY) = none) ∧ ((wForwardingTable10.pipe (wForwardingTable10.homeOf (wForwardingTable10.nat FwdOp.OP_FORM) (wForwardingTable10.nat FwdOp.OP_KEY))).learn = []) ∧ (wForwardingTable10.freeWay false (wForwardingTable10.candidates false (wForwardingTable10.nat FwdOp.OP_FORM) (wForwardingTable10.nat FwdOp.OP_KEY)).1 = some ((tOn.candidates false 1 5).1 * 4 : Nat))) ∧
    ((wForwardingTable9.power.coreOn = true) ∧ (wForwardingTable9.findEntry (wForwardingTable9.nat FwdOp.OP_FORM) (wForwardingTable9.nat FwdOp.OP_KEY) = some ((true, 8, { key := 5, dest := 9 }) : Bool × Nat × FwdEnt)) ∧ ((wForwardingTable9.pipe (wForwardingTable9.homeOf (wForwardingTable9.nat FwdOp.OP_FORM) (wForwardingTable9.nat FwdOp.OP_KEY))).learn = [])) ∧
    ((wForwardingTable12.power.coreOn = true) ∧ (wForwardingTable12.findEntry (wForwardingTable12.nat FwdOp.OP_FORM) (wForwardingTable12.nat FwdOp.OP_KEY) = some (false, (8 : Nat), ({ key := 5, dest := 9 } : FwdEnt))) ∧ ((wForwardingTable12.pipe (wForwardingTable12.homeOf (wForwardingTable12.nat FwdOp.OP_FORM) (wForwardingTable12.nat FwdOp.OP_KEY))).learn = [])) ∧
    (tOn.power.coreOn = true) ∧
    ((wForwardingTable14.power.coreOn = true) ∧ (wForwardingTable14.fwd.flush = some ((0 : Nat), (9 : Nat)))) ∧
    ((wForwardingTable15.power.coreOn = true) ∧ ((∀ e ∈ wForwardingTable15.od, e.1.index = 0xA600 → e.1.sub = 6 → e.2 = 1 → e.1.recNo ≠ (7 : Nat) →
    wForwardingTable15.rget Assoc.FORM e.1.recNo ≠ wForwardingTable15.rget Assoc.FORM (7 : Nat) ∨ wForwardingTable15.rget Assoc.KEY e.1.recNo ≠ wForwardingTable15.rget Assoc.KEY (7 : Nat)))) ∧
    ((wForwardingTable16.power.coreOn = true)) :=
  by and_intros <;> first | decide +kernel | exact ctrlIn_good _ _ _ | rfl | exact Nat.ne_of_lt (Nat.lt_succ_self _)

/-- TrafficManager: every clause. -/
theorem witness_TrafficManager :
    ((wTrafficManager0.power.coreOn = true) ∧ (wTrafficManager0.tm.decisions = ({ pkt := { data := [1, 2, 3] }, dir := 1, dest := .member 7, queueSel := 0, queue := 70 } : Decision) :: ([] : List Decision)) ∧ (({ pkt := { data := [1, 2, 3] }, dir := 1, dest := .member 7, queueSel := 0, queue := 70 } : Decision).policer = 0) ∧ (({ pkt := { data := [1, 2, 3] }, dir := 1, dest := .member 7, queueSel := 0, queue := 70 } : Decision).hint = false) ∧ (({ pkt := { data := [1, 2, 3] }, dir := 1, dest := .member 7, queueSel := 0, queue := 70 } : Decision).dir = 1) ∧ (({ pkt := { data := [1, 2, 3] }, dir := 1, dest := .member 7, queueSel := 0, queue := 70 } : Decision).flood = none) ∧ (({ pkt := { data := [1, 2, 3] }, dir := 1, dest := .member 7, queueSel := 0, queue := 70 } : Decision).dest = .member (7 : Fin 32)) ∧ (({ pkt := { data := [1, 2, 3] }, dir := 1, dest := .member 7, queueSel := 0, queue := 70 } : Decision).queueSel = 0) ∧ (({ pkt := { data := [1, 2, 3] }, dir := 1, dest := .member 7, queueSel := 0, queue := 70 } : Decision).queue = (70 : Nat)) ∧ (wTrafficManager0.hasRecord 0xB001 (70 : Nat) = true) ∧ (wTrafficManager0.queueLine 1 (70 : Nat) = some (7 : Fin 32).val) ∧ (wTrafficManager0.rflag Queue.ADMIN (70 : Nat) 1 = true) ∧ (wTrafficManager0.launchOf 1 (70 : Nat) ({ pkt := { data := [1, 2, 3] }, dir := 1, dest := .member 7, queueSel := 0, queue := 70 } : Decision).pkt = none) ∧ (wTrafficManager0.inTrim = true) ∧ (qBytes (wTrafficManager0.queue 1 (70 : Nat)) + ({ pkt := { data := [1, 2, 3] }, dir := 1, dest := .member 7, queueSel := 0, queue := 70 } : Decision).pkt.len < wTrafficManager0.dropMax 1 (70 : Nat) ({ pkt := { data := [1, 2, 3] }, dir := 1, dest := .member 7, queueSel := 0, queue := 70 } : Decision).colour)) ∧
    ((wTrafficManager1.power.coreOn = true) ∧ (wTrafficManager1.tm.decisions = ({ pkt := { data := [1, 2, 3] }, dir := 1, dest := .member 7, queueSel := 0, queue := 70 } : Decision) :: ([] : List Decision)) ∧ (({ pkt := { data := [1, 2, 3] }, dir := 1, dest := .member 7, queueSel := 0, queue := 70 } : Decision).policer = 0) ∧ (({ pkt := { data := [1, 2, 3] }, dir := 1, dest := .member 7, queueSel := 0, queue := 70 } : Decision).hint = false) ∧ (({ pkt := { data := [1, 2, 3] }, dir := 1, dest := .member 7, queueSel := 0, queue := 70 } : Decision).dir = 1) ∧ (({ pkt := { data := [1, 2, 3] }, dir := 1, dest := .member 7, queueSel := 0, queue := 70 } : Decision).flood = none) ∧ (({ pkt := { data := [1, 2, 3] }, dir := 1, dest := .member 7, queueSel := 0, queue := 70 } : Decision).queueSel = 0) ∧ (wTrafficManager1.hasRecord 0xB001 ({ pkt := { data := [1, 2, 3] }, dir := 1, dest := .member 7, queueSel := 0, queue := 70 } : Decision).queue = false) ∧ (({ pkt := { data := [1, 2, 3] }, dir := 1, dest := .member 7, queueSel := 0, queue := 70 } : Decision).pkt.buf = none)) ∧
    ((wTrafficManager2.power.coreOn = true) ∧ (wTrafficManager2.tm.decisions = ({ pkt := { data := [1, 2, 3] }, dir := 1, dest := .member 7, queueSel := 0, queue := 70, colour := 2 } : Decision) :: ([] : List Decision)) ∧ (({ pkt := { data := [1, 2, 3] }, dir := 1, dest := .member 7, queueSel := 0, queue := 70, colour := 2 } : Decision).policer = 0) ∧ (({ pkt := { data := [1, 2, 3] }, dir := 1, dest := .member 7, queueSel := 0, queue := 70, colour := 2 } : Decision).hint = false) ∧ (({ pkt := { data := [1, 2, 3] }, dir := 1, dest := .member 7, queueSel := 0, queue := 70, colour := 2 } : Decision).dir = 1) ∧ (({ pkt := { data := [1, 2, 3] }, dir := 1, dest := .member 7, queueSel := 0, queue := 70, colour := 2 } : Decision).flood = none) ∧ (({ pkt := { data := [1, 2, 3] }, dir := 1, dest := .member 7, queueSel := 0, queue := 70, colour := 2 } : Decision).dest = .member (7 : Fin 32)) ∧ (({ pkt := { data := [1, 2, 3] }, dir := 1, dest := .member 7, queueSel := 0, queue := 70, colour := 2 } : Decision).queueSel = 0) ∧ (({ pkt := { data := [1, 2, 3] }, dir := 1, dest := .member 7, queueSel := 0, queue := 70, colour := 2 } : Decision).queue = (70 : Nat)) ∧ (wTrafficManager2.hasRecord 0xB001 (70 : Nat) = true) ∧ (wTrafficManager2.queueLine 1 (70 : Nat) = some (7 : Fin 32).val) ∧ (wTrafficManager2.rflag Queue.ADMIN (70 : Nat) 1 = true) ∧ (wTrafficManager2.launchOf 1 (70 : Nat) ({ pkt := { data := [1, 2, 3] }, dir := 1, dest := .member 7, queueSel := 0, queue := 70, colour := 2 } : Decision).pkt = none) ∧ (wTrafficManager2.dropMax 1 (70 : Nat) ({ pkt := { data := [1, 2, 3] }, dir := 1, dest := .member 7, queueSel := 0, queue := 70, colour := 2 } : Decision).colour ≤ qBytes (wTrafficManager2.queue 1 (70 : Nat)) + ({ pkt := { data := [1, 2, 3] }, dir := 1, dest := .member 7, queueSel := 0, queue := 70, colour := 2 } : Decision).pkt.len) ∧ (({ pkt := { data := [1, 2, 3] }, dir := 1, dest := .member 7, queueSel := 0, queue := 70, colour := 2 } : Decision).pkt.buf = none)) ∧
    ((wTrafficManager3.power.coreOn = true) ∧ (wTrafficManager3.lineTakes 1 (7 : Fin 32) = true) ∧ ((State.pick 1 5 (7 : Fin 32) wTrafficManager3).1 = some (70 : Nat)) ∧ (wTrafficManager3.queue 1 (70 : Nat) = ({ pkt := { data := [1, 2, 3] }, dest := .member 7 } : QPkt) :: ([] : List QPkt)) ∧ (wTrafficManager3.rnat DropP.REFILL_AT (wTrafficManager3.rnat Queue.PROFILE (70 : Nat) 1) = 0)) ∧
    ((wTrafficManager4.power.coreOn = true) ∧ (wTrafficManager4.lineTakes (0 : Fin 2) (7 : Nat) = false)) ∧
    (({ tOn [(Upl.MODE.addr 1 0 0, 3), ((marker 0xB001).addr 0 0 70, 1), (Queue.SERVICE.addr 1 0 70, 40000), (Node.PARENT.addr 1 0 40000, 9000), (Node.PARENT.addr 1 0 9000, 1500), (Node.PARENT.addr 1 0 1500, 7), ((marker 0xB011).addr 0 0 40000, 1), ((marker 0xB011).addr 0 0 9000, 1), ((marker 0xB011).addr 0 0 1500, 1), (Queue.ADMIN.addr 1 0 70, 1)] 5000 with tm := { queues := [(262144 + 70, [{ pkt := { data := [1, 2, 3] }, dest := .member 7 }])] } } : State).power.coreOn = true ∧ ({ tOn [(Upl.MODE.addr 1 0 0, 3), ((marker 0xB001).addr 0 0 70, 1), (Queue.SERVICE.addr 1 0 70, 40000), (Node.PARENT.addr 1 0 40000, 9000), (Node.PARENT.addr 1 0 9000, 1500), (Node.PARENT.addr 1 0 1500, 7), ((marker 0xB011).addr 0 0 40000, 1), ((marker 0xB011).addr 0 0 9000, 1), ((marker 0xB011).addr 0 0 1500, 1), (Queue.ADMIN.addr 1 0 70, 1)] 5000 with tm := { queues := [(262144 + 70, [{ pkt := { data := [1, 2, 3] }, dest := .member 7 }])] } } : State).lineTakes 1 7 = true ∧ (State.pick 1 5 7 ({ tOn [(Upl.MODE.addr 1 0 0, 3), ((marker 0xB001).addr 0 0 70, 1), (Queue.SERVICE.addr 1 0 70, 40000), (Node.PARENT.addr 1 0 40000, 9000), (Node.PARENT.addr 1 0 9000, 1500), (Node.PARENT.addr 1 0 1500, 7), ((marker 0xB011).addr 0 0 40000, 1), ((marker 0xB011).addr 0 0 9000, 1), ((marker 0xB011).addr 0 0 1500, 1), (Queue.ADMIN.addr 1 0 70, 1)] 5000 with tm := { queues := [(262144 + 70, [{ pkt := { data := [1, 2, 3] }, dest := .member 7 }])] } } : State)).1 = some 70 ∧ ((State.pick 1 5 7 ({ tOn [(Upl.MODE.addr 1 0 0, 3), ((marker 0xB001).addr 0 0 70, 1), (Queue.SERVICE.addr 1 0 70, 40000), (Node.PARENT.addr 1 0 40000, 9000), (Node.PARENT.addr 1 0 9000, 1500), (Node.PARENT.addr 1 0 1500, 7), ((marker 0xB011).addr 0 0 40000, 1), ((marker 0xB011).addr 0 0 9000, 1), ((marker 0xB011).addr 0 0 1500, 1), (Queue.ADMIN.addr 1 0 70, 1)] 5000 with tm := { queues := [(262144 + 70, [{ pkt := { data := [1, 2, 3] }, dest := .member 7 }])] } } : State)).2.dequeue 1 70).1 = some { pkt := { data := [1, 2, 3] }, dest := .member 7 }) ∧
    ((wTrafficManager6.power.coreOn = true) ∧ ((wTrafficManager6.queue (1 : Fin 2) (70 : Nat)).find? (fun y => y.writing) = some ({ pkt := { data := [1, 2, 3] }, dest := .member 7, deep := true, writing := true, chip := some 128 } : QPkt)) ∧ (wTrafficManager6.deepReady ({ pkt := { data := [1, 2, 3] }, dest := .member 7, deep := true, writing := true, chip := some 128 } : QPkt) = true) ∧ (({ pkt := { data := [1, 2, 3] }, dest := .member 7, deep := true, writing := true, chip := some 128 } : QPkt).chip = some (128 : Nat)) ∧ (({ pkt := { data := [1, 2, 3] }, dest := .member 7, deep := true, writing := true, chip := some 128 } : QPkt).pkt.shared = false) ∧ (wTrafficManager6.bufCheck .free idTm (128 : Nat) = 0) ∧ (wTrafficManager6.rnat DropP.REFILL_AT (wTrafficManager6.rnat Queue.PROFILE (70 : Nat) (1 : Fin 2)) = 0)) ∧
    ((wTrafficManager7.power.coreOn = true) ∧ ((wTrafficManager7.queue (1 : Fin 2) (70 : Nat)).find? (fun y => y.reading && !y.writing) = some ({ pkt := { data := [1, 2, 3] }, dest := .member 7, deep := true, reading := true } : QPkt)) ∧ (({ pkt := { data := [1, 2, 3] }, dest := .member 7, deep := true, reading := true } : QPkt).pkt.buf = none) ∧ (wTrafficManager7.deepReady ({ pkt := { data := [1, 2, 3] }, dest := .member 7, deep := true, reading := true } : QPkt) = true) ∧ (wTrafficManager7.poolFor false ({ pkt := { data := [1, 2, 3] }, dest := .member 7, deep := true, reading := true } : QPkt).pkt.len = some (0 : Nat)) ∧ (0 < wTrafficManager7.poolFree (0 : Nat)) ∧ (wTrafficManager7.rnat DropP.REFILL_AT (wTrafficManager7.rnat Queue.PROFILE (70 : Nat) (1 : Fin 2)) = 0)) ∧
    ((wTrafficManager8.power.coreOn = true) ∧ (wTrafficManager8.queue (0 : Fin 2) (70 : Nat) = ({ pkt := { data := [1, 2, 3], launch := some (4000 * 65536) }, dest := .xgem 7 } : QPkt) :: ([] : List QPkt)) ∧ (wTrafficManager8.rflag Queue.LAUNCH (70 : Nat) (0 : Fin 2) = true) ∧ (wTrafficManager8.windowAt (0 : Fin 2) (70 : Nat) ({ pkt := { data := [1, 2, 3], launch := some (4000 * 65536) }, dest := .xgem 7 } : QPkt) + wTrafficManager8.nat Tm.LAUNCH_LATE_NS * 65536 ≤ wTrafficManager8.now * 65536) ∧ (wTrafficManager8.rnat DropP.REFILL_AT (wTrafficManager8.rnat Queue.PROFILE (70 : Nat) (0 : Fin 2)) = 0)) ∧
    ((wTrafficManager9.power.coreOn = true) ∧ (wTrafficManager9.rflag Queue.LAUNCH (70 : Nat) (0 : Fin 2) = true) ∧ (wTrafficManager9.headReady (0 : Fin 2) (70 : Nat) = true) ∧ (wTrafficManager9.queueLine (0 : Fin 2) (70 : Nat) = some (7 : Nat))) ∧
    ((wTrafficManager10.power.coreOn = true) ∧ (wTrafficManager10.hasRecord (0xB000 + (0 : Fin 2)) (70 : Nat) = true) ∧ ((wTrafficManager10.tm.queueSh.getD (qKey (0 : Fin 2) (70 : Nat)) {}).set = true)) ∧
    ((wTrafficManager11.power.coreOn = true) ∧ ((if (true : Bool) then wTrafficManager11.hasRecord (0xB000 + (0 : Fin 2)) (70 : Nat) = true else wTrafficManager11.nodeExists (0 : Fin 2) (70 : Nat) = true ∧ nodeLevel (0 : Fin 2) (70 : Nat) ≠ 1)) ∧ ((wTrafficManager11.setShaper (true : Bool) (0 : Fin 2) (70 : Nat) (wTrafficManager11.shaper (true : Bool) (0 : Fin 2) (70 : Nat))).eligible (0 : Fin 2) false ((true : Bool), (70 : Nat)) = true) ∧ ((if (true : Bool) then wTrafficManager11.queueLine (0 : Fin 2) (70 : Nat) else (wTrafficManager11.nodePath (0 : Fin 2) 4 (70 : Nat)).getLast?) = some (7 : Nat))) :=
  by and_intros <;> first | decide +kernel | exact ctrlIn_good _ _ _ | rfl | exact Nat.ne_of_lt (Nat.lt_succ_self _)

/-- PickChoice: every clause. -/
theorem witness_PickChoice :
    (((State.pick (1 : Nat) (5 : Nat) (7 : Nat) wPickChoice0).1 = some (70 : Nat))) :=
  by decide +kernel

/-- BufferOwnership: every clause. -/
theorem witness_BufferOwnership :
    ((wBufferOwnership0.power.coreOn = true) ∧ (0 < wBufferOwnership0.poolFree (3 : Nat))) ∧
    ((wBufferOwnership1.power.coreOn = true) ∧ (wBufferOwnership1.poolFree (10 : Nat) = 0) ∧ ((∀ k, nextPool (10 : Nat) = some k → wBufferOwnership1.flag Pool.SPILL_UP k = false))) ∧
    ((wBufferOwnership2.power.coreOn = true) ∧ (wBufferOwnership2.bufCheck (.handover (77 : Nat)) (idTm : Nat) (128 : Nat) = 0)) ∧
    ((wBufferOwnership2.power.coreOn = true) ∧ (wBufferOwnership2.bufCheck (.share (4096 : Nat) (77 : Nat)) (idTm : Nat) (128 : Nat) = 0)) ∧
    ((wBufferOwnership4.power.coreOn = true) ∧ (wBufferOwnership4.bufCheck .release (idTm : Nat) (128 : Nat) = 0) ∧ ((wBufferOwnership4.buf (128 : Nat)).2.2 ≠ idRepl)) ∧
    ((wBufferOwnership5.power.coreOn = true) ∧ ((7 : Nat) ≠ (6 : Nat)) ∧ (wBufferOwnership5.bufCheck .release (7 : Nat) (128 : Nat) = 0) ∧ (wBufferOwnership5.bufCheck .release (6 : Nat) (128 : Nat) = 0) ∧ (3 ≤ (wBufferOwnership5.buf (128 : Nat)).1) ∧ ((wBufferOwnership5.buf (128 : Nat)).2.2 ≠ idRepl)) ∧
    ((wBufferOwnership6.power.coreOn = true) ∧ (wBufferOwnership6.bufCheck .free (5 : Nat) (128 : Nat) = 0)) ∧
    ((wBufferOwnership4.power.coreOn = true) ∧ (wBufferOwnership4.bufCheck (.free : BufOp) (5 : Nat) (128 : Nat) ≠ 0) ∧ ((.bufFree 5 128 [] : Instr) = (match (.free : BufOp) with | .handover id => .bufHandover (5 : Nat) (128 : Nat) id [] | .share k id => .bufShare (5 : Nat) (128 : Nat) k id [] | .release => .bufRelease (5 : Nat) (128 : Nat) [] | .free => .bufFree (5 : Nat) (128 : Nat) []))) :=
  by and_intros <;> first | decide +kernel | exact ctrlIn_good _ _ _ | rfl | exact Nat.ne_of_lt (Nat.lt_succ_self _)

/-- ReplayAndCapture: every clause. -/
theorem witness_ReplayAndCapture :
    ((wReplayAndCapture0.power.coreOn = true)) ∧
    ((wReplayAndCapture1.power.coreOn = true) ∧ (wReplayAndCapture1.inTrim = false) ∧ (wReplayAndCapture1.rflag Chan.ENABLE (wReplayAndCapture1.nat Join.JOIN_CHANNEL) = true) ∧ ((wReplayAndCapture1.serviceOf (wReplayAndCapture1.nat Join.JOIN_XGEM)).bind (fun svc => wReplayAndCapture1.queueAt 0 svc (wReplayAndCapture1.nat Join.JOIN_QINDEX)) = some (70 : Nat)) ∧ (wReplayAndCapture1.tm.replays.length < 256) ∧ ((∃ e ∈ (wReplayAndCapture1.tm.rings.getD (wReplayAndCapture1.nat Join.JOIN_CHANNEL) {}).items, wReplayAndCapture1.now ≤ e.2.1 + wReplayAndCapture1.rnat Chan.WINDOW_MS (wReplayAndCapture1.nat Join.JOIN_CHANNEL) * 1000000 ∧ e.2.1 < wReplayAndCapture1.now))) ∧
    ((wReplayAndCapture2.power.coreOn = true) ∧ (wReplayAndCapture2.inTrim = true ∨ wReplayAndCapture2.rflag Chan.ENABLE (wReplayAndCapture2.nat Join.JOIN_CHANNEL) = false)) ∧
    ((wReplayAndCapture3.power.coreOn = true) ∧ (wReplayAndCapture3.tm.replays[(0 : Nat)]? = some ({ ch := 5, q := 70, items := [1] } : Replay)) ∧ (({ ch := 5, q := 70, items := [1] } : Replay).items = (1 : Nat) :: ([] : List Nat)) ∧ (({ ch := 5, q := 70, items := [1] } : Replay).due ≤ wReplayAndCapture3.now) ∧ ((∀ e, (wReplayAndCapture3.tm.rings.getD ({ ch := 5, q := 70, items := [1] } : Replay).ch {}).items.find? (1 : Nat) = some e → e.1 + wReplayAndCapture3.rnat Chan.WINDOW_MS ({ ch := 5, q := 70, items := [1] } : Replay).ch * 1000000 < wReplayAndCapture3.now))) ∧
    ((wReplayAndCapture4.power.coreOn = true) ∧ (wReplayAndCapture4.tm.replays[(0 : Nat)]? = some ({ ch := 5, q := 70, items := [1, 2], kbps := 1000 } : Replay)) ∧ (({ ch := 5, q := 70, items := [1, 2], kbps := 1000 } : Replay).items = (1 : Nat) :: ([2] : List Nat)) ∧ (({ ch := 5, q := 70, items := [1, 2], kbps := 1000 } : Replay).due ≤ wReplayAndCapture4.now) ∧ ((wReplayAndCapture4.tm.rings.getD ({ ch := 5, q := 70, items := [1, 2], kbps := 1000 } : Replay).ch {}).items.find? (1 : Nat) = some ((1000000000, [1, 2]) : Nat × List Nat)) ∧ (wReplayAndCapture4.now ≤ ((1000000000, [1, 2]) : Nat × List Nat).1 + wReplayAndCapture4.rnat Chan.WINDOW_MS ({ ch := 5, q := 70, items := [1, 2], kbps := 1000 } : Replay).ch * 1000000) ∧ (wReplayAndCapture4.hasRecord 0xB000 ({ ch := 5, q := 70, items := [1, 2], kbps := 1000 } : Replay).q = true) ∧ (wReplayAndCapture4.rflag Queue.ADMIN ({ ch := 5, q := 70, items := [1, 2], kbps := 1000 } : Replay).q = true) ∧ (wReplayAndCapture4.poolFor false ((1000000000, [1, 2]) : Nat × List Nat).2.length = some (0 : Nat)) ∧ (0 < wReplayAndCapture4.poolFree (0 : Nat)) ∧ (wReplayAndCapture4.queueLine 0 ({ ch := 5, q := 70, items := [1, 2], kbps := 1000 } : Replay).q = some 129) ∧ (wReplayAndCapture4.inTrim = true) ∧ (qBytes (wReplayAndCapture4.queue 0 ({ ch := 5, q := 70, items := [1, 2], kbps := 1000 } : Replay).q) + ((1000000000, [1, 2]) : Nat × List Nat).2.length < wReplayAndCapture4.dropMax 0 ({ ch := 5, q := 70, items := [1, 2], kbps := 1000 } : Replay).q 0)) ∧
    ((wReplayAndCapture5.power.coreOn = true) ∧ (wReplayAndCapture5.inTrim = false) ∧ (wReplayAndCapture5.nat DdrReg.ACTIVE_SIZE_MIB 2 ≠ 0) ∧ (wReplayAndCapture5.flag BCap.CAP_ARM = false)) ∧
    ((wReplayAndCapture6.power.coreOn = true) ∧ (wReplayAndCapture6.inTrim = true ∨ wReplayAndCapture6.nat DdrReg.ACTIVE_SIZE_MIB 2 = 0)) :=
  by and_intros <;> first | decide +kernel | exact ctrlIn_good _ _ _ | rfl | exact Nat.ne_of_lt (Nat.lt_succ_self _)

/-- UplinkGroups: every clause. -/
theorem witness_UplinkGroups :
    ((wUplinkGroups0.power.coreOn = true) ∧ (wUplinkGroups0.partner (3 : Fin 8) = false) ∧ (wUplinkGroups0.nat Upl.MODE (3 : Fin 8) ≠ 0) ∧ (wUplinkGroups0.flag Upl.ENABLE (3 : Fin 8) = false) ∧ (wUplinkGroups0.trimHeld (3 : Fin 8) = false)) ∧
    ((wReplayAndCapture2.power.coreOn = true) ∧ (wReplayAndCapture2.partner (3 : Fin 8) = true ∨ wReplayAndCapture2.nat Upl.MODE (3 : Fin 8) = 0)) ∧
    ((wUplinkGroups2.power.coreOn = true) ∧ (wUplinkGroups2.partner (3 : Fin 8) = false)) ∧
    ((wUplinkGroups3.power.coreOn = true) ∧ (wUplinkGroups3.nat Upl.STATE (3 : Fin 8) = 1)) ∧
    ((wUplinkGroups4.power.coreOn = true) ∧ (wUplinkGroups4.nat Upl.STATE (3 : Fin 8) = 2) ∧ (wUplinkGroups4.now < (wUplinkGroups4.uplG (3 : Fin 8)).since + wUplinkGroups4.nat Upl.TRAIN_TIMEOUT_MS (3 : Fin 8) * 1000000)) ∧
    ((wUplinkGroups5.power.coreOn = true) ∧ (wUplinkGroups5.nat Upl.STATE (3 : Fin 8) = 2) ∧ ((wUplinkGroups5.uplG (3 : Fin 8)).since + wUplinkGroups5.nat Upl.TRAIN_TIMEOUT_MS (3 : Fin 8) * 1000000 ≤ wUplinkGroups5.now)) ∧
    ((wUplinkGroups6.power.coreOn = true) ∧ (wUplinkGroups6.nat Upl.STATE (3 : Fin 8) = 3)) ∧
    ((wUplinkGroups7.power.coreOn = true) ∧ (wUplinkGroups7.nat Upl.STATE (3 : Fin 8) = 5) ∧ ((wUplinkGroups7.uplG (3 : Fin 8)).since + 1000000000 ≤ wUplinkGroups7.now)) ∧
    ((wUplinkGroups8.power.coreOn = true) ∧ (wUplinkGroups8.nat Upl.STATE (3 : Fin 8) = 5) ∧ (wUplinkGroups8.now < (wUplinkGroups8.uplG (3 : Fin 8)).since + 1000000000)) :=
  by and_intros <;> first | decide +kernel | exact ctrlIn_good _ _ _ | rfl | exact Nat.ne_of_lt (Nat.lt_succ_self _)

/-- UplinkMac: every clause. -/
theorem witness_UplinkMac :
    ((wUplinkGroups2.power.coreOn = true) ∧ (wUplinkGroups2.tribUp (13 : Fin 32) = true) ∧ ((false : Bool) = false ∨ wUplinkGroups2.flag Upl.FEC_ERR_IND ((13 : Fin 32) / 4) = false) ∧ (60 ≤ (List.replicate 60 1 : List Nat).length) ∧ ((List.replicate 60 1 : List Nat).length + 4 ≤ wUplinkGroups2.nat Mac.MAX_FRAME (13 : Fin 32)) ∧ (beAt (List.replicate 60 1 : List Nat) 12 2 ≠ 0x8808) ∧ (wUplinkGroups2.protProtect (13 : Fin 32) = none) ∧ (wUplinkGroups2.tribOf (13 : Fin 32) = (13 : Fin 32).val) ∧ (wUplinkGroups2.timeTakes (13 : Fin 32) (List.replicate 60 1 : List Nat) = false) ∧ ((wUplinkGroups2.recovery (List.replicate 60 1 : List Nat)).1 = some (List.replicate 60 1 : List Nat))) ∧
    ((wUplinkGroups2.power.coreOn = true) ∧ (wUplinkGroups2.tribUp (13 : Fin 32) = true) ∧ ((Mac.RX_UNDERSIZE : Obj) = (if (List.replicate 59 1 : List Nat).length < 60 then Mac.RX_UNDERSIZE else if wUplinkGroups2.nat Mac.MAX_FRAME (13 : Fin 32) < (List.replicate 59 1 : List Nat).length + 4 then Mac.RX_OVERSIZE else if (true : Bool) = true ∧ ¬((true : Bool) = true ∧ wUplinkGroups2.flag Upl.FEC_ERR_IND ((13 : Fin 32) / 4) = true) then Mac.RX_CONTROL else Mac.RX_FCS)) ∧ ((List.replicate 59 1 : List Nat).length < 60 ∨ wUplinkGroups2.nat Mac.MAX_FRAME (13 : Fin 32) < (List.replicate 59 1 : List Nat).length + 4 ∨ (true : Bool) = false ∨ ((true : Bool) = true ∧ wUplinkGroups2.flag Upl.FEC_ERR_IND ((13 : Fin 32) / 4) = true) ∨ beAt (List.replicate 59 1 : List Nat) 12 2 = 0x8808)) ∧
    ((wUplinkGroups2.power.coreOn = true) ∧ (wUplinkGroups2.memberUp (13 : Fin 32) = true) ∧ (wUplinkGroups2.protWorking (13 : Fin 32) = none) ∧ (wUplinkGroups2.protProtect (13 : Fin 32) = none) ∧ (wUplinkGroups2.nat Upl.MODE ((13 : Fin 32) / 4) ≠ 5)) :=
  by and_intros <;> first | decide +kernel | exact ctrlIn_good _ _ _ | rfl | exact Nat.ne_of_lt (Nat.lt_succ_self _)

/-- OtnLayers: every clause. -/
theorem witness_OtnLayers :
    ((wOtnLayers0.power.coreOn = true) ∧ (wOtnLayers0.otnOn (3 : Fin 40) = true) ∧ ((.ais true : OtnCond).fits (3 : Fin 40) = true)) ∧
    ((wOtnLayers1.power.coreOn = true) ∧ (wOtnLayers1.otnOn (3 : Fin 40) = true) ∧ ((3 : Fin 40).val < 8) ∧ ((wOtnLayers1.otnX (3 : Fin 40)).los = [((2 : Fin 4).val, ({ bad := true, since := 5000 } : LineCond))]) ∧ (({ bad := true, since := 5000 } : LineCond).bad = true) ∧ (({ bad := true, since := 5000 } : LineCond).dfct = false)) ∧
    ((wOtnLayers2.power.coreOn = true) ∧ (wOtnLayers2.otnOn (3 : Fin 40) = true) ∧ ((3 : Fin 40).val < 8) ∧ ((wOtnLayers2.otnX (3 : Fin 40)).fas.miss = 4) ∧ ((wOtnLayers2.otnX (3 : Fin 40)).lof.bad = false)) ∧
    ((wOtnLayers3.power.coreOn = true) ∧ (wOtnLayers3.otnOn (21 : Fin 40) = true) ∧ ((77 : Nat) < 2 ^ 512) ∧ ((wOtnLayers3.otnX (21 : Fin 40)).tti = (77 : Nat)) ∧ (2 ≤ (wOtnLayers3.otnX (21 : Fin 40)).ttiRun)) ∧
    ((wOtnLayers3.power.coreOn = true) ∧ (wOtnLayers3.otnOn (21 : Fin 40) = true) ∧ ((78 : Nat) < 2 ^ 512) ∧ ((wOtnLayers3.otnX (21 : Fin 40)).tti ≠ (78 : Nat))) ∧
    ((wOtnLayers5.power.coreOn = true) ∧ (wOtnLayers5.otnOn (8 + (13 : Fin 32)) = true) ∧ ((188 : Nat) = 188 ∨ (188 : Nat) = 189)) ∧
    ((wOtnLayers6.power.coreOn = true) ∧ (wOtnLayers6.otnOn (8 + (13 : Fin 32)) = true) ∧ ((true : Bool) = false ∨ ((190 : Nat) ≠ 188 ∧ (190 : Nat) ≠ 189))) ∧
    ((wOtnLayers7.power.coreOn = true) ∧ (wOtnLayers7.otnOn (21 : Fin 40) = true) ∧ ((15 : Nat) = (List.replicate 15 3 : List Nat).length) ∧ ((14 : Nat) = ((0 :: List.replicate 14 8 : List Nat).filter (fun n => n != 0)).length) ∧ (((wOtnLayers7.otnX (21 : Fin 40)).nextSec + 1) * 1000000000 ≤ wOtnLayers7.now) ∧ ((wOtnLayers7.otnX (21 : Fin 40)).nextSec < 10) ∧ ((wOtnLayers7.otnX (21 : Fin 40)).sfSince = none) ∧ ((wOtnLayers7.otnX (21 : Fin 40)).sfPast = []) ∧ ((wOtnLayers7.otnX (21 : Fin 40)).bdiSince = none) ∧ ((wOtnLayers7.otnX (21 : Fin 40)).bdiPast = [])) ∧
    ((wOtnLayers8.power.coreOn = true) ∧ (wOtnLayers8.now < ((wOtnLayers8.otnX (21 : Fin 40)).nextSec + 1) * 1000000000)) :=
  by and_intros <;> first | decide +kernel | exact ctrlIn_good _ _ _ | rfl | exact Nat.ne_of_lt (Nat.lt_succ_self _)

/-- LinearProtection: every clause. -/
theorem witness_LinearProtection :
    ((wLinearProtection0.power.coreOn = true) ∧ (wLinearProtection0.nat Prot.TYPE (5 : Fin 16) = 0) ∧ ((.protCmdForced 5 : Instr) = (match (2 : Fin 5) with | 0 => .protCmdClear (5 : Fin 16) | 1 => .protCmdLockout (5 : Fin 16) | 2 => .protCmdForced (5 : Fin 16) | 3 => .protCmdManual (5 : Fin 16) | 4 => .protCmdExercise (5 : Fin 16)))) ∧
    ((wLinearProtection1.power.coreOn = true) ∧ (wLinearProtection1.nat Prot.TYPE (5 : Fin 16) = 1) ∧ ((1 : Fin 2).val = selects (7 : Fin 10) (wLinearProtection1.flag Prot.REVERTIVE (5 : Fin 16)) (wLinearProtection1.nat Prot.SELECTED (5 : Fin 16)))) ∧
    ((wLinearProtection0.power.coreOn = true) ∧ (wLinearProtection0.nat Prot.TYPE (5 : Fin 16) = 0) ∧ ((7 : Fin 10).val ≠ 0)) ∧
    ((wLinearProtection3.power.coreOn = true) ∧ (wLinearProtection3.nat Prot.WORKING (5 : Fin 16) < 32) ∧ (wLinearProtection3.nat Prot.PROTECT (5 : Fin 16) < 32) ∧ (wLinearProtection3.nat Prot.TYPE (5 : Fin 16) = 0) ∧ (wLinearProtection3.sf (8 + wLinearProtection3.nat Prot.WORKING (5 : Fin 16)) = true) ∧ ((wLinearProtection3.protX (5 : Fin 16)).sfW = some (4000 : Nat)) ∧ ((4000 : Nat) + wLinearProtection3.nat Prot.HOLDOFF_MS (5 : Fin 16) * 1000000 ≤ wLinearProtection3.now)) ∧
    ((wLinearProtection4.power.coreOn = true) ∧ ((wLinearProtection4.protX (5 : Fin 16)).wtr = some (7 : Nat)) ∧ ((7 : Nat) + wLinearProtection4.nat Prot.WTR_S (5 : Fin 16) * 1000000000 ≤ wLinearProtection4.now) ∧ (wLinearProtection4.nat Prot.TYPE (5 : Fin 16) = 0)) ∧
    ((wLinearProtection5.power.coreOn = true) ∧ (wLinearProtection5.flag Esc.ESC_ENABLE = true) ∧ (wLinearProtection5.flag Esc.ESC_ACTIVE = false) ∧ (wLinearProtection5.upl.escLow = some (100000000 : Nat)) ∧ ((100000000 : Nat) + wLinearProtection5.nat Esc.ESC_HOLD_MS * 1000000 ≤ wLinearProtection5.now)) ∧
    ((wLinearProtection6.power.coreOn = true) ∧ (wLinearProtection6.flag Esc.ESC_ACTIVE = true) ∧ (wLinearProtection6.upl.escOk = some (100000000 : Nat)) ∧ ((100000000 : Nat) + wLinearProtection6.nat Esc.ESC_HOLD_MS * 1000000 ≤ wLinearProtection6.now)) :=
  by and_intros <;> first | decide +kernel | exact ctrlIn_good _ _ _ | rfl | exact Nat.ne_of_lt (Nat.lt_succ_self _)

/-- PtpMessages: every clause. -/
theorem witness_PtpMessages :
    ((wPtpMessages0.power.coreOn = true) ∧ (wPtpMessages0.ptpOn (7 : Fin 33) = true) ∧ (wPtpMessages0.ptpOk (ptpMsg ([0, 2, 0, 44, 24] ++ List.replicate 16 0 ++ [1] ++ List.replicate 22 0 : List Nat)) = true) ∧ ((ptpMsg ([0, 2, 0, 44, 24] ++ List.replicate 16 0 ++ [1] ++ List.replicate 22 0 : List Nat)).kind = 0) ∧ ((ptpMsg ([0, 2, 0, 44, 24] ++ List.replicate 16 0 ++ [1] ++ List.replicate 22 0 : List Nat)).twoStep = false) ∧ (wPtpMessages0.ptpParent (7 : Fin 33) (ptpMsg ([0, 2, 0, 44, 24] ++ List.replicate 16 0 ++ [1] ++ List.replicate 22 0 : List Nat)).src = true) ∧ (wPtpMessages0.nat PtpPort.PORT_STATE (7 : Fin 33) = 5) ∧ (wPtpMessages0.nat Tim.TIME_SOURCE = 0) ∧ (wPtpMessages0.nat Tim.SERVO_STATE = 2)) ∧
    ((wPtpMessages1.power.coreOn = true) ∧ (wPtpMessages1.ptpOn (32 : Fin 33) = true) ∧ (wPtpMessages1.ptpOk (ptpMsg ([0, 2, 0, 43, 24] ++ List.replicate 39 0 : List Nat)) = false)) ∧
    ((wPtpMessages2.power.coreOn = true) ∧ (wPtpMessages2.ptpOn (32 : Fin 33) = true) ∧ (wPtpMessages2.ptpOk (ptpMsg ([1, 2, 0, 44, 24] ++ List.replicate 25 0 ++ [1, 2] ++ List.replicate 12 0 : List Nat)) = true) ∧ ((ptpMsg ([1, 2, 0, 44, 24] ++ List.replicate 25 0 ++ [1, 2] ++ List.replicate 12 0 : List Nat)).kind = 1) ∧ (wPtpMessages2.nat PtpPort.PORT_STATE (32 : Fin 33) = 3)) ∧
    ((wPtpMessages3.power.coreOn = true) ∧ (wPtpMessages3.ptpOn (32 : Fin 33) = true) ∧ ((wPtpMessages3.ptpX (32 : Fin 33)).since + 375000000 ≤ wPtpMessages3.now) ∧ (wPtpMessages3.nat PtpPort.PORT_STATE (32 : Fin 33) ≠ 0) ∧ (({ at' := 9 } : Ann) ∈ (wPtpMessages3.ptpX (32 : Fin 33)).masters) ∧ (({ at' := 9 } : Ann).at' + 375000000 ≤ wPtpMessages3.now)) ∧
    ((wPtpMessages4.power.coreOn = true) ∧ (wPtpMessages4.ptpOn (32 : Fin 33) = true) ∧ (wPtpMessages4.nat PtpPort.PORT_STATE (32 : Fin 33) = 3) ∧ ((∀ l, (wPtpMessages4.ptpX (32 : Fin 33)).syncAt = some l → l + 62500000 ≤ wPtpMessages4.now))) ∧
    ((wPtpMessages4.power.coreOn = true) ∧ (wPtpMessages4.ptpOn (32 : Fin 33) = true) ∧ (wPtpMessages4.nat PtpPort.PORT_STATE (32 : Fin 33) = 3) ∧ ((∀ l, (wPtpMessages4.ptpX (32 : Fin 33)).annAt = some l → l + 125000000 ≤ wPtpMessages4.now))) ∧
    ((wPtpMessages6.power.coreOn = true) ∧ (wPtpMessages6.ptpOn (32 : Fin 33) = true) ∧ (wPtpMessages6.nat PtpPort.PORT_STATE (32 : Fin 33) = 4 ∨ wPtpMessages6.nat PtpPort.PORT_STATE (32 : Fin 33) = 5) ∧ ((∀ l, (wPtpMessages6.ptpX (32 : Fin 33)).reqAt = some l → l + 62500000 ≤ wPtpMessages6.now))) :=
  by and_intros <;> first | decide +kernel | exact ctrlIn_good _ _ _ | rfl | exact Nat.ne_of_lt (Nat.lt_succ_self _)

/-- DeviceTime: every clause. -/
theorem witness_DeviceTime :
    ((wDeviceTime0.power.coreOn = true) ∧ (wDeviceTime0.time.theta = some (-1000000 : Int)) ∧ (wDeviceTime0.nat Tim.SERVO_STATE = 1) ∧ (wDeviceTime0.nat Tim.STEP_THRESH_NS * 1000 ≤ (-1000000 : Int).natAbs)) ∧
    ((wDeviceTime1.power.coreOn = true) ∧ (wDeviceTime1.time.theta = some (-49999 : Int)) ∧ (wDeviceTime1.nat Tim.SERVO_STATE = 1) ∧ ((-49999 : Int).natAbs < wDeviceTime1.nat Tim.STEP_THRESH_NS * 1000) ∧ ((-49999 : Int).natAbs < wDeviceTime1.nat Tim.LOCK_NS * 1000) ∧ (wDeviceTime1.time.inRun = 15)) ∧
    ((wDeviceTime2.power.coreOn = true) ∧ (wDeviceTime2.nat Tim.SERVO_STATE = 0)) ∧
    ((wDeviceTime3.power.coreOn = true) ∧ (wDeviceTime3.nat Tim.SERVO_STATE ≠ 0)) ∧
    ((wDeviceTime4.power.coreOn = true) ∧ (wDeviceTime4.time.setTo = some (77000000000 : Nat)) ∧ (wDeviceTime4.time.stepIn < wDeviceTime4.frame)) ∧
    ((wDeviceTime5.power.coreOn = true) ∧ (wDeviceTime5.frame ≤ wDeviceTime5.time.stepIn)) ∧
    ((wDeviceTime6.power.coreOn = true) ∧ (wDeviceTime6.nat Tim.SERVO_STATE = 3) ∧ (wDeviceTime6.time.lossAt = some (9 : Nat)) ∧ ((9 : Nat) + wDeviceTime6.nat Tim.HOLDOVER_SPEC_S * 1000000000 ≤ wDeviceTime6.now)) ∧
    ((wDeviceTime7.power.coreOn = true) ∧ (wDeviceTime7.time.lastSec < wDeviceTime7.sec) ∧ (wDeviceTime7.nat Pwr.POWER_STATE = 1)) ∧
    ((wDeviceTime8.power.coreOn = true) ∧ (wDeviceTime8.sec ≤ wDeviceTime8.time.lastSec)) ∧
    ((wDeviceTime9.power.coreOn = true) ∧ ((((6999999999999 : Nat) / 250 * 250 : Nat) : Int) - wDeviceTime9.get Pin.PPS_IN_DELAY_PS = (7 : Nat) * 1000000000000 + (-250 : Int)) ∧ (-1000000000 ≤ (-250 : Int)) ∧ ((-250 : Int) < 1000000000) ∧ (wDeviceTime9.flag Pin.PPS_IN_VALID = true) ∧ (wDeviceTime9.nat Tim.TIME_SOURCE = 1) ∧ (wDeviceTime9.nat Tim.SERVO_STATE = 2)) ∧
    ((wDeviceTime10.power.coreOn = true) ∧ ((((7000999999999 : Nat) / 250 * 250 : Nat) : Int) - wDeviceTime10.get Pin.PPS_IN_DELAY_PS = (7 : Nat) * 1000000000000 + (999999750 : Int)) ∧ (-1000000000 ≤ (999999750 : Int)) ∧ ((999999750 : Int) < 1000000000) ∧ (wDeviceTime10.time.ppsLast + 1 = (7 : Nat)) ∧ (wDeviceTime10.nat Tim.TIME_SOURCE = 0)) ∧
    ((wDeviceTime11.power.coreOn = true) ∧ (wDeviceTime11.flag Pin.PPS_IN_VALID = true) ∧ ((wDeviceTime11.time.ppsLast + 3) * 1000000000 + 1000000 ≤ wDeviceTime11.now) ∧ (wDeviceTime11.nat Tim.TIME_SOURCE = 0)) :=
  by and_intros <;> first | decide +kernel | exact ctrlIn_good _ _ _ | rfl | exact Nat.ne_of_lt (Nat.lt_succ_self _)

/-- SynchronousEthernet: every clause. -/
theorem witness_SynchronousEthernet :
    ((wSynchronousEthernet0.power.coreOn = true) ∧ (wSynchronousEthernet0.nat Upl.MODE ((13 : Fin 32) / 4) ≠ 5) ∧ ((13 : Fin 32).val % 4 ∈ modeMembers (wSynchronousEthernet0.nat Upl.MODE ((13 : Fin 32) / 4))) ∧ (wSynchronousEthernet0.flag Mac.LINK (13 : Fin 32) = true) ∧ ((13 : Nat) ∈ lanesOf (wSynchronousEthernet0.nat Upl.MODE ((13 : Fin 32) / 4)) ((13 : Fin 32) / 4) ((13 : Fin 32) % 4))) ∧
    ((wSynchronousEthernet1.power.coreOn = true) ∧ ((wSynchronousEthernet1.syncX (13 : Fin 32)).ql ≠ none) ∧ ((wSynchronousEthernet1.syncX (13 : Fin 32)).esmcAt + 5000000000 ≤ wSynchronousEthernet1.now)) ∧
    ((wSynchronousEthernet2.power.coreOn = true) ∧ ((wSynchronousEthernet2.syncX (33 : Fin 37)).validAt = some (9 : Nat)) ∧ ((9 : Nat) + wSynchronousEthernet2.nat SyE.WTR_S * 1000000000 ≤ wSynchronousEthernet2.now) ∧ (wSynchronousEthernet2.srcQl (33 : Fin 37) ≠ none)) ∧
    ((wSynchronousEthernet3.power.coreOn = true) ∧ (wSynchronousEthernet3.time.failAt = some (4 : Nat)) ∧ ((4 : Nat) + 300000000 ≤ wSynchronousEthernet3.now)) ∧
    ((wSynchronousEthernet4.power.coreOn = true) ∧ (wSynchronousEthernet4.nat Upl.MODE ((13 : Fin 32) / 4) ≠ 5) ∧ ((13 : Fin 32).val % 4 ∈ modeMembers (wSynchronousEthernet4.nat Upl.MODE ((13 : Fin 32) / 4))) ∧ (wSynchronousEthernet4.flag Mac.LINK (13 : Fin 32) = true) ∧ ((∀ e, wSynchronousEthernet4.time.esmc.find? (13 : Fin 32) = some e → e.1 + 1000000000 ≤ wSynchronousEthernet4.now))) :=
  by and_intros <;> first | decide +kernel | exact ctrlIn_good _ _ _ | rfl | exact Nat.ne_of_lt (Nat.lt_succ_self _)

/-- TwinLink: every clause. -/
theorem witness_TwinLink :
    ((wTwinLink0.power.coreOn = true) ∧ (wTwinLink0.flag Twin.TWIN_ENABLE = true) ∧ (3 ≤ wTwinLink0.nat Twin.STATE) ∧ (wTwinLink0.nat Twin.STATE < 9) ∧ (wTwinLink0.nat Twin.STATE ≠ 5 ∨ wTwinLink0.twin.peerState ≠ 4 ∨ wTwinLink0.nat Twin.PEER_FAULTS ≠ 0) ∧ ((∀ l, wTwinLink0.twin.beatSent = some l → l + wTwinLink0.nat Twin.BEAT_US * 1000 ≤ wTwinLink0.now))) ∧
    ((wTwinLink1.power.coreOn = true) ∧ (wTwinLink1.flag Twin.TWIN_ENABLE = true) ∧ (((.resendRx { hd := [20, 0, 0, 5] } 6 : Instr), false) ∈ ([(.beatRx ({ hd := [20, 0, 0, 5] } : CtrlIn) (0 : Nat) (0 : Nat) (0 : Nat) (0 : Nat) (0 : Nat), ({ hd := [20, 0, 0, 5] } : CtrlIn).good 6 0 (Config.twinPayload 6 0 [((0 : Nat) : Int), (0 : Nat), (0 : Nat), (0 : Nat), (0 : Nat)])), (.helloRx ({ hd := [20, 0, 0, 5] } : CtrlIn) ({} : Hello) (true : Bool), ({ hd := [20, 0, 0, 5] } : CtrlIn).good 4 1 (Config.twinPayload 4 1 ({} : Hello).fields)),
    (.mirrorRx ({ hd := [20, 0, 0, 5] } : CtrlIn) (true : Bool) ([] : List MirEntry), ({ hd := [20, 0, 0, 5] } : CtrlIn).good 1 (if (true : Bool) then 2 else 1) (mirrorBytes (if (true : Bool) then 2 else 1) ([] : List MirEntry))), (.commitRx ({ hd := [20, 0, 0, 5] } : CtrlIn) (6 : Nat) (0 : Nat) (0 : Nat) (0 : Nat), ({ hd := [20, 0, 0, 5] } : CtrlIn).good 2 0 (Config.twinPayload 2 0 [((6 : Nat) : Int), (0 : Nat), (0 : Nat), (0 : Nat)])),
    (.resendRx ({ hd := [20, 0, 0, 5] } : CtrlIn) (6 : Nat), ({ hd := [20, 0, 0, 5] } : CtrlIn).good 4 5 (Config.twinPayload 4 5 [((6 : Nat) : Int)])), (.resyncRx ({ hd := [20, 0, 0, 5] } : CtrlIn), ({ hd := [20, 0, 0, 5] } : CtrlIn).good 4 6 (Config.twinPayload 4 6 [])),
    (.feederRx ({ hd := [20, 0, 0, 5] } : CtrlIn) ([] : List (Nat × Int × Int)), ({ hd := [20, 0, 0, 5] } : CtrlIn).good 4 4 (Config.twinPayload 4 4 (feederFields ([] : List (Nat × Int × Int))))), (.suspectRx ({ hd := [20, 0, 0, 5] } : CtrlIn) (6 : Nat), ({ hd := [20, 0, 0, 5] } : CtrlIn).good 4 7 (Config.twinPayload 4 7 [((6 : Nat) : Int)])),
    (.yieldRx ({ hd := [20, 0, 0, 5] } : CtrlIn) (6 : Nat) (0 : Nat), ({ hd := [20, 0, 0, 5] } : CtrlIn).good 4 2 (Config.twinPayload 4 2 [((6 : Nat) : Int), (0 : Nat)])), (.takenRx ({ hd := [20, 0, 0, 5] } : CtrlIn) (6 : Nat), ({ hd := [20, 0, 0, 5] } : CtrlIn).good 4 3 (Config.twinPayload 4 3 [((6 : Nat) : Int)]))] : List (Instr × Bool)))) ∧
    ((wTwinLink2.power.coreOn = true) ∧ (wTwinLink2.flag Twin.TWIN_ENABLE = true) ∧ ((ctrlIn 6 0 (Config.twinPayload 6 0 [1, 5, 8, 70, 0]) : CtrlIn).good 6 0 (Config.twinPayload 6 0 [((1 : Nat) : Int), (5 : Nat), (8 : Nat), (70 : Nat), (0 : Nat)]) = true) ∧ (wTwinLink2.nat Twin.STATE = 4) ∧ ((∀ k, wTwinLink2.twin.applied = some k → (70 : Nat) ≤ k + 64))) ∧
    ((wTwinLink3.power.coreOn = true) ∧ (wTwinLink3.flag Twin.TWIN_ENABLE = true) ∧ ((ctrlIn 6 0 (Config.twinPayload 6 0 [1, 5, 8, 71, 0]) : CtrlIn).good 6 0 (Config.twinPayload 6 0 [((1 : Nat) : Int), (5 : Nat), (8 : Nat), (71 : Nat), (0 : Nat)]) = true) ∧ (wTwinLink3.nat Twin.STATE = 4) ∧ (wTwinLink3.twin.applied = some (6 : Nat)) ∧ ((6 : Nat) + 64 < (71 : Nat))) ∧
    ((wTwinLink4.power.coreOn = true) ∧ (wTwinLink4.flag Twin.TWIN_ENABLE = true) ∧ ((ctrlIn 6 0 (Config.twinPayload 6 0 [2, 4, 0, 70, 9]) : CtrlIn).good 6 0 (Config.twinPayload 6 0 [2, ((4 : Nat) : Int), (0 : Nat), (70 : Nat), (9 : Nat)]) = true) ∧ (wTwinLink4.nat Twin.STATE = 5) ∧ (wTwinLink4.nat Twin.LOCAL_FAULTS = 0) ∧ (wTwinLink4.twin.confirm = [((9, 80000, {}) : Nat × Nat × Reply)])) ∧
    ((wTwinLink5.power.coreOn = true) ∧ (wTwinLink5.paired = true) ∧ (wTwinLink5.beatGone = true) ∧ (wTwinLink5.twin.hb = true)) ∧
    ((wTwinLink6.power.coreOn = true) ∧ ((86000 : Nat) + 4000 ≤ wTwinLink6.now) ∧ (wTwinLink6.paired = false ∨ wTwinLink6.beatGone = false)) ∧
    ((wTwinLink5.power.coreOn = true) ∧ ((86000 : Nat) + 4000 ≤ wTwinLink5.now) ∧ (wTwinLink5.nat Twin.STATE = 4) ∧ (wTwinLink5.beatGone = true)) ∧
    ((wTwinLink8.power.coreOn = true) ∧ (wTwinLink8.now < (86001 : Nat) + 4000)) ∧
    ((wTwinLink9.power.coreOn = true) ∧ (8 ≤ ([89000, 88000, 87000, 86000, 85000, 84000, 83000, 79001] : List Nat).length) ∧ ((∀ e ∈ ([89000, 88000, 87000, 86000, 85000, 84000, 83000, 79001] : List Nat).zip ([89000, 88000, 87000, 86000, 85000, 84000, 83000, 79001] : List Nat).tail, e.2 < e.1 ∧ e.1 < e.2 + 4000)) ∧ (wTwinLink9.now < ([89000, 88000, 87000, 86000, 85000, 84000, 83000, 79001] : List Nat).headD 0 + 4000)) ∧
    ((wTwinLink9.power.coreOn = true) ∧ (([89000, 88000, 87000, 86000, 85000, 84000, 83000, 79000] : List Nat).length < 8 ∨ (∃ e ∈ ([89000, 88000, 87000, 86000, 85000, 84000, 83000, 79000] : List Nat).zip ([89000, 88000, 87000, 86000, 85000, 84000, 83000, 79000] : List Nat).tail, e.2 + 4000 ≤ e.1) ∨ ([89000, 88000, 87000, 86000, 85000, 84000, 83000, 79000] : List Nat).headD 0 + 4000 ≤ wTwinLink9.now)) ∧
    ((wTwinLink11.power.coreOn = true) ∧ (wTwinLink11.flag Twin.TWIN_ENABLE = true) ∧ ((ctrlIn 4 1 (Config.twinPayload 4 1 (Hello.fields { serial := 5, faults := 1 })) : CtrlIn).good 4 1 (Config.twinPayload 4 1 ({ serial := 5, faults := 1 } : Hello).fields) = true) ∧ (wTwinLink11.nat Twin.STATE = 1) ∧ (wTwinLink11.pairCheck ({ serial := 5, faults := 1 } : Hello) (true : Bool) = 0)) ∧
    ((wTwinLink11.power.coreOn = true) ∧ (wTwinLink11.flag Twin.TWIN_ENABLE = true) ∧ ((ctrlIn 4 1 (Config.twinPayload 4 1 (Hello.fields { serial := 5, faults := 1, ports := 7 })) : CtrlIn).good 4 1 (Config.twinPayload 4 1 ({ serial := 5, faults := 1, ports := 7 } : Hello).fields) = true) ∧ (wTwinLink11.nat Twin.STATE = 1) ∧ (wTwinLink11.pairCheck ({ serial := 5, faults := 1, ports := 7 } : Hello) (false : Bool) ≠ 0)) ∧
    ((wTwinLink13.power.coreOn = true) ∧ (wTwinLink13.nat Twin.STATE = 1) ∧ (wTwinLink13.twin.hb = false) ∧ (wTwinLink13.twin.since + wTwinLink13.nat Twin.SEEK_S * 1000000000 ≤ wTwinLink13.now) ∧ (wTwinLink13.twin.hbLostAt + wTwinLink13.nat Twin.SEEK_S * 1000000000 ≤ wTwinLink13.now)) ∧
    ((wTwinLink14.power.coreOn = true) ∧ (wTwinLink14.flag Twin.TWIN_ENABLE = true) ∧ (wTwinLink14.nat Twin.STATE = 1 ∨ wTwinLink14.nat Twin.STATE = 6 ∨ wTwinLink14.nat Twin.STATE = 8) ∧ ((∀ l, wTwinLink14.twin.helloAt = some l → l + 1000000 ≤ wTwinLink14.now))) ∧
    ((wTwinLink15.power.coreOn = true) ∧ ((∀ a, wTwinLink15.mapLateAt = some a → a + 1000000000 ≤ wTwinLink15.now)) ∧ (wTwinLink15.nat Twin.STATE ≠ 5 ∨ wTwinLink15.twin.peerState ≠ 4 ∨ wTwinLink15.nat Twin.PEER_FAULTS ≠ 0)) :=
  by and_intros <;> first | decide +kernel | exact ctrlIn_good _ _ _ | rfl | exact Nat.ne_of_lt (Nat.lt_succ_self _)

/-- MirrorStream: every clause. -/
theorem witness_MirrorStream :
    ((wMirrorStream0.power.coreOn = true) ∧ (wMirrorStream0.flag Twin.TWIN_ENABLE = true) ∧ ((ctrlIn 1 1 (mirrorBytes 1 [.warm 6 3]) : CtrlIn).good 1 1 (mirrorBytes 1 ([.warm 6 3] : List MirEntry)) = true) ∧ (wMirrorStream0.nat Twin.STATE = 3 ∨ wMirrorStream0.nat Twin.STATE = 4 ∨ wMirrorStream0.nat Twin.STATE = 7)) ∧
    ((wMirrorStream1.power.coreOn = true) ∧ (wMirrorStream1.flag Twin.TWIN_ENABLE = true) ∧ ((ctrlIn 2 0 (Config.twinPayload 2 0 [4294967296, 1, 2, (crc32 (mirrorBytes 1 [.warm 5 3, .value 0x4200 1 5 7]) : Nat)]) : CtrlIn).good 2 0 (Config.twinPayload 2 0 [(((4294967295 : Nat) + 1 : Nat) : Int), wMirrorStream1.twin.frames, (wMirrorStream1.twin.held.length : Nat), (crc32 (mirrorBytes 1 [.warm 5 3, .value 0x4200 1 5 7]) : Nat)]) = true) ∧ (crc32 (mirrorBytes 1 wMirrorStream1.twin.held) = (crc32 (mirrorBytes 1 [.warm 5 3, .value 0x4200 1 5 7]) : Nat)) ∧ (wMirrorStream1.nat Twin.STATE = 4) ∧ (wMirrorStream1.twin.applied = some (4294967295 : Nat)) ∧ (wMirrorStream1.twin.waiting = []) ∧ ((4294967295 : Nat) + 1 < wMirrorStream1.twin.nextMap ∨ wMirrorStream1.now < wMirrorStream1.frameStart wMirrorStream1.twin.nextMap + 5000)) ∧
    ((wMirrorStream2.power.coreOn = true) ∧ (wMirrorStream2.flag Twin.TWIN_ENABLE = true) ∧ ((ctrlIn 2 0 (Config.twinPayload 2 0 [9, 1, 3, 7]) : CtrlIn).good 2 0 (Config.twinPayload 2 0 [((9 : Nat) : Int), (1 : Nat), (3 : Nat), (7 : Nat)]) = true) ∧ (wMirrorStream2.nat Twin.STATE = 4) ∧ ((∀ a, wMirrorStream2.twin.applied = some a → (9 : Nat) = a + 1)) ∧ ((1 : Nat) ≠ wMirrorStream2.twin.frames ∨ (3 : Nat) ≠ wMirrorStream2.twin.held.length ∨ (7 : Nat) ≠ crc32 (mirrorBytes 1 wMirrorStream2.twin.held))) ∧
    ((wMirrorStream3.power.coreOn = true) ∧ (wMirrorStream3.flag Twin.TWIN_ENABLE = true) ∧ ((ctrlIn 2 0 (Config.twinPayload 2 0 [10, 1, 1, (crc32 (mirrorBytes 1 [.warm 5 3]) : Nat)]) : CtrlIn).good 2 0 (Config.twinPayload 2 0 [(((8 : Nat) + 2 : Nat) : Int), wMirrorStream3.twin.frames, (wMirrorStream3.twin.held.length : Nat), (crc32 (mirrorBytes 1 [.warm 5 3]) : Nat)]) = true) ∧ (crc32 (mirrorBytes 1 wMirrorStream3.twin.held) = (crc32 (mirrorBytes 1 [.warm 5 3]) : Nat)) ∧ (wMirrorStream3.nat Twin.STATE = 4) ∧ (wMirrorStream3.twin.applied = some (8 : Nat)) ∧ (wMirrorStream3.twin.waiting = []) ∧ (wMirrorStream3.twin.asked = [])) ∧
    ((wMirrorStream4.power.coreOn = true) ∧ (wMirrorStream4.flag Twin.TWIN_ENABLE = true) ∧ ((ctrlIn 4 5 (Config.twinPayload 4 5 [9]) : CtrlIn).good 4 5 (Config.twinPayload 4 5 [((9 : Nat) : Int)]) = true) ∧ (wMirrorStream4.twin.kept.find? (9 : Nat) = some ([.warm 5 3] : List MirEntry)) ∧ (([.warm 5 3] : List MirEntry) ≠ [])) ∧
    ((wMirrorStream5.power.coreOn = true) ∧ (wMirrorStream5.flag Twin.TWIN_ENABLE = true) ∧ ((ctrlIn 4 6 (Config.twinPayload 4 6 []) : CtrlIn).good 4 6 (Config.twinPayload 4 6 []) = true) ∧ (wMirrorStream5.nat Twin.STATE = 5)) ∧
    ((wMirrorStream6.power.coreOn = true) ∧ (wMirrorStream6.flag Twin.TWIN_ENABLE = true) ∧ ((ctrlIn 4 6 (Config.twinPayload 4 6 []) : CtrlIn).good 4 6 (Config.twinPayload 4 6 []) = true) ∧ (wMirrorStream6.nat Twin.STATE = 3) ∧ (wMirrorStream6.twin.spanSeen = true) ∧ ((wMirrorStream6.get Tim.OFFSET_PS).natAbs < wMirrorStream6.nat Twin.TIME_MAX_NS * 1000) ∧ (wMirrorStream6.nat Twin.SUSPECT_CAUSE = 0)) ∧
    ((wMirrorStream7.power.coreOn = true) ∧ (wMirrorStream7.flag Twin.TWIN_ENABLE = true) ∧ ((ctrlIn 4 4 (Config.twinPayload 4 4 (feederFields [(127, -5, 77)])) : CtrlIn).good 4 4 (Config.twinPayload 4 4 (feederFields [((127 : Nat), (-5 : Int), (77 : Int))])) = true)) ∧
    ((wMirrorStream8.power.coreOn = true) ∧ (wMirrorStream8.flag Twin.TWIN_ENABLE = true) ∧ ((ctrlIn 4 7 (Config.twinPayload 4 7 [7]) : CtrlIn).good 4 7 (Config.twinPayload 4 7 [((7 : Nat) : Int)]) = true) ∧ (wMirrorStream8.nat Twin.STATE = 3 ∨ wMirrorStream8.nat Twin.STATE = 4)) ∧
    ((wMirrorStream9.power.coreOn = true) ∧ (wMirrorStream9.twin.confirm = ((7, 90000, {}) : Nat × Nat × Reply) :: ([] : List (Nat × Nat × Reply))) ∧ (((7, 90000, {}) : Nat × Nat × Reply).2.1 + 1000000 ≤ wMirrorStream9.now)) ∧
    ((wMirrorStream10.power.coreOn = true) ∧ (wMirrorStream10.twin.confirm = ((7, 90000, {}) : Nat × Nat × Reply) :: ([] : List (Nat × Nat × Reply))) ∧ (wMirrorStream10.now < ((7, 90000, {}) : Nat × Nat × Reply).2.1 + 1000000)) ∧
    ((wMirrorStream11.power.coreOn = true) ∧ (wMirrorStream11.nat Twin.STATE = 5) ∧ (wMirrorStream11.twin.lazyAt + wMirrorStream11.nat Twin.LAZY_MS * 1000000 ≤ wMirrorStream11.now)) :=
  by and_intros <;> first | decide +kernel | exact ctrlIn_good _ _ _ | rfl | exact Nat.ne_of_lt (Nat.lt_succ_self _)

/-- TwinComparison: every clause. -/
theorem witness_TwinComparison :
    ((wTwinComparison0.power.coreOn = true) ∧ (wTwinComparison0.nat Twin.ROLE = 2) ∧ (wTwinComparison0.nat Twin.STATE ≠ 9) ∧ (wTwinComparison0.twin.byHand = false ∨ wTwinComparison0.twin.nextMap < wTwinComparison0.twin.takeN.getD 0) ∧ (wTwinComparison0.frameStart wTwinComparison0.twin.nextMap + 5000 ≤ wTwinComparison0.now)) ∧
    ((wTwinComparison1.power.coreOn = true) ∧ (wTwinComparison1.nat Twin.STATE = 4 ∨ wTwinComparison1.nat Twin.STATE = 7) ∧ (wTwinComparison1.frameStart (9 : Nat) + 40000 ≤ wTwinComparison1.now) ∧ ((9 : Nat) ∉ wTwinComparison1.twin.mapsDone) ∧ ((∀ pc ∈ wTwinComparison1.twinChannels, ∀ e ∈ (wTwinComparison1.grantCh pc.1 pc.2).digests, e.1 = (9 : Nat) → e.2 = ([3, 55] : List Nat).getD (chKey pc.1 pc.2) 0))) ∧
    ((wTwinComparison1.power.coreOn = true) ∧ (wTwinComparison1.nat Twin.STATE = 4) ∧ (wTwinComparison1.nat Twin.ROLE = 2) ∧ (wTwinComparison1.nat Twin.LOCAL_FAULTS = 0) ∧ (wTwinComparison1.nat Twin.PEER_FAULTS = 0) ∧ (wTwinComparison1.frameStart (9 : Nat) + 40000 ≤ wTwinComparison1.now) ∧ ((9 : Nat) ∉ wTwinComparison1.twin.mapsDone) ∧ ((9 : Nat) ∉ wTwinComparison1.twin.lateMaps) ∧ (((0, 1) : Nat × Nat) ∈ wTwinComparison1.twinChannels) ∧ ((wTwinComparison1.grantCh ((0, 1) : Nat × Nat).1 ((0, 1) : Nat × Nat).2).digests.find? (fun e => e.1 == (9 : Nat)) = some ((9 : Nat), (55 : Nat))) ∧ ((55 : Nat) ≠ ([3, 56] : List Nat).getD (chKey ((0, 1) : Nat × Nat).1 ((0, 1) : Nat × Nat).2) 0) ∧ (wTwinComparison1.excusedBy ((0, 1) : Nat × Nat).1 ((0, 1) : Nat × Nat).2 (9 : Nat) = false)) ∧
    ((wTwinComparison3.power.coreOn = true) ∧ (wTwinComparison3.nat Twin.STATE = 4) ∧ (wTwinComparison3.twin.spansDone.find? (9 : Nat) = none) ∧ (wTwinComparison3.spanEntries (9 : Nat) = [])) ∧
    ((wTwinComparison4.power.coreOn = true) ∧ (wTwinComparison4.paired = true) ∧ (wTwinComparison4.twin.spansDone.find? (9 : Nat) = none) ∧ (wTwinComparison4.twin.setAt.find? (2 * (9 : Nat) + 1) = some (165000 : Nat)) ∧ ((165000 : Nat) + 1000000 ≤ wTwinComparison4.now)) :=
  by and_intros <;> first | decide +kernel | exact ctrlIn_good _ _ _ | rfl | exact Nat.ne_of_lt (Nat.lt_succ_self _)

/-- SwitchOvers: every clause. -/
theorem witness_SwitchOvers :
    ((wSwitchOvers0.power.coreOn = true) ∧ (wSwitchOvers0.nat Twin.STATE = 5) ∧ (wSwitchOvers0.twin.peerState = 4) ∧ (wSwitchOvers0.nat Twin.PEER_FAULTS = 0) ∧ (wSwitchOvers0.twin.yieldN = none)) ∧
    ((wSwitchOvers1.power.coreOn = true) ∧ ((wSwitchOvers1.nat Twin.STATE = 5 → wSwitchOvers1.twin.peerState ≠ 4 ∨ wSwitchOvers1.nat Twin.PEER_FAULTS ≠ 0)) ∧ ((wSwitchOvers1.nat Twin.STATE = 4 → wSwitchOvers1.nat Twin.LOCAL_FAULTS ≠ 0))) ∧
    ((wSwitchOvers2.power.coreOn = true) ∧ (wSwitchOvers2.nat Twin.STATE = 8)) ∧
    ((wSwitchOvers3.power.coreOn = true) ∧ (wSwitchOvers3.nat Twin.STATE < 4 ∨ wSwitchOvers3.nat Twin.STATE = 6 ∨ wSwitchOvers3.nat Twin.STATE = 9)) ∧
    ((wSwitchOvers4.power.coreOn = true) ∧ (wSwitchOvers4.nat Twin.STATE = 7)) ∧
    ((wSwitchOvers4.power.coreOn = true) ∧ (wSwitchOvers4.nat Twin.STATE = 3 ∨ wSwitchOvers4.nat Twin.STATE = 4 ∨ wSwitchOvers4.nat Twin.STATE = 7)) ∧
    ((wTwinComparison3.power.coreOn = true) ∧ (wTwinComparison3.flag Twin.TWIN_ENABLE = true) ∧ ((ctrlIn 4 2 (Config.twinPayload 4 2 [11, 3]) : CtrlIn).good 4 2 (Config.twinPayload 4 2 [((11 : Nat) : Int), (3 : Nat)]) = true) ∧ (wTwinComparison3.nat Twin.STATE = 4 ∨ wTwinComparison3.nat Twin.STATE = 7)) ∧
    ((wSwitchOvers7.power.coreOn = true) ∧ (wSwitchOvers7.flag Twin.TWIN_ENABLE = true) ∧ ((ctrlIn 4 3 (Config.twinPayload 4 3 [11]) : CtrlIn).good 4 3 (Config.twinPayload 4 3 [((11 : Nat) : Int)]) = true) ∧ (wSwitchOvers7.nat Twin.ROLE = 1 ∨ wSwitchOvers7.nat Twin.STATE = 8)) ∧
    ((wSwitchOvers8.power.coreOn = true) ∧ (wSwitchOvers8.twin.yieldN = some (9 : Nat)) ∧ ((9 : Nat) ≤ wSwitchOvers8.frame)) ∧
    ((wSwitchOvers9.power.coreOn = true) ∧ (wSwitchOvers9.twin.yieldN = none) ∧ (wSwitchOvers9.twin.takeN = some (9 : Nat)) ∧ (wSwitchOvers9.twin.byHand = true) ∧ ((9 : Nat) ≤ wSwitchOvers9.frame)) ∧
    ((wSwitchOvers10.power.coreOn = true) ∧ (wSwitchOvers10.twin.yieldN = none) ∧ (wSwitchOvers10.twin.takeN = some (10 : Nat)) ∧ (wSwitchOvers10.frame < (10 : Nat))) :=
  by and_intros <;> first | decide +kernel | exact ctrlIn_good _ _ _ | rfl | exact Nat.ne_of_lt (Nat.lt_succ_self _)

/-- LegacyPairing: every clause. -/
theorem witness_LegacyPairing :
    ((wLegacyPairing0.power.coreOn = true) ∧ (wLegacyPairing0.flag Leg.LEGACY_ENABLE = true) ∧ (wLegacyPairing0.nat Leg.LEGACY_UDP_PORT = (9 : Nat)) ∧ (wLegacyPairing0.nat Leg.LEGACY_PEER_IP = (77 : Nat))) ∧
    ((wLegacyPairing0.power.coreOn = true) ∧ (wLegacyPairing0.flag Leg.LEGACY_ENABLE = true) ∧ (wLegacyPairing0.nat Leg.LEGACY_UDP_PORT = (9 : Nat)) ∧ (wLegacyPairing0.nat Leg.LEGACY_PEER_IP = (77 : Nat)) ∧ ((8388608 : Nat) ≤ 8388608) ∧ (wLegacyPairing0.nat Leg.SLOT0_STATE = 0) ∧ (wLegacyPairing0.nat Leg.SLOT1_STATE ≠ 1)) ∧
    ((wLegacyPairing2.power.coreOn = true) ∧ (wLegacyPairing2.flag Leg.LEGACY_ENABLE = false ∨ (9 : Nat) ≠ wLegacyPairing2.nat Leg.LEGACY_UDP_PORT ∨ (77 : Nat) ≠ wLegacyPairing2.nat Leg.LEGACY_PEER_IP)) ∧
    ((wLegacyPairing3.power.coreOn = true) ∧ (wLegacyPairing3.nat Twin.STATE = 9) ∧ (wLegacyPairing3.twin.legBeat = some (7 : Nat)) ∧ ((7 : Nat) + wLegacyPairing3.nat Leg.LEGACY_TIMEOUT_MS * 1000000 ≤ wLegacyPairing3.now)) ∧
    ((wLegacyPairing4.power.coreOn = true) ∧ (wLegacyPairing4.nat Twin.STATE = 9)) ∧
    ((wLegacyPairing5.power.coreOn = true) ∧ (wLegacyPairing5.nat Twin.STATE ≠ 9)) :=
  by and_intros <;> first | decide +kernel | exact ctrlIn_good _ _ _ | rfl | exact Nat.ne_of_lt (Nat.lt_succ_self _)

/-- HostResets: every clause. -/
theorem witness_HostResets :
    ((wHostResets0.power.coreOn = true)) ∧
    ((wHostResets1.power.coreOn = true)) ∧
    ((wHostResets2.power.coreOn = true) ∧ (wHostResets2.flag Hst.SEC_SESSION = true)) ∧
    ((wReplayAndCapture2.power.coreOn = true) ∧ (wReplayAndCapture2.flag Hst.SEC_SESSION = false)) :=
  by and_intros <;> first | decide +kernel | exact ctrlIn_good _ _ _ | rfl | exact Nat.ne_of_lt (Nat.lt_succ_self _)

/-- DmaChannels: every clause. -/
theorem witness_DmaChannels :
    ((wDmaChannels0.power.coreOn = true) ∧ (5 ≤ (11 : Fin 16).val) ∧ ((3 : Nat) < (wDmaChannels0.dmaCh (11 : Fin 16)).size) ∧ ((wDmaChannels0.dmaCh (11 : Fin 16)).owned + ((3 : Nat) + (wDmaChannels0.dmaCh (11 : Fin 16)).size - (wDmaChannels0.dmaCh (11 : Fin 16)).tail) % (wDmaChannels0.dmaCh (11 : Fin 16)).size < (wDmaChannels0.dmaCh (11 : Fin 16)).size)) ∧
    ((wReplayAndCapture2.power.coreOn = true) ∧ ((wReplayAndCapture2.dmaCh (11 : Fin 16)).size ≤ (16 : Nat))) ∧
    ((wDmaChannels2.power.coreOn = true) ∧ ((wDmaChannels2.dmaCh (3 : Fin 4)).enable = true) ∧ ((wDmaChannels2.dmaCh (3 : Fin 4)).halted = false) ∧ ((wDmaChannels2.dmaCh (3 : Fin 4)).busy = false) ∧ (2 ≤ (wDmaChannels2.dmaCh (3 : Fin 4)).size) ∧ ((wDmaChannels2.dmaCh (3 : Fin 4)).tail = (wDmaChannels2.dmaCh (3 : Fin 4)).head) ∧ ((wDmaChannels2.dmaCh (3 : Fin 4)).head < (wDmaChannels2.dmaCh (3 : Fin 4)).size) ∧ (({ len := 64, ctrl := 9, data := [1, 2, 3] } : Desc).bad (3 : Fin 4) = false) ∧ (({ len := 64, ctrl := 9, data := [1, 2, 3] } : Desc).lenOk (3 : Fin 4) = true) ∧ (({ len := 64, ctrl := 9, data := [1, 2, 3] } : Desc).ctrl.testBit 2 = false)) ∧
    ((wReplayAndCapture2.power.coreOn = true) ∧ (8 ≤ (8 : Fin 16).val) ∧ ((8 : Fin 16).val < 12)) ∧
    ((wReplayAndCapture2.power.coreOn = true) ∧ ((5 ≤ (12 : Fin 16).val ∧ (12 : Fin 16).val < 8) ∨ 12 ≤ (12 : Fin 16).val)) ∧
    ((wDmaChannels5.power.coreOn = true) ∧ (5 ≤ (11 : Fin 16).val)) ∧
    ((wDmaChannels6.power.coreOn = true) ∧ ((wDmaChannels6.dmaCh (3 : Fin 5)).halted = false) ∧ ((wDmaChannels6.dmaCh (3 : Fin 5)).busy = true) ∧ (wDmaChannels6.tm.dmaDone.find? (fun e => e.1 == (3 : Fin 5).val && e.2.1 == (wDmaChannels6.dmaCh (3 : Fin 5)).head) = some ((3, 15, 2, 0) : Nat × Nat × Nat × Nat)) ∧ (((3, 15, 2, 0) : Nat × Nat × Nat × Nat).2.2.1 ≠ 1) ∧ ((wDmaChannels6.dmaCh (3 : Fin 5)).desc.ctrl.testBit 1 = false) ∧ ((wDmaChannels6.dmaCh (3 : Fin 5)).tail = ((wDmaChannels6.dmaCh (3 : Fin 5)).head + 1) % (wDmaChannels6.dmaCh (3 : Fin 5)).size)) ∧
    ((wDmaChannels7.power.coreOn = true) ∧ (0 < wDmaChannels7.dmaFree 11) ∧ (wDmaChannels7.host.evts = (7 : Nat) :: ([] : List Nat)) ∧ (wDmaChannels7.log.find? ((7 : Nat) % 65536) = some ({ time := 9, seq := 7, code := 0x9001, args := [] } : EvRec)) ∧ ((wDmaChannels7.dmaCh 11).desc.bad 11 = false) ∧ ((({ time := 9, seq := 7, code := 0x9001, args := [] } : EvRec).bytes false).length ≤ (wDmaChannels7.dmaCh 11).desc.len) ∧ ((wDmaChannels7.dmaCh 11).desc.ctrl.testBit 1 = false)) ∧
    ((wDmaChannels8.power.coreOn = true)) ∧
    ((wDmaChannels9.power.coreOn = true)) :=
  by and_intros <;> first | decide +kernel | exact ctrlIn_good _ _ _ | rfl | exact Nat.ne_of_lt (Nat.lt_succ_self _)

/-- Mailboxes: every clause. -/
theorem witness_Mailboxes :
    ((wMailboxes0.power.coreOn = true) ∧ ((∀ j : Fin 16, wMailboxes0.mbxExpired (20 : Fin 64) (wMailboxes0.slot (20 : Fin 64) j) = false)) ∧ (wMailboxes0.mbxPermits (20 : Fin 64) (1 : Nat) = true) ∧ (wMailboxes0.mbxHidden (20 : Fin 64) (1 : Nat) = false) ∧ (bits (ofLe ((wMailboxes0.view (20 : Fin 64) (1 : Nat)).bytes.take 8)) 37 32 ≤ 56) ∧ (wMailboxes0.freeIn (20 : Fin 64) = some (1 : Nat))) ∧
    ((wReplayAndCapture2.power.coreOn = true) ∧ ((∀ j : Fin 16, wReplayAndCapture2.mbxExpired (8 : Fin 64) (wReplayAndCapture2.slot (8 : Fin 64) j) = false)) ∧ (wReplayAndCapture2.mbxPermits (8 : Fin 64) (1 : Nat) = false) ∧ (wReplayAndCapture2.mbxHidden (8 : Fin 64) (1 : Nat) = false)) ∧
    ((wMailboxes2.power.coreOn = true) ∧ ((∀ j : Fin 16, wMailboxes2.mbxExpired (20 : Fin 64) (wMailboxes2.slot (20 : Fin 64) j) = false)) ∧ (wMailboxes2.mbxPermits (20 : Fin 64) (1 : Nat) = true) ∧ (wMailboxes2.mbxHidden (20 : Fin 64) (1 : Nat) = false) ∧ (bits (ofLe ((wMailboxes2.view (20 : Fin 64) (1 : Nat)).bytes.take 8)) 37 32 ≤ 56) ∧ (wMailboxes2.freeIn (20 : Fin 64) = none)) ∧
    ((wMailboxes3.power.coreOn = true) ∧ ((∀ j : Fin 16, wMailboxes3.mbxExpired (7 : Fin 64) (wMailboxes3.slot (7 : Fin 64) j) = false)) ∧ (wMailboxes3.mbxHidden (7 : Fin 64) (1 : Nat) = true) ∧ ((.mbxSend 7 [1] : Instr) ∈ [.mbxSend (7 : Fin 64) [(1 : Nat)], .mbxRecv (7 : Fin 64) (1 : Nat), .mbxReply (7 : Fin 64) (1 : Nat), .mbxFlushedRead (7 : Fin 64) (1 : Nat)])) ∧
    ((wMailboxes4.power.coreOn = true) ∧ ((∀ j : Fin 16, wMailboxes4.mbxExpired (20 : Fin 64) (wMailboxes4.slot (20 : Fin 64) j) = false)) ∧ (wMailboxes4.mbxOldest (20 : Fin 64) (fun x => x.st == 1) = some (3 : Nat))) ∧
    ((wMailboxes4.power.coreOn = true) ∧ ((∀ j : Fin 16, wMailboxes4.mbxExpired (20 : Fin 64) (wMailboxes4.slot (20 : Fin 64) j) = false)) ∧ (wMailboxes4.mbxHidden (20 : Fin 64) (1 : Nat) = false) ∧ ((1 : Nat) ≠ wMailboxes4.mbxReceiver (20 : Fin 64))) ∧
    ((wMailboxes6.power.coreOn = true) ∧ ((∀ j : Fin 16, wMailboxes6.mbxExpired (20 : Fin 64) (wMailboxes6.slot (20 : Fin 64) j) = false)) ∧ ((wMailboxes6.slot (20 : Fin 64) (0 : Fin 16)).st = 2) ∧ ((wMailboxes6.slot (20 : Fin 64) (0 : Fin 16)).want = false)) ∧
    ((wReplayAndCapture2.power.coreOn = true) ∧ ((∀ j : Fin 16, wReplayAndCapture2.mbxExpired (20 : Fin 64) (wReplayAndCapture2.slot (20 : Fin 64) j) = false)) ∧ (wReplayAndCapture2.mbxHidden (20 : Fin 64) (20 : Nat) = false) ∧ ((20 : Nat) ≠ wReplayAndCapture2.mbxReceiver (20 : Fin 64) ∨ ((wReplayAndCapture2.slot (20 : Fin 64) (0 : Fin 16)).st ≠ 2 ∧ (wReplayAndCapture2.mbxCh (20 : Fin 64)).late.contains (0 : Fin 16) = false) ∨ ((wReplayAndCapture2.slot (20 : Fin 64) (0 : Fin 16)).st = 2 ∧ (wReplayAndCapture2.slot (20 : Fin 64) (0 : Fin 16)).want = true))) ∧
    ((wMailboxes8.power.coreOn = true) ∧ ((∀ j : Fin 16, wMailboxes8.mbxExpired (20 : Fin 64) (wMailboxes8.slot (20 : Fin 64) j) = false)) ∧ ((wMailboxes8.slot (20 : Fin 64) (0 : Fin 16)).st ≠ 2) ∧ ((wMailboxes8.mbxCh (20 : Fin 64)).late.contains (0 : Fin 16) = true)) ∧
    ((wMailboxes9.power.coreOn = true) ∧ ((∀ j : Fin 16, wMailboxes9.mbxExpired (20 : Fin 64) (wMailboxes9.slot (20 : Fin 64) j) = false)) ∧ ((wMailboxes9.slot (20 : Fin 64) (0 : Fin 16)).st = 2) ∧ ((wMailboxes9.slot (20 : Fin 64) (0 : Fin 16)).want = false) ∧ (wMailboxes9.mbxHidden (20 : Fin 64) ((1, .free) : Nat × MbxOp).1 = false) ∧ (((1, .free) : Nat × MbxOp).1 ≠ wMailboxes9.mbxReceiver (20 : Fin 64)) ∧ ((wMailboxes9.slot (20 : Fin 64) (0 : Fin 16)).sender ≠ ((1, .free) : Nat × MbxOp).1)) ∧
    ((wMailboxes10.power.coreOn = true) ∧ ((∀ j : Fin 16, wMailboxes10.mbxExpired (20 : Fin 64) (wMailboxes10.slot (20 : Fin 64) j) = false)) ∧ ((wMailboxes10.slot (20 : Fin 64) (0 : Fin 16)).st = 2) ∧ (wMailboxes10.stale (wMailboxes10.slot (20 : Fin 64) (0 : Fin 16)) = false) ∧ (bits (ofLe ((wMailboxes10.view (20 : Fin 64) (wMailboxes10.mbxReceiver (20 : Fin 64))).bytes.take 8)) 37 32 ≤ 56)) ∧
    ((wReplayAndCapture2.power.coreOn = true) ∧ ((∀ j : Fin 16, wReplayAndCapture2.mbxExpired (7 : Fin 64) (wReplayAndCapture2.slot (7 : Fin 64) j) = false)) ∧ (wReplayAndCapture2.mbxHidden (7 : Fin 64) (1 : Nat) = true) ∧ ((.mbxFree 7 3 1 [] : Instr) ∈ [.mbxDoneRelease (7 : Fin 64) (3 : Fin 16) (1 : Nat) [], .mbxDoneReply (7 : Fin 64) (3 : Fin 16) (1 : Nat) [], .mbxFree (7 : Fin 64) (3 : Fin 16) (1 : Nat) []])) ∧
    ((wMailboxes12.power.coreOn = true) ∧ ((∀ j : Fin 16, wMailboxes12.mbxExpired (20 : Fin 64) (wMailboxes12.slot (20 : Fin 64) j) = false)) ∧ (wMailboxes12.mbxHidden (20 : Fin 64) (1 : Nat) = false) ∧ (wMailboxes12.mbxOldest (20 : Fin 64) (fun x => x.st == 3 && x.sender == (1 : Nat) && x.inc == wMailboxes12.incOf (1 : Nat)) = some (0 : Nat))) ∧
    ((wMailboxes12.power.coreOn = true) ∧ ((∀ j : Fin 16, wMailboxes12.mbxExpired (20 : Fin 64) (wMailboxes12.slot (20 : Fin 64) j) = false)) ∧ (wMailboxes12.mbxHidden (20 : Fin 64) (1 : Nat) = false)) ∧
    ((wMailboxes14.power.coreOn = true) ∧ (wMailboxes14.mbxHidden (20 : Fin 64) (1 : Nat) = false)) ∧
    ((wMailboxes15.power.coreOn = true) ∧ (wMailboxes15.mbxExpired (20 : Fin 64) (wMailboxes15.slot (20 : Fin 64) (0 : Fin 16)) = true) ∧ (wMailboxes15.stale (wMailboxes15.slot (20 : Fin 64) (0 : Fin 16)) = false)) :=
  by and_intros <;> first | decide +kernel | exact ctrlIn_good _ _ _ | rfl | exact Nat.ne_of_lt (Nat.lt_succ_self _)

/-- DoorbellsAndLocks: every clause. -/
theorem witness_DoorbellsAndLocks :
    ((wDoorbellsAndLocks0.power.coreOn = true) ∧ ((2 ^ 32 + 1 : Nat) ≠ 0)) ∧
    ((wDoorbellsAndLocks0.power.coreOn = true) ∧ ((wDoorbellsAndLocks0.dblTarget (255 : Fin 256) = (1 : Nat) → ∀ x, wDoorbellsAndLocks0.host.dblClk.find? (255 : Fin 256) = some x → x.1 ≠ wDoorbellsAndLocks0.now))) ∧
    ((wDoorbellsAndLocks2.power.coreOn = true) ∧ (wDoorbellsAndLocks2.host.dblClk.find? (255 : Fin 256) = some (wDoorbellsAndLocks2.now, (8 : Nat), (4 : Nat))) ∧ (wDoorbellsAndLocks2.host.dbl.find? (255 : Fin 256) = some (Nat.lor (8 : Nat) (4 : Nat), (16 : Nat)))) ∧
    ((wReplayAndCapture2.power.coreOn = true) ∧ ((wReplayAndCapture2.lock (127 : Fin 128)).1 = 0) ∧ ((1 : Nat) ≠ 0)) ∧
    ((wDoorbellsAndLocks4.power.coreOn = true) ∧ ((wDoorbellsAndLocks4.lock (127 : Fin 128)).1 ≠ 0)) ∧
    ((wReplayAndCapture2.power.coreOn = true) ∧ ((wReplayAndCapture2.lock (127 : Fin 128)).1 = 0) ∧ (wReplayAndCapture2.arb.getD (700 + (127 : Fin 128)) 0 = 0) ∧ (0 < (1 : Nat)) ∧ ((1 : Nat) < (16 : Nat))) ∧
    ((wDoorbellsAndLocks4.power.coreOn = true) ∧ ((wDoorbellsAndLocks4.lock (127 : Fin 128)).1 ≠ 0) ∧ ((1 : Nat) ≠ 0)) ∧
    ((wDoorbellsAndLocks4.power.coreOn = true) ∧ ((wDoorbellsAndLocks4.lock (127 : Fin 128)).1 ≠ 0)) ∧
    ((wDoorbellsAndLocks4.power.coreOn = true) ∧ ((wDoorbellsAndLocks4.lock (127 : Fin 128)).1 ≠ (1 : Nat) ∨ (wDoorbellsAndLocks4.lock (127 : Fin 128)).1 = 0)) ∧
    ((wDoorbellsAndLocks4.power.coreOn = true) ∧ ((wDoorbellsAndLocks4.lock ((255 : Nat) % 128)).1 ≠ 0)) ∧
    ((wDoorbellsAndLocks4.power.coreOn = true) ∧ ((16 : Nat) ≠ 1)) :=
  by and_intros <;> first | decide +kernel | exact ctrlIn_good _ _ _ | rfl | exact Nat.ne_of_lt (Nat.lt_succ_self _)

/-- HostWindows: every clause. -/
theorem witness_HostWindows :
    ((wHostWindows0.power.coreOn = true) ∧ (wHostWindows0.dict.ready = true) ∧ (wHostWindows0.nat Pwr.POWER_STATE = 1) ∧ (wHostWindows0.nat Sec.LIFECYCLE < 3) ∧ (wHostWindows0.nat Dic.OWNER = 0) ∧ (wHostWindows0.now < wHostWindows0.nat Dic.LEASE_END) ∧ ((15 : Fin 256) < 16) ∧ ((0 : Fin 256).val = 0)) ∧
    ((wReplayAndCapture2.power.coreOn = true) ∧ (wReplayAndCapture2.nat Dic.OWNER = 255) ∧ (0x02218000 ≤ (0x02218000 : Nat)) ∧ ((0x02218000 : Nat) + ([1, 2, 3] : List Nat).length ≤ 0x02400000) ∧ (([1, 2, 3] : List Nat) ≠ [])) ∧
    ((wReplayAndCapture2.power.coreOn = true) ∧ (wReplayAndCapture2.nat Dic.OWNER = 255) ∧ (wReplayAndCapture2.dict.ready = false) ∧ ((65535 : Nat) < 0x10000) ∧ (wReplayAndCapture2.host.tbwMs ≠ wReplayAndCapture2.now / 1000000 + 1)) ∧
    ((wReplayAndCapture2.power.coreOn = true) ∧ ((114 : Nat) < 115) ∧ ((2 ^ 31 + 300 : Nat) < 2 ^ 32)) ∧
    ((wReplayAndCapture2.power.coreOn = true) ∧ (((2 : Nat) ≠ 4 ∧ (2 : Nat) ≠ 8) ∨ (0x1000 : Nat) % (2 : Nat) ≠ 0)) ∧
    ((wReplayAndCapture2.power.coreOn = true) ∧ (wReplayAndCapture2.flag Hst.SEC_SESSION = false)) :=
  by and_intros <;> first | decide +kernel | exact ctrlIn_good _ _ _ | rfl | exact Nat.ne_of_lt (Nat.lt_succ_self _)

/-- DictionaryRequests: every clause. -/
theorem witness_DictionaryRequests :
    ((wDictionaryRequests0.power.coreOn = true) ∧ (wDictionaryRequests0.dict.ready = true) ∧ (wDictionaryRequests0.nat Dic.OWNER = 255) ∧ (wDictionaryRequests0.flag Hst.SEC_SESSION = true) ∧ (({ index := 0x7830, sub := 4, token := 7 } : DictReq).want = true) ∧ (wDictionaryRequests0u = wDictionaryRequests0.bump Dic.REQUESTS) ∧ ((.secureDictRead false { index := 0x7830, sub := 4, token := 7 } none : Instr) ∈ [.dictRead ({ index := 0x7830, sub := 4, token := 7 } : DictReq) none, .secureDictRead false ({ index := 0x7830, sub := 4, token := 7 } : DictReq) none]) ∧ (malformed 0 { ({ index := 0x7830, sub := 4, token := 7 } : DictReq) with op := 1 } = false) ∧ (({ index := 0x7830, sub := 4, token := 7 } : DictReq).index < 0xF000) ∧ (({ index := 0x7830, sub := 4, token := 7 } : DictReq).offset = 0) ∧ (wDictionaryRequests0u.names { ({ index := 0x7830, sub := 4, token := 7 } : DictReq) with op := 1 } = some ((Join.JOIN_KBPS : Obj), (0 : Nat), (0 : Nat))) ∧ (wDictionaryRequests0u.recordOk 0 (Join.JOIN_KBPS : Obj) { ({ index := 0x7830, sub := 4, token := 7 } : DictReq) with op := 1 } = true) ∧ ((wDictionaryRequests0u.derived 0 (Join.JOIN_KBPS : Obj) (0 : Nat) (0 : Nat) (recOf (Join.JOIN_KBPS : Obj) ({ index := 0x7830, sub := 4, token := 7 } : DictReq))).isNone = true) ∧ (measured (Join.JOIN_KBPS : Obj) = false) ∧ (wDictionaryRequests0u.counting (Join.JOIN_KBPS : Obj) (0 : Nat) = false)) ∧
    ((wHostWindows0.power.coreOn = true) ∧ (wHostWindows0.dict.ready = true) ∧ (wHostWindows0.nat Dic.OWNER = 0) ∧ (wHostWindows0.now < wHostWindows0.nat Dic.LEASE_END) ∧ (wHostWindows0.nat Pwr.POWER_STATE = 1) ∧ (wHostWindows0.nat Sec.LIFECYCLE = 1) ∧ (wHostWindows0.nat Twin.ROLE ≠ 2) ∧ (wHostWindows0.nat Twin.STATE ≠ 5) ∧ ((wHostWindows0.sess 0).aborted = false) ∧ ((wHostWindows0.sess 0).asm = none) ∧ ((wHostWindows0.sess 0).txn = false) ∧ ((7 : Fin 256) < 8)) ∧
    ((wDictionaryRequests2.power.coreOn = true) ∧ (wDictionaryRequests2.dict.ready = true) ∧ (wDictionaryRequests2.nat Dic.OWNER = 255) ∧ (({ index := 0x7830, sub := 6, length := 2, data := [1, 2] } : DictReq).want = true) ∧ ((wDictionaryRequests2.sess 0).aborted = false) ∧ ((wDictionaryRequests2.sess 0).asm = none) ∧ (malformed 0 { ({ index := 0x7830, sub := 6, length := 2, data := [1, 2] } : DictReq) with op := 2 } = false) ∧ (({ index := 0x7830, sub := 6, length := 2, data := [1, 2] } : DictReq).offset = 0) ∧ (({ index := 0x7830, sub := 6, length := 2, data := [1, 2] } : DictReq).flags = 0) ∧ (wDictionaryRequests2.names { ({ index := 0x7830, sub := 6, length := 2, data := [1, 2] } : DictReq) with op := 2 } = some ((Join.REPLAYS_RUNNING : Obj), (0 : Nat), (0 : Nat))) ∧ (wDictionaryRequests2.recordOk 0 (Join.REPLAYS_RUNNING : Obj) { ({ index := 0x7830, sub := 6, length := 2, data := [1, 2] } : DictReq) with op := 2 } = true) ∧ ((0x06020001 : Nat) = (if accessCode (Join.REPLAYS_RUNNING : Obj) (0 : Nat) false ≠ 0 then accessCode (Join.REPLAYS_RUNNING : Obj) (0 : Nat) false else if wDictionaryRequests2.lifeRefuses (Join.REPLAYS_RUNNING : Obj) (decodeVal (Join.REPLAYS_RUNNING : Obj).ty false (({ index := 0x7830, sub := 6, length := 2, data := [1, 2] } : DictReq).data.take ({ index := 0x7830, sub := 6, length := 2, data := [1, 2] } : DictReq).length)) then 0x06020003 else 0x06050002)) ∧ (noLeaseNeeded (Join.REPLAYS_RUNNING : Obj) = false)) ∧
    ((wDictionaryRequests3.power.coreOn = true) ∧ (wDictionaryRequests3.dict.ready = true) ∧ (wDictionaryRequests3.nat Dic.OWNER = 0) ∧ (wDictionaryRequests3.now < wDictionaryRequests3.nat Dic.LEASE_END) ∧ (wDictionaryRequests3.nat Pwr.POWER_STATE = 1) ∧ (wDictionaryRequests3.nat Sec.LIFECYCLE = 1) ∧ (wDictionaryRequests3.nat Twin.ROLE ≠ 2) ∧ (wDictionaryRequests3.nat Twin.STATE ≠ 5) ∧ ((wDictionaryRequests3.sess 0).aborted = false) ∧ ((wDictionaryRequests3.sess 0).asm = none) ∧ ((wDictionaryRequests3.sess 0).txn = false) ∧ ((List.replicate 32 7 : List (Fin 256)).length = 32) ∧ (wDictionaryRequests3.flag Hst.SEC_SESSION = true)) ∧
    ((wDictionaryRequests4.power.coreOn = true) ∧ (wDictionaryRequests4.dict.ready = true) ∧ (wDictionaryRequests4.nat Dic.OWNER = 255) ∧ (wDictionaryRequests4.flag Hst.SEC_SESSION = true) ∧ (({ index := 0x4200, sub := 8, rcd := 5 } : DictReq).want = true) ∧ (wDictionaryRequests4.nat Pwr.POWER_STATE = 1) ∧ ((.dictNext { index := 0x4200, sub := 8, rcd := 5 } : Instr) ∈ [.dictNext ({ index := 0x4200, sub := 8, rcd := 5 } : DictReq), .secureDictNext false ({ index := 0x4200, sub := 8, rcd := 5 } : DictReq)]) ∧ (malformed 0 { ({ index := 0x4200, sub := 8, rcd := 5 } : DictReq) with op := 3 } = false) ∧ (({ index := 0x4200, sub := 8, rcd := 5 } : DictReq).index = 0x4200) ∧ (({ index := 0x4200, sub := 8, rcd := 5 } : DictReq).sub = 8)) ∧
    ((wDictionaryRequests5.power.coreOn = true) ∧ (wDictionaryRequests5.dict.ready = true) ∧ (wDictionaryRequests5.nat Dic.OWNER = 255) ∧ (wDictionaryRequests5.flag Hst.SEC_SESSION = true) ∧ (({ index := 0x7830, sub := 4 } : DictReq).want = true) ∧ (wDictionaryRequests5.nat Pwr.POWER_STATE = 1) ∧ ((.secureDictDescribe false { index := 0x7830, sub := 4 } : Instr) ∈ [.dictDescribe ({ index := 0x7830, sub := 4 } : DictReq), .secureDictDescribe false ({ index := 0x7830, sub := 4 } : DictReq)]) ∧ (malformed 0 { ({ index := 0x7830, sub := 4 } : DictReq) with op := 4 } = false) ∧ (({ index := 0x7830, sub := 4 } : DictReq).index = 0x7830) ∧ (({ index := 0x7830, sub := 4 } : DictReq).sub = 4) ∧ (({ index := 0x7830, sub := 4 } : DictReq).rcd = 0xFFFFFFFF)) ∧
    ((wDictionaryRequests6.power.coreOn = true) ∧ (wDictionaryRequests6.dict.ready = true) ∧ (wDictionaryRequests6.nat Dic.OWNER = 255) ∧ (({ index := 0x7830, sub := 4, length := 41 } : DictReq).want = true) ∧ (((1 : Nat), (.dictRead { index := 0x7830, sub := 4, length := 41 } none : Instr)) ∈ [(1, .dictRead ({ index := 0x7830, sub := 4, length := 41 } : DictReq) none), (2, .dictWrite ({ index := 0x7830, sub := 4, length := 41 } : DictReq)), (3, .dictNext ({ index := 0x7830, sub := 4, length := 41 } : DictReq)), (4, .dictDescribe ({ index := 0x7830, sub := 4, length := 41 } : DictReq))]) ∧ (malformed 0 { ({ index := 0x7830, sub := 4, length := 41 } : DictReq) with op := (1 : Nat) } = true)) ∧
    ((wReplayAndCapture2.power.coreOn = true) ∧ (wReplayAndCapture2.dict.ready = false) ∧ ((.dictWrite { index := 0x7830, sub := 4, length := 41 } : Instr) ∈ [.dictRead ({ index := 0x7830, sub := 4, length := 41 } : DictReq) none, .dictWrite ({ index := 0x7830, sub := 4, length := 41 } : DictReq), .dictNext ({ index := 0x7830, sub := 4, length := 41 } : DictReq), .dictDescribe ({ index := 0x7830, sub := 4, length := 41 } : DictReq)])) :=
  by and_intros <;> first | decide +kernel | exact ctrlIn_good _ _ _ | rfl | exact Nat.ne_of_lt (Nat.lt_succ_self _)

/-- LeaseAndTransactions: every clause. -/
theorem witness_LeaseAndTransactions :
    ((wDictionaryRequests6.power.coreOn = true) ∧ (wDictionaryRequests6.dict.ready = true) ∧ (wDictionaryRequests6.nat Dic.OWNER = 255) ∧ ((wDictionaryRequests6.sess 0).aborted = false) ∧ ((wDictionaryRequests6.sess 0).asm = none)) ∧
    ((wLeaseAndTransactions1.power.coreOn = true) ∧ (wLeaseAndTransactions1.dict.ready = true) ∧ (wLeaseAndTransactions1.nat Dic.OWNER ≠ 255) ∧ (wLeaseAndTransactions1.nat Dic.OWNER ≠ 0) ∧ (wLeaseAndTransactions1.now < wLeaseAndTransactions1.nat Dic.LEASE_END) ∧ ((wLeaseAndTransactions1.sess 0).aborted = false) ∧ ((wLeaseAndTransactions1.sess 0).asm = none)) ∧
    ((wLeaseAndTransactions2.power.coreOn = true) ∧ (wLeaseAndTransactions2.dict.ready = true) ∧ (wLeaseAndTransactions2.nat Dic.OWNER = 0) ∧ (wLeaseAndTransactions2.now < wLeaseAndTransactions2.nat Dic.LEASE_END) ∧ ((wLeaseAndTransactions2.sess 0).aborted = false) ∧ ((wLeaseAndTransactions2.sess 0).asm = none)) ∧
    ((wLeaseAndTransactions3.power.coreOn = true) ∧ (wLeaseAndTransactions3.dict.ready = true) ∧ (wLeaseAndTransactions3.nat Dic.OWNER = 0) ∧ (wLeaseAndTransactions3.now < wLeaseAndTransactions3.nat Dic.LEASE_END) ∧ ((wLeaseAndTransactions3.sess 0).aborted = false) ∧ ((wLeaseAndTransactions3.sess 0).asm = none)) ∧
    ((wLeaseAndTransactions4.power.coreOn = true) ∧ (wLeaseAndTransactions4.dict.ready = true) ∧ (wLeaseAndTransactions4.nat Dic.OWNER ≠ 255) ∧ (wLeaseAndTransactions4.nat Dic.LEASE_END ≤ wLeaseAndTransactions4.now) ∧ (wLeaseAndTransactions4.dict.commits = [])) ∧
    ((wHostWindows0.power.coreOn = true) ∧ (wHostWindows0.dict.ready = true) ∧ (wHostWindows0.nat Dic.OWNER = 0) ∧ (wHostWindows0.now < wHostWindows0.nat Dic.LEASE_END) ∧ (wHostWindows0.nat Pwr.POWER_STATE = 1) ∧ (wHostWindows0.nat Sec.LIFECYCLE = 1) ∧ ((wHostWindows0.sess 0).aborted = false) ∧ ((wHostWindows0.sess 0).asm = none) ∧ ((wHostWindows0.sess 0).txn = false) ∧ (wHostWindows0.dict.commits = [])) ∧
    ((wLeaseAndTransactions6.power.coreOn = true) ∧ (wLeaseAndTransactions6.dict.ready = true) ∧ (wLeaseAndTransactions6.nat Dic.OWNER = 0) ∧ (wLeaseAndTransactions6.now < wLeaseAndTransactions6.nat Dic.LEASE_END) ∧ (wLeaseAndTransactions6.nat Pwr.POWER_STATE = 1) ∧ (wLeaseAndTransactions6.nat Sec.LIFECYCLE = 1) ∧ ((wLeaseAndTransactions6.sess 0).aborted = false) ∧ ((wLeaseAndTransactions6.sess 0).asm = none) ∧ ((wLeaseAndTransactions6.sess 0).txn = true)) ∧
    ((wLeaseAndTransactions6.power.coreOn = true) ∧ (wLeaseAndTransactions6.dict.ready = true) ∧ (wLeaseAndTransactions6.nat Dic.OWNER = 0) ∧ (wLeaseAndTransactions6.now < wLeaseAndTransactions6.nat Dic.LEASE_END) ∧ (wLeaseAndTransactions6.nat Pwr.POWER_STATE = 1) ∧ (wLeaseAndTransactions6.nat Sec.LIFECYCLE = 1) ∧ ((wLeaseAndTransactions6.sess 0).aborted = false) ∧ ((wLeaseAndTransactions6.sess 0).asm = none) ∧ ((wLeaseAndTransactions6.sess 0).txn = true)) ∧
    ((wLeaseAndTransactions8.power.coreOn = true) ∧ (wLeaseAndTransactions8.dueCommit = some ({ frame := 1, members := [{ index := 0x7830, sub := 1, value := 4 }, { index := 0x5200, sub := 10, rcd := 77, value := 4 }] } : Commit)) ∧ (({ frame := 1, members := [{ index := 0x7830, sub := 1, value := 4 }, { index := 0x5200, sub := 10, rcd := 77, value := 4 }] } : Commit).reply.session = 0) ∧ (({ frame := 1, members := [{ index := 0x7830, sub := 1, value := 4 }, { index := 0x5200, sub := 10, rcd := 77, value := 4 }] } : Commit).reply.want = true) ∧ (wLeaseAndTransactions8.nat Twin.STATE ≠ 5) ∧ (({ frame := 1, members := [{ index := 0x7830, sub := 1, value := 4 }, { index := 0x5200, sub := 10, rcd := 77, value := 4 }] } : Commit).members ≠ []) ∧ (({ wLeaseAndTransactions8 with dict := { wLeaseAndTransactions8.dict with commits := wLeaseAndTransactions8.dict.commits.erase ({ frame := 1, members := [{ index := 0x7830, sub := 1, value := 4 }, { index := 0x5200, sub := 10, rcd := 77, value := 4 }] } : Commit) } }.writeAll ({ frame := 1, members := [{ index := 0x7830, sub := 1, value := 4 }, { index := 0x5200, sub := 10, rcd := 77, value := 4 }] } : Commit).members).1 ≠ 0)) ∧
    ((wLeaseAndTransactions9.power.coreOn = true) ∧ (wLeaseAndTransactions9.dueCommit = some ({ frame := 1, members := [{ index := 0x7830, sub := 1, value := 4 }, { index := 0x7830, sub := 4, value := 1007 }] } : Commit)) ∧ (({ frame := 1, members := [{ index := 0x7830, sub := 1, value := 4 }, { index := 0x7830, sub := 4, value := 1007 }] } : Commit).reply.session = 0) ∧ (({ frame := 1, members := [{ index := 0x7830, sub := 1, value := 4 }, { index := 0x7830, sub := 4, value := 1007 }] } : Commit).reply.want = true) ∧ (wLeaseAndTransactions9.nat Twin.STATE ≠ 5) ∧ (wLeaseAndTransactions9.nat Twin.ROLE ≠ 2) ∧ (({ frame := 1, members := [{ index := 0x7830, sub := 1, value := 4 }, { index := 0x7830, sub := 4, value := 1007 }] } : Commit).members = [{ index := 0x7830, sub := 1, value := (4 : Fin 2048) }, { index := 0x7830, sub := 4, value := (7 : Fin 2048) + 1000 }])) ∧
    ((wLeaseAndTransactions10.power.coreOn = true) ∧ (wLeaseAndTransactions10.dict.ready = true) ∧ (wLeaseAndTransactions10.nat Dic.OWNER = 0) ∧ (wLeaseAndTransactions10.now < wLeaseAndTransactions10.nat Dic.LEASE_END) ∧ (wLeaseAndTransactions10.nat Pwr.POWER_STATE = 1) ∧ (wLeaseAndTransactions10.nat Sec.LIFECYCLE = 1) ∧ ((wLeaseAndTransactions10.sess 0).aborted = false) ∧ ((wLeaseAndTransactions10.sess 0).asm = none) ∧ ((wLeaseAndTransactions10.sess 0).txn = false)) :=
  by and_intros <;> first | decide +kernel | exact ctrlIn_good _ _ _ | rfl | exact Nat.ne_of_lt (Nat.lt_succ_self _)

/-- QueuedWrites: every clause. -/
theorem witness_QueuedWrites :
    ((wQueuedWrites0.power.coreOn = true) ∧ (wQueuedWrites0.dict.commits = []) ∧ (wQueuedWrites0.dict.queue = [({ index := 0x5200, sub := 10, rcd := 65535, value := 7, frame := 1 } : Wr)]) ∧ (({ index := 0x5200, sub := 10, rcd := 65535, value := 7, frame := 1 } : Wr).frame ≤ wQueuedWrites0.frame) ∧ ((.contextWriteApply : Instr) ∈ [.contextWriteApply, .dictQueuedWriteApply]) ∧ (wQueuedWrites0.flag Twin.TWIN_ENABLE = false) ∧ (({ index := 0x5200, sub := 10, rcd := 65535, value := 7, frame := 1 } : Wr).index = 0x5200) ∧ (({ index := 0x5200, sub := 10, rcd := 65535, value := 7, frame := 1 } : Wr).sub = 10) ∧ (({ index := 0x5200, sub := 10, rcd := 65535, value := 7, frame := 1 } : Wr).rcd = (65535 : Nat)) ∧ (({ index := 0x5200, sub := 10, rcd := 65535, value := 7, frame := 1 } : Wr).value = ((7 : Fin 8).val : Int)) ∧ (({ index := 0x5200, sub := 10, rcd := 65535, value := 7, frame := 1 } : Wr).reply.session = 0) ∧ (({ index := 0x5200, sub := 10, rcd := 65535, value := 7, frame := 1 } : Wr).reply.want = true) ∧ (wQueuedWrites0.hasRecord 0x5200 (65535 : Nat) = true)) ∧
    ((wQueuedWrites1.power.coreOn = true) ∧ (wQueuedWrites1.dict.commits = []) ∧ (wQueuedWrites1.dict.queue = ({ index := 0x5200, sub := 255, rcd := 65535, value := 1, frame := 1 } : Wr) :: ([] : List Wr)) ∧ (({ index := 0x5200, sub := 255, rcd := 65535, value := 1, frame := 1 } : Wr).frame ≤ wQueuedWrites1.frame) ∧ (wQueuedWrites1.flag Twin.TWIN_ENABLE = false) ∧ (({ index := 0x5200, sub := 255, rcd := 65535, value := 1, frame := 1 } : Wr).index = 0x5200) ∧ (({ index := 0x5200, sub := 255, rcd := 65535, value := 1, frame := 1 } : Wr).sub = 255) ∧ (({ index := 0x5200, sub := 255, rcd := 65535, value := 1, frame := 1 } : Wr).rcd = (65535 : Nat)) ∧ (({ index := 0x5200, sub := 255, rcd := 65535, value := 1, frame := 1 } : Wr).reply.session = 0) ∧ (({ index := 0x5200, sub := 255, rcd := 65535, value := 1, frame := 1 } : Wr).reply.want = true) ∧ (wQueuedWrites1.hasRecord 0x5200 (65535 : Nat) = true)) ∧
    ((wQueuedWrites2.power.coreOn = true) ∧ (wQueuedWrites2.dict.commits = []) ∧ (wQueuedWrites2.dict.queue = ({ index := 0xA400, sub := 5, rcd := 262143, value := 1, frame := 1 } : Wr) :: ([] : List Wr)) ∧ (({ index := 0xA400, sub := 5, rcd := 262143, value := 1, frame := 1 } : Wr).frame ≤ wQueuedWrites2.frame) ∧ (wQueuedWrites2.flag Twin.TWIN_ENABLE = false) ∧ (({ index := 0xA400, sub := 5, rcd := 262143, value := 1, frame := 1 } : Wr).index = 0xA400) ∧ (({ index := 0xA400, sub := 5, rcd := 262143, value := 1, frame := 1 } : Wr).sub = 5) ∧ (({ index := 0xA400, sub := 5, rcd := 262143, value := 1, frame := 1 } : Wr).rcd = (262143 : Nat)) ∧ (({ index := 0xA400, sub := 5, rcd := 262143, value := 1, frame := 1 } : Wr).value = 1) ∧ (({ index := 0xA400, sub := 5, rcd := 262143, value := 1, frame := 1 } : Wr).reply.session = 0) ∧ (({ index := 0xA400, sub := 5, rcd := 262143, value := 1, frame := 1 } : Wr).reply.want = true) ∧ (wQueuedWrites2.hasRecord 0xA400 (262143 : Nat) = true) ∧ (wQueuedWrites2.rnat Xg.ENCRYPT (262143 : Nat) = 0) ∧ (wQueuedWrites2.rnat Xg.ONU_ID (262143 : Nat) < 1023) ∧ (wQueuedWrites2.rflag Xg.OMCC (262143 : Nat) = false)) ∧
    ((wQueuedWrites3.power.coreOn = true) ∧ (wQueuedWrites3.dict.commits = []) ∧ (wQueuedWrites3.dict.queue = ({ index := 0xA400, sub := 255, rcd := 262143, value := 1, frame := 1 } : Wr) :: ([] : List Wr)) ∧ (({ index := 0xA400, sub := 255, rcd := 262143, value := 1, frame := 1 } : Wr).frame ≤ wQueuedWrites3.frame) ∧ (wQueuedWrites3.flag Twin.TWIN_ENABLE = false) ∧ (({ index := 0xA400, sub := 255, rcd := 262143, value := 1, frame := 1 } : Wr).index = 0xA400) ∧ (({ index := 0xA400, sub := 255, rcd := 262143, value := 1, frame := 1 } : Wr).sub = 255) ∧ (({ index := 0xA400, sub := 255, rcd := 262143, value := 1, frame := 1 } : Wr).rcd = (262143 : Nat)) ∧ (({ index := 0xA400, sub := 255, rcd := 262143, value := 1, frame := 1 } : Wr).reply.session = 0) ∧ (({ index := 0xA400, sub := 255, rcd := 262143, value := 1, frame := 1 } : Wr).reply.want = true) ∧ (wQueuedWrites3.hasRecord 0xA400 (262143 : Nat) = true)) ∧
    ((wQueuedWrites4.power.coreOn = true) ∧ (wQueuedWrites4.dict.commits = []) ∧ (wQueuedWrites4.dict.queue = ({ index := 0x4200, sub := 7, rcd := 8704, value := 3, frame := 1 } : Wr) :: ([] : List Wr)) ∧ (({ index := 0x4200, sub := 7, rcd := 8704, value := 3, frame := 1 } : Wr).frame ≤ wQueuedWrites4.frame) ∧ (wQueuedWrites4.flag Twin.TWIN_ENABLE = false) ∧ (({ index := 0x4200, sub := 7, rcd := 8704, value := 3, frame := 1 } : Wr).index = 0x4200) ∧ (({ index := 0x4200, sub := 7, rcd := 8704, value := 3, frame := 1 } : Wr).sub = 7) ∧ (({ index := 0x4200, sub := 7, rcd := 8704, value := 3, frame := 1 } : Wr).rcd = (8704 : Nat)) ∧ (({ index := 0x4200, sub := 7, rcd := 8704, value := 3, frame := 1 } : Wr).value = ((3 : Fin 4).val : Int)) ∧ (({ index := 0x4200, sub := 7, rcd := 8704, value := 3, frame := 1 } : Wr).reply.session = 0) ∧ (({ index := 0x4200, sub := 7, rcd := 8704, value := 3, frame := 1 } : Wr).reply.want = true) ∧ (wQueuedWrites4.hasRecord 0x4200 (8704 : Nat) = true) ∧ (wQueuedWrites4.rnat Onu.PORT (8704 : Nat) = (8704 : Nat) / 512) ∧ (wQueuedWrites4.rnat Onu.CHANNEL (8704 : Nat) = 0) ∧ (wQueuedWrites4.rnat Onu.STATE (8704 : Nat) = 1)) ∧
    ((wQueuedWrites5.power.coreOn = true) ∧ (wQueuedWrites5.dict.commits = []) ∧ (wQueuedWrites5.dict.queue = ({ index := 0x4200, sub := 255, rcd := 8704, value := 1, frame := 1 } : Wr) :: ([] : List Wr)) ∧ (({ index := 0x4200, sub := 255, rcd := 8704, value := 1, frame := 1 } : Wr).frame ≤ wQueuedWrites5.frame) ∧ (wQueuedWrites5.flag Twin.TWIN_ENABLE = false) ∧ (({ index := 0x4200, sub := 255, rcd := 8704, value := 1, frame := 1 } : Wr).index = 0x4200) ∧ (({ index := 0x4200, sub := 255, rcd := 8704, value := 1, frame := 1 } : Wr).sub = 255) ∧ (({ index := 0x4200, sub := 255, rcd := 8704, value := 1, frame := 1 } : Wr).rcd = (8704 : Nat)) ∧ (({ index := 0x4200, sub := 255, rcd := 8704, value := 1, frame := 1 } : Wr).reply.session = 0) ∧ (({ index := 0x4200, sub := 255, rcd := 8704, value := 1, frame := 1 } : Wr).reply.want = true) ∧ (wQueuedWrites5.hasRecord 0x4200 (8704 : Nat) = true) ∧ (wQueuedWrites5.rnat Onu.STATE (8704 : Nat) ≠ onuEmpty) ∧ (wQueuedWrites5.rnat Onu.STATE (8704 : Nat) ≠ onuDisabled)) ∧
    ((wQueuedWrites6.power.coreOn = true) ∧ (wQueuedWrites6.dict.commits = []) ∧ (wQueuedWrites6.dict.queue = ({ index := 0x4200, sub := 255, rcd := 8704, value := 1, frame := 1 } : Wr) :: ([] : List Wr)) ∧ (({ index := 0x4200, sub := 255, rcd := 8704, value := 1, frame := 1 } : Wr).frame ≤ wQueuedWrites6.frame) ∧ (wQueuedWrites6.flag Twin.TWIN_ENABLE = false) ∧ (({ index := 0x4200, sub := 255, rcd := 8704, value := 1, frame := 1 } : Wr).index = 0x4200) ∧ (({ index := 0x4200, sub := 255, rcd := 8704, value := 1, frame := 1 } : Wr).sub = 255) ∧ (({ index := 0x4200, sub := 255, rcd := 8704, value := 1, frame := 1 } : Wr).rcd = (8704 : Nat)) ∧ (({ index := 0x4200, sub := 255, rcd := 8704, value := 1, frame := 1 } : Wr).reply.session = 0) ∧ (({ index := 0x4200, sub := 255, rcd := 8704, value := 1, frame := 1 } : Wr).reply.want = true) ∧ (wQueuedWrites6.hasRecord 0x4200 (8704 : Nat) = true) ∧ (wQueuedWrites6.rnat Onu.STATE (8704 : Nat) = onuEmpty ∨ wQueuedWrites6.rnat Onu.STATE (8704 : Nat) = onuDisabled)) :=
  by and_intros <;> first | decide +kernel | exact ctrlIn_good _ _ _ | rfl | exact Nat.ne_of_lt (Nat.lt_succ_self _)

/-- RetainedJournal: every clause. -/
theorem witness_RetainedJournal :
    ((wRetainedJournal0.power.coreOn = true) ∧ (wRetainedJournal0.jpend ≠ []) ∧ ((∀ a, a ∈ wRetainedJournal0.jpend → a.sub ≠ 0))) ∧
    ((wRetainedJournal1.power.coreOn = true) ∧ (wRetainedJournal1.jpend ≠ [])) ∧
    ((wRetainedJournal2.power.coreOn = true) ∧ (75 < wRetainedJournal2.journal.fill) ∧ ((90000 : Nat) ≤ 100000) ∧ (wRetainedJournal2.journal.wearRaised = false)) ∧
    ((wRetainedJournal3.power.coreOn = true) ∧ (wRetainedJournal3.journal.fill ≤ 75)) ∧
    ((wRetainedJournal4.power.coreOn = true)) :=
  by and_intros <;> first | decide +kernel | exact ctrlIn_good _ _ _ | rfl | exact Nat.ne_of_lt (Nat.lt_succ_self _)

/-- ObjectTransport: every clause. -/
theorem witness_ObjectTransport :
    ((wObjectTransport0.power.coreOn = true) ∧ (wObjectTransport0.dict.ready = true) ∧ (wObjectTransport0.nat Dic.IP_ADDR ≠ 0) ∧ ((77 : Nat) = wObjectTransport0.nat Dic.IP_ADDR) ∧ ((50300 : Nat) = wObjectTransport0.nat Dic.VOT_UDP_PORT) ∧ (wObjectTransport0.nat Dic.OWNER = 255) ∧ ((∀ n : Fin 9, (wObjectTransport0.sess n).isOpen = true → wObjectTransport0.now < (wObjectTransport0.sess n).seen + wObjectTransport0.nat Dic.VOT_IDLE_S * 1000000000)) ∧ (({ ip := (5 : Nat), port := (6 : Nat), dip := (77 : Nat), dport := (50300 : Nat), data := ([0x56, 0x4F, 1, 1, 0, 0, 0, 1, 0, 0, 0, 1] ++ List.replicate 16 0 ++ [9] : List Nat) } : Vot).good = true) ∧ (byteAt ([0x56, 0x4F, 1, 1, 0, 0, 0, 1, 0, 0, 0, 1] ++ List.replicate 16 0 ++ [9] : List Nat) 3 = 1) ∧ (wObjectTransport0.nat Dic.MGMT_KEY = 0)) ∧
    ((wObjectTransport1.power.coreOn = true) ∧ (wObjectTransport1.dict.ready = true) ∧ (wObjectTransport1.nat Dic.IP_ADDR ≠ 0) ∧ ((77 : Nat) = wObjectTransport1.nat Dic.IP_ADDR) ∧ ((50300 : Nat) = wObjectTransport1.nat Dic.VOT_UDP_PORT) ∧ (wObjectTransport1.nat Dic.OWNER = 255) ∧ ((∀ n : Fin 9, (wObjectTransport1.sess n).isOpen = true → wObjectTransport1.now < (wObjectTransport1.sess n).seen + wObjectTransport1.nat Dic.VOT_IDLE_S * 1000000000)) ∧ (({ ip := (5 : Nat), port := (6 : Nat), dip := (77 : Nat), dport := (50300 : Nat), data := ([0x56, 0x4F, 1, 1, 0, 0, 0, 16, 0, 0, 0, 1] ++ List.replicate 16 0 ++ List.replicate 16 9 : List Nat) } : Vot).good = true) ∧ (byteAt ([0x56, 0x4F, 1, 1, 0, 0, 0, 16, 0, 0, 0, 1] ++ List.replicate 16 0 ++ List.replicate 16 9 : List Nat) 3 = 1) ∧ (wObjectTransport1.nat Dic.MGMT_KEY ≠ 0) ∧ ((5 : Nat) < 2 ^ 128) ∧ ((6 : Nat) < 65536)) ∧
    ((wObjectTransport0.power.coreOn = true) ∧ (wObjectTransport0.dict.ready = false ∨ wObjectTransport0.nat Dic.IP_ADDR = 0 ∨ (77 : Nat) ≠ wObjectTransport0.nat Dic.IP_ADDR ∨ (50301 : Nat) ≠ wObjectTransport0.nat Dic.VOT_UDP_PORT) ∧ ((.votClose 77 50301 5 6 [1] : Instr) ∈ [.votOpen (77 : Nat) (50301 : Nat) (5 : Nat) (6 : Nat) ([1] : List Nat), .votRequest (77 : Nat) (50301 : Nat) (5 : Nat) (6 : Nat) ([1] : List Nat) (none : Option (Nat × Nat)), .votClose (77 : Nat) (50301 : Nat) (5 : Nat) (6 : Nat) ([1] : List Nat)])) ∧
    ((wObjectTransport3.power.coreOn = true) ∧ (wObjectTransport3.dict.ready = true) ∧ (wObjectTransport3.nat Dic.IP_ADDR ≠ 0) ∧ ((77 : Nat) = wObjectTransport3.nat Dic.IP_ADDR) ∧ ((50300 : Nat) = wObjectTransport3.nat Dic.VOT_UDP_PORT) ∧ (wObjectTransport3.nat Dic.OWNER = 255) ∧ ((∀ n : Fin 9, (wObjectTransport3.sess n).isOpen = true → wObjectTransport3.now < (wObjectTransport3.sess n).seen + wObjectTransport3.nat Dic.VOT_IDLE_S * 1000000000)) ∧ (({ ip := (5 : Nat), port := (6 : Nat), dip := (77 : Nat), dport := (50300 : Nat), data := ([0x56, 0x4F, 1, 3, 2, 0, 0, 16, 0, 0, 0, 42] ++ List.replicate 16 0 ++ [1, 0, 0x31, 0x13, 1, 0, 0, 0, 255, 255, 255, 255, 0, 0, 0, 7] : List Nat) } : Vot).good = true) ∧ (byteAt ([0x56, 0x4F, 1, 3, 2, 0, 0, 16, 0, 0, 0, 42] ++ List.replicate 16 0 ++ [1, 0, 0x31, 0x13, 1, 0, 0, 0, 255, 255, 255, 255, 0, 0, 0, 7] : List Nat) 3 = 3) ∧ (byteAt ([0x56, 0x4F, 1, 3, 2, 0, 0, 16, 0, 0, 0, 42] ++ List.replicate 16 0 ++ [1, 0, 0x31, 0x13, 1, 0, 0, 0, 255, 255, 255, 255, 0, 0, 0, 7] : List Nat) 4 = (2 : Nat)) ∧ (1 ≤ (2 : Nat)) ∧ ((2 : Nat) ≤ 8)) ∧
    ((wObjectTransport4.power.coreOn = true) ∧ (wObjectTransport4.dict.ready = true) ∧ (wObjectTransport4.nat Dic.IP_ADDR ≠ 0) ∧ ((77 : Nat) = wObjectTransport4.nat Dic.IP_ADDR) ∧ ((50300 : Nat) = wObjectTransport4.nat Dic.VOT_UDP_PORT) ∧ (wObjectTransport4.nat Dic.OWNER = 255 ∨ wObjectTransport4.now < wObjectTransport4.nat Dic.LEASE_END) ∧ ((∀ n : Fin 9, (wObjectTransport4.sess n).isOpen = true → wObjectTransport4.now < (wObjectTransport4.sess n).seen + wObjectTransport4.nat Dic.VOT_IDLE_S * 1000000000)) ∧ (({ ip := (5 : Nat), port := (6 : Nat), dip := (77 : Nat), dport := (50300 : Nat), data := ([0x56, 0x4F, 1, 6, 2, 0, 0, 0, 0, 0, 0, 42] ++ List.replicate 16 0 : List Nat) } : Vot).good = true) ∧ (byteAt ([0x56, 0x4F, 1, 6, 2, 0, 0, 0, 0, 0, 0, 42] ++ List.replicate 16 0 : List Nat) 3 = 6) ∧ (byteAt ([0x56, 0x4F, 1, 6, 2, 0, 0, 0, 0, 0, 0, 42] ++ List.replicate 16 0 : List Nat) 4 = (2 : Nat)) ∧ (1 ≤ (2 : Nat)) ∧ ((2 : Nat) ≤ 8) ∧ ((wObjectTransport4.sess (2 : Nat)).isOpen = true) ∧ (0 < wObjectTransport4.nat Dic.SESSIONS_OPEN) ∧ (wObjectTransport4.nat Dic.SESSIONS_OPEN ≤ 8)) ∧
    ((wObjectTransport5.power.coreOn = true) ∧ (wObjectTransport5.dict.ready = true) ∧ ((wObjectTransport5.sess ((1 : Fin 8) + 1)).isOpen = true)) ∧
    ((wObjectTransport6.power.coreOn = true) ∧ (wObjectTransport6.dict.ready = true) ∧ (wObjectTransport6.nat Dic.OWNER = 0) ∧ (wObjectTransport6.now < wObjectTransport6.nat Dic.LEASE_END) ∧ (wObjectTransport6.nat Pwr.POWER_STATE = 1) ∧ (wObjectTransport6.nat Sec.LIFECYCLE = 1) ∧ ((wObjectTransport6.sess 0).aborted = false) ∧ ((wObjectTransport6.sess 0).asm = none) ∧ ((wObjectTransport6.sess 0).txn = false)) ∧
    ((wObjectTransport6.power.coreOn = true) ∧ (wObjectTransport6.dict.ready = true) ∧ (wObjectTransport6.nat Dic.OWNER = 0) ∧ (wObjectTransport6.now < wObjectTransport6.nat Dic.LEASE_END) ∧ (wObjectTransport6.nat Pwr.POWER_STATE = 1) ∧ (wObjectTransport6.nat Sec.LIFECYCLE = 1) ∧ (wObjectTransport6.nat Twin.ROLE ≠ 2) ∧ (wObjectTransport6.nat Twin.STATE ≠ 5) ∧ ((wObjectTransport6.sess 0).aborted = false) ∧ ((wObjectTransport6.sess 0).asm = none) ∧ ((wObjectTransport6.sess 0).txn = false) ∧ (1024 ≤ (65535 : Nat)) ∧ ((65535 : Nat) ≤ 65535)) ∧
    ((wObjectTransport8.power.coreOn = true) ∧ (([255, 255, 255, 255, 255, 255] : List (Fin 256)).length = 6) ∧ (([2, 0, 0, 0, 0, 9] : List (Fin 256)).length = 6) ∧ (([2, 0, 0, 0, 0, 9] : List (Fin 256)).length = 6) ∧ (([10, 0, 0, 1] : List (Fin 256)).length = 4) ∧ (([0, 0, 0, 0, 0, 0] : List (Fin 256)).length = 6) ∧ (([10, 0, 0, 7] : List (Fin 256)).length = 4) ∧ (wObjectTransport8.nat Dic.IP_ADDR = ofLe (List.replicate 10 0 ++ [255, 255] ++ ([10, 0, 0, 7] : List (Fin 256)).map (fun x => x.val)))) ∧
    ((wReplayAndCapture2.power.coreOn = true) ∧ (wReplayAndCapture2.nat Dic.IP_ADDR = 0)) :=
  by and_intros <;> first | decide +kernel | exact ctrlIn_good _ _ _ | rfl | exact Nat.ne_of_lt (Nat.lt_succ_self _)

/-- FirmwareImages: every clause. -/
theorem witness_FirmwareImages :
    ((wFirmwareImages0.power.coreOn = true)) ∧
    ((wFirmwareImages1.power.coreOn = true)) ∧
    ((wFirmwareImages2.power.coreOn = true) ∧ ((1 : Nat) ≤ 1) ∧ (wFirmwareImages2.nat Sec.RUNNING_SLOT ≤ 1) ∧ ((1 : Nat) ≠ wFirmwareImages2.nat Sec.RUNNING_SLOT) ∧ (wFirmwareImages2.nat Sec.INACTIVE_STATE = 2)) ∧
    ((wFirmwareImages3.power.coreOn = true) ∧ ((1 : Nat) ≤ 1) ∧ (wFirmwareImages3.nat Sec.RUNNING_SLOT ≤ 1) ∧ ((1 : Nat) ≠ wFirmwareImages3.nat Sec.RUNNING_SLOT) ∧ (wFirmwareImages3.nat Sec.INACTIVE_STATE ≠ 2)) ∧
    ((wFirmwareImages4.power.coreOn = true)) ∧
    ((wFirmwareImages5.power.coreOn = true) ∧ (wFirmwareImages5.flag Sec.TRIAL = true) ∧ (wFirmwareImages5.nat Sec.RUNNING_SLOT ≤ 1) ∧ (wFirmwareImages5.power.trip = none) ∧ (wFirmwareImages5.power.t0 + (wFirmwareImages5.nat Sec.TRIAL_S * 1000000000 : Nat) ≤ (wFirmwareImages5.now : Int))) ∧
    ((wFirmwareImages6.power.coreOn = true) ∧ (wFirmwareImages6.flag Sec.TRIAL = false ∨ (wFirmwareImages6.now : Int) < wFirmwareImages6.power.t0 + (wFirmwareImages6.nat Sec.TRIAL_S * 1000000000 : Nat))) ∧
    ((wFirmwareImages7.power.coreOn = true) ∧ (wFirmwareImages7.flag Sec.TRIAL = false) ∧ (wFirmwareImages7.nat Sec.RUNNING_SLOT ≤ 1) ∧ (wFirmwareImages7.secu.rollback < wFirmwareImages7.runningIndex) ∧ (wFirmwareImages7.runningIndex ≤ 63)) ∧
    ((wFirmwareImages8.power.coreOn = true) ∧ (wFirmwareImages8.flag Sec.TRIAL = true)) ∧
    ((wReplayAndCapture2.power.coreOn = true) ∧ (wReplayAndCapture2.flag Sec.TRIAL = false) ∧ (wReplayAndCapture2.runningIndex ≤ wReplayAndCapture2.secu.rollback)) :=
  by and_intros <;> first | decide +kernel | exact ctrlIn_good _ _ _ | rfl | exact Nat.ne_of_lt (Nat.lt_succ_self _)

/-- LifecycleAndDebug: every clause. -/
theorem witness_LifecycleAndDebug :
    ((wLifecycleAndDebug0.power.coreOn = true) ∧ (wLifecycleAndDebug0.secu.lifecycle = 0)) ∧
    ((wLifecycleAndDebug1.power.coreOn = true) ∧ (wLifecycleAndDebug1.secu.lifecycle ≤ 1) ∧ (wLifecycleAndDebug1.secu.returnOk = true)) ∧
    ((wLifecycleAndDebug2.power.coreOn = true) ∧ (wLifecycleAndDebug2.secu.lifecycle ≠ 3)) ∧
    ((wLifecycleAndDebug3.power.coreOn = true) ∧ (((.lifecycleReturn : Instr) = .lifecycleSecure ∧ wLifecycleAndDebug3.secu.lifecycle ≠ 0) ∨ ((.lifecycleReturn : Instr) = .lifecycleReturn ∧ (1 < wLifecycleAndDebug3.secu.lifecycle ∨ wLifecycleAndDebug3.secu.returnOk = false)) ∨ ((.lifecycleReturn : Instr) = .lifecycleRetire ∧ wLifecycleAndDebug3.secu.lifecycle = 3))) ∧
    ((wLifecycleAndDebug3.power.coreOn = true) ∧ (([0x56, 0x4F, 0x44, 0x54, 1, 2, 1, 0] ++ List.replicate 568 0 : List Nat).length = 576)) ∧
    ((wReplayAndCapture2.power.coreOn = true) ∧ (ofBe (([0x56, 0x4F, 0x44, 0x54, 1, 3, 1, 0] ++ List.replicate 568 0 : List Nat).take 4) ≠ 0x564F4454 ∨ byteAt ([0x56, 0x4F, 0x44, 0x54, 1, 3, 1, 0] ++ List.replicate 568 0 : List Nat) 4 ≠ 1 ∨ byteAt ([0x56, 0x4F, 0x44, 0x54, 1, 3, 1, 0] ++ List.replicate 568 0 : List Nat) 5 = 0 ∨ 2 < byteAt ([0x56, 0x4F, 0x44, 0x54, 1, 3, 1, 0] ++ List.replicate 568 0 : List Nat) 5 ∨ 1 < byteAt ([0x56, 0x4F, 0x44, 0x54, 1, 3, 1, 0] ++ List.replicate 568 0 : List Nat) 6 ∨ 1 < byteAt ([0x56, 0x4F, 0x44, 0x54, 1, 3, 1, 0] ++ List.replicate 568 0 : List Nat) 7)) ∧
    ((wLifecycleAndDebug6.power.coreOn = true)) ∧
    ((wLifecycleAndDebug7.power.coreOn = true) ∧ (wLifecycleAndDebug7.nat Sec.DEBUG_EXPIRY ≠ 0) ∧ (wLifecycleAndDebug7.nat Sec.DEBUG_EXPIRY ≤ max (wLifecycleAndDebug7.nat Sec.TIME_HWM) wLifecycleAndDebug7.sec) ∧ (wLifecycleAndDebug7.nat Sec.DEBUG_LEVEL ≠ 0)) ∧
    ((wLifecycleAndDebug8.power.coreOn = true) ∧ (wLifecycleAndDebug8.nat Sec.DEBUG_EXPIRY = 0 ∨ max (wLifecycleAndDebug8.nat Sec.TIME_HWM) wLifecycleAndDebug8.sec < wLifecycleAndDebug8.nat Sec.DEBUG_EXPIRY)) ∧
    ((wLifecycleAndDebug9.power.coreOn = true) ∧ (wLifecycleAndDebug9.journal.hwmAt + 3600000000000 ≤ wLifecycleAndDebug9.now) ∧ (wLifecycleAndDebug9.sec < 18446744073709551616) ∧ (wLifecycleAndDebug9.nat Sec.TIME_HWM < 18446744073709551616)) :=
  by and_intros <;> first | decide +kernel | exact ctrlIn_good _ _ _ | rfl | exact Nat.ne_of_lt (Nat.lt_succ_self _)

/-- SpdmSessions: every clause. -/
theorem witness_SpdmSessions :
    ((wSpdmSessions0.power.coreOn = true)) ∧
    ((wSpdmSessions1.power.coreOn = true) ∧ (wSpdmSessions1.secu.spdmHost = 1)) ∧
    ((wSpdmSessions2.power.coreOn = true) ∧ (wSpdmSessions2.secu.spdmTwin = 2)) ∧
    ((wSpdmSessions3.power.coreOn = true) ∧ (3 ≤ wSpdmSessions3.spdm (1 : Fin 2))) ∧
    ((wSpdmSessions3.power.coreOn = true) ∧ (3 ≤ wSpdmSessions3.spdm (1 : Fin 2))) ∧
    ((wSpdmSessions3.power.coreOn = true) ∧ (3 ≤ wSpdmSessions3.spdm (1 : Fin 2)) ∧ (wSpdmSessions3.secu.idGone = false)) ∧
    ((wSpdmSessions3.power.coreOn = true) ∧ (3 ≤ wSpdmSessions3.spdm (1 : Fin 2)) ∧ (1 ≤ (3 : Nat)) ∧ ((3 : Nat) ≤ 5)) ∧
    ((wSpdmSessions3.power.coreOn = true) ∧ (3 ≤ wSpdmSessions3.spdm (1 : Fin 2)) ∧ (wSpdmSessions3.spdm (1 : Fin 2) ≠ 5) ∧ (wSpdmSessions3.secu.idGone = false)) ∧
    ((wSpdmSessions8.power.coreOn = true) ∧ (wSpdmSessions8.spdm (1 : Fin 2) = 5)) ∧
    ((wSpdmSessions9.power.coreOn = true) ∧ (wSpdmSessions9.secu.spdmHost = 4)) ∧
    ((wSpdmSessions8.power.coreOn = true) ∧ (wSpdmSessions8.secu.spdmTwin = 5)) ∧
    ((wSpdmSessions11.power.coreOn = true) ∧ (wSpdmSessions11.secu.spdmHost = 5) ∧ (wSpdmSessions11.secu.beatHost + 60000000000 ≤ wSpdmSessions11.now) ∧ (wSpdmSessions11.flag Hst.SEC_SESSION = true)) ∧
    ((wSpdmSessions12.power.coreOn = true) ∧ (wSpdmSessions12.spdm (0 : Fin 2) ≠ 5 ∨ wSpdmSessions12.now < (if (0 : Fin 2).val = 0 then wSpdmSessions12.secu.beatHost else wSpdmSessions12.secu.beatTwin) + 60000000000)) ∧
    ((wSpdmSessions8.power.coreOn = true) ∧ (wSpdmSessions8.spdm (1 : Fin 2) = 5)) ∧
    ((wSpdmSessions8.power.coreOn = true) ∧ (wSpdmSessions8.secu.spdmTwin = 5)) ∧
    ((wReplayAndCapture2.power.coreOn = true) ∧ (wReplayAndCapture2.spdm (0 : Fin 2) = 0) ∧ ((.spdmEndSession 0 : Instr) ∈ [.spdmGetCapabilities (0 : Fin 2), .spdmNegotiateAlgorithms (0 : Fin 2), .spdmGetDigests (0 : Fin 2), .spdmChallenge (0 : Fin 2) 0 0, .spdmGetMeasurements (0 : Fin 2) 0 false 0, .spdmKeyExchange (0 : Fin 2) 0, .spdmFinish (0 : Fin 2) true, .spdmHeartbeat (0 : Fin 2), .spdmKeyUpdate (0 : Fin 2), .spdmEndSession (0 : Fin 2)])) :=
  by and_intros <;> first | decide +kernel | exact ctrlIn_good _ _ _ | rfl | exact Nat.ne_of_lt (Nat.lt_succ_self _)

/-- MemoryIntegrity: every clause. -/
theorem witness_MemoryIntegrity :
    ((wMemoryIntegrity0.power.coreOn = true) ∧ ((9 : Fin 10).val ≠ 2) ∧ ((9 : Fin 10).val ≠ 7) ∧ (wMemoryIntegrity0.flag MemA.SCRUB_ENABLE (9 : Fin 10) = true) ∧ (wMemoryIntegrity0.storedError (9 : Fin 10) (77 : Nat) false = 0) ∧ (1 ≤ (2 : Nat)) ∧ (2 ≤ wMemoryIntegrity0.nat Mem.CE_REPEAT_LIMIT) ∧ (wMemoryIntegrity0.mem.repeats.find? (9 : Fin 10) = none) ∧ (wMemoryIntegrity0.mem.visit.getD (9 : Fin 10) 0 ≤ (77 : Nat)) ∧ (((9 : Fin 10).val, (77 : Nat), wMemoryIntegrity0.now, false) ∉ wMemoryIntegrity0.mem.fixed)) ∧
    ((wMemoryIntegrity1.power.coreOn = true) ∧ ((77 : Nat) < wMemoryIntegrity1.mem.visit.getD (9 : Fin 19) 0)) ∧
    ((wMemoryIntegrity2.power.coreOn = true) ∧ (wMemoryIntegrity2.flag MemA.SCRUB_ENABLE (18 : Fin 19) = false)) ∧
    ((wReplayAndCapture2.power.coreOn = true) ∧ (wReplayAndCapture2.queue (1 : Fin 2) (5 : Nat) = []) ∧ (wReplayAndCapture2.mem.ueSec.find? 0 = none)) ∧
    ((tOn [(Rule.VALID.addr 1 0 40, 1)] 5000).mem.ueSec.find? 8 = none) ∧
    ((wMemoryIntegrity5.power.coreOn = true) ∧ (wMemoryIntegrity5.mem.back.find? (4 : Fin 19) = some (77 : Nat))) ∧
    ((wMemoryIntegrity6.power.coreOn = true) ∧ (wMemoryIntegrity6.mem.back.find? (5 : Fin 19) = none)) ∧
    ((wMemoryIntegrity5.power.coreOn = true)) ∧
    ((wMemoryIntegrity8.power.coreOn = true) ∧ ((9 : Fin 19).val ≠ 2) ∧ (wMemoryIntegrity8.mayScrub (9 : Fin 19) = true) ∧ (wMemoryIntegrity8.lapMs (9 : Fin 19) = (10001 : Nat)) ∧ ((10001 : Nat) < 4294967296) ∧ (wMemoryIntegrity8.nat MemA.LAP_MAX_MS (9 : Fin 19) < 4294967296)) ∧
    ((wReplayAndCapture2.power.coreOn = true) ∧ ((2 : Fin 19).val = 2 ∨ wReplayAndCapture2.mayScrub (2 : Fin 19) = false)) ∧
    ((wMemoryIntegrity10.power.coreOn = true) ∧ (wMemoryIntegrity10.mem.asleep.find? (5 : Fin 8) = some (10000000000 : Nat)) ∧ ((10000000000 : Nat) ≤ wMemoryIntegrity10.now) ∧ (wMemoryIntegrity10.flag MemA.SCRUB_ENABLE ((5 : Fin 8) + 11) = true) ∧ (wMemoryIntegrity10.nat Mem.SCRUB_WAKE_H ≠ 0)) :=
  by and_intros <;> first | decide +kernel | exact ctrlIn_good _ _ _ | rfl | exact Nat.ne_of_lt (Nat.lt_succ_self _)

/-- InjectionAndClears: every clause. -/
theorem witness_InjectionAndClears :
    ((wInjectionAndClears0.power.coreOn = true) ∧ (wInjectionAndClears0.nat Twin.ROLE ≠ 2) ∧ (wInjectionAndClears0.nat Sec.DEBUG_LEVEL ≠ 2) ∧ (wInjectionAndClears0.nat Sec.LIFECYCLE ≠ 0)) ∧
    ((wInjectionAndClears1.power.coreOn = true) ∧ (wInjectionAndClears1.nat Twin.ROLE ≠ 2) ∧ (wInjectionAndClears1.nat Sec.DEBUG_LEVEL = 2) ∧ (wInjectionAndClears1.flag Inj.INJ_ARM = false)) ∧
    ((wInjectionAndClears2.power.coreOn = true) ∧ (wInjectionAndClears2.flag Inj.INJ_ARM = true)) ∧
    ((wInjectionAndClears3.power.coreOn = true) ∧ (wInjectionAndClears3.nat Twin.ROLE ≠ 2)) :=
  by and_intros <;> first | decide +kernel | exact ctrlIn_good _ _ _ | rfl | exact Nat.ne_of_lt (Nat.lt_succ_self _)

end Sys2Proof.Machine
end

section
/-! SUPPORT. What an increase leaves in a counter (R14). -/

namespace Sys2Proof.Machine

/-- A type whose values are the unsigned words of its size: neither two's complement nor TIME96. -/
def Ty.isWord (t : Ty) : Bool := !t.signed && t != .time96

theorem Ty.isWord_iff (t : Ty) : t.isWord = true ↔ t.signed = false ∧ t ≠ .time96 := by
  simp [Ty.isWord]

theorem Ty.norm_of_isWord {t : Ty} (h : t.isWord = true) (v : Int) : t.norm v = v % 2 ^ (8 * t.size) := by
  obtain ⟨hsigned, htime⟩ := t.isWord_iff.mp h
  unfold Ty.norm
  split
  · contradiction
  · simp [hsigned]

theorem Ty.max_of_isWord {t : Ty} (h : t.isWord = true) : t.max = 2 ^ (8 * t.size) - 1 := by
  obtain ⟨hsigned, htime⟩ := t.isWord_iff.mp h
  unfold Ty.max
  split
  · contradiction
  · simp [hsigned]

/-- Every counter of the dictionary is an unsigned word. -/
theorem isWord_of_counter : ∀ o ∈ allObjs, o.cnt ≠ .none → o.ty.isWord = true := by
  decide +kernel

/-- Settles O5: the store reduces a counter to its word, so a saturating sum that stops at the greatest word stays as it is, and any
other wraps. -/
theorem counterArithmetic : Obligations.CounterArithmetic := by
  constructor
  · intro s o i j n ho hc h0 hle
    have hw := isWord_of_counter o ho (by simp [hc])
    have hmax : (0 : Int) < 2 ^ (8 * o.ty.size) := Int.pow_pos (by decide)
    rw [State.bumpBy_get_self, Ty.norm_of_isWord hw]
    simp only [Obj.plus, hc, Ty.max_of_isWord hw]
    exact Int.emod_eq_of_lt (by omega) (by omega)
  · intro s o i j n ho hc
    have hw := isWord_of_counter o ho (by simp [hc])
    rw [State.bumpBy_get_self, Ty.norm_of_isWord hw]
    simp only [Obj.plus, hc]

end Sys2Proof.Machine
end

section
/-! SUPPORT. The idle step without core power. -/

namespace Sys2Proof.Machine

/-- The time that an idle step leaves: 1 ns later, 0 past the greatest TIME96 (R9). -/
def State.nextNow (s : State) : Nat := if s.now + 1 = timeMod then 0 else s.now + 1

/-- 1 ns without core power: the device time moves and, at a whole second, the seconds counter (R288). -/
def State.afterNs (s : State) : State :=
  { s with
    now := s.nextNow
    power := if s.nextNow % secNs = 0 then { s.power with snowSecs := s.power.snowSecs + 1 } else s.power }

theorem State.tick_off {s : State} (h : s.power.coreOn = false) : s.tick = s.afterNs := by
  unfold State.tick State.afterNs State.nextNow
  generalize (if s.now + 1 = timeMod then 0 else s.now + 1) = n
  by_cases hs : n % secNs = 0 <;> simp [State.setPower, h, hs]

theorem State.twinState_standby_out (s : State) (st : Nat) (h : [3, 4, 7, 8, 9].contains st = true) :
    (s.twinState st).out = s.out := by
  have h5 : ¬ (st = 5 ∨ st = 6) := by rintro (rfl | rfl) <;> simp at h
  unfold State.twinState
  rw [if_neg h5, if_pos h]
  rfl

/-- Asking for a bulk copy sends one control frame (R321). -/
theorem State.resync_out (s : State) : ∃ x, s.resync.out = x :: s.out := ⟨_, State.twinState_standby_out _ 3 rfl⟩

theorem State.reloadCheck_out {s : State} (hrole : s.nat Twin.ROLE = 2)
    (hwait : s.mem.reload.any (fun e => decide (e.2.2 + secNs ≤ s.now)) = true) : ∃ x, s.reloadCheck.out = x :: s.out := by
  unfold State.reloadCheck
  rw [if_pos hwait]
  exact if_pos (c := s.nat Twin.ROLE = 2) hrole ▸ State.resync_out _

/-- A standby whose reloaded record has waited 1 s sends a control frame in its next idle step, with the core rails off too. -/
theorem State.idle_off_out {s : State} (hoff : s.power.coreOn = false) (hrole : s.nat Twin.ROLE = 2)
    (hwait : s.mem.reload.any (fun e => decide (e.2.2 + secNs ≤ s.nextNow)) = true) : ∃ x, s.idle.out = x :: s.out := by
  change ∃ x, s.tick.reloadCheck.out = x :: s.out
  rw [State.tick_off hoff]
  exact State.reloadCheck_out (s := s.afterNs) hrole hwait

/-- A powered standby in the last nanosecond of a reloaded record's wait (R442). -/
def standbyWaits : State :=
  { State.reset with
    now := secNs - 1, od := [(Twin.ROLE.addr 0 0 0, 2)], mem := { reload := [(0x4200, 7, 0)] },
    power := { coreOn := true, enA := true, enB := true } }

/-- The same standby after a fault of rail 2: its core rails are off (R458). -/
def standbyCut : State :=
  { standbyWaits with
    out := [.pin .alertN 0, .pin .pwrEnA 0, .pin .pwrEnB 0],
    power := { retryAt := some (2 * secNs - 1), supply := some 2, alert := 4 } }

/-- The refuting state is what the model itself answers to the fault. -/
theorem railFault_standbyWaits : exec (.railFault 2 0) standbyWaits = .next standbyCut := rfl

/-- Refutes O1: the idle step looks at reloaded records before it looks at core power. A standby that lost its core rails while a
reloaded record waited for the active counts a resynchronisation and sends a control frame when the wait of 1 s ends, so neither the
objects nor the outputs stay. The refuting state is the one that a rail fault leaves. -/
theorem not_stepTakesFront : ¬ Obligations.StepTakesFront := by
  rintro ⟨-, hidle⟩
  obtain ⟨t, ht, -, -, -, hout⟩ := hidle standbyCut rfl rfl
  obtain ⟨x, hx⟩ := State.idle_off_out (s := standbyCut) rfl (by decide) (by decide)
  have : standbyCut.idle = t := by injection ht
  rw [← this, hx] at hout
  exact List.cons_ne_self _ _ hout

end Sys2Proof.Machine
end

section
/-! SUPPORT. Buffer ownership: the checks of Table 9-4, the operations of Table 9-3, their order in one clock, and the commands. -/

namespace Sys2Proof.Machine

/-! ### What the buffer operations read and write -/

@[simp] theorem State.granted_buf (s : State) (a q p : Nat) : (s.granted a q).buf p = s.buf p := rfl

theorem State.setBuf_buf_self (s : State) (p : Nat) (b : Nat × Nat × Nat) (h : b.1 ≠ 0) : (s.setBuf p b).buf p = b := by
  simp [State.setBuf, State.buf, h]

theorem State.setBuf_buf_free (s : State) (p : Nat) : (s.setBuf p (0, 0, 0)).buf p = (0, 0, 0) := by
  simp [State.setBuf, State.buf]

theorem State.setBuf_buf_other (s : State) (p y : Nat) (b : Nat × Nat × Nat) (h : y ≠ p) : (s.setBuf p b).buf y = s.buf y := by
  unfold State.setBuf State.buf
  by_cases hb : b.1 = 0
  · simp [hb, Tab.getD_del_other _ _ _ _ h]
  · simp [hb, Tab.getD_ins_other _ _ _ _ _ h]

/-- What is read of a buffer depends on the traffic manager alone. -/
theorem State.buf_congr {s t : State} (h : t.tm = s.tm) (p : Nat) : t.buf p = s.buf p := by
  unfold State.buf; rw [h]

/-- The update of FREE and LOW_WATER leaves every field but the object store. -/
theorem State.lowWater_logged (s : State) (k : Nat) : s.logged (s.lowWater k) := by
  unfold State.lowWater
  dsimp only
  split
  · exact (State.logged_put s Pool.FREE _ k 0).trans (State.logged_put _ Pool.LOW_WATER _ k 0)
  · exact State.logged_put s Pool.FREE _ k 0

@[simp] theorem State.lowWater_out (s : State) (k : Nat) : (s.lowWater k).out = s.out := by
  unfold State.lowWater
  dsimp only
  split <;> rfl

@[simp] theorem State.lowWater_buf (s : State) (k p : Nat) : (s.lowWater k).buf p = s.buf p :=
  State.buf_congr (s.lowWater_logged k).tm p

theorem State.lowWater_sameBut (s : State) (k : Nat) :
    s.sameBut (s.lowWater k) [Pool.FREE.addr k 0 0, Pool.LOW_WATER.addr k 0 0] := by
  intro a ha
  simp only [List.mem_cons, List.not_mem_nil, or_false, not_or] at ha
  obtain ⟨hfree, hlow⟩ := ha
  unfold State.lowWater
  dsimp only
  split
  · rw [State.put_find _ _ _ _ _ _ hlow, State.put_find _ _ _ _ _ _ hfree]
  · exact State.put_find _ _ _ _ _ _ hfree

/-! ### The order of one clock (R12) -/

theorem insBy_perm {α : Type} (key : α → Nat) (a : α) (l : List α) : (insBy key a l).Perm (a :: l) := by
  induction l with
  | nil => rfl
  | cons b l ih =>
    unfold insBy
    split
    · rfl
    · exact (ih.cons b).trans (.swap a b l)

theorem foldl_insBy_perm {α : Type} (key : α → Nat) (l acc : List α) :
    (l.foldl (fun t a => insBy key a t) acc).Perm (l ++ acc) := by
  induction l generalizing acc with
  | nil => rfl
  | cons a l ih => exact (ih _).trans (((insBy_perm key a acc).append_left l).trans List.perm_middle)

theorem sortBy_perm {α : Type} (key : α → Nat) (l : List α) : (sortBy key l).Perm l := by
  simpa [sortBy] using foldl_insBy_perm key l []

/-- An arbiter that serves every request of a clock serves each of them once. -/
theorem arbOrderBy_perm {α : Type} (key : α → Nat) (ptr : Nat) (reqs : List α) : (arbOrderBy key ptr reqs).Perm reqs := by
  have h := List.filter_append_perm (fun q => decide (ptr ≤ key q)) (sortBy key reqs)
  simp only [← decide_not, Nat.not_le] at h
  exact h.trans (sortBy_perm key reqs)

/-- Two requesters are served in an order that does not depend on which is named first. -/
theorem arbOrderBy_swap {α : Type} (key : α → Nat) (ptr : Nat) (a b : α) (h : key a ≠ key b) :
    arbOrderBy key ptr [a, b] = arbOrderBy key ptr [b, a] := by
  have hs : sortBy key [a, b] = sortBy key [b, a] := by
    rcases Nat.lt_or_gt_of_ne h with h | h <;> simp [sortBy, insBy, h, Nat.lt_asymm h]
  unfold arbOrderBy
  rw [hs]

theorem arbPick_one (ptr q : Nat) : arbPick ptr [q] = some q := by
  by_cases h : ptr ≤ q <;> simp [arbPick, h]

theorem arbPick_swap (ptr a b : Nat) : arbPick ptr [a, b] = arbPick ptr [b, a] := by
  by_cases ha : ptr ≤ a <;> by_cases hb : ptr ≤ b <;> simp [arbPick, ha, hb, List.min?, Nat.min_comm]

/-- A rearrangement of two elements is one of their two orders. -/
theorem eq_or_swap_of_perm_pair {α : Type} {l : List α} {a b : α} (h : l.Perm [a, b]) : l = [a, b] ∨ l = [b, a] := by
  match l, h.length_eq with
  | [x, y], _ =>
    have hx : x = a ∨ x = b := by simpa only [List.mem_cons, List.not_mem_nil, or_false] using h.subset List.mem_cons_self
    rcases hx with rfl | rfl
    · exact .inl (congrArg _ (List.perm_singleton.mp h.cons_inv))
    · exact .inr (congrArg _ (List.perm_singleton.mp (h.trans (.swap x a [])).cons_inv))

theorem arbOrder_one (ptr q : Nat) : arbOrder ptr [q] = [q] :=
  List.perm_singleton.mp (arbOrderBy_perm _ _ _)

theorem State.servedClock_one (s : State) (a q : Nat) : s.servedClock a [q] = s.granted a q := by
  simp only [State.servedClock, arbPick_one]

theorem State.servedClock_buf (s : State) (a : Nat) (reqs : List Nat) (p : Nat) : (s.servedClock a reqs).buf p = s.buf p := by
  unfold State.servedClock
  split <;> rfl

theorem State.servedClock_od (s : State) (a : Nat) (reqs : List Nat) : (s.servedClock a reqs).od = s.od := by
  unfold State.servedClock
  split <;> rfl

/-- The operations of one clock on a buffer act one after another, each once (R239). -/
theorem State.bufClock_serves (s : State) (p : Nat) (ops : List (Nat × BufOp)) :
    ∃ l : List (Nat × BufOp), l.Perm ops ∧ s.bufClock p ops =
      l.foldl (fun s e => (s.bufOp e.2 e.1 p).2) (s.servedClock arbBuf (ops.map (fun e => e.1))) := by
  refine ⟨_, ?_, rfl⟩
  refine (List.perm_append_comm.trans ?_).trans (arbOrderBy_perm (fun e : Nat × BufOp => e.1) (s.arb.getD arbBuf 0) ops)
  exact List.filter_append_perm _ _

theorem State.bufClock_one (s : State) (p q : Nat) (op : BufOp) :
    s.bufClock p [(q, op)] = ((s.granted arbBuf q).bufOp op q p).2 := by
  obtain ⟨l, hl, h⟩ := s.bufClock_serves p [(q, op)]
  rw [h, List.perm_singleton.mp hl]
  simp only [List.map_cons, List.map_nil, State.servedClock_one, List.foldl_cons, List.foldl_nil]

theorem State.bufClock_swap (s : State) (p a b : Nat) (o o' : BufOp) (h : a ≠ b) :
    s.bufClock p [(a, o), (b, o')] = s.bufClock p [(b, o'), (a, o)] := by
  unfold State.bufClock State.servedClock
  simp only [List.map_cons, List.map_nil, arbPick_swap _ a b]
  rw [arbOrderBy_swap (fun e : Nat × BufOp => e.1) _ (a, o) (b, o') h]

/-! ### The checks of Table 9-4 -/

/-- The pointer names a buffer of its pool: the checks that look at no ownership (R233). -/
def State.bufPlaced (s : State) (p : Nat) : Prop :=
  ∃ k o, ptrPool p = some (k, o) ∧ o < s.nat Pool.ACTIVE_COUNT k * s.nat Pool.SIZE k ∧ o % s.nat Pool.SIZE k = 0

/-- COUNT, OWNER and LAST_OWNER of a buffer allow the operation of the requester (Table 9-4). -/
def BufOp.allows (req : Nat) (b : Nat × Nat × Nat) : BufOp → Prop
  | .handover _ => b.1 = 1 ∧ b.2.1 = req
  | .share n _ => b.1 = 1 ∧ b.2.1 = req ∧ 2 ≤ n ∧ n ≤ 4096
  | .release => 2 ≤ b.1 ∧ b.2.2 ≠ req
  | .free => b.1 = 1 ∧ b.2.1 = req

theorem State.bufCheck_of_not_placed {s : State} {p : Nat} (op : BufOp) (req : Nat) (h : ¬ s.bufPlaced p) :
    s.bufCheck op req p ≠ 0 := by
  unfold State.bufCheck
  cases hp : ptrPool p with
  | none => exact Nat.one_ne_zero
  | some ko =>
    have hko : ko.2 < s.nat Pool.ACTIVE_COUNT ko.1 * s.nat Pool.SIZE ko.1 → ko.2 % s.nat Pool.SIZE ko.1 ≠ 0 :=
      fun hin hal => h ⟨ko.1, ko.2, hp, hin, hal⟩
    dsimp only
    split
    · exact Nat.one_ne_zero
    · rw [if_pos (hko (by omega))]
      exact Nat.succ_ne_zero 1

/-- An operation passes Table 9-4 where its buffer is placed and the ownership allows it. -/
theorem State.bufCheck_eq_zero_iff (s : State) (op : BufOp) (req p : Nat) :
    s.bufCheck op req p = 0 ↔ s.bufPlaced p ∧ op.allows req (s.buf p) := by
  by_cases hpl : s.bufPlaced p
  · obtain ⟨k, o, hp, hin, hal⟩ := id hpl
    have hin' : ¬ s.nat Pool.ACTIVE_COUNT k * s.nat Pool.SIZE k ≤ o := Nat.not_le.mpr hin
    simp only [State.bufCheck, hp, hin', hal, ne_eq, not_true_eq_false, if_false, hpl, true_and]
    cases op <;> simp only [BufOp.allows] <;> grind
  · exact iff_of_false (State.bufCheck_of_not_placed op req hpl) (fun h => hpl h.1)

theorem State.bufPlaced_congr {s t : State} (h : t.od = s.od) (p : Nat) : t.bufPlaced p ↔ s.bufPlaced p := by
  unfold State.bufPlaced State.nat State.get
  rw [h]

theorem State.bufCheck_congr {s t : State} {p : Nat} (op : BufOp) (req : Nat) (hod : t.od = s.od) (hbuf : t.buf p = s.buf p) :
    t.bufCheck op req p = s.bufCheck op req p := by
  unfold State.bufCheck State.nat State.get
  rw [hod, hbuf]

/-! ### The operations of Table 9-3 -/

section
variable {s : State} {req p : Nat}

theorem State.bufOp_rejected {op : BufOp} (h : s.bufCheck op req p ≠ 0) :
    (s.bufOp op req p).2 = s.bufReject op req p (s.bufCheck op req p) := by
  simp [State.bufOp, h]

theorem State.bufOp_handover {id : Nat} (h : s.bufCheck (.handover id) req p = 0) :
    (s.bufOp (.handover id) req p).2 = s.setBuf p (1, id, (s.buf p).2.2) := by
  simp [State.bufOp, h]

theorem State.bufOp_share {k id : Nat} (h : s.bufCheck (.share k id) req p = 0) :
    (s.bufOp (.share k id) req p).2 = s.setBuf p (k, id, id) := by
  simp [State.bufOp, h]

theorem State.bufOp_free (h : s.bufCheck .free req p = 0) :
    (s.bufOp .free req p).2 = (s.setBuf p (0, 0, 0)).lowWater ((ptrPool p).getD (0, 0)).1 := by
  simp [State.bufOp, h]

theorem State.bufOp_release (h : s.bufCheck .release req p = 0) (hc : (s.buf p).1 ≠ 2) :
    (s.bufOp .release req p).2 = s.setBuf p ((s.buf p).1 - 1, (s.buf p).2.1, (s.buf p).2.2) := by
  simp [State.bufOp, h, hc]

/-- The last release but one notifies the last owner. -/
theorem State.bufOp_release_last (h : s.bufCheck .release req p = 0) (hc : (s.buf p).1 = 2) (hr : (s.buf p).2.2 ≠ idRepl) :
    (s.bufOp .release req p).2 =
      ((s.setBuf p (1, (s.buf p).2.1, (s.buf p).2.2)).lastNotice (s.buf p).2.2 p).emit (.bufNotice (s.buf p).2.2 p) := by
  simp [State.bufOp, h, hc, hr]

end

/-- Host software and the control cores read the event log, and their last-holder notice is a record of it (R237). -/
def readsLog (id : Nat) : Prop := id = 0x001 ∨ (0x010 ≤ id ∧ id ≤ 0x018)

theorem State.lastNotice_told (s : State) {id p : Nat} (h : readsLog id) :
    s.lastNotice id p = s.event (Config.holderEvent id p).1 idTm (Config.holderEvent id p).2 := if_pos h

theorem State.lastNotice_silent (s : State) {id p : Nat} (h : ¬ readsLog id) : s.lastNotice id p = s := if_neg h

theorem State.lastNotice_logged (s : State) (id p : Nat) : s.logged (s.lastNotice id p) := by
  by_cases h : readsLog id
  · rw [s.lastNotice_told h]
    exact State.logged_event _ _ _ _
  · rw [s.lastNotice_silent h]
    exact State.logged_refl s

theorem State.lastNotice_buf (s : State) (id p y : Nat) : (s.lastNotice id p).buf y = s.buf y :=
  State.buf_congr (s.lastNotice_logged id p).tm y

/-- The counters of rejections are not objects of the event log. -/
theorem reject_not_event (j : Nat) : Own.REJECT.addr 0 j 0 ∉ eventAddrs := by
  intro h
  have hi : ∀ a ∈ eventAddrs, a.index ≠ 0x7820 := by decide
  exact hi _ h (by simp [Obj.addr, Own.REJECT, Obj.row])

theorem State.bufOp_release_buf {s : State} {q p : Nat} (h : s.bufCheck .release q p = 0) (hr : (s.buf p).2.2 ≠ idRepl) :
    (s.bufOp .release q p).2.buf p = ((s.buf p).1 - 1, (s.buf p).2.1, (s.buf p).2.2) ∧
      ∀ y, y ≠ p → (s.bufOp .release q p).2.buf y = s.buf y := by
  obtain ⟨-, hge, -⟩ := (s.bufCheck_eq_zero_iff _ q p).mp h
  by_cases hc : (s.buf p).1 = 2
  · rw [State.bufOp_release_last h hc hr, hc]
    exact ⟨(State.lastNotice_buf _ _ _ _).trans (State.setBuf_buf_self _ _ _ Nat.one_ne_zero),
      fun y hy => (State.lastNotice_buf _ _ _ _).trans (State.setBuf_buf_other _ _ _ _ hy)⟩
  · have hpos : (s.buf p).1 - 1 ≠ 0 := by omega
    rw [State.bufOp_release h hc]
    exact ⟨State.setBuf_buf_self _ _ _ hpos, fun y hy => State.setBuf_buf_other _ _ _ _ hy⟩

/-- A second release of the clock is accepted as the first was, while COUNT leaves a holder to it. -/
theorem State.bufOp_release_twice {s : State} {a b p : Nat} (ha : s.bufCheck .release a p = 0) (hb : s.bufCheck .release b p = 0)
    (hc : 3 ≤ (s.buf p).1) (hr : (s.buf p).2.2 ≠ idRepl) :
    ((s.bufOp .release a p).2.bufOp .release b p).2.buf p = ((s.buf p).1 - 2, (s.buf p).2.1, (s.buf p).2.2) ∧
      ∀ y, y ≠ p → ((s.bufOp .release a p).2.bufOp .release b p).2.buf y = s.buf y := by
  obtain ⟨hself, hother⟩ := State.bufOp_release_buf ha hr
  have hod : (s.bufOp .release a p).2.od = s.od := by rw [State.bufOp_release ha (by omega)]; rfl
  have hb' : (s.bufOp .release a p).2.bufCheck .release b p = 0 := by
    obtain ⟨hplaced, -, hne⟩ := (s.bufCheck_eq_zero_iff _ b p).mp hb
    refine (State.bufCheck_eq_zero_iff _ _ b p).mpr ⟨(State.bufPlaced_congr hod p).mpr hplaced, ?_⟩
    rw [hself]
    exact ⟨by simp only; omega, hne⟩
  obtain ⟨hself', hother'⟩ := State.bufOp_release_buf hb' (by rw [hself]; exact hr)
  refine ⟨?_, fun y hy => (hother' y hy).trans (hother y hy)⟩
  rw [hself', hself]
  rfl

/-! ### Allocation (R234) -/

theorem State.take_buf (s : State) (req k : Nat) : (s.take req k).2.buf (s.take req k).1 = (1, req, 0) :=
  (State.lowWater_buf _ _ _).trans (State.setBuf_buf_self _ _ _ Nat.one_ne_zero)

theorem State.take_out (s : State) (req k : Nat) : (s.take req k).2.out = s.out := State.lowWater_out _ _

theorem State.take_arb (s : State) (req k : Nat) : (s.take req k).2.arb = s.arb := (State.lowWater_logged _ _).arb

theorem State.take_pending (s : State) (req k : Nat) : (s.take req k).2.pending = s.pending := (State.lowWater_logged _ _).pending

theorem State.take_sameBut (s : State) (req k : Nat) :
    s.sameBut (s.take req k).2 [Pool.FREE.addr k 0 0, Pool.LOW_WATER.addr k 0 0] := State.lowWater_sameBut _ k

section
variable {s : State} {k : Nat} (req : Nat)

theorem State.alloc_given (h : 0 < s.poolFree k) :
    s.alloc req k = (some ((s.granted (arbPool k) req).take req k).1, ((s.granted (arbPool k) req).take req k).2) :=
  if_pos (c := 0 < (s.granted (arbPool k) req).poolFree k) h

/-- A pool without a free buffer whose next larger pool takes no spill-up counts the failure. -/
theorem State.spillUp_refused (next : Nat → State → Option Nat × State)
    (h : ∀ k', nextPool k = some k' → s.flag Pool.SPILL_UP k' = false) :
    s.spillUp k next = (none, s.bump Pool.ALLOC_FAIL k) := by
  unfold State.spillUp
  cases hn : nextPool k with
  | none => rfl
  | some k' => simp [h k' hn]

theorem State.allocClock_given (h : 0 < s.poolFree k) :
    s.allocClock k [req] [] =
      ((s.granted (arbPool k) req).take req k).2.emit (.bufAlloc req k (some ((s.granted (arbPool k) req).take req k).1)) := by
  unfold State.allocClock
  rw [arbOrder_one]
  simp only [if_pos h, State.alloc_given req h, List.foldl_nil]
  rfl

theorem State.allocClock_refused (h : s.poolFree k = 0) (hspill : ∀ k', nextPool k = some k' → s.flag Pool.SPILL_UP k' = false) :
    s.allocClock k [req] [] = ((s.granted (arbPool k) req).bump Pool.ALLOC_FAIL k).emit (.bufAlloc req k none) := by
  unfold State.allocClock
  rw [arbOrder_one]
  have hs := State.spillUp_refused (s := s.granted (arbPool k) req) (k := k) (fun k' => State.allocIn req 7 k' true) hspill
  simp only [h, Nat.lt_irrefl, if_false, List.foldl_nil, State.freeAll, hs]

end

/-! ### The commands -/

theorem exec_bufAlloc (pool : Nat) (reqs : List Nat) (frees : List (Nat × Nat)) {s t : State} (hon : s.power.coreOn = true)
    (h : s.allocClock pool reqs frees = t) (hp : t.pending = s.pending) : exec (.bufAlloc pool reqs frees) s = .next t := by
  subst h
  exact (live_on (fun s => s.allocClock pool reqs frees) hon).trans (by rw [← hp])

/-- The command of an operation, with the other operations of its clock. -/
def BufOp.command (req p : Nat) (same : List (Nat × BufOp)) : BufOp → Instr
  | .handover id => .bufHandover req p id same
  | .share k id => .bufShare req p k id same
  | .release => .bufRelease req p same
  | .free => .bufFree req p same

theorem exec_bufCommand_eq (op : BufOp) (req p : Nat) (same : List (Nat × BufOp)) (s : State) :
    exec (op.command req p same) s = live s (fun s => s.bufClock p ((req, op) :: same)) := by
  cases op <;> rfl

theorem exec_bufCommand {op : BufOp} {req p : Nat} {s t : State} (hon : s.power.coreOn = true)
    (h : ((s.granted arbBuf req).bufOp op req p).2 = t) (hp : t.pending = s.pending) :
    exec (op.command req p []) s = .next t := by
  rw [exec_bufCommand_eq, live_on _ hon, State.bufClock_one, h, ← hp]

section
variable {s : State} (hon : s.power.coreOn = true)
include hon

theorem exec_bufHandover_accepted {req p id : Nat} (h : s.bufCheck (.handover id) req p = 0) :
    ∃ t, exec (.bufHandover req p id []) s = .next t ∧ t.buf p = (1, id, (s.buf p).2.2) ∧
      (∀ y, y ≠ p → t.buf y = s.buf y) ∧ t.od = s.od := by
  refine ⟨_, exec_bufCommand hon (State.bufOp_handover h) rfl, ?_⟩
  exact ⟨State.setBuf_buf_self _ _ _ Nat.one_ne_zero, fun y hy => State.setBuf_buf_other _ _ _ _ hy, rfl⟩

theorem exec_bufShare_accepted {req p k id : Nat} (h : s.bufCheck (.share k id) req p = 0) :
    ∃ t, exec (.bufShare req p k id []) s = .next t ∧ t.buf p = (k, id, id) ∧ 2 ≤ k ∧ k ≤ 4096 ∧
      (∀ y, y ≠ p → t.buf y = s.buf y) ∧ t.od = s.od := by
  obtain ⟨-, -, -, hk, hk'⟩ := (s.bufCheck_eq_zero_iff _ req p).mp h
  refine ⟨_, exec_bufCommand hon (State.bufOp_share h) rfl, ?_⟩
  exact ⟨State.setBuf_buf_self _ _ _ (by simp; omega), hk, hk', fun y hy => State.setBuf_buf_other _ _ _ _ hy, rfl⟩

theorem exec_bufFree_accepted {q p : Nat} (h : s.bufCheck .free q p = 0) :
    ∃ t, exec (.bufFree q p []) s = .next t ∧ t.buf p = (0, 0, 0) ∧ (∀ y, y ≠ p → t.buf y = s.buf y) ∧
      (∀ k, ptrPool p = some k → s.sameBut t [Pool.FREE.addr k.1 0 0, Pool.LOW_WATER.addr k.1 0 0]) := by
  refine ⟨_, exec_bufCommand hon (State.bufOp_free h) (State.lowWater_logged _ _).pending, ?_⟩
  refine ⟨(State.lowWater_buf _ _ _).trans (State.setBuf_buf_free _ _),
    fun y hy => (State.lowWater_buf _ _ _).trans (State.setBuf_buf_other _ _ _ _ hy), fun k hk => ?_⟩
  rw [hk]
  exact State.lowWater_sameBut _ k.1

/-- A release that leaves more than one holder changes COUNT alone. -/
theorem exec_bufRelease_more {q p : Nat} (h : s.bufCheck .release q p = 0) (hr : (s.buf p).2.2 ≠ idRepl) (hc : (s.buf p).1 ≠ 2) :
    ∃ t, exec (.bufRelease q p []) s = .next t ∧ t.buf p = ((s.buf p).1 - 1, (s.buf p).2.1, (s.buf p).2.2) ∧
      (∀ y, y ≠ p → t.buf y = s.buf y) ∧ t.out = s.out ∧ t.od = s.od := by
  obtain ⟨hself, hother⟩ := State.bufOp_release_buf (s := s.granted arbBuf q) h hr
  have he := State.bufOp_release (s := s.granted arbBuf q) h hc
  rw [he] at hself hother
  exact ⟨_, exec_bufCommand hon he rfl, hself, hother, rfl, rfl⟩

/-- The last release but one notifies the last owner; one that reads the event log is told there. -/
theorem exec_bufRelease_last {q p : Nat} (h : s.bufCheck .release q p = 0) (hr : (s.buf p).2.2 ≠ idRepl) (hc : (s.buf p).1 = 2) :
    ∃ t, exec (.bufRelease q p []) s = .next t ∧ t.buf p = ((s.buf p).1 - 1, (s.buf p).2.1, (s.buf p).2.2) ∧
      (∀ y, y ≠ p → t.buf y = s.buf y) ∧ t.out.head? = some (.bufNotice (s.buf p).2.2 p) ∧
      (readsLog (s.buf p).2.2 →
        s.raised t (Config.holderEvent (s.buf p).2.2 p).1 idTm (Config.holderEvent (s.buf p).2.2 p).2) ∧
      (¬ readsLog (s.buf p).2.2 → t.out = .bufNotice (s.buf p).2.2 p :: s.out ∧ t.od = s.od) := by
  obtain ⟨hself, hother⟩ := State.bufOp_release_buf (s := s.granted arbBuf q) h hr
  have he := State.bufOp_release_last (s := s.granted arbBuf q) h hc hr
  rw [he] at hself hother
  rw [State.granted_buf] at he
  refine ⟨_, exec_bufCommand hon he (State.lastNotice_logged _ _ _).pending, hself, hother, rfl, fun hl => ?_, fun hl => ?_⟩
  · rw [State.lastNotice_told _ hl]
    exact State.raised_congr (State.raised_event s ((s.granted arbBuf q).setBuf p _) _ _ _ rfl rfl) (State.emit_log _ _)
  · rw [State.lastNotice_silent _ hl]
    exact ⟨rfl, rfl⟩

/-- A rejected operation leaves every buffer, counts its reason and raises BUF_REJECT (R238). -/
theorem exec_bufCommand_rejected {op : BufOp} {q p : Nat} (h : s.bufCheck op q p ≠ 0) :
    ∃ t, exec (op.command q p []) s = .next t ∧ t.tm = s.tm ∧ s.counted t Own.REJECT 1 0 (s.bufCheck op q p - 1) ∧
      s.sameBut t (Own.REJECT.addr 0 (s.bufCheck op q p - 1) 0 :: eventAddrs) ∧
      s.raised t 0x7801 idTm [a16 q, a8 op.code, a64 p, a8 (s.bufCheck op q p), aTime s.now] := by
  refine ⟨_, exec_bufCommand hon (State.bufOp_rejected h) (State.event_pending _ _ _ _), State.event_tm _ _ _ _, ?_,
    fun a ha => ?_, ?_⟩
  · exact (State.event_get _ _ _ _ _ _ _ (reject_not_event _)).trans (State.bump_get_self _ _ _ _)
  · obtain ⟨hreject, hevent⟩ := not_or.mp (fun h => ha (List.mem_cons.mpr h))
    exact (State.event_find _ _ _ _ _ hevent).trans (State.bump_find _ _ _ _ _ hreject)
  · refine State.raised_event s _ _ _ _ (congrArg Int.toNat (State.put_get_other _ _ _ _ _ _ _ _ fun e => ?_)) rfl
    exact reject_not_event _ (List.mem_cons.mpr (.inl e.symm))

/-- Releases of two requesters in one clock take 2 of COUNT and meet in one state, whichever is named first (R239). -/
theorem exec_bufRelease_two {a b p : Nat} (hab : a ≠ b) (ha : s.bufCheck .release a p = 0) (hb : s.bufCheck .release b p = 0)
    (hc : 3 ≤ (s.buf p).1) (hr : (s.buf p).2.2 ≠ idRepl) :
    ∃ t, exec (.bufRelease a p [(b, .release)]) s = .next t ∧ t.buf p = ((s.buf p).1 - 2, (s.buf p).2.1, (s.buf p).2.2) ∧
      exec (.bufRelease b p [(a, .release)]) s = .next t ∧ (∀ y, y ≠ p → t.buf y = s.buf y) := by
  have hclock : (s.bufClock p [(a, .release), (b, .release)]).buf p = ((s.buf p).1 - 2, (s.buf p).2.1, (s.buf p).2.2) ∧
      ∀ y, y ≠ p → (s.bufClock p [(a, .release), (b, .release)]).buf y = s.buf y := by
    obtain ⟨l, hl, he⟩ := s.bufClock_serves p [(a, .release), (b, .release)]
    have hbuf := fun y => s.servedClock_buf arbBuf [a, b] y
    have hcheck := fun q => State.bufCheck_congr .release q (s.servedClock_od arbBuf [a, b]) (hbuf p)
    rw [← hcheck] at ha hb
    rw [← hbuf p] at hc hr
    simp only [he, ← hbuf]
    rcases eq_or_swap_of_perm_pair hl with rfl | rfl
    · exact State.bufOp_release_twice ha hb hc hr
    · exact State.bufOp_release_twice hb ha hc hr
  refine ⟨_, (exec_bufCommand_eq .release a p _ s).trans (live_on _ hon), hclock.1, ?_, hclock.2⟩
  refine (exec_bufCommand_eq .release b p _ s).trans ((live_on _ hon).trans ?_)
  rw [State.bufClock_swap s p b a _ _ hab.symm]

/-- A pool with a free buffer gives one to its requester (R234). -/
theorem exec_bufAlloc_given {pool q : Nat} (hfree : 0 < s.poolFree pool) :
    ∃ t, exec (.bufAlloc pool [q] []) s = .next t ∧ (s.alloc q pool).1 ≠ none ∧
      (∀ p ∈ (s.alloc q pool).1, t.buf p = (1, q, 0)) ∧
      t.out = .bufAlloc q pool (s.alloc q pool).1 :: s.out ∧ t.arb.getD (200 + pool) 0 = q + 1 ∧
      s.sameBut t [Pool.FREE.addr pool 0 0, Pool.LOW_WATER.addr pool 0 0] := by
  rw [State.alloc_given q hfree]
  refine ⟨_, exec_bufAlloc _ _ _ hon (State.allocClock_given q hfree) (State.take_pending _ _ _), Option.some_ne_none _, ?_, ?_, ?_, ?_⟩
  · rintro p ⟨⟩
    exact State.take_buf _ _ _
  · exact congrArg _ (State.take_out _ _ _)
  · refine (congrArg (fun a : Tab Nat => a.getD (200 + pool) 0) (State.take_arb _ q pool)).trans ?_
    exact Tab.getD_ins_self _ _ _ _
  · exact State.take_sameBut _ q pool

/-- An empty pool that does not spill upward counts a failure and gives nothing (R234). -/
theorem exec_bufAlloc_refused {pool q : Nat} (hfree : s.poolFree pool = 0)
    (hspill : ∀ k, nextPool pool = some k → s.flag Pool.SPILL_UP k = false) :
    ∃ t, exec (.bufAlloc pool [q] []) s = .next t ∧ t.tm = s.tm ∧ t.out = .bufAlloc q pool none :: s.out ∧
      s.counted t Pool.ALLOC_FAIL 1 pool ∧ s.sameBut t [Pool.ALLOC_FAIL.addr pool 0 0] :=
  ⟨_, exec_bufAlloc _ _ _ hon (State.allocClock_refused q hfree hspill) rfl, rfl, rfl, State.bump_get_self _ _ _ _,
    fun a ha => State.bump_find _ _ _ _ _ (by simpa using ha)⟩

end

/-- Settles O32: each command serves its operation on the state with the arbiter's pointer moved, and Table 9-4 decides between the
effect of Table 9-3 and the rejection of R238. -/
theorem bufferOwnership : Obligations.BufferOwnership := by
  refine ⟨fun s pool q hon hfree => exec_bufAlloc_given hon hfree,
    fun s pool q hon hfree hspill => exec_bufAlloc_refused hon hfree hspill,
    fun s req p id hon h => exec_bufHandover_accepted hon h, fun s req p k id hon h => exec_bufShare_accepted hon h,
    fun s q p hon h hr => ?_, fun s a b p hon hab ha hb hc hr => exec_bufRelease_two hon hab ha hb hc hr,
    fun s q p hon h => exec_bufFree_accepted hon h, fun s op q p c hon h hc => ?_⟩
  · by_cases hc : (s.buf p).1 = 2
    · obtain ⟨t, hexec, hself, hother, hout, htold, hsilent⟩ := exec_bufRelease_last hon h hr hc
      exact ⟨t, hexec, hself, hother, fun hne => absurd hc hne, fun _ => hout, fun _ => htold,
        fun _ hhost hcore => hsilent (by unfold readsLog; omega)⟩
    · obtain ⟨t, hexec, hself, hother, hframe⟩ := exec_bufRelease_more hon h hr hc
      exact ⟨t, hexec, hself, hother, fun _ => hframe, fun he => absurd he hc, fun he => absurd he hc, fun he => absurd he hc⟩
  · have hcommand : c = op.command q p [] := by rw [hc]; cases op <;> rfl
    rw [hcommand]
    exact exec_bufCommand_rejected hon h

end Sys2Proof.Machine
end

section
/-! SUPPORT. The forwarding tables: what the table operations write, learning at a home station, and the commands of chapter 8. -/

namespace Sys2Proof.Machine

/-- A command of the core in a state with core power answers what its effect makes of the state. -/
theorem live_next {s t : State} {f : State → State} (hon : s.power.coreOn = true) (h : f s = t) (hp : t.pending = s.pending) :
    live s f = .next t := by
  subst h
  exact (live_on f hon).trans (by rw [← hp])

/-- How a counter moved is read from the object stores alone. -/
theorem State.counted_congr {s s' t t' : State} {o : Obj} {n : Nat} (h : s.counted t o n) (hs : s'.od = s.od) (ht : t'.od = t.od) :
    s'.counted t' o n := by
  unfold State.counted State.get at *
  rw [hs, ht, h]

/-- So is what stayed the same. -/
theorem State.sameBut_congr {s s' t t' : State} {l : List Addr} (h : s.sameBut t l) (hs : s'.od = s.od) (ht : t'.od = t.od) :
    s'.sameBut t' l := by
  unfold State.sameBut at *
  rwa [hs, ht]

theorem State.result_get (s : State) (o o' : Obj) (r code : Nat) : (s.result o r code).get o' = s.get o' := rfl

theorem State.result_nat (s : State) (o o' : Obj) (r code : Nat) : (s.result o r code).nat o' = s.nat o' := rfl

theorem State.result_flag (s : State) (o o' : Obj) (r code : Nat) : (s.result o r code).flag o' = s.flag o' := rfl

/-! ### What a change of a table writes -/

/-- The object that counts the entries of a table (Table 8-7). -/
def entryCount (far : Bool) : Obj := if far then Fwd.ENTRIES_FAR else Fwd.ENTRIES_ONCHIP

section
variable (s : State) (t : Tab FwdEnt) (far : Bool)

theorem State.setWays_chip : s.setWays false t = { s with fwd := { s.fwd with ways := t } }.put Fwd.ENTRIES_ONCHIP t.length := rfl

/-- A change of a table writes the count of its entries alone. -/
theorem State.setWays_find {a : Addr} (h : a ≠ (entryCount far).addr 0 0 0) : (s.setWays far t).od.find? a = s.od.find? a := by
  cases far <;> exact State.put_find _ _ _ _ _ _ h

theorem State.setWays_sameBut : s.sameBut (s.setWays far t) [(entryCount far).addr 0 0 0] :=
  fun _ h => State.setWays_find s t far (by simpa using h)

theorem State.setWays_get {o : Obj} {i j : Nat} (h : o.addr i j 0 ≠ (entryCount far).addr 0 0 0) :
    (s.setWays far t).get o i j = s.get o i j :=
  State.get_congr (State.setWays_find s t far h)

/-- A counter that goes up after a change of a table goes up from where it stood before. -/
theorem State.setWays_counted {o : Obj} (n : Nat) (h : o.addr 0 0 0 ≠ (entryCount far).addr 0 0 0) :
    s.counted ((s.setWays far t).bumpBy o n) o n := by
  unfold State.counted
  rw [State.bumpBy_get_self, State.setWays_get s t far h]

theorem State.putWay_counted {o : Obj} (i : Nat) (e : FwdEnt) (h : o.addr 0 0 0 ≠ (entryCount far).addr 0 0 0) :
    s.counted ((s.putWay far i e).bump o) o 1 := State.setWays_counted s _ far 1 h

end

/-! ### Insertion where the first bucket has a free way -/

section
variable {s : State} {e : FwdEnt} {i : Nat}

/-- A free way of the first bucket takes the entry (R218). -/
theorem State.insertIn_free (h : s.freeWay false (s.candidates false e.form e.key).1 = some i) :
    s.insertIn false e = some (s.putWay false i e) := by
  simp [State.insertIn, h]

theorem State.insert_free (h : s.freeWay false (s.candidates false e.form e.key).1 = some i) :
    s.insert e = (true, s.putWay false i e) := by
  simp [State.insert, State.insertIn_free h]

end

/-! ### The ring of learning stations -/

section
variable {s : State} {n : Nat} {m : Learn}

/-- A station whose queue has been emptied. -/
def State.emptyStation (s : State) (n : Nat) : State := { s with pipes := s.pipes.ins n { s.pipe n with learn := [] } }

theorem State.emptyStation_learn (s : State) (n : Nat) : ((s.emptyStation n).pipe n).learn = [] :=
  congrArg Pipeline.learn (Tab.getD_ins_self _ _ _ _)

theorem State.emptyStation_other (s : State) {n k : Nat} (h : k ≠ n) : (s.emptyStation n).pipe k = s.pipe k :=
  Tab.getD_ins_other _ _ _ _ _ h

/-- The message as a station takes it in: stamped with its arrival and its hash (R222). -/
def State.stamped (s : State) (m : Learn) : Learn := { m with at' := s.now, hash := homeHash 1 m.key }

/-- A queue with room takes the message at its end. -/
theorem State.sendLearn_room (h : (s.pipe n).learn.length < 256) :
    s.sendLearn n m = { s with pipes := s.pipes.ins n { s.pipe n with learn := (s.pipe n).learn ++ [s.stamped m] } } :=
  if_neg (Nat.not_le.mpr h)

theorem State.sendLearn_learn (h : (s.pipe n).learn.length < 256) :
    ((s.sendLearn n m).pipe n).learn = (s.pipe n).learn ++ [s.stamped m] := by
  rw [State.sendLearn_room h]
  exact congrArg Pipeline.learn (Tab.getD_ins_self _ _ _ _)

theorem State.sendLearn_pipes (h : (s.pipe n).learn.length < 256) : s.sendLearn n m = { s with pipes := (s.sendLearn n m).pipes } := by
  rw [State.sendLearn_room h]

/-- A message at its home station makes no hop. -/
theorem State.ringHop_home (hq : (s.pipe n).learn = [m]) (hh : s.homeOf 1 m.key = n) : s.ringHop n = s := by
  rw [State.pipe] at hq
  simp [State.ringHop, hq, hh]

/-- A message for another home leaves its station (R222). -/
theorem State.ringHop_away (hq : (s.pipe n).learn = [m]) (hh : s.homeOf 1 m.key ≠ n) :
    s.ringHop n = (s.emptyStation n).sendLearn (s.nextStation n) { m with ring := true } := by
  rw [State.pipe] at hq
  simp [State.ringHop, State.emptyStation, State.pipe, hq, hh]

theorem State.homeTurn_empty (host : Bool) (hq : (s.pipe n).learn = []) : s.homeTurn n host = (false, s) := by
  rw [State.pipe] at hq
  simp [State.homeTurn, State.homeNext, hq]

/-- A home station with one message handles it, whichever way it came. -/
theorem State.homeNext_one (hq : (s.pipe n).learn = [m]) (hh : s.homeOf 1 m.key = n) : s.homeNext n false = some m := by
  rw [State.pipe] at hq
  cases hr : m.ring <;> simp [State.homeNext, hq, hh, hr, arbPick_one]

theorem State.homeTurn_one (hq : (s.pipe n).learn = [m]) (hh : s.homeOf 1 m.key = n) :
    s.homeTurn n false = (true, ((s.emptyStation n).granted (120 + n) m.src).learn m) := by
  have hnext := State.homeNext_one hq hh
  rw [State.pipe] at hq
  simp [State.homeTurn, hnext, State.emptyStation, State.pipe, hq]

/-- A host write finds an empty home station and is granted at once (R228). -/
theorem State.hostTurn_empty {form key : Nat} (hq : (s.pipe (s.homeOf form key)).learn = []) :
    s.hostTurn form key = s.granted (120 + s.homeOf form key) idHost := by
  simp [State.hostTurn, State.hostTurns, State.homeTurn_empty true hq]

end

/-! ### Learning -/

section
variable {s : State} {m : Learn}

theorem State.quarEnd_absent {key : Nat} (h : s.findEntry 1 key = none) : s.quarEnd key = s := by
  simp [State.quarEnd, h]

theorem State.quarEnd_kept {key i : Nat} {far : Bool} {e : FwdEnt} (h : s.findEntry 1 key = some (far, i, e)) (hq : e.quar = false) :
    s.quarEnd key = s := by
  simp [State.quarEnd, h, hq]

/-! The LEARN frame to the twin peer changes outputs and the twin unit's sequence number alone (R227). -/

@[simp] theorem State.learnTwin_od (s : State) (e : FwdEnt) (m : Learn) : (s.learnTwin e m).od = s.od := by
  unfold State.learnTwin
  split <;> rfl

@[simp] theorem State.learnTwin_fwd (s : State) (e : FwdEnt) (m : Learn) : (s.learnTwin e m).fwd = s.fwd := by
  unfold State.learnTwin
  split <;> rfl

@[simp] theorem State.learnTwin_pipe (s : State) (e : FwdEnt) (m : Learn) (n : Nat) : (s.learnTwin e m).pipe n = s.pipe n := by
  unfold State.learnTwin
  split <;> rfl

@[simp] theorem State.learnTwin_pending (s : State) (e : FwdEnt) (m : Learn) : (s.learnTwin e m).pending = s.pending := by
  unfold State.learnTwin
  split <;> rfl

/-- The entry that a message of an unknown key commits (R223). -/
def Learn.entry (m : Learn) : FwdEnt := { form := 1, key := m.key, locType := m.locType, dest := m.loc, fromPeer := m.fromPeer }

/-- An unknown key is committed in a free way of its first bucket (R223). -/
theorem State.learn_new {i : Nat} (h : s.findEntry 1 m.key = none) (hw : s.freeWay false (s.candidates false 1 m.key).1 = some i) :
    s.learn m = ((s.putWay false i m.entry).bump Fwd.LEARN_COMMITS).learnTwin m.entry m := by
  have hi : s.insert m.entry = (true, s.putWay false i m.entry) := State.insert_free hw
  unfold Learn.entry at hi
  simp [State.learn, State.quarEnd_absent h, h, hi, Learn.entry]

/-- A message of the location that the entry has refreshes it (R223). -/
theorem State.learn_same {i : Nat} {far : Bool} {e : FwdEnt} (h : s.findEntry 1 m.key = some (far, i, e)) (hs : e.static = false)
    (hq : e.quar = false) (ht : e.locType = m.locType) (hd : e.dest = m.loc) :
    s.learn m = s.putEntry far i { e with aged := false, hit := true, cand := none } := by
  simp [State.learn, State.quarEnd_kept h hq, h, hs, hq, ht, hd]

end

/-! ### Aging -/

/-- Marking the buckets of deep entries changes the FAR flags alone. -/
theorem State.foldl_markFar (l : Tab FwdEnt) (s : State) :
    ∃ flags, l.foldl (fun s e => s.markFar e.2.form e.2.key) s = { s with fwd := { s.fwd with farFlags := flags } } := by
  induction l generalizing s with
  | nil => exact ⟨s.fwd.farFlags, rfl⟩
  | cons e l ih =>
    obtain ⟨flags, h⟩ := ih (s.markFar e.2.form e.2.key)
    exact ⟨flags, h⟩

theorem State.recomputeFar_eq (s : State) : ∃ flags, s.recomputeFar = { s with fwd := { s.fwd with farFlags := flags } } := by
  obtain ⟨flags, h⟩ := State.foldl_markFar s.fwd.far { s with fwd := { s.fwd with farFlags := [] } }
  exact ⟨flags, h⟩

/-- An aging pass has started: it is next due one period later (R226). -/
def State.passStarted (s : State) : State :=
  { s with fwd := { s.fwd with passing := true, passAt := s.now, passDue := s.fwd.passDue + s.nat Fwd.AGE_PERIOD_S * secNs } }

/-- An aging pass has ended and left these FAR flags; one that outlasted its period counts (R226). -/
def State.passEnded (s : State) (flags : List Nat) : State :=
  let t := s.put Fwd.LAST_PASS_MS ((s.now - s.fwd.passAt) / msNs : Nat)
  { s with
    od := (if s.fwd.passDue ≤ s.now then t.bump Fwd.AGE_LATE else t).od
    fwd := { s.fwd with farFlags := flags, passing := false } }

section
variable (s : State) (flags : List Nat)

theorem State.passEnded_lastPass :
    (s.passEnded flags).get Fwd.LAST_PASS_MS = Fwd.LAST_PASS_MS.ty.norm ((s.now - s.fwd.passAt) / msNs : Nat) := by
  unfold State.passEnded
  by_cases h : s.fwd.passDue ≤ s.now
  · simp only [if_pos h]
    exact (State.put_get_other (s.put Fwd.LAST_PASS_MS _) _ _ _ 0 0 0 0 (by decide)).trans (State.put_get_self s _ _ 0 0)
  · simp only [if_neg h]
    exact State.put_get_self s _ _ 0 0

theorem State.passEnded_late (h : s.fwd.passDue ≤ s.now) : s.counted (s.passEnded flags) Fwd.AGE_LATE 1 := by
  unfold State.passEnded
  simp only [if_pos h]
  refine (State.bump_get_self (s.put Fwd.LAST_PASS_MS _) Fwd.AGE_LATE 0 0).trans ?_
  rw [State.put_get_other _ _ _ _ _ _ _ _ (by decide)]

theorem State.passEnded_sameBut : s.sameBut (s.passEnded flags) [Fwd.LAST_PASS_MS.addr 0 0 0, Fwd.AGE_LATE.addr 0 0 0] := by
  intro a ha
  simp only [List.mem_cons, List.not_mem_nil, or_false, not_or] at ha
  obtain ⟨hlast, hlate⟩ := ha
  unfold State.passEnded
  by_cases h : s.fwd.passDue ≤ s.now
  · simp only [if_pos h]
    rw [State.bump_find _ _ _ _ _ hlate, State.put_find _ _ _ _ _ _ hlast]
  · simp only [if_neg h]
    exact State.put_find _ _ _ _ _ _ hlast

end

/-! ### The operations of the host -/

/-- The host's write is granted at the home of its key (R228). -/
def State.hostGranted (s : State) : State := s.granted (120 + s.homeOf (s.nat FwdOp.OP_FORM) (s.nat FwdOp.OP_KEY)) idHost

/-- The entry that an ADD of the host describes (Table 8-9). -/
def State.hostEntry (s : State) : FwdEnt :=
  { form := s.nat FwdOp.OP_FORM, key := s.nat FwdOp.OP_KEY, locType := s.nat FwdOp.OP_LOC_TYPE, dest := s.nat FwdOp.OP_DEST,
    static := s.flag FwdOp.OP_STATIC }

/-- The objects of FIND describe an entry (R231). -/
def State.tellEntry (s : State) (far : Bool) (e : FwdEnt) : State :=
  ((((s.put FwdOp.OP_FOUND (if far then 2 else 1)).put FwdOp.OP_FLAGS e.flags).put FwdOp.OP_LOC_TYPE e.locType).put
    FwdOp.OP_DEST e.dest).put FwdOp.OP_STATIC (if e.static then 1 else 0)

section
variable (s : State) (far : Bool) (e : FwdEnt)

theorem State.tellEntry_static : (s.tellEntry far e).flag FwdOp.OP_STATIC = e.static := by
  unfold State.tellEntry State.flag
  rw [State.put_get_self]
  cases e.static <;> decide

theorem State.tellEntry_dest : (s.tellEntry far e).get FwdOp.OP_DEST = FwdOp.OP_DEST.ty.norm e.dest := by
  unfold State.tellEntry
  rw [State.put_get_other _ _ _ _ _ _ _ _ (by decide), State.put_get_self]

theorem State.tellEntry_locType : (s.tellEntry far e).get FwdOp.OP_LOC_TYPE = FwdOp.OP_LOC_TYPE.ty.norm e.locType := by
  unfold State.tellEntry
  iterate 2 rw [State.put_get_other _ _ _ _ _ _ _ _ (by decide)]
  rw [State.put_get_self]

theorem State.tellEntry_flags : (s.tellEntry far e).get FwdOp.OP_FLAGS = FwdOp.OP_FLAGS.ty.norm e.flags := by
  unfold State.tellEntry
  iterate 3 rw [State.put_get_other _ _ _ _ _ _ _ _ (by decide)]
  rw [State.put_get_self]

theorem State.tellEntry_found : (s.tellEntry far e).nat FwdOp.OP_FOUND = if far then 2 else 1 := by
  unfold State.tellEntry State.nat
  iterate 4 rw [State.put_get_other _ _ _ _ _ _ _ _ (by decide)]
  rw [State.put_get_self]
  cases far <;> decide

end

/-- The entries that a FLUSH of a location keeps (R231). -/
def keptByFlush (lt d : Nat) (t : Tab FwdEnt) : Tab FwdEnt := t.filter (fun e => e.2.static || e.2.locType != lt || e.2.dest != d)

/-- A FLUSH of a location has ended (R231). -/
def State.flushed (s : State) (lt d : Nat) : State :=
  let t := (s.setWays false (keptByFlush lt d s.fwd.ways)).setWays true (keptByFlush lt d s.fwd.far)
  { t with fwd := { t.fwd with flush := none } }

section
variable (s : State) (lt d : Nat)

theorem State.flushed_od :
    (s.flushed lt d).od = ((s.setWays false (keptByFlush lt d s.fwd.ways)).setWays true (keptByFlush lt d s.fwd.far)).od := rfl

theorem State.flushed_onchip :
    (s.flushed lt d).get Fwd.ENTRIES_ONCHIP = Fwd.ENTRIES_ONCHIP.ty.norm (s.flushed lt d).fwd.ways.length := by
  rw [State.get_congr (congrArg (fun m => Store.find? m _) (s.flushed_od lt d)), State.setWays_get _ _ _ (by decide), State.setWays_chip,
    State.put_get_self]
  rfl

theorem State.flushed_sameBut : s.sameBut (s.flushed lt d) [Fwd.ENTRIES_ONCHIP.addr 0 0 0, Fwd.ENTRIES_FAR.addr 0 0 0] := by
  refine State.sameBut_congr (fun a ha => ?_) rfl (s.flushed_od lt d)
  simp only [List.mem_cons, List.not_mem_nil, or_false, not_or] at ha
  obtain ⟨hchip, hdeep⟩ := ha
  exact (State.setWays_find _ _ true hdeep).trans (State.setWays_find _ _ false hchip)

end

/-! ### Associative entries -/

/-- Another valid record holds the FORM and KEY of this one (R211). -/
def State.assocTwin (s : State) (r : Nat) : Bool :=
  (s.od.filterMap (fun e => if e.1.index = 0xA600 ∧ e.1.sub = 6 ∧ e.2 = 1 then some e.1.recNo else none)).any
    (fun q => q != r && s.rget Assoc.FORM q == s.rget Assoc.FORM r && s.rget Assoc.KEY q == s.rget Assoc.KEY r)

/-- An associative record is valid, with HIT at 0 (R211). -/
def State.assocCommitted (s : State) (r : Nat) : State :=
  (({ s with fwd := { s.fwd with assoc := s.fwd.assoc.ins r (s.fwd.assoc.getD r 0 % 2) } } : State).rput Assoc.VALID r 1).noteCommit
    0xA600 r

theorem State.rput_sameBut (s : State) (o : Obj) (r : Nat) (v : Int) : s.sameBut (s.rput o r v) [o.addr 0 0 r] :=
  fun a ha => State.rput_find s o r v 0 a (by simpa using ha)

theorem State.rput_valid_rflag (s : State) (r : Nat) (b : Bool) : (s.rput Assoc.VALID r (if b then 1 else 0)).rflag Assoc.VALID r = b := by
  unfold State.rflag
  rw [State.rput_rget_self]
  cases b <;> decide

theorem State.assocCommitted_valid (s : State) (r : Nat) : (s.assocCommitted r).rflag Assoc.VALID r = true :=
  State.rput_valid_rflag { s with fwd := { s.fwd with assoc := s.fwd.assoc.ins r (s.fwd.assoc.getD r 0 % 2) } } r true

theorem State.assocCommitted_sameBut (s : State) (r : Nat) : s.sameBut (s.assocCommitted r) [Assoc.VALID.addr 0 0 r] :=
  State.rput_sameBut { s with fwd := { s.fwd with assoc := s.fwd.assoc.ins r (s.fwd.assoc.getD r 0 % 2) } } _ r 1

/-! ### The commands -/

section
variable {s : State} (hon : s.power.coreOn = true)
include hon

/-- The deep read of a promotion ends where a way on chip is free: the entry moves (R217). -/
theorem exec_promotionComplete_free {k : Nat × Nat} {rest : List (Nat × Nat)} {i j : Nat} (hk : s.fwd.promos = k :: rest)
    (hfar : s.findWay true k.1 k.2 = some j) (hway : s.promoteWay k.1 k.2 = some i) (hfree : Tab.find? s.fwd.ways i = none) :
    exec .promotionComplete s = .next (((({ s with fwd := { s.fwd with promos := rest } } : State).putWay false i
      (s.fwd.far.getD j {})).delWay true j).bump Fwd.PROMOTIONS) := by
  have hfar' : ({ s with fwd := { s.fwd with promos := rest } } : State).findWay true k.1 k.2 = some j := hfar
  have hway' : ({ s with fwd := { s.fwd with promos := rest } } : State).promoteWay k.1 k.2 = some i := hway
  change execPromotionComplete s = _
  unfold execPromotionComplete
  refine live_next hon ?_ rfl
  simp only [hk, hfar', hway', hfree, Option.getD_some]

theorem exec_promotionComplete_moves {k : Nat × Nat} {rest : List (Nat × Nat)} {i j : Nat} (hk : s.fwd.promos = k :: rest)
    (hfar : s.findWay true k.1 k.2 = some j) (hway : s.promoteWay k.1 k.2 = some i) (hfree : Tab.find? s.fwd.ways i = none) :
    ∃ t, exec .promotionComplete s = .next t ∧ Tab.find? t.fwd.ways i = some (s.fwd.far.getD j {}) ∧ Tab.find? t.fwd.far j = none ∧
      t.fwd.promos = rest ∧ s.counted t Fwd.PROMOTIONS 1 ∧
      s.sameBut t [Fwd.PROMOTIONS.addr 0 0 0, Fwd.ENTRIES_ONCHIP.addr 0 0 0, Fwd.ENTRIES_FAR.addr 0 0 0] := by
  refine ⟨_, exec_promotionComplete_free hon hk hfar hway hfree, Tab.find?_ins_self _ _ _, Tab.find?_del_self _ _, rfl, ?_,
    fun a ha => ?_⟩
  · refine (State.bump_get_self _ _ _ _).trans (congrArg (fun v => Fwd.PROMOTIONS.ty.norm (Fwd.PROMOTIONS.plus v 1)) ?_)
    exact (State.setWays_get _ _ true (by decide)).trans (State.setWays_get _ _ false (by decide))
  · simp only [List.mem_cons, List.not_mem_nil, or_false, not_or] at ha
    obtain ⟨hcnt, hchip, hdeep⟩ := ha
    exact (State.bump_find _ _ _ _ _ hcnt).trans ((State.setWays_find _ _ true hdeep).trans (State.setWays_find _ _ false hchip))

/-- The home station handles its one message; the rest of the clock is idle. -/
theorem exec_learnMessage_home {n : Fin 8} {m : Learn} {t : State} (hq : (s.pipe n).learn = [m]) (hh : s.homeOf 1 m.key = n.val)
    (ht : ((s.emptyStation n).granted (120 + n) m.src).learn m = t) (hp : t.pending = s.pending) :
    exec (.learnMessage n) s = .next t := by
  change execLearnMessage n s = _
  unfold execLearnMessage
  refine live_next hon ?_ hp
  rw [State.ringHop_home hq hh, State.homeTurn_one hq hh, ht]

theorem exec_learnMessage_new {n : Fin 8} {m : Learn} {i : Nat} (hq : (s.pipe n).learn = [m]) (hh : s.homeOf 1 m.key = n.val)
    (hnone : s.findEntry 1 m.key = none) (hw : s.freeWay false (s.candidates false 1 m.key).1 = some i) :
    ∃ t, exec (.learnMessage n) s = .next t ∧ (t.pipe n).learn = [] ∧ s.counted t Fwd.LEARN_COMMITS 1 ∧
      Tab.find? t.fwd.ways i = some m.entry ∧ t.fwd.far = s.fwd.far := by
  have hlearn := State.learn_new (s := (s.emptyStation n).granted (120 + n) m.src) hnone hw
  refine ⟨_, exec_learnMessage_home hon hq hh hlearn (State.learnTwin_pending _ _ _), ?_,
    State.counted_congr (State.putWay_counted ((s.emptyStation n).granted (120 + n) m.src) false i m.entry (by decide)) rfl
      (State.learnTwin_od _ _ _), ?_, ?_⟩
  · rw [State.learnTwin_pipe]
    exact s.emptyStation_learn n
  · rw [State.learnTwin_fwd]
    exact Tab.find?_ins_self _ _ _
  · rw [State.learnTwin_fwd]
    rfl

theorem exec_learnMessage_same {n : Fin 8} {m : Learn} {i : Nat} {e : FwdEnt} (hq : (s.pipe n).learn = [m])
    (hh : s.homeOf 1 m.key = n.val) (hfind : s.findEntry 1 m.key = some (false, i, e)) (hstatic : e.static = false)
    (hquar : e.quar = false) (htype : e.locType = m.locType) (hdest : e.dest = m.loc) :
    ∃ t, exec (.learnMessage n) s = .next t ∧ (t.pipe n).learn = [] ∧
      Tab.find? t.fwd.ways i = some { e with aged := false, hit := true, cand := none } ∧
      s.sameBut t [Fwd.ENTRIES_ONCHIP.addr 0 0 0] :=
  ⟨_, exec_learnMessage_home hon hq hh
      (State.learn_same (s := (s.emptyStation n).granted (120 + n) m.src) hfind hstatic hquar htype hdest) rfl,
    s.emptyStation_learn n, Tab.find?_ins_self _ _ _, State.setWays_sameBut _ _ false⟩

/-- A message of another home goes one hop on, and its station is left empty (R222). -/
theorem exec_learnMessage_away {n : Fin 8} {m : Learn} (hq : (s.pipe n).learn = [m]) (hh : s.homeOf 1 m.key ≠ n.val)
    (hroom : (s.pipe (s.nextStation n)).learn.length < 256) (hne : s.nextStation n ≠ n.val) :
    ∃ t, exec (.learnMessage n) s = .next t ∧ (t.pipe n).learn = [] ∧
      (t.pipe (s.nextStation n)).learn = (s.pipe (s.nextStation n)).learn ++ [s.stamped { m with ring := true }] ∧
      t = { s with pipes := t.pipes } := by
  have hnext := s.emptyStation_other hne
  rw [← hnext] at hroom
  have hsend := State.sendLearn_room (m := { m with ring := true }) hroom
  have hhop := (State.ringHop_away hq hh).trans hsend
  have hleft : ((s.ringHop n).pipe n).learn = [] := by
    rw [hhop]
    exact (congrArg Pipeline.learn (Tab.getD_ins_other _ _ _ _ _ hne.symm)).trans (s.emptyStation_learn n)
  refine ⟨s.ringHop n, ?_, hleft, ?_, ?_⟩
  · change execLearnMessage n s = _
    unfold execLearnMessage
    refine live_next hon ?_ (congrArg State.pending hhop :)
    rw [State.homeTurn_empty false hleft]
  · rw [State.ringHop_away hq hh, State.sendLearn_learn hroom, hnext]
    rfl
  · rw [hhop]
    rfl

/-- A quarantine on chip ends: the entry is gone (R225). -/
theorem exec_quarantineExpiry_ended {form key i : Nat} {e : FwdEnt} (hfind : s.findEntry form key = some (false, i, e))
    (hquar : e.quar = true) (hend : e.quarUntil ≤ s.now) : exec (.quarantineExpiry form key) s = .next (s.delWay false i) := by
  change execQuarantineExpiry form key s = _
  unfold execQuarantineExpiry
  refine live_next hon ?_ rfl
  simp only [hfind, hquar, hend, and_self, if_true]

/-- The message of a LEARN frame (R227). -/
def peerLearn (loc key timeNs : Nat) : Learn :=
  { src := idPeer, locType := 0, loc := loc % 2 ^ 20, fromPeer := true, timeNs := timeNs % 2 ^ 32, key := key % 2 ^ 128 }

/-- An intact LEARN frame of the peer joins the queue of the key's home (R227). -/
theorem exec_learnFrameRx_good {f : CtrlIn} {loc key timeNs : Nat} (htwin : s.flag Twin.TWIN_ENABLE = true)
    (hgood : f.good 5 0 (beBytes 32 { peerLearn loc key timeNs with hash := homeHash 1 (key % 2 ^ 128) }.word) = true)
    (hroom : (s.pipe (s.homeOf 1 (key % 2 ^ 128))).learn.length < 256) :
    exec (.learnFrameRx f loc key timeNs) s = .next (s.sendLearn (s.homeOf 1 (key % 2 ^ 128)) (peerLearn loc key timeNs)) := by
  change execLearnFrameRx f loc key timeNs s = _
  unfold execLearnFrameRx ctrlRx
  refine live_next hon ?_ (congrArg State.pending (State.sendLearn_room hroom) :)
  rw [htwin]
  exact if_pos hgood

theorem exec_learnFrameRx_bad {f : CtrlIn} {loc key timeNs : Nat} (htwin : s.flag Twin.TWIN_ENABLE = true)
    (hbad : f.good 5 0 (beBytes 32 { peerLearn loc key timeNs with hash := homeHash 1 (key % 2 ^ 128) }.word) = false) :
    exec (.learnFrameRx f loc key timeNs) s = .next (s.bump TwinCnt.CTRL_BAD) := by
  change execLearnFrameRx f loc key timeNs s = _
  unfold execLearnFrameRx ctrlRx
  refine live_next hon ?_ rfl
  rw [htwin]
  exact if_neg (Bool.eq_false_iff.mp hbad)

/-- A pass that starts in Trim visits the entries on chip alone (R226, R402). -/
theorem exec_agingPassStart_trim (hdue : s.fwd.passDue ≤ s.now) (hidle : s.fwd.passing = false) (htrim : s.inTrim = true) :
    exec .agingPassStart s = .next (s.passStarted.sweep false) := by
  change execAgingPassStart s = _
  unfold execAgingPassStart
  refine live_next hon ?_ rfl
  have hstart : ¬ (s.now < s.fwd.passDue ∨ s.fwd.passing = true) := by simp [hidle, hdue]
  rw [if_neg hstart]
  exact if_pos htrim

/-- A pass ends with the FAR flags found anew (R212, R226). -/
theorem exec_agingPassEnd_ends (hpass : s.fwd.passing = true) :
    ∃ flags, exec .agingPassEnd s = .next (s.passEnded flags) := by
  obtain ⟨flags, hfar⟩ := s.recomputeFar_eq
  refine ⟨flags, ?_⟩
  change execAgingPassEnd s = _
  unfold execAgingPassEnd State.passEnded
  refine live_next hon ?_ rfl
  rw [if_pos hpass, hfar]
  by_cases hlate : s.fwd.passDue ≤ s.now
  · simp only [State.put_fwd, State.put_now, hlate, decide_true, if_true]
    rfl
  · simp only [State.put_fwd, State.put_now, hlate, decide_false, Bool.false_eq_true, if_false]
    rfl

/-- FIND tells the entry that it finds (R231). -/
theorem exec_fwdFind_found {far : Bool} {i : Nat} {e : FwdEnt}
    (hfind : s.findEntry (s.nat FwdOp.OP_FORM) (s.nat FwdOp.OP_KEY) = some (far, i, e)) :
    exec .fwdFind s = .next ((s.tellEntry far e).result FwdOp.OP_CODE 0 rcOk) := by
  change execFwdFind s = _
  unfold execFwdFind
  refine live_next hon ?_ rfl
  simp only [hfind]
  rfl

section
variable (hq : (s.pipe (s.homeOf (s.nat FwdOp.OP_FORM) (s.nat FwdOp.OP_KEY))).learn = [])
include hq

/-- ADD of an unknown key takes a free way of its first bucket (R231). -/
theorem exec_fwdAdd_new {i : Nat} (hnone : s.findEntry (s.nat FwdOp.OP_FORM) (s.nat FwdOp.OP_KEY) = none)
    (hw : s.freeWay false (s.candidates false (s.nat FwdOp.OP_FORM) (s.nat FwdOp.OP_KEY)).1 = some i) :
    exec .fwdAdd s = .next ((s.hostGranted.putWay false i s.hostEntry).result FwdOp.OP_CODE 0 rcOk) := by
  have hnone' : s.hostGranted.findEntry (s.hostGranted.nat FwdOp.OP_FORM) (s.hostGranted.nat FwdOp.OP_KEY) = none := hnone
  have hi := State.insert_free (s := s.hostGranted) (e := s.hostGranted.hostEntry) hw
  unfold State.hostEntry at hi
  change execFwdAdd s = _
  unfold execFwdAdd
  refine live_next hon ?_ rfl
  simp only [State.hostTurn_empty hq]
  rw [← State.hostGranted]
  simp only [hnone', hi, Option.isSome_none, Bool.false_eq_true, if_false]
  rfl

/-- ADD of a known key is refused (R231). -/
theorem exec_fwdAdd_known {x : Bool × Nat × FwdEnt} (hfind : s.findEntry (s.nat FwdOp.OP_FORM) (s.nat FwdOp.OP_KEY) = some x) :
    exec .fwdAdd s = .next (s.hostGranted.result FwdOp.OP_CODE 0 rcDuplicate) := by
  have hfind' : s.hostGranted.findEntry (s.hostGranted.nat FwdOp.OP_FORM) (s.hostGranted.nat FwdOp.OP_KEY) = some x := hfind
  change execFwdAdd s = _
  unfold execFwdAdd
  refine live_next hon ?_ rfl
  simp only [State.hostTurn_empty hq]
  rw [← State.hostGranted]
  simp only [hfind', Option.isSome_some, if_true]

/-- DELETE of a key on chip removes it there (R231). -/
theorem exec_fwdDelete_chip {i : Nat} {e : FwdEnt}
    (hfind : s.findEntry (s.nat FwdOp.OP_FORM) (s.nat FwdOp.OP_KEY) = some (false, i, e)) :
    exec .fwdDelete s = .next ((s.hostGranted.delWay false i).result FwdOp.OP_CODE 0 rcOk) := by
  have hfind' : s.hostGranted.findEntry (s.hostGranted.nat FwdOp.OP_FORM) (s.hostGranted.nat FwdOp.OP_KEY) = some (false, i, e) := hfind
  change execFwdDelete s = _
  unfold execFwdDelete
  refine live_next hon ?_ rfl
  simp only [State.hostTurn_empty hq]
  rw [← State.hostGranted]
  simp only [hfind']

end

/-- FLUSH notes its location, and is refused while another runs (R231). -/
theorem exec_fwdFlush :
    (s.fwd.flush = none → exec .fwdFlush s = .next { s with
      out := .result 0x7100 6 0 0 :: s.out
      fwd := { s.fwd with flush := some (s.nat FwdOp.OP_LOC_TYPE, s.nat FwdOp.OP_DEST) } }) ∧
    (s.fwd.flush ≠ none → exec .fwdFlush s = .next { s with out := .result 0x7100 6 0 rcBusy :: s.out }) := by
  change (_ → execFwdFlush s = _) ∧ (_ → execFwdFlush s = _)
  unfold execFwdFlush
  refine ⟨fun hnone => live_next hon ?_ rfl, fun hsome => live_next hon ?_ rfl⟩
  · simp only [hnone]
    rfl
  · obtain ⟨x, hx⟩ := Option.ne_none_iff_exists'.mp hsome
    simp only [hx]
    rfl

/-- A FLUSH has removed the dynamic entries of its location from both tables (R231). -/
theorem exec_fwdFlushComplete_removes {lt d : Nat} (hflush : s.fwd.flush = some (lt, d)) :
    exec .fwdFlushComplete s = .next (s.flushed lt d) := by
  change execFwdFlushComplete s = _
  unfold execFwdFlushComplete
  refine live_next hon ?_ rfl
  simp only [hflush]
  rfl

/-- A record whose FORM and KEY no other valid record holds becomes valid (R211). -/
theorem exec_assocCommit_unique {r : Nat} (hunique : ∀ e ∈ s.od, e.1.index = 0xA600 → e.1.sub = 6 → e.2 = 1 → e.1.recNo ≠ r →
      s.rget Assoc.FORM e.1.recNo ≠ s.rget Assoc.FORM r ∨ s.rget Assoc.KEY e.1.recNo ≠ s.rget Assoc.KEY r) :
    exec (.assocCommit r) s = .next ((s.assocCommitted r).result Assoc.VALID r rcOk) := by
  have htwin : s.assocTwin r = false := by
    simp only [State.assocTwin, List.any_eq_false, List.mem_filterMap, Option.ite_none_right_eq_some, Option.some.injEq,
      Bool.and_eq_true, bne_iff_ne, beq_iff_eq]
    rintro q ⟨e, he, ⟨hindex, hsub, hvalid⟩, rfl⟩ ⟨⟨hne, hform⟩, hkey⟩
    exact (hunique e he hindex hsub hvalid hne).elim (fun h => h hform) (fun h => h hkey)
  change execAssocCommit r s = _
  unfold execAssocCommit
  refine live_next hon ?_ rfl
  exact if_neg (Bool.eq_false_iff.mp htwin)

theorem exec_assocInvalidate (r : Nat) :
    exec (.assocInvalidate r) s = .next ((s.rput Assoc.VALID r 0).result Assoc.VALID r rcOk) := by
  change execAssocInvalidate r s = _
  exact live_next hon rfl rfl

end

/-- Settles O29: each command answers the state that its operation of chapter 8 makes; what it changes and what it leaves follows from
the rules of the tables, the ring and the objects. -/
theorem forwardingTable : Obligations.ForwardingTable := by
  refine ⟨fun s k rest i j hon hk hfar hway hfree => exec_promotionComplete_moves hon hk hfar hway hfree,
    fun s n m i hon hq hh hnone hw => exec_learnMessage_new hon hq hh hnone hw,
    fun s n m i e hon hq hh hfind hs hquar ht hd => exec_learnMessage_same hon hq hh hfind hs hquar ht hd,
    fun s n m hon hq hh hroom hne => ?_,
    fun s form key i e hon hfind hquar hend => ⟨_, exec_quarantineExpiry_ended hon hfind hquar hend, Tab.find?_del_self _ _, rfl,
      State.setWays_sameBut _ _ false⟩,
    fun s f loc key timeNs hon htwin hgood hroom => ⟨_, exec_learnFrameRx_good hon htwin hgood hroom, State.sendLearn_learn hroom,
      State.sendLearn_pipes hroom⟩,
    fun s f loc key timeNs hon htwin hbad => exec_learnFrameRx_bad hon htwin hbad,
    fun s hon hdue hidle htrim => ⟨_, exec_agingPassStart_trim hon hdue hidle htrim, rfl, rfl, rfl, rfl, rfl,
      State.counted_congr (State.setWays_counted s.passStarted _ false _ (by decide)) rfl rfl⟩,
    fun s hon hpass => ?_,
    fun s far i e hon hfind => ⟨_, exec_fwdFind_found hon hfind, (State.result_nat _ _ _ _ _).trans (s.tellEntry_found far e),
      (State.result_get _ _ _ _ _).trans (s.tellEntry_flags far e), (State.result_get _ _ _ _ _).trans (s.tellEntry_locType far e),
      (State.result_get _ _ _ _ _).trans (s.tellEntry_dest far e), (State.result_flag _ _ _ _ _).trans (s.tellEntry_static far e),
      rfl, rfl⟩,
    fun s i hon hnone hq hw => ⟨_, exec_fwdAdd_new hon hq hnone hw, Tab.find?_ins_self _ _ _, rfl, State.setWays_sameBut _ _ false⟩,
    fun s x hon hfind hq => ⟨_, exec_fwdAdd_known hon hq hfind, rfl, Tab.getD_ins_self _ _ _ _, rfl⟩,
    fun s i e hon hfind hq => ⟨_, exec_fwdDelete_chip hon hq hfind, Tab.find?_del_self _ _, rfl, rfl, State.setWays_sameBut _ _ false⟩,
    fun s hon => exec_fwdFlush hon,
    fun s lt d hon hflush => ⟨_, exec_fwdFlushComplete_removes hon hflush, rfl, rfl, rfl, s.flushed_onchip lt d,
      s.flushed_sameBut lt d⟩,
    fun s r hon hunique => ⟨_, exec_assocCommit_unique hon hunique, s.assocCommitted_valid r, rfl, s.assocCommitted_sameBut r⟩,
    fun s r hon => ⟨_, exec_assocInvalidate hon r, State.rput_valid_rflag s r false, rfl, State.rput_sameBut s Assoc.VALID r 0⟩⟩
  · obtain ⟨t, hexec, hleft, hnext, hframe⟩ := exec_learnMessage_away hon hq hh hroom hne
    refine ⟨t, hexec, hleft, ?_, ?_, hframe⟩
    · rw [hnext, List.length_append, List.length_singleton]
    · rw [hnext, List.getLast?_concat]
      rfl
  · obtain ⟨flags, hexec⟩ := exec_agingPassEnd_ends hon hpass
    exact ⟨_, hexec, rfl, s.passEnded_lastPass flags, s.passEnded_late flags, rfl, rfl, s.passEnded_sameBut flags⟩

end Sys2Proof.Machine
end
